-- ==== Sys2Proof/Word.lean ====
section
/-! DEFINITION. The plainest types of the module: bytes, 64-bit lane registers and byte strings. Numbers that the manual
counts with (ticks, lengths, offsets, addresses) are natural numbers; bit vectors hold what it treats as bits. -/

namespace Sys2Proof

/-- One byte of a packet, an image, a record or a memory. -/
abbrev Byte := BitVec 8

/-- A string of bytes, first byte first. -/
abbrev Bytes := List Byte

/-- One lane register (R171): 64 bits. -/
abbrev Word64 := BitVec 64

end Sys2Proof
end

