-- ==== Sys2Proof/Syntax.lean ====
section
/-! DEFINITION. The commands of the block: one constructor of `Instr` for every row of spec/opcode_table.json, with the
operands that the row's event or instruction carries (the table gives no operand and no bits: the operands are what the rule
of the row names). The small types the operands use stand first. -/

namespace Sys2Proof

/-- Where a CLP packet comes from (Table 2-7). -/
inductive Iface where
  | portA | portB | usb
  deriving DecidableEq, Repr

/-- A field-network port. -/
inductive NetPort where
  | a | b
  deriving DecidableEq, Repr

/-- A barrier-link group (Table 0-4). -/
inductive Group where
  | a | b | c
  deriving DecidableEq, Repr

/-- A cycle class (Table 4-2). -/
inductive CClass where
  | q | f | m | s | l
  deriving DecidableEq, Repr

/-- Reset levels (R407). -/
inductive ResetLevel where
  | c | w | s | p
  deriving DecidableEq, Repr

/-- Reset sources, in the bit order of Table 15-2. -/
inductive ResetSource where
  | por | pin | watchdog | canary | request | clkFail | lockstep | fence | debug
  deriving DecidableEq, Repr

/-- Who sent a request and how: the interface, the source node, the IPv4 address and UDP port it came from, its SEQUENCE, and
the key slot and encryption it was authenticated with (R73). -/
structure Req where
  iface : Iface
  source : Nat
  seq : Nat
  ip : Nat
  port : Nat
  /-- IPv4 address to which it was sent (R255). -/
  toIp : Nat
  /-- Destination node of the request, which the response carries as its SOURCE (R73). -/
  dest : Nat
  auth : Option Nat
  encrypt : Bool
  /-- Whether MRAM takes a PERSISTENT value (step 8 of Table 2-3), and NOR reads back a segment as written (R159). -/
  stores : Bool
  /-- The firmware fails while it executes the request (INTERNAL, Table 3-6). -/
  fails : Bool
  deriving DecidableEq, Repr

/-- What the full scan compares (R134). -/
inductive ScanItem where
  | loomTables | clockGates | laneConfiguration | eccSyndromes | scrubProgress
  deriving DecidableEq, Repr

/-- A word of the full scan: its item and place, and what stands in the die. -/
structure ScanWord where
  item : ScanItem
  place : Nat
  found : Nat
  deriving DecidableEq, Repr

/-- What the Canary measures of a tick (Table 4-7): the interval between edges in ns on its own clock, the offsets at which capture and
staging completed, whether BODY_CRC of the wefts has been computed, the Loom transfer counts that it observed (FROM_PORT, TO_PORT, count), the
setting found in force (MHz, mV), and the words that its share of the full scan reads. -/
structure CanaryMeasure where
  interval : Nat
  capture : Option Nat
  bodyCrc : Bool
  loom : List (Nat × Nat × Nat)
  staging : Option Nat
  setting : Nat × Nat
  scan : List ScanWord
  deriving DecidableEq, Repr

/-- State of a loop's configuration slot in the table RAM when it is read (R228, Table 8-6). -/
inductive TableRam where
  | good | corrected | uncorrectable
  deriving DecidableEq, Repr

/-- A loop test with the parameters in force at its acceptance (R248). -/
structure LoopTest where
  loop : Nat
  mode : Nat
  target : Nat
  amplitude : Nat
  period : Nat
  duration : Nat
  seed : Nat
  decimation : Nat
  deriving DecidableEq, Repr

/-- What travels with a mirrored weft beside its bytes: the dictionary writes that it carries (R58), station commands (R20), profile
changes (R27), activations and their outcome (R166, R167), and the loop tests whose parameters a standby needs (R248, R251): `begun` is the first
cut-off of a test that runs already, for a partner that joins. -/
inductive WeftItem where
  | write (addr : Nat) (value : List Byte)
  | command (code tick : Nat)
  | profile (profile tick : Nat)
  | activate (target tick : Nat)
  | cancelActivation
  | outcome (proceeds : Bool)
  | test (test : LoopTest) (begun : Option Nat)
  deriving DecidableEq, Repr

/-- A frame received on the field network: the port, the source MAC address, its redundancy control trailer (LAN, sequence) and the
time since the last edge in ns. -/
structure NetRx where
  port : NetPort
  mac : Nat
  rct : Option (Nat × Nat)
  /-- VLAN ID of a tagged frame. -/
  vlan : Option Nat
  ns : Nat
  deriving DecidableEq, Repr

/-- Where an ARP or ICMP frame came in: a network port, or the USB service port (R64, R66) from a MAC address at a local offset of the tick in ns. -/
inductive IpOrigin where
  | net (rx : NetRx)
  | usb (mac ns : Nat)
  deriving DecidableEq, Repr

/-- What a frame of the network carries: a UDP datagram, a supervision frame of PRP (R287), or a PTP message or option outside Table 10-1
(R292): Management, Signaling, a security TLV. -/
inductive NetFrameKind where
  | udp | supervision | otherPtp
  deriving DecidableEq, Repr

/-- A frame with a UDP datagram (Table 3-1): where it came in, whether it is a fragment or uses an excluded feature (R65), its IPv4 addresses and UDP ports, the UDP payload, and whether what it asks to be stored is stored (`Req.stores`). `rx.port` stands
for nothing over USB. A supervision frame and an unsupported PTP message come the same way, without a datagram. -/
structure Datagram where
  usb : Bool
  kind : NetFrameKind
  rx : NetRx
  excluded : Bool
  srcIp : Nat
  dstIp : Nat
  srcPort : Nat
  dstPort : Nat
  /-- Checksum of the UDP header as received (R65). -/
  checksum : Nat
  data : List Byte
  stores : Bool
  fails : Bool
  deriving DecidableEq, Repr

/-- A received PTP event or general message (R292): the fields of its header and the time stamp of its body, with the local stamp of
its reception. `corr` is correctionField, in units of 2⁻¹⁶ ns; `logInterval` is logMessageInterval; `source` and `requesting` are
port identities of 10 bytes. -/
structure PtpMsg where
  /-- VLAN ID of a tagged frame; whether it came over UDP/IPv4, or Layer 2. -/
  vlan : Option Nat
  udp : Bool
  domain : Nat
  twoStep : Bool
  source : BitVec 80
  seq : BitVec 16
  corr : Int
  logInterval : Int
  seconds : BitVec 48
  nanos : BitVec 32
  requesting : BitVec 80
  /-- Time-unit time at which the message was stamped on reception, in ns. -/
  rxNs : Nat
  deriving DecidableEq, Repr

/-- A received Announce (R294). -/
structure PtpAnnounce where
  vlan : Option Nat
  udp : Bool
  domain : Nat
  source : BitVec 80
  timescale : Bool
  utcOffset : BitVec 16
  priority1 : BitVec 8
  clockClass : BitVec 8
  accuracy : BitVec 8
  variance : BitVec 16
  priority2 : BitVec 8
  grandmaster : BitVec 64
  stepsRemoved : BitVec 16
  deriving DecidableEq, Repr

/-- What the PTP clock sends at an interval of its own. -/
inductive PtpSend where
  | delay | sync | announce
  deriving DecidableEq, Repr

/-- A CAN data frame: IDENT in the form of Table 11-2, DLC, ESI, data field, and the SOF stamp in TAI ns. -/
structure CanFrame where
  ident : BitVec 32
  dlc : Fin 16
  esi : Bool
  data : List Byte
  sofNs : Nat
  deriving DecidableEq, Repr

/-- What a channel receives: a validated data frame, a remote frame, a recessive res bit (R315), an error before or in the data phase (R332), where
`dominant` says that the first bit behind the channel's own error flag was dominant, or a bit error while it sends an active error flag or an
overload flag, each further run of 8 dominant bits behind one included (ISO 11898-1). -/
inductive CanRx where
  | frame (f : CanFrame)
  | remote | protocolException
  | error (inData dominant : Bool)
  | flagError
  deriving DecidableEq, Repr

/-- Why a transmission fails, as far as the transmit error counter asks (ISO 11898-1): for want of an acknowledgement alone, with no dominant bit
during the error flag; by a stuff error in arbitration on a recessive stuff bit read dominant; or otherwise. -/
inductive TxFailure where
  | error | noAck | arbitrationStuff
  deriving DecidableEq, Repr

/-- What becomes of a transmit frame (R326): its SOF is sent, it completes, loses arbitration, or fails; or a bit error while the channel sends an
active error flag or an overload flag as transmitter, each further run of 8 dominant bits behind one included (ISO 11898-1). -/
inductive CanTxEvent where
  | started (sofNs : Nat)
  | sent | lost
  | failed (why : TxFailure)
  | flagError
  deriving DecidableEq, Repr

/-- How RESET_N asserts: while a pulse runs that holds it back (R416), and, where it wakes, with the record of the backup domain not good. -/
structure PinAssert where
  pulse : Bool
  recordBad : Bool
  deriving DecidableEq, Repr

/-- What a sleeping channel sees (R333). -/
inductive CanWakeEvent where
  | dominant
  | frame (f : CanFrame)
  | decodeError
  deriving DecidableEq, Repr

/-- The same, with the record of the backup domain not good. -/
structure CanWaking where
  event : CanWakeEvent
  recordBad : Bool
  deriving DecidableEq, Repr

/-- What the field side of a group measures as it latches an edge: its supply, and in group A the DO outputs above 12 V, the DO and VS
currents in mA and the DI currents in µA, in group B the raw mean AI currents (F32, mA; filtered where AiHart is true), the AI
supplies whose limiter regulates, the AO sense currents (F32, mA, corrected), the compliance supplies in mV and the field-side temperature
(F32, °C). -/
structure FieldMeasure where
  supplyMv : BitVec 16
  doAbove : BitVec 24
  doCurrent : List (BitVec 16)
  diCurrent : List (BitVec 16)
  vsCurrent : List (BitVec 16)
  aiRaw : List (BitVec 32)
  aiLimiting : BitVec 8
  aoCurrent : List (BitVec 32)
  aoSupply : List (BitVec 16)
  temperature : BitVec 32
  deriving DecidableEq, Repr

/-- An output of group A that its current limit can turn off (R350, R352): a DO, or a sensor supply. -/
inductive FieldLoad where
  | dout (n : Fin 24)
  | vs (k : Fin 4)
  deriving DecidableEq, Repr

/-- An overload or a retry of a load, with the instant in ns of the first sample of the new state (R348). -/
structure LoadEvent where
  load : FieldLoad
  firstNs : Nat
  deriving DecidableEq, Repr

/-- A change of a group's field supply, with the instant in ns of the first sample of the new state (R348). -/
structure SupplyEvent where
  group : Group
  firstNs : Nat
  deriving DecidableEq, Repr

/-- A HART message a modem decodes (R373, R374): a response or a burst, with its data bytes. -/
structure HartReply where
  burst : Bool
  command : BitVec 8
  responseCode : BitVec 8
  deviceStatus : BitVec 8
  data : List Byte
  deriving DecidableEq, Repr

/-- A check of Table 14-10 with what the Canary measures for it: the scan period in ns; the program-flow signature found; island time and
Canary time over one interval, in ns; the frame period of link C in ns, and whether its CRC was generated right; the readback of the switches of
an output; the digest found for the set in force; the memory test with its outcome and the length of its cycle in ms. -/
inductive IslandCheck where
  | scanPeriod (ns : Nat)
  | programFlow (found : BitVec 32)
  | clock (islandNs canaryNs : Nat)
  | linkC (periodNs : Nat) (crcGood : Bool)
  | readback (output : Fin 4) (high low : Bool)
  | setDigest (found : List Byte)
  | memory (good : Bool) (cycleMs : Nat)
  deriving DecidableEq, Repr

/-- What the exit sequence finds as an episode closes: the time since the last command in ns; the LRC's stop flag, and the bytes of backup RAM
that read otherwise than they were written (R430, R470); whether the fuse-map digest differs (step 3); and what copies A and B of the
option record read as, where that is not what was written (R425). -/
structure ExitFacts where
  ns : Nat
  lrcStopped : Bool
  backup : List (BitVec 8 × Byte)
  fuseMismatch : Bool
  optionA : Option (List Byte)
  optionB : Option (List Byte)
  deriving DecidableEq, Repr

/-- What step 11 finds: the time since the close in ns, the ADDR contacts and ROLE (R516), the stored values whose CRC fails (R49), and whether the
wrap key fails its fuse parity (R499). -/
structure BootFacts where
  ns : Nat
  addr : BitVec 8
  roleHigh : Bool
  damaged : List (BitVec 32)
  wrapBad : Bool
  deriving DecidableEq, Repr

/-- Wake sources of LAYUP beside CAN and RESET_N (R23). -/
inductive WakeSource where
  | usbVbus | door | rtcAlarm
  deriving DecidableEq, Repr

/-- A PLL (Table 16-1). -/
inductive Pll where
  | sys | net | seam | conv
  deriving DecidableEq, Repr

/-- An operation of two pulses that a reset can stop between them (R416): the newest tally record and its seal, or the newest option write. -/
inductive TwoPulses where
  | tally | option
  deriving DecidableEq, Repr

/-- How an asserted source takes hold (R416): a pulse had kept it waiting; and the operation that it has stopped between its pulses. -/
structure HoldFacts where
  delayed : Bool
  stopped : Option TwoPulses
  deriving DecidableEq, Repr

/-- A check of the clock monitor that trips (Table 16-2); `convHang`: the CONV PLL's, during a switch of the converter domain's or the
HART domain's multiplexer, which then hangs (R442, Table 16-8). -/
inductive ClockTrip where
  | xoStop | xoFrequency | root
  | pll (p : Pll)
  | convHang (converter hart : Bool)
  deriving DecidableEq, Repr

/-- What completes its stability count (R438); `stopped`: the present clock of the domains that are to switch to the PLL has stopped (R441,
R442). -/
inductive ClockLock where
  | xo
  | pll (p : Pll) (stopped : Bool)
  deriving DecidableEq, Repr

/-- What a DMA beat can meet in the hardware: a corrected or an uncorrectable LPDDR4X read (R468), or an error response (Table 17-7). -/
inductive DmaFaultKind where
  | corrected | ecc | response
  deriving DecidableEq, Repr

/-- What calls for a redraw (R488): region `region` + 1 of Table 18-4, whether only the time in it has changed, and whether the panel is below 0 °C
(R487). -/
structure RedrawCall where
  region : Fin 5
  timeOnly : Bool
  cold : Bool
  deriving DecidableEq, Repr

/-- What an update starts from (R489): the frame with the regions' content as it is now, and whether the frame memory has been upset,
so that its CRC fails; and whether the panel is below 0 °C (R487). -/
structure FaceDrawing where
  content : List Byte
  upset : Bool
  cold : Bool
  deriving DecidableEq, Repr

/-- A fault at a beat of a descriptor of a list. -/
structure DmaFault where
  desc : BitVec 16
  beat : BitVec 20
  kind : DmaFaultKind
  deriving DecidableEq, Repr

/-- A device that paces transfers of a host channel (R466). -/
inductive HostDevice where
  | usb | clp | nor | mram | faceplate
  deriving DecidableEq, Repr

/-- A device's request line: the engine on whose host channel it asks. -/
structure HostLine where
  engine : Fin 4
  device : HostDevice
  deriving DecidableEq, Repr

/-- Errors corrected in LPDDR4X (R468): found by a pass of the scrubber that has ended, or by a host core as it reads. -/
structure DramErrors where
  pass : Bool
  corrected : BitVec 32
  deriving DecidableEq, Repr

/-- The debug contacts of Table 20-1 at a reset: DBG_EN, and whether the reset comes from DBG_RST_N or from a DBG_IO command (R414). -/
structure DebugPins where
  enabled : Bool
  pin : Bool
  deriving DecidableEq, Repr

/-- The commands of the block, in the order of spec/opcode_table.json; the rule of each row stands in its docstring. -/
inductive Instr where
  /-- LOGIC_SUPPLY_RISE (R413). The supply supervisor releases P. -/
  | logicSupplyRise
  /-- LOGIC_SUPPLY_LOSS (R413). The supply supervisor asserts P; `pulse`: an MRAM or fuse pulse is running, so P takes hold by SOURCE_TAKES_HOLD. -/
  | logicSupplyLoss (pulse : Bool)
  /-- FEED_LOSS (R529). One logic feed is lost while the other stands. -/
  | feedLoss
  /-- RESET_PIN_ASSERT (R412). RESET_N is taken as asserted; `pulse` as for LOGIC_SUPPLY_LOSS. -/
  | resetPinAssert (pin : PinAssert)
  /-- RESET_PIN_RELEASE (R412). RESET_N is taken as released. -/
  | resetPinRelease
  /-- WATCHDOG_EXPIRY (R410). The host watchdog expires; `pulse` as for LOGIC_SUPPLY_LOSS. -/
  | watchdogExpiry (pulse : Bool)
  /-- DEBUG_RESET (R414). DBG_RST_N, or a DBG_IO command that names `level`; `pulse` as for LOGIC_SUPPLY_LOSS. -/
  | debugReset (port : DebugPins) (level : ResetLevel) (pulse : Bool)
  /-- SOURCE_TAKES_HOLD (R416). An asserted source takes hold. -/
  | sourceTakesHold (src : ResetSource) (how : HoldFacts)
  /-- INTERNAL_SOURCE_RELEASE (R411). 5 ms have passed since an internal source took hold. -/
  | internalSourceRelease (src : ResetSource)
  /-- EPISODE_CLOSE (R420). Every source has released. -/
  | episodeClose (f : ExitFacts)
  /-- BOOT_COMPLETE (R21). Step 11 ends. -/
  | bootComplete (f : BootFacts)
  /-- HOLD_ENTERED (R21). A HOLD cause of Table 1-8 occurs. -/
  | holdEntered (cause : BitVec 16)
  /-- OVERTEMP (R523). The die has been above 115 °C for 10 ticks. -/
  | overtemp
  /-- WAKE (R422). An enabled wake source is asserted; `recordBad`: the state recorded at LAYUP fails its CRC. -/
  | wake (src : WakeSource) (recordBad : Bool)
  /-- LOAD (R21). A write of 0x01 to StationCommand. -/
  | load (req : Req)
  /-- UNLOAD (R21). A write of 0x02 to StationCommand. -/
  | unload (req : Req)
  /-- START (R19). A write of 0x03 to StationCommand. -/
  | start (req : Req)
  /-- STOP (R19). A write of 0x04 to StationCommand. -/
  | stop (req : Req)
  /-- HANDOVER (R19). A write of 0x05 to StationCommand. -/
  | handover (req : Req)
  /-- LAYUP (R21). A write of 0x06 to StationCommand. -/
  | layup (req : Req)
  /-- AUTOMATIC_START (R103). The time unit has locked, or LockWait has elapsed since READY was entered. -/
  | automaticStart
  /-- START_BOUNDARY (R128). The boundary of a pending START comes. -/
  | startBoundary
  /-- STOP_BOUNDARY (R129). The boundary of a pending STOP comes. -/
  | stopBoundary
  /-- HANDOVER_BOUNDARY (R286). The boundary of a pending HANDOVER comes. -/
  | handoverBoundary
  /-- PROFILE_WRITE (R27). A write to Profile. -/
  | profileWrite (req : Req) (value : BitVec 8)
  /-- PROFILE_CHANGE (R27). The boundary of a profile change comes. -/
  | profileChange
  /-- RESET_REQUEST (R55). A write to ResetRequest. -/
  | resetRequest (req : Req) (value : BitVec 8)
  /-- RESTORE_COMMAND (R51). A write to RestoreCommand. -/
  | restoreCommand (req : Req) (value : BitVec 32)
  /-- RESTORE_DONE (R51). The running restore completes, within 2 s of its command. -/
  | restoreDone
  /-- RESET_CAUSE_CLEAR (R431). A write to ResetCauseClear. -/
  | resetCauseClear (req : Req) (value : BitVec 16)
  /-- OBJECT_WRITE (R45). A write to the object at an address (index in [31:8], subindex in [7:0]). -/
  | objectWrite (req : Req) (addr : BitVec 32) (value : List Byte)
  /-- CLP_PACKET_RECEIVE (R72). A UDP datagram arrives on the field network or over USB, or a PRP supervision frame on the field network. -/
  | clpPacketReceive (d : Datagram)
  /-- IDENTIFY (R85). An IDENTIFY request is executed. -/
  | identify (req : Req)
  /-- READ (R82). A READ request is executed. -/
  | read (req : Req) (addr : BitVec 32)
  /-- WRITE (R82). A WRITE request is executed. -/
  | write (req : Req) (addr : BitVec 32) (value : List Byte)
  /-- READ_MULTI (R83). A READ_MULTI request is executed. -/
  | readMulti (req : Req) (addrs : List (BitVec 32))
  /-- WRITE_MULTI (R47). A WRITE_MULTI request is executed. -/
  | writeMulti (req : Req) (items : List (BitVec 32 × List Byte))
  /-- DOMAIN_WRITE_BEGIN (R84). A DOMAIN_WRITE_BEGIN request is executed. -/
  | domainWriteBegin (req : Req) (addr total crc : BitVec 32)
  /-- DOMAIN_WRITE_SEGMENT (R84). A DOMAIN_WRITE_SEGMENT request is executed. -/
  | domainWriteSegment (req : Req) (id : BitVec 16) (offset : BitVec 32) (data : List Byte)
  /-- DOMAIN_WRITE_END (R84). A DOMAIN_WRITE_END request is executed. -/
  | domainWriteEnd (req : Req) (id : BitVec 16)
  /-- DOMAIN_READ_BEGIN (R84). A DOMAIN_READ_BEGIN request is executed. -/
  | domainReadBegin (req : Req) (addr : BitVec 32)
  /-- DOMAIN_READ_SEGMENT (R84). A DOMAIN_READ_SEGMENT request is executed. -/
  | domainReadSegment (req : Req) (id : BitVec 16) (offset length : BitVec 32)
  /-- DOMAIN_ABORT (R84). A DOMAIN_ABORT request is executed. -/
  | domainAbort (req : Req) (id : BitVec 16)
  /-- DOMAIN_STATUS (R84). A DOMAIN_STATUS request is executed. -/
  | domainStatus (req : Req) (id : BitVec 16)
  /-- TRANSFER_EXPIRY (R84). 60 s have passed without a command for an open transfer. -/
  | transferExpiry (id : BitVec 16)
  /-- SEQUENCE_RECORD_EXPIRY (R75). 10 s have passed without a request from a source. -/
  | sequenceRecordExpiry (source : BitVec 16)
  /-- PD (R86). A PD packet has passed steps 1 to 10 at the PD port. -/
  | pd (source : BitVec 16) (ip : Nat) (auth : Option Nat) (encrypt : Bool) (seq : BitVec 16) (payload : List Byte)
  /-- PD_TRANSMIT (R89). The planned start of a transmitted layout, by its ordinal, comes. -/
  | pdTransmit (layout : BitVec 16)
  /-- SUBSCRIBE (R90). A SUBSCRIBE request is executed. -/
  | subscribe (req : Req) (number : BitVec 8) (first last : BitVec 16) (start : BitVec 64)
  /-- UNSUBSCRIBE (R90). An UNSUBSCRIBE request is executed. -/
  | unsubscribe (req : Req) (number : BitVec 8)
  /-- EVENT (R91). Within 10 ms of a matching record: a subscription's records are sent. -/
  | event (number : BitVec 8)
  /-- EVENT_RESEND (R91). 1 s has passed with records of a subscription unconfirmed. -/
  | eventResend (number : BitVec 8)
  /-- EVENT_ACK (R91). An EVENT_ACK is executed. -/
  | eventAck (req : Req) (number : BitVec 8) (highest : BitVec 64)
  /-- SUBSCRIPTION_LAPSE (R92). 30 s have passed without a renewal or an EVENT_ACK. -/
  | subscriptionLapse (number : BitVec 8)
  /-- RESET (R85). A RESET request is executed. -/
  | reset (req : Req) (level : BitVec 8)
  /-- ARP_REQUEST (R65). An ARP request arrives. -/
  | arpRequest (rx : IpOrigin) (senderIp targetIp : Nat)
  /-- ARP_REFRESH (R99). 60 s have passed for a PD destination; `mac` is the reply. -/
  | arpRefresh (ip : Nat) (mac : Option Nat)
  /-- ICMP_ECHO (R65). An ICMP echo request arrives. -/
  | icmpEcho (rx : IpOrigin) (srcIp dstIp : Nat) (data : List Byte)
  /-- IGMP_QUERY (R65). An IGMP general query arrives. -/
  | igmpQuery (rx : NetRx)
  /-- PORT_LINK_UP (R143). A port negotiates a link at `rate` Mbit/s. -/
  | portLinkUp (port : NetPort) (rate : Nat)
  /-- PATH_LOST (R288). The path of a port is lost: 1 link down, 2 PathTimeout, 3 rate below SLOWEST_RATE. -/
  | pathLost (port : NetPort) (cause : Fin 4)
  /-- PATH_RESTORED (R288). The path of a port recovers. -/
  | pathRestored (port : NetPort)
  /-- PRP_SUPERVISION (R287). 2 s have passed since the last supervision frame. -/
  | prpSupervision
  /-- TICK_EDGE (R116). The next tick edge comes. -/
  | tickEdge
  /-- SOURCE_STALE (R123). The stale count of a source reaches its tolerance. -/
  | sourceStale (entry : BitVec 16)
  /-- SHELVE_EXPIRY (R223). The EXPIRY of a shelved group is reached. -/
  | shelveExpiry (group : BitVec 12)
  /-- GAP_WEFT (R261). 28 µs after the edge. -/
  | gapWeft
  /-- EXECUTION_START (R112). The execution window opens at 30 µs. -/
  | executionStart
  /-- NOP (R178). No operation. -/
  | laneNop (l : Fin 4)
  /-- END (R171). Retire the program. -/
  | laneEnd (l : Fin 4)
  /-- WAIT (R188). Wait for the tags in `mask`; `d` takes the error bits at the release. -/
  | laneWait (l : Fin 4) (d : Fin 512) (mask : BitVec 32)
  /-- WAIT_RELEASE (R192). The WAIT of lane `l` releases. -/
  | waitRelease (l : Fin 4)
  /-- WEFT (R183). Weft header address of the class's current cycle. -/
  | laneWeft (l : Fin 4) (d : Fin 512) (cls : CClass)
  /-- COMMIT (R184). Close the class's output buffer. -/
  | laneCommit (l : Fin 4) (cls : CClass)
  /-- SHUT (R185). Activate a shuttle on `count` loops from w[a][11:0]. -/
  | laneShut (l : Fin 4) (a : Fin 512) (unit : Fin 16) (tag : Fin 32) (count : BitVec 28)
  /-- TROM (R186). Start a trommel pass over `count` points from w[a][17:0]. -/
  | laneTrom (l : Fin 4) (a : Fin 512) (tag : Fin 32) (count : BitVec 28)
  /-- DMAI (R187). Issue DMA list `list`. -/
  | laneDmai (l : Fin 4) (tag : Fin 32) (list : BitVec 28)
  /-- CONSTL (R178). w[d] = imm. -/
  | laneConstl (l : Fin 4) (d : Fin 512) (imm : BitVec 32)
  /-- CONSTH (R178). w[d][63:32] = imm. -/
  | laneConsth (l : Fin 4) (d : Fin 512) (imm : BitVec 32)
  /-- MOV (R178). w[d] = w[a]. -/
  | laneMov (l : Fin 4) (d a : Fin 512)
  /-- ADDI (R178). w[d] = w[a] + signed imm. -/
  | laneAddi (l : Fin 4) (d a : Fin 512) (imm : BitVec 38)
  /-- EXT (R178). Extract `width1` + 1 bits at `lsb`. -/
  | laneExt (l : Fin 4) (d a : Fin 512) (lsb width1 : BitVec 6)
  /-- INS (R178). Insert `width1` + 1 bits at `lsb`. -/
  | laneIns (l : Fin 4) (d a : Fin 512) (lsb width1 : BitVec 6)
  /-- ADD_32 (R179). 32-bit sum. -/
  | laneAdd32 (l : Fin 4) (d a b : Fin 512)
  /-- SUB_32 (R179). 32-bit difference. -/
  | laneSub32 (l : Fin 4) (d a b : Fin 512)
  /-- MUL_32 (R179). 32-bit low half of the product. -/
  | laneMul32 (l : Fin 4) (d a b : Fin 512)
  /-- DIVS_32 (R179). 32-bit signed quotient. -/
  | laneDivs32 (l : Fin 4) (d a b : Fin 512)
  /-- DIVU_32 (R179). 32-bit unsigned quotient. -/
  | laneDivu32 (l : Fin 4) (d a b : Fin 512)
  /-- ADD_64 (R179). 64-bit sum. -/
  | laneAdd64 (l : Fin 4) (d a b : Fin 512)
  /-- SUB_64 (R179). 64-bit difference. -/
  | laneSub64 (l : Fin 4) (d a b : Fin 512)
  /-- MUL_64 (R179). 64-bit low half of the product. -/
  | laneMul64 (l : Fin 4) (d a b : Fin 512)
  /-- DIVS_64 (R179). 64-bit signed quotient. -/
  | laneDivs64 (l : Fin 4) (d a b : Fin 512)
  /-- DIVU_64 (R179). 64-bit unsigned quotient. -/
  | laneDivu64 (l : Fin 4) (d a b : Fin 512)
  /-- AND (R178). Bitwise. -/
  | laneAnd (l : Fin 4) (d a b : Fin 512)
  /-- OR (R178). Bitwise. -/
  | laneOr (l : Fin 4) (d a b : Fin 512)
  /-- XOR (R178). Bitwise. -/
  | laneXor (l : Fin 4) (d a b : Fin 512)
  /-- NOT (R178). Complement. -/
  | laneNot (l : Fin 4) (d a : Fin 512)
  /-- SHL (R178). On 64 bits. -/
  | laneShl (l : Fin 4) (d a b : Fin 512)
  /-- SHR (R178). On 64 bits. -/
  | laneShr (l : Fin 4) (d a b : Fin 512)
  /-- SAR (R178). On 64 bits. -/
  | laneSar (l : Fin 4) (d a b : Fin 512)
  /-- MINS (R178). On 64 bits. -/
  | laneMins (l : Fin 4) (d a b : Fin 512)
  /-- MAXS (R178). On 64 bits. -/
  | laneMaxs (l : Fin 4) (d a b : Fin 512)
  /-- SX_8 (R178). Sign extension of 8 bits. -/
  | laneSx8 (l : Fin 4) (d a : Fin 512)
  /-- SX_16 (R178). Sign extension of 16 bits. -/
  | laneSx16 (l : Fin 4) (d a : Fin 512)
  /-- SX_32 (R178). Sign extension of 32 bits. -/
  | laneSx32 (l : Fin 4) (d a : Fin 512)
  /-- CEQ (R178). 64-bit compare. -/
  | laneCeq (l : Fin 4) (d a b : Fin 512)
  /-- CNE (R178). 64-bit compare. -/
  | laneCne (l : Fin 4) (d a b : Fin 512)
  /-- CLTS (R178). 64-bit compare. -/
  | laneClts (l : Fin 4) (d a b : Fin 512)
  /-- CLTU (R178). 64-bit compare. -/
  | laneCltu (l : Fin 4) (d a b : Fin 512)
  /-- CLES (R178). 64-bit compare. -/
  | laneCles (l : Fin 4) (d a b : Fin 512)
  /-- CLEU (R178). 64-bit compare. -/
  | laneCleu (l : Fin 4) (d a b : Fin 512)
  /-- FCEQ_32 (R180). F32 compare. -/
  | laneFceq32 (l : Fin 4) (d a b : Fin 512)
  /-- FCLT_32 (R180). F32 compare. -/
  | laneFclt32 (l : Fin 4) (d a b : Fin 512)
  /-- FCLE_32 (R180). F32 compare. -/
  | laneFcle32 (l : Fin 4) (d a b : Fin 512)
  /-- FCUN_32 (R180). F32 compare. -/
  | laneFcun32 (l : Fin 4) (d a b : Fin 512)
  /-- FCEQ_64 (R180). F64 compare. -/
  | laneFceq64 (l : Fin 4) (d a b : Fin 512)
  /-- FCLT_64 (R180). F64 compare. -/
  | laneFclt64 (l : Fin 4) (d a b : Fin 512)
  /-- FCLE_64 (R180). F64 compare. -/
  | laneFcle64 (l : Fin 4) (d a b : Fin 512)
  /-- FCUN_64 (R180). F64 compare. -/
  | laneFcun64 (l : Fin 4) (d a b : Fin 512)
  /-- SEL (R178). w[d] = w[a] if w[c] is not 0, else w[b]. -/
  | laneSel (l : Fin 4) (d a b c : Fin 512)
  /-- BSEL (R178). Bitwise selection by w[c]. -/
  | laneBsel (l : Fin 4) (d a b c : Fin 512)
  /-- FADD_32 (R180). F32. -/
  | laneFadd32 (l : Fin 4) (d a b : Fin 512)
  /-- FSUB_32 (R180). F32. -/
  | laneFsub32 (l : Fin 4) (d a b : Fin 512)
  /-- FMUL_32 (R180). F32. -/
  | laneFmul32 (l : Fin 4) (d a b : Fin 512)
  /-- FDIV_32 (R180). F32. -/
  | laneFdiv32 (l : Fin 4) (d a b : Fin 512)
  /-- FSQRT_32 (R180). F32 square root. -/
  | laneFsqrt32 (l : Fin 4) (d a : Fin 512)
  /-- FMIN_32 (R180). F32. -/
  | laneFmin32 (l : Fin 4) (d a b : Fin 512)
  /-- FMAX_32 (R180). F32. -/
  | laneFmax32 (l : Fin 4) (d a b : Fin 512)
  /-- FABS_32 (R180). F32. -/
  | laneFabs32 (l : Fin 4) (d a : Fin 512)
  /-- FNEG_32 (R180). F32. -/
  | laneFneg32 (l : Fin 4) (d a : Fin 512)
  /-- CVT_F32_I32 (R182). Conversion. -/
  | laneCvtf32i32 (l : Fin 4) (d a : Fin 512)
  /-- CVT_I32_F32 (R182). Conversion. -/
  | laneCvti32f32 (l : Fin 4) (d a : Fin 512)
  /-- CVT_F64_F32 (R182). Conversion. -/
  | laneCvtf64f32 (l : Fin 4) (d a : Fin 512)
  /-- CVT_F32_F64 (R182). Conversion. -/
  | laneCvtf32f64 (l : Fin 4) (d a : Fin 512)
  /-- FADD_64 (R180). F64. -/
  | laneFadd64 (l : Fin 4) (d a b : Fin 512)
  /-- FSUB_64 (R180). F64. -/
  | laneFsub64 (l : Fin 4) (d a b : Fin 512)
  /-- FMUL_64 (R180). F64. -/
  | laneFmul64 (l : Fin 4) (d a b : Fin 512)
  /-- FDIV_64 (R180). F64. -/
  | laneFdiv64 (l : Fin 4) (d a b : Fin 512)
  /-- FSQRT_64 (R180). F64 square root. -/
  | laneFsqrt64 (l : Fin 4) (d a : Fin 512)
  /-- FMIN_64 (R180). F64. -/
  | laneFmin64 (l : Fin 4) (d a b : Fin 512)
  /-- FMAX_64 (R180). F64. -/
  | laneFmax64 (l : Fin 4) (d a b : Fin 512)
  /-- FABS_64 (R180). F64. -/
  | laneFabs64 (l : Fin 4) (d a : Fin 512)
  /-- FNEG_64 (R180). F64. -/
  | laneFneg64 (l : Fin 4) (d a : Fin 512)
  /-- CVT_F64_I64 (R182). Conversion. -/
  | laneCvtf64i64 (l : Fin 4) (d a : Fin 512)
  /-- CVT_I64_F64 (R182). Conversion. -/
  | laneCvti64f64 (l : Fin 4) (d a : Fin 512)
  /-- SCL_32 (R181). R181. -/
  | laneScl32 (l : Fin 4) (d a b : Fin 512)
  /-- CLAMP_32 (R181). R181. -/
  | laneClamp32 (l : Fin 4) (d a b : Fin 512)
  /-- FILT_32 (R181). R181. -/
  | laneFilt32 (l : Fin 4) (d a b : Fin 512)
  /-- RAMP_32 (R181). R181. -/
  | laneRamp32 (l : Fin 4) (d a b : Fin 512)
  /-- LD_8 (R173). Store load. -/
  | laneLd8 (l : Fin 4) (d a : Fin 512) (imm : BitVec 38)
  /-- LD_16 (R173). Store load. -/
  | laneLd16 (l : Fin 4) (d a : Fin 512) (imm : BitVec 38)
  /-- LD_32 (R173). Store load. -/
  | laneLd32 (l : Fin 4) (d a : Fin 512) (imm : BitVec 38)
  /-- LD_64 (R173). Store load. -/
  | laneLd64 (l : Fin 4) (d a : Fin 512) (imm : BitVec 38)
  /-- ST_8 (R173). Store store of w[d]. -/
  | laneSt8 (l : Fin 4) (d a : Fin 512) (imm : BitVec 38)
  /-- ST_16 (R173). Store store of w[d]. -/
  | laneSt16 (l : Fin 4) (d a : Fin 512) (imm : BitVec 38)
  /-- ST_32 (R173). Store store of w[d]. -/
  | laneSt32 (l : Fin 4) (d a : Fin 512) (imm : BitVec 38)
  /-- ST_64 (R173). Store store of w[d]. -/
  | laneSt64 (l : Fin 4) (d a : Fin 512) (imm : BitVec 38)
  /-- LDW (R178). Table 6-3. -/
  | laneLdw (l : Fin 4) (d a : Fin 512) (imm : BitVec 38)
  /-- STW (R178). Table 6-3. -/
  | laneStw (l : Fin 4) (d a : Fin 512) (imm : BitVec 38)
  /-- LDP (R175). Table 6-3. -/
  | laneLdp (l : Fin 4) (d a : Fin 512) (imm : BitVec 38)
  /-- STP (R175). Table 6-3. -/
  | laneStp (l : Fin 4) (d a : Fin 512) (imm : BitVec 38)
  /-- LOOP_EVALUATION (R234). One loop's 64 slots on a shuttle, with the state of its configuration slot. -/
  | loopEvaluation (shuttle : Fin 16) (ram : TableRam)
  /-- LOOP_LOST (R239). The loop's LOSS_COUNT has reached LOSS_TOLERANCE. -/
  | loopLost (loop : BitVec 12)
  /-- LOOP_FROZEN (R240). The loop's FRZ_COUNT has reached FREEZE_WINDOW. -/
  | loopFrozen (loop : BitVec 12)
  /-- TEST_MODE (R248). A write to TestMode of a loop. -/
  | testModeWrite (req : Req) (loop : BitVec 12) (mode : BitVec 8)
  /-- TEST_COMPLETE (R248). The loop's TEST_INDEX has reached TestDuration. -/
  | testComplete (loop : BitVec 12)
  /-- POINT_SCREEN (R205). The next point of the trommel's pass is screened. -/
  | pointScreen
  /-- ALARM_DELAY_EXPIRY (R215). Condition of a point, in the order of Table 7-9. -/
  | alarmDelayExpiry (point : BitVec 18) (condition : Fin 7)
  /-- DMA_LIST_START (R459). List `list` starts; `faults` are the errors that its beats will meet in the hardware. -/
  | dmaListStart (list : BitVec 16) (faults : List DmaFault)
  /-- DMA_LIST_COMPLETE (R461). The last record of list `list`. -/
  | dmaListComplete (list : BitVec 16)
  /-- DMA_RESPONSE_ERROR (R463). The late error response to a beat. -/
  | dmaResponseError (list desc : BitVec 16) (beat : BitVec 20)
  /-- DEVICE_REQUEST (R466). A device's request for a burst of `beats` + 1 beats on the engine's host channel, or its withdrawal. -/
  | deviceRequest (line : HostLine) (beats : Fin 16) (withdrawn : Bool)
  /-- LOCKSTEP_MISMATCH (R196). A mismatch in lane pair or shuttle pair `pair`. -/
  | lockstepMismatch (shuttle : Bool) (pair : Fin 8) (pairCycle : BitVec 32)
  /-- RE_EXECUTION (R196). The re-execution starts at pair cycle W. -/
  | reExecution
  /-- OUTPUT_STAGING (R125). 210 µs after the edge. -/
  | outputStaging
  /-- BARRIER_FRAME_SEND (R113). The logic side of a group (for C, the island) sends the frame of a slot; `room`: 32-byte units the seam has had free since the last one. -/
  | barrierFrameSend (group : Group) (slot : Fin 4) (room : Nat)
  /-- BARRIER_FRAME_RECEIVE (R338). The frame of a slot arrives: as the other side formed it, or the bytes `wire`. -/
  | barrierFrameReceive (toField : Bool) (group : Group) (slot : Fin 4) (wire : Option (List Byte))
  /-- FIELD_EDGE_APPLY (R340). The edge marker of the next tick reaches a field side. -/
  | fieldEdgeApply (group : Group) (m : FieldMeasure)
  /-- SILENCE_TIMEOUT (R342). SilenceTimeout has passed since the slot instant of the last valid frame. -/
  | silenceTimeout (group : Group)
  /-- GUARD (R112). 232 µs after the edge. -/
  | guard
  /-- CANARY_TICK_CHECK (R132). The end-of-tick checks, with what the Canary measured. -/
  | canaryTickCheck (m : CanaryMeasure)
  /-- SEAM_GUARD_CHECK (R270). 240 µs after the edge. -/
  | seamGuardCheck
  /-- SEAM_DECISION (R274). The decision at the second consecutive heartbeat miss. -/
  | seamDecision
  /-- TAKEOVER (R278). Edge h + 3 of a takeover comes. -/
  | takeover
  /-- AO_HOLD_END (R284). The first edge at or after h + 406.25 µs + T of a takeover comes. -/
  | aoHoldEnd
  /-- FENCE_IN (R276). FENCE_IN is asserted. -/
  | fenceIn
  /-- PARTNER_PRESENT_CHANGE (R272). PARTNER_PRESENT changes. -/
  | partnerPresentChange (asserted : Bool)
  /-- PRESENCE_FRAME_SEND (R271). 232 µs: the presence frame leaves on both ports. -/
  | presenceFrameSend
  /-- PRESENCE_FRAME_RECEIVE (R271). A presence frame arrives. -/
  | presenceFrameReceive (rx : NetRx) (payload : List Byte)
  /-- SEAM_UP (R257). The seam link reports UP after a training. -/
  | seamUp
  /-- SEAM_RETRAIN (R259). A frame is still undelivered after four sends. -/
  | seamRetrain
  /-- HELLO (R254). A HELLO frame arrives. -/
  | hello (wire : List Byte)
  /-- WEFT_FRAME (R260). A WEFT frame of a class arrives: header and payload as sent, and the tag after them (R258). -/
  | weftFrame (frame : List Byte) (cls : CClass) (tag : List Byte)
  /-- STATE_FRAME (R263). A STATE frame arrives. -/
  | stateFrame (wire : List Byte)
  /-- CLOSE_FRAME_RECEIVE (R264). A CLOSE frame arrives. -/
  | closeFrameReceive (wire : List Byte)
  /-- DICT_FRAME (R265). A DICT frame arrives. -/
  | dictFrame (wire : List Byte)
  /-- BANK_FRAME (R160). A BANK frame arrives. -/
  | bankFrame (wire : List Byte)
  /-- RESYNC_FRAME (R267). A RESYNC frame arrives. -/
  | resyncFrame (wire : List Byte)
  /-- PERSIST_FRAME (R267). A PERSIST frame arrives. -/
  | persistFrame (wire : List Byte)
  /-- ACK_FRAME (R259). An ACK frame arrives. -/
  | ackFrame (wire : List Byte)
  /-- ACTIVATE_BANK (R164). A write to ActivateBank. -/
  | activateBankWrite (req : Req) (value : BitVec 8)
  /-- ACTIVATE_CANCEL (R166). A write to ActivateCancel. -/
  | activateCancelWrite (req : Req) (value : BitVec 8)
  /-- ACTIVATION_STAGING (R167). Staging completes; `crcFault`: the directory entry whose section fails its CRC on the copy. -/
  | activationStaging (crcFault : Option (Fin 64))
  /-- ACTIVATION_DECISION (R167). The cut-off of tick T − 4,000 fixes the outcome. -/
  | activationDecision
  /-- ACTIVATION (R168). Boundary T comes. -/
  | activation
  /-- ACTIVATION_RESTART (R169). Boundary T + 4,000 after an activation through READY comes. -/
  | activationRestart
  /-- WARP_VERIFIED (R161). The verification of a warp bank completes. -/
  | warpVerified (bank : Fin 2)
  /-- SYNC (R297). A Sync received on a port. -/
  | sync (port : NetPort) (m : PtpMsg)
  /-- FOLLOW_UP (R292). A Follow_Up received on a port. -/
  | followUp (port : NetPort) (m : PtpMsg)
  /-- DELAY_RESP (R292). A Delay_Resp received on a port. -/
  | delayResp (port : NetPort) (m : PtpMsg)
  /-- PDELAY_REQ (R292). A Pdelay_Req received on a port; the answer leaves at `txNs`. -/
  | pdelayReq (port : NetPort) (m : PtpMsg) (txNs : Nat)
  /-- PDELAY_RESP (R292). A Pdelay_Resp received on a port. -/
  | pdelayResp (port : NetPort) (m : PtpMsg)
  /-- PDELAY_RESP_FOLLOW_UP (R292). A Pdelay_Resp_Follow_Up received on a port. -/
  | pdelayRespFollowUp (port : NetPort) (m : PtpMsg)
  /-- ANNOUNCE (R294). An Announce received on a port. -/
  | announce (port : NetPort) (m : PtpAnnounce)
  /-- ANNOUNCE_TIMEOUT (R292). PtpAnnounceTimeout intervals without an Announce on a port. -/
  | announceTimeout (port : NetPort)
  /-- PTP_TRANSMIT (R292). The clock's own transmission on a port, stamped `txNs` as it leaves. -/
  | ptpTransmit (port : NetPort) (what : PtpSend) (txNs : Nat)
  /-- DELAY_REQ (R292). A Delay_Req received on a port. -/
  | delayReq (port : NetPort) (m : PtpMsg)
  /-- HOLDOVER_ENTRY (R297). HoldoverEntry has passed without a valid offset. -/
  | holdoverEntry
  /-- TIME_PORT_SWITCH (R296). The time port has had no valid offset for three Sync intervals. -/
  | timePortSwitch
  /-- TIME_STEPPED (R299). The guard ends with a step to apply. -/
  | timeStepped
  /-- RTC_UPDATE (R299). A second has passed while locked. -/
  | rtcUpdate
  /-- RE_STEP_PERMIT (R301). A write to ReStepPermit. -/
  | reStepPermitWrite (req : Req) (value : BitVec 8)
  /-- TIME_SET (R303). A write to TimeSet. -/
  | timeSetWrite (req : Req) (value : List Byte)
  /-- PPS_IN_EDGE (R311). A rising edge on PPS_IN at a time-unit instant. -/
  | ppsInEdge (atNs : Nat)
  /-- PPS_OUT_END (R310). The pulse on PPS_OUT ends. -/
  | ppsOutEnd
  /-- CAN_FRAME_RECEIVE (R322). Channel `channel` + 1 receives a validated frame, or meets an error. -/
  | canFrameReceive (channel : Fin 8) (rx : CanRx)
  /-- CAN_FRAME_TRANSMITTED (R326). The frame of a transmit buffer goes its way on the bus. -/
  | canFrameTransmitted (channel : Fin 8) (buffer : Fin 32) (event : CanTxEvent)
  /-- CAN_BUS_OFF (R329). The channel reaches bus-off. -/
  | canBusOff (channel : Fin 8)
  /-- CAN_BUS_ON (R329). Bus-off recovery ends. -/
  | canBusOn (channel : Fin 8)
  /-- RECOVER (R329). A write to Recover of a channel. -/
  | recoverWrite (req : Req) (channel : Fin 8) (value : BitVec 8)
  /-- CAN_RX_BUFFER_READ (R325). The host reads one word of a buffer record. -/
  | canRxBufferRead (channel : Fin 8) (buffer : Fin 64) (word : Fin 20)
  /-- LOCK_EXPIRY (R325). 100 µs have passed since the first word. -/
  | lockExpiry (channel : Fin 8) (buffer : Fin 64)
  /-- DETECT_START (R332). A write of 0x01 to DetectCommand of a channel. -/
  | detectStart (req : Req) (channel : Fin 8)
  /-- DETECT_STOP (R332). A write of 0x00 to DetectCommand of a channel. -/
  | detectStop (req : Req) (channel : Fin 8)
  /-- DETECT_TIMEOUT (R332). 1 s without a valid frame, or 60 s without a declaration. -/
  | detectTimeout (channel : Fin 8) (overall : Bool)
  /-- CAN_WAKE (R333). A sleeping channel sees something. -/
  | canWake (channel : Fin 8) (seen : CanWaking)
  /-- DI_BAND_CHANGE (R347). The band of `mv` and `ua` has been stable for DiFilter; its first sample was at `firstNs`. -/
  | diBandChange (channel : Fin 48) (mv ua : BitVec 16) (firstNs : Nat)
  /-- OUTPUT_OVERLOAD (R350). The current limit has acted for 5 ms, or the switch has reached its thermal limit. -/
  | outputOverload (event : LoadEvent)
  /-- OVERLOAD_RETRY (R350). DoRetryInterval has passed. -/
  | overloadRetry (event : LoadEvent)
  /-- FIELD_SUPPLY_WARNING (R353). Below 19.2 V for 1 ms (`low`), or above 20.0 V for 1 ms. -/
  | fieldSupplyWarning (group : Group) (low : Bool)
  /-- FIELD_SUPPLY_TRIP (R353). Below 16.0 V for 10 µs. -/
  | fieldSupplyTrip (event : SupplyEvent)
  /-- SUPPLY_RESTORING (R353). The supply crosses 18.0 V upwards (`above`) or downwards. -/
  | supplyRestoring (group : Group) (above : Bool)
  /-- FIELD_SUPPLY_RESTORED (R353). The 20 ms qualification ends. -/
  | fieldSupplyRestored (event : SupplyEvent)
  /-- FIELD_SIDE_STOP (R353). The supply falls below 12.0 V. -/
  | fieldSideStop (group : Group)
  /-- AO_COMPLIANCE (R365). The shortfall of 10 ms, with the measured current (F32, mA). -/
  | aoCompliance (channel : Fin 8) (current : BitVec 32)
  /-- AO_OPEN (R365). Below 0.5 mA for 10 ms, with the measured current (F32, mA). -/
  | aoOpen (channel : Fin 8) (current : BitVec 32)
  /-- AO_RESTORED (R365). The condition has cleared for 10 ms, with the measured current (F32, mA) and whether the supply stands at 26 V. -/
  | aoRestored (channel : Fin 8) (current : BitVec 32) (atLimit : Bool)
  /-- AO_THERMAL (R366). The stage reaches 135 °C. -/
  | aoThermal (channel : Fin 8) (current : BitVec 32)
  /-- AO_THERMAL_CLEAR (R366). Below 125 °C for 100 ms. -/
  | aoThermalClear (channel : Fin 8)
  /-- ANALOG_ENVELOPE (R370). The field-side temperature leaves or re-enters the range of the record of an AI, or of an AO (`output`). -/
  | analogEnvelope (output : Bool) (channel : Fin 8) (set : Bool)
  /-- HART_SEARCH (R373). 5 s have passed on a searching channel. -/
  | hartSearch (channel : Fin 16)
  /-- HART_POLL (R373). HartPollInterval has passed on a connected channel. -/
  | hartPoll (channel : Fin 16)
  /-- HART_RESPONSE (R373). The modem decodes a response or a burst. -/
  | hartResponse (channel : Fin 16) (reply : HartReply)
  /-- HART_TRANSACTION_FAILURE (R373). The transaction, with its retries, ends without a valid response. -/
  | hartTransactionFailure (channel : Fin 16)
  /-- HART_REQUEST (R374). A write to HartRequest of a channel. -/
  | hartRequestWrite (req : Req) (channel : Fin 16) (payload : List Byte)
  /-- ISLAND_SCAN (R392). One scan; `currents` are the measured currents of SO1 to SO4 in mA. -/
  | islandScan (currents : List (BitVec 16))
  /-- TP_FRAME (R385). The end of a test-pulse frame: the samples of SI1 to SI8 and the readback of TP1 to TP4 in it, every 50 µs from the frame's
  start on, a bit set where the sample reads high. -/
  | tpFrame (inputs readback : List (BitVec 400))
  /-- INPUT_FILTER_EXPIRY (R384). SI `input` + 1 has read low or high for FILTER, at an island-clock instant. -/
  | inputFilterExpiry (input : Fin 8) (startUs : Nat) (samples : List (BitVec 16))
  /-- DISCREPANCY (R386). SI(2·pair + 1) and SI(2·pair + 2) have disagreed beyond DISCREPANCY. -/
  | discrepancy (pair : Fin 4)
  /-- ON_DELAY_EXPIRY (R392). The combination of a cause has held for ON_DELAY. -/
  | onDelayExpiry (cause : Fin 32)
  /-- TRIP_DELAY_EXPIRY (R392). TRIP_DELAY of an effect has elapsed. -/
  | tripDelayExpiry (effect : Fin 8)
  /-- SWITCH_ON_CHECK (R389). SOx_L and L+C, 1 ms after the high-side switch closed. -/
  | switchOnCheck (output : Fin 4) (lowMv supplyMv : Nat)
  /-- DARK_TEST (R390). The readback of the switch under test before the pulse ends. -/
  | darkTest (output : Fin 4) (readMv supplyMv : Nat)
  /-- SAFETY_OUTPUT_FAULT (R390). A fault of Table 14-4; 0 ends a reported OPEN_LOAD. -/
  | safetyOutputFault (output : Fin 4) (code : Fin 8)
  /-- CANARY_ISLAND_FAULT (R398). A check of Table 14-10 fails. -/
  | canaryIslandFault (check : IslandCheck)
  /-- ISLAND_RESET (R397). 100 ms have passed since a SAFE_FAULT. -/
  | islandReset
  /-- ISLAND_SELF_TEST_DONE (R397). The island's self-tests have passed. -/
  | islandSelfTestDone
  /-- SAFETY_SET_VERIFIED (R400). The verification of a pending safety parameter set completes. -/
  | safetySetVerified
  /-- SAFETY_SET_CONFIRM (R401). A write to SafetySetConfirm. -/
  | safetySetConfirmWrite (req : Req) (value : BitVec 32)
  /-- PROOF_TEST_DUE (R403). ProofTestInterval has elapsed since LastProofTest. -/
  | proofTestDue
  /-- CLOCK_MONITOR_TRIP (R439). A check of Table 16-2 trips. -/
  | clockMonitorTrip (what : ClockTrip)
  /-- CLK_IRC_FAILED (R440). R437 judges the IRC unstable while the root clock is SYS. -/
  | clkIrcFailed
  /-- IRC_JUDGEMENT_WINDOW (R437). IRC cycles in a window of 32 LRC periods. -/
  | ircJudgementWindow (count : Nat)
  /-- PLL_LOCK (R438). 65,536 cycles have been counted. -/
  | pllLock (what : ClockLock)
  /-- CLK_MUX_HANG (R442). The multiplexer of the converter domain, or of the HART domain, has hung. -/
  | clkMuxHang (hart : Bool)
  /-- TRIM_WINDOW (R445). IRC cycles in the window; whether a step, or a reference change, has interrupted it. -/
  | trimWindow (count : Nat) (stepped changed : Bool)
  /-- TRIM_STORE (R445). One second has passed. -/
  | trimStore
  /-- SCRUB_PASS (R467). A pass of the Store scrubber ends, of `ticks` ticks, or (none) another reader meets an error: single-bit errors corrected, and the
  address and syndrome of an uncorrectable one. -/
  | scrubPass (ticks : Option (BitVec 32)) (corrected : BitVec 32) (uncorrectable : Option (BitVec 32 × BitVec 32))
  /-- TALLY_WRITE (R477). The firmware forms a record of a code with its parameters. -/
  | tallyWrite (code : BitVec 16) (params : List (BitVec 32))
  /-- OPERATING_MINUTE (R478). A whole minute with the logic supply in its window. -/
  | operatingMinute
  /-- TALLY_SELECT (R482). A write to TallySelect. -/
  | tallySelectWrite (req : Req) (sequence : BitVec 64)
  /-- FACEPLATE_PAGE (R485). A write to FaceplatePage. -/
  | faceplatePageWrite (req : Req) (value : BitVec 8)
  /-- PAGE_TIMEOUT (R485). The identity page has stood for 60 s. -/
  | pageTimeout
  /-- FACEPLATE_REQUEST (R488). A region calls for a redraw. -/
  | faceplateRequest (call : RedrawCall)
  /-- UPDATE_START (R490). The FaceplateRate interval has passed. -/
  | updateStart (drawn : FaceDrawing)
  /-- UPDATE_PHASE (R487). The next 50 ms phase of the running update. -/
  | updatePhase
  /-- WARP_KEY (R497). A write to WarpKey of a slot; `cutOff`: a reset falls between the key bits and the status bits. -/
  | warpKeyWrite (req : Req) (slot : Fin 8) (key : List Byte) (cutOff : Bool)
  /-- SAFETY_SET_KEY (R497). A write to SafetySetKey of a slot; `cutOff` as for WARP_KEY. -/
  | safetySetKeyWrite (req : Req) (slot : Fin 8) (key : List Byte) (cutOff : Bool)
  /-- REVOKE_KEY (R498). A write to RevokeKey. -/
  | revokeKeyWrite (req : Req) (value : BitVec 16)
  /-- CONDUIT_KEY (R500). A write to ConduitKey of a slot. -/
  | conduitKeyWrite (req : Req) (slot : Fin 16) (key : List Byte)
  /-- SEAM_KEY (R501). A write to SeamKey of a slot. -/
  | seamKeyWrite (req : Req) (slot : Fin 2) (key : List Byte)
  /-- FIRMWARE_VERIFIED (R503). The verification of a firmware bank completes. -/
  | firmwareVerified (bank : Fin 2)
  /-- COMMIT_SECURITY_VERSION (R505). A write to CommitSecurityVersion. -/
  | commitSecurityVersionWrite (req : Req) (value : BitVec 8)
  /-- DEBUG_LOCK_COMMAND (R509). A write to DebugLockCommand. -/
  | debugLockWrite (req : Req) (value : BitVec 32)
  /-- RECOVERY_FRAME (R506). A recovery frame on the debug contacts. -/
  | recoveryFrame (offset crc : BitVec 32) (data : List Byte)
  /-- RECOVERY_LOADED (R506). The last recovery frame has been received. -/
  | recoveryLoaded
  /-- SEAM_LINK_DOWN (R257). The seam link loses its training. -/
  | seamLinkDown
  /-- FIELD_SIDE_RESTART (R353). The supply is back. -/
  | fieldSideRestart (group : Group)
  /-- FENCE_IN_RELEASE (R276). FENCE_IN is negated. -/
  | fenceInRelease
  /-- DRAM_SCRUB_PASS (R468). Errors found in a pass or by a host core, and the address of the last uncorrectable one. -/
  | dramScrubPass (found : DramErrors) (uncorrectable : BitVec 32) (lastFault : Option (BitVec 32))
  deriving DecidableEq, Repr

end Sys2Proof
end

