-- ==== Sys2Proof/Decode.lean ====
section
/-! DEFINITION. The command that a word spells. spec/opcode_table.json gives its rows no bits: a command of this block is an event or
an operation, not a word, so no word spells one. -/

namespace Sys2Proof

/-- No row of the opcode table has bits, so no word is a command, whatever its length. -/
def decodeTableWord (_nbits _w : Nat) : Option Instr := none

end Sys2Proof
end

