-- ==== Sys2Proof/Machine/Operands.lean ====
section
/-! DEFINITION. The operand forms of the module's commands: byte order (R2), fixed-width integers and fields cut from
byte strings, TIME96 (R3), node and object addresses (R8). -/

namespace Sys2Proof.Machine

/-- Little-endian value of a byte string (R2). -/
def leNat : Bytes → Nat
  | [] => 0
  | b :: bs => b.toNat + 256 * leNat bs

/-- Big-endian value of a byte string (PTP messages, R2; network headers). -/
def beNat (bs : Bytes) : Nat := bs.foldl (fun a b => a * 256 + b.toNat) 0

/-- The `n` little-endian bytes of `v`, modulo 2^(8n) (R2). -/
def leBytes : Nat → Nat → Bytes
  | 0, _ => []
  | n + 1, v => BitVec.ofNat 8 v :: leBytes n (v / 256)

/-- The `n` big-endian bytes of `v`. -/
def beBytes (n v : Nat) : Bytes := (leBytes n v).reverse

/-- A byte from a number, modulo 256. -/
def byte (n : Nat) : Byte := BitVec.ofNat 8 n

/-- `n` bytes of 0. -/
def zeros (n : Nat) : Bytes := List.replicate n 0

/-- `len` bytes from offset `off` (fewer where the string ends). -/
def slice (bs : Bytes) (off len : Nat) : Bytes := (bs.drop off).take len

/-- Unsigned little-endian fields at an offset. -/
def u8At (bs : Bytes) (off : Nat) : Nat := leNat (slice bs off 1)
def u16At (bs : Bytes) (off : Nat) : Nat := leNat (slice bs off 2)
def u32At (bs : Bytes) (off : Nat) : Nat := leNat (slice bs off 4)
def u64At (bs : Bytes) (off : Nat) : Nat := leNat (slice bs off 8)

/-- `bs` with `v` written over its bytes from `off` on, lengthened with zero bytes if it ends before `off`. -/
def patch (bs : Bytes) (off : Nat) (v : Bytes) : Bytes :=
  (bs ++ zeros (off - bs.length)).take off ++ v ++ bs.drop (off + v.length)

/-- `bs` cut or lengthened with zero bytes to exactly `n`. -/
def fit (n : Nat) (bs : Bytes) : Bytes := (bs ++ zeros (n - bs.length)).take n

/-- The bytes of an ASCII string. -/
def asciiBytes (s : String) : Bytes := s.toList.map fun c => byte c.toNat

/-- Two's complement: the signed value of the `bits`-bit number `v`. -/
def toSigned (bits v : Nat) : Int :=
  if v % 2 ^ bits < 2 ^ (bits - 1) then (v % 2 ^ bits : Nat) else (v % 2 ^ bits : Nat) - (2 ^ bits : Nat)

/-- Two's complement: the `bits`-bit number of a signed value, modulo 2^bits. -/
def ofSigned (bits : Nat) (v : Int) : Nat := (v % (2 ^ bits : Nat)).toNat

/-- A signed value limited to a range. -/
def clampInt (lo hi v : Int) : Int := if v < lo then lo else if hi < v then hi else v

/-- Signed little-endian fields at an offset. -/
def i16At (bs : Bytes) (off : Nat) : Int := toSigned 16 (u16At bs off)
def i32At (bs : Bytes) (off : Nat) : Int := toSigned 32 (u32At bs off)
def i64At (bs : Bytes) (off : Nat) : Int := toSigned 64 (u64At bs off)

/-- TIME96 of a count of TAI nanoseconds since the PTP epoch: U64 seconds, then U32 nanoseconds (R3). -/
def time96 (ns : Nat) : Bytes := leBytes 8 (ns / 1000000000) ++ leBytes 4 (ns % 1000000000)

/-- The nanosecond count of a TIME96 (R3). -/
def time96Ns (bs : Bytes) : Nat := u64At bs 0 * 1000000000 + u32At bs 8

/-- Length of a tick in nanoseconds (R4). -/
def tickNs : Nat := 250000

/-- Ticks of one L cycle, the hyperperiod (R105). -/
def hyperTicks : Nat := 4000

/-- R63: for 16-bit sequence numbers, `a` is newer than `b`. -/
def newer16 (a b : Nat) : Bool :=
  let d := (a + 65536 - b % 65536) % 65536
  1 ≤ d && d ≤ 32767

/-- R63 for any width. -/
def newerBits (n a b : Nat) : Bool :=
  let d := (a + 2 ^ n - b % 2 ^ n) % 2 ^ n
  1 ≤ d && d ≤ 2 ^ (n - 1) - 1

/-- Object address: the index in [31:8], the subindex in [7:0] (R82). -/
def objAddr (index sub : Nat) : Nat := index * 256 + sub
def addrIndex (a : Nat) : Nat := a / 256
def addrSub (a : Nat) : Nat := a % 256

/-- Rounding up to a multiple of `n`. -/
def roundUp (n v : Nat) : Nat := (v + (n - 1)) / n * n

/-- The quotient rounded up. -/
def ceilDiv (a b : Nat) : Nat := (a + (b - 1)) / b

/-- A list cut into pieces of `n`, at most `fuel` of them. -/
def chunks {α : Type} (n : Nat) : Nat → List α → List (List α)
  | 0, _ => []
  | fuel + 1, xs => if xs.isEmpty then [] else xs.take n :: chunks n fuel (xs.drop n)

/-- Insertion into a list sorted by `le`, before the first element that is not below. -/
def insertBy {α : Type} (le : α → α → Bool) (x : α) : List α → List α
  | [] => [x]
  | y :: ys => if le x y then x :: y :: ys else y :: insertBy le x ys

/-- A list sorted by `le`; equal elements keep their order. -/
def sortBy {α : Type} (le : α → α → Bool) : List α → List α
  | [] => []
  | x :: xs => insertBy le x (sortBy le xs)

/-- A continuation byte of UTF-8. -/
def utf8Tail (b : Byte) : Bool := decide (b.toNat / 64 = 2)

/-- Well-formed UTF-8 (Table 2-1, VSTRING). -/
def utf8Ok : Bytes → Bool
  | [] => true
  | a :: r =>
    if a.toNat < 0x80 then utf8Ok r
    else match r with
      | [] => false
      | b :: r2 =>
        if 0xC2 ≤ a.toNat && a.toNat ≤ 0xDF then utf8Tail b && utf8Ok r2
        else match r2 with
          | [] => false
          | c :: r3 =>
            if 0xE0 ≤ a.toNat && a.toNat ≤ 0xEF then
              utf8Tail b && utf8Tail c && !(decide (a.toNat = 0xE0) && decide (b.toNat < 0xA0)) &&
                !(decide (a.toNat = 0xED) && decide (0xA0 ≤ b.toNat)) && utf8Ok r3
            else match r3 with
              | [] => false
              | d :: r4 =>
                decide (0xF0 ≤ a.toNat) && decide (a.toNat ≤ 0xF4) && utf8Tail b && utf8Tail c && utf8Tail d &&
                  !(decide (a.toNat = 0xF0) && decide (b.toNat < 0x90)) && !(decide (a.toNat = 0xF4) && decide (0x90 ≤ b.toNat)) && utf8Ok r4

end Sys2Proof.Machine
end

