-- ==== Sys2Proof/Machine/Float.lean ====
section
/-! DEFINITION. The floating-point arithmetic of R180 to R182, exactly: IEEE 754 binary32 and binary64 on their bit patterns
(as natural numbers), one rounding per operation, to nearest with ties to even, subnormals kept, one canonical NaN. -/

namespace Sys2Proof.Machine

/-- A binary format: `p` fraction bits and `eb` exponent bits. -/
structure FloatFormat where
  p : Nat
  eb : Nat
  deriving DecidableEq, Repr

def f32 : FloatFormat := ⟨23, 8⟩
def f64 : FloatFormat := ⟨52, 11⟩

/-- What a bit pattern stands for: a NaN, an infinity or (±) m · 2^e. -/
inductive FloatValue where
  | nan
  | inf (neg : Bool)
  | fin (neg : Bool) (m : Nat) (e : Int)
  deriving DecidableEq, Repr

def FloatFormat.bits (f : FloatFormat) : Nat := f.p + f.eb + 1
/-- Exponent of the last fraction bit of a subnormal. -/
def FloatFormat.emin (f : FloatFormat) : Int := 2 - (2 ^ (f.eb - 1) : Nat) - (f.p : Int)
def FloatFormat.maxExp (f : FloatFormat) : Nat := 2 ^ f.eb - 1
def FloatFormat.signBit (f : FloatFormat) (neg : Bool) : Nat := if neg then 2 ^ (f.p + f.eb) else 0
/-- The canonical quiet NaN (R180): 0x7FC0_0000, 0x7FF8_0000_0000_0000. -/
def FloatFormat.qnan (f : FloatFormat) : Nat := f.maxExp * 2 ^ f.p + 2 ^ (f.p - 1)
def FloatFormat.infinity (f : FloatFormat) (neg : Bool) : Nat := f.signBit neg + f.maxExp * 2 ^ f.p

def fUnpack (f : FloatFormat) (v : Nat) : FloatValue :=
  let neg := v.testBit (f.p + f.eb)
  let ex := v / 2 ^ f.p % 2 ^ f.eb
  let fr := v % 2 ^ f.p
  if ex = f.maxExp then (if fr = 0 then .inf neg else .nan)
  else if ex = 0 then .fin neg fr f.emin
  else .fin neg (fr + 2 ^ f.p) (f.emin + (ex : Int) - 1)

def fIsNan (f : FloatFormat) (v : Nat) : Bool :=
  decide (v / 2 ^ f.p % 2 ^ f.eb = f.maxExp) && decide (v % 2 ^ f.p ≠ 0)

def fIsInf (f : FloatFormat) (v : Nat) : Bool :=
  decide (v / 2 ^ f.p % 2 ^ f.eb = f.maxExp) && decide (v % 2 ^ f.p = 0)

def fFinite (f : FloatFormat) (v : Nat) : Bool := decide (v / 2 ^ f.p % 2 ^ f.eb ≠ f.maxExp)

/-- Length in bits. -/
def bitLen (m : Nat) : Nat := if m = 0 then 0 else Nat.log2 m + 1

/-- The rounding of R180 of (m + ε)·2^e, where `sticky` says whether ε (between 0 and 1) is not 0. With `sticky`, `m` must have
more than p + 2 bits. -/
def fRound (f : FloatFormat) (neg : Bool) (m : Nat) (e : Int) (sticky : Bool) : Nat :=
  if m = 0 then f.signBit neg
  else
    let want := e + (bitLen m : Int) - (f.p + 1 : Nat)
    let e' := if want < f.emin then f.emin else want
    let q :=
      if e' ≤ e then m * 2 ^ (e - e').toNat
      else
        let d := (e' - e).toNat
        let rem := m % 2 ^ d
        let half := 2 ^ (d - 1)
        let up := decide (half < rem) || (decide (rem = half) && (sticky || decide (m / 2 ^ d % 2 = 1)))
        m / 2 ^ d + (if up then 1 else 0)
    -- a carry into a new bit doubles the significand, which the encoding below turns into the next exponent
    let enc := if q < 2 ^ f.p then q else (e' - f.emin).toNat * 2 ^ f.p + q
    if f.maxExp * 2 ^ f.p ≤ enc then f.infinity neg else f.signBit neg + enc

def fNeg (f : FloatFormat) (v : Nat) : Nat :=
  if fIsNan f v then f.qnan else if v.testBit (f.p + f.eb) then v - 2 ^ (f.p + f.eb) else v + 2 ^ (f.p + f.eb)

def fAbs (f : FloatFormat) (v : Nat) : Nat := if fIsNan f v then f.qnan else v % 2 ^ (f.p + f.eb)

/-- Addition of two unpacked values. -/
def fAddV (f : FloatFormat) : FloatValue → FloatValue → Nat
  | .nan, _ => f.qnan
  | _, .nan => f.qnan
  | .inf a, .inf b => if a = b then f.infinity a else f.qnan
  | .inf a, .fin _ _ _ => f.infinity a
  | .fin _ _ _, .inf b => f.infinity b
  | .fin s1 m1 e1, .fin s2 m2 e2 =>
    let e := if e1 ≤ e2 then e1 else e2
    let a : Int := ((m1 * 2 ^ (e1 - e).toNat : Nat) : Int) * (if s1 then -1 else 1)
    let b : Int := ((m2 * 2 ^ (e2 - e).toNat : Nat) : Int) * (if s2 then -1 else 1)
    let s := a + b
    if s = 0 then f.signBit (s1 && s2) else fRound f (decide (s < 0)) s.natAbs e false

def fAdd (f : FloatFormat) (a b : Nat) : Nat := fAddV f (fUnpack f a) (fUnpack f b)

/-- Subtraction: a + (−b), with a NaN operand giving the canonical NaN. -/
def fSub (f : FloatFormat) (a b : Nat) : Nat :=
  fAddV f (fUnpack f a)
    (match fUnpack f b with
      | .nan => .nan
      | .inf s => .inf (!s)
      | .fin s m e => .fin (!s) m e)

def fMul (f : FloatFormat) (a b : Nat) : Nat :=
  match fUnpack f a, fUnpack f b with
  | .nan, _ => f.qnan
  | _, .nan => f.qnan
  | .inf s1, .inf s2 => f.infinity (s1 != s2)
  | .inf s1, .fin s2 m _ => if m = 0 then f.qnan else f.infinity (s1 != s2)
  | .fin s1 m _, .inf s2 => if m = 0 then f.qnan else f.infinity (s1 != s2)
  | .fin s1 m1 e1, .fin s2 m2 e2 => fRound f (s1 != s2) (m1 * m2) (e1 + e2) false

def fDiv (f : FloatFormat) (a b : Nat) : Nat :=
  match fUnpack f a, fUnpack f b with
  | .nan, _ => f.qnan
  | _, .nan => f.qnan
  | .inf _, .inf _ => f.qnan
  | .inf s1, .fin s2 _ _ => f.infinity (s1 != s2)
  | .fin s1 _ _, .inf s2 => f.signBit (s1 != s2)
  | .fin s1 m1 e1, .fin s2 m2 e2 =>
    if m2 = 0 then (if m1 = 0 then f.qnan else f.infinity (s1 != s2))
    else if m1 = 0 then f.signBit (s1 != s2)
    else
      let k := f.p + 4 + bitLen m2
      fRound f (s1 != s2) (m1 * 2 ^ k / m2) (e1 - e2 - (k : Int)) (decide (m1 * 2 ^ k % m2 ≠ 0))

/-- Integer square root, bit by bit from bit `n − 1` down. -/
def isqrt : Nat → Nat → Nat → Nat
  | 0, _, r => r
  | n + 1, v, r => isqrt n v (if (r + 2 ^ n) * (r + 2 ^ n) ≤ v then r + 2 ^ n else r)

def fSqrt (f : FloatFormat) (a : Nat) : Nat :=
  match fUnpack f a with
  | .nan => f.qnan
  | .inf s => if s then f.qnan else f.infinity false
  | .fin s m e =>
    if m = 0 then f.signBit s
    else if s then f.qnan
    else
      let k := 2 * f.p + 8 + (if (e - (2 * f.p + 8 : Nat)) % 2 = 0 then 0 else 1)
      let v := m * 2 ^ k
      let r := isqrt (2 * f.p + 8) v 0
      fRound f false r ((e - (k : Int)) / 2) (decide (r * r ≠ v))

/-- A total order key of a value that is not a NaN, −0 below +0. -/
def fKey (f : FloatFormat) (v : Nat) : Int :=
  if v.testBit (f.p + f.eb) then -((v % 2 ^ (f.p + f.eb) : Nat) : Int) - 1 else (v % 2 ^ (f.p + f.eb) : Nat)

/-- The value order, −0 equal to +0. -/
def fCmpKey (f : FloatFormat) (v : Nat) : Int :=
  if v.testBit (f.p + f.eb) then -((v % 2 ^ (f.p + f.eb) : Nat) : Int) else (v % 2 ^ (f.p + f.eb) : Nat)

/-- Minimum (R180): −0 below +0, a single NaN gives the other operand. -/
def fMin (f : FloatFormat) (a b : Nat) : Nat :=
  if fIsNan f a then (if fIsNan f b then f.qnan else b) else if fIsNan f b then a
  else if fKey f a ≤ fKey f b then a else b

def fMax (f : FloatFormat) (a b : Nat) : Nat :=
  if fIsNan f a then (if fIsNan f b then f.qnan else b) else if fIsNan f b then a
  else if fKey f a ≤ fKey f b then b else a

def fUnordered (f : FloatFormat) (a b : Nat) : Bool := fIsNan f a || fIsNan f b
def fEq (f : FloatFormat) (a b : Nat) : Bool := !fUnordered f a b && decide (fCmpKey f a = fCmpKey f b)
def fLt (f : FloatFormat) (a b : Nat) : Bool := !fUnordered f a b && decide (fCmpKey f a < fCmpKey f b)
def fLe (f : FloatFormat) (a b : Nat) : Bool := !fUnordered f a b && decide (fCmpKey f a ≤ fCmpKey f b)

/-- An integer rounded to the format (R182). -/
def fOfInt (f : FloatFormat) (v : Int) : Nat := fRound f (decide (v < 0)) v.natAbs 0 false

/-- Conversion to an integer: truncated toward zero and saturated; a NaN gives 0 (R182). -/
def fToInt (f : FloatFormat) (lo hi : Int) (v : Nat) : Int :=
  match fUnpack f v with
  | .nan => 0
  | .inf s => if s then lo else hi
  | .fin s m e =>
    let mag : Int := if 0 ≤ e then ((m * 2 ^ e.toNat : Nat) : Int) else ((m / 2 ^ (-e).toNat : Nat) : Int)
    clampInt lo hi (if s then -mag else mag)

/-- Conversion between formats (R182). -/
def fConvert (src dst : FloatFormat) (v : Nat) : Nat :=
  match fUnpack src v with
  | .nan => dst.qnan
  | .inf s => dst.infinity s
  | .fin s m e => fRound dst s m e false

end Sys2Proof.Machine
end

