-- ==== Sys2Proof/Machine/Crypto.lean ====
section
/-! DEFINITION. The integrity and security functions the manual names: CRC-32C, the CRC-16 of R337, SHA-256, HMAC-SHA-256,
AES-256-GCM (R77, R258) and ECDSA P-256 verification (R137, R532). The manual names these standards and does not restate them:
their content is PRESUMED from the public standards (log entry 3). -/

namespace Sys2Proof.Machine

/-! ### Cyclic redundancy checks -/

/-- One byte step of a reflected CRC of 32 bits. -/
def crc32cStep (crc : Nat) (b : Byte) : Nat :=
  (List.range 8).foldl (fun c _ => if c % 2 = 1 then (c / 2) ^^^ 0x82F63B78 else c / 2) (crc ^^^ b.toNat)

/-- CRC-32C (Castagnoli). -/
def crc32c (bs : Bytes) : Nat := (bs.foldl crc32cStep 0xFFFFFFFF) ^^^ 0xFFFFFFFF

/-- One byte step of the CRC-16 of R337. -/
def crc16Step (crc : Nat) (b : Byte) : Nat :=
  (List.range 8).foldl (fun c _ => if c < 0x8000 then c * 2 else (c * 2 % 0x10000) ^^^ 0x1021) (crc ^^^ (b.toNat * 256))

/-- CRC-16, polynomial 0x1021, initial value 0xFFFF, no reflection, no final XOR (R337). -/
def crc16 (bs : Bytes) : Nat := bs.foldl crc16Step 0xFFFF

/-- One byte into a CRC-64/ECMA-182 (R262): polynomial 0x42F0E1EBA9EA3693, most significant bit first. -/
def crc64Step (crc : Nat) (b : Byte) : Nat :=
  (List.range 8).foldl (fun c _ => if c < 2 ^ 63 then c * 2 else (c * 2 % 2 ^ 64) ^^^ 0x42F0E1EBA9EA3693) (crc ^^^ (b.toNat * 2 ^ 56))

/-- CRC-64/ECMA-182, from 0 and without a final inversion. -/
def crc64 (bs : Bytes) : Nat := bs.foldl crc64Step 0

/-! ### SHA-256 and HMAC -/

/-- The word of SHA-256. -/
abbrev HashWord := BitVec 32

/-- The greatest number below 2^bits whose `power`-th power is at most `v`, on top of `acc`. -/
def rootFloor (power v : Nat) : Nat → Nat → Nat
  | 0, acc => acc
  | bits + 1, acc => rootFloor power v bits (if (acc + 2 ^ bits) ^ power ≤ v then acc + 2 ^ bits else acc)

/-- The first primes, in rising order: `fuel` numbers from `n` on are tried against those found, newest first. -/
def primesFrom : Nat → Nat → List Nat → List Nat
  | 0, _, found => found.reverse
  | fuel + 1, n, found => primesFrom fuel (n + 1) (if found.all fun p => n % p != 0 then n :: found else found)

/-- The first 32 bits of the fractional part of the `power`-th root of `p`. -/
def rootWord (power p : Nat) : HashWord := BitVec.ofNat 32 (rootFloor power (p * 2 ^ (32 * power)) 40 0)

/-- Round constants: the cube roots of the 64 primes up to 311. -/
def shaRoundWords : List HashWord := (primesFrom 310 2 []).map (rootWord 3)

/-- The hash value before the first block, from the square roots of the first eight primes. -/
def shaStart : List HashWord := (primesFrom 18 2 []).map (rootWord 2)

/-- The exclusive or of three rotations. -/
def rotations (x : HashWord) (i j k : Nat) : HashWord := x.rotateRight i ^^^ (x.rotateRight j ^^^ x.rotateRight k)

/-- One round on the eight working words, first to last, with the round's constant and message word already added. -/
def shaMix (word : HashWord) : List HashWord → List HashWord
  | [a, b, c, d, e, f, g, h] =>
    let choice := g ^^^ (e &&& (f ^^^ g))
    let majority := (a &&& b) ||| (c &&& (a ||| b))
    let t := word + h + choice + rotations e 6 11 25
    [t + majority + rotations a 2 13 22, a, b, c, d + t, e, f, g]
  | other => other

/-- The message words of a block: each word after the sixteen of the block is made from those 2, 7, 15 and 16 places before. The
window holds the last sixteen words, oldest first; `n` words are still to be given out. -/
def shaMessage : Nat → List HashWord → List HashWord
  | 0, _ => []
  | n + 1, window =>
    let at_ := fun i => (window[i]?).getD 0
    let spread := fun (x : HashWord) (i j k : Nat) => x.rotateRight i ^^^ (x.rotateRight j ^^^ x >>> k)
    at_ 0 :: shaMessage n (window.drop 1 ++ [at_ 0 + spread (at_ 1) 7 18 3 + at_ 9 + spread (at_ 14) 17 19 10])

/-- The hash value after one more block of 64 bytes. -/
def shaAbsorb (value : List HashWord) (block : Bytes) : List HashWord :=
  let words := shaMessage 64 ((chunks 4 16 block).map fun b => BitVec.ofNat 32 (beNat b))
  let worked := (List.zipWith (· + ·) words shaRoundWords).foldl (fun st w => shaMix w st) value
  List.zipWith (· + ·) value worked

/-- SHA-256 of a byte string: 32 bytes. -/
def sha256 (bs : Bytes) : Bytes :=
  let padded := bs ++ [0x80] ++ zeros ((119 - bs.length % 64) % 64) ++ beBytes 8 (bs.length * 8)
  fit 32 (((chunks 64 (padded.length / 64) padded).foldl shaAbsorb shaStart).flatMap fun x => beBytes 4 x.toNat)

/-- HMAC-SHA-256 (R258). -/
def hmacSha256 (key msg : Bytes) : Bytes :=
  let k := fit 64 (if key.length > 64 then sha256 key else key)
  sha256 (k.map (· ^^^ 0x5c) ++ sha256 (k.map (· ^^^ 0x36) ++ msg))

/-! ### AES-256 and GCM -/

/-- Doubling in GF(2^8) with the AES polynomial. -/
def aesDouble (b : Byte) : Byte := if b.getLsbD 7 then (b <<< 1) ^^^ 0x1b else b <<< 1

/-- Product in GF(2^8). -/
def aesMul (a b : Byte) : Byte :=
  ((List.range 8).foldl (fun (st : Byte × Byte) i => (if b.getLsbD i then st.1 ^^^ st.2 else st.1, aesDouble st.2)) (0, a)).1

/-- Inverse in GF(2^8), 0 for 0: the 254th power. -/
def aesInv (a : Byte) : Byte :=
  ((List.range 7).foldl (fun (st : Byte × Byte) _ => let sq := aesMul st.2 st.2; (aesMul st.1 sq, sq)) (1, a)).1

/-- The AES substitution of one byte. -/
def aesSub (a : Byte) : Byte :=
  let b := aesInv a
  b ^^^ b.rotateLeft 1 ^^^ b.rotateLeft 2 ^^^ b.rotateLeft 3 ^^^ b.rotateLeft 4 ^^^ 0x63

/-- The substitution as a table, computed once. -/
def aesTable : List Byte := (List.range 256).map fun i => aesSub (byte i)

def aesSubT (table : Array Byte) (b : Byte) : Byte := (table[b.toNat]?).getD 0

/-- Key expansion: words of 4 bytes, newest first; `i` is the number of the next word. -/
def aesExpand (table : Array Byte) : Nat → Nat → Byte → List Bytes → List Bytes
  | 0, _, _, ws => ws
  | n + 1, i, rc, ws =>
    let t := (ws[0]?).getD []
    let old := (ws[7]?).getD []
    if i % 8 = 0 then
      let r := (t.drop 1 ++ t.take 1).map (aesSubT table)
      let r := List.zipWith (· ^^^ ·) r [rc, 0, 0, 0]
      aesExpand table n (i + 1) (aesDouble rc) (List.zipWith (· ^^^ ·) r old :: ws)
    else
      let r := if i % 8 = 4 then t.map (aesSubT table) else t
      aesExpand table n (i + 1) rc (List.zipWith (· ^^^ ·) r old :: ws)

/-- The fifteen round keys of AES-256. -/
def aesKeys (table : Array Byte) (key : Bytes) : List Bytes :=
  let ws := (aesExpand table 52 8 1 (chunks 4 8 key).reverse).reverse
  chunks 16 15 ws.flatten

def aesShiftRows (st : Bytes) : Bytes :=
  (List.range 16).map fun i => (st[(i + 4 * (i % 4)) % 16]?).getD 0

def aesMixColumns (st : Bytes) : Bytes :=
  (chunks 4 4 st).flatMap fun col =>
    let a := (col[0]?).getD 0
    let b := (col[1]?).getD 0
    let d := (col[2]?).getD 0
    let e := (col[3]?).getD 0
    [aesDouble a ^^^ aesDouble b ^^^ b ^^^ d ^^^ e, a ^^^ aesDouble b ^^^ aesDouble d ^^^ d ^^^ e,
     a ^^^ b ^^^ aesDouble d ^^^ aesDouble e ^^^ e, aesDouble a ^^^ a ^^^ b ^^^ d ^^^ aesDouble e]

/-- One block of AES-256 under expanded keys. -/
def aesEncrypt (table : Array Byte) (keys : List Bytes) (block : Bytes) : Bytes :=
  let xor := List.zipWith (fun (a b : Byte) => a ^^^ b)
  let st := xor block ((keys[0]?).getD [])
  let st := (List.range 13).foldl
    (fun st r => xor (aesMixColumns (aesShiftRows (st.map (aesSubT table)))) ((keys[r + 1]?).getD [])) st
  xor (aesShiftRows (st.map (aesSubT table))) ((keys[14]?).getD [])

/-- Product in the field of GHASH, on 128-bit blocks with the first bit most significant. -/
def ghashMul (x y : BitVec 128) : BitVec 128 :=
  ((List.range 128).foldl
    (fun (st : BitVec 128 × BitVec 128) i =>
      (if x.getMsbD i then st.1 ^^^ st.2 else st.1,
       if st.2.getLsbD 0 then (st.2 >>> 1) ^^^ (0xe1#128 <<< 120) else st.2 >>> 1))
    (0, y)).1

def pad16 (bs : Bytes) : Bytes := bs ++ zeros ((16 - bs.length % 16) % 16)

def ghash (h : BitVec 128) (bs : Bytes) : BitVec 128 :=
  (chunks 16 (bs.length / 16 + 1) bs).foldl (fun y b => ghashMul (y ^^^ BitVec.ofNat 128 (beNat b)) h) 0

/-- Key stream of counter mode, from counter value `ctr` on. -/
def gcmStream (table : Array Byte) (keys : List Bytes) (nonce : Bytes) : Nat → Nat → Bytes
  | 0, _ => []
  | n + 1, ctr => aesEncrypt table keys (nonce ++ beBytes 4 ctr) ++ gcmStream table keys nonce n (ctr + 1)

/-- The 16-byte tag of AES-256-GCM over additional data and ciphertext, with a 12-byte nonce. -/
def gcmTag (key nonce aad ct : Bytes) : Bytes :=
  let table := aesTable.toArray
  let keys := aesKeys table key
  let h := BitVec.ofNat 128 (beNat (aesEncrypt table keys (zeros 16)))
  let s := ghash h (pad16 aad ++ pad16 ct ++ beBytes 8 (aad.length * 8) ++ beBytes 8 (ct.length * 8))
  List.zipWith (· ^^^ ·) (beBytes 16 s.toNat) (aesEncrypt table keys (nonce ++ beBytes 4 1))

/-- Encryption or decryption of AES-256-GCM: the same stream both ways. -/
def gcmCrypt (key nonce text : Bytes) : Bytes :=
  let table := aesTable.toArray
  let keys := aesKeys table key
  List.zipWith (· ^^^ ·) text (gcmStream table keys nonce (text.length / 16 + 1) 2)

/-! ### ECDSA over P-256 -/

def p256P : Nat := 0xffffffff00000001000000000000000000000000ffffffffffffffffffffffff
def p256N : Nat := 0xffffffff00000000ffffffffffffffffbce6faada7179e84f3b9cac2fc632551
def p256B : Nat := 0x5ac635d8aa3a93e7b3ebbd55769886bc651d06b0cc53b0f63bce3c3e27d2604b
def p256Gx : Nat := 0x6b17d1f2e12c4247f8bce6e563a440f277037d812deb33a0f4a13945d898c296
def p256Gy : Nat := 0x4fe342e2fe1a7f9b8ee7eb4a7c0f9e162bce33576b315ececbb6406837bf51f5

/-- Power modulo `m`, over `bits` bits of the exponent. -/
def powMod (m : Nat) : Nat → Nat → Nat → Nat → Nat
  | 0, _, _, acc => acc
  | bits + 1, b, e, acc => powMod m bits (b * b % m) (e / 2) (if e % 2 = 1 then acc * b % m else acc)

/-- Inverse modulo a prime. -/
def invMod (m a : Nat) : Nat := powMod m 256 (a % m) (m - 2) 1

/-- A point of the curve in affine form, none for the point at infinity. -/
abbrev CurvePoint := Option (Nat × Nat)

def onCurve (x y : Nat) : Bool :=
  decide (x < p256P) && decide (y < p256P) &&
    decide (y * y % p256P = (x * x % p256P * x + (p256P - 3) * x + p256B) % p256P)

def curveAdd (a b : CurvePoint) : CurvePoint :=
  match a, b with
  | none, q => q
  | q, none => q
  | some (x1, y1), some (x2, y2) =>
    if x1 = x2 && (y1 + y2) % p256P = 0 then none
    else
      let l :=
        if x1 = x2 then (3 * x1 * x1 + (p256P - 3)) % p256P * invMod p256P (2 * y1) % p256P
        else (y2 + (p256P - y1)) % p256P * invMod p256P (x2 + (p256P - x1)) % p256P
      let x3 := (l * l + (p256P - x1) + (p256P - x2)) % p256P
      some (x3, (l * ((x1 + (p256P - x3)) % p256P) + (p256P - y1)) % p256P)

def curveMul : Nat → Nat → CurvePoint → CurvePoint → CurvePoint
  | 0, _, _, acc => acc
  | bits + 1, k, q, acc => curveMul bits (k / 2) (curveAdd q q) (if k % 2 = 1 then curveAdd acc q else acc)

/-- ECDSA P-256 verification under the conventions of R532: `key` holds x then y, `sig` r then s, each 32 bytes little-endian;
the digest is read big-endian. -/
def ecdsaVerify (key digest sig : Bytes) : Bool :=
  let r := leNat (slice sig 0 32)
  let s := leNat (slice sig 32 32)
  let x := leNat (slice key 0 32)
  let y := leNat (slice key 32 32)
  if r = 0 || s = 0 || p256N ≤ r || p256N ≤ s || !onCurve x y then false
  else
    let w := invMod p256N s
    let u1 := beNat digest * w % p256N
    let u2 := r * w % p256N
    match curveAdd (curveMul 256 u1 (some (p256Gx, p256Gy)) none) (curveMul 256 u2 (some (x, y)) none) with
    | none => false
    | some (px, _) => px % p256N = r

end Sys2Proof.Machine
end

