-- ==== Sys2Proof/Machine/Flags.lean ====
section
/-! DEFINITION. Bit fields of status words, which the manual writes [msb:lsb] (R9), on natural numbers. -/

namespace Sys2Proof.Machine

/-- Bit `i` of `v` (R9). -/
def bit (v i : Nat) : Bool := v.testBit i

/-- Field [msb:lsb] of `v` (R9). -/
def field (v msb lsb : Nat) : Nat := v / 2 ^ lsb % 2 ^ (msb + 1 - lsb)

/-- `v` with bit `i` made `b`. -/
def putBit (v i : Nat) (b : Bool) : Nat :=
  if v.testBit i = b then v else if b then v + 2 ^ i else v - 2 ^ i

/-- `v` with field [msb:lsb] made `x` modulo the field's size. -/
def putField (v msb lsb x : Nat) : Nat :=
  v - field v msb lsb * 2 ^ lsb + (x % 2 ^ (msb + 1 - lsb)) * 2 ^ lsb

/-- 1 for true, 0 for false. -/
def b2n (b : Bool) : Nat := if b then 1 else 0

/-- A status word from its bits, bit 0 first. -/
def ofBits : List Bool → Nat
  | [] => 0
  | b :: bs => b2n b + 2 * ofBits bs

/-- Bit `i` of a bit string held in bytes, counted from bit 0 of the first byte (R62). -/
def bytesBit (bs : Bytes) (i : Nat) : Bool := ((bs[i / 8]?).getD 0).getLsbD (i % 8)

/-- A bit string held in bytes with bit `i` made `b` (R62). -/
def putBytesBit (bs : Bytes) (i : Nat) (b : Bool) : Bytes :=
  bs.set (i / 8) (BitVec.ofNat 8 (putBit ((bs[i / 8]?).getD 0).toNat (i % 8) b))

/-- Modulo-2 count of bits, for parity. -/
def parity (v width : Nat) : Bool := (List.range width).foldl (fun p i => p != v.testBit i) false

end Sys2Proof.Machine
end

