-- ==== Sys2Proof/Config.lean ====
section
/-! DEFINITION. What one module's manufacture fixes, and the free values: constants without a body, so that nothing can be
proved of their value. A claim holds whatever they are. -/

namespace Sys2Proof.Config

/-- Factory identity values (Table 2-5, Table 20-8); only their formats are the manual's. -/
opaque moduleSerial : Nat → Nat
opaque moduleIssue : Nat
opaque buildDate : Nat
opaque dieLot : Bytes
opaque dieWafer : Nat
opaque dieX : Nat
opaque dieY : Nat
opaque dieTestDate : Nat
opaque fuseMapDigest : Bytes
opaque moduleMac : Nat
opaque usbMac : Nat
/-- The die's minimum core supply for 150 + 25 k MHz, in mV (0x00_5010.06). -/
opaque supplyMinimum : Nat → Nat
/-- Analogue calibration of a channel, 0 to 7 AI, 8 to 15 AO (Table 13-4): the gains and offsets that the factory measured, 16 bytes; whether the
record has been damaged since, and the 30 bytes that it then holds; whether its trim fuses fail their parity check (R371). -/
opaque calRecord : Nat → Bytes
opaque calDamaged : Nat → Bool
opaque calDamage : Nat → Bytes
opaque trimParityBad : Nat → Bool
/-- The second-order 40 Hz filter of R360, whose coefficients and rounding the manual does not give (DESIGN CHOICE, log entry 127): its two words
of state and the next mean (F32) to the state and the filtered value. -/
opaque hartFilter : BitVec 64 → BitVec 32 → BitVec 64 × BitVec 32
/-- Reference of a word of the full scan that the fuse map gives (R134), by item, place and tick. -/
opaque scanReference : Nat → Nat → Nat → Nat
/-- Program-flow signature of the island's scan (Table 14-10). -/
opaque islandSignature : BitVec 32
/-- IRC trim word of the fuses, and whether it fails its parity (R429). -/
opaque ircTrim : Nat
opaque ircTrimBad : Bool
/-- BootLoaderVersion (Table 2-5). -/
opaque bootLoaderVersion : Nat
/-- A random or unstated value: the n-th one the machine draws (BOOT_ID of Table 3-2, FIELD_EPOCH of Table 12-1,
a transfer ID of R84, a weft header address the manual does not give). -/
opaque freeValue : Nat → BitVec 64
/-- What a sensor of Table 20-8 measures, by its object and the module's own nanoseconds (R528; log entry 158). -/
opaque sensor : Nat → Nat → Nat
/-- Faceplate waveform drive of a grey-level change in one phase (R487), level pairs a, b and phase k. -/
opaque waveform : Nat → Nat → Nat → Int

/-- WAVEFORM of the journal header: the waveform set of the firmware (Table 18-5). -/
opaque waveformSet : Nat

/-- Public keys in the four firmware key slots (R530). -/
opaque firmwareKey : Nat → Bytes
/-- Content and digest of the firmware image that a bank is delivered with (R530). -/
opaque deliveredFirmware : Nat → Bytes
opaque deliveredDigest : Nat → Bytes

end Sys2Proof.Config
end

