-- ==== Sys2Proof/Machine/ObjTable.lean ====
section
/-! DEFINITION. The object dictionary's fixed part: one row for every object of the manual's object tables (Tables 1-5, 2-5,
2-6, 3-7, 4-1, 5-14, 5-15, 6-5, 7-14, 8-9, 8-10, 9-11, 10-2, 11-7, 12-6, 13-6, 14-12, 15-8, 16-7, 17-10, 18-6, 19-4, 20-8), with its
type, access, persistence, default, effect time, AUDIT attribute, scope and range; and the address of each by its name. -/

namespace Sys2Proof.Machine

/-- Data types (Table 2-1). -/
inductive ObjType where
  | bool | u8 | u16 | u32 | u64 | i8 | i16 | i32 | i64 | f32 | f64 | time96
  | octets (n : Nat)
  | vstring
  | domain
  deriving DecidableEq, Repr

/-- Access attributes (Table 2-2). -/
inductive Access where
  | const | ro | rw | wo | rws
  deriving DecidableEq, Repr

/-- Effect times of an accepted write (R43). -/
inductive EffectTime where
  | immediate | weft | boundary | start
  deriving DecidableEq, Repr

/-- The range an object's Meaning states (step 6 of Table 2-3); ranges that depend on other state are in Writes.lean. -/
inductive RangeRule where
  | any
  /-- Unsigned, both ends admitted. -/
  | nat (lo hi : Nat)
  /-- Signed, both ends admitted. -/
  | int (lo hi : Int)
  /-- A writable counter: only 0 (R62). -/
  | zero
  deriving DecidableEq, Repr

/-- One row of an object table: `ixCount` indices from `index` in steps of `ixStride`, `subCount` subindices from `sub`. -/
structure ObjRow where
  name : String
  index : Nat
  ixCount : Nat
  ixStride : Nat
  sub : Nat
  subCount : Nat
  type : ObjType
  access : Access
  persistent : Bool
  dflt : Bytes
  effect : EffectTime
  audit : Bool
  station : Bool
  range : RangeRule
  deriving DecidableEq, Repr

/-- The type code of Table 2-1. -/
def typeCode : ObjType → Nat
  | .bool => 1 | .u8 => 2 | .u16 => 3 | .u32 => 4 | .u64 => 5 | .i8 => 6 | .i16 => 7 | .i32 => 8 | .i64 => 9 | .f32 => 10
  | .f64 => 11 | .time96 => 12 | .octets _ => 13 | .vstring => 14 | .domain => 15

/-- The size of a value in bytes (Table 2-1); a VSTRING has its length byte at least, a DOMAIN no fixed size. -/
def typeSize : ObjType → Nat
  | .bool => 1 | .u8 => 1 | .u16 => 2 | .u32 => 4 | .u64 => 8 | .i8 => 1 | .i16 => 2 | .i32 => 4 | .i64 => 8 | .f32 => 4
  | .f64 => 8 | .time96 => 12 | .octets n => n | .vstring => 1 | .domain => 0

/-- A VSTRING value (Table 2-1): the length byte, then the bytes. -/
def vstr (s : String) : Bytes := leBytes 1 s.length ++ asciiBytes s

/-- ModuleSerial (Table 2-5): 12 characters 0-9 and A-Z. -/
def moduleSerialValue : Bytes := (List.range 12).map fun i =>
  let c := Config.moduleSerial i % 36
  byte (if c < 10 then 48 + c else 55 + c)

/-- The two factory MAC addresses (R528), from the block 06-D1-0C. -/
def moduleMacValue : Bytes := [0x06, 0xD1, 0x0C] ++ beBytes 3 Config.moduleMac
def usbMacValue : Bytes := [0x06, 0xD1, 0x0C] ++ beBytes 3 Config.usbMac

/-- The most that a die's fuses hold for 150 + 25 k MHz (R146, Table 16-7): up to 600 MHz, 600 mV + (f - 150) / 3 mV rounded up to a multiple
of 5; 850 mV above. -/
def supplyMinimumMost (k : Nat) : Nat := if k ≤ 18 then (1800 + 25 * k + 14) / 15 * 5 else 850

/-- SupplyMinimum (Table 16-7): 27 U16 in mV. -/
def supplyMinimumValue : Bytes := (List.range 27).flatMap fun k => leBytes 2 (min (supplyMinimumMost k) (Config.supplyMinimum k))

/-- The objects of Table 1-5. -/
def objTable1_5 : List ObjRow := [
  ⟨"StationState", 0x1000, 1, 1, 0x01, 1, .u8, .ro, false, [], .immediate, false, false, .any⟩,
  ⟨"StationStateDetail", 0x1000, 1, 1, 0x02, 1, .u16, .ro, false, [], .immediate, false, false, .any⟩,
  ⟨"HoldCause", 0x1000, 1, 1, 0x03, 1, .u16, .ro, false, [], .immediate, false, false, .any⟩,
  ⟨"StationCommand", 0x1001, 1, 1, 0x01, 1, .u8, .wo, false, [], .boundary, true, false, .any⟩,
  ⟨"CommandTick", 0x1001, 1, 1, 0x02, 1, .u64, .rw, false, [], .immediate, false, false, .any⟩,
  ⟨"CommandResult", 0x1001, 1, 1, 0x03, 1, .u8, .ro, false, [], .immediate, false, false, .any⟩,
  ⟨"StartMode", 0x1003, 1, 1, 0x01, 1, .u8, .rw, true, leBytes 1 0x2, .immediate, true, false, .nat 0 2⟩,
  ⟨"Profile", 0x1004, 1, 1, 0x01, 1, .u8, .rw, true, leBytes 1 0x2, .boundary, true, true, .nat 1 3⟩,
  ⟨"ActiveProfile", 0x1004, 1, 1, 0x02, 1, .u8, .ro, false, [], .immediate, false, false, .any⟩]

/-- A month's days in the Gregorian calendar. -/
def monthDays (y m : Nat) : Nat :=
  if m = 2 then (if y % 4 = 0 && (y % 100 ≠ 0 || y % 400 = 0) then 29 else 28) else if [4, 6, 9, 11].contains m then 30 else 31

/-- A date as the decimal number yyyymmdd (Table 2-5), for each value of a free constant; every date is one of them. -/
def dateNumber (n : Nat) : Nat :=
  let y := n / 372 % 10000
  let m := n / 31 % 12 + 1
  y * 10000 + m * 100 + n % 31 % monthDays y m + 1

/-- Seven ASCII characters, of any code. -/
def dieLotValue : Bytes := (fit 7 Config.dieLot).map fun b => byte (b.toNat % 128)

/-- The objects of Table 2-5. -/
def objTable2_5 : List ObjRow := [
  ⟨"VendorName", 0x0, 1, 1, 0x01, 1, .vstring, .const, false, vstr "Dolxo Marine Automation", .immediate, false, false, .any⟩,
  ⟨"ProductName", 0x0, 1, 1, 0x02, 1, .vstring, .const, false, vstr "Coriz PS9", .immediate, false, false, .any⟩,
  ⟨"PartNumber", 0x0, 1, 1, 0x03, 1, .vstring, .const, false, vstr "CZ9P-001", .immediate, false, false, .any⟩,
  ⟨"DictionaryVersion", 0x0, 1, 1, 0x04, 1, .u32, .ro, false, [], .immediate, false, false, .any⟩,
  ⟨"ModuleSerial", 0x1, 1, 1, 0x01, 1, (.octets 12), .const, false, moduleSerialValue, .immediate, false, false, .any⟩,
  ⟨"ModuleIssue", 0x1, 1, 1, 0x02, 1, .u8, .const, false, leBytes 1 (65 + Config.moduleIssue % 26), .immediate, false, false, .any⟩,
  ⟨"BuildDate", 0x1, 1, 1, 0x03, 1, .u32, .const, false, leBytes 4 (dateNumber Config.buildDate), .immediate, false, false, .any⟩,
  ⟨"DieLot", 0x2, 1, 1, 0x01, 1, (.octets 7), .const, false, dieLotValue, .immediate, false, false, .any⟩,
  ⟨"DieWafer", 0x2, 1, 1, 0x02, 1, .u8, .const, false, leBytes 1 (1 + Config.dieWafer % 25), .immediate, false, false, .any⟩,
  ⟨"DieX", 0x2, 1, 1, 0x03, 1, .i8, .const, false, leBytes 1 Config.dieX, .immediate, false, false, .any⟩,
  ⟨"DieY", 0x2, 1, 1, 0x04, 1, .i8, .const, false, leBytes 1 Config.dieY, .immediate, false, false, .any⟩,
  ⟨"DieTestDate", 0x2, 1, 1, 0x05, 1, .u32, .const, false, leBytes 4 (dateNumber Config.dieTestDate), .immediate, false, false, .any⟩,
  ⟨"SpeedGrade", 0x2, 1, 1, 0x06, 1, .u8, .const, false, leBytes 1 8, .immediate, false, false, .any⟩,
  ⟨"ActiveFirmwareBank", 0x3, 1, 1, 0x01, 1, .u8, .ro, false, [], .immediate, false, false, .any⟩,
  ⟨"FirmwareVersionA", 0x3, 1, 1, 0x02, 1, .u32, .ro, false, [], .immediate, false, false, .any⟩,
  ⟨"FirmwareVersionB", 0x3, 1, 1, 0x03, 1, .u32, .ro, false, [], .immediate, false, false, .any⟩,
  ⟨"FirmwareDigestA", 0x3, 1, 1, 0x04, 1, (.octets 32), .ro, false, [], .immediate, false, false, .any⟩,
  ⟨"FirmwareDigestB", 0x3, 1, 1, 0x05, 1, (.octets 32), .ro, false, [], .immediate, false, false, .any⟩,
  ⟨"BootLoaderVersion", 0x3, 1, 1, 0x06, 1, .u32, .ro, false, [], .immediate, false, false, .any⟩,
  ⟨"ActiveWarpBank", 0x4, 1, 1, 0x01, 1, .u8, .ro, false, [], .immediate, false, false, .any⟩,
  ⟨"WarpDigestA", 0x4, 1, 1, 0x02, 1, (.octets 32), .ro, false, [], .immediate, false, false, .any⟩,
  ⟨"WarpDigestB", 0x4, 1, 1, 0x03, 1, (.octets 32), .ro, false, [], .immediate, false, false, .any⟩,
  ⟨"SafetySetDigest", 0x4, 1, 1, 0x04, 1, (.octets 32), .ro, false, [], .immediate, false, false, .any⟩,
  ⟨"FuseMapDigest", 0x5, 1, 1, 0x01, 1, (.octets 32), .const, false, fit 32 Config.fuseMapDigest, .immediate, false, false, .any⟩,
  ⟨"FuseMapStatus", 0x5, 1, 1, 0x02, 1, .u8, .ro, false, [], .immediate, false, false, .any⟩]

/-- The objects of Table 2-6. -/
def objTable2_6 : List ObjRow := [
  ⟨"ResetRequest", 0x1002, 1, 1, 0x01, 1, .u8, .wo, false, [], .immediate, true, false, .any⟩,
  ⟨"LayupWake", 0x1005, 1, 1, 0x01, 1, .u8, .rw, true, leBytes 1 0x3, .immediate, true, false, .nat 0 15⟩,
  ⟨"LayupAlarm", 0x1005, 1, 1, 0x02, 1, .time96, .rw, true, [], .immediate, true, false, .any⟩,
  ⟨"PairEnable", 0x1006, 1, 1, 0x01, 1, .bool, .rws, true, [], .start, true, false, .any⟩,
  ⟨"RoleContact", 0x1006, 1, 1, 0x02, 1, .u8, .ro, false, [], .immediate, false, false, .any⟩,
  ⟨"PartnerState", 0x1006, 1, 1, 0x03, 1, .u8, .ro, false, leBytes 1 0xFF, .immediate, false, false, .any⟩,
  ⟨"RestoreFirst", 0x1010, 1, 1, 0x01, 1, .u32, .rw, false, [], .immediate, false, false, .nat 0 16777215⟩,
  ⟨"RestoreLast", 0x1010, 1, 1, 0x02, 1, .u32, .rw, false, [], .immediate, false, false, .nat 0 16777215⟩,
  ⟨"RestoreCommand", 0x1010, 1, 1, 0x03, 1, .u32, .wo, false, [], .immediate, true, false, .any⟩,
  ⟨"RestoreResult", 0x1010, 1, 1, 0x04, 1, .u8, .ro, false, [], .immediate, false, false, .any⟩,
  ⟨"WritesAccepted", 0x1012, 1, 1, 0x01, 1, .u32, .ro, false, [], .immediate, false, false, .any⟩,
  ⟨"WritesRefused", 0x1012, 1, 1, 0x02, 1, .u32, .ro, false, [], .immediate, false, false, .any⟩,
  ⟨"AuditTallies", 0x1012, 1, 1, 0x03, 1, .u32, .ro, false, [], .immediate, false, false, .any⟩,
  ⟨"DamagedRecords", 0x1012, 1, 1, 0x04, 1, .u16, .ro, false, [], .immediate, false, false, .any⟩,
  ⟨"CounterOverflow", 0x1012, 1, 1, 0xFF, 1, (.octets 32), .ro, false, [], .immediate, false, false, .any⟩]

/-- The objects of Table 3-7. -/
def objTable3_7 : List ObjRow := [
  ⟨"NodeBase", 0x2100, 1, 1, 0x01, 1, .u16, .rws, true, leBytes 2 0x100, .start, true, false, .nat 1 65279⟩,
  ⟨"ModuleNode", 0x2100, 1, 1, 0x02, 1, .u16, .ro, false, [], .immediate, false, false, .any⟩,
  ⟨"StationNode", 0x2100, 1, 1, 0x03, 1, .u16, .rws, true, [], .start, true, true, .nat 0 65534⟩,
  ⟨"IPv4Address", 0x2101, 1, 1, 0x01, 1, (.octets 4), .rws, true, [], .start, true, false, .any⟩,
  ⟨"IPv4Mask", 0x2101, 1, 1, 0x02, 1, (.octets 4), .rws, true, [255, 255, 255, 0], .start, true, false, .any⟩,
  ⟨"IPv4Gateway", 0x2101, 1, 1, 0x03, 1, (.octets 4), .rws, true, [], .start, true, false, .any⟩,
  ⟨"VlanId", 0x2101, 1, 1, 0x04, 1, .u16, .rws, true, [], .start, true, false, .nat 0 4094⟩,
  ⟨"ClpPort", 0x2102, 1, 1, 0x01, 1, .u16, .rws, true, leBytes 2 0xBB8A, .start, true, false, .nat 1024 65535⟩,
  ⟨"PdPort", 0x2102, 1, 1, 0x02, 1, .u16, .ro, false, [], .immediate, false, false, .any⟩,
  ⟨"JumboDeclared", 0x2102, 1, 1, 0x03, 1, .bool, .ro, false, [], .immediate, false, false, .any⟩,
  ⟨"AuthModeNetwork", 0x2103, 1, 1, 0x01, 1, .u8, .rws, true, [], .immediate, true, false, .nat 0 2⟩,
  ⟨"AuthModeUsb", 0x2103, 1, 1, 0x02, 1, .u8, .rws, true, [], .immediate, true, false, .nat 0 2⟩,
  ⟨"RatePackets", 0x2104, 1, 1, 0x01, 1, .u16, .rw, true, leBytes 2 0x7D0, .immediate, true, false, .nat 100 20000⟩,
  ⟨"RateBitsPerSecond", 0x2104, 1, 1, 0x02, 1, .u32, .rw, true, leBytes 4 0x4E20, .immediate, true, false, .nat 1000 200000⟩,
  ⟨"RatePerSource", 0x2104, 1, 1, 0x03, 1, .u16, .rw, true, leBytes 2 0x1F4, .immediate, true, false, .nat 10 20000⟩,
  ⟨"RequestsExecuted", 0x2105, 1, 1, 0x01, 1, .u32, .rw, false, [], .immediate, false, false, .zero⟩,
  ⟨"RateDropped", 0x2105, 1, 1, 0x02, 1, .u32, .rw, false, [], .immediate, false, false, .zero⟩,
  ⟨"AuthFailures", 0x2105, 1, 1, 0x03, 1, .u32, .rw, false, [], .immediate, false, false, .zero⟩,
  ⟨"BadHeader", 0x2105, 1, 1, 0x04, 1, .u32, .rw, false, [], .immediate, false, false, .zero⟩,
  ⟨"SequenceRefused", 0x2105, 1, 1, 0x05, 1, .u32, .rw, false, [], .immediate, false, false, .zero⟩,
  ⟨"PdDropped", 0x2105, 1, 1, 0x06, 1, .u32, .rw, false, [], .immediate, false, false, .zero⟩,
  ⟨"FramesDiscarded", 0x2105, 1, 1, 0x07, 1, .u32, .rw, false, [], .immediate, false, false, .zero⟩,
  ⟨"ArpUnresolved", 0x2105, 1, 1, 0x08, 1, .u32, .rw, false, [], .immediate, false, false, .zero⟩,
  ⟨"CounterOverflow", 0x2105, 1, 1, 0xFF, 1, (.octets 32), .ro, false, [], .immediate, false, false, .any⟩]

/-- The objects of Table 4-1. -/
def objTable4_1 : List ObjRow := [
  ⟨"TickOffset", 0x1008, 1, 1, 0x01, 1, .u32, .rws, true, [], .start, true, false, .nat 0 249999⟩,
  ⟨"LockWait", 0x1008, 1, 1, 0x02, 1, .u16, .rw, true, leBytes 2 0x1E, .immediate, true, false, .nat 0 3600⟩,
  ⟨"CurrentTick", 0x1008, 1, 1, 0x03, 1, .u64, .ro, false, [], .immediate, false, false, .any⟩,
  ⟨"TickSource", 0x1008, 1, 1, 0x04, 1, .u8, .ro, false, leBytes 1 0x3, .immediate, false, false, .any⟩,
  ⟨"RateAdjust", 0x1008, 1, 1, 0x05, 1, .i32, .ro, false, [], .immediate, false, false, .any⟩,
  ⟨"StepHeld", 0x1008, 1, 1, 0x06, 1, .bool, .ro, false, [], .immediate, false, false, .any⟩,
  ⟨"SnapshotMissingA", 0x1009, 1, 1, 0x01, 1, .u32, .rw, false, [], .immediate, false, false, .zero⟩,
  ⟨"SnapshotMissingB", 0x1009, 1, 1, 0x02, 1, .u32, .rw, false, [], .immediate, false, false, .zero⟩,
  ⟨"SnapshotMissingC", 0x1009, 1, 1, 0x03, 1, .u32, .rw, false, [], .immediate, false, false, .zero⟩,
  ⟨"PdSuperseded", 0x1009, 1, 1, 0x04, 1, .u32, .rw, false, [], .immediate, false, false, .zero⟩,
  ⟨"CanSuperseded", 0x1009, 1, 1, 0x05, 1, .u32, .rw, false, [], .immediate, false, false, .zero⟩,
  ⟨"WritesSuperseded", 0x1009, 1, 1, 0x06, 1, .u32, .rw, false, [], .immediate, false, false, .zero⟩,
  ⟨"StaleEntries", 0x1009, 1, 1, 0x07, 1, .u32, .rw, false, [], .immediate, false, false, .zero⟩,
  ⟨"CounterOverflow", 0x1009, 1, 1, 0xFF, 1, (.octets 32), .ro, false, [], .immediate, false, false, .any⟩]

/-- The objects of Table 5-14. -/
def objTable5_14 : List ObjRow := [
  ⟨"SelectedBank", 0x8000, 1, 1, 0x01, 1, .u8, .rws, true, [], .start, true, false, .nat 0 1⟩,
  ⟨"ActivateBank", 0x8000, 1, 1, 0x02, 1, .u8, .wo, false, [], .boundary, true, true, .any⟩,
  ⟨"ActivateTick", 0x8000, 1, 1, 0x03, 1, .u64, .rw, false, [], .immediate, false, true, .any⟩,
  ⟨"ActivationResult", 0x8000, 1, 1, 0x04, 1, .u8, .ro, false, [], .immediate, false, false, .any⟩,
  ⟨"ActivationDetail", 0x8000, 1, 1, 0x05, 1, .u16, .ro, false, [], .immediate, false, false, .any⟩,
  ⟨"PendingTick", 0x8000, 1, 1, 0x06, 1, .u64, .ro, false, [], .immediate, false, false, .any⟩,
  ⟨"ActivateCancel", 0x8000, 1, 1, 0x07, 1, .u8, .wo, false, [], .immediate, true, true, .any⟩,
  ⟨"WorstExecSatin", 0x8003, 1, 1, 0x01, 1, .u32, .ro, false, [], .immediate, false, false, .any⟩,
  ⟨"WorstExecTwill", 0x8003, 1, 1, 0x02, 1, .u32, .ro, false, [], .immediate, false, false, .any⟩,
  ⟨"WorstExecCanvas", 0x8003, 1, 1, 0x03, 1, .u32, .ro, false, [], .immediate, false, false, .any⟩,
  ⟨"WorstTickSatin", 0x8003, 1, 1, 0x04, 1, .u16, .ro, false, [], .immediate, false, false, .any⟩,
  ⟨"WorstTickTwill", 0x8003, 1, 1, 0x05, 1, .u16, .ro, false, [], .immediate, false, false, .any⟩,
  ⟨"WorstTickCanvas", 0x8003, 1, 1, 0x06, 1, .u16, .ro, false, [], .immediate, false, false, .any⟩,
  ⟨"WarpBankA", 0x200000, 1, 1, 0x01, 1, .domain, .rw, false, [], .immediate, false, false, .any⟩,
  ⟨"WarpBankB", 0x200000, 1, 1, 0x02, 1, .domain, .rw, false, [], .immediate, false, false, .any⟩]

/-- The objects of Table 5-15. -/
def objTable5_15 : List ObjRow := [
  ⟨"BankState", 0x8001, 2, 1, 0x01, 1, .u8, .ro, false, [], .immediate, false, false, .any⟩,
  ⟨"RefusalReason", 0x8001, 2, 1, 0x02, 1, .u16, .ro, false, [], .immediate, false, false, .any⟩,
  ⟨"RefusalDetail", 0x8001, 2, 1, 0x03, 1, .u32, .ro, false, [], .immediate, false, false, .any⟩,
  ⟨"ProvenProfiles", 0x8001, 2, 1, 0x04, 1, .u8, .ro, false, [], .immediate, false, false, .any⟩,
  ⟨"LayoutDigest", 0x8001, 2, 1, 0x05, 1, (.octets 32), .ro, false, [], .immediate, false, false, .any⟩,
  ⟨"ImageLength", 0x8001, 2, 1, 0x06, 1, .u32, .ro, false, [], .immediate, false, false, .any⟩,
  ⟨"BuildTime", 0x8001, 2, 1, 0x07, 1, .time96, .ro, false, [], .immediate, false, false, .any⟩,
  ⟨"ApplicationName", 0x8001, 2, 1, 0x08, 1, .vstring, .ro, false, [0], .immediate, false, false, .any⟩,
  ⟨"OpkorVersion", 0x8001, 2, 1, 0x09, 1, .u32, .ro, false, [], .immediate, false, false, .any⟩]

/-- The objects of Table 6-5. -/
def objTable6_5 : List ObjRow := [
  ⟨"CycleTableVersion", 0x5200, 1, 1, 0x01, 1, .u32, .const, false, leBytes 4 0x10000, .immediate, false, false, .any⟩,
  ⟨"LockstepMismatches", 0x5200, 1, 1, 0x02, 1, .u32, .rw, false, [], .immediate, false, false, .zero⟩,
  ⟨"Reexecutions", 0x5200, 1, 1, 0x03, 1, .u32, .rw, false, [], .immediate, false, false, .zero⟩,
  ⟨"ProtectedStores", 0x5200, 1, 1, 0x04, 1, .u32, .rw, false, [], .immediate, false, false, .zero⟩,
  ⟨"LastMismatch", 0x5200, 1, 1, 0x05, 1, .u32, .ro, false, [], .immediate, false, false, .any⟩,
  ⟨"CounterOverflow", 0x5200, 1, 1, 0xFF, 1, (.octets 32), .ro, false, [], .immediate, false, false, .any⟩]

/-- The objects of Table 7-14. -/
def objTable7_14 : List ObjRow := [
  ⟨"ScreenRepeats", 0x5210, 1, 1, 0x01, 1, .u32, .rw, false, [], .immediate, false, false, .zero⟩,
  ⟨"ScreenSkips", 0x5210, 1, 1, 0x02, 1, .u32, .rw, false, [], .immediate, false, false, .zero⟩,
  ⟨"AlarmTalliesLost", 0x5210, 1, 1, 0x03, 1, .u32, .rw, false, [], .immediate, false, false, .zero⟩,
  ⟨"ForcedPoints", 0x5210, 1, 1, 0x04, 1, .u32, .ro, false, [], .immediate, false, false, .any⟩,
  ⟨"ActiveAlarms", 0x5210, 1, 1, 0x05, 1, .u32, .ro, false, [], .immediate, false, false, .any⟩,
  ⟨"UnackedAlarms", 0x5210, 1, 1, 0x06, 1, .u32, .ro, false, [], .immediate, false, false, .any⟩,
  ⟨"CounterOverflow", 0x5210, 1, 1, 0xFF, 1, (.octets 32), .ro, false, [], .immediate, false, false, .any⟩]

/-- The objects of Table 8-9. -/
def objTable8_9 : List ObjRow := [
  ⟨"TableRamCorrected", 0x5220, 1, 1, 0x01, 1, .u32, .rw, false, [], .immediate, false, false, .zero⟩,
  ⟨"TableRamUncorrectable", 0x5220, 1, 1, 0x02, 1, .u32, .rw, false, [], .immediate, false, false, .zero⟩,
  ⟨"BindingMisses", 0x5220, 1, 1, 0x03, 1, .u32, .rw, false, [], .immediate, false, false, .zero⟩,
  ⟨"LoopRepeats", 0x5220, 1, 1, 0x04, 1, .u32, .rw, false, [], .immediate, false, false, .zero⟩,
  ⟨"LoopMisses", 0x5220, 1, 1, 0x05, 1, .u32, .rw, false, [], .immediate, false, false, .zero⟩,
  ⟨"LoopsInHold", 0x5220, 1, 1, 0x06, 1, .u16, .ro, false, [], .immediate, false, false, .any⟩,
  ⟨"LoopsInEnvelope", 0x5220, 1, 1, 0x07, 1, .u16, .ro, false, [], .immediate, false, false, .any⟩,
  ⟨"CounterOverflow", 0x5220, 1, 1, 0xFF, 1, (.octets 32), .ro, false, [], .immediate, false, false, .any⟩]

/-- The objects of Table 9-11. -/
def objTable9_11 : List ObjRow := [
  ⟨"PrpState", 0x2110, 1, 1, 0x01, 1, .u8, .ro, false, leBytes 1 0x3, .immediate, false, false, .any⟩,
  ⟨"PathTimeout", 0x2110, 1, 1, 0x02, 1, .u16, .rw, true, leBytes 2 0x64, .immediate, true, false, .nat 10 10000⟩,
  ⟨"RxFrames", 0x2111, 2, 1, 0x01, 1, .u32, .rw, false, [], .immediate, false, false, .zero⟩,
  ⟨"TxFrames", 0x2111, 2, 1, 0x02, 1, .u32, .rw, false, [], .immediate, false, false, .zero⟩,
  ⟨"WrongLan", 0x2111, 2, 1, 0x03, 1, .u32, .rw, false, [], .immediate, false, false, .zero⟩,
  ⟨"Unique", 0x2111, 2, 1, 0x04, 1, .u32, .rw, false, [], .immediate, false, false, .zero⟩,
  ⟨"Duplicates", 0x2111, 2, 1, 0x05, 1, .u32, .rw, false, [], .immediate, false, false, .zero⟩,
  ⟨"PathLosses", 0x2111, 2, 1, 0x06, 1, .u32, .rw, false, [], .immediate, false, false, .zero⟩,
  ⟨"CounterOverflow", 0x2111, 2, 1, 0xFF, 1, (.octets 32), .ro, false, [], .immediate, false, false, .any⟩,
  ⟨"SeamState", 0x2120, 1, 1, 0x01, 1, .u8, .ro, false, [], .immediate, false, false, .any⟩,
  ⟨"SeamRefusal", 0x2120, 1, 1, 0x02, 1, .u8, .ro, false, [], .immediate, false, false, .any⟩,
  ⟨"SeamKeyId", 0x2120, 1, 1, 0x03, 1, .u8, .rws, true, [], .start, true, false, .nat 0 1⟩,
  ⟨"SeamEncrypt", 0x2120, 1, 1, 0x04, 1, .bool, .rws, true, [], .start, true, false, .any⟩,
  ⟨"SeamProtocolVersion", 0x2120, 1, 1, 0x05, 1, .u16, .const, false, leBytes 2 0x1, .immediate, false, false, .any⟩,
  ⟨"StationIPv4", 0x2121, 1, 1, 0x01, 1, (.octets 4), .rws, true, [], .start, true, false, .any⟩,
  ⟨"StationMac", 0x2121, 1, 1, 0x02, 1, (.octets 6), .ro, false, [], .immediate, false, false, .any⟩,
  ⟨"PartnerNode", 0x2121, 1, 1, 0x03, 1, .u16, .ro, true, [], .immediate, false, false, .any⟩,
  ⟨"PartnerIPv4", 0x2121, 1, 1, 0x04, 1, (.octets 4), .ro, true, [], .immediate, false, false, .any⟩,
  ⟨"PartnerMac", 0x2121, 1, 1, 0x05, 1, (.octets 6), .ro, true, [], .immediate, false, false, .any⟩,
  ⟨"PartnerSerial", 0x2121, 1, 1, 0x06, 1, (.octets 12), .ro, true, [], .immediate, false, false, .any⟩,
  ⟨"SyncState", 0x2122, 1, 1, 0x01, 1, .u8, .ro, false, [], .immediate, false, false, .any⟩,
  ⟨"SyncProgress", 0x2122, 1, 1, 0x02, 1, .u32, .ro, false, [], .immediate, false, false, .any⟩,
  ⟨"LastMatchedTick", 0x2122, 1, 1, 0x03, 1, .u64, .ro, false, [], .immediate, false, false, .any⟩,
  ⟨"HeartbeatMisses", 0x2122, 1, 1, 0x04, 1, .u8, .ro, false, [], .immediate, false, false, .any⟩,
  ⟨"Sidebands", 0x2122, 1, 1, 0x05, 1, .u8, .ro, false, [], .immediate, false, false, .any⟩,
  ⟨"PartnerVisible", 0x2122, 1, 1, 0x06, 1, .bool, .ro, false, [], .immediate, false, false, .any⟩,
  ⟨"LastTakeoverTick", 0x2122, 1, 1, 0x07, 1, .u64, .ro, false, [], .immediate, false, false, .any⟩,
  ⟨"PresenceDelayMax", 0x2122, 1, 1, 0x08, 1, .u32, .ro, false, [], .immediate, false, false, .any⟩,
  ⟨"SeamRetransmits", 0x2123, 1, 1, 0x01, 1, .u32, .rw, false, [], .immediate, false, false, .zero⟩,
  ⟨"SeamAuthFailures", 0x2123, 1, 1, 0x02, 1, .u32, .rw, false, [], .immediate, false, false, .zero⟩,
  ⟨"HeartbeatsMissed", 0x2123, 1, 1, 0x03, 1, .u32, .rw, false, [], .immediate, false, false, .zero⟩,
  ⟨"GapWefts", 0x2123, 1, 1, 0x04, 1, .u32, .rw, false, [], .immediate, false, false, .zero⟩,
  ⟨"DigestMismatches", 0x2123, 1, 1, 0x05, 1, .u32, .rw, false, [], .immediate, false, false, .zero⟩,
  ⟨"Joins", 0x2123, 1, 1, 0x06, 1, .u32, .rw, false, [], .immediate, false, false, .zero⟩,
  ⟨"Takeovers", 0x2123, 1, 1, 0x07, 1, .u32, .rw, false, [], .immediate, false, false, .zero⟩,
  ⟨"FenceAssertions", 0x2123, 1, 1, 0x08, 1, .u32, .rw, false, [], .immediate, false, false, .zero⟩,
  ⟨"CounterOverflow", 0x2123, 1, 1, 0xFF, 1, (.octets 32), .ro, false, [], .immediate, false, false, .any⟩]

/-- The objects of Table 10-2. -/
def objTable10_2 : List ObjRow := [
  ⟨"PtpEnable", 0x2130, 1, 1, 0x01, 1, .bool, .rws, true, [1], .start, true, false, .any⟩,
  ⟨"PtpDomain", 0x2130, 1, 1, 0x02, 1, .u8, .rws, true, [], .start, true, false, .nat 0 127⟩,
  ⟨"PtpMode", 0x2130, 1, 1, 0x03, 1, .u8, .rws, true, [], .start, true, false, .nat 0 1⟩,
  ⟨"PtpDelayMechanism", 0x2130, 1, 1, 0x04, 1, .u8, .rws, true, leBytes 1 0x1, .start, true, false, .nat 1 2⟩,
  ⟨"PtpTransport", 0x2130, 1, 1, 0x05, 1, .u8, .rws, true, leBytes 1 0x1, .start, true, false, .nat 1 2⟩,
  ⟨"PtpPriority1", 0x2130, 1, 1, 0x06, 1, .u8, .rws, true, leBytes 1 0x80, .start, true, false, .any⟩,
  ⟨"PtpPriority2", 0x2130, 1, 1, 0x07, 1, .u8, .rws, true, leBytes 1 0x80, .start, true, false, .any⟩,
  ⟨"PtpLogSyncInterval", 0x2130, 1, 1, 0x08, 1, .i8, .rws, true, leBytes 1 0xFD, .start, true, false, .int (-4) 1⟩,
  ⟨"PtpLogAnnounceInterval", 0x2130, 1, 1, 0x09, 1, .i8, .rws, true, [], .start, true, false, .int (-3) 3⟩,
  ⟨"PtpAnnounceTimeout", 0x2130, 1, 1, 0x0A, 1, .u8, .rws, true, leBytes 1 0x3, .start, true, false, .nat 2 10⟩,
  ⟨"PtpLogMinDelayInterval", 0x2130, 1, 1, 0x0B, 1, .i8, .rws, true, leBytes 1 0xFD, .start, true, false, .int (-4) 4⟩,
  ⟨"PtpTimeState", 0x2131, 1, 1, 0x01, 1, .u8, .ro, false, [], .immediate, false, false, .any⟩,
  ⟨"ParentIdentity", 0x2131, 1, 1, 0x02, 1, (.octets 10), .ro, false, [], .immediate, false, false, .any⟩,
  ⟨"GrandmasterIdentity", 0x2131, 1, 1, 0x03, 1, (.octets 8), .ro, false, [], .immediate, false, false, .any⟩,
  ⟨"OffsetFromMaster", 0x2131, 1, 1, 0x04, 1, .i64, .ro, false, [], .immediate, false, false, .any⟩,
  ⟨"MeanPathDelay", 0x2131, 1, 1, 0x05, 1, .u32, .ro, false, [], .immediate, false, false, .any⟩,
  ⟨"TimePort", 0x2131, 1, 1, 0x06, 1, .u8, .ro, false, leBytes 1 0xFF, .immediate, false, false, .any⟩,
  ⟨"RefusedOffset", 0x2131, 1, 1, 0x07, 1, .i64, .ro, false, [], .immediate, false, false, .any⟩,
  ⟨"UtcOffset", 0x2131, 1, 1, 0x08, 1, .i16, .ro, false, [], .immediate, false, false, .any⟩,
  ⟨"HoldoverSince", 0x2131, 1, 1, 0x09, 1, .time96, .ro, false, [], .immediate, false, false, .any⟩,
  ⟨"RtcLost", 0x2131, 1, 1, 0x0A, 1, .bool, .ro, false, [], .immediate, false, false, .any⟩,
  ⟨"PortState", 0x2132, 2, 1, 0x01, 1, .u8, .ro, false, leBytes 1 0x1, .immediate, false, false, .any⟩,
  ⟨"PortOffset", 0x2132, 2, 1, 0x02, 1, .i64, .ro, false, [], .immediate, false, false, .any⟩,
  ⟨"PortPathDelay", 0x2132, 2, 1, 0x03, 1, .u32, .ro, false, [], .immediate, false, false, .any⟩,
  ⟨"PortAsymmetry", 0x2132, 2, 1, 0x04, 1, .i32, .rw, true, [], .immediate, true, false, .int (-1000000) 1000000⟩,
  ⟨"SyncReceived", 0x2132, 2, 1, 0x05, 1, .u32, .rw, false, [], .immediate, false, false, .zero⟩,
  ⟨"AnnounceTimeouts", 0x2132, 2, 1, 0x06, 1, .u32, .rw, false, [], .immediate, false, false, .zero⟩,
  ⟨"CounterOverflow", 0x2132, 2, 1, 0xFF, 1, (.octets 32), .ro, false, [], .immediate, false, false, .any⟩,
  ⟨"JumpThreshold", 0x2134, 1, 1, 0x01, 1, .u32, .rw, true, leBytes 4 0xF4240, .immediate, true, false, .nat 10000 1000000000⟩,
  ⟨"ReStepPermit", 0x2134, 1, 1, 0x02, 1, .u8, .wo, false, [], .immediate, true, false, .any⟩,
  ⟨"ReStepArmed", 0x2134, 1, 1, 0x03, 1, .bool, .ro, false, [], .immediate, false, false, .any⟩,
  ⟨"TimeSet", 0x2134, 1, 1, 0x04, 1, .time96, .wo, false, [], .immediate, true, false, .any⟩,
  ⟨"HoldoverEntry", 0x2134, 1, 1, 0x05, 1, .u16, .rw, true, leBytes 2 0x3E8, .immediate, true, false, .nat 250 10000⟩,
  ⟨"PpsOutMode", 0x2135, 1, 1, 0x01, 1, .u8, .rw, true, leBytes 1 0x1, .immediate, true, false, .nat 0 2⟩,
  ⟨"PpsOutInHoldover", 0x2135, 1, 1, 0x02, 1, .bool, .rw, true, [1], .immediate, true, false, .any⟩,
  ⟨"PpsInEnable", 0x2135, 1, 1, 0x03, 1, .bool, .rw, true, [], .immediate, true, false, .any⟩,
  ⟨"PpsInLast", 0x2135, 1, 1, 0x04, 1, (.octets 16), .ro, false, [], .immediate, false, false, .any⟩,
  ⟨"PpsInOffset", 0x2135, 1, 1, 0x05, 1, .i32, .ro, false, [], .immediate, false, false, .any⟩,
  ⟨"PpsInGlitches", 0x2135, 1, 1, 0x06, 1, .u32, .rw, false, [], .immediate, false, false, .zero⟩,
  ⟨"Steps", 0x2136, 1, 1, 0x01, 1, .u32, .rw, false, [], .immediate, false, false, .zero⟩,
  ⟨"JumpsRefused", 0x2136, 1, 1, 0x02, 1, .u32, .rw, false, [], .immediate, false, false, .zero⟩,
  ⟨"GrandmasterChanges", 0x2136, 1, 1, 0x03, 1, .u32, .rw, false, [], .immediate, false, false, .zero⟩,
  ⟨"HoldoverEntries", 0x2136, 1, 1, 0x04, 1, .u32, .rw, false, [], .immediate, false, false, .zero⟩,
  ⟨"PtpDiscarded", 0x2136, 1, 1, 0x05, 1, .u32, .rw, false, [], .immediate, false, false, .zero⟩,
  ⟨"CounterOverflow", 0x2136, 1, 1, 0xFF, 1, (.octets 32), .ro, false, [], .immediate, false, false, .any⟩]

/-- The objects of Table 11-7. -/
def objTable11_7 : List ObjRow := [
  ⟨"CanEnable", 0x2210, 8, 16, 0x01, 1, .bool, .rws, true, [], .immediate, true, false, .any⟩,
  ⟨"NominalPrescaler", 0x2210, 8, 16, 0x02, 1, .u16, .rws, true, leBytes 2 0x8, .immediate, true, false, .nat 1 256⟩,
  ⟨"NominalTseg1", 0x2210, 8, 16, 0x03, 1, .u16, .rws, true, leBytes 2 0xF, .immediate, true, false, .nat 2 256⟩,
  ⟨"NominalTseg2", 0x2210, 8, 16, 0x04, 1, .u8, .rws, true, leBytes 1 0x4, .immediate, true, false, .nat 2 128⟩,
  ⟨"NominalSjw", 0x2210, 8, 16, 0x05, 1, .u8, .rws, true, leBytes 1 0x4, .immediate, true, false, .nat 1 128⟩,
  ⟨"DataPrescaler", 0x2210, 8, 16, 0x06, 1, .u8, .rws, true, leBytes 1 0x2, .immediate, true, false, .nat 1 32⟩,
  ⟨"DataTseg1", 0x2210, 8, 16, 0x07, 1, .u8, .rws, true, leBytes 1 0xE, .immediate, true, false, .nat 1 32⟩,
  ⟨"DataTseg2", 0x2210, 8, 16, 0x08, 1, .u8, .rws, true, leBytes 1 0x5, .immediate, true, false, .nat 1 16⟩,
  ⟨"DataSjw", 0x2210, 8, 16, 0x09, 1, .u8, .rws, true, leBytes 1 0x5, .immediate, true, false, .nat 1 16⟩,
  ⟨"TdcOffset", 0x2210, 8, 16, 0x0A, 1, .u8, .rws, true, [], .immediate, true, false, .nat 0 127⟩,
  ⟨"NominalRate", 0x2210, 8, 16, 0x0B, 1, .u32, .ro, false, leBytes 4 0x7A120, .immediate, false, false, .any⟩,
  ⟨"DataRate", 0x2210, 8, 16, 0x0C, 1, .u32, .ro, false, leBytes 4 0x1E8480, .immediate, false, false, .any⟩,
  ⟨"Termination", 0x2210, 8, 16, 0x0D, 1, .bool, .rw, true, [], .immediate, true, false, .any⟩,
  ⟨"AutoRecover", 0x2210, 8, 16, 0x0E, 1, .bool, .rw, true, [1], .immediate, true, false, .any⟩,
  ⟨"Recover", 0x2210, 8, 16, 0x0F, 1, .u8, .wo, false, [], .immediate, true, false, .any⟩,
  ⟨"WakeMode", 0x2210, 8, 16, 0x10, 1, .u8, .rw, true, [], .immediate, true, false, .nat 0 2⟩,
  ⟨"WakeIdent", 0x2210, 8, 16, 0x11, 1, .u32, .rw, true, [], .immediate, true, false, .nat 0 1073741823⟩,
  ⟨"WakeMask", 0x2210, 8, 16, 0x12, 1, .u32, .rw, true, leBytes 4 0x1FFFFFFF, .immediate, true, false, .nat 0 536870911⟩,
  ⟨"WakeDlc", 0x2210, 8, 16, 0x13, 1, .u8, .rw, true, [], .immediate, true, false, .nat 0 8⟩,
  ⟨"WakeData", 0x2210, 8, 16, 0x14, 1, (.octets 8), .rw, true, [], .immediate, true, false, .any⟩,
  ⟨"WakeDataMask", 0x2210, 8, 16, 0x15, 1, (.octets 8), .rw, true, [], .immediate, true, false, .any⟩,
  ⟨"DetectCommand", 0x2210, 8, 16, 0x16, 1, .u8, .wo, false, [], .immediate, true, false, .any⟩,
  ⟨"DetectResult", 0x2210, 8, 16, 0x17, 1, .u8, .ro, false, [], .immediate, false, false, .any⟩,
  ⟨"DetectedNominal", 0x2210, 8, 16, 0x18, 1, .u32, .ro, false, [], .immediate, false, false, .any⟩,
  ⟨"DetectedData", 0x2210, 8, 16, 0x19, 1, .u32, .ro, false, [], .immediate, false, false, .any⟩,
  ⟨"CanState", 0x2211, 8, 16, 0x01, 1, .u8, .ro, false, [], .immediate, false, false, .any⟩,
  ⟨"TxErrorCount", 0x2211, 8, 16, 0x02, 1, .u8, .ro, false, [], .immediate, false, false, .any⟩,
  ⟨"RxErrorCount", 0x2211, 8, 16, 0x03, 1, .u8, .ro, false, [], .immediate, false, false, .any⟩,
  ⟨"RefLast", 0x2211, 8, 16, 0x04, 1, (.octets 16), .ro, false, [], .immediate, false, false, .any⟩,
  ⟨"RxFrames", 0x2212, 8, 16, 0x01, 1, .u32, .rw, false, [], .immediate, false, false, .zero⟩,
  ⟨"TxFrames", 0x2212, 8, 16, 0x02, 1, .u32, .rw, false, [], .immediate, false, false, .zero⟩,
  ⟨"Overruns", 0x2212, 8, 16, 0x03, 1, .u32, .rw, false, [], .immediate, false, false, .zero⟩,
  ⟨"DlcMismatch", 0x2212, 8, 16, 0x04, 1, .u32, .rw, false, [], .immediate, false, false, .zero⟩,
  ⟨"Unmatched", 0x2212, 8, 16, 0x05, 1, .u32, .rw, false, [], .immediate, false, false, .zero⟩,
  ⟨"TxReplaced", 0x2212, 8, 16, 0x06, 1, .u32, .rw, false, [], .immediate, false, false, .zero⟩,
  ⟨"BusOffEntries", 0x2212, 8, 16, 0x07, 1, .u32, .rw, false, [], .immediate, false, false, .zero⟩,
  ⟨"ErrorFrames", 0x2212, 8, 16, 0x08, 1, .u32, .rw, false, [], .immediate, false, false, .zero⟩,
  ⟨"LockExpired", 0x2212, 8, 16, 0x09, 1, .u32, .rw, false, [], .immediate, false, false, .zero⟩,
  ⟨"CounterOverflow", 0x2212, 8, 16, 0xFF, 1, (.octets 32), .ro, false, [], .immediate, false, false, .any⟩,
  ⟨"CanRxBuffer", 0x2213, 8, 16, 0x01, 64, (.octets 80), .ro, false, [], .immediate, false, false, .any⟩,
  ⟨"CanHostFilter", 0x2214, 8, 16, 0x01, 64, (.octets 8), .rw, false, [], .immediate, false, false, .any⟩]

/-- The objects of Table 12-6. -/
def objTable12_6 : List ObjRow := [
  ⟨"SilenceTimeout", 0x3000, 2, 1, 0x01, 1, .u32, .rws, true, leBytes 4 0x2710, .immediate, true, false, .nat 500 100000⟩,
  ⟨"LinkState", 0x3000, 2, 1, 0x02, 1, .u8, .ro, false, [], .immediate, false, false, .any⟩,
  ⟨"SupplyVoltage", 0x3000, 2, 1, 0x03, 1, .u16, .ro, false, [], .immediate, false, false, .any⟩,
  ⟨"SupplyState", 0x3000, 2, 1, 0x04, 1, .u8, .ro, false, [], .immediate, false, false, .any⟩,
  ⟨"FieldEpoch", 0x3000, 2, 1, 0x05, 1, .u32, .ro, false, [], .immediate, false, false, .any⟩,
  ⟨"CrcErrors", 0x3010, 2, 1, 0x01, 1, .u32, .rw, false, [], .immediate, false, false, .zero⟩,
  ⟨"SequenceGaps", 0x3010, 2, 1, 0x02, 1, .u32, .rw, false, [], .immediate, false, false, .zero⟩,
  ⟨"CommitMissed", 0x3010, 2, 1, 0x03, 1, .u32, .rw, false, [], .immediate, false, false, .zero⟩,
  ⟨"SilenceEvents", 0x3010, 2, 1, 0x04, 1, .u32, .rw, false, [], .immediate, false, false, .zero⟩,
  ⟨"SupplyTrips", 0x3010, 2, 1, 0x05, 1, .u32, .rw, false, [], .immediate, false, false, .zero⟩,
  ⟨"SoeLost", 0x3010, 1, 1, 0x06, 1, .u32, .rw, false, [], .immediate, false, false, .zero⟩,
  ⟨"CounterOverflow", 0x3010, 2, 1, 0xFF, 1, (.octets 32), .ro, false, [], .immediate, false, false, .any⟩,
  ⟨"DiMode", 0x3101, 48, 1, 0x01, 1, .u8, .rws, true, [], .immediate, true, true, .nat 0 1⟩,
  ⟨"DiFilter", 0x3101, 48, 1, 0x02, 1, .u16, .rws, true, leBytes 2 0x3E8, .immediate, true, true, .nat 0 20000⟩,
  ⟨"DiState", 0x3101, 48, 1, 0x03, 1, .u8, .ro, false, [], .immediate, false, true, .any⟩,
  ⟨"DiCurrent", 0x3101, 48, 1, 0x04, 1, .u16, .ro, false, [], .immediate, false, true, .any⟩,
  ⟨"DiQuality", 0x3101, 48, 1, 0x05, 1, .u16, .ro, false, [], .immediate, false, true, .any⟩,
  ⟨"DiCount", 0x3101, 48, 1, 0x06, 1, .u32, .ro, false, [], .immediate, false, true, .any⟩,
  ⟨"DoRetryInterval", 0x3200, 1, 1, 0x01, 1, .u16, .rws, true, leBytes 2 0x3E8, .immediate, true, true, .nat 100 10000⟩,
  ⟨"DoSafeState", 0x3201, 24, 1, 0x01, 1, .u8, .rw, true, [], .immediate, true, true, .nat 0 2⟩,
  ⟨"DoOpenLoad", 0x3201, 24, 1, 0x02, 1, .bool, .rws, true, [], .immediate, true, true, .any⟩,
  ⟨"DoApplied", 0x3201, 24, 1, 0x03, 1, .bool, .ro, false, [], .immediate, false, true, .any⟩,
  ⟨"DoCurrent", 0x3201, 24, 1, 0x04, 1, .u16, .ro, false, [], .immediate, false, true, .any⟩,
  ⟨"DoQuality", 0x3201, 24, 1, 0x05, 1, .u16, .ro, false, [], .immediate, false, true, .any⟩,
  ⟨"DoParallel", 0x3221, 6, 1, 0x01, 1, .bool, .rws, true, [], .immediate, true, true, .any⟩,
  ⟨"GroupCurrent", 0x3221, 6, 1, 0x02, 1, .u16, .ro, false, [], .immediate, false, true, .any⟩,
  ⟨"VsEnable", 0x3301, 4, 1, 0x01, 1, .bool, .rws, true, [1], .immediate, true, true, .any⟩,
  ⟨"VsStatus", 0x3301, 4, 1, 0x02, 1, .u8, .ro, false, [], .immediate, false, true, .any⟩,
  ⟨"VsCurrent", 0x3301, 4, 1, 0x03, 1, .u16, .ro, false, [], .immediate, false, true, .any⟩]

/-- The objects of Table 13-6. -/
def objTable13_6 : List ObjRow := [
  ⟨"AiSupply", 0x3401, 8, 1, 0x01, 1, .bool, .rws, true, [], .immediate, true, true, .any⟩,
  ⟨"AiHart", 0x3401, 8, 1, 0x02, 1, .bool, .rws, true, [], .immediate, true, true, .any⟩,
  ⟨"AiCurrent", 0x3401, 8, 1, 0x03, 1, .f32, .ro, false, [], .immediate, false, true, .any⟩,
  ⟨"AiQuality", 0x3401, 8, 1, 0x04, 1, .u16, .ro, false, [], .immediate, false, true, .any⟩,
  ⟨"AiCalRecord", 0x3401, 8, 1, 0x05, 1, (.octets 32), .ro, false, [], .immediate, false, true, .any⟩,
  ⟨"AoSafeState", 0x3501, 8, 1, 0x01, 1, .u8, .rw, true, leBytes 1 0x2, .immediate, true, true, .nat 0 2⟩,
  ⟨"AoSafeValue", 0x3501, 8, 1, 0x02, 1, .f32, .rw, true, leBytes 4 0x40800000, .immediate, true, true, .any⟩,
  ⟨"AoFailureCurrent", 0x3501, 8, 1, 0x03, 1, .u8, .rw, true, [], .immediate, true, true, .nat 0 1⟩,
  ⟨"AoHart", 0x3501, 8, 1, 0x04, 1, .bool, .rws, true, [], .immediate, true, true, .any⟩,
  ⟨"AoCurrent", 0x3501, 8, 1, 0x05, 1, .f32, .ro, false, [], .immediate, false, true, .any⟩,
  ⟨"AoQuality", 0x3501, 8, 1, 0x06, 1, .u16, .ro, false, [], .immediate, false, true, .any⟩,
  ⟨"AoStatus", 0x3501, 8, 1, 0x07, 1, .u8, .ro, false, [], .immediate, false, true, .any⟩,
  ⟨"AoSupplyVoltage", 0x3501, 8, 1, 0x08, 1, .u16, .ro, false, [], .immediate, false, true, .any⟩,
  ⟨"AoCalRecord", 0x3501, 8, 1, 0x09, 1, (.octets 32), .ro, false, [], .immediate, false, true, .any⟩,
  ⟨"HartPollInterval", 0x3600, 1, 1, 0x01, 1, .u16, .rw, true, leBytes 2 0x3E8, .immediate, true, true, .nat 500 60000⟩,
  ⟨"HartState", 0x3611, 16, 1, 0x01, 1, .u8, .ro, false, [], .immediate, false, false, .any⟩,
  ⟨"HartIdentity", 0x3611, 16, 1, 0x02, 1, (.octets 8), .ro, false, [], .immediate, false, false, .any⟩,
  ⟨"HartRequest", 0x3611, 16, 1, 0x03, 1, (.octets 240), .wo, false, [], .immediate, true, false, .any⟩,
  ⟨"HartResponse", 0x3611, 16, 1, 0x04, 1, (.octets 240), .ro, false, [], .immediate, false, false, .any⟩,
  ⟨"HartTransactions", 0x3611, 16, 1, 0x05, 1, .u32, .rw, false, [], .immediate, false, false, .zero⟩,
  ⟨"HartFailures", 0x3611, 16, 1, 0x06, 1, .u32, .rw, false, [], .immediate, false, false, .zero⟩,
  ⟨"HartBurstIgnored", 0x3611, 16, 1, 0x07, 1, .u32, .rw, false, [], .immediate, false, false, .zero⟩,
  ⟨"CounterOverflow", 0x3611, 16, 1, 0xFF, 1, (.octets 32), .ro, false, [], .immediate, false, false, .any⟩]

/-- The objects of Table 14-12. -/
def objTable14_12 : List ObjRow := [
  ⟨"IslandState", 0x4000, 1, 1, 0x01, 1, .u8, .ro, false, [], .immediate, false, false, .any⟩,
  ⟨"IslandFault", 0x4000, 1, 1, 0x02, 1, .u16, .ro, false, [], .immediate, false, false, .any⟩,
  ⟨"SetRevision", 0x4000, 1, 1, 0x03, 1, .u32, .ro, false, [], .immediate, false, false, .any⟩,
  ⟨"SetName", 0x4000, 1, 1, 0x04, 1, .vstring, .ro, false, [0], .immediate, false, false, .any⟩,
  ⟨"InputValues", 0x4001, 1, 1, 0x01, 1, .u8, .ro, false, [], .immediate, false, false, .any⟩,
  ⟨"InputFaults", 0x4001, 1, 1, 0x02, 1, (.octets 8), .ro, false, [], .immediate, false, false, .any⟩,
  ⟨"EffectStates", 0x4002, 1, 1, 0x01, 1, (.octets 8), .ro, false, [], .immediate, false, false, .any⟩,
  ⟨"OutputFaults", 0x4002, 1, 1, 0x02, 1, (.octets 4), .ro, false, [], .immediate, false, false, .any⟩,
  ⟨"OutputCurrents", 0x4002, 1, 1, 0x03, 1, (.octets 8), .ro, false, [], .immediate, false, false, .any⟩,
  ⟨"CauseStates", 0x4003, 1, 1, 0x01, 1, .u32, .ro, false, [], .immediate, false, false, .any⟩,
  ⟨"SafetySetConfirm", 0x4004, 1, 1, 0x01, 1, .u32, .wo, false, [], .immediate, true, false, .any⟩,
  ⟨"PendingState", 0x4004, 1, 1, 0x02, 1, .u8, .ro, false, [], .immediate, false, false, .any⟩,
  ⟨"PendingRefusal", 0x4004, 1, 1, 0x03, 1, .u16, .ro, false, [], .immediate, false, false, .any⟩,
  ⟨"PendingDigest", 0x4004, 1, 1, 0x04, 1, (.octets 32), .ro, false, [], .immediate, false, false, .any⟩,
  ⟨"IslandResets", 0x4005, 1, 1, 0x01, 1, .u32, .ro, false, [], .immediate, false, false, .any⟩,
  ⟨"CrossShortsTransient", 0x4005, 1, 1, 0x02, 1, .u32, .ro, false, [], .immediate, false, false, .any⟩,
  ⟨"DarkTestFailures", 0x4005, 1, 1, 0x03, 1, .u32, .ro, false, [], .immediate, false, false, .any⟩,
  ⟨"LastProofTest", 0x4006, 1, 1, 0x01, 1, .time96, .rw, true, [], .immediate, true, false, .any⟩,
  ⟨"ProofTestInterval", 0x4006, 1, 1, 0x02, 1, .u16, .rw, true, leBytes 2 0x722, .immediate, true, false, .nat 1 1826⟩,
  ⟨"SafetyParameterSet", 0x200000, 1, 1, 0x10, 1, .domain, .rw, false, [], .immediate, false, false, .any⟩]

/-- The objects of Table 15-8. -/
def objTable15_8 : List ObjRow := [
  ⟨"ResetCount", 0x5000, 1, 1, 0x01, 1, .u32, .ro, false, [], .immediate, false, false, .any⟩,
  ⟨"ResetCause", 0x5000, 1, 1, 0x02, 1, .u16, .ro, false, leBytes 2 0x1, .immediate, false, false, .any⟩,
  ⟨"ResetCauseClear", 0x5000, 1, 1, 0x03, 1, .u16, .wo, false, [], .immediate, true, false, .any⟩,
  ⟨"LastEpisode", 0x5000, 1, 1, 0x04, 1, (.octets 32), .ro, false, [], .immediate, false, false, .any⟩,
  ⟨"EpisodeHistory", 0x5000, 1, 1, 0x05, 1, (.octets 128), .ro, false, [], .immediate, false, false, .any⟩,
  ⟨"BackupLost", 0x5000, 1, 1, 0x06, 1, .bool, .ro, false, [], .immediate, false, false, .any⟩,
  ⟨"BootDuration", 0x5000, 1, 1, 0x07, 1, .u32, .ro, false, [], .immediate, false, false, .any⟩,
  ⟨"CounterOverflow", 0x5000, 1, 1, 0xFF, 1, (.octets 32), .ro, false, [], .immediate, false, false, .any⟩,
  ⟨"OptionStatus", 0x5001, 1, 1, 0x01, 1, .u8, .ro, false, [], .immediate, false, false, .any⟩,
  ⟨"OptionSequence", 0x5001, 1, 1, 0x02, 1, .u32, .ro, false, [], .immediate, false, false, .any⟩,
  ⟨"TrimStatus", 0x5001, 1, 1, 0x04, 1, .u8, .ro, false, [], .immediate, false, false, .any⟩,
  ⟨"OptUsbEnable", 0x5002, 1, 1, 0x01, 1, .bool, .rws, true, [1], .start, true, false, .any⟩,
  ⟨"OptDebugEnable", 0x5002, 1, 1, 0x02, 1, .bool, .rws, true, [], .start, true, false, .any⟩,
  ⟨"OptResetPin", 0x5002, 1, 1, 0x03, 1, .bool, .rws, true, [1], .start, true, false, .any⟩]

/-- The objects of Table 16-7. -/
def objTable16_7 : List ObjRow := [
  ⟨"ClockSources", 0x5010, 1, 1, 0x01, 1, .u8, .ro, false, [], .immediate, false, false, .any⟩,
  ⟨"XoFailed", 0x5010, 1, 1, 0x02, 1, .bool, .ro, false, [], .immediate, false, false, .any⟩,
  ⟨"DomainSources", 0x5010, 1, 1, 0x03, 1, (.octets 7), .ro, false, [], .immediate, false, false, .any⟩,
  ⟨"SequencerClock", 0x5010, 1, 1, 0x04, 1, .u16, .ro, false, [], .immediate, false, false, .any⟩,
  ⟨"CoreSupply", 0x5010, 1, 1, 0x05, 1, .u16, .ro, false, [], .immediate, false, false, .any⟩,
  ⟨"SupplyMinimum", 0x5010, 1, 1, 0x06, 1, (.octets 54), .const, false, supplyMinimumValue, .immediate, false, false, .any⟩,
  ⟨"IrcTrim", 0x5011, 1, 1, 0x01, 1, .u32, .ro, false, leBytes 4 0x80000, .immediate, false, false, .any⟩,
  ⟨"IrcTrimSource", 0x5011, 1, 1, 0x02, 1, .u8, .ro, false, [], .immediate, false, false, .any⟩,
  ⟨"IrcTrimChannel", 0x5011, 1, 1, 0x03, 1, .u8, .rw, true, [], .immediate, true, false, .nat 0 8⟩,
  ⟨"IrcError", 0x5011, 1, 1, 0x04, 1, .i32, .ro, false, [], .immediate, false, false, .any⟩,
  ⟨"MonitorTrips", 0x5012, 1, 1, 0x01, 1, .u32, .rw, false, [], .immediate, false, false, .zero⟩,
  ⟨"SwitchRefusals", 0x5012, 1, 1, 0x02, 1, .u32, .rw, false, [], .immediate, false, false, .zero⟩,
  ⟨"MuxHangs", 0x5012, 1, 1, 0x03, 1, .u32, .rw, false, [], .immediate, false, false, .zero⟩,
  ⟨"GatedAccesses", 0x5012, 1, 1, 0x04, 1, .u32, .rw, false, [], .immediate, false, false, .zero⟩,
  ⟨"CounterOverflow", 0x5012, 1, 1, 0xFF, 1, (.octets 32), .ro, false, [], .immediate, false, false, .any⟩]

/-- The objects of Table 17-10. -/
def objTable17_10 : List ObjRow := [
  ⟨"StoreCorrected", 0x5020, 1, 1, 0x01, 1, .u32, .rw, false, [], .immediate, false, false, .zero⟩,
  ⟨"StoreUncorrectable", 0x5020, 1, 1, 0x02, 1, .u32, .rw, false, [], .immediate, false, false, .zero⟩,
  ⟨"StoreLastFault", 0x5020, 1, 1, 0x03, 1, .u32, .ro, false, leBytes 4 0xFFFFFFFF, .immediate, false, false, .any⟩,
  ⟨"ScrubPassTicks", 0x5020, 1, 1, 0x04, 1, .u32, .ro, false, [], .immediate, false, false, .any⟩,
  ⟨"ConfigPagesUsed", 0x5020, 1, 1, 0x05, 1, .u16, .ro, false, [], .immediate, false, false, .any⟩,
  ⟨"ConfigPagesNeeded", 0x5020, 1, 1, 0x06, 1, .u16, .ro, false, [], .immediate, false, false, .any⟩,
  ⟨"CounterOverflow", 0x5020, 1, 1, 0xFF, 1, (.octets 32), .ro, false, [], .immediate, false, false, .any⟩,
  ⟨"DramCorrected", 0x5021, 1, 1, 0x01, 1, .u32, .rw, false, [], .immediate, false, false, .zero⟩,
  ⟨"DramUncorrectable", 0x5021, 1, 1, 0x02, 1, .u32, .rw, false, [], .immediate, false, false, .zero⟩,
  ⟨"DramLastFault", 0x5021, 1, 1, 0x03, 1, .u32, .ro, false, leBytes 4 0xFFFFFFFF, .immediate, false, false, .any⟩,
  ⟨"DramScrubPasses", 0x5021, 1, 1, 0x04, 1, .u32, .rw, false, [], .immediate, false, false, .zero⟩,
  ⟨"CounterOverflow", 0x5021, 1, 1, 0xFF, 1, (.octets 32), .ro, false, [], .immediate, false, false, .any⟩,
  ⟨"DmaErrors", 0x5022, 1, 1, 0x01, 1, .u32, .rw, false, [], .immediate, false, false, .zero⟩,
  ⟨"DmaLateErrors", 0x5022, 1, 1, 0x02, 1, .u32, .rw, false, [], .immediate, false, false, .zero⟩,
  ⟨"DmaHalts", 0x5022, 1, 1, 0x03, 1, .u32, .rw, false, [], .immediate, false, false, .zero⟩,
  ⟨"DmaListsDiscarded", 0x5022, 1, 1, 0x04, 1, .u32, .rw, false, [], .immediate, false, false, .zero⟩,
  ⟨"CounterOverflow", 0x5022, 1, 1, 0xFF, 1, (.octets 32), .ro, false, [], .immediate, false, false, .any⟩]

/-- The objects of Table 18-6. -/
def objTable18_6 : List ObjRow := [
  ⟨"TallyNewest", 0x6000, 1, 1, 0x01, 1, .u64, .ro, false, [], .immediate, false, false, .any⟩,
  ⟨"TallyOldest", 0x6000, 1, 1, 0x02, 1, .u64, .ro, false, [], .immediate, false, false, .any⟩,
  ⟨"OperatingMinutes", 0x6000, 1, 1, 0x03, 1, .u32, .ro, false, [], .immediate, false, false, .any⟩,
  ⟨"PowerCycles", 0x6000, 1, 1, 0x04, 1, .u32, .ro, false, [], .immediate, false, false, .any⟩,
  ⟨"TalliesWritten", 0x6000, 1, 1, 0x05, 1, .u32, .rw, false, [], .immediate, false, false, .zero⟩,
  ⟨"TalliesDamaged", 0x6000, 1, 1, 0x06, 1, .u32, .rw, false, [], .immediate, false, false, .zero⟩,
  ⟨"HeadRebuilds", 0x6000, 1, 1, 0x07, 1, .u32, .rw, false, [], .immediate, false, false, .zero⟩,
  ⟨"CounterOverflow", 0x6000, 1, 1, 0xFF, 1, (.octets 32), .ro, false, [], .immediate, false, false, .any⟩,
  ⟨"TallySelect", 0x6001, 1, 1, 0x01, 1, .u64, .rw, false, [], .immediate, false, false, .any⟩,
  ⟨"TallyRecord", 0x6001, 1, 1, 0x02, 1, (.octets 64), .ro, false, [], .immediate, false, false, .any⟩,
  ⟨"TallyStatus", 0x6001, 1, 1, 0x03, 1, .u8, .ro, false, leBytes 1 0x2, .immediate, false, false, .any⟩,
  ⟨"ExportFirst", 0x6002, 1, 1, 0x01, 1, .u64, .rw, false, [], .immediate, false, false, .any⟩,
  ⟨"ExportCount", 0x6002, 1, 1, 0x02, 1, .u32, .rw, false, [], .immediate, false, false, .nat 0 131072⟩,
  ⟨"FaceplateRate", 0x6100, 1, 1, 0x01, 1, .u8, .rw, true, [], .immediate, true, false, .nat 0 2⟩,
  ⟨"FaceplatePage", 0x6100, 1, 1, 0x02, 1, .u8, .rw, false, [], .immediate, false, false, .any⟩,
  ⟨"FaceplateQueued", 0x6100, 1, 1, 0x03, 1, .u8, .ro, false, [], .immediate, false, false, .any⟩,
  ⟨"FaceplateStale", 0x6100, 1, 1, 0x04, 1, .bool, .ro, false, [], .immediate, false, false, .any⟩,
  ⟨"UpdatesDone", 0x6100, 1, 1, 0x05, 1, .u32, .rw, false, [], .immediate, false, false, .zero⟩,
  ⟨"FrameCrcFaults", 0x6100, 1, 1, 0x06, 1, .u32, .rw, false, [], .immediate, false, false, .zero⟩,
  ⟨"JournalCompletions", 0x6100, 1, 1, 0x07, 1, .u32, .rw, false, [], .immediate, false, false, .zero⟩,
  ⟨"CounterOverflow", 0x6100, 1, 1, 0xFF, 1, (.octets 32), .ro, false, [], .immediate, false, false, .any⟩,
  ⟨"TallyExport", 0x200000, 1, 1, 0x30, 1, .domain, .ro, false, [], .immediate, false, false, .any⟩,
  ⟨"FaceplateUserImage", 0x200000, 1, 1, 0x31, 1, .domain, .rw, false, [], .immediate, true, false, .any⟩]

/-- The objects of Table 19-4. -/
def objTable19_4 : List ObjRow := [
  ⟨"KeyStoreState", 0x7000, 1, 1, 0x01, 1, .u8, .ro, false, [], .immediate, false, false, .any⟩,
  ⟨"WarpKey", 0x7001, 1, 1, 0x01, 8, (.octets 64), .rws, false, [], .immediate, true, false, .any⟩,
  ⟨"SafetySetKey", 0x7002, 1, 1, 0x01, 8, (.octets 64), .rws, false, [], .immediate, true, false, .any⟩,
  ⟨"WarpKeyStatus", 0x7003, 1, 1, 0x01, 1, (.octets 8), .ro, false, [], .immediate, false, false, .any⟩,
  ⟨"SafetyKeyStatus", 0x7003, 1, 1, 0x02, 1, (.octets 8), .ro, false, [], .immediate, false, false, .any⟩,
  ⟨"FirmwareKeyStatus", 0x7003, 1, 1, 0x03, 1, (.octets 4), .ro, false, [1, 1, 1, 1], .immediate, false, false, .any⟩,
  ⟨"RevokeKey", 0x7004, 1, 1, 0x01, 1, .u16, .wo, false, [], .immediate, true, false, .any⟩,
  ⟨"ConduitKey", 0x7005, 1, 1, 0x01, 16, (.octets 32), .wo, false, [], .immediate, true, false, .any⟩,
  ⟨"ConduitKeyStatus", 0x7005, 1, 1, 0x11, 1, (.octets 16), .ro, false, [], .immediate, false, false, .any⟩,
  ⟨"SeamKey", 0x7006, 1, 1, 0x01, 2, (.octets 32), .wo, false, [], .immediate, true, false, .any⟩,
  ⟨"SeamKeyStatus", 0x7006, 1, 1, 0x03, 1, (.octets 2), .ro, false, [], .immediate, false, false, .any⟩,
  ⟨"FirmwareSecurityVersion", 0x7010, 1, 1, 0x01, 1, .u8, .ro, false, [], .immediate, false, false, .any⟩,
  ⟨"CommitSecurityVersion", 0x7010, 1, 1, 0x02, 1, .u8, .wo, false, [], .immediate, true, false, .any⟩,
  ⟨"FirmwareBankState", 0x7011, 2, 1, 0x01, 1, .u8, .ro, false, [], .immediate, false, false, .any⟩,
  ⟨"FirmwareRefusal", 0x7011, 2, 1, 0x02, 1, .u16, .ro, false, [], .immediate, false, false, .any⟩,
  ⟨"DebugLock", 0x7020, 1, 1, 0x01, 1, .u8, .ro, false, [], .immediate, false, false, .any⟩,
  ⟨"DebugLockCommand", 0x7020, 1, 1, 0x02, 1, .u32, .wo, false, [], .immediate, true, false, .any⟩,
  ⟨"FirmwareBankA", 0x200000, 1, 1, 0x03, 1, .domain, .rw, false, [], .immediate, true, false, .any⟩,
  ⟨"FirmwareBankB", 0x200000, 1, 1, 0x04, 1, .domain, .rw, false, [], .immediate, true, false, .any⟩]

/-- The objects of Table 20-8. -/
def objTable20_8 : List ObjRow := [
  ⟨"ModuleMac", 0x2106, 1, 1, 0x01, 1, (.octets 6), .const, false, moduleMacValue, .immediate, false, false, .any⟩,
  ⟨"UsbMac", 0x2106, 1, 1, 0x02, 1, (.octets 6), .const, false, usbMacValue, .immediate, false, false, .any⟩,
  ⟨"LogicFeedA", 0x5030, 1, 1, 0x01, 1, .u16, .ro, false, [], .immediate, false, false, .any⟩,
  ⟨"LogicFeedB", 0x5030, 1, 1, 0x02, 1, .u16, .ro, false, [], .immediate, false, false, .any⟩,
  ⟨"LogicPower", 0x5030, 1, 1, 0x03, 1, .u32, .ro, false, [], .immediate, false, false, .any⟩,
  ⟨"DieTemperature", 0x5030, 1, 1, 0x04, 1, .i16, .ro, false, [], .immediate, false, false, .any⟩,
  ⟨"PlateTemperature", 0x5030, 1, 1, 0x05, 1, .i16, .ro, false, [], .immediate, false, false, .any⟩,
  ⟨"DoorState", 0x5030, 1, 1, 0x06, 1, .u8, .ro, false, leBytes 1 0x1, .immediate, false, false, .any⟩,
  ⟨"FeedLosses", 0x5030, 1, 1, 0x07, 1, .u32, .rw, false, [], .immediate, false, false, .zero⟩,
  ⟨"CounterOverflow", 0x5030, 1, 1, 0xFF, 1, (.octets 32), .ro, false, [], .immediate, false, false, .any⟩]

/-- The objects of Table 8-10. -/
def objTable8_10 : List ObjRow := [
  ⟨"LoopCapture", 0x200000, 1, 1, 0x20, 8, .domain, .ro, false, [], .immediate, false, false, .any⟩]

/-- Every object of fixed address. -/
def objTable : List ObjRow :=
  objTable1_5 ++
  objTable2_5 ++
  objTable2_6 ++
  objTable3_7 ++
  objTable4_1 ++
  objTable5_14 ++
  objTable5_15 ++
  objTable6_5 ++
  objTable7_14 ++
  objTable8_9 ++
  objTable9_11 ++
  objTable10_2 ++
  objTable11_7 ++
  objTable12_6 ++
  objTable13_6 ++
  objTable14_12 ++
  objTable15_8 ++
  objTable16_7 ++
  objTable17_10 ++
  objTable18_6 ++
  objTable19_4 ++
  objTable20_8 ++
  objTable8_10

/-- Whether a row holds an index. -/
def ObjRow.hasIndex (r : ObjRow) (ix : Nat) : Bool :=
  decide (r.index ≤ ix) && decide ((ix - r.index) % r.ixStride = 0) && decide ((ix - r.index) / r.ixStride < r.ixCount)

/-- Whether a row holds an address. -/
def ObjRow.has (r : ObjRow) (a : Nat) : Bool :=
  r.hasIndex (addrIndex a) && decide (r.sub ≤ addrSub a) && decide (addrSub a < r.sub + r.subCount)

/-- The row of an address among the objects of fixed address. -/
def fixedRow? (a : Nat) : Option ObjRow := objTable.find? (·.has a)

/-- Whether an index is defined among the objects of fixed address (R37). -/
def fixedIndex (ix : Nat) : Bool := objTable.any (·.hasIndex ix)

namespace Obj

/-- StationState (Table 1-5). -/
abbrev stationState : Nat := 0x100001
/-- StationStateDetail (Table 1-5). -/
abbrev stationStateDetail : Nat := 0x100002
/-- HoldCause (Table 1-5). -/
abbrev holdCause : Nat := 0x100003
/-- StationCommand (Table 1-5). -/
abbrev stationCommand : Nat := 0x100101
/-- CommandTick (Table 1-5). -/
abbrev commandTick : Nat := 0x100102
/-- CommandResult (Table 1-5). -/
abbrev commandResult : Nat := 0x100103
/-- StartMode (Table 1-5). -/
abbrev startMode : Nat := 0x100301
/-- Profile (Table 1-5). -/
abbrev profile : Nat := 0x100401
/-- ActiveProfile (Table 1-5). -/
abbrev activeProfile : Nat := 0x100402
/-- VendorName (Table 2-5). -/
abbrev vendorName : Nat := 0x1
/-- ProductName (Table 2-5). -/
abbrev productName : Nat := 0x2
/-- PartNumber (Table 2-5). -/
abbrev partNumber : Nat := 0x3
/-- DictionaryVersion (Table 2-5). -/
abbrev dictionaryVersion : Nat := 0x4
/-- ModuleSerial (Table 2-5). -/
abbrev moduleSerial : Nat := 0x101
/-- ModuleIssue (Table 2-5). -/
abbrev moduleIssue : Nat := 0x102
/-- BuildDate (Table 2-5). -/
abbrev buildDate : Nat := 0x103
/-- DieLot (Table 2-5). -/
abbrev dieLot : Nat := 0x201
/-- DieWafer (Table 2-5). -/
abbrev dieWafer : Nat := 0x202
/-- DieX (Table 2-5). -/
abbrev dieX : Nat := 0x203
/-- DieY (Table 2-5). -/
abbrev dieY : Nat := 0x204
/-- DieTestDate (Table 2-5). -/
abbrev dieTestDate : Nat := 0x205
/-- SpeedGrade (Table 2-5). -/
abbrev speedGrade : Nat := 0x206
/-- ActiveFirmwareBank (Table 2-5). -/
abbrev activeFirmwareBank : Nat := 0x301
/-- FirmwareVersionA (Table 2-5). -/
abbrev firmwareVersionA : Nat := 0x302
/-- FirmwareVersionB (Table 2-5). -/
abbrev firmwareVersionB : Nat := 0x303
/-- FirmwareDigestA (Table 2-5). -/
abbrev firmwareDigestA : Nat := 0x304
/-- FirmwareDigestB (Table 2-5). -/
abbrev firmwareDigestB : Nat := 0x305
/-- BootLoaderVersion (Table 2-5). -/
abbrev bootLoaderVersion : Nat := 0x306
/-- ActiveWarpBank (Table 2-5). -/
abbrev activeWarpBank : Nat := 0x401
/-- WarpDigestA (Table 2-5). -/
abbrev warpDigestA : Nat := 0x402
/-- WarpDigestB (Table 2-5). -/
abbrev warpDigestB : Nat := 0x403
/-- SafetySetDigest (Table 2-5). -/
abbrev safetySetDigest : Nat := 0x404
/-- FuseMapDigest (Table 2-5). -/
abbrev fuseMapDigest : Nat := 0x501
/-- FuseMapStatus (Table 2-5). -/
abbrev fuseMapStatus : Nat := 0x502
/-- ResetRequest (Table 2-6). -/
abbrev resetRequest : Nat := 0x100201
/-- LayupWake (Table 2-6). -/
abbrev layupWake : Nat := 0x100501
/-- LayupAlarm (Table 2-6). -/
abbrev layupAlarm : Nat := 0x100502
/-- PairEnable (Table 2-6). -/
abbrev pairEnable : Nat := 0x100601
/-- RoleContact (Table 2-6). -/
abbrev roleContact : Nat := 0x100602
/-- PartnerState (Table 2-6). -/
abbrev partnerState : Nat := 0x100603
/-- RestoreFirst (Table 2-6). -/
abbrev restoreFirst : Nat := 0x101001
/-- RestoreLast (Table 2-6). -/
abbrev restoreLast : Nat := 0x101002
/-- RestoreCommand (Table 2-6). -/
abbrev restoreCommand : Nat := 0x101003
/-- RestoreResult (Table 2-6). -/
abbrev restoreResult : Nat := 0x101004
/-- WritesAccepted (Table 2-6). -/
abbrev writesAccepted : Nat := 0x101201
/-- WritesRefused (Table 2-6). -/
abbrev writesRefused : Nat := 0x101202
/-- AuditTallies (Table 2-6). -/
abbrev auditTallies : Nat := 0x101203
/-- DamagedRecords (Table 2-6). -/
abbrev damagedRecords : Nat := 0x101204
/-- NodeBase (Table 3-7). -/
abbrev nodeBase : Nat := 0x210001
/-- ModuleNode (Table 3-7). -/
abbrev moduleNode : Nat := 0x210002
/-- StationNode (Table 3-7). -/
abbrev stationNode : Nat := 0x210003
/-- IPv4Address (Table 3-7). -/
abbrev iPv4Address : Nat := 0x210101
/-- IPv4Mask (Table 3-7). -/
abbrev iPv4Mask : Nat := 0x210102
/-- IPv4Gateway (Table 3-7). -/
abbrev iPv4Gateway : Nat := 0x210103
/-- VlanId (Table 3-7). -/
abbrev vlanId : Nat := 0x210104
/-- ClpPort (Table 3-7). -/
abbrev clpPort : Nat := 0x210201
/-- PdPort (Table 3-7). -/
abbrev pdPort : Nat := 0x210202
/-- JumboDeclared (Table 3-7). -/
abbrev jumboDeclared : Nat := 0x210203
/-- AuthModeNetwork (Table 3-7). -/
abbrev authModeNetwork : Nat := 0x210301
/-- AuthModeUsb (Table 3-7). -/
abbrev authModeUsb : Nat := 0x210302
/-- RatePackets (Table 3-7). -/
abbrev ratePackets : Nat := 0x210401
/-- RateBitsPerSecond (Table 3-7). -/
abbrev rateBitsPerSecond : Nat := 0x210402
/-- RatePerSource (Table 3-7). -/
abbrev ratePerSource : Nat := 0x210403
/-- RequestsExecuted (Table 3-7). -/
abbrev requestsExecuted : Nat := 0x210501
/-- RateDropped (Table 3-7). -/
abbrev rateDropped : Nat := 0x210502
/-- AuthFailures (Table 3-7). -/
abbrev authFailures : Nat := 0x210503
/-- BadHeader (Table 3-7). -/
abbrev badHeader : Nat := 0x210504
/-- SequenceRefused (Table 3-7). -/
abbrev sequenceRefused : Nat := 0x210505
/-- PdDropped (Table 3-7). -/
abbrev pdDropped : Nat := 0x210506
/-- FramesDiscarded (Table 3-7). -/
abbrev framesDiscarded : Nat := 0x210507
/-- ArpUnresolved (Table 3-7). -/
abbrev arpUnresolved : Nat := 0x210508
/-- TickOffset (Table 4-1). -/
abbrev tickOffset : Nat := 0x100801
/-- LockWait (Table 4-1). -/
abbrev lockWait : Nat := 0x100802
/-- CurrentTick (Table 4-1). -/
abbrev currentTick : Nat := 0x100803
/-- TickSource (Table 4-1). -/
abbrev tickSource : Nat := 0x100804
/-- RateAdjust (Table 4-1). -/
abbrev rateAdjust : Nat := 0x100805
/-- StepHeld (Table 4-1). -/
abbrev stepHeld : Nat := 0x100806
/-- SnapshotMissingA (Table 4-1). -/
abbrev snapshotMissingA : Nat := 0x100901
/-- SnapshotMissingB (Table 4-1). -/
abbrev snapshotMissingB : Nat := 0x100902
/-- SnapshotMissingC (Table 4-1). -/
abbrev snapshotMissingC : Nat := 0x100903
/-- PdSuperseded (Table 4-1). -/
abbrev pdSuperseded : Nat := 0x100904
/-- CanSuperseded (Table 4-1). -/
abbrev canSuperseded : Nat := 0x100905
/-- WritesSuperseded (Table 4-1). -/
abbrev writesSuperseded : Nat := 0x100906
/-- StaleEntries (Table 4-1). -/
abbrev staleEntries : Nat := 0x100907
/-- SelectedBank (Table 5-14). -/
abbrev selectedBank : Nat := 0x800001
/-- ActivateBank (Table 5-14). -/
abbrev activateBank : Nat := 0x800002
/-- ActivateTick (Table 5-14). -/
abbrev activateTick : Nat := 0x800003
/-- ActivationResult (Table 5-14). -/
abbrev activationResult : Nat := 0x800004
/-- ActivationDetail (Table 5-14). -/
abbrev activationDetail : Nat := 0x800005
/-- PendingTick (Table 5-14). -/
abbrev pendingTick : Nat := 0x800006
/-- ActivateCancel (Table 5-14). -/
abbrev activateCancel : Nat := 0x800007
/-- WorstExecSatin (Table 5-14). -/
abbrev worstExecSatin : Nat := 0x800301
/-- WorstExecTwill (Table 5-14). -/
abbrev worstExecTwill : Nat := 0x800302
/-- WorstExecCanvas (Table 5-14). -/
abbrev worstExecCanvas : Nat := 0x800303
/-- WorstTickSatin (Table 5-14). -/
abbrev worstTickSatin : Nat := 0x800304
/-- WorstTickTwill (Table 5-14). -/
abbrev worstTickTwill : Nat := 0x800305
/-- WorstTickCanvas (Table 5-14). -/
abbrev worstTickCanvas : Nat := 0x800306
/-- WarpBankA (Table 5-14). -/
abbrev warpBankA : Nat := 0x20000001
/-- WarpBankB (Table 5-14). -/
abbrev warpBankB : Nat := 0x20000002
/-- BankState of unit k, from 0 (Table 5-15). -/
abbrev bankState (k : Nat) : Nat := 0x800101 + k * 0x100
/-- RefusalReason of unit k, from 0 (Table 5-15). -/
abbrev refusalReason (k : Nat) : Nat := 0x800102 + k * 0x100
/-- RefusalDetail of unit k, from 0 (Table 5-15). -/
abbrev refusalDetail (k : Nat) : Nat := 0x800103 + k * 0x100
/-- ProvenProfiles of unit k, from 0 (Table 5-15). -/
abbrev provenProfiles (k : Nat) : Nat := 0x800104 + k * 0x100
/-- LayoutDigest of unit k, from 0 (Table 5-15). -/
abbrev layoutDigest (k : Nat) : Nat := 0x800105 + k * 0x100
/-- ImageLength of unit k, from 0 (Table 5-15). -/
abbrev imageLength (k : Nat) : Nat := 0x800106 + k * 0x100
/-- BuildTime of unit k, from 0 (Table 5-15). -/
abbrev buildTime (k : Nat) : Nat := 0x800107 + k * 0x100
/-- ApplicationName of unit k, from 0 (Table 5-15). -/
abbrev applicationName (k : Nat) : Nat := 0x800108 + k * 0x100
/-- OpkorVersion of unit k, from 0 (Table 5-15). -/
abbrev opkorVersion (k : Nat) : Nat := 0x800109 + k * 0x100
/-- CycleTableVersion (Table 6-5). -/
abbrev cycleTableVersion : Nat := 0x520001
/-- LockstepMismatches (Table 6-5). -/
abbrev lockstepMismatches : Nat := 0x520002
/-- Reexecutions (Table 6-5). -/
abbrev reexecutions : Nat := 0x520003
/-- ProtectedStores (Table 6-5). -/
abbrev protectedStores : Nat := 0x520004
/-- LastMismatch (Table 6-5). -/
abbrev lastMismatch : Nat := 0x520005
/-- ScreenRepeats (Table 7-14). -/
abbrev screenRepeats : Nat := 0x521001
/-- ScreenSkips (Table 7-14). -/
abbrev screenSkips : Nat := 0x521002
/-- AlarmTalliesLost (Table 7-14). -/
abbrev alarmTalliesLost : Nat := 0x521003
/-- ForcedPoints (Table 7-14). -/
abbrev forcedPoints : Nat := 0x521004
/-- ActiveAlarms (Table 7-14). -/
abbrev activeAlarms : Nat := 0x521005
/-- UnackedAlarms (Table 7-14). -/
abbrev unackedAlarms : Nat := 0x521006
/-- TableRamCorrected (Table 8-9). -/
abbrev tableRamCorrected : Nat := 0x522001
/-- TableRamUncorrectable (Table 8-9). -/
abbrev tableRamUncorrectable : Nat := 0x522002
/-- BindingMisses (Table 8-9). -/
abbrev bindingMisses : Nat := 0x522003
/-- LoopRepeats (Table 8-9). -/
abbrev loopRepeats : Nat := 0x522004
/-- LoopMisses (Table 8-9). -/
abbrev loopMisses : Nat := 0x522005
/-- LoopsInHold (Table 8-9). -/
abbrev loopsInHold : Nat := 0x522006
/-- LoopsInEnvelope (Table 8-9). -/
abbrev loopsInEnvelope : Nat := 0x522007
/-- PrpState (Table 9-11). -/
abbrev prpState : Nat := 0x211001
/-- PathTimeout (Table 9-11). -/
abbrev pathTimeout : Nat := 0x211002
/-- RxFrames of unit k, from 0 (Table 9-11). -/
abbrev rxFrames (k : Nat) : Nat := 0x211101 + k * 0x100
/-- TxFrames of unit k, from 0 (Table 9-11). -/
abbrev txFrames (k : Nat) : Nat := 0x211102 + k * 0x100
/-- WrongLan of unit k, from 0 (Table 9-11). -/
abbrev wrongLan (k : Nat) : Nat := 0x211103 + k * 0x100
/-- Unique of unit k, from 0 (Table 9-11). -/
abbrev unique (k : Nat) : Nat := 0x211104 + k * 0x100
/-- Duplicates of unit k, from 0 (Table 9-11). -/
abbrev duplicates (k : Nat) : Nat := 0x211105 + k * 0x100
/-- PathLosses of unit k, from 0 (Table 9-11). -/
abbrev pathLosses (k : Nat) : Nat := 0x211106 + k * 0x100
/-- SeamState (Table 9-11). -/
abbrev seamState : Nat := 0x212001
/-- SeamRefusal (Table 9-11). -/
abbrev seamRefusal : Nat := 0x212002
/-- SeamKeyId (Table 9-11). -/
abbrev seamKeyId : Nat := 0x212003
/-- SeamEncrypt (Table 9-11). -/
abbrev seamEncrypt : Nat := 0x212004
/-- SeamProtocolVersion (Table 9-11). -/
abbrev seamProtocolVersion : Nat := 0x212005
/-- StationIPv4 (Table 9-11). -/
abbrev stationIPv4 : Nat := 0x212101
/-- StationMac (Table 9-11). -/
abbrev stationMac : Nat := 0x212102
/-- PartnerNode (Table 9-11). -/
abbrev partnerNode : Nat := 0x212103
/-- PartnerIPv4 (Table 9-11). -/
abbrev partnerIPv4 : Nat := 0x212104
/-- PartnerMac (Table 9-11). -/
abbrev partnerMac : Nat := 0x212105
/-- PartnerSerial (Table 9-11). -/
abbrev partnerSerial : Nat := 0x212106
/-- SyncState (Table 9-11). -/
abbrev syncState : Nat := 0x212201
/-- SyncProgress (Table 9-11). -/
abbrev syncProgress : Nat := 0x212202
/-- LastMatchedTick (Table 9-11). -/
abbrev lastMatchedTick : Nat := 0x212203
/-- HeartbeatMisses (Table 9-11). -/
abbrev heartbeatMisses : Nat := 0x212204
/-- Sidebands (Table 9-11). -/
abbrev sidebands : Nat := 0x212205
/-- PartnerVisible (Table 9-11). -/
abbrev partnerVisible : Nat := 0x212206
/-- LastTakeoverTick (Table 9-11). -/
abbrev lastTakeoverTick : Nat := 0x212207
/-- PresenceDelayMax (Table 9-11). -/
abbrev presenceDelayMax : Nat := 0x212208
/-- SeamRetransmits (Table 9-11). -/
abbrev seamRetransmits : Nat := 0x212301
/-- SeamAuthFailures (Table 9-11). -/
abbrev seamAuthFailures : Nat := 0x212302
/-- HeartbeatsMissed (Table 9-11). -/
abbrev heartbeatsMissed : Nat := 0x212303
/-- GapWefts (Table 9-11). -/
abbrev gapWefts : Nat := 0x212304
/-- DigestMismatches (Table 9-11). -/
abbrev digestMismatches : Nat := 0x212305
/-- Joins (Table 9-11). -/
abbrev joins : Nat := 0x212306
/-- Takeovers (Table 9-11). -/
abbrev takeovers : Nat := 0x212307
/-- FenceAssertions (Table 9-11). -/
abbrev fenceAssertions : Nat := 0x212308
/-- PtpEnable (Table 10-2). -/
abbrev ptpEnable : Nat := 0x213001
/-- PtpDomain (Table 10-2). -/
abbrev ptpDomain : Nat := 0x213002
/-- PtpMode (Table 10-2). -/
abbrev ptpMode : Nat := 0x213003
/-- PtpDelayMechanism (Table 10-2). -/
abbrev ptpDelayMechanism : Nat := 0x213004
/-- PtpTransport (Table 10-2). -/
abbrev ptpTransport : Nat := 0x213005
/-- PtpPriority1 (Table 10-2). -/
abbrev ptpPriority1 : Nat := 0x213006
/-- PtpPriority2 (Table 10-2). -/
abbrev ptpPriority2 : Nat := 0x213007
/-- PtpLogSyncInterval (Table 10-2). -/
abbrev ptpLogSyncInterval : Nat := 0x213008
/-- PtpLogAnnounceInterval (Table 10-2). -/
abbrev ptpLogAnnounceInterval : Nat := 0x213009
/-- PtpAnnounceTimeout (Table 10-2). -/
abbrev ptpAnnounceTimeout : Nat := 0x21300A
/-- PtpLogMinDelayInterval (Table 10-2). -/
abbrev ptpLogMinDelayInterval : Nat := 0x21300B
/-- PtpTimeState (Table 10-2). -/
abbrev ptpTimeState : Nat := 0x213101
/-- ParentIdentity (Table 10-2). -/
abbrev parentIdentity : Nat := 0x213102
/-- GrandmasterIdentity (Table 10-2). -/
abbrev grandmasterIdentity : Nat := 0x213103
/-- OffsetFromMaster (Table 10-2). -/
abbrev offsetFromMaster : Nat := 0x213104
/-- MeanPathDelay (Table 10-2). -/
abbrev meanPathDelay : Nat := 0x213105
/-- TimePort (Table 10-2). -/
abbrev timePort : Nat := 0x213106
/-- RefusedOffset (Table 10-2). -/
abbrev refusedOffset : Nat := 0x213107
/-- UtcOffset (Table 10-2). -/
abbrev utcOffset : Nat := 0x213108
/-- HoldoverSince (Table 10-2). -/
abbrev holdoverSince : Nat := 0x213109
/-- RtcLost (Table 10-2). -/
abbrev rtcLost : Nat := 0x21310A
/-- PortState of unit k, from 0 (Table 10-2). -/
abbrev portState (k : Nat) : Nat := 0x213201 + k * 0x100
/-- PortOffset of unit k, from 0 (Table 10-2). -/
abbrev portOffset (k : Nat) : Nat := 0x213202 + k * 0x100
/-- PortPathDelay of unit k, from 0 (Table 10-2). -/
abbrev portPathDelay (k : Nat) : Nat := 0x213203 + k * 0x100
/-- PortAsymmetry of unit k, from 0 (Table 10-2). -/
abbrev portAsymmetry (k : Nat) : Nat := 0x213204 + k * 0x100
/-- SyncReceived of unit k, from 0 (Table 10-2). -/
abbrev syncReceived (k : Nat) : Nat := 0x213205 + k * 0x100
/-- AnnounceTimeouts of unit k, from 0 (Table 10-2). -/
abbrev announceTimeouts (k : Nat) : Nat := 0x213206 + k * 0x100
/-- JumpThreshold (Table 10-2). -/
abbrev jumpThreshold : Nat := 0x213401
/-- ReStepPermit (Table 10-2). -/
abbrev reStepPermit : Nat := 0x213402
/-- ReStepArmed (Table 10-2). -/
abbrev reStepArmed : Nat := 0x213403
/-- TimeSet (Table 10-2). -/
abbrev timeSet : Nat := 0x213404
/-- HoldoverEntry (Table 10-2). -/
abbrev holdoverEntry : Nat := 0x213405
/-- PpsOutMode (Table 10-2). -/
abbrev ppsOutMode : Nat := 0x213501
/-- PpsOutInHoldover (Table 10-2). -/
abbrev ppsOutInHoldover : Nat := 0x213502
/-- PpsInEnable (Table 10-2). -/
abbrev ppsInEnable : Nat := 0x213503
/-- PpsInLast (Table 10-2). -/
abbrev ppsInLast : Nat := 0x213504
/-- PpsInOffset (Table 10-2). -/
abbrev ppsInOffset : Nat := 0x213505
/-- PpsInGlitches (Table 10-2). -/
abbrev ppsInGlitches : Nat := 0x213506
/-- Steps (Table 10-2). -/
abbrev steps : Nat := 0x213601
/-- JumpsRefused (Table 10-2). -/
abbrev jumpsRefused : Nat := 0x213602
/-- GrandmasterChanges (Table 10-2). -/
abbrev grandmasterChanges : Nat := 0x213603
/-- HoldoverEntries (Table 10-2). -/
abbrev holdoverEntries : Nat := 0x213604
/-- PtpDiscarded (Table 10-2). -/
abbrev ptpDiscarded : Nat := 0x213605
/-- CanEnable of unit k, from 0 (Table 11-7). -/
abbrev canEnable (k : Nat) : Nat := 0x221001 + k * 0x1000
/-- NominalPrescaler of unit k, from 0 (Table 11-7). -/
abbrev nominalPrescaler (k : Nat) : Nat := 0x221002 + k * 0x1000
/-- NominalTseg1 of unit k, from 0 (Table 11-7). -/
abbrev nominalTseg1 (k : Nat) : Nat := 0x221003 + k * 0x1000
/-- NominalTseg2 of unit k, from 0 (Table 11-7). -/
abbrev nominalTseg2 (k : Nat) : Nat := 0x221004 + k * 0x1000
/-- NominalSjw of unit k, from 0 (Table 11-7). -/
abbrev nominalSjw (k : Nat) : Nat := 0x221005 + k * 0x1000
/-- DataPrescaler of unit k, from 0 (Table 11-7). -/
abbrev dataPrescaler (k : Nat) : Nat := 0x221006 + k * 0x1000
/-- DataTseg1 of unit k, from 0 (Table 11-7). -/
abbrev dataTseg1 (k : Nat) : Nat := 0x221007 + k * 0x1000
/-- DataTseg2 of unit k, from 0 (Table 11-7). -/
abbrev dataTseg2 (k : Nat) : Nat := 0x221008 + k * 0x1000
/-- DataSjw of unit k, from 0 (Table 11-7). -/
abbrev dataSjw (k : Nat) : Nat := 0x221009 + k * 0x1000
/-- TdcOffset of unit k, from 0 (Table 11-7). -/
abbrev tdcOffset (k : Nat) : Nat := 0x22100A + k * 0x1000
/-- NominalRate of unit k, from 0 (Table 11-7). -/
abbrev nominalRate (k : Nat) : Nat := 0x22100B + k * 0x1000
/-- DataRate of unit k, from 0 (Table 11-7). -/
abbrev dataRate (k : Nat) : Nat := 0x22100C + k * 0x1000
/-- Termination of unit k, from 0 (Table 11-7). -/
abbrev termination (k : Nat) : Nat := 0x22100D + k * 0x1000
/-- AutoRecover of unit k, from 0 (Table 11-7). -/
abbrev autoRecover (k : Nat) : Nat := 0x22100E + k * 0x1000
/-- Recover of unit k, from 0 (Table 11-7). -/
abbrev recover (k : Nat) : Nat := 0x22100F + k * 0x1000
/-- WakeMode of unit k, from 0 (Table 11-7). -/
abbrev wakeMode (k : Nat) : Nat := 0x221010 + k * 0x1000
/-- WakeIdent of unit k, from 0 (Table 11-7). -/
abbrev wakeIdent (k : Nat) : Nat := 0x221011 + k * 0x1000
/-- WakeMask of unit k, from 0 (Table 11-7). -/
abbrev wakeMask (k : Nat) : Nat := 0x221012 + k * 0x1000
/-- WakeDlc of unit k, from 0 (Table 11-7). -/
abbrev wakeDlc (k : Nat) : Nat := 0x221013 + k * 0x1000
/-- WakeData of unit k, from 0 (Table 11-7). -/
abbrev wakeData (k : Nat) : Nat := 0x221014 + k * 0x1000
/-- WakeDataMask of unit k, from 0 (Table 11-7). -/
abbrev wakeDataMask (k : Nat) : Nat := 0x221015 + k * 0x1000
/-- DetectCommand of unit k, from 0 (Table 11-7). -/
abbrev detectCommand (k : Nat) : Nat := 0x221016 + k * 0x1000
/-- DetectResult of unit k, from 0 (Table 11-7). -/
abbrev detectResult (k : Nat) : Nat := 0x221017 + k * 0x1000
/-- DetectedNominal of unit k, from 0 (Table 11-7). -/
abbrev detectedNominal (k : Nat) : Nat := 0x221018 + k * 0x1000
/-- DetectedData of unit k, from 0 (Table 11-7). -/
abbrev detectedData (k : Nat) : Nat := 0x221019 + k * 0x1000
/-- CanState of unit k, from 0 (Table 11-7). -/
abbrev canState (k : Nat) : Nat := 0x221101 + k * 0x1000
/-- TxErrorCount of unit k, from 0 (Table 11-7). -/
abbrev txErrorCount (k : Nat) : Nat := 0x221102 + k * 0x1000
/-- RxErrorCount of unit k, from 0 (Table 11-7). -/
abbrev rxErrorCount (k : Nat) : Nat := 0x221103 + k * 0x1000
/-- RefLast of unit k, from 0 (Table 11-7). -/
abbrev refLast (k : Nat) : Nat := 0x221104 + k * 0x1000
/-- RxFrames of unit k, from 0 (Table 11-7). -/
abbrev rxFramesCan (k : Nat) : Nat := 0x221201 + k * 0x1000
/-- TxFrames of unit k, from 0 (Table 11-7). -/
abbrev txFramesCan (k : Nat) : Nat := 0x221202 + k * 0x1000
/-- Overruns of unit k, from 0 (Table 11-7). -/
abbrev overruns (k : Nat) : Nat := 0x221203 + k * 0x1000
/-- DlcMismatch of unit k, from 0 (Table 11-7). -/
abbrev dlcMismatch (k : Nat) : Nat := 0x221204 + k * 0x1000
/-- Unmatched of unit k, from 0 (Table 11-7). -/
abbrev unmatched (k : Nat) : Nat := 0x221205 + k * 0x1000
/-- TxReplaced of unit k, from 0 (Table 11-7). -/
abbrev txReplaced (k : Nat) : Nat := 0x221206 + k * 0x1000
/-- BusOffEntries of unit k, from 0 (Table 11-7). -/
abbrev busOffEntries (k : Nat) : Nat := 0x221207 + k * 0x1000
/-- ErrorFrames of unit k, from 0 (Table 11-7). -/
abbrev errorFrames (k : Nat) : Nat := 0x221208 + k * 0x1000
/-- LockExpired of unit k, from 0 (Table 11-7). -/
abbrev lockExpired (k : Nat) : Nat := 0x221209 + k * 0x1000
/-- CanRxBuffer of unit k and buffer b, both from 0 (Table 11-7). -/
abbrev canRxBuffer (k b : Nat) : Nat := 0x221301 + k * 0x1000 + b
/-- CanHostFilter of unit k and buffer b, both from 0 (Table 11-7). -/
abbrev canHostFilter (k b : Nat) : Nat := 0x221401 + k * 0x1000 + b
/-- SilenceTimeout of unit k, from 0 (Table 12-6). -/
abbrev silenceTimeout (k : Nat) : Nat := 0x300001 + k * 0x100
/-- LinkState of unit k, from 0 (Table 12-6). -/
abbrev linkState (k : Nat) : Nat := 0x300002 + k * 0x100
/-- SupplyVoltage of unit k, from 0 (Table 12-6). -/
abbrev supplyVoltage (k : Nat) : Nat := 0x300003 + k * 0x100
/-- SupplyState of unit k, from 0 (Table 12-6). -/
abbrev supplyState (k : Nat) : Nat := 0x300004 + k * 0x100
/-- FieldEpoch of unit k, from 0 (Table 12-6). -/
abbrev fieldEpoch (k : Nat) : Nat := 0x300005 + k * 0x100
/-- CrcErrors of unit k, from 0 (Table 12-6). -/
abbrev crcErrors (k : Nat) : Nat := 0x301001 + k * 0x100
/-- SequenceGaps of unit k, from 0 (Table 12-6). -/
abbrev sequenceGaps (k : Nat) : Nat := 0x301002 + k * 0x100
/-- CommitMissed of unit k, from 0 (Table 12-6). -/
abbrev commitMissed (k : Nat) : Nat := 0x301003 + k * 0x100
/-- SilenceEvents of unit k, from 0 (Table 12-6). -/
abbrev silenceEvents (k : Nat) : Nat := 0x301004 + k * 0x100
/-- SupplyTrips of unit k, from 0 (Table 12-6). -/
abbrev supplyTrips (k : Nat) : Nat := 0x301005 + k * 0x100
/-- SoeLost of unit k, from 0 (Table 12-6). -/
abbrev soeLost (k : Nat) : Nat := 0x301006 + k * 0x100
/-- DiMode of unit k, from 0 (Table 12-6). -/
abbrev diMode (k : Nat) : Nat := 0x310101 + k * 0x100
/-- DiFilter of unit k, from 0 (Table 12-6). -/
abbrev diFilter (k : Nat) : Nat := 0x310102 + k * 0x100
/-- DiState of unit k, from 0 (Table 12-6). -/
abbrev diState (k : Nat) : Nat := 0x310103 + k * 0x100
/-- DiCurrent of unit k, from 0 (Table 12-6). -/
abbrev diCurrent (k : Nat) : Nat := 0x310104 + k * 0x100
/-- DiQuality of unit k, from 0 (Table 12-6). -/
abbrev diQuality (k : Nat) : Nat := 0x310105 + k * 0x100
/-- DiCount of unit k, from 0 (Table 12-6). -/
abbrev diCount (k : Nat) : Nat := 0x310106 + k * 0x100
/-- DoRetryInterval (Table 12-6). -/
abbrev doRetryInterval : Nat := 0x320001
/-- DoSafeState of unit k, from 0 (Table 12-6). -/
abbrev doSafeState (k : Nat) : Nat := 0x320101 + k * 0x100
/-- DoOpenLoad of unit k, from 0 (Table 12-6). -/
abbrev doOpenLoad (k : Nat) : Nat := 0x320102 + k * 0x100
/-- DoApplied of unit k, from 0 (Table 12-6). -/
abbrev doApplied (k : Nat) : Nat := 0x320103 + k * 0x100
/-- DoCurrent of unit k, from 0 (Table 12-6). -/
abbrev doCurrent (k : Nat) : Nat := 0x320104 + k * 0x100
/-- DoQuality of unit k, from 0 (Table 12-6). -/
abbrev doQuality (k : Nat) : Nat := 0x320105 + k * 0x100
/-- DoParallel of unit k, from 0 (Table 12-6). -/
abbrev doParallel (k : Nat) : Nat := 0x322101 + k * 0x100
/-- GroupCurrent of unit k, from 0 (Table 12-6). -/
abbrev groupCurrent (k : Nat) : Nat := 0x322102 + k * 0x100
/-- VsEnable of unit k, from 0 (Table 12-6). -/
abbrev vsEnable (k : Nat) : Nat := 0x330101 + k * 0x100
/-- VsStatus of unit k, from 0 (Table 12-6). -/
abbrev vsStatus (k : Nat) : Nat := 0x330102 + k * 0x100
/-- VsCurrent of unit k, from 0 (Table 12-6). -/
abbrev vsCurrent (k : Nat) : Nat := 0x330103 + k * 0x100
/-- AiSupply of unit k, from 0 (Table 13-6). -/
abbrev aiSupply (k : Nat) : Nat := 0x340101 + k * 0x100
/-- AiHart of unit k, from 0 (Table 13-6). -/
abbrev aiHart (k : Nat) : Nat := 0x340102 + k * 0x100
/-- AiCurrent of unit k, from 0 (Table 13-6). -/
abbrev aiCurrent (k : Nat) : Nat := 0x340103 + k * 0x100
/-- AiQuality of unit k, from 0 (Table 13-6). -/
abbrev aiQuality (k : Nat) : Nat := 0x340104 + k * 0x100
/-- AiCalRecord of unit k, from 0 (Table 13-6). -/
abbrev aiCalRecord (k : Nat) : Nat := 0x340105 + k * 0x100
/-- AoSafeState of unit k, from 0 (Table 13-6). -/
abbrev aoSafeState (k : Nat) : Nat := 0x350101 + k * 0x100
/-- AoSafeValue of unit k, from 0 (Table 13-6). -/
abbrev aoSafeValue (k : Nat) : Nat := 0x350102 + k * 0x100
/-- AoFailureCurrent of unit k, from 0 (Table 13-6). -/
abbrev aoFailureCurrent (k : Nat) : Nat := 0x350103 + k * 0x100
/-- AoHart of unit k, from 0 (Table 13-6). -/
abbrev aoHart (k : Nat) : Nat := 0x350104 + k * 0x100
/-- AoCurrent of unit k, from 0 (Table 13-6). -/
abbrev aoCurrent (k : Nat) : Nat := 0x350105 + k * 0x100
/-- AoQuality of unit k, from 0 (Table 13-6). -/
abbrev aoQuality (k : Nat) : Nat := 0x350106 + k * 0x100
/-- AoStatus of unit k, from 0 (Table 13-6). -/
abbrev aoStatus (k : Nat) : Nat := 0x350107 + k * 0x100
/-- AoSupplyVoltage of unit k, from 0 (Table 13-6). -/
abbrev aoSupplyVoltage (k : Nat) : Nat := 0x350108 + k * 0x100
/-- AoCalRecord of unit k, from 0 (Table 13-6). -/
abbrev aoCalRecord (k : Nat) : Nat := 0x350109 + k * 0x100
/-- HartPollInterval (Table 13-6). -/
abbrev hartPollInterval : Nat := 0x360001
/-- HartState of unit k, from 0 (Table 13-6). -/
abbrev hartState (k : Nat) : Nat := 0x361101 + k * 0x100
/-- HartIdentity of unit k, from 0 (Table 13-6). -/
abbrev hartIdentity (k : Nat) : Nat := 0x361102 + k * 0x100
/-- HartRequest of unit k, from 0 (Table 13-6). -/
abbrev hartRequest (k : Nat) : Nat := 0x361103 + k * 0x100
/-- HartResponse of unit k, from 0 (Table 13-6). -/
abbrev hartResponse (k : Nat) : Nat := 0x361104 + k * 0x100
/-- HartTransactions of unit k, from 0 (Table 13-6). -/
abbrev hartTransactions (k : Nat) : Nat := 0x361105 + k * 0x100
/-- HartFailures of unit k, from 0 (Table 13-6). -/
abbrev hartFailures (k : Nat) : Nat := 0x361106 + k * 0x100
/-- HartBurstIgnored of unit k, from 0 (Table 13-6). -/
abbrev hartBurstIgnored (k : Nat) : Nat := 0x361107 + k * 0x100
/-- IslandState (Table 14-12). -/
abbrev islandState : Nat := 0x400001
/-- IslandFault (Table 14-12). -/
abbrev islandFault : Nat := 0x400002
/-- SetRevision (Table 14-12). -/
abbrev setRevision : Nat := 0x400003
/-- SetName (Table 14-12). -/
abbrev setName : Nat := 0x400004
/-- InputValues (Table 14-12). -/
abbrev inputValues : Nat := 0x400101
/-- InputFaults (Table 14-12). -/
abbrev inputFaults : Nat := 0x400102
/-- EffectStates (Table 14-12). -/
abbrev effectStates : Nat := 0x400201
/-- OutputFaults (Table 14-12). -/
abbrev outputFaults : Nat := 0x400202
/-- OutputCurrents (Table 14-12). -/
abbrev outputCurrents : Nat := 0x400203
/-- CauseStates (Table 14-12). -/
abbrev causeStates : Nat := 0x400301
/-- SafetySetConfirm (Table 14-12). -/
abbrev safetySetConfirm : Nat := 0x400401
/-- PendingState (Table 14-12). -/
abbrev pendingState : Nat := 0x400402
/-- PendingRefusal (Table 14-12). -/
abbrev pendingRefusal : Nat := 0x400403
/-- PendingDigest (Table 14-12). -/
abbrev pendingDigest : Nat := 0x400404
/-- IslandResets (Table 14-12). -/
abbrev islandResets : Nat := 0x400501
/-- CrossShortsTransient (Table 14-12). -/
abbrev crossShortsTransient : Nat := 0x400502
/-- DarkTestFailures (Table 14-12). -/
abbrev darkTestFailures : Nat := 0x400503
/-- LastProofTest (Table 14-12). -/
abbrev lastProofTest : Nat := 0x400601
/-- ProofTestInterval (Table 14-12). -/
abbrev proofTestInterval : Nat := 0x400602
/-- SafetyParameterSet (Table 14-12). -/
abbrev safetyParameterSet : Nat := 0x20000010
/-- ResetCount (Table 15-8). -/
abbrev resetCount : Nat := 0x500001
/-- ResetCause (Table 15-8). -/
abbrev resetCause : Nat := 0x500002
/-- ResetCauseClear (Table 15-8). -/
abbrev resetCauseClear : Nat := 0x500003
/-- LastEpisode (Table 15-8). -/
abbrev lastEpisode : Nat := 0x500004
/-- EpisodeHistory (Table 15-8). -/
abbrev episodeHistory : Nat := 0x500005
/-- BackupLost (Table 15-8). -/
abbrev backupLost : Nat := 0x500006
/-- BootDuration (Table 15-8). -/
abbrev bootDuration : Nat := 0x500007
/-- OptionStatus (Table 15-8). -/
abbrev optionStatus : Nat := 0x500101
/-- OptionSequence (Table 15-8). -/
abbrev optionSequence : Nat := 0x500102
/-- TrimStatus (Table 15-8). -/
abbrev trimStatus : Nat := 0x500104
/-- OptUsbEnable (Table 15-8). -/
abbrev optUsbEnable : Nat := 0x500201
/-- OptDebugEnable (Table 15-8). -/
abbrev optDebugEnable : Nat := 0x500202
/-- OptResetPin (Table 15-8). -/
abbrev optResetPin : Nat := 0x500203
/-- ClockSources (Table 16-7). -/
abbrev clockSources : Nat := 0x501001
/-- XoFailed (Table 16-7). -/
abbrev xoFailed : Nat := 0x501002
/-- DomainSources (Table 16-7). -/
abbrev domainSources : Nat := 0x501003
/-- SequencerClock (Table 16-7). -/
abbrev sequencerClock : Nat := 0x501004
/-- CoreSupply (Table 16-7). -/
abbrev coreSupply : Nat := 0x501005
/-- SupplyMinimum (Table 16-7). -/
abbrev supplyMinimum : Nat := 0x501006
/-- IrcTrim (Table 16-7). -/
abbrev ircTrim : Nat := 0x501101
/-- IrcTrimSource (Table 16-7). -/
abbrev ircTrimSource : Nat := 0x501102
/-- IrcTrimChannel (Table 16-7). -/
abbrev ircTrimChannel : Nat := 0x501103
/-- IrcError (Table 16-7). -/
abbrev ircError : Nat := 0x501104
/-- MonitorTrips (Table 16-7). -/
abbrev monitorTrips : Nat := 0x501201
/-- SwitchRefusals (Table 16-7). -/
abbrev switchRefusals : Nat := 0x501202
/-- MuxHangs (Table 16-7). -/
abbrev muxHangs : Nat := 0x501203
/-- GatedAccesses (Table 16-7). -/
abbrev gatedAccesses : Nat := 0x501204
/-- StoreCorrected (Table 17-10). -/
abbrev storeCorrected : Nat := 0x502001
/-- StoreUncorrectable (Table 17-10). -/
abbrev storeUncorrectable : Nat := 0x502002
/-- StoreLastFault (Table 17-10). -/
abbrev storeLastFault : Nat := 0x502003
/-- ScrubPassTicks (Table 17-10). -/
abbrev scrubPassTicks : Nat := 0x502004
/-- ConfigPagesUsed (Table 17-10). -/
abbrev configPagesUsed : Nat := 0x502005
/-- ConfigPagesNeeded (Table 17-10). -/
abbrev configPagesNeeded : Nat := 0x502006
/-- DramCorrected (Table 17-10). -/
abbrev dramCorrected : Nat := 0x502101
/-- DramUncorrectable (Table 17-10). -/
abbrev dramUncorrectable : Nat := 0x502102
/-- DramLastFault (Table 17-10). -/
abbrev dramLastFault : Nat := 0x502103
/-- DramScrubPasses (Table 17-10). -/
abbrev dramScrubPasses : Nat := 0x502104
/-- DmaErrors (Table 17-10). -/
abbrev dmaErrors : Nat := 0x502201
/-- DmaLateErrors (Table 17-10). -/
abbrev dmaLateErrors : Nat := 0x502202
/-- DmaHalts (Table 17-10). -/
abbrev dmaHalts : Nat := 0x502203
/-- DmaListsDiscarded (Table 17-10). -/
abbrev dmaListsDiscarded : Nat := 0x502204
/-- TallyNewest (Table 18-6). -/
abbrev tallyNewest : Nat := 0x600001
/-- TallyOldest (Table 18-6). -/
abbrev tallyOldest : Nat := 0x600002
/-- OperatingMinutes (Table 18-6). -/
abbrev operatingMinutes : Nat := 0x600003
/-- PowerCycles (Table 18-6). -/
abbrev powerCycles : Nat := 0x600004
/-- TalliesWritten (Table 18-6). -/
abbrev talliesWritten : Nat := 0x600005
/-- TalliesDamaged (Table 18-6). -/
abbrev talliesDamaged : Nat := 0x600006
/-- HeadRebuilds (Table 18-6). -/
abbrev headRebuilds : Nat := 0x600007
/-- TallySelect (Table 18-6). -/
abbrev tallySelect : Nat := 0x600101
/-- TallyRecord (Table 18-6). -/
abbrev tallyRecord : Nat := 0x600102
/-- TallyStatus (Table 18-6). -/
abbrev tallyStatus : Nat := 0x600103
/-- ExportFirst (Table 18-6). -/
abbrev exportFirst : Nat := 0x600201
/-- ExportCount (Table 18-6). -/
abbrev exportCount : Nat := 0x600202
/-- FaceplateRate (Table 18-6). -/
abbrev faceplateRate : Nat := 0x610001
/-- FaceplatePage (Table 18-6). -/
abbrev faceplatePage : Nat := 0x610002
/-- FaceplateQueued (Table 18-6). -/
abbrev faceplateQueued : Nat := 0x610003
/-- FaceplateStale (Table 18-6). -/
abbrev faceplateStale : Nat := 0x610004
/-- UpdatesDone (Table 18-6). -/
abbrev updatesDone : Nat := 0x610005
/-- FrameCrcFaults (Table 18-6). -/
abbrev frameCrcFaults : Nat := 0x610006
/-- JournalCompletions (Table 18-6). -/
abbrev journalCompletions : Nat := 0x610007
/-- TallyExport (Table 18-6). -/
abbrev tallyExport : Nat := 0x20000030
/-- FaceplateUserImage (Table 18-6). -/
abbrev faceplateUserImage : Nat := 0x20000031
/-- KeyStoreState (Table 19-4). -/
abbrev keyStoreState : Nat := 0x700001
/-- WarpKey of slot k, from 0 (Table 19-4). -/
abbrev warpKey (k : Nat) : Nat := 0x700101 + k
/-- SafetySetKey of slot k, from 0 (Table 19-4). -/
abbrev safetySetKey (k : Nat) : Nat := 0x700201 + k
/-- WarpKeyStatus (Table 19-4). -/
abbrev warpKeyStatus : Nat := 0x700301
/-- SafetyKeyStatus (Table 19-4). -/
abbrev safetyKeyStatus : Nat := 0x700302
/-- FirmwareKeyStatus (Table 19-4). -/
abbrev firmwareKeyStatus : Nat := 0x700303
/-- RevokeKey (Table 19-4). -/
abbrev revokeKey : Nat := 0x700401
/-- ConduitKey of slot k, from 0 (Table 19-4). -/
abbrev conduitKey (k : Nat) : Nat := 0x700501 + k
/-- ConduitKeyStatus (Table 19-4). -/
abbrev conduitKeyStatus : Nat := 0x700511
/-- SeamKey of slot k, from 0 (Table 19-4). -/
abbrev seamKey (k : Nat) : Nat := 0x700601 + k
/-- SeamKeyStatus (Table 19-4). -/
abbrev seamKeyStatus : Nat := 0x700603
/-- FirmwareSecurityVersion (Table 19-4). -/
abbrev firmwareSecurityVersion : Nat := 0x701001
/-- CommitSecurityVersion (Table 19-4). -/
abbrev commitSecurityVersion : Nat := 0x701002
/-- FirmwareBankState of unit k, from 0 (Table 19-4). -/
abbrev firmwareBankState (k : Nat) : Nat := 0x701101 + k * 0x100
/-- FirmwareRefusal of unit k, from 0 (Table 19-4). -/
abbrev firmwareRefusal (k : Nat) : Nat := 0x701102 + k * 0x100
/-- DebugLock (Table 19-4). -/
abbrev debugLock : Nat := 0x702001
/-- DebugLockCommand (Table 19-4). -/
abbrev debugLockCommand : Nat := 0x702002
/-- FirmwareBankA (Table 19-4). -/
abbrev firmwareBankA : Nat := 0x20000003
/-- FirmwareBankB (Table 19-4). -/
abbrev firmwareBankB : Nat := 0x20000004
/-- ModuleMac (Table 20-8). -/
abbrev moduleMac : Nat := 0x210601
/-- UsbMac (Table 20-8). -/
abbrev usbMac : Nat := 0x210602
/-- LogicFeedA (Table 20-8). -/
abbrev logicFeedA : Nat := 0x503001
/-- LogicFeedB (Table 20-8). -/
abbrev logicFeedB : Nat := 0x503002
/-- LogicPower (Table 20-8). -/
abbrev logicPower : Nat := 0x503003
/-- DieTemperature (Table 20-8). -/
abbrev dieTemperature : Nat := 0x503004
/-- PlateTemperature (Table 20-8). -/
abbrev plateTemperature : Nat := 0x503005
/-- DoorState (Table 20-8). -/
abbrev doorState : Nat := 0x503006
/-- FeedLosses (Table 20-8). -/
abbrev feedLosses : Nat := 0x503007
/-- LoopCapture of slot k, from 0 (Table 8-10). -/
abbrev loopCapture (k : Nat) : Nat := 0x20000020 + k

end Obj

end Sys2Proof.Machine
end

