-- ==== Sys2Proof/Machine/Assoc.lean ====
section
/-! DEFINITION. Sparse data by key: lists of (key, value) pairs in one canonical form, keys strictly rising; and byte
memories, whose unlisted addresses read as 0 and which list no zero byte. -/

namespace Sys2Proof.Machine

/-- Sparse data by key, keys strictly rising. -/
abbrev Assoc (α : Type) := List (Nat × α)

namespace Assoc

/-- The value listed at `k`. -/
def get? {α : Type} (m : Assoc α) (k : Nat) : Option α :=
  match m with
  | [] => none
  | (j, v) :: r => if j = k then some v else get? r k

/-- The value listed at `k`, or `d`. -/
def getD {α : Type} (m : Assoc α) (k : Nat) (d : α) : α := (get? m k).getD d

/-- `m` with `v` listed at `k`. -/
def set {α : Type} (m : Assoc α) (k : Nat) (v : α) : Assoc α :=
  match m with
  | [] => [(k, v)]
  | (j, w) :: r => if j < k then (j, w) :: set r k v else if j = k then (k, v) :: r else (k, v) :: (j, w) :: r

/-- `m` with nothing listed at `k`. -/
def erase {α : Type} (m : Assoc α) (k : Nat) : Assoc α := m.filter fun e => decide (e.1 ≠ k)

/-- Every key of `m` is above `k`. -/
def above {α : Type} (k : Nat) (m : Assoc α) : Bool := m.all fun p => decide (k < p.1)

/-- The canonical form: keys strictly rising. -/
def wf {α : Type} : Assoc α → Bool
  | [] => true
  | (k, _) :: r => above k r && wf r

/-- The pairs whose key passes a test. -/
def filterKeys {α : Type} (p : Nat → Bool) (m : Assoc α) : Assoc α := m.filter fun e => p e.1

end Assoc

/-- A byte memory: `Host.Cell`s in canonical form, addresses strictly rising, no listed zero. -/
abbrev Mem := List Host.Cell

namespace Mem

/-- The byte at `a`; an unlisted address reads as 0. -/
def get (m : Mem) (a : Nat) : Byte := Assoc.getD m a 0

/-- `m` with byte `b` at `a`, in canonical form. -/
def put (m : Mem) (a : Nat) (b : Byte) : Mem := if b = 0 then Assoc.erase m a else Assoc.set m a b

/-- The `n` bytes from `a` on. -/
def read (m : Mem) (a : Nat) : Nat → Bytes
  | 0 => []
  | n + 1 => get m a :: read m (a + 1) n

/-- `m` with the bytes `bs` written from `a` on. -/
def write (m : Mem) (a : Nat) : Bytes → Mem
  | [] => m
  | b :: bs => write (put m a b) (a + 1) bs

/-- `m` with the `n` bytes from `a` on cleared. -/
def clear (m : Mem) (a n : Nat) : Mem := m.filter fun c => decide (c.1 < a) || decide (a + n ≤ c.1)

/-- The canonical form of a byte memory. -/
def wf (m : Mem) : Bool := Assoc.wf m && m.all fun c => c.2 != 0

end Mem

end Sys2Proof.Machine
end

