-- ==== Sys2Proof/Machine/State.lean ====
section
/-! DEFINITION. The state of the module: everything the manual gives it, block by block, as plain data; the reasons a step can
stop; and the state after reset. The objects of the dictionary whose value no typed field holds live in `dict`. -/

namespace Sys2Proof.Machine

/-- Why the machine stops with a fault: no rule of the manual stops this machine (every fault of the manual is a change of
state), so nothing raises it. Safe. -/
inductive Fault where
  /-- Raised by nothing: kept so that the type is not empty. Safe. -/
  | none
  deriving DecidableEq, Repr

/-- Why a command has no meaning. -/
inductive Refusal where
  /-- Raised by an arm of `exec` whose command has no meaning yet. Safe: nothing is said of the command. -/
  | notModelled (mnemonic : String)
  deriving DecidableEq, Repr

/-- Lifecycle states (Table 1-3); OFF has no code and is never reported (R14). -/
inductive Mode where
  | off | boot | service | ready | run | standby | layup | hold
  deriving DecidableEq, Repr

/-- A station command accepted and waiting for its boundary (R18, R19). -/
structure PendingCommand where
  /-- Command code of Table 1-6: START 3, STOP 4, HANDOVER 5. -/
  code : Nat
  /-- The boundary at which it takes effect. -/
  tick : Nat
  /-- It came with a mirrored weft (R20). -/
  mirrored : Bool
  deriving DecidableEq, Repr

/-- The episode in progress (R417), as its record of Table 15-7 will hold it. -/
structure Episode where
  causes : Nat
  widest : ResetLevel
  first : ResetLevel
  state : Mode
  /-- Real-time counter at the first assertion, in ns. -/
  assertNs : Nat
  /-- Time-unit instant of the first hold, in ns of local time. -/
  holdNs : Nat
  /-- [0] PULSE_DELAYED, [1] CLOCK_HELD, [2] BOOT_INTERRUPTED. -/
  flags : Nat
  /-- Last tick edge before the first assertion; none if no edge has occurred since the last start (R433). -/
  lastEdge : Option Nat
  deriving DecidableEq, Repr

/-- The reset block: the sources, the episode, the exit sequence and the reset area of backup RAM (Table 15-6). -/
structure ResetBlock where
  /-- Sources asserted and not yet released, with the level each asserted. -/
  asserted : List (ResetSource × ResetLevel)
  /-- Asserted sources that have taken hold (R416). -/
  holding : List ResetSource
  /-- The first assertion of the coming episode: state, real-time counter and last edge, until a source takes hold. -/
  first : Option (Mode × Nat × Option Nat)
  episode : Option Episode
  /-- The widest level of the closed episode whose exit sequence is running (R420). -/
  exiting : Option ResetLevel
  /-- Its causes (R443). -/
  exitCauses : Nat
  /-- A wake from LAYUP is running steps 5 to 11 (R422). -/
  waking : Bool
  /-- Reset-cause register (Table 15-2). -/
  cause : Nat
  /-- RESET_COUNT and FLAGS[0] SATURATED of the reset area (Table 15-6). -/
  count : Nat
  saturated : Bool
  /-- LOOP_TIMES: low 32 bits of the TAI seconds of the fault W episodes in the window (R432). -/
  loopTimes : List Nat
  /-- Episode records by slot (Table 15-6), 32 bytes each; an unlisted slot is all zero. -/
  records : Assoc Bytes
  /-- Parameter 4 of the coming RESET_EPISODE tallies, by slot (R433). -/
  recordEdges : Assoc Nat
  /-- Slots of the records that no RESET_EPISODE tally has reported yet (R433), oldest first. -/
  unreported : List Nat
  /-- The exit sequence that the open episode has interrupted in BOOT (R418). -/
  interrupted : Option ResetLevel
  /-- The backup domain has been lost since the last boot complete (R304, R430). -/
  rtcLost : Bool
  /-- The third fault W episode within 600 s, a persisting Canary fault or another cause found at the exit, which ends the boot
  in HOLD (Table 1-8); 0 for none. -/
  holdAtExit : Nat
  /-- Canary source of the last W episode's exit, for CANARY_DIE_FAULT (Table 1-8). -/
  canaryAtExit : Bool
  /-- Instant of the close of the last episode, in ns of local time (BootDuration). -/
  closeNs : Nat
  /-- A reset request accepted (R55): the level asked for, which the state maps as it is asserted, at the next tick edge (R410). -/
  request : Option ResetLevel
  /-- State recorded at LAYUP entry (R470). -/
  layup : Option Mode
  /-- The boot stopped in READY with StartMode 0x02, and the automatic start of R103 has not been scheduled; the boundary it is
  scheduled for. -/
  autoArmed : Bool
  autoAt : Option Nat
  /-- Local ns at which the boot entered its state (R103). -/
  readyNs : Nat
  /-- A pending activation was lost with the episode (Table 5-18). -/
  activationLost : Bool
  /-- RESET_OUT_N asserted (R423). -/
  resetOut : Bool
  /-- OK contact closed (Table 1-3). -/
  okContact : Bool
  deriving DecidableEq, Repr

/-- The options in force, from the option record or the fuses (Table 15-5, R426). -/
structure Options where
  usb : Bool
  debugPort : Bool
  resetPin : Bool
  deriving DecidableEq, Repr

/-- The MRAM option area: copies A and B of the option record as they stand in it (R424, Table 15-5), and the options in force. -/
structure OptionArea where
  copyA : Bytes
  copyB : Bytes
  inForce : Options
  /-- The copies as the second pulse of the newest option write found them (R416, R428). -/
  before : Bytes × Bytes
  deriving DecidableEq, Repr

/-- One tally record formed and not yet written (R475, R477). -/
structure TallyDraft where
  code : Nat
  flags : Nat
  source : Nat
  /-- TAI ns of TIME. -/
  timeNs : Nat
  params : List Nat
  deriving DecidableEq, Repr

/-- The tally log (R473 to R483) and the data-path queue of R220. -/
structure TallyLog where
  /-- Records by slot, 64 bytes each (R477); an unlisted slot was never written. -/
  slots : Assoc Bytes
  /-- The mirror in LPDDR4X that reads are served from (R481), by slot. -/
  mirror : Assoc Bytes
  /-- Head seal copies A and B (R479), 32 bytes each; empty when never written. -/
  sealA : Bytes
  sealB : Bytes
  /-- The seal copies as the newest record found them (R416). -/
  sealsBefore : Bytes × Bytes
  /-- The head, once step 11 has fixed it (R480). -/
  headKnown : Bool
  head : Nat
  minutes : Nat
  powerCycles : Nat
  /-- The record counts, by address, whose one COUNTER_OVERFLOW tally has been written (R62, R478). -/
  spilled : List Nat
  /-- Firmware records waiting for the head (R480). -/
  waiting : List TallyDraft
  /-- Damaged sequences already counted in TalliesDamaged (R481). -/
  damagedFound : List Nat
  /-- Data-path records of the running tick's capture, and those issued since (R189, R220), in issue order. -/
  captured : List TallyDraft
  issued : List TallyDraft
  /-- The queue of R220, oldest first. -/
  queue : List TallyDraft
  /-- Records dropped since the queue last emptied (R220). -/
  dropped : Nat
  deriving DecidableEq, Repr

/-- A queued faceplate update request: rectangle x, y, w, h (R488). -/
structure FaceRequest where
  x : Nat
  y : Nat
  w : Nat
  h : Nat
  deriving DecidableEq, Repr

/-- The faceplate (R484 to R491): the panel frames, the journal, the ledger and the queue. -/
structure Faceplate where
  /-- Frame memory on the die: the target of the running update, and its stored CRC-32C (R489). -/
  frame : Bytes
  frameCrc : Nat
  /-- Journal: header (64 bytes), old and target frames (R489). -/
  header : Bytes
  oldFrame : Bytes
  targetFrame : Bytes
  /-- Ledger entries that are not 0, by pixel number y·296 + x (R489). -/
  ledger : Assoc Int
  /-- Balancing pass or completion left to be reported by FACEPLATE_COMPLETED at step 11. -/
  completed : Option Nat
  queue : List FaceRequest
  /-- The identity page stands (R485); regions held until it ends. -/
  page : Bool
  heldRegions : List FaceRequest
  updateSeq : Nat
  /-- Local instant at which the newest update has started (R488). -/
  lastStart : Option Nat
  /-- The region of an interrupted update, until it has been redrawn (R491). -/
  stale : Option FaceRequest
  /-- The panel shows NO_ADDRESS (R70), NO FIRMWARE (R24). -/
  noAddress : Bool
  noFirmware : Bool
  deriving DecidableEq, Repr

/-- What leaves the module on a wire. -/
inductive SentKind where
  | clp | pd | event | arp | icmp | igmp | prpSupervision | ptp | presence | seam | barrier | can | hart | pps | fence
  deriving DecidableEq, Repr

/-- The head of a frame on the field network (R65, R67, R271): MAC addresses (none where no rule gives one), PCP and VLAN ID of its tag,
EtherType, IPv4 addresses, UDP ports with the checksum. -/
structure NetHead where
  dst : Option Nat
  src : Option Nat
  tag : Option (Nat × Nat)
  etherType : Nat
  ip : Option (Nat × Nat)
  udp : Option (Nat × Nat × Nat)
  deriving DecidableEq, Repr

/-- One frame, message or pulse that left the module: the model's record of its outputs. `unit` is the port, channel or group,
`peer` the IPv4 address times 65,536 plus the UDP port where there is one. -/
structure Sent where
  kind : SentKind
  unit : Nat
  peer : Nat
  data : Bytes
  /-- What stands before `data` in a frame of the field network. -/
  head : Option NetHead
  deriving DecidableEq, Repr

/-- A source's sequence record (R74): the newest executed SEQUENCE and the last 16 responses, newest first. -/
structure SeqRecord where
  source : Nat
  newest : Nat
  cache : List (Nat × Bytes)
  deriving DecidableEq, Repr

/-- Replay record of one source and key slot (R80): the highest counter accepted, and which of the 64 values below it have been
accepted (bit k: highest − 1 − k). Held in MRAM. -/
structure ReplayRecord where
  source : Nat
  slot : Nat
  highest : Nat
  below : Nat
  deriving DecidableEq, Repr

/-- An open domain transfer (R84). -/
structure Transfer where
  id : Nat
  write : Bool
  source : Nat
  addr : Nat
  total : Nat
  crc : Nat
  /-- The copy that a read transfer took; what a write transfer has received stands in its domain. -/
  content : Bytes
  deriving DecidableEq, Repr

/-- A domain's content and descriptor status (R39): 0 empty, 1 complete, 2 transfer open, 3 verifying, 4 refused. -/
structure Domain where
  content : Bytes
  status : Nat
  deriving DecidableEq, Repr

/-- An event subscription (R90 to R92). -/
structure Subscription where
  number : Nat
  req : Req
  first : Nat
  last : Nat
  /-- Next tally sequence to send, and the highest sequence confirmed. -/
  next : Nat
  confirmed : Nat
  /-- Matching records sent and not confirmed, ascending; and that one was overwritten before an EVENT has said so (R92). -/
  awaiting : List Nat
  lost : Bool
  deriving DecidableEq, Repr

/-- A token bucket (R95): tokens scaled by 10^9, at the local instant of the last refill. -/
structure Bucket where
  tokens : Nat
  atNs : Nat
  deriving DecidableEq, Repr

/-- The protocol service: sequence records, replay records, transfers, subscriptions and rate limits (chapter 03). -/
structure Clp where
  bootId : Nat
  /-- Start count [63:40] of the station's nonce counter, in MRAM, and packets sent since (R79). -/
  startCount : Nat
  packets : Nat
  seqs : List SeqRecord
  replay : List ReplayRecord
  transfers : List Transfer
  subs : List Subscription
  /-- Packet and bit buckets of port A and port B (R95). -/
  packetBucket : Vector Bucket 2
  bitBucket : Vector Bucket 2
  /-- Instants of the requests of each source within the last second (R95). -/
  sourceTimes : Assoc (List Nat)
  /-- Instants of ARP frames and ICMP echoes within the last second, by port. -/
  arpTimes : Vector (List Nat) 2
  icmpTimes : Vector (List Nat) 2
  /-- The same at the USB service port. -/
  usbArpTimes : List Nat
  usbIcmpTimes : List Nat
  /-- ARP cache (R65, R99): MAC address of each resolved IPv4 address. -/
  arp : Assoc Nat
  /-- Writers of domains whose verification runs, by domain address: for the audit tally of R57. -/
  audits : Assoc Req
  deriving DecidableEq, Repr

/-- A latched or live tag record (Table 6-1). -/
structure TagRecord where
  state : Nat
  error : Nat
  good : Nat
  address : Nat
  deriving DecidableEq, Repr

/-- A tag of a lane in the running program (R188): whether it was issued, its last planned completion slot (R192) and its live
record. `open_` counts operations issued under it that have not completed. -/
structure LaneTag where
  issued : Bool
  planned : Nat
  open_ : Nat
  live : TagRecord
  deriving DecidableEq, Repr

/-- A lane, by the number of the program it runs (R171, R172, R193): the window, the cycle count of R191 and the tags. -/
structure Lane where
  running : Bool
  /-- CANVAS: the program waits for the program of its pair's other lane (R193). -/
  second : Bool
  /-- Program number of the tick's run (R145), and instructions executed so far. -/
  program : Nat
  pc : Nat
  regs : Vector Word64 512
  cycle : Nat
  drain : Nat
  ready : Vector Nat 512
  /-- A WAIT not yet released: its mask, its destination register and the cycle at which it could start. -/
  waiting : Option (Nat × Nat × Nat)
  tags : Vector LaneTag 32
  latched : Vector TagRecord 32
  /-- DMA_RELOCATE (Table 6-1). -/
  relocate : Nat
  /-- Retirement count, once END has retired the program. -/
  retired : Option Nat
  deriving DecidableEq, Repr

/-- An activation of a shuttle or a pass of the trommel: who issued it, under which tag, and what is left of it. -/
structure Activation where
  lane : Nat
  tag : Nat
  first : Nat
  count : Nat
  done : Nat
  deriving DecidableEq, Repr

/-- The result of one descriptor of a DMA list: Table 17-6. -/
structure DescResult where
  type : Nat
  error : Nat
  flags : Nat
  seq : Nat
  good : Nat
  fail : Nat
  deriving DecidableEq, Repr

/-- A descriptor of a DMA list (Table 17-4). -/
structure Descriptor where
  src : Nat
  dst : Nat
  length : Nat
  flags : Nat
  deriving DecidableEq, Repr

/-- A DMA list started, or issued by a lane (`lane`: the lane and the tag), in this tick. -/
structure DmaJob where
  id : Nat
  list : Nat
  engine : Nat
  channel : Nat
  trigger : Nat
  lane : Option (Nat × Nat)
  relocate : Nat
  started : Bool
  /-- The first slot that it may use, and what its beats will meet in the hardware. -/
  start : Nat
  faults : List DmaFault
  /-- Descriptors left, the first of them under way with `beat` beats moved; the slots of all its beats, newest first. -/
  left : List Descriptor
  beat : Nat
  slots : List Nat
  /-- Records formed, and how many of them stand in the queue. -/
  results : List DescResult
  written : Nat
  /-- A halt has ended it (R464); its last record has been written (R461). -/
  halted : Bool
  complete : Bool
  deriving DecidableEq, Repr

/-- A beat read from LPDDR4X that has not landed yet (R460): the slot in which it lands, its engine and its job. -/
structure Landing where
  slot : Nat
  engine : Nat
  job : Nat
  lane : Bool
  held : Bool
  addr : Nat
  data : Bytes
  deriving DecidableEq, Repr

/-- The burst open on an engine's host channel (R466): its device, its beats, and those moved. -/
structure HostBurst where
  device : HostDevice
  beats : Nat
  moved : Nat
  deriving DecidableEq, Repr

/-- The execution engines of a tick: lanes, shuttles, trommel, DMA engines, the output buffers and the CANVAS undo (chapters 06
to 08 and 17). -/
structure Engines where
  lanes : Vector Lane 4
  shuttles : Vector (List Activation) 16
  /-- Slot at which each shuttle's, and the trommel's, last planned activation ends (R192). -/
  shuttleEnd : Vector Nat 16
  passes : List Activation
  passEnd : Nat
  jobs : List DmaJob
  /-- Channels halted in this tick: engine × 8 + channel (R464). -/
  halted : List Nat
  /-- Lines of descriptors that wrote DONE without BARRIER in this tick: (job, descriptor) to queue line address, newest first. -/
  lines : List (Nat × Nat × Nat)
  /-- The DMA engines in this tick: lists started or issued so far; the first slot not passed; the first slot at which the next descriptor of a
  channel may start, by engine × 8 + channel; and beats on their way (R460). -/
  jobCount : Nat
  passed : Vector Nat 4
  chanFree : Assoc Nat
  landing : List Landing
  /-- Classes whose output buffer a COMMIT has closed in this tick (R184), by class number. -/
  closed : List Nat
  /-- Classes closed in the tick before: their state copy is complete (R184, R264). -/
  closedBefore : List Nat
  /-- Lines saved in the undo area in this tick (R195), by line number. -/
  undo : Assoc Bytes
  /-- CANVAS: mismatches in this tick, and whether the re-execution runs (R196, R197). -/
  mismatches : Nat
  reexecuting : Bool
  /-- Clock gates in force (Table 16-6). -/
  gates : Nat
  hostBurst : Vector (Option HostBurst) 4
  /-- `loopsMissed` as the execution window opened: what a re-execution starts from (R196). -/
  missedBefore : List Nat
  /-- `loopsHeld` and the GAPS of the captures as the execution window opened, for the same reason. -/
  heldBefore : List Nat
  gapsBefore : Vector Nat 8
  /-- A Canary check has failed in this tick: its staging is discarded (R133). -/
  discard : Bool
  /-- Bytes of the state area outside every STATE_MAP area that the warp has stored to since it was loaded (R147). -/
  scratch : List Nat
  /-- Output images of groups A and B as they stood at the edge (R133). -/
  images : List Bytes
  /-- Weft header address of the current cycle of each class (R183). -/
  weftAddr : Vector Nat 5
  deriving DecidableEq, Repr

/-- A section of a warp image: its directory entry (Table 5-2) and its bytes. -/
structure Section where
  type : Nat
  inst : Nat
  version : Nat
  offset : Nat
  crc : Nat
  body : Bytes
  deriving DecidableEq, Repr

/-- Where the parts of the configuration lie in the logical window at 0x130_0000 (R453): Store addresses. -/
structure ConfigMap where
  limits : Nat
  groups : Nat
  programs : Nat
  lists : Nat
  loom : Nat
  clock : Nat
  loops : Nat
  gains : Nat
  /-- End of the configuration. -/
  limit : Nat
  deriving DecidableEq, Repr

/-- A loaded image (LOAD, activation staging): header, sections, and the configuration area of R453 with the loop
configurations and the gain-table master copies that writes change (chapter 08). -/
structure Loaded where
  /-- Bank it came from: 0 A, 1 B. -/
  bank : Nat
  digest : Bytes
  header : Bytes
  sections : List Section
  config : Mem
  map : ConfigMap
  /-- Physical page of each logical page (R453, R454). -/
  pages : List Nat
  deriving DecidableEq, Repr

/-- A pending activation (R164 to R169). -/
structure PendingActivation where
  target : Nat
  tick : Nat
  /-- LayoutDigests equal (R168). -/
  hitless : Bool
  /-- The staged image, once staging has completed. -/
  staged : Option Loaded
  /-- The decision cut-off has passed with the activation going ahead (R167). -/
  decided : Bool
  deriving DecidableEq, Repr

/-- Warp banks and activation (chapter 05). -/
structure Warp where
  loaded : Option Loaded
  activation : Option PendingActivation
  /-- After an activation through READY: the restart boundary and whether this module was active at T (R169). -/
  restart : Option (Nat × Bool)
  /-- A LOAD waits for the verification of its bank (R161, R163). -/
  loading : Bool
  /-- Banks whose verification follows a write (R161). -/
  written : List Nat
  deriving DecidableEq, Repr

/-- An accepted write to an object with WEFT effect, waiting for the cut-off of its class (R58, R59). -/
structure WeftWrite where
  addr : Nat
  value : Bytes
  cls : CClass
  deriving DecidableEq, Repr

/-- The key store (Table 19-2), with the fuses beside it: public keys of 64 bytes (x, then y), secret keys of 32. -/
structure KeyStore where
  warp : Vector Bytes 8
  /-- 0 EMPTY, 1 INSTALLED, 2 REVOKED, 3 DAMAGED (Table 19-4). -/
  warpStatus : Vector Nat 8
  safety : Vector Bytes 8
  safetyStatus : Vector Nat 8
  firmware : Vector Bytes 4
  firmwareStatus : Vector Nat 4
  conduit : Vector (Option Bytes) 16
  seam : Vector (Option Bytes) 2
  /-- The seam key that the link took at the start or at its last training (R501). -/
  seamInUse : Option Bytes
  /-- The wrap key fails its fuse parity (R499). -/
  wrapFault : Bool
  /-- FirmwareSecurityVersion, a fuse (R505). -/
  securityVersion : Nat
  /-- The debug lock fuse, and the lock in force since the last episode of level S or P (R509). -/
  lockFuse : Bool
  locked : Bool
  /-- A slot whose key bits are programmed and whose status bits are not yet: (class 1 warp or 2 safety-set, slot) (R497). -/
  burning : Option (Nat × Nat)
  deriving DecidableEq, Repr


/-- A received PD layout (R86, R87): the newest SEQUENCE accepted, the tick of that acceptance, and the newest packet that waits for
its cut-off: SEQUENCE, then PD header and body. -/
structure PdRx where
  seq : Nat
  tick : Nat
  waiting : Option (Nat × Bytes)
  deriving DecidableEq, Repr

/-- A committed packet of a transmitted PD layout that waits for its planned start (R127): cut-off tick and body. -/
structure PdTx where
  cutoff : Nat
  body : Bytes
  deriving DecidableEq, Repr

/-- Process data (chapter 03): by ordinal among the received, and among the transmitted layouts of PD_LAYOUTS. -/
structure PdBlock where
  rx : Assoc PdRx
  tx : Assoc PdTx
  deriving DecidableEq, Repr

/-- A source of the stale table (R122, R123): its count, and whether SOURCE_STALE has been written for it. -/
structure StaleSource where
  count : Nat
  reached : Bool
  deriving DecidableEq, Repr

/-- The capture area of a shuttle pair (R228, R250): the test it belongs to, the test accepted and waiting for its cut-off, and
the records; `staged` are those of the running tick (deferred effects, R189). -/
structure Capture where
  test : Option LoopTest
  next : Option LoopTest
  firstCutoff : Nat
  gaps : Nat
  records : List Bytes
  staged : List Bytes
  /-- Class of the loop tested, and its TestStatus (Table 8-10). -/
  cls : Nat
  status : Nat
  deriving DecidableEq, Repr


/-- What a HELLO says of its sender (Table 9-5). -/
structure SeamHello where
  serial : Bytes
  moduleNode : Nat
  stationNode : Nat
  stationIp : Bytes
  moduleIp : Bytes
  mac : Bytes
  tickOffset : Nat
  roleHigh : Bool
  silenceA : Nat
  silenceB : Nat
  firmware : Nat
  protocol : Nat
  encrypt : Bool
  state : Nat
  /-- Active bank (0xFF none), and the image digests of banks A and B. -/
  bank : Nat
  digestA : Bytes
  digestB : Bytes
  deriving DecidableEq, Repr

/-- A CLOSE payload (Table 9-6). -/
structure SeamClose where
  tick : Nat
  state : Nat
  flags : Nat
  ended : Nat
  entryCount : Nat
  sentCount : Nat
  prpSeq : Nat
  digest : Nat
  lastMatched : Nat
  weftAck : Nat
  deriving DecidableEq, Repr

/-- A frame sent and not yet acknowledged (R259): its latest FRAME_SEQ, that of its first send, its content and its sends so far. -/
structure SeamSent where
  seq : Nat
  first : Nat
  type : Nat
  tick : Nat
  payload : Bytes
  sends : Nat
  deriving DecidableEq, Repr

/-- Changed words of one 32-byte line (R262): line index, mask of words, the words. -/
structure StateEntry where
  line : Nat
  mask : Nat
  words : Bytes
  deriving DecidableEq, Repr

/-- Bytes of a mirrored weft received so far (R260): cut-off tick, class whose weft they belong to, and pieces by offset. -/
structure MirrorWeft where
  tick : Nat
  cls : Nat
  pieces : List (Nat × Bytes)
  deriving DecidableEq, Repr

/-- A seam frame received before one of its type that was sent earlier (R259): number of its first send, type, header and payload. -/
structure SeamHeld where
  first : Nat
  type : Nat
  header : Bytes
  payload : Bytes
  deriving DecidableEq, Repr

/-- The pair and the seam link (chapter 09), beside its objects. `lines` holds, by 64-bit word, the tick of the content received. -/
structure PairBlock where
  /-- Link count in MRAM, and the number of the next frame (R258). -/
  epoch : Nat
  frameSeq : Nat
  sent : List SeamSent
  /-- Frame numbers received: every number below `rxNext`, and those listed. -/
  rxNext : Nat
  rxGot : List Nat
  /-- Frames that wait for one sent before them (R259), and how often each missing number has been named. -/
  waiting : List SeamHeld
  named : Assoc Nat
  /-- Tick in which namings were last counted, and numbers given up though their frames have not come (R259, log entry 21). -/
  namedAt : Option Nat
  gone : List Nat
  /-- The last training was a retraining, and no module has started since (R254). -/
  retrained : Bool
  partner : Option SeamHello
  /-- EPOCH of its HELLO; and that of the newest HELLO, accepted or refused (R254). -/
  partnerEpoch : Nat
  helloEpoch : Option Nat
  /-- The partner's newest CLOSE: its tick is the last tick whose CLOSE arrived (h, R270). -/
  heard : Option SeamClose
  /-- Entries and digest of the tick before the running one, over this module's own state, and the state area as that tick left it. -/
  entries : List StateEntry
  digest : Nat
  before : Mem
  /-- Words received in STATE frames for the tick before the running one. -/
  words : List StateEntry
  /-- Entries of the tick before that the active has sent in STATE frames so far (R263). -/
  entriesSent : Nat
  /-- The second consecutive miss has been judged, and no decision made yet (R270). -/
  deciding : Bool
  wefts : List MirrorWeft
  /-- Writes, commands and outcomes that came with mirrored wefts, by tick. -/
  items : List (Nat × WeftItem)
  /-- On the active: what was accepted since the last cut-off and travels with the next weft, and what the wefts of the running tick carry, by
  class code (R20, R58, R166, R167). -/
  outgoing : List WeftItem
  carrying : List (Nat × WeftItem)
  /-- What a module that leaves RUN at the coming edge has accepted since the last cut-off: it goes with the weft of that edge all the same (R20). -/
  parting : List WeftItem
  /-- Last tick whose mirrored weft was complete (WEFT_ACK); the tick whose weft is in place; gap wefts formed since h. -/
  weftAck : Nat
  placed : Option Nat
  gaps : Nat
  /-- Groups whose shelves expire at the running tick's cut-off, until its mirrored weft is applied (R223). -/
  expiring : List Nat
  /-- Joining (R267): words received with their ticks, the boundary b, and whether this module has left STANDBY for an image. -/
  lines : Assoc Nat
  joinAt : Option Nat
  fetching : Bool
  /-- On the active: lines of the state pass sent so far, and bytes of its image sent so far, while it sends them. -/
  pass : Option Nat
  bankPass : Option Nat
  /-- The state of a partner that joins which the active has begun to serve: SERVICE with its image, STANDBY with the state pass (R267). -/
  served : Option Nat
  /-- Bank that BANK frames are writing (R160, R267). -/
  bankRx : Option Nat
  /-- A takeover is decided for this edge (R274); h of it; and the classes whose outputs commit late, with their cut-offs (R280). -/
  takeover : Option Nat
  takeoverH : Nat
  late : List (Nat × Nat)
  /-- First edge at which this module's PD and CAN take effect after a takeover or a handover (R280, R286). -/
  commitFrom : Nat
  /-- Sidebands (Table 9-1). -/
  partnerPresent : Bool
  fenceIn : Bool
  fenceOut : Bool
  /-- Presence frames: counter of the last one sent, and of the last one accepted, with TICK, STATE and FLAGS of that one. -/
  presenceSent : Nat
  presenceSeen : Nat
  presenceTick : Nat
  presenceState : Nat
  presenceFlags : Nat
  deriving DecidableEq, Repr

/-- PRP (R287): the next RCT sequence of the module and of the station MAC address; the negotiated rate of each port in Mbit/s (0: link
down) and whether its path is lost (R288); the frames seen, by source MAC, sequence, port and
local instant in ns, with whether the second copy has come; the peers supervised, with the instant of their last frame; and local ns at which
supervision frames came within the last second (R507). -/
structure PrpBlock where
  moduleSeq : Nat
  stationSeq : Nat
  rates : Vector Nat 2
  lost : Vector Bool 2
  seen : List (Nat × Nat × Nat × Nat × Bool)
  peers : Assoc Nat
  supervised : Vector (List Nat) 2
  /-- Local ns of the last valid frame on a port, or of its link-up (R288). -/
  heardAt : Vector Nat 2
  deriving DecidableEq, Repr

/-- A PTP port (R295): the newest Announce of each master heard on it and what its measurements hold. -/
structure PtpPort where
  masters : List PtpAnnounce
  /-- A two-step Sync that waits for its Follow_Up: sequence, reception stamp, correction in 2⁻¹⁶ ns. -/
  sync : Option (Nat × Nat × Int)
  /-- logMessageInterval of the last Sync from the parent (R296). -/
  syncInterval : Int
  /-- t2 − t1 of the last Sync, corrected, in ns. -/
  syncDelta : Option Int
  /-- The Delay_Req or Pdelay_Req outstanding: sequence and transmit stamp. -/
  request : Option (Nat × Nat)
  /-- A Pdelay_Resp that waits for its follow-up: requestReceiptTimestamp and reception stamp in ns, correction. -/
  peer : Option (Nat × Nat × Int)
  /-- Sequence numbers of the messages this port sends next. -/
  nextRequest : Nat
  nextSync : Nat
  nextAnnounce : Nat
  /-- Local ns of the last valid offset, and the grandmaster it was measured against (R296). -/
  offsetAt : Option Nat
  offsetGm : Option Nat
  /-- Local ns at which messages came within the last second (R507). -/
  arrivals : List Nat
  deriving DecidableEq, Repr

/-- A step waiting for its guard (R299), or held under R102 while StepHeld is set. -/
inductive StepKind where
  /-- The first lock since the start (R298). -/
  | first
  /-- A re-step permit consumed (R301). -/
  | permit
  /-- TimeSet (R303). -/
  | set
  deriving DecidableEq, Repr

/-- The time unit (chapter 10), beside its objects. -/
structure TimeUnit where
  ports : Vector PtpPort 2
  /-- Consecutive offsets below 1 µs (R297). -/
  below : Nat
  /-- The first-lock step has been applied since the start (R298); a parent has been held since the start (R302). -/
  firstDone : Bool
  hadParent : Bool
  /-- The correction to apply, in ns. -/
  step : Option (StepKind × Int)
  /-- Number of the next edge after a step, and its mark to the Canary (R299). -/
  nextTick : Option Nat
  unjudged : Bool
  /-- Time-unit time of the previous edge on PPS_IN (R311). -/
  ppsInAt : Option Nat
  /-- PPS_OUT is asserted (R310). -/
  ppsOut : Bool
  deriving DecidableEq, Repr

/-- A receive buffer (R325): its frame, NEW, the lock and the single shadow. -/
structure CanBuffer where
  frame : Option CanFrame
  isNew : Bool
  locked : Bool
  shadow : Option CanFrame
  deriving DecidableEq, Repr

/-- A transmit buffer (R326): the frame it holds, whether its SOF has been sent, and newer content that waits. -/
structure CanTxBuffer where
  frame : Option CanFrame
  started : Bool
  waiting : Option CanFrame
  deriving DecidableEq, Repr

/-- Rate detection (R332): position in the nominal and data rates, consecutive good frames, and whether one of them was BRS. -/
structure CanDetect where
  nominal : Nat
  data : Nat
  good : Nat
  brs : Bool
  deriving DecidableEq, Repr

/-- A channel of the CAN block, beside its objects. -/
structure CanChannel where
  rx : Assoc CanBuffer
  tx : Assoc CanTxBuffer
  detect : Option CanDetect
  /-- The comparison of R321 has failed since RUN or STANDBY began. -/
  mismatch : Bool
  /-- The channel is bus-off until its recovery ends (R329). -/
  busOff : Bool
  /-- Load edge of the last reference message and its SOF, in ns (R330). -/
  refLoad : Option Nat
  refSof : Option Nat
  /-- EDGE_TIME of the newest Dolxo FD reference message received (Table 11-6), and the master's times of the SOFs of the unbroken run before
  it, newest first, at most 101 (R330, R444). -/
  refEdge : Option Nat
  masters : List Nat
  /-- Frame error counter of a sleeping channel (R333). -/
  wakeErrors : Nat
  deriving DecidableEq, Repr

/-- The newest frame of a received map entry since RUN or STANDBY began, and whether a cut-off of its class has yet to take it
(R323, R324). -/
structure CanSlot where
  frame : CanFrame
  fresh : Bool
  deriving DecidableEq, Repr

/-- The CAN block (chapter 11). -/
structure CanBlock where
  channels : Vector CanChannel 8
  /-- By entry number of CAN_MAPS. -/
  slots : Assoc CanSlot
  /-- Channel and cause of the wake that ended LAYUP, for its tally after boot (R333). -/
  woke : Option (Nat × Nat)
  deriving DecidableEq, Repr

/-- A commit frame that a field side has stored (R340): the low 16 bits of the edge it names, its MODE and its output image. -/
structure FieldCommit where
  edge : Nat
  mode : Nat
  image : Bytes
  deriving DecidableEq, Repr

/-- A field side's part of a barrier link, and its supply (chapter 12). -/
structure FieldSide where
  running : Bool
  /-- The field supply is present: it has not fallen below 12.0 V since it last rose (Table 12-5). -/
  present : Bool
  /-- FIELD_EPOCH (R349). -/
  epoch : Nat
  /-- SEQ of the slot-0 frame of the tick, and of the last accepted logic-to-field frame. -/
  txSeq : Nat
  rxSeq : Option Nat
  /-- Frames are not applied (R343): after a silence, or since the start. `good` counts consecutive valid frames, to 4. -/
  held : Bool
  good : Nat
  /-- Since a restart: the configuration objects received, until the rotation is whole (R341). -/
  seen : Option (List Nat)
  /-- FLAGS of the next slot-0 frame. -/
  missed : Bool
  silenced : Bool
  epochNew : Bool
  soeLost : Bool
  /-- Edge that the last valid commit frame named, and the stored commit. -/
  named : Option Nat
  commit : Option FieldCommit
  /-- A COMMAND image has been applied since the start (R15). -/
  committed : Bool
  warning : Bool
  tripped : Bool
  restoring : Bool
  /-- The qualification has ended; outputs return at the next edge (Table 12-5). -/
  returning : Bool
  supplyMv : Nat
  /-- Configuration received, by object address. -/
  config : Assoc Nat
  /-- The slot-0 frame of the tick. -/
  frame : Bytes
  deriving DecidableEq, Repr

/-- A digital input: its taken state, the definite state that its band last gave, the quality of its band (Table 12-4), and its pulse count. -/
structure DiChannel where
  closed : Bool
  seen : Bool
  quality : Nat
  count : Nat
  current : Nat
  deriving DecidableEq, Repr

/-- A sequence-of-events entry in the field side (R348): time of the first sample in ns, channel 1 to 48, STATE. -/
structure SoeEntry where
  ns : Nat
  channel : Nat
  state : Nat
  deriving DecidableEq, Repr

/-- Group A's field side (R346 to R352): the DO commands applied, those last committed, those applied before a trip (Table 12-7), the channels
and supplies in OVERLOAD, the inputs, the queue of R348 and the entries of it that the slot-0 frame of the tick carries. -/
structure GroupA where
  want : Nat
  last : Nat
  beforeTrip : Nat
  overloads : Nat
  vsOver : Nat
  above : Nat
  doCurrent : List Nat
  vsCurrent : List Nat
  di : Vector DiChannel 48
  soe : List SoeEntry
  carried : List SoeEntry
  dropped : Nat
  deriving DecidableEq, Repr

/-- Delivery states of an AO (Table 13-3). -/
inductive AoDelivery where
  | normal | compliance | opened
  deriving DecidableEq, Repr

/-- An AO: the current applied (F32, mA) and whether it is the failure current; the same as last committed, and as before a trip; its delivery
state and marks; its sense current and compliance supply. -/
structure AoChannel where
  want : Nat
  failing : Bool
  last : Nat
  lastFailing : Bool
  beforeTrip : Nat
  beforeFailing : Bool
  delivery : AoDelivery
  thermal : Bool
  envelope : Bool
  current : Nat
  supplyMv : Nat
  deriving DecidableEq, Repr

/-- An AI: its corrected current (F32, mA), the state of its 40 Hz filter (R360), the limiter of its supply, and ENVELOPE. -/
structure AiChannel where
  current : Nat
  filter : BitVec 64
  limiting : Bool
  envelope : Bool
  deriving DecidableEq, Repr

/-- Group B's field side (chapter 13): the channels, and the field-side temperature last measured (F32, °C). -/
structure GroupB where
  temperature : Nat
  ai : Vector AiChannel 8
  ao : Vector AoChannel 8
  deriving DecidableEq, Repr

/-- A HART channel (R372 to R374): the variables and bytes of its record, the local instant of the last update, consecutive failures,
the command in flight and whether it is the pass-through, and a queued pass-through. -/
structure HartChannel where
  vars : List Nat
  status : Nat
  burst : Bool
  more : Bool
  updatedNs : Option Nat
  failures : Nat
  inFlight : Option Nat
  passing : Bool
  queued : Option Bytes
  deriving DecidableEq, Repr

/-- The logic side's part of a barrier link. -/
structure LogicLink where
  txSeq : Nat
  rxSeq : Option Nat
  /-- Configuration objects written and not yet sent, and the place of the rotation (R341). -/
  writes : List Nat
  rotation : Nat
  /-- FIELD_EPOCH of the newest field-side restart whose frame has been accepted (R338). -/
  epoch : Option Nat
  /-- The last frame sent, by slot. -/
  sent : Assoc Bytes
  /-- Output image last committed, and the one before the running tick's commit frame. -/
  image : Bytes
  before : Bytes
  /-- Payload of the last valid slot-0 frame, without its entries; its entries; and whether it came in this tick. -/
  snapshot : Bytes
  entries : List Bytes
  valid : Bool
  /-- Currents that the channel objects report with that snapshot: DI in µA; DO, then VS, in mA. -/
  currents : List Nat
  flags : Nat
  deriving DecidableEq, Repr

/-- Field I/O: the field sides by group, the channels, and the logic sides of links A, B and the mirror tap of C. -/
structure FieldIo where
  sides : Vector FieldSide 3
  links : Vector LogicLink 3
  a : GroupA
  b : GroupB
  hart : Vector HartChannel 16
  /-- Links A and B held silent in hardware (R276). -/
  fenced : Bool
  /-- The AO commands committed are 0 mA until the edge that AO_HOLD_END names (R284). -/
  aoHold : Bool
  deriving DecidableEq, Repr

/-- A safety input: its filtered level, latched fault code (Table 14-3), consecutive anomalous frames, the code of the last anomaly, and
whether a frame without anomaly has followed the latch. `disc` is the latch of DISCREPANCY, `phase` follows the way out of DISCREPANCY: 1 both read 0, 2 then both 1.
`highUs` is the island-clock instant at which a RESET-mode input went high. -/
structure SafetyInput where
  level : Bool
  fault : Nat
  disc : Bool
  anomalies : Nat
  clean : Bool
  phase : Nat
  highUs : Option Nat
  deriving DecidableEq, Repr

/-- A cause: whether its combination has held, for how many ms, and whether it is active. -/
structure SafetyCause where
  holds : Bool
  heldMs : Nat
  active : Bool
  deriving DecidableEq, Repr

/-- Effect states (Table 14-5), in the code order of Table 14-11. -/
inductive EffectState where
  | unused | on | tripDelaying | tripped | restartRequired | fault
  deriving DecidableEq, Repr

/-- An effect and the ms it has spent in TRIP_DELAYING. -/
structure SafetyEffect where
  state : EffectState
  timer : Nat
  deriving DecidableEq, Repr

/-- A safety output as the island commands it: its switches, latched fault (Table 14-4), and which switch the next dark test opens. -/
structure SafetyOutput where
  high : Bool
  low : Bool
  fault : Nat
  testHigh : Bool
  current : Nat
  deriving DecidableEq, Repr

/-- Island states (Table 14-9). -/
inductive IslandMode where
  | off | starting | operating | safeFault | locked | noSet
  deriving DecidableEq, Repr

/-- The safety island and the group C field side's outputs (chapter 14). -/
structure Island where
  mode : IslandMode
  /-- The set in force, and a confirmed set that comes into force at the next scan (R401); its two stored copies, each with its CRC. -/
  set : Option Bytes
  next : Option Bytes
  copyA : Bytes
  copyB : Bytes
  inputs : Vector SafetyInput 8
  /-- TP faults (R383), by TP output. -/
  tpFault : Vector Bool 4
  tpBad : Vector Bool 4
  causes : Vector SafetyCause 32
  effects : Vector SafetyEffect 8
  outputs : Vector SafetyOutput 4
  /-- Reset elements that have fired since the last scan. -/
  fired : List Nat
  /-- Last Canary fault code; instants of the island resets, in local ns. -/
  fault : Nat
  resets : List Nat
  linkStopped : Bool
  /-- The group C field side is silent: switches open, TP outputs low (R382). -/
  silent : Bool
  /-- The switches of each output as the last link C frame set them in the field side, high-side first; and the outputs that a silence or a trip
  has opened, which stay open until the island has commanded them off (R399). -/
  applied : Vector (Bool × Bool) 4
  barred : Vector Bool 4
  /-- Number of the island's present 250 µs frame period, and SEQ of the last frame accepted from the field side (R381). -/
  frame : Nat
  rxSeq : Option Nat
  /-- Bytes 7 to 63 of the mirror, as the last completed scan left them (R402). -/
  shown : Bytes
  /-- The TP outputs are driven, high but for their pulses (R383). -/
  tpHigh : Vector Bool 4
  eventSeq : Nat
  /-- PROOF_TEST_DUE has been written for the present LastProofTest. -/
  proofDue : Bool
  /-- A set received by the die, not yet confirmed (R400). -/
  pending : Bytes
  /-- The mirror frame of the last die edge, and the last valid mirror (R402). -/
  mirror : Bytes
  lastMirror : Option Bytes
  deriving DecidableEq, Repr

/-- The clocks, beside their objects: the IRC count of the previous window (R437); the trim code in backup RAM, none where its CRC
fails (R443); whether the PLLs take their reference from the IRC ÷ 4 (R436); and whether the LPDDR4X is in self-refresh (R415). -/
structure ClockUnit where
  lastCount : Option Nat
  trimStored : Option Nat
  refIrc : Bool
  selfRefresh : Bool
  deriving DecidableEq, Repr

/-- The firmware banks, beside their domains (chapter 19): which bank still holds the image it was delivered with (R530); the bank that
runs, with its VERSION, SECURITY_VERSION and SIGNER; and the bytes of a recovery transfer received without a gap (R506). -/
structure FirmwareBlock where
  delivered : Vector Bool 2
  running : Option (Nat × Nat × Nat × Nat)
  received : Nat
  deriving DecidableEq, Repr

/-- The state of the module. -/
structure State where
  /-- Lifecycle state (Table 1-3). -/
  mode : Mode
  /-- Objects in force, by address (index · 256 + subindex); an unlisted object has its default (R50). -/
  dict : Assoc Bytes
  /-- Values in force since the last start of objects with START effect (R43). -/
  inForce : Assoc Bytes
  /-- PERSISTENT values in the MRAM persistent-value area (R48). -/
  stored : Assoc Bytes
  /-- LAYOUT_DIGEST under which the warp-defined stored values were stored (R149). -/
  storedLayout : Bytes
  /-- Accepted writes that wait for a cut-off (R58), oldest first. -/
  weftQueue : List WeftWrite
  /-- Values of the objects with WEFT effect as the cycle that ended at the last cut-off of their class left them, and as the most
  recent cycle whose outputs have taken effect left them: what a read returns while the warp runs (R60, R202). -/
  ended : Assoc Bytes
  shown : Assoc Bytes
  keys : KeyStore
  /-- Contents of the domains (0x20_0000…) by address, with their descriptor status (R39). -/
  domains : Assoc Domain
  command : Option PendingCommand
  /-- A profile change waiting for its boundary: profile and tick (R27). -/
  profileChange : Option (Nat × Nat)
  /-- The restore-defaults operation running: first and last index (R51). -/
  restore : Option (Nat × Nat)
  rst : ResetBlock
  options : OptionArea
  tally : TallyLog
  face : Faceplate
  clp : Clp
  eng : Engines
  warp : Warp
  time : TimeUnit
  can : CanBlock
  island : Island
  io : FieldIo
  clocks : ClockUnit
  pd : PdBlock
  /-- Stale sources, by entry number of the stale table (R208). -/
  stale : Assoc StaleSource
  pair : PairBlock
  prp : PrpBlock
  firmware : FirmwareBlock
  /-- Backup RAM: address of the last uncorrectable Store error, and whether a W-level reset has followed it (R467). -/
  storeFault : Option (Nat × Bool)
  /-- The boundary at which this module's RUN or STANDBY began with a START (R128). -/
  startTick : Option Nat
  /-- Capture areas of the shuttle pairs (R228, R250). -/
  captures : Vector Capture 8
  /-- Loops whose last activation was gated or unreadable, so that the next miss is not the first (R238). -/
  loopsMissed : List Nat
  /-- Loops held in AUTO whose law has not run since: the next evaluation that runs it is a re-engagement (R241). -/
  loopsHeld : List Nat
  /-- Configuration slots of the shuttles' table RAM (R228) by shuttle number times 256 plus place. Both shuttles of a pair hold the same
  slots, so they stand here once; a slot with an uncorrectable error is not listed. -/
  tableRam : Assoc Bytes
  /-- The Store (Table 17-1), and the LPDDR4X warp window (Table 17-8); an unlisted byte reads as 0. -/
  store : Mem
  dram : Mem
  /-- The device windows of DMA space 0x1 (Table 17-2), by offset; an unlisted byte reads as 0. -/
  window : Mem
  /-- Number of the most recent tick edge (R4), and whether any edge has occurred since the last start. -/
  tick : Nat
  ticking : Bool
  /-- Time-unit time in TAI ns, the local oscillator's count in ns, and the backup real-time counter in ns. -/
  timeNs : Nat
  localNs : Nat
  rtcNs : Nat
  /-- TIME_FLAGS of the weft cut off at the most recent edge (Table 4-5). -/
  tickFlags : Nat
  /-- Number of free values drawn so far: the model's own field (Config.freeValue). -/
  freeCount : Nat
  /-- What has left the module: the model's own record. -/
  out : List Sent
  /-- Commands waiting, first in first out: the model's own field. -/
  pending : List Instr
  deriving DecidableEq, Repr


/-! ### The machine right after reset

Every value that the manual does not give is the model's (log entry 60). -/

/-- Idle lanes and engines. -/
def blankTag : LaneTag := ⟨false, 0, 0, ⟨0, 0, 0, 0⟩⟩
def blankLane : Lane :=
  { running := false, second := false, program := 0, pc := 0, regs := Vector.replicate 512 0, cycle := 0, drain := 0
    ready := Vector.replicate 512 0, waiting := none, tags := Vector.replicate 32 blankTag
    latched := Vector.replicate 32 ⟨0, 0, 0, 0⟩, relocate := 0, retired := none }

def blankEngines : Engines :=
  { lanes := Vector.replicate 4 blankLane, shuttles := Vector.replicate 16 [], shuttleEnd := Vector.replicate 16 0, passes := []
    passEnd := 0, jobs := [], halted := [], lines := [], jobCount := 0, passed := Vector.replicate 4 0, chanFree := [], landing := [], closed := [], closedBefore := [], undo := [], mismatches := 0, reexecuting := false, gates := 0
    hostBurst := Vector.replicate 4 none, missedBefore := [], heldBefore := [], gapsBefore := Vector.replicate 8 0, discard := false, scratch := [], images := [], weftAddr := Vector.replicate 5 0 }

/-- The first episode, of level P, is open: the supply supervisor holds it (R413). -/
def firstEpisode : Episode := ⟨1, .p, .p, .off, 0, 0, 0, none⟩

def resetBlock0 : ResetBlock :=
  { asserted := [(.por, .p)], holding := [.por], first := none, episode := some firstEpisode, exiting := none, exitCauses := 0
    waking := false, cause := 1, count := 1, saturated := false, loopTimes := [], records := [], recordEdges := [], unreported := [], interrupted := none
    rtcLost := false
    holdAtExit := 0, canaryAtExit := false, closeNs := 0, request := none, layup := none, autoArmed := false, autoAt := none, readyNs := 0
    activationLost := false, resetOut := true, okContact := false }

def blankTallies : TallyLog :=
  { slots := [], mirror := [], sealA := [], sealB := [], sealsBefore := ([], []), headKnown := false, head := 0, minutes := 0, powerCycles := 1
    spilled := [], waiting := []
    damagedFound := [], captured := [], issued := [], queue := [], dropped := 0 }

/-- The journal header of a panel on which no update runs (Table 18-5). -/
def idleHeader : Bytes :=
  let b := leBytes 4 0x4E524A46 ++ [0, byte Config.waveformSet, 24, 24] ++ zeros 52
  b ++ leBytes 4 (crc32c b)

def blankFace : Faceplate :=
  { frame := [], frameCrc := 0, header := idleHeader, oldFrame := [], targetFrame := [], ledger := [], completed := none, queue := []
    page := false, heldRegions := [], updateSeq := 0, lastStart := none, stale := none, noAddress := false, noFirmware := false }

/-- A full token bucket is set by the first refill; an empty one here. -/
def blankClp : Clp :=
  { bootId := 0, startCount := 0, packets := 0, seqs := [], replay := [], transfers := [], subs := []
    packetBucket := Vector.replicate 2 ⟨0, 0⟩, bitBucket := Vector.replicate 2 ⟨0, 0⟩, sourceTimes := []
    arpTimes := Vector.replicate 2 [], icmpTimes := Vector.replicate 2 [], usbArpTimes := [], usbIcmpTimes := [], arp := [], audits := [] }

def blankTimeUnit : TimeUnit :=
  { ports := Vector.replicate 2 ⟨[], none, 0, none, none, none, 0, 0, 0, none, none, []⟩, below := 0, firstDone := false, hadParent := false
    step := none, nextTick := none, unjudged := false, ppsInAt := none, ppsOut := false }

def blankCanBlock : CanBlock := ⟨Vector.replicate 8 ⟨[], [], none, false, false, none, none, none, [], 0⟩, [], none⟩

def blankIsland : Island :=
  { mode := .off, set := none, next := none, copyA := [], copyB := [], inputs := Vector.replicate 8 ⟨false, 0, false, 0, false, 0, none⟩
    tpFault := Vector.replicate 4 false, tpBad := Vector.replicate 4 false, causes := Vector.replicate 32 ⟨false, 0, false⟩
    effects := Vector.replicate 8 ⟨.unused, 0⟩, outputs := Vector.replicate 4 ⟨false, false, 0, true, 0⟩, fired := [], fault := 0
    resets := [], linkStopped := true, silent := true, applied := Vector.replicate 4 (false, false), barred := Vector.replicate 4 true
    frame := 0, rxSeq := none, shown := zeros 57, tpHigh := Vector.replicate 4 false, eventSeq := 0, proofDue := false, pending := [], mirror := [], lastMirror := none }

/-- A field side as delivered, its supply present (DESIGN CHOICE, log entry 133). -/
def blankSide : FieldSide :=
  { running := false, present := true, epoch := 0, txSeq := 0, rxSeq := none, held := true, good := 0, seen := some [], missed := false
    silenced := false, epochNew := false, soeLost := false, named := none, commit := none, committed := false, warning := false
    tripped := false, restoring := false, returning := false, supplyMv := 0, config := [], frame := [] }

def blankFieldIo : FieldIo :=
  { sides := Vector.replicate 3 blankSide, links := Vector.replicate 3 ⟨0, none, [], 0, none, [], [], [], [], [], false, [], 0⟩
    a := ⟨0, 0, 0, 0, 0, 0, [], [], Vector.replicate 48 ⟨false, false, 0, 0, 0⟩, [], [], 0⟩
    b := ⟨0, Vector.replicate 8 ⟨0, 0, false, false⟩, Vector.replicate 8 ⟨0, false, 0, false, 0, false, .normal, false, false, 0, 0⟩⟩
    hart := Vector.replicate 16 ⟨List.replicate 4 0x7FC00000, 0, false, false, none, 0, none, false, none⟩, fenced := false, aoHold := false }

def blankPair : PairBlock :=
  { epoch := 0, frameSeq := 0, sent := [], rxNext := 0, rxGot := [], waiting := [], named := [], namedAt := none, gone := [], retrained := false, partner := none, partnerEpoch := 0, helloEpoch := none
    heard := none, entries := [], digest := 0, before := [], words := [], entriesSent := 0, deciding := false, wefts := [], items := []
    outgoing := [], carrying := [], parting := [], expiring := [], served := none, weftAck := 0, placed := none, gaps := 0, lines := [], joinAt := none, fetching := false, pass := none, bankPass := none
    bankRx := none, takeover := none, takeoverH := 0, late := [], commitFrom := 0, partnerPresent := false, fenceIn := false, fenceOut := false
    presenceSent := 0, presenceSeen := 0, presenceTick := 0, presenceState := 0, presenceFlags := 0 }

def blankPrp : PrpBlock := ⟨0, 0, Vector.replicate 2 0, Vector.replicate 2 true, [], [], Vector.replicate 2 [], Vector.replicate 2 0⟩

/-- Keys as delivered (R530): no warp, safety-set, conduit or seam key, the four firmware keys INSTALLED, the debug fuse open. -/
def deliveredKeys : KeyStore :=
  { warp := Vector.replicate 8 [], warpStatus := Vector.replicate 8 0, safety := Vector.replicate 8 [], safetyStatus := Vector.replicate 8 0
    firmware := Vector.ofFn fun i => Config.firmwareKey i.val, firmwareStatus := Vector.replicate 4 1, conduit := Vector.replicate 16 none
    seam := Vector.replicate 2 none, seamInUse := none, wrapFault := false, securityVersion := 0, lockFuse := false, locked := false, burning := none }

/-- The default options (Table 15-8). -/
def defaultOptions : Options := ⟨true, false, true⟩

/-- A copy of the option record (Table 15-5). -/
def optionRecord (sequence : Nat) (o : Options) : Bytes :=
  let b := leBytes 4 0x54504F43 ++ leBytes 2 1 ++ leBytes 2 2048 ++ leBytes 4 sequence ++ [byte o.usb.toNat, byte o.debugPort.toNat, byte o.resetPin.toNat] ++
    zeros 2029
  b ++ leBytes 4 (crc32c b)

/-- A module as delivered, in the P-level episode that its first supply opens: the supervisor still asserts POR. -/
def State.reset : State :=
  { mode := .off, dict := [], inForce := [], stored := [], storedLayout := [], weftQueue := [], ended := [], shown := []
    keys := deliveredKeys, domains := [], command := none, profileChange := none, restore := none, rst := resetBlock0
    options := ⟨optionRecord 0 defaultOptions, optionRecord 0 defaultOptions, defaultOptions, optionRecord 0 defaultOptions, optionRecord 0 defaultOptions⟩
    tally := blankTallies, face := blankFace
    clp := blankClp, eng := blankEngines, warp := ⟨none, none, none, false, []⟩, time := blankTimeUnit, can := blankCanBlock
    island := blankIsland, io := blankFieldIo, clocks := ⟨none, none, false, false⟩, pd := ⟨[], []⟩, stale := [], pair := blankPair, prp := blankPrp
    firmware := ⟨Vector.replicate 2 true, none, 0⟩, storeFault := none, startTick := none
    captures := Vector.replicate 8 ⟨none, none, 0, 0, [], [], 0, 0⟩, loopsMissed := [], loopsHeld := [], tableRam := [], store := [], dram := [], window := [], tick := 0
    ticking := false, timeNs := 0, localNs := 0, rtcNs := 0, tickFlags := 0, freeCount := 0, out := [], pending := [] }

end Sys2Proof.Machine
end

