-- ==== Sys2Proof/Machine/Ops.lean ====
section
/-! DEFINITION. The named operations over the state that the meanings share: objects of the dictionary, counters (R61, R62),
tally records (R473 to R479), free values, frames sent and the Store. -/

namespace Sys2Proof.Machine

/-! ### Codes -/

/-- State code (Table 1-3); OFF is never reported (R14). -/
def Mode.code : Mode → Nat
  | .off => 0 | .boot => 1 | .service => 2 | .ready => 3 | .run => 4 | .standby => 5 | .layup => 6 | .hold => 7

/-- The states that answer the dictionary (Table 1-3). -/
def Mode.answers : Mode → Bool
  | .service | .ready | .run | .standby | .hold => true
  | .off | .boot | .layup => false

/-- RUN or STANDBY: the warp runs. -/
def Mode.running : Mode → Bool
  | .run | .standby => true
  | _ => false

/-- Dictionary and protocol service: not while an episode is open, nor before its exit sequence has ended (Table 15-4; R416 keeps every MRAM
pulse out of an open episode). -/
def State.serves (s : State) : Bool := s.mode.answers && s.rst.episode.isNone && s.rst.exiting.isNone

def levelCode : ResetLevel → Nat
  | .c => 1 | .w => 2 | .s => 3 | .p => 4

/-- Class code of Table 5-4 and R183. -/
def classCode : CClass → Nat
  | .q => 0 | .f => 1 | .m => 2 | .s => 3 | .l => 4

/-- Class length in ticks (Table 4-2). -/
def classLen : CClass → Nat
  | .q => 1 | .f => 4 | .m => 40 | .s => 400 | .l => 4000

def classOf? : Nat → Option CClass
  | 0 => some .q | 1 => some .f | 2 => some .m | 3 => some .s | 4 => some .l
  | _ => none

def allClasses : List CClass := [.q, .f, .m, .s, .l]

/-- Length in ticks of the class with this code. -/
def lenOfCode (c : Nat) : Nat := match classOf? c with | some k => classLen k | none => 1

def ifaceCode : Iface → Nat
  | .portA => 0 | .portB => 1 | .usb => 2

def portIx : NetPort → Fin 2
  | .a => 0 | .b => 1

/-- Number of a port: 0 A, 1 B. -/
def portNo : NetPort → Nat
  | .a => 0 | .b => 1

def groupIx : Group → Nat
  | .a => 0 | .b => 1 | .c => 2

/-! ### Objects -/

/-- The default of an object of fixed address, at its full size (R50); a value with no default is its type's zero. -/
def dfltObj (a : Nat) : Bytes :=
  match fixedRow? a with
  | some r => if r.dflt = [] then zeros (typeSize r.type) else r.dflt
  | none => []

/-- Size in bytes of a numeric object; the objects of warp-defined indices that count or number are U32. -/
def objSize (a : Nat) : Nat :=
  match fixedRow? a with
  | some r => typeSize r.type
  | none => 4

/-- The value of an object held in `dict`. -/
def State.obj (s : State) (a : Nat) : Bytes := (Assoc.get? s.dict a).getD (dfltObj a)

/-- Its value as an unsigned number. -/
def State.num (s : State) (a : Nat) : Nat := leNat (s.obj a)

/-- Its value as a BOOL. -/
def State.flag (s : State) (a : Nat) : Bool := decide (s.num a ≠ 0)

def State.setObj (s : State) (a : Nat) (v : Bytes) : State := { s with dict := Assoc.set s.dict a v }

/-- The object as an unsigned number of the object's size. -/
def State.setNum (s : State) (a v : Nat) : State := s.setObj a (leBytes (objSize a) v)

def State.setFlag (s : State) (a : Nat) (b : Bool) : State := s.setNum a (b2n b)

/-- The value in force of an object with START effect (R43): the one latched at the last start. -/
def State.started (s : State) (a : Nat) : Nat := leNat ((Assoc.get? s.inForce a).getD (dfltObj a))

/-- A domain of Table 16-3 has no clock. -/
def State.noClock (s : State) (d : Nat) : Bool := decide (u8At (s.obj Obj.domainSources) d = 2)

/-! ### StationStateDetail (Table 1-4) -/

def State.detail (s : State) (i : Nat) : Bool := bit (s.num Obj.stationStateDetail) i
def State.setDetail (s : State) (i : Nat) (b : Bool) : State :=
  s.setNum Obj.stationStateDetail (putBit (s.num Obj.stationStateDetail) i b)

def State.degraded (s : State) : Bool := s.detail 0
def State.optFallback (s : State) : Bool := s.detail 1
def State.holdover (s : State) : Bool := s.detail 2
/-- This module has a partner: PairEnable as the last start took it. -/
def State.pairEnabled (s : State) : Bool := decide (s.started Obj.pairEnable ≠ 0)
def State.paired (s : State) : Bool := s.detail 3
def State.synced (s : State) : Bool := s.detail 4
def State.roleActive (s : State) : Bool := s.detail 5
def State.commandPending (s : State) : Bool := s.command.isSome

/-- No lock since start: TickSource 0x03 (Table 4-1). -/
def State.unlocked (s : State) : Bool := decide (s.num Obj.tickSource = 3)

/-- The module executes ticks: in RUN, and in STANDBY from the boundary at which joining has brought its state to the active's (R267). -/
def State.executes (s : State) : Bool :=
  decide (s.mode = .run) || (decide (s.mode = .standby) && decide (3 ≤ s.num Obj.syncState))

/-! ### Tally records -/

/-- FLAGS[2:0] of a record from the time unit (R475). -/
def State.timeFlags (s : State) : Nat := ofBits [s.holdover, s.unlocked, s.flag Obj.stepHeld]

/-- A firmware record formed now (R475, R476). -/
def State.draft (s : State) (code : Nat) (params : List Nat) : TallyDraft :=
  { code := code, flags := s.timeFlags, source := s.num Obj.moduleNode, timeNs := s.timeNs, params := params }

/-- The 64 bytes of a record (Table 18-1). -/
def recordBytes (d : TallyDraft) (sequence minutes cycles : Nat) : Bytes :=
  let flags := d.flags + (if minutes = 0xFFFFFFFF then 16 else 0) + (if cycles = 0xFFFFFFFF then 32 else 0)
  let p := fun i => leBytes 4 ((d.params[i]?).getD 0)
  let body := leBytes 2 d.code ++ leBytes 2 flags ++ leBytes 2 d.source ++ zeros 2 ++ leBytes 8 sequence ++ time96 d.timeNs ++
    leBytes 4 minutes ++ leBytes 4 cycles ++ p 0 ++ p 1 ++ p 2 ++ p 3 ++ zeros 8
  body ++ leBytes 4 (crc32c body)

/-- Slots of the circular log (R477). -/
def tallySlots : Nat := 131072

/-- A head seal copy (R479). -/
def sealBytes (head : Nat) : Bytes :=
  let b := leBytes 4 0x4C415443 ++ leBytes 8 head ++ zeros 16
  b ++ leBytes 4 (crc32c b)

/-- `t` with the head at `head` and the copy that the head's sequence selects written (R479). -/
def TallyLog.seal (t : TallyLog) (head : Nat) : TallyLog :=
  if head % 2 = 0 then { t with head := head, sealA := sealBytes head } else { t with head := head, sealB := sealBytes head }

/-- One record into its slot and into the mirror, and the head sealed (R477, R479, R481). -/
def TallyLog.write (t : TallyLog) (d : TallyDraft) : TallyLog :=
  let n := t.head + 1
  let r := recordBytes d n t.minutes t.powerCycles
  ({ t with slots := Assoc.set t.slots (n % tallySlots) r, mirror := Assoc.set t.mirror (n % tallySlots) r
            sealsBefore := (t.sealA, t.sealB) }).seal n

/-! ### The option area (R424, R425) -/

/-- A copy of the option record, judged (R425): its SEQUENCE and its options, or none where it is not valid. -/
def optionOf (b : Bytes) : Option (Nat × Options) :=
  if b.length = 2048 && u32At b 0 = 0x54504F43 && u16At b 4 = 1 && u16At b 6 = 2048 && (List.range 3).all (fun k => u8At b (12 + k) ≤ 1) &&
      slice b 15 2029 = zeros 2029 && crc32c (b.take 2044) = u32At b 2044 then
    some (u32At b 8, ⟨decide (u8At b 12 = 1), decide (u8At b 13 = 1), decide (u8At b 14 = 1)⟩)
  else none

/-- The copies judged. -/
def OptionArea.a (o : OptionArea) : Option (Nat × Options) := optionOf o.copyA
def OptionArea.b (o : OptionArea) : Option (Nat × Options) := optionOf o.copyB

/-- A new record goes over the copy with the lower SEQUENCE, and then over the other (R428); of two equal ones, copy A is the first (DESIGN
CHOICE, log entry 124). -/
def OptionArea.write (o : OptionArea) (new : Bytes) : OptionArea :=
  let aFirst := match o.a, o.b with
    | some x, some y => decide (x.1 ≤ y.1)
    | some _, none => false
    | none, _ => true
  { o with copyA := new, copyB := new, before := if aFirst then (new, o.copyB) else (o.copyA, new) }

/-- The overflow object of a counter's index (R62). -/
def overflowAddr (a : Nat) : Nat := objAddr (addrIndex a) 0xFF

/-- A saturating counter advanced by `n` (R61, R62), and whether this increment would have passed the largest value for the
first time, which calls for the overflow tally. -/
def State.bump (s : State) (a n : Nat) : State × Bool :=
  let top := 256 ^ objSize a - 1
  let v := s.num a
  if v + n ≤ top then (s.setNum a (v + n), false)
  else
    let o := fit 32 (s.obj (overflowAddr a))
    if bytesBit o (addrSub a) then (s.setNum a top, false)
    else ((s.setNum a top).setObj (overflowAddr a) (putBytesBit o (addrSub a) true), true)

/-- Tally codes (Table 18-3). -/
def tCounterOverflow : Nat := 0x0104

/-- A record written to the log, or kept until the head is known (R480); TalliesWritten counts written records. -/
def State.logDraft (s : State) (d : TallyDraft) : State :=
  if s.tally.headKnown then
    let (s1, spills) := ({ s with tally := s.tally.write d }).bump Obj.talliesWritten 1
    if spills then { s1 with tally := s1.tally.write (s1.draft tCounterOverflow [Obj.talliesWritten]) } else s1
  else { s with tally := { s.tally with waiting := s.tally.waiting ++ [d] } }

/-- A firmware record of a code with its parameters (R477). -/
def State.logTally (s : State) (code : Nat) (params : List Nat) : State := s.logDraft (s.draft code params)

/-- A counter advanced by `n`, with its overflow tally (R61, R62). -/
def State.count (s : State) (a : Nat) (n : Nat := 1) : State :=
  let (s1, spills) := s.bump a n
  if spills then s1.logTally tCounterOverflow [a] else s1

/-- A record issued by the trommel, the shuttles, the captures or the DMA engines, held back until staging (R189, R220). TIME is
set at its release (R475). -/
def State.issueTally (s : State) (code : Nat) (params : List Nat) : State :=
  { s with tally := { s.tally with issued := s.tally.issued ++
      [{ code := code, flags := s.tickFlags + 8, source := s.num Obj.moduleNode, timeNs := 0, params := params }] } }

/-- First four bytes of a byte string as a little-endian U32 (R533). -/
def first4 (bs : Bytes) : Nat := leNat (bs.take 4)

/-- Low 32 bits. -/
def low32 (n : Nat) : Nat := n % 2 ^ 32

/-! ### Free values and frames sent -/

/-- The next free value (Config.freeValue), and the state with it drawn. -/
def State.drawFree (s : State) : BitVec 64 × State := (Config.freeValue s.freeCount, { s with freeCount := s.freeCount + 1 })

def State.send (s : State) (kind : SentKind) (unit peer : Nat) (data : Bytes) : State :=
  { s with out := s.out ++ [{ kind := kind, unit := unit, peer := peer, data := data, head := none }] }

/-! ### Time -/

/-- Local time passes: the local oscillator, the time unit and the backup real-time counter advance together. -/
def State.advance (s : State) (ns : Nat) : State :=
  { s with localNs := s.localNs + ns, timeNs := s.timeNs + ns, rtcNs := s.rtcNs + ns }

/-- TAI ns of the edge of a tick (R4). -/
def State.edgeNs (s : State) (tick : Nat) : Nat := tick * tickNs + s.started Obj.tickOffset

/-- The instant `ns` after the most recent edge, if it has not passed yet. -/
def State.atOffset (s : State) (ns : Nat) : State := s.advance (s.edgeNs s.tick + ns - s.timeNs)

/-- Instants within the last second. -/
def lastSecond (now : Nat) (ts : List Nat) : List Nat := ts.filter fun t => decide (now < t + 1000000000)

/-- The first L-cycle boundary after tick `t` (R106). -/
def nextBoundary (t : Nat) : Nat := (t / hyperTicks + 1) * hyperTicks

/-- The first cut-off of class `c` after the most recent edge: an acceptance at or after an edge belongs to a later one (R58). -/
def State.nextCutoff (s : State) (c : CClass) : Nat := (s.tick / classLen c + 1) * classLen c

/-! ### The Store -/

/-- Areas of the Store (Table 17-1). -/
def stateBase : Nat := 0x0400000
def configBase : Nat := 0x1300000
def undoBase : Nat := 0x1F00000
def platformBase : Nat := 0x0380000

def inWeft (a : Nat) : Bool := decide (a < platformBase)
def inPlatform (a : Nat) : Bool := decide (platformBase ≤ a) && decide (a < stateBase)
def inStateArea (a : Nat) : Bool := decide (stateBase ≤ a) && decide (a < configBase)
def inConfig (a : Nat) : Bool := decide (configBase ≤ a) && decide (a < undoBase)
def inUndo (a : Nat) : Bool := decide (undoBase ≤ a) && decide (a < 0x2000000)

/-- Bytes of the Store: the configuration area reads as the loaded image's logical window (R453). -/
def State.storeByte (s : State) (a : Nat) : Byte :=
  if inConfig a then (match s.warp.loaded with | some l => Mem.get l.config a | none => 0) else Mem.get s.store a

def State.storeRead (s : State) (a n : Nat) : Bytes := (List.range n).map fun i => s.storeByte (a + i)

def State.storeNat (s : State) (a n : Nat) : Nat := leNat (s.storeRead a n)

/-- The line of an address is saved once per tick while CANVAS runs (R195). -/
def State.saveLine (s : State) (line : Nat) : State :=
  if s.num Obj.activeProfile = 3 && (Assoc.get? s.eng.undo line).isNone then
    { s with eng := { s.eng with undo := Assoc.set s.eng.undo line (Mem.read s.store (line * 32) 32) } }
  else s

/-- Lines that `n` bytes from `a` on touch. -/
def linesOf (a n : Nat) : List Nat :=
  if n = 0 then [] else (List.range ((a + n - 1) / 32 - a / 32 + 1)).map fun i => a / 32 + i

/-- A write of the execution window into the state area, with the undo of R195. -/
def State.storeWrite (s : State) (a : Nat) (bs : Bytes) : State :=
  let s1 := (linesOf a bs.length).foldl State.saveLine s
  { s1 with store := Mem.write s1.store a bs }

/-- A write outside the execution window (capture, mirror, initial values): no undo. -/
def State.storePut (s : State) (a : Nat) (bs : Bytes) : State := { s with store := Mem.write s.store a bs }

def State.storePutNat (s : State) (a n v : Nat) : State := s.storePut a (leBytes n v)

end Sys2Proof.Machine
end

