-- ==== Sys2Proof/Machine/Image.lean ====
section
/-! DEFINITION. The warp image as bytes (chapter 05): header, directory, sections and their records, the run tables, the slot
words of chapter 06 and the lists of chapter 17, read exactly where the manual lays them. Nothing here judges an image; Verify
does. -/

namespace Sys2Proof.Machine

/-! ### Header and directory -/

/-- Image digest (R136): the bytes outside the signature block. -/
def imageDigest (img : Bytes) : Bytes := sha256 (img.take 192 ++ img.drop 256)

def hdrSectionCount (h : Bytes) : Nat := u16At h 12
def hdrProven (h : Bytes) : Nat := u8At h 16
def hdrSigner (h : Bytes) : Nat := u8At h 17
def hdrPointCount (h : Bytes) : Nat := u32At h 40
def hdrLoopCount (h : Bytes) : Nat := u16At h 44
def hdrLayoutDigest (h : Bytes) : Bytes := slice h 56 32
/-- APPLICATION_NAME as a VSTRING. -/
def hdrName (h : Bytes) : Bytes := slice h 88 (1 + u8At h 88)

/-- Directory entry `k` and the bytes of its section (Table 5-2). -/
def sectionAt (img : Bytes) (k : Nat) : Section :=
  let e := 256 + 16 * k
  { type := u8At img e, inst := u8At img (e + 1), version := u16At img (e + 2), offset := u32At img (e + 4),
    crc := u32At img (e + 12), body := slice img (u32At img (e + 4)) (u32At img (e + 8)) }

def sectionsOf (img : Bytes) : List Section := (List.range (hdrSectionCount img)).map (sectionAt img)

/-- The body of the first section of a type; empty where the image has none. -/
def sectBody (ss : List Section) (type : Nat) : Bytes :=
  match ss.find? fun x => decide (x.type = type) with
  | some x => x.body
  | none => []

/-- RECORD_COUNT (R140). -/
def recCount (body : Bytes) : Nat := u32At body 0
/-- Records of fixed size, from section offset 8. -/
def records (body : Bytes) (size : Nat) : List Bytes := chunks size (recCount body) (body.drop 8)

/-! ### Run tables (R145) -/

/-- One run: the tick indices FIRST + k·STRIDE, and what the entry names. -/
structure Run where
  first : Nat
  count : Nat
  stride : Nat
  rest : Bytes
  deriving DecidableEq, Repr

def runOf (e : Bytes) : Run := ⟨u16At e 0, u16At e 2, u16At e 4, e.drop 6⟩

/-- The run table whose run count stands at `off`, with entries of `size` bytes. -/
def runTable (body : Bytes) (off size : Nat) : List Run := (chunks size (u32At body off) (body.drop (off + 4))).map runOf

def Run.covers (r : Run) (i : Nat) : Bool :=
  decide (0 < r.stride) && decide (r.first ≤ i) && decide ((i - r.first) % r.stride = 0) &&
    decide ((i - r.first) / r.stride < r.count)

/-- The run that covers a tick index, with its repetition ordinal k. -/
def runAt (runs : List Run) (i : Nat) : Option (Run × Nat) :=
  (runs.find? (·.covers i)).map fun r => (r, (i - r.first) / r.stride)

/-! ### Slot programs (Table 5-6) -/

/-- Program table: offset and length of each program. -/
def programTable (body : Bytes) : List (Nat × Nat) := (chunks 8 (recCount body) (body.drop 8)).map fun e => (u32At e 0, u32At e 4)

/-- Offset of the run count: the end of the furthest-extending program. -/
def programEnd (body : Bytes) : Nat := (programTable body).foldl (fun m p => max m (p.1 + p.2)) (8 + 8 * recCount body)

def programRuns (body : Bytes) : List Run := runTable body (programEnd body) 24

/-- The words of a program. -/
def programWords (body : Bytes) (n : Nat) : List Nat :=
  match (programTable body)[n]? with
  | some (off, len) => (chunks 8 (len / 8) (slice body off len)).map leNat
  | none => []

/-- Program number of a lane in a run (Table 5-6). -/
def runProgram (r : Run) (lane : Nat) : Nat := u32At r.rest (2 + 4 * lane)

/-! ### Slot words (Tables 6-2 and 6-3) -/

/-- The fields of a slot word in the form its opcode has. `imm` is the signed immediate of the address forms. -/
structure SlotWord where
  op : Nat
  d : Nat
  a : Nat
  b : Nat
  c : Nat
  /-- IMM [37:0] of the RI format, as its 38 bits. -/
  imm : Nat
  unit : Nat
  tag : Nat
  count : Nat
  mask : Nat
  deriving DecidableEq, Repr

def slotFields (w : Nat) : SlotWord :=
  { op := field w 63 56, d := field w 55 47, a := field w 46 38, b := field w 37 29, c := field w 28 20, imm := field w 37 0,
    unit := field w 37 33, tag := field w 32 28, count := field w 27 0, mask := field w 31 0 }

inductive SlotFormat where
  | rrr | ri | k | e | wait
  deriving DecidableEq, Repr

/-- Format of an opcode of Table 6-3; none for an opcode outside it. -/
def slotFormat (op : Nat) : Option SlotFormat :=
  if op = 2 then some .wait
  else if op = 3 || op = 4 || op = 0x0B || op = 0x0C || op = 0x0D || (decide (0x68 ≤ op) && decide (op ≤ 0x73)) then some .ri
  else if op = 5 || op = 6 || op = 7 then some .e
  else if op = 8 || op = 9 then some .k
  else if op = 0 || op = 1 || op = 0x0A || (decide (0x10 ≤ op) && decide (op ≤ 0x14)) ||
      (decide (0x18 ≤ op) && decide (op ≤ 0x1C)) || (decide (0x20 ≤ op) && decide (op ≤ 0x26)) || op = 0x28 || op = 0x29 ||
      (decide (0x2D ≤ op) && decide (op ≤ 0x48)) || (decide (0x4C ≤ op) && decide (op ≤ 0x58)) || op = 0x5C || op = 0x5D ||
      (decide (0x60 ≤ op) && decide (op ≤ 0x63)) then some .rrr
  else none

/-- How many of A, B and C an RRR operation reads. -/
def slotSources (op : Nat) : Nat :=
  if op = 0 || op = 1 then 0
  else if op = 0x0A || op = 0x23 || (decide (0x2D ≤ op) && decide (op ≤ 0x2F)) || op = 0x44 || op = 0x47 || op = 0x48 ||
      (decide (0x4C ≤ op) && decide (op ≤ 0x4F)) || op = 0x54 || op = 0x57 || op = 0x58 || op = 0x5C || op = 0x5D then 1
  else if op = 0x3E || op = 0x3F then 3
  else 2

/-- R177, R183 to R187: the opcode is defined and every field the instruction does not use is 0. -/
def slotWordOk (w : Nat) : Bool :=
  let f := slotFields w
  match slotFormat f.op with
  | none => false
  | some .rrr =>
    let n := slotSources f.op
    decide (field w 19 0 = 0) && (decide (1 ≤ n) || (decide (f.a = 0) && decide (f.d = 0))) && (decide (2 ≤ n) || decide (f.b = 0)) &&
      (decide (3 ≤ n) || decide (f.c = 0))
  | some .ri =>
    if f.op = 3 then decide (f.a = 0) && decide (f.imm ≤ 4)
    else if f.op = 4 then decide (f.a = 0) && decide (f.d = 0) && decide (f.imm ≤ 4)
    else if f.op = 0x0C || f.op = 0x0D then decide (f.imm < 4096)
    else true
  | some .k => decide (field w 46 32 = 0)
  | some .e =>
    decide (f.d = 0) &&
      (if f.op = 5 then decide (f.unit < 16) && decide (1 ≤ f.count) && decide (f.count ≤ 1024)
       else if f.op = 6 then decide (f.unit = 0) && decide (1 ≤ f.count) && decide (f.count ≤ 262144)
       else decide (f.a = 0) && decide (f.unit = 0))
  | some .wait => decide (field w 46 32 = 0)

/-! ### Loom plans (Tables 5-8) -/

structure LoomEntry where
  first : Nat
  count : Nat
  fromPort : Nat
  toPort : Nat
  kind : Nat
  reserved : Nat
  deriving DecidableEq, Repr

def loomEntryOf (e : Bytes) : LoomEntry := ⟨u32At e 0, u32At e 4, u8At e 8, u8At e 9, u8At e 10, u8At e 11⟩

/-- The plans from section offset `off` on, and the offset after the last. -/
def loomPlansFrom (body : Bytes) : Nat → Nat → List (List LoomEntry) × Nat
  | 0, off => ([], off)
  | n + 1, off =>
    let k := u32At body off
    let p := (chunks 12 k (slice body (off + 4) (12 * k))).map loomEntryOf
    let (ps, e) := loomPlansFrom body n (off + 4 + 12 * k)
    (p :: ps, e)

def loomPlans (body : Bytes) : List (List LoomEntry) := (loomPlansFrom body (recCount body) 8).1
def loomRuns (body : Bytes) : List Run := runTable body (loomPlansFrom body (recCount body) 8).2 12

/-- The plan of a tick index. -/
def planAt (body : Bytes) (i : Nat) : List LoomEntry :=
  match runAt (loomRuns body) i with
  | some (r, _) => ((loomPlans body)[u32At r.rest 2]?).getD []
  | none => []

/-! ### Clock schedule (Table 5-7) -/

/-- Operating points: clock in MHz and core supply in mV. -/
def operatingPoints (body : Bytes) : List (Nat × Nat) := (records body 4).map fun e => (u16At e 0, u16At e 2)
def clockRuns (body : Bytes) : List Run := runTable body (8 + 4 * recCount body) 12
def runSetting (r : Run) : Nat := u8At r.rest 0
def runGates (r : Run) : Nat := u32At r.rest 2

/-- Operating point number of a tick index in SATIN. -/
def settingAt (body : Bytes) (i : Nat) : Nat :=
  match runAt (clockRuns body) i with
  | some (r, _) => runSetting r
  | none => 0

def gatesAt (body : Bytes) (i : Nat) : Nat :=
  match runAt (clockRuns body) i with
  | some (r, _) => runGates r
  | none => 0

/-- Sequencer clock in MHz and core supply in mV of a tick index under a profile (Table 1-9, R28). -/
def clockAt (body : Bytes) (profile i : Nat) : Nat × Nat :=
  if profile = 1 then ((operatingPoints body)[settingAt body i]?).getD (0, 0) else if profile = 2 then (600, 750) else (800, 850)

/-! ### DMA lists (Tables 17-3 and 17-4) -/

structure DmaList where
  list : Nat
  engine : Nat
  channel : Nat
  trigger : Nat
  first : Nat
  count : Nat
  stride : Nat
  /-- Bytes 5, and 14 to 15, of the header: reserved. -/
  reserved : Nat
  descs : List Descriptor
  deriving DecidableEq, Repr

def descOf (e : Bytes) : Descriptor := ⟨u32At e 0, u32At e 4, u32At e 8, u32At e 12⟩

def dmaListAt (body : Bytes) (off : Nat) : DmaList :=
  let n := u16At body (off + 6)
  { list := u16At body off, engine := u8At body (off + 2), channel := u8At body (off + 3), trigger := u8At body (off + 4),
    first := u16At body (off + 8), count := u16At body (off + 10), stride := u16At body (off + 12),
    reserved := u8At body (off + 5) + u16At body (off + 14),
    descs := (chunks 16 n (slice body (off + 16) (16 * n))).map descOf }

def dmaListsFrom (body : Bytes) : Nat → Nat → List DmaList × Nat
  | 0, off => ([], off)
  | n + 1, off =>
    let l := dmaListAt body off
    let (ls, e) := dmaListsFrom body n (off + 16 + 16 * u16At body (off + 6))
    (l :: ls, e)

def dmaLists (body : Bytes) : List DmaList := (dmaListsFrom body (recCount body) 8).1
/-- Channel table: QUEUE_OFFSET and LINES of engine e, channel k at entry 7e + k (R457). -/
def channelTable (body : Bytes) : List (Nat × Nat) :=
  (chunks 8 28 (body.drop (dmaListsFrom body (recCount body) 8).2)).map fun e => (u32At e 0, u16At e 4)

def queueOf (body : Bytes) (engine channel : Nat) : Nat × Nat := ((channelTable body)[7 * engine + channel]?).getD (0xFFFFFFFF, 0)

def DmaList.run (l : DmaList) : Run := ⟨l.first, l.count, l.stride, []⟩

/-! ### Points, PD layouts and the state map -/

/-- POINT_MAP record (Table 5-4). -/
structure PointDef where
  point : Nat
  type : Nat
  cls : Nat
  attributes : Nat
  source : Nat
  ref : Nat
  offset : Nat
  deriving DecidableEq, Repr

def pointDefOf (e : Bytes) : PointDef :=
  ⟨u32At e 0, u8At e 4, u8At e 5, u8At e 6, u8At e 7, u32At e 8, u32At e 12⟩

def pointDefs (ss : List Section) : List PointDef := (records (sectBody ss 1) 16).map pointDefOf

/-- PD layout header and fields (Tables 5-10, 5-11). -/
structure PdField where
  point : Nat
  offset : Nat
  encoding : Nat
  bitPos : Nat
  deriving DecidableEq, Repr

structure PdLayout where
  id : Nat
  direction : Nat
  cls : Nat
  peerNode : Nat
  peerIp : Nat
  auth : Nat
  keyId : Nat
  tolerance : Nat
  flags : Nat
  bodyLength : Nat
  txOffset : Nat
  reserved : Nat
  fields : List PdField
  deriving DecidableEq, Repr

/-- A PD layout (Table 5-10). PEER_IPV4, as every multi-byte field of an image (R2), is little-endian: the address as a
number, its first octet the most significant (DEDUCED, log entry 20). -/
def pdLayoutAt (body : Bytes) (off : Nat) : PdLayout :=
  let n := u16At body (off + 18)
  { id := u16At body off, direction := u8At body (off + 2), cls := u8At body (off + 3), peerNode := u16At body (off + 4),
    reserved := u16At body (off + 6), peerIp := u32At body (off + 8), auth := u8At body (off + 12),
    keyId := u8At body (off + 13), tolerance := u8At body (off + 14), flags := u8At body (off + 15),
    bodyLength := u16At body (off + 16), txOffset := u32At body (off + 20),
    fields := (chunks 8 n (slice body (off + 24) (8 * n))).map fun e => ⟨u32At e 0, u16At e 4, u8At e 6, u8At e 7⟩ }

def pdLayoutsFrom (body : Bytes) : Nat → Nat → List PdLayout × Nat
  | 0, off => ([], off)
  | n + 1, off =>
    let l := pdLayoutAt body off
    let (ls, e) := pdLayoutsFrom body n (off + 24 + 8 * u16At body (off + 18))
    (l :: ls, e)

def pdLayouts (ss : List Section) : List PdLayout :=
  let b := sectBody ss 2
  if b.length < 8 then [] else (pdLayoutsFrom b (recCount b) 8).1

def rxLayouts (ss : List Section) : List PdLayout := (pdLayouts ss).filter fun l => decide (l.direction = 0)
def txLayouts (ss : List Section) : List PdLayout := (pdLayouts ss).filter fun l => decide (l.direction = 1)

/-- STATE_MAP entry (R147): offset in the state area, length and kind. -/
structure StateArea where
  offset : Nat
  length : Nat
  kind : Nat
  reserved : Nat
  deriving DecidableEq, Repr

def stateAreas (ss : List Section) : List StateArea :=
  (records (sectBody ss 0x0E) 12).map fun e => ⟨u32At e 0, u32At e 4, u8At e 8, leNat (slice e 9 3)⟩

/-- Sections of the loaded image; none while no warp is loaded. -/
def State.sections (s : State) : List Section := match s.warp.loaded with | some l => l.sections | none => []

/-- A byte of the state area lies in a STATE_MAP area: it is kept from one tick to the next (R147). -/
def State.keepsByte (s : State) (a : Nat) : Bool :=
  (stateAreas s.sections).any fun x => decide (stateBase + x.offset ≤ a) && decide (a < stateBase + x.offset + x.length)

/-- The warp stores to `n` bytes from `a` on: those of the state area that no STATE_MAP area keeps are noted (R147). -/
def State.noteScratch (s : State) (a n : Nat) : State :=
  let new := ((List.range n).map (a + ·)).filter fun x =>
    inStateArea x && s.warp.loaded.isSome && !s.keepsByte x && !s.eng.scratch.contains x
  { s with eng := { s.eng with scratch := s.eng.scratch ++ new } }

/-- NETWORK record (Table 5-5); GROUPS holds addresses as PEER_IPV4 does (DEDUCED, log entry 20). -/
def netPdPort (ss : List Section) : Nat := u16At (sectBody ss 0x0D) 8
def netSlowest (ss : List Section) : Nat := u8At (sectBody ss 0x0D) 10
def netJumbo (ss : List Section) : Bool := bit (u8At (sectBody ss 0x0D) 11) 0
def netGroups (ss : List Section) : List Nat :=
  let b := sectBody ss 0x0D
  (chunks 4 (u8At b 12) (b.drop 16)).map leNat

/-- INITIAL_STATE blocks (R148): offset and bytes, padded to a multiple of 8. -/
def initialBlocks (body : Bytes) : Nat → Nat → List (Nat × Bytes)
  | 0, _ => []
  | n + 1, off =>
    let len := u32At body (off + 4)
    (u32At body off, slice body (off + 8) len) :: initialBlocks body n (off + 8 + roundUp 8 len)

end Sys2Proof.Machine
end

