-- ==== Sys2Proof/Machine/Points.lean ====
section
/-! DEFINITION. Where the loaded image keeps its points, alarm groups and loops (R201, R211, R223, R453), and the weft of a class's
current cycle (R183, R208). -/

namespace Sys2Proof.Machine

def State.pointDefs (s : State) : List PointDef := Sys2Proof.Machine.pointDefs s.sections

/-- The POINT_MAP record of a point number. -/
def State.point? (s : State) (n : Nat) : Option PointDef := s.pointDefs.find? fun p => decide (p.point = n)

/-- The four Areas words of the ALARMS section (Table 7-6). -/
def alarmArea (ss : List Section) (k : Nat) : Nat :=
  let b := sectBody ss 6
  u32At b (8 + 32 * recCount b + 4 * k)
def timeArea (ss : List Section) : Nat := alarmArea ss 0
def alarmStateArea (ss : List Section) : Nat := alarmArea ss 1
def groupArea (ss : List Section) : Nat := alarmArea ss 2
def staleEntries (ss : List Section) : Nat := alarmArea ss 3

/-- Limit sets and group records of an ALARMS section (Tables 7-6 and 7-8). -/
def limitSets (b : Bytes) : List Bytes :=
  let o := 24 + 32 * recCount b
  chunks 24 (u32At b o) (b.drop (o + 4))
def groupRecords (b : Bytes) : List Bytes :=
  let o := 28 + 32 * recCount b + 24 * u32At b (24 + 32 * recCount b)
  chunks 48 (u32At b o) (b.drop (o + 4))
def State.groups (s : State) : List Bytes := groupRecords (sectBody s.sections 6)
def groupMaxShelve (g : Bytes) : Nat := u32At g 4
def groupName (g : Bytes) : Bytes := slice g 8 (1 + u8At g 8)

/-- Store addresses of a point's record, time and alarm state record (R201), of its configuration record (R211) and of a group's
state record (R223). -/
def pointAt (p : PointDef) : Nat := stateBase + p.offset
def pointTimeAt (ss : List Section) (p : PointDef) : Nat := stateBase + timeArea ss + p.offset / 4
def alarmAt (ss : List Section) (p : PointDef) : Nat := stateBase + alarmStateArea ss + p.offset / 2
def pointCfgAt (p : PointDef) : Nat := configBase + p.offset
def groupAt (ss : List Section) (g : Nat) : Nat := stateBase + groupArea ss + 32 * g

/-- The weft header address of a class's current cycle (R183), and the fields of the header (Table 4-5). -/
def State.weftOf (s : State) (cls : Nat) : Nat := (s.eng.weftAddr.toList[cls]?).getD 0
def State.weftTick (s : State) (cls : Nat) : Nat := s.storeNat (s.weftOf cls) 8
def State.weftFlags (s : State) (cls : Nat) : Nat := s.storeNat (s.weftOf cls + 9) 1
/-- Count and tolerance of a stale-table entry (R208). -/
def State.staleCount (s : State) (cls ref : Nat) : Nat := s.storeNat (s.weftOf cls + 32 + 2 * ref) 1
def State.staleTolerance (s : State) (cls ref : Nat) : Nat := s.storeNat (s.weftOf cls + 33 + 2 * ref) 1

/-- MAIN of a quality word (Table 7-3). -/
def qualityMain (q : Nat) : Nat := q / 8192 % 8
/-- The GOOD, UNCERTAIN and BAD codes of Table 7-4. -/
def candidateCodes : List Nat :=
  [0, 0x2000, 0x2100, 0x2200, 0x2300, 0x2400, 0x4000, 0x4100, 0x4200, 0x4300, 0x4400, 0x4500, 0x4600, 0x4700]

/-- Conversion of a VALUE to F64 by its TYPE code (R214). -/
def toF64 (type v : Nat) : Nat :=
  if type = 1 then fOfInt f64 (if v % 256 = 0 then 0 else 1)
  else if type = 2 then fOfInt f64 (v % 256 : Nat) else if type = 3 then fOfInt f64 (v % 65536 : Nat)
  else if type = 4 then fOfInt f64 (v % 2 ^ 32 : Nat) else if type = 5 then fOfInt f64 (v % 2 ^ 64 : Nat)
  else if type = 6 then fOfInt f64 (toSigned 8 v) else if type = 7 then fOfInt f64 (toSigned 16 v)
  else if type = 8 then fOfInt f64 (toSigned 32 v) else if type = 9 then fOfInt f64 (toSigned 64 v)
  else if type = 10 then fConvert f32 f64 (v % 2 ^ 32) else v % 2 ^ 64

/-- Bytes of VALUE that a point type uses; those above are 0 (Table 7-2). -/
def pointBytes (type : Nat) : Nat :=
  if type = 1 || type = 2 || type = 6 then 1 else if type = 3 || type = 7 then 2 else if type = 4 || type = 8 || type = 10 then 4 else 8

/-- VALUE as F32 (parameter 2 of Table 7-12): an F32 as it stands, other types by the CVT rules (R182). -/
def toF32 (type v : Nat) : Nat :=
  if type = 10 then v % 2 ^ 32 else if type = 11 then fConvert f64 f32 (v % 2 ^ 64)
  else if type = 1 then fOfInt f32 (if v % 256 = 0 then 0 else 1)
  else if type = 2 then fOfInt f32 (v % 256 : Nat) else if type = 3 then fOfInt f32 (v % 65536 : Nat)
  else if type = 4 then fOfInt f32 (v % 2 ^ 32 : Nat) else if type = 5 then fOfInt f32 (v % 2 ^ 64 : Nat)
  else if type = 6 then fOfInt f32 (toSigned 8 v) else if type = 7 then fOfInt f32 (toSigned 16 v)
  else if type = 8 then fOfInt f32 (toSigned 32 v) else fOfInt f32 (toSigned 64 v)

/-- A NaN of the point's type; only F32 and F64 have any. -/
def isNanOf (type v : Nat) : Bool := (decide (type = 10) && fIsNan f32 (v % 2 ^ 32)) || (decide (type = 11) && fIsNan f64 (v % 2 ^ 64))

end Sys2Proof.Machine
end

