-- ==== Sys2Proof/Machine/Can.lean ====
section
/-! DEFINITION. The CAN FD block (chapter 11): rates, map entries, reception, the snapshot, transmission, fault confinement, reference
messages, rate detection and the wake frame. Error counters follow ISO 11898-1, which R315 names. -/

namespace Sys2Proof.Machine

/-! ### Map entries (Tables 11-2, 11-3) -/

structure CanEntry where
  number : Nat
  channel : Nat
  transmit : Nat
  buffer : Nat
  dlc : Nat
  ident : Nat
  mask : Nat
  cls : Nat
  tolerance : Nat
  flags : Nat
  /-- Bytes 15 and 18 to 23: reserved. -/
  reserved : Nat
  fields : List PdField
  deriving DecidableEq, Repr

def canEntryAt (body : Bytes) (k off : Nat) : CanEntry :=
  let n := u16At body (off + 16)
  { number := k, channel := u8At body off, transmit := u8At body (off + 1), buffer := u8At body (off + 2), dlc := u8At body (off + 3),
    ident := u32At body (off + 4), mask := u32At body (off + 8), cls := u8At body (off + 12), tolerance := u8At body (off + 13),
    flags := u8At body (off + 14), reserved := u8At body (off + 15) + leNat (slice body (off + 18) 6),
    fields := (chunks 8 n (slice body (off + 24) (8 * n))).map fun e => ⟨u32At e 0, u16At e 4, u8At e 6, u8At e 7⟩ }

/-- `n` entries from offset `off` on, the next being number `k`, and the offset after the last. -/
def canEntriesFrom (body : Bytes) : Nat → Nat → Nat → List CanEntry × Nat
  | 0, _, off => ([], off)
  | n + 1, k, off =>
    let e := canEntryAt body k off
    let (es, o) := canEntriesFrom body n (k + 1) (off + 24 + 8 * u16At body (off + 16))
    (e :: es, o)

def canEntries (ss : List Section) : List CanEntry :=
  let b := sectBody ss 3
  if b.length < 8 then [] else (canEntriesFrom b (recCount b) 0 8).1

/-- Channel records: NOMINAL_RATE, DATA_RATE, FLAGS of channels 1 to 8; all 0 without a CAN_MAPS section. -/
def canChannelRecords (ss : List Section) : List (Nat × Nat × Nat) :=
  let b := sectBody ss 3
  let o := if b.length < 8 then 0 else (canEntriesFrom b (recCount b) 0 8).2
  (List.range 8).map fun k =>
    let r := slice b (o + 16 * k) 16
    if b.length < 8 then (0, 0, 0) else (u32At r 0, u32At r 4, u8At r 8)

def rxEntries (ss : List Section) : List CanEntry := (canEntries ss).filter fun e => decide (e.transmit = 0)
def txEntries (ss : List Section) : List CanEntry := (canEntries ss).filter fun e => decide (e.transmit = 1)

def CanEntry.reference (e : CanEntry) : Bool := bit e.flags 0

/-- Data length of a DLC (R318). -/
def dlcLength (dlc : Nat) : Nat :=
  if dlc ≤ 8 then dlc else if dlc = 9 then 12 else if dlc = 10 then 16 else if dlc = 11 then 20 else if dlc = 12 then 24
  else if dlc = 13 then 32 else if dlc = 14 then 48 else 64

/-! ### Channels -/

def blankCanBuffer : CanBuffer := ⟨none, false, false, none⟩
def blankChannel : CanChannel := ⟨[], [], none, false, false, none, none, none, [], 0⟩
def blankCan : CanBlock := ⟨Vector.replicate 8 blankChannel, [], none⟩

def State.chan (s : State) (k : Fin 8) : CanChannel := s.can.channels[k]
def State.setChan (s : State) (k : Fin 8) (c : CanChannel) : State := { s with can := { s.can with channels := s.can.channels.set k c } }

/-- A rate from its prescaler and segments (R316), rounded down to whole bit/s. -/
def canRate (prescaler tseg1 tseg2 : Nat) : Nat := 80000000 / (prescaler * (1 + tseg1 + tseg2))

/-- The limits of R316 on timing values, given as the nominal and data (prescaler, Tseg1, Tseg2, Sjw). -/
def canTimingOk (np n1 n2 nj dp d1 d2 dj : Nat) : Bool :=
  let n := np * (1 + n1 + n2)
  let d := dp * (1 + d1 + d2)
  -- the rates compare as quotients of 80 MHz: nominal ≤ 1 Mbit/s, data ≤ 5 Mbit/s, data ≥ nominal
  decide (80 ≤ n) && decide (16 ≤ d) && decide (d ≤ n) && decide (nj ≤ n2) && decide (dj ≤ d2)

/-- NominalRate and DataRate follow the timing objects (Table 11-7). -/
def State.setCanRates (s : State) (k : Nat) : State :=
  (s.setNum (Obj.nominalRate k) (canRate (s.num (Obj.nominalPrescaler k)) (s.num (Obj.nominalTseg1 k)) (s.num (Obj.nominalTseg2 k)))).setNum
    (Obj.dataRate k) (canRate (s.num (Obj.dataPrescaler k)) (s.num (Obj.dataTseg1 k)) (s.num (Obj.dataTseg2 k)))

/-- CanState codes (Table 11-7). -/
def canOff : Nat := 0
def canMonitoring : Nat := 1
def canErrorActive : Nat := 2
def canErrorPassive : Nat := 3
def canBusOffState : Nat := 4
def canSleep : Nat := 5
def canMismatch : Nat := 6

/-- Error-active or error-passive by the counters (ISO 11898-1). -/
def State.canConfinement (s : State) (k : Nat) : Nat :=
  if 128 ≤ s.num (Obj.txErrorCount k) || 128 ≤ s.num (Obj.rxErrorCount k) then canErrorPassive else canErrorActive

/-- CanState of a channel in the module's present state (R321, R328, R332, R333, R441). -/
def State.canStateOf (s : State) (k : Fin 8) : Nat :=
  let c := s.chan k
  let wake := s.num (Obj.wakeMode k.val)
  if s.mode = .off || s.mode = .boot then canOff
  else if s.mode = .layup then (if (wake = 1 || wake = 2) && bit (s.num Obj.layupWake) 0 then canSleep else canOff)
  else if decide (u8At (s.obj Obj.domainSources) 4 ≠ 0) then canOff
  else if c.mismatch then canMismatch
  else if !s.flag (Obj.canEnable k.val) then (if c.detect.isSome then canMonitoring else canOff)
  else if c.busOff then canBusOffState
  else if s.mode = .standby then canMonitoring
  else s.canConfinement k.val

/-- Every channel's CanState follows the module's state. -/
def State.canRefresh (s : State) : State :=
  (List.finRange 8).foldl (fun s k => s.setNum (Obj.canState k.val) (s.canStateOf k)) s

def State.canReceives (s : State) (k : Nat) : Bool :=
  let st := s.num (Obj.canState k)
  decide (st = canMonitoring) || decide (st = canErrorActive) || decide (st = canErrorPassive)

/-- A channel transmits only in RUN, as the active module, in normal mode, and not once FENCE_IN is effective (R328). -/
def State.canTransmits (s : State) (k : Nat) : Bool :=
  let st := s.num (Obj.canState k)
  decide (s.mode = .run) && s.roleActive && !s.io.fenced && (decide (st = canErrorActive) || decide (st = canErrorPassive))

/-- Detection ends with a result. -/
def State.detectEnd (s : State) (k : Fin 8) (result : Nat) : State :=
  if (s.chan k).detect.isSome then
    ((s.setChan k { s.chan k with detect := none }).setNum (Obj.detectResult k.val) result).canRefresh
  else s

/-- When RUN or STANDBY begins: detection, which runs in SERVICE and READY, ends without a result (R332; DEDUCED, log entry 134), the comparison of
R321 is made, and the slots are empty (R324). -/
def State.canBegin (s : State) : State :=
  let s0 := (List.finRange 8).foldl (fun (s : State) k => s.detectEnd k 0) s
  let s1 := { s0 with can := { s0.can with slots := [] } }
  let s2 := (List.finRange 8).foldl (fun s (k : Fin 8) =>
    let (n, d, _) := ((canChannelRecords s.sections)[k.val]?).getD (0, 0, 0)
    let ok := decide (n = 0) || (s.flag (Obj.canEnable k.val) && decide (s.num (Obj.nominalRate k.val) = n) &&
      (decide (d = 0) || decide (s.num (Obj.dataRate k.val) = d)))
    let s' := s.setChan k { s.chan k with mismatch := !ok }
    if ok then s' else s'.logTally 0x0901 [k.val + 1]) s1
  s2.canRefresh

/-- RUN and STANDBY end: the mismatches end with them. -/
def State.canEnd (s : State) : State :=
  let cs := s.can.channels.map fun (c : CanChannel) => { c with mismatch := false }
  { s with can := { s.can with channels := cs } }.canRefresh

/-- Frames not started are discarded; a frame in progress completes (R328). -/
def canKeepStarted (c : CanChannel) : CanChannel :=
  let left := (c.tx.filter fun e => e.2.started).map fun e => (e.1, { e.2 with waiting := none })
  { c with tx := left, refSof := none }

def State.canStop (s : State) : State := { s with can := { s.can with channels := s.can.channels.map canKeepStarted } }

/-- Every frame is abandoned (R328, R276). -/
def State.canAbandon (s : State) : State :=
  let cs := s.can.channels.map fun (c : CanChannel) => { c with tx := [], refSof := none }
  { s with can := { s.can with channels := cs } }

/-! ### Receiving -/

/-- IDE and FDF equal, and the identifier agrees where the mask is set (R322). -/
def identMatches (ident mask got : Nat) : Bool :=
  decide (bit ident 29 = bit got 29) && decide (bit ident 30 = bit got 30) &&
    decide (Nat.land (Nat.xor ident got) (mask % 2 ^ 29) = 0)

/-- Received entries of channel `k` + 1, in ascending buffer number. -/
def State.channelRx (s : State) (k : Nat) : List CanEntry :=
  sortBy (fun a b => decide (a.buffer ≤ b.buffer)) ((rxEntries s.sections).filter fun e => decide (e.channel = k + 1))

/-- A frame for a buffer (R325): into it, or into the shadow while it is locked. -/
def State.canStore (s : State) (k : Fin 8) (b : Nat) (f : CanFrame) : State :=
  let c := s.chan k
  let x := Assoc.getD c.rx b blankCanBuffer
  if x.locked then
    let s1 := s.setChan k { c with rx := Assoc.set c.rx b { x with shadow := some f } }
    if x.shadow.isSome then s1.count (Obj.overruns k.val) else s1
  else s.setChan k { c with rx := Assoc.set c.rx b { x with frame := some f, isNew := true } }

/-- Data bytes as the DLC gives. -/
def canData (f : CanFrame) : Bytes := fit 64 (f.data.take (dlcLength f.dlc.val))

/-- Nominal and data rates that detection tries (R332). -/
def detectNominalRates : List Nat := [125000, 250000, 500000, 1000000]
def detectDataRates : List Nat := [2000000, 4000000, 5000000]

def nextNominal (d : CanDetect) : CanDetect := ⟨(d.nominal + 1) % 4, 0, 0, false⟩
def nextData (d : CanDetect) : CanDetect := if d.data = 2 then nextNominal d else { d with data := d.data + 1, good := 0, brs := false }

/-- A frame or an error while detection runs (R332). -/
def State.detectRx (s : State) (k : Fin 8) (d : CanDetect) (rx : CanRx) : State :=
  let c := s.chan k
  match rx with
  | .remote => s
  | .protocolException => s
  | .flagError => s
  | .error false _ => s.setChan k { c with detect := some (nextNominal d) }
  | .error true _ => s.setChan k { c with detect := some (nextData d) }
  | .frame f =>
    let brs := d.brs || bit f.ident.toNat 31
    if d.good + 1 < 8 then s.setChan k { c with detect := some { d with good := d.good + 1, brs := brs } }
    else
      (((s.setChan k { c with detect := none }).setNum (Obj.detectResult k.val) 2).setNum (Obj.detectedNominal k.val)
        ((detectNominalRates[d.nominal]?).getD 0)).setNum (Obj.detectedData k.val) (if brs then (detectDataRates[d.data]?).getD 0 else 0)
        |>.canRefresh

/-- A Dolxo FD reference message dates the SOF of the message before it by the master's time (R330); one that has been missed ends the run that
a trim window needs (R444). -/
def CanChannel.noteMaster (c : CanChannel) (f : CanFrame) : CanChannel :=
  if f.data.length ≠ 32 then c
  else
    let edge := time96Ns (f.data.take 12)
    let delay := u32At f.data 20
    let run := match c.refEdge with
      | some e => if delay = 0xFFFFFFFF || edge ≠ e + 40 * tickNs then [] else ((e + delay) :: c.masters).take 101
      | none => []
    { c with refEdge := some edge, masters := run }

/-- A validated frame of a channel that receives (R322, R323, R331). A frame that replaces one that no cut-off has taken is counted in every mode;
RUN and STANDBY begin with empty slots (R324). -/
def State.canAccept (s0 : State) (k : Fin 8) (f : CanFrame) : State :=
  let s := s0.count (Obj.rxFramesCan k.val)
  let es := s.channelRx k.val
  let named := es.filter fun e => identMatches e.ident e.mask f.ident.toNat
  match named.find? fun e => decide (e.dlc = f.dlc.val) with
  | some e =>
    let old := Assoc.get? s.can.slots e.number
    let s1 := match old with
      | some o => if o.fresh then s.count Obj.canSuperseded else s
      | none => s
    let s2 := { s1 with can := { s1.can with slots := Assoc.set s1.can.slots e.number ⟨f, true⟩ } }
    let s3 := s2.canStore k e.buffer f
    if e.reference then
      (s3.setChan k ((s3.chan k).noteMaster f)).setObj (Obj.refLast k.val) (time96 f.sofNs ++ [byte s.timeFlags, byte (0x11 + k.val), 0, 0])
    else s3
  | none =>
    if !named.isEmpty then s.count (Obj.dlcMismatch k.val)
    else
      let free := (List.range 64).find? fun b =>
        let flt := s.obj (Obj.canHostFilter k.val b)
        !(es.any fun e => decide (e.buffer = b)) && decide (flt ≠ zeros 8) && identMatches (u32At flt 0) (u32At flt 4) f.ident.toNat
      match free with
      | some b => s.canStore k b f
      | none => s.count (Obj.unmatched k.val)

/-- The receive error counter after a good reception: one less, or from above 127 to a value from 119 to 127, which ISO 11898-1 leaves open. -/
def State.recGood (s : State) (k : Nat) : State :=
  let n := s.num (Obj.rxErrorCount k)
  if 127 < n then
    let (v, s1) := s.drawFree
    s1.setNum (Obj.rxErrorCount k) (119 + v.toNat % 9)
  else s.setNum (Obj.rxErrorCount k) (n - 1)

/-- After an error: 1 more, and 8 more where the first bit behind the error flag is dominant (ISO 11898-1; PRESUMED, log entry 49). -/
def recBad (n : Nat) (dominant : Bool) : Nat := min 255 (n + 1 + (if dominant then 8 else 0))

/-- A frame on the bus ends without success: newer content takes its place, and it is not tried again outside RUN (R326; log entry 51). -/
def CanTxBuffer.retried (x : CanTxBuffer) (running : Bool) : CanTxBuffer :=
  ⟨if running then (match x.waiting with | some f => some f | none => x.frame) else none, false, none⟩

/-- A channel that takes part on the bus reaches bus-off (R329): what is on the bus ends, and the transmit buffers keep their content. -/
def State.enterBusOff (s : State) (k : Fin 8) : State :=
  let c := s.chan k
  let tx := c.tx.map fun e => (e.1, if e.2.started then e.2.retried (decide (s.mode = .run)) else e.2)
  (((s.setChan k { c with busOff := true, tx := tx }).setNum (Obj.canState k.val) canBusOffState).count (Obj.busOffEntries k.val)).logTally 0x0902
    [k.val + 1]

/-- A frame or an error on a channel. A channel that detects receives its frames like any other that receives (R322) and leaves the error counters alone
(log entry 49); a remote frame is ignored, and a recessive res bit lets the channel integrate to the bus again (R315). -/
def execCanFrameReceive (k : Fin 8) (rx : CanRx) (s : State) : Host.Outcome State Fault Refusal :=
  .next (match (s.chan k).detect, rx with
    | some d, .frame f => if s.canReceives k.val then (s.detectRx k d rx).canAccept k f else s.detectRx k d rx
    | some d, _ => s.detectRx k d rx
    | none, _ =>
      if !s.canReceives k.val then s
      else
        let rec_ := s.num (Obj.rxErrorCount k.val)
        match rx with
        | .frame f => ((s.recGood k.val).canAccept k f).canRefresh
        | .remote => (s.recGood k.val).canRefresh
        | .flagError => (s.setNum (Obj.rxErrorCount k.val) (min 255 (rec_ + 8))).canRefresh
        | .protocolException => s
        | .error _ dominant => ((s.setNum (Obj.rxErrorCount k.val) (recBad rec_ dominant)).count (Obj.errorFrames k.val)).canRefresh)

/-- The buffer record (Table 11-5). -/
def State.bufferRecord (s : State) (k : Fin 8) (b : Nat) : Bytes :=
  let x := Assoc.getD (s.chan k).rx b blankCanBuffer
  match x.frame with
  | none => zeros 80
  | some f => leBytes 4 f.ident.toNat ++ [byte (f.dlc.val + (if f.esi then 16 else 0)), byte (b2n x.isNew), 0, 0] ++
      leBytes 8 f.sofNs ++ (canData f)

/-- A buffer released: the shadow moves in with NEW set; `read` clears NEW of what was read (R325). -/
def CanBuffer.release (x : CanBuffer) (read : Bool) : CanBuffer :=
  match x.shadow with
  | some f => ⟨some f, true, false, none⟩
  | none => { x with locked := false, isNew := x.isNew && !read }

def State.mapBuffer (s : State) (k : Fin 8) (b : Nat) (f : CanBuffer → CanBuffer) : State :=
  let c := s.chan k
  s.setChan k { c with rx := Assoc.set c.rx b (f (Assoc.getD c.rx b blankCanBuffer)) }

/-- A host read of a buffer record, word by word (R325). -/
def execCanRxBufferRead (k : Fin 8) (b : Fin 64) (word : Fin 20) (s : State) : Host.Outcome State Fault Refusal :=
  .next (if word = 0 then s.mapBuffer k b.val fun x => { x with locked := true }
    else if word = 19 then s.mapBuffer k b.val fun x => if x.locked then x.release true else x
    else s)

/-- A lock of 100 µs is released by the CAN block (R325). -/
def execLockExpiry (k : Fin 8) (b : Fin 64) (s : State) : Host.Outcome State Fault Refusal :=
  .next (if (Assoc.getD (s.chan k).rx b.val blankCanBuffer).locked then
      (s.mapBuffer k b.val (·.release false)).count (Obj.lockExpired k.val)
    else s)

/-! ### The snapshot -/

/-- One slot of the snapshot (Table 11-4). -/
def canSlotBytes : Option CanSlot → Bytes
  | none => zeros 72
  | some x => leBytes 4 x.frame.ident.toNat ++ [byte (x.frame.dlc.val + (if x.frame.esi then 16 else 0)), byte (b2n x.fresh), 0, 0] ++ canData x.frame

/-- The snapshot of all received entries and channels (R324). -/
def State.canSnapshot (s : State) : Bytes :=
  ((rxEntries s.sections).flatMap fun e => canSlotBytes (Assoc.get? s.can.slots e.number)) ++
    (List.range 8).flatMap fun k =>
      [byte (s.num (Obj.canState k)), byte (s.num (Obj.txErrorCount k)), byte (s.num (Obj.rxErrorCount k))] ++ zeros 5

/-- Fresh entries whose class has a cut-off at `t`. -/
def State.canFresh (s : State) (t : Nat) : List Nat :=
  ((rxEntries s.sections).filter fun e => decide (t % lenOfCode e.cls = 0) &&
    (match Assoc.get? s.can.slots e.number with | some x => x.fresh | none => false)).map (·.number)

/-- The cut-off at `t` takes what it takes. -/
def State.canTake (s : State) (t : Nat) : State :=
  let taken := s.canFresh t
  { s with can := { s.can with slots := s.can.slots.map fun e => (e.1, if taken.contains e.1 then { e.2 with fresh := false } else e.2) } }

/-! ### Transmitting -/

/-- New content for a transmit buffer (R326). -/
def State.canLoad (s : State) (k : Fin 8) (b : Nat) (f : CanFrame) : State :=
  let c := s.chan k
  let x := Assoc.getD c.tx b ⟨none, false, none⟩
  if x.started then
    let s1 := s.setChan k { c with tx := Assoc.set c.tx b { x with waiting := some f } }
    if x.waiting.isSome then s1.count (Obj.txReplaced k.val) else s1
  else
    let s1 := s.setChan k { c with tx := Assoc.set c.tx b { x with frame := some f } }
    if x.frame.isSome then s1.count (Obj.txReplaced k.val) else s1

def chanOf (n : Nat) : Fin 8 := Fin.ofNat 8 (n - 1)

/-- Data of a reference message loaded at edge `c` (R330, Table 11-6). -/
def State.referenceData (s : State) (e : CanEntry) (c flags : Nat) : Bytes :=
  let n := dlcLength e.dlc
  if bit e.ident 30 then
    let x := s.chan (chanOf e.channel)
    let delay := match x.refLoad, x.refSof with
      | some l, some f => f - l
      | _, _ => 0xFFFFFFFF
    fit n (time96 (s.edgeNs c) ++ leBytes 8 (c / 40) ++ leBytes 4 (min delay 0xFFFFFFFF) ++ [byte flags] ++ zeros 7)
  else fit n [byte (c / 40 % 64)]

/-- The transmit loads of edge `t` (R326, R330): every entry of each cycle that commits there, with its staged content; `commits` says
whether a class commits at the edge. -/
def State.canCommit (s : State) (t flags : Nat) (commits : Nat → Bool) (content : Nat → Nat → Bytes) : State :=
  if s.io.fenced then s else
  ((txEntries s.sections).zipIdx).foldl (fun s (e, i) =>
    let k := chanOf e.channel
    if e.reference then
      -- after a takeover the first transmissions are the commits at h + 4 (Table 11-8)
      if t % 40 = 0 && s.pair.commitFrom ≤ t then
        let f : CanFrame := ⟨BitVec.ofNat 32 e.ident, Fin.ofNat 16 e.dlc, false, s.referenceData e t flags, 0⟩
        let s1 := s.canLoad k e.buffer f
        s1.setChan k { s1.chan k with refLoad := some (s.edgeNs t), refSof := none }
      else s
    else if commits e.cls then
      s.canLoad k e.buffer ⟨BitVec.ofNat 32 e.ident, Fin.ofNat 16 e.dlc, false, content i (dlcLength e.dlc), 0⟩
    else s) s

/-- Bytes of a frame as recorded when it leaves the module. -/
def canWire (f : CanFrame) : Bytes := leBytes 4 f.ident.toNat ++ [byte (f.dlc.val + (if f.esi then 16 else 0))] ++ f.data.take (dlcLength f.dlc.val)

/-- Place of a data frame in arbitration (R327, ISO 11898-1): the 11 base bits, then a base frame before an extended one, then the other 18
bits. -/
def arbitration (ident : Nat) : Nat := if bit ident 29 then field ident 28 18 * 2 ^ 19 + 2 ^ 18 + field ident 17 0 else field ident 10 0 * 2 ^ 19

/-- The buffer whose frame a channel offers the bus (R327): the one that wins arbitration, of equal ones the lower; none while a frame is on
the bus. -/
def CanChannel.offered (c : CanChannel) : Option Nat :=
  let held := c.tx.filterMap fun e => e.2.frame.map fun f => (arbitration f.ident.toNat, e.1)
  if c.tx.any fun e => e.2.started then none
  else (held.foldl (fun (m : Option (Nat × Nat)) e => match m with
    | some x => if e.1 < x.1 || (decide (e.1 = x.1) && decide (e.2 < x.2)) then some e else some x
    | none => some e) none).map (·.2)

/-- The transmit error counter takes 8 more, and the channel is bus-off beyond 255 (ISO 11898-1). -/
def State.txError (s : State) (k : Fin 8) : State :=
  let n := s.num (Obj.txErrorCount k.val)
  if 255 < n + 8 then (s.setNum (Obj.txErrorCount k.val) 255).enterBusOff k else (s.setNum (Obj.txErrorCount k.val) (n + 8)).canRefresh

/-- A failed attempt: an error frame, and a transmit error but for the two exceptions of ISO 11898-1, an error-passive channel that only misses an
acknowledgement, and a stuff error in arbitration. -/
def State.txFailed (s : State) (k : Fin 8) (why : TxFailure) : State :=
  let s1 := s.count (Obj.errorFrames k.val)
  if why = .arbitrationStuff || (decide (why = .noAck) && decide (s.num (Obj.canState k.val) = canErrorPassive)) then s1 else s1.txError k

/-- A channel takes part on the bus: error-active or error-passive. -/
def State.canTakesPart (s : State) (k : Nat) : Bool :=
  decide (s.num (Obj.canState k) = canErrorActive) || decide (s.num (Obj.canState k) = canErrorPassive)

/-- Whether a buffer holds a transmitted REFERENCE entry. -/
def State.isReferenceTx (s : State) (k b : Nat) : Bool :=
  (txEntries s.sections).any fun e => decide (e.channel = k + 1) && decide (e.buffer = b) && e.reference

/-- What becomes of a transmit frame (R326, R327); an attempt that comes to nothing leaves a reference message unsent (R330), and outside RUN it is
not made again (DEDUCED from R328, log entry 51). -/
def execCanFrameTransmitted (k : Fin 8) (b : Fin 32) (ev : CanTxEvent) (s : State) : Host.Outcome State Fault Refusal :=
  .next (
    let c := s.chan k
    let x := Assoc.getD c.tx b.val ⟨none, false, none⟩
    let retried : CanChannel := { c with
      tx := Assoc.set c.tx b.val (x.retried (decide (s.mode = .run)))
      refSof := if s.isReferenceTx k.val b.val then none else c.refSof }
    match x.frame, ev with
    | _, .flagError => if s.canTakesPart k.val then s.txError k else s
    | none, _ => s
    | some f, .started sof =>
      if c.offered ≠ some b.val || !s.canTransmits k.val then s
      else
        let f1 := { f with esi := bit f.ident.toNat 30 && decide (s.num (Obj.canState k.val) = canErrorPassive) }
        let c1 := { c with tx := Assoc.set c.tx b.val { x with started := true, frame := some f1 } }
        s.setChan k (if s.isReferenceTx k.val b.val then { c1 with refSof := some sof } else c1)
    | some f, .sent =>
      if !x.started then s
      else
        let s1 := s.setChan k { c with tx := Assoc.set c.tx b.val ⟨x.waiting, false, none⟩ }
        (((s1.setNum (Obj.txErrorCount k.val) (s.num (Obj.txErrorCount k.val) - 1)).count (Obj.txFramesCan k.val)).send .can (k.val + 1) 0
          (canWire f)).canRefresh
    | some _, .lost =>
      if !x.started then s
      else s.setChan k retried
    | some _, .failed why => if !x.started then s else (s.setChan k retried).txFailed k why)

/-! ### Bus-off -/

/-- A channel that takes part on the bus reaches bus-off (R329) by errors that no other row gives (log entry 48): its transmit error counter has
passed 255. -/
def execCanBusOff (k : Fin 8) (s : State) : Host.Outcome State Fault Refusal :=
  .next (if s.canTakesPart k.val then (s.setNum (Obj.txErrorCount k.val) 255).enterBusOff k else s)

/-- Recovery of a bus-off channel has been asked for: by AutoRecover, or by a write to Recover (R329). -/
def State.canRecovering (s : State) (k : Nat) : Bool := s.flag (Obj.autoRecover k) || decide (s.num (Obj.recover k) = 1)

/-- Recovery ends after 128 occurrences of 11 recessive bits (R329). -/
def execCanBusOn (k : Fin 8) (s : State) : Host.Outcome State Fault Refusal :=
  .next (if s.num (Obj.canState k.val) = canBusOffState && s.canRecovering k.val then
      (((((s.setChan k { s.chan k with busOff := false }).setNum (Obj.txErrorCount k.val) 0).setNum (Obj.rxErrorCount k.val) 0).setNum (Obj.recover k.val) 0).setNum
        (Obj.canState k.val) canErrorActive).canRefresh.logTally 0x0903 [k.val + 1]
    else s)

/-! ### Detection -/

/-- Detection starts with 125 kbit/s and 2 Mbit/s (R332). -/
def State.detectStart (s : State) (k : Fin 8) : State :=
  ((s.setChan k { s.chan k with detect := some ⟨0, 0, 0, false⟩ }).setNum (Obj.detectResult k.val) 1).canRefresh

/-- 1 s without a valid frame, or 60 s without a declaration (R332). -/
def execDetectTimeout (k : Fin 8) (overall : Bool) (s : State) : Host.Outcome State Fault Refusal :=
  .next (match (s.chan k).detect with
    | none => s
    | some d => if overall then s.detectEnd k 3 else s.setChan k { s.chan k with detect := some (nextNominal d) })

/-! ### Wake -/

/-- A frame is the channel's wake frame (R333). -/
def State.wakeFrame (s : State) (k : Nat) (f : CanFrame) : Bool :=
  let id := s.num (Obj.wakeIdent k)
  let mask := s.obj (Obj.wakeDataMask k)
  let data := s.obj (Obj.wakeData k)
  !bit f.ident.toNat 30 && decide (bit f.ident.toNat 29 = bit id 29) &&
    decide (Nat.land (Nat.xor f.ident.toNat id) (s.num (Obj.wakeMask k) % 2 ^ 29) = 0) && decide (f.dlc.val = s.num (Obj.wakeDlc k)) &&
    (List.range 8).all fun i =>
      let at_ := fun (b : Bytes) => ((b[i]?).getD 0)
      decide ((at_ f.data ^^^ at_ data) &&& at_ mask = 0)

/-- What a sleeping channel makes of an event (R333): the cause if it wakes the module, and its frame error counter. -/
def State.canWakeJudge (s : State) (k : Fin 8) (ev : CanWakeEvent) : Option Nat × Nat :=
  let n := (s.chan k).wakeErrors
  let mode := s.num (Obj.wakeMode k.val)
  if s.num (Obj.canState k.val) ≠ canSleep then (none, n)
  else
    match ev with
    | .dominant => (if mode = 1 then some 1 else none, n)
    | .frame f => (if mode = 2 && s.wakeFrame k.val f then some 2 else none, n - 1)
    | .decodeError => (if mode = 2 && 32 ≤ n + 1 then some 3 else none, n + 1)

end Sys2Proof.Machine
end

