-- ==== Sys2Proof/Machine/Schedule.lean ====
section
/-! DEFINITION. Counting cycles and slots (R190 to R193, R459 to R461): the retirement counts of a tick's programs, the release
of every WAIT and the planned completion of every DMA list, recomputed from the slot words, the Loom plan and the lists. Lanes
and engines advance together, earliest event first. -/

namespace Sys2Proof.Machine

/-! ### The cycle table (Table 6-4) -/

/-- Issue cycles of an opcode. -/
def issueOf (op : Nat) : Nat :=
  if op = 0x13 || op = 0x14 then 18 else if op = 0x1B || op = 0x1C then 34
  else if op = 0x43 then 12 else if op = 0x44 then 14 else if op = 0x53 then 22 else if op = 0x54 then 26
  else if op = 5 || op = 6 || op = 7 || op = 0x71 then 2 else 1

/-- Latency of an opcode: result latency, or completion of a store. -/
def latencyOf (canvas : Bool) (op : Nat) : Nat :=
  if op = 0x12 then 3 else if op = 0x1A then 4
  else if op = 0x13 || op = 0x14 then 18 else if op = 0x1B || op = 0x1C then 34
  else if (decide (0x36 ≤ op) && decide (op ≤ 0x3D)) || (decide (0x45 ≤ op) && decide (op ≤ 0x48)) || op = 0x61 ||
    (decide (0x55 ≤ op) && decide (op ≤ 0x58)) then 2
  else if (decide (0x40 ≤ op) && decide (op ≤ 0x42)) || (decide (0x4C ≤ op) && decide (op ≤ 0x4F)) || op = 0x5C || op = 0x5D then 3
  else if op = 0x50 || op = 0x51 then 4 else if op = 0x52 then 5
  else if op = 0x43 then 12 else if op = 0x44 then 14 else if op = 0x53 then 22 else if op = 0x54 then 26
  else if op = 0x60 then 6 else if op = 0x62 then 9 else if op = 0x63 then 8
  else if decide (0x68 ≤ op) && decide (op ≤ 0x6B) then (if canvas then 8 else 6)
  else if decide (0x6C ≤ op) && decide (op ≤ 0x6F) then (if canvas then 5 else 4)
  else if op = 0x70 then 2 else if op = 0x72 then (if canvas then 14 else 10) else 1

def isStore (op : Nat) : Bool := decide (0x6C ≤ op) && decide (op ≤ 0x6F)

/-- Source registers (R191). -/
def slotReads (w : SlotWord) : List Nat :=
  match slotFormat w.op with
  | some .rrr => [w.a, w.b, w.c].take (slotSources w.op) ++ (if w.op = 0x62 || w.op = 0x63 then [w.d] else [])
  | some .ri =>
    if w.op = 3 || w.op = 4 then []
    else if w.op = 0x0D || isStore w.op || w.op = 0x71 || w.op = 0x73 then [w.a, w.d] else [w.a]
  | some .k => if w.op = 9 then [w.d] else []
  | some .e => if w.op = 7 then [] else [w.a]
  | _ => []

/-- Destination register, 0 for none (R191). -/
def slotWrites (w : SlotWord) : Nat :=
  match slotFormat w.op with
  | some .rrr => if w.op = 0 || w.op = 1 then 0 else w.d
  | some .ri => if w.op = 4 || isStore w.op || w.op = 0x71 || w.op = 0x73 then 0 else w.d
  | some .k => w.d
  | some .wait => w.d
  | _ => 0

/-! ### The simulated lanes and engines -/

/-- A lane, or in CANVAS a pair, being counted: the words left of the running program and of the pair's second program. -/
structure SimLane where
  words : List Nat
  next : Option (List Nat)
  pc : Nat
  second : Bool
  cycle : Nat
  drain : Nat
  /-- Ready entries above `base`, which every other register has. -/
  base : Nat
  ready : Assoc Nat
  /-- Last known planned slot of each tag, and the DMA jobs issued under tags. -/
  tagSlots : Assoc Nat
  tagJobs : List (Nat × Nat)
  done : Bool
  /-- Retirement count, with the releases of the WAITs and the planned slots of the DMAIs met: (second program, pc, value). -/
  count : Nat
  releases : List (Bool × Nat × Nat)
  issues : List (Bool × Nat × Nat)
  deriving DecidableEq, Repr

/-- A list issued or scheduled: the kind of its slots, its descriptors left, the beats left of the first, the first slot it may use, and whether
it has moved a beat. -/
structure SimJob where
  id : Nat
  channel : Nat
  kind : Nat
  start : Nat
  descs : List Descriptor
  beats : Nat
  moved : Bool
  deriving DecidableEq, Repr

structure SimEngine where
  /-- Slots of the port not yet passed, by kind: ranges in ascending order. -/
  ranges : Vector (List (Nat × Nat)) 4
  /-- Jobs in the order in which they start. -/
  jobs : List SimJob
  /-- First slot at which each channel's next descriptor may start. -/
  chanFree : Assoc Nat
  deriving DecidableEq, Repr

structure Sim where
  lanes : List SimLane
  engines : List SimEngine
  shuttles : Assoc Nat
  passEnd : Nat
  jobSlots : Assoc Nat
  nextJob : Nat
  /-- Jobs for which no slot was left. -/
  stuck : List Nat
  deriving DecidableEq, Repr

/-- Issue slot of a lane cycle (R192). -/
def slotOfCycle (f n : Nat) : Nat := 24000 + ceilDiv (n * 800) f

/-- Release cycle of a planned completion slot (R192). -/
def releaseCycle (f slot : Nat) : Nat := if slot ≤ 24000 then 0 else ceilDiv ((slot - 24000) * f) 800

def SimLane.readyOf (x : SimLane) (r : Nat) : Nat := if r = 0 then 0 else max x.base (Assoc.getD x.ready r 0)
def SimLane.readyMax (x : SimLane) : Nat := x.ready.foldl (fun m e => max m e.2) x.base

/-- Whether every job under the tags is planned, and the last planned slot of the tags. -/
def Sim.tagSlot (m : Sim) (x : SimLane) (tags : Nat → Bool) : Option Nat :=
  let jobs := x.tagJobs.filter fun e => tags e.1
  if jobs.all fun e => (Assoc.get? m.jobSlots e.2).isSome then
    some (jobs.foldl (fun a e => max a (Assoc.getD m.jobSlots e.2 0))
      (x.tagSlots.foldl (fun a e => if tags e.1 then max a e.2 else a) 0))
  else none

def beatsOf (d : Descriptor) : Nat := ceilDiv d.length 32

/-- Space of a DMA address (R456). -/
def dmaSpace (a : Nat) : Nat := field a 31 28

/-- Response latency of a destination (Table 17-5), plus the landing of an LPDDR4X source (R460). -/
def descLatency (d : Descriptor) : Nat :=
  (if dmaSpace d.src = 2 then 160 else 0) + (if dmaSpace d.dst = 0 then 8 else if dmaSpace d.dst = 2 then 160 else 16)

/-- The start of the lane's next instruction, none while a WAIT or END waits for a DMA list not planned yet. -/
def Sim.startOf (m : Sim) (f : Nat) (x : SimLane) : Option Nat :=
  match x.words with
  | [] => none
  | w :: _ =>
    let i := slotFields w
    let s0 := (slotReads i).foldl (fun c r => max c (x.readyOf r)) x.cycle
    let s1 := if i.op = 0x70 || i.op = 1 then max s0 x.readyMax else s0
    let s2 := if i.op = 4 || i.op = 1 then max s1 x.drain else s1
    if i.op = 2 then (m.tagSlot x (fun g => bit i.mask g)).map fun t => max s2 (releaseCycle f t)
    else if i.op = 1 then (m.tagSlot x (fun _ => true)).map fun t => max s2 (releaseCycle f t)
    else some s2

/-- A job takes its place: behind every job of its engine that starts no later (R459). -/
def SimEngine.place (e : SimEngine) (j : SimJob) : SimEngine :=
  { e with jobs := (e.jobs.filter fun x => decide (x.start ≤ j.start)) ++ j :: e.jobs.filter fun x => decide (j.start < x.start) }

/-- One instruction of lane `k`, which starts at `start`. -/
def Sim.stepLane (m : Sim) (canvas : Bool) (f : Nat) (lists : List DmaList) (k start : Nat) (x : SimLane) : Sim :=
  match x.words with
  | [] => { m with lanes := m.lanes.set k { x with done := true } }
  | w :: ws =>
    let i := slotFields w
    let y := { x with
      words := ws
      pc := x.pc + 1
      cycle := start + issueOf i.op
      ready := if slotWrites i = 0 then x.ready else Assoc.set x.ready (slotWrites i) (start + latencyOf canvas i.op)
      drain := if isStore i.op then max x.drain (start + latencyOf canvas i.op) else x.drain }
    let slot := slotOfCycle f start
    if i.op = 1 then
      match x.next with
      | some p =>
        -- R193: eight pair cycles, every ready entry set, drain kept
        let c := y.cycle + 8
        { m with lanes := m.lanes.set k { y with words := p, next := none, second := true, pc := 0, cycle := c, base := c, ready := [], tagSlots := [], tagJobs := [] } }
      | none => { m with lanes := m.lanes.set k { y with done := true, count := y.cycle } }
    else if i.op = 2 then
      { m with lanes := m.lanes.set k { y with releases := y.releases ++ [(x.second, x.pc, start)] } }
    else if i.op = 5 then
      let u := if canvas then i.unit / 2 * 2 else i.unit
      let e := max slot (Assoc.getD m.shuttles u 0) + 64 * i.count
      { m with shuttles := Assoc.set m.shuttles u e, lanes := m.lanes.set k { y with tagSlots := Assoc.set y.tagSlots i.tag (max e (Assoc.getD y.tagSlots i.tag 0)) } }
    else if i.op = 6 then
      let e := max slot m.passEnd + 16 + 4 * i.count
      { m with passEnd := e, lanes := m.lanes.set k { y with tagSlots := Assoc.set y.tagSlots i.tag (max e (Assoc.getD y.tagSlots i.tag 0)) } }
    else if i.op = 7 then
      match lists[i.count]? with
      | none => { m with lanes := m.lanes.set k y }
      | some l =>
        let j : SimJob := { id := m.nextJob, channel := l.channel, kind := 1, start := slot, descs := l.descs, moved := false
                            beats := (l.descs.head?.map beatsOf).getD 0 }
        let e := (m.engines[l.engine]?).getD ⟨Vector.replicate 4 [], [], []⟩
        { m with
          nextJob := m.nextJob + 1
          engines := m.engines.set l.engine (e.place j)
          lanes := m.lanes.set k { y with tagJobs := y.tagJobs ++ [(i.tag, m.nextJob)], issues := y.issues ++ [(x.second, x.pc, m.nextJob)] } }
    else { m with lanes := m.lanes.set k y }

/-- The first job of each channel, in channel order, of an engine. -/
def SimEngine.heads (e : SimEngine) : List SimJob :=
  (List.range 7).filterMap fun c => e.jobs.find? fun j => decide (j.channel = c)

/-- First slot at which a channel's head job may move its next beat. -/
def SimEngine.earliest (e : SimEngine) (j : SimJob) : Nat := max j.start (Assoc.getD e.chanFree j.channel 0)

/-- First allocated slot at or after `t`, and the ranges from it on. -/
def slotFrom (t : Nat) : List (Nat × Nat) → Option Nat
  | [] => none
  | (a, n) :: r => if t < a + n then some (max a t) else slotFrom t r

/-- The next beat of an engine: its slot and its job. -/
def SimEngine.nextBeat (e : SimEngine) : Option (Nat × SimJob) :=
  let cands := e.heads.filterMap fun j => (slotFrom (e.earliest j) e.ranges[Fin.ofNat 4 j.kind]).map fun t => (t, j)
  cands.foldl (fun best c => match best with | none => some c | some b => if c.1 < b.1 then some c else some b) none

/-- Ranges with every slot up to and including `t` passed. -/
def passSlots (t : Nat) (rs : List (Nat × Nat)) : List (Nat × Nat) :=
  rs.filterMap fun (a, n) => if a + n ≤ t + 1 then none else if t + 1 ≤ a then some (a, n) else some (t + 1, a + n - (t + 1))

/-- One beat of job `j` of engine `k` in slot `t` (R455, R460, R461). -/
def Sim.stepBeat (m : Sim) (k t : Nat) (e : SimEngine) (j : SimJob) : Sim :=
  let rest := e.ranges.map (passSlots t)
  if 1 < j.beats then
    let j' := { j with beats := j.beats - 1, moved := true }
    { m with engines := m.engines.set k { e with ranges := rest, jobs := e.jobs.map fun x => if x.id = j.id then j' else x } }
  else
    match j.descs with
    | [] => { m with engines := m.engines.set k { e with jobs := e.jobs.filter fun x => decide (x.id ≠ j.id) } }
    | d :: ds =>
      let barrier := bit d.flags 0
      let rec_ := if barrier then t + descLatency d else t + 1
      let free := if barrier then rec_ + 1 else t + 1
      let chan := Assoc.set e.chanFree j.channel free
      if ds.isEmpty then
        { m with
          jobSlots := Assoc.set m.jobSlots j.id rec_
          engines := m.engines.set k { ranges := rest, chanFree := chan, jobs := e.jobs.filter fun x => decide (x.id ≠ j.id) } }
      else
        let j' := { j with descs := ds, beats := (ds.head?.map beatsOf).getD 0, moved := true }
        { m with engines := m.engines.set k { ranges := rest, chanFree := chan, jobs := e.jobs.map fun x => if x.id = j.id then j' else x } }

/-- Jobs for which no slot is left move nothing: planned at their issue slot (log entry 14). -/
def Sim.dropStuck (m : Sim) : Sim :=
  { m with
    jobSlots := (m.engines.flatMap (·.jobs)).foldl (fun a j => if (Assoc.get? a j.id).isSome then a else Assoc.set a j.id j.start) m.jobSlots
    stuck := m.stuck ++ ((m.engines.flatMap (·.jobs)).filter fun j => !j.moved).map (·.id)
    engines := m.engines.map fun e => { e with jobs := [] } }

/-- The earliest event: a lane's next instruction (first on a tie) or an engine's next beat. -/
def Sim.step (m : Sim) (canvas : Bool) (f : Nat) (lists : List DmaList) : Option Sim :=
  let laneEv := (List.range m.lanes.length).filterMap fun k =>
    match m.lanes[k]? with
    | some x => if x.done then none else (m.startOf f x).map fun st => (st, k, x)
    | none => none
  let best := laneEv.foldl (fun (b : Option (Nat × Nat × SimLane)) c => match b with | none => some c | some o => if c.1 < o.1 then some c else some o) none
  let beatEv := (List.range m.engines.length).filterMap fun k =>
    match m.engines[k]? with
    | some e => e.nextBeat.map fun b => (b.1, k, e, b.2)
    | none => none
  let beat := beatEv.foldl (fun (b : Option (Nat × Nat × SimEngine × SimJob)) c => match b with | none => some c | some o => if c.1 < o.1 then some c else some o) none
  match best, beat with
  | some (st, k, x), some (t, ke, e, j) =>
    if slotOfCycle f st ≤ t then some (m.stepLane canvas f lists k st x) else some (m.stepBeat ke t e j)
  | some (st, k, x), none => some (m.stepLane canvas f lists k st x)
  | none, some (t, ke, e, j) => some (m.stepBeat ke t e j)
  | none, none => if m.lanes.all (·.done) then none else if m.engines.all (·.jobs.isEmpty) then none else some m.dropStuck

def Sim.run (canvas : Bool) (f : Nat) (lists : List DmaList) : Nat → Sim → Sim
  | 0, m => m
  | n + 1, m => match m.step canvas f lists with | none => m | some m' => Sim.run canvas f lists n m'

def simLane (p : List Nat) (next : Option (List Nat)) : SimLane :=
  { words := p, next := next, pc := 0, second := false, cycle := 0, drain := 0, base := 0, ready := [], tagSlots := [], tagJobs := [],
    done := p.isEmpty, count := 0, releases := [], issues := [] }

/-- Execution-kind slots of an engine's port, in ascending order. -/
def portSlots (plan : List LoomEntry) (kind port : Nat) : List (Nat × Nat) :=
  let es := plan.filter fun e => decide (e.kind = kind) && (decide (e.fromPort = port) || decide (e.toPort = port))
  sortBy (fun a b => decide (a.1 ≤ b.1)) (es.map fun e => (e.first, e.count))

/-- The kind of Loom slot that a list's TRIGGER takes (R187, R459, Tables 5-8 and 17-3). -/
def triggerKind (t : Nat) : Nat := if t = 0 then 1 else if t = 1 then 0 else if t = 2 then 2 else 3

/-- The scheduled lists of a tick index that share a channel with a list that one of its programs issues: such a list runs after those that start
before it (R459). -/
def scheduledJobs (lists : List DmaList) (plan : List LoomEntry) (words : List Nat) (i engine : Nat) : List SimJob :=
  let issued := words.filterMap fun w => if (slotFields w).op = 7 then lists[(slotFields w).count]? else none
  (lists.filter fun l => decide (l.trigger ≠ 0) && decide (l.engine = engine) && l.run.covers i &&
      issued.any fun x => decide (x.engine = engine) && decide (x.channel = l.channel)).filterMap fun l =>
    (portSlots plan (triggerKind l.trigger) (10 + engine)).head?.map fun r =>
      { id := 2 ^ 20 + l.list, channel := l.channel, kind := triggerKind l.trigger, start := r.1, descs := l.descs, moved := false
        beats := (l.descs.head?.map beatsOf).getD 0 }

/-- The four lane programs of a tick index. -/
def tickPrograms (progs : Bytes) (i : Nat) : List (List Nat) :=
  match runAt (programRuns progs) i with
  | some (r, _) => (List.range 4).map fun l => programWords progs (runProgram r l)
  | none => [[], [], [], []]

/-- The lanes and engines of a tick, counted to their end. -/
def simTick (ss : List Section) (profile i : Nat) : Sim :=
  let progs := tickPrograms (sectBody ss 0x0A) i
  let plan := planAt (sectBody ss 8) i
  let lists := dmaLists (sectBody ss 7)
  let canvas := decide (profile = 3)
  let f := (clockAt (sectBody ss 9) profile i).1
  let p := fun k => (progs[k]?).getD []
  let lanes := if canvas then [simLane (p 0) (some (p 1)), simLane (p 2) (some (p 3))] else progs.map fun w => simLane w none
  let engine := fun e => (scheduledJobs lists plan progs.flatten i e).foldl SimEngine.place
    ⟨Vector.ofFn fun k : Fin 4 => portSlots plan k.val (10 + e), [], []⟩
  let m : Sim := { lanes := lanes, engines := (List.range 4).map engine, shuttles := [], passEnd := 0, jobSlots := [], nextJob := 0, stuck := [] }
  let words := progs.foldl (fun n w => n + w.length) 0
  let beats := progs.flatten.foldl (fun n w =>
    let x := slotFields w
    if x.op = 7 then (match lists[x.count]? with | some l => l.descs.foldl (fun a d => a + beatsOf d + 2) (n + 2) | none => n) else n) 0
  let others := (m.engines.flatMap (·.jobs)).foldl (fun n j => j.descs.foldl (fun a d => a + beatsOf d + 2) (n + 2)) 0
  Sim.run canvas f lists (words + beats + others + 16) m

/-- Retirement counts of lanes 0 to 3, or P_0 and P_1 in CANVAS (R191, R193). -/
def tickCounts (ss : List Section) (profile i : Nat) : List Nat := (simTick ss profile i).lanes.map (·.count)

/-- W of R196: the pair cycle at which a re-execution starts. -/
def reexecStart (counts : List Nat) : Nat := counts.foldl max 0 + 4160

/-- CAPTURE_END and STAGING_END of a plan (Table 5-9). -/
def captureEnd (plan : List LoomEntry) : Nat :=
  plan.foldl (fun m e => if e.kind = 0 then max m (e.first + e.count) else m) 0
def stagingEnd (plan : List LoomEntry) : Nat :=
  plan.foldl (fun m e => if e.kind = 2 || e.kind = 3 then max m (e.first + e.count - 168000) else m) 0

/-- Release cycle of the WAIT at `pc` of lane `l`'s program, as planned. -/
def plannedRelease (ss : List Section) (profile i l pc : Nat) : Option Nat :=
  let m := simTick ss profile i
  let key := if profile = 3 then (l / 2, decide (l % 2 = 1)) else (l, false)
  match m.lanes[key.1]? with
  | some x => (x.releases.find? fun r => decide (r.1 = key.2) && decide (r.2.1 = pc)).map (·.2.2)
  | none => none

/-- Planned completion slot of the list that the DMAI at `pc` of lane `l`'s program issues, and whether the plan leaves it no slot. -/
def plannedList (ss : List Section) (profile i l pc : Nat) : Option (Nat × Bool) :=
  let m := simTick ss profile i
  let key := if profile = 3 then (l / 2, decide (l % 2 = 1)) else (l, false)
  match m.lanes[key.1]? with
  | some x => (x.issues.find? fun r => decide (r.1 = key.2) && decide (r.2.1 = pc)).bind fun r =>
      (Assoc.get? m.jobSlots r.2.2).map fun e => (e, m.stuck.contains r.2.2)
  | none => none

end Sys2Proof.Machine
end

