-- ==== Sys2Proof/Machine/Sources.lean ====
section
/-! DEFINITION. Asserting a reset source (R409, R410), the Canary die fault (R133) and entering HOLD (Table 1-8): the shared
operations that report a fault. -/

namespace Sys2Proof.Machine

/-- Bit of a source in ResetCause (Table 15-2). -/
def sourceBit : ResetSource → Nat
  | .por => 0 | .pin => 1 | .watchdog => 2 | .canary => 3 | .request => 4 | .clkFail => 5 | .lockstep => 6 | .fence => 7
  | .debug => 8

/-- The level of each source by state (Table 15-3); `asked` is the level that a reset request or the debug port names, `canvas`
whether the profile in force is CANVAS. None: the source is inert. -/
def sourceLevel (src : ResetSource) (m : Mode) (asked : ResetLevel) (canvas : Bool) : Option ResetLevel :=
  match src, m with
  | _, .off => none
  | .por, _ => some .p
  | .pin, _ => some .s
  | .watchdog, .boot => some .s
  | .watchdog, .service => some .c
  | .watchdog, .layup => none
  | .watchdog, .hold => some .s
  | .watchdog, _ => some .w
  | .canary, .boot => some .s
  | .canary, .service => some .s
  | .canary, .layup => none
  | .canary, .hold => none
  | .canary, _ => some .w
  | .request, .boot => none
  | .request, .layup => none
  | .request, .service => some (if asked = .c then .c else .s)
  | .request, .hold => some .s
  | .request, _ => some .w
  | .clkFail, .ready => some .w
  | .clkFail, .run => some .w
  | .clkFail, .standby => some .w
  | .clkFail, _ => some .s
  | .lockstep, .ready => if canvas then some .w else none
  | .lockstep, .run => if canvas then some .w else none
  | .lockstep, .standby => if canvas then some .w else none
  | .lockstep, _ => none
  | .fence, .service => some .c
  | .fence, .ready => some .w
  | .fence, .run => some .w
  | .fence, .standby => some .w
  | .fence, _ => none
  | .debug, .boot => some asked
  | .debug, .service => some asked
  | .debug, .layup => some .s
  | .debug, .hold => some .s
  | .debug, _ => some (if asked = .c then .w else asked)

/-- The wider of two levels (R407). -/
def widerLevel (a b : ResetLevel) : ResetLevel := if levelCode a < levelCode b then b else a

/-- A source asserts at a level: its cause bit is set (R409), and it waits to take hold (R416). The first assertion of a coming
episode records the state, the real-time counter and the last edge (Table 15-7, R433). -/
def State.assertAt (s : State) (src : ResetSource) (level : ResetLevel) : State :=
  let others := s.rst.asserted.filter fun e => e.1 != src
  let level := match s.rst.asserted.find? fun e => e.1 == src with
    | some (_, old) => widerLevel old level
    | none => level
  { s with rst := { s.rst with
      cause := putBit s.rst.cause (sourceBit src) true
      asserted := others ++ [(src, level)]
      first := if s.rst.episode.isNone && s.rst.first.isNone
        then some (s.mode, s.rtcNs, if s.ticking then some s.tick else none) else s.rst.first } }

/-- A source asserts at the level that the state maps (R410), or is inert. -/
def State.assertSource (s : State) (src : ResetSource) (asked : ResetLevel) : State :=
  match sourceLevel src s.mode asked (decide (s.num Obj.activeProfile = 3)) with
  | none => s
  | some level => s.assertAt src level

/-- A pending reset request asserts its source (R55, R410). -/
def State.assertRequest (s : State) : State :=
  match s.rst.request with
  | some asked => { s with rst := { s.rst with request := none } }.assertSource .request asked
  | none => s

/-- TICK_FAULT check codes (Table 18-9). -/
inductive TickCheck where
  | edgeInterval | capture | laneRetirement | loomAllocation | staging | clockSupply | fullScan | protectedStore | storeEcc
  deriving DecidableEq, Repr

def tickCheckCode : TickCheck → Nat
  | .edgeInterval => 1 | .capture => 2 | .laneRetirement => 3 | .loomAllocation => 4 | .staging => 5 | .clockSupply => 6
  | .fullScan => 7 | .protectedStore => 8 | .storeEcc => 9

/-- Index of a tick in the hyperperiod (R106). -/
def tickIndex (t : Nat) : Nat := t % hyperTicks

/-- The commit frames of a discarded tick are nowhere, one that had left before the fault included: no frame carries the outputs, and the field
sides keep those last committed (R133; DEDUCED, log entry 128). -/
def State.withdrawCommits (s : State) : State :=
  let none_ := fun (x : FieldSide) => if x.named = some (s.tick % 65536) then x else { x with commit := none, named := none }
  let unsent := fun (l : LogicLink) => { l with sent := Assoc.erase l.sent 3 }
  { s with io := { s.io with sides := s.io.sides.map none_, links := s.io.links.map unsent } }

/-- A Canary die fault (R133): the tick's staging is discarded, a TICK_FAULT tally names the check, the unit and the values
(Table 18-8), and the Canary source asserts. -/
def State.dieFault (s : State) (check : TickCheck) (unit expected observed : Nat) : State :=
  let s1 := { s with eng := { s.eng with discard := true } }.withdrawCommits
  let s2 := s1.logTally 0x0301
    [tickCheckCode check + unit * 256 + tickIndex s.tick * 65536, low32 expected, low32 observed, low32 s.tick]
  s2.assertSource .canary .s

/-- HOLD causes (Table 1-8). -/
inductive HoldCause where
  | resetLoop | storeUncorrectable | canaryDieFault | fuseDigest | overtemp | selfTest
  deriving DecidableEq, Repr

def holdCauseCode : HoldCause → Nat
  | .resetLoop => 1 | .storeUncorrectable => 2 | .canaryDieFault => 3 | .fuseDigest => 4 | .overtemp => 5 | .selfTest => 6

/-- Entry to HOLD (Table 1-7): HoldCause set, tally written, heartbeat stopped with the state, OK contact open. -/
def State.enterHold (s : State) (code : Nat) : State :=
  let s1 := (s.setNum Obj.holdCause code).setDetail 5 false
  let s2 := s1.logTally 0x0106 [code]
  { s2 with mode := .hold, command := none, rst := { s2.rst with okContact := false } }

end Sys2Proof.Machine
end

