-- ==== Sys2Proof/Machine/Frames.lean ====
section
/-! DEFINITION. Addresses of a module and its station (R68 to R70, R255), and the heads of the frames it sends on the field network: Ethernet
addresses, tag (R67), EtherType, UDP checksum (R65) and redundancy control trailer (R287). -/

namespace Sys2Proof.Machine

/-! ### Addresses -/

/-- The bytes in force since the last start of an object with START effect. -/
def State.startedObj (s : State) (a : Nat) : Bytes := (Assoc.get? s.inForce a).getD (dfltObj a)

/-- The value of the ADDR contacts at the last boot (R68). -/
def State.addrValue (s : State) : Nat := s.num Obj.moduleNode - s.started Obj.nodeBase

/-- The module's IPv4 address, in address order; 0 for none (R70). -/
def State.ownIp (s : State) : Nat :=
  let set := beNat (s.startedObj Obj.iPv4Address)
  if set ≠ 0 then set else if s.addrValue = 0 || s.addrValue = 255 then 0 else beNat [172, 16, 1, byte s.addrValue]

def State.stationIp (s : State) : Nat := beNat (s.startedObj Obj.stationIPv4)

/-- The module uses the station's addresses: the active module of a pair (R255). -/
def State.holdsStation (s : State) : Bool := s.pairEnabled && decide (s.mode = .run) && s.roleActive && decide (s.stationIp ≠ 0)

/-- Station node number in force (R68). -/
def State.stationNodeOf (s : State) : Nat := if s.started Obj.stationNode = 0 then s.num Obj.moduleNode else s.started Obj.stationNode

/-- MAC addresses (R255, R271, R528). -/
def pairMac (first node : Nat) : Bytes := byte first :: [0x50, 0x53, 0x39] ++ beBytes 2 node
def State.moduleMacBytes (s : State) : Bytes := fit 6 (s.obj Obj.moduleMac)
def State.stationMacBytes (s : State) : Bytes := pairMac 0x02 (s.started Obj.stationNode)

/-- Addresses of the service port (R66). -/
def usbStationIp : Nat := 0xC0A8FD01
def usbHostIp : Nat := 0xC0A8FD02

/-- The address to resolve for a destination: itself on the subnet, else the gateway. -/
def State.nextHop (s : State) (ip : Nat) : Nat :=
  let mask := beNat (s.startedObj Obj.iPv4Mask)
  if Nat.land ip mask = Nat.land s.ownIp mask then ip else beNat (s.startedObj Obj.iPv4Gateway)

/-- An IPv4 multicast address. -/
def isMulticast (ip : Nat) : Bool := decide (ip / 2 ^ 28 = 14)

/-- Destination MAC address of an IPv4 address: that of its group (RFC 1112), or the resolved one; none where the cache holds
none (log entry 37). -/
def State.macOf (s : State) (ip : Nat) : Option Nat :=
  if isMulticast ip then some (0x01005E000000 + ip % 2 ^ 23) else Assoc.get? s.clp.arp (s.nextHop ip)

/-! ### Checksums (R65; PRESUMED RFC 1071 and RFC 768, log entry 37) -/

/-- The Internet checksum: the complement of the ones' complement sum of the 16-bit words. -/
def inetChecksum (b : Bytes) : Nat :=
  let n := ((List.range ((b.length + 1) / 2)).map fun i => 256 * u8At b (2 * i) + u8At b (2 * i + 1)).foldl (· + ·) 0
  65535 - (if n = 0 then 0 else (n - 1) % 65535 + 1)

/-- UDP checksum over the pseudo header, the header and the payload; never sent as 0. -/
def udpChecksum (src dst sport dport : Nat) (data : Bytes) : Nat :=
  let n := 8 + data.length
  let c := inetChecksum (beBytes 4 src ++ beBytes 4 dst ++ [0, 17] ++ beBytes 2 n ++ beBytes 2 sport ++ beBytes 2 dport ++ beBytes 2 n ++
    zeros 2 ++ data)
  if c = 0 then 65535 else c

/-! ### Heads -/

def etherIpv4 : Nat := 0x0800
def etherArp : Nat := 0x0806
def etherPtp : Nat := 0x88F7
def etherPresence : Nat := 0x88B5
def etherSupervision : Nat := 0x88FB

/-- PCP of a frame and the station's VLAN; untagged with VlanId 0 (R67). Traffic that R67 does not name carries PCP 4 (log entry 31). -/
def State.tagOf (s : State) (kind : SentKind) : Option (Nat × Nat) :=
  if s.started Obj.vlanId = 0 then none
  else some (match kind with | .ptp => 7 | .pd => 6 | _ => 4, s.started Obj.vlanId)

/-- The head of a frame from the module's or the station's MAC address. -/
def State.ethHead (s : State) (kind : SentKind) (station : Bool) (dst : Option Nat) (etherType : Nat) : NetHead :=
  { dst := dst, src := some (beNat (if station then s.stationMacBytes else s.moduleMacBytes)), tag := s.tagOf kind, etherType := etherType, ip := none
    udp := none }

/-- The head of an IPv4 packet, with a UDP header if it has ports. -/
def State.ipHead (s : State) (kind : SentKind) (station : Bool) (dstIp : Nat) (ports : Option (Nat × Nat)) (data : Bytes) : NetHead :=
  let src := if station then s.stationIp else s.ownIp
  { s.ethHead kind station (s.macOf dstIp) etherIpv4 with
    ip := some (src, dstIp), udp := ports.map fun (a, b) => (a, b, udpChecksum src dstIp a b data) }

/-! ### Reception -/

/-- The VLAN of a frame is the station's own, or the frame is untagged (R67). A tag with VLAN ID 0 names no VLAN of the station's: while VlanId is 0 such
a frame is discarded like one of another VLAN (DESIGN CHOICE, log entry 144). -/
def State.vlanTakes (s : State) (vlan : Option Nat) : Bool :=
  match vlan with
  | some v => decide (v ≠ 0) && decide (v = s.started Obj.vlanId)
  | none => true

/-- A valid frame has arrived on a port (R288). -/
def State.hear (s : State) (p : NetPort) : State := { s with prp := { s.prp with heardAt := s.prp.heardAt.set (portIx p) s.localNs } }

/-! ### The redundancy control trailer (R287) -/

def State.portRate (s : State) (k : Nat) : Nat := (s.prp.rates.toList[k]?).getD 0

/-- The trailer: sequence, LAN identifier and size, suffix. -/
def rctBytes (seq k size : Nat) : Bytes := beBytes 2 seq ++ beBytes 2 ((if k = 0 then 0xA else 0xB) * 4096 + size % 4096) ++ [0x88, 0xFB]

/-- Bytes of the IPv4 and UDP headers, which the trailer's size counts with the payload. -/
def NetHead.layers (h : NetHead) : Nat := (if h.ip.isSome then 20 else 0) + if h.udp.isSome then 8 else 0

/-- A frame leaves on a port that has a link, with its trailer, and is counted. -/
def State.sendOn (s : State) (k : Nat) (kind : SentKind) (peer seq : Nat) (head : NetHead) (data : Bytes) : State :=
  if s.portRate k = 0 then s
  else ({ s with out := s.out ++ [(⟨kind, k, peer, data ++ rctBytes seq k (head.layers + data.length + 6), some head⟩ : Sent)] } : State).count (Obj.txFrames k)

/-- The sequence number of the next frame from an address, and the state with it taken. -/
def State.takePrpSeq (s : State) (station : Bool) : Nat × State :=
  let p := s.prp
  if station then (p.stationSeq, { s with prp := { p with stationSeq := (p.stationSeq + 1) % 65536 } })
  else (p.moduleSeq, { s with prp := { p with moduleSeq := (p.moduleSeq + 1) % 65536 } })

end Sys2Proof.Machine
end

