-- ==== Sys2Proof/Machine/Trommel.lean ====
section
/-! DEFINITION. The trommel (chapter 07): the resolution of a candidate (R205 to R207), the alarm conditions and delays (R214 to
R216), the alarm state machine (R217, R218) and its tallies (R219). -/

namespace Sys2Proof.Machine

/-! ### Conditions -/

/-- K of R214 by class number: screens per second. -/
def screensPerSecond (cls : Nat) : Nat := 4000 / lenOfCode cls

/-- `a ≥ lim` when the condition was not raised, `a ≥ lim − db` when it was (R214). -/
def condHi (a lim db : Nat) (was : Bool) : Bool := fLe f64 (if was then fSub f64 lim db else lim) a
/-- `a ≤ lim` when the condition was not raised, `a ≤ lim + db` when it was (R214). -/
def condLo (a lim db : Nat) (was : Bool) : Bool := fLe f64 a (if was then fAdd f64 lim db else lim)

/-- The value and quality of a reference point (DEV_REF). -/
structure DevRef where
  value : Nat
  quality : Nat
  deriving DecidableEq, Repr

/-- What R214 reads besides the RAW bits: configuration record, limit set, values as F64. -/
structure ScreenInput where
  cfg : Bytes
  limits : Bytes
  cls : Nat
  x : Nat
  oldX : Nat
  quality : Nat
  oldQuality : Nat
  prevValid : Bool
  dev : Option DevRef
  deriving DecidableEq, Repr

def f32At64 (bs : Bytes) (off : Nat) : Nat := fConvert f32 f64 (u32At bs off)

/-- Qualities that are judged: GOOD, UNCERTAIN and FORCED. -/
def judged (q : Nat) : Bool := qualityMain q = 0 || qualityMain q = 1 || qualityMain q = 4

/-- The RAW bits after a screen (R214), in the order of Table 7-9. -/
def rawBits (i : ScreenInput) (raw : Nat) : Nat :=
  let armed := fun k => bit (u8At i.limits 20) k && decide (0 < u32At i.cfg 0 / 2 ^ 29)
  let db := f32At64 i.limits 16
  let lim := fun k => f32At64 i.limits (4 * k)
  let rdb := f32At64 i.cfg 24
  let rate := f32At64 i.cfg 16
  let dev := f32At64 i.cfg 20
  let rateOn := !fIsInf f64 rate
  let devOn := !fIsInf f64 dev && decide (u32At i.cfg 8 ≠ 0xFFFFFFFF)
  let r1 := if judged i.quality then
      let a := putBit raw 1 (armed 0 && condLo i.x (lim 0) db (bit raw 1))
      let a := putBit a 2 (armed 1 && condLo i.x (lim 1) db (bit raw 2))
      let a := putBit a 3 (armed 2 && condHi i.x (lim 2) db (bit raw 3))
      let a := putBit a 4 (armed 3 && condHi i.x (lim 3) db (bit raw 4))
      let a := if !rateOn then putBit a 5 false
        else if i.prevValid && judged i.oldQuality then
          putBit a 5 (condHi (fAbs f64 (fMul f64 (fSub f64 i.x i.oldX) (fOfInt f64 (screensPerSecond i.cls : Nat)))) rate rdb (bit raw 5))
        else a
      if !devOn then putBit a 6 false
      else match i.dev with
        | some d => if judged d.quality then putBit a 6 (condHi (fAbs f64 (fSub f64 i.x d.value)) dev rdb (bit raw 6)) else a
        | none => a
    else raw
  putBit r1 0 (bit (u32At i.cfg 0) 27 && (decide (qualityMain i.quality = 2) || decide (qualityMain i.quality = 3)))

/-- One condition through its delay (R215): active bit and count after the screen. -/
def delayStep (raw active : Bool) (count onDelay offDelay : Nat) : Bool × Nat :=
  if raw = active then (active, 0)
  else if count + 1 > (if raw then onDelay else offDelay) then (raw, 0) else (active, count + 1)

/-- Priority of a condition (PRIORITIES of Table 7-7): 0 EVENT, 1 ALARM, 2 WARNING, 3 CAUTION. -/
def condPriority (cfg : Bytes) (k : Nat) : Nat := field (u16At cfg 28) (2 * k + 1) (2 * k)
/-- Mask of the alarm conditions among the seven (R216). -/
def alarmMask (cfg : Bytes) : Nat := ofBits ((List.range 7).map fun k => decide (condPriority cfg k ≠ 0))

/-- Highest priority among the active alarm conditions (R216, PRIORITY of Table 7-9). -/
def topPriority (cfg : Bytes) (active : Nat) : Nat :=
  let ps := ((List.range 7).filter fun k => bit active k).map (condPriority cfg)
  if ps.contains 1 then 1 else if ps.contains 2 then 2 else if ps.contains 3 then 3 else 0

/-! ### The alarm state machine -/

/-- Alarm states (Table 7-9). -/
inductive AlarmState where
  | normal | unack | acked | rtnUnack | shelved
  deriving DecidableEq, Repr

def AlarmState.code : AlarmState → Nat
  | .normal => 0 | .unack => 1 | .acked => 2 | .rtnUnack => 3 | .shelved => 4
def alarmStateOf (n : Nat) : AlarmState :=
  if n = 1 then .unack else if n = 2 then .acked else if n = 3 then .rtnUnack else if n = 4 then .shelved else .normal

/-- Events of a screen, in the order of R217. -/
inductive AlarmEvent where
  | ack | shelve
  /-- UNSHELVE, and whether an alarm condition is active. -/
  | unshelve (active : Bool)
  | raise | clearAll
  deriving DecidableEq, Repr

/-- Table 7-11: the next state, and whether the row names ALARM_ACKED. -/
def alarmNext : AlarmState → AlarmEvent → AlarmState × Bool
  | .normal, .raise => (.unack, false)
  | .normal, .shelve => (.shelved, false)
  | .unack, .ack => (.acked, true)
  | .unack, .clearAll => (.rtnUnack, false)
  | .unack, .shelve => (.shelved, false)
  | .acked, .raise => (.unack, false)
  | .acked, .clearAll => (.normal, false)
  | .acked, .shelve => (.shelved, false)
  | .rtnUnack, .ack => (.normal, true)
  | .rtnUnack, .raise => (.unack, false)
  | .rtnUnack, .shelve => (.shelved, false)
  | .shelved, .unshelve true => (.unack, false)
  | .shelved, .unshelve false => (.normal, false)
  | st, _ => (st, false)

/-- The events taken in turn: the state after them and how often a row named ALARM_ACKED. -/
def alarmRun (st : AlarmState) (es : List AlarmEvent) : AlarmState × Nat :=
  es.foldl (fun (a : AlarmState × Nat) e => ((alarmNext a.1 e).1, a.2 + b2n (alarmNext a.1 e).2)) (st, 0)

/-! ### The screen -/

/-- R205: value and quality of a point from its record, its configuration record, the stale entry and the weft's flag. -/
def resolve (type : Nat) (pr cfg : Bytes) (stale : Nat × Nat) (holdoverFlag : Bool) : Nat × Nat :=
  if u8At pr 28 ≠ 0 then (u64At pr 16, 0x8000)
  else
    let v := u64At pr 8
    let q := u16At pr 26
    let q := if candidateCodes.contains q then q else 0x4000
    let q := if isNanOf type v && (decide (qualityMain q = 0) || decide (qualityMain q = 1)) then 0x4000 else q
    let flags := u32At cfg 0
    let q := if u16At cfg 4 ≠ 0xFFFF && decide (stale.2 ≤ stale.1) then 0x6000 + stale.1 else q
    if qualityMain q = 2 || qualityMain q = 3 then
      -- R206
      (if field flags 26 25 = 1 then u64At pr 0 else if field flags 26 25 = 2 then u64At pr 16 else v, q)
    else (v, if q = 0 && bit flags 24 && holdoverFlag then 0x2300 else q)

/-- Last sequence-of-events time stamp of a DI channel in the weft at `w`, after the stale table of `n` entries (R207, R224). -/
def State.soeStamp (s : State) (w n channel : Nat) : Option Nat :=
  let base := w + 32 + roundUp 8 (2 * n)
  let es := (List.range (s.storeNat (w + 14) 2)).filter fun k => decide (s.storeNat (base + 8 * k) 1 = channel)
  match es.getLast? with
  | some k => some (((s.edgeNs (s.storeNat w 8) : Int) + 1000 * toSigned 32 (s.storeNat (base + 8 * k + 4) 4)).toNat)
  | none => none

/-- A deferred record whose SOURCE_NODE is the station node (R219, R239). -/
def State.issueStationTally (s : State) (code : Nat) (params : List Nat) : State :=
  { s with tally := { s.tally with issued := s.tally.issued ++
      [{ code := code, flags := s.tickFlags + 8, source := s.stationNodeOf, timeNs := 0, params := params }] } }

/-- A group's ActiveCount and UnackCount follow a point's state (R223). -/
def State.groupCounts (s : State) (g : Nat) (old new : AlarmState) : State :=
  let act := fun st => decide (st = AlarmState.unack) || decide (st = AlarmState.acked)
  let una := fun st => decide (st = AlarmState.unack) || decide (st = AlarmState.rtnUnack)
  let a := groupAt s.sections g
  let move := fun (s : State) (off : Nat) (p : AlarmState → Bool) =>
    if p old = p new then s
    else s.storeWrite (a + off) (leBytes 4 (if p new then s.storeNat (a + off) 4 + 1 else s.storeNat (a + off) 4 - 1))
  move (move s 24 act) 28 una

/-- Screen of a defined point in the current cycle of its class (R205, R214 to R219). -/
def State.screen (s : State) (p : PointDef) : State :=
  let ss := s.sections
  let pr := s.storeRead (pointAt p) 32
  let cfg := s.storeRead (pointCfgAt p) 32
  let al := s.storeRead (alarmAt ss p) 16
  let c := s.weftTick p.cls
  let m := c / lenOfCode p.cls % 32768
  let sc := u16At pr 30
  if sc = m + 32768 then s.count Obj.screenRepeats
  else
    let prev := (m + 32767) % 32768
    let s := if sc ≥ 32768 && decide (sc ≠ prev + 32768) then s.count Obj.screenSkips else s
    let ref := u16At cfg 4
    let (v8, q) := resolve p.type pr cfg (s.staleCount p.cls ref, s.staleTolerance p.cls ref) (bit (s.weftFlags p.cls) 0)
    let v := v8 % 2 ^ (8 * pointBytes p.type)
    let oldV := u64At pr 0
    let oldQ := u16At pr 24
    let stamp := if bit (u32At cfg 0) 28
      then (s.soeStamp (s.weftOf p.cls) (staleEntries ss) (p.ref % 256)).getD (s.edgeNs c) else s.edgeNs c
    let s := if v ≠ oldV || q ≠ oldQ then s.storeWrite (pointTimeAt ss p) (leBytes 8 stamp) else s
    let s := s.storeWrite (pointAt p) (leBytes 8 v ++ slice pr 8 16 ++ leBytes 2 q ++ slice pr 26 4 ++ leBytes 2 (m + 32768))
    -- alarm conditions
    let dev := match s.point? (u32At cfg 8) with
      | some r => some ⟨toF64 r.type (s.storeNat (pointAt r) 8), s.storeNat (pointAt r + 24) 2⟩
      | none => none
    let limits := ((limitSets (sectBody ss 6))[u32At cfg 12 + u8At pr 29]?).getD (zeros 24)
    let raw := rawBits { cfg := cfg, limits := limits, cls := p.cls, x := toF64 p.type v, oldX := toF64 p.type oldV, quality := q,
                         oldQuality := oldQ, prevValid := decide (sc = prev + 32768), dev := dev } (u8At al 2)
    let word := u16At al 0
    let was := word % 128
    let ds := (List.range 7).map fun k => delayStep (bit raw k) (bit was k) (u8At al (6 + k)) (u8At cfg 30) (u8At cfg 31)
    let now := ofBits (ds.map (·.1))
    -- events
    let g := u16At cfg 6
    let inGroup := decide (g ≠ 0xFFFF)
    let ga := groupAt ss g
    let total := s.storeNat (ga + 4 + 2 * p.cls) 2
    let shelvedSnap := inGroup && bit (s.storeNat (ga + 1) 1) p.cls
    let st := alarmStateOf (field word 10 8)
    let mask := alarmMask cfg
    let isOn := fun a => decide (Nat.land a mask ≠ 0)
    let raised := (List.range 7).any fun k => bit mask k && bit now k && !bit was k
    let cleared := (List.range 7).any fun k => bit mask k && !bit now k && bit was k
    let eventChanged := (List.range 7).any fun k => !bit mask k && (bit now k != bit was k)
    let ack := bit (u8At al 3) 0 || (inGroup && decide (total ≠ u16At al 4))
    let es := (if ack then [AlarmEvent.ack] else []) ++
      (if inGroup && shelvedSnap && decide (st ≠ .shelved) then [AlarmEvent.shelve] else []) ++
      (if inGroup && !shelvedSnap && decide (st = .shelved) then [AlarmEvent.unshelve (isOn now)] else []) ++
      (if raised then [AlarmEvent.raise] else []) ++ (if isOn was && !isOn now then [AlarmEvent.clearAll] else [])
    let (st', acks) := alarmRun st es
    let unshelved := decide (st = .shelved) && !shelvedSnap && isOn now
    let word' := now + st'.code * 256 + topPriority cfg now * 2048 + (if q = 0x8000 then 8192 else 0)
    let s := s.storeWrite (alarmAt ss p) (leBytes 2 word' ++ [byte raw, 0] ++ leBytes 2 (if inGroup then total else u16At al 4) ++
      ds.map (fun d => byte d.2) ++ zeros 3)
    let s := if inGroup then s.groupCounts g st st' else s
    -- R219
    if st' = .shelved then s
    else
      let ps := [p.point + Nat.xor now was * 2 ^ 18, toF32 p.type v, word' * 65536 + q, low32 c]
      let s := (List.range acks).foldl (fun s _ => s.issueStationTally 0x0402 ps) s
      if raised || unshelved then s.issueStationTally 0x0401 ps
      else if cleared then s.issueStationTally 0x0403 ps
      else if eventChanged then s.issueStationTally 0x0404 ps else s

/-- One unit of an activation done: the activation with it, and whether it was the last. -/
def Activation.advance (a : Activation) : Activation × Bool := ({ a with done := a.done + 1 }, decide (a.count ≤ a.done + 1))

/-- A unit of an operation under a lane's tag has completed: TAG_GOOD counts it, and the last one completes the operation. -/
def State.tagUnit (s : State) (lane tag : Nat) (good : Nat) (last : Bool) : State :=
  { s with eng := { s.eng with lanes := (s.eng.lanes.zipIdx).map fun (x, i) =>
      if i = lane then { x with tags := (x.tags.zipIdx).map fun (t, j) =>
        if j = tag then
          let open' := if last then t.open_ - 1 else t.open_
          { t with open_ := open', live := { t.live with good := t.live.good + good,
                                                         state := if open' = 0 && t.live.state ≠ 2 then 1 else t.live.state } }
        else t }
      else x } }

/-- The next point of the first trommel pass (R186): screened where the point map defines it, left untouched where not. -/
def State.screenNext (s : State) : State :=
  match s.eng.passes with
    | [] => s
    | a :: rest =>
      let (b, last) := a.advance
      let s1 := match s.point? (a.first + a.done) with | some p => s.screen p | none => s
      ({ s1 with eng := { s1.eng with passes := if last then rest else b :: rest } }).tagUnit a.lane a.tag 1 last

def execPointScreen (s : State) : Host.Outcome State Fault Refusal := .next s.screenNext

/-- The active bits of a point's alarm record. -/
def State.activeBits (s : State) (p : PointDef) : Nat := s.storeNat (alarmAt s.sections p) 1 % 128

/-- A condition's delay runs out (R215): the screen of point `n`, the next of the first pass, in which the active bit of condition `k`
takes its RAW bit, with everything else that the screen does (R214 to R219). -/
def execAlarmDelayExpiry (n : BitVec 18) (k : Fin 7) (s : State) : Host.Outcome State Fault Refusal :=
  .next (match s.eng.passes, s.point? n.toNat with
    | a :: _, some p =>
      let t := s.screenNext
      if a.first + a.done = n.toNat && (bit (s.activeBits p) k.val != bit (t.activeBits p) k.val) then t else s
    | _, _ => s)

end Sys2Proof.Machine
end

