-- ==== Sys2Proof/Machine/Dma.lean ====
section
/-! DEFINITION. The DMA engines (chapter 17): address spaces (R456), the beats of a descriptor (R459, R460), completion records and
queues (R461, R462), slots and channels (R455), errors and halts (R463, R464), tag records (R465), device requests (R466) and the LPDDR4X
scrubber (R468). -/

namespace Sys2Proof.Machine

/-- DMA error codes (Table 17-7). -/
def eAddress : Nat := 1
def eGated : Nat := 2
def eEcc : Nat := 3
def eProtected : Nat := 4
def eResponse : Nat := 5
def eHalted : Nat := 6

def State.lists (s : State) : List DmaList := dmaLists (sectBody s.sections 7)

/-- Offsets of space 0x1 that Table 17-2 names, and the domain of Table 16-3 that clocks the target, by its row from 0; a window
reaches to the next one. -/
def State.windowDomain (s : State) (off : Nat) : Option Nat :=
  if off < 0x1000000 then if off < 0x4000 * (rxLayouts s.sections).length then some 2 else none
  else if off < 0x2000000 then if off - 0x1000000 < 0x4000 * (txLayouts s.sections).length then some 2 else none
  else if off < 0x2010000 then some 4
  else if off < 0x2100000 then if off - 0x2010000 < 0x100 * (txEntries s.sections).length then some 4 else none
  else if off < 0x2101000 then some 3
  else if off < 0x2102000 then some 5
  else if off < 0x2103000 then some 3
  else if off < 0x2110000 then none
  else if off < 0x2111000 then some 3
  else if off < 0x2112000 then some 5
  else if off < 0x2200000 then none
  else if off < 0x2200010 then some 0
  else if off < 0x2300000 then none
  else if off < 0x2400000 then some 0
  else if off < 0x2600000 then some 3
  else none

/-- Error of an access to a DMA address: ADDRESS outside Table 17-2, GATED where the target's domain has no clock. -/
def State.dmaAccess (s : State) (a : Nat) : Option Nat :=
  let off := a % 2 ^ 28
  if dmaSpace a = 0 then (if off < 0x2000000 then none else some eAddress)
  else if dmaSpace a = 1 then
    (match s.windowDomain off with
      | none => some eAddress
      | some d => if s.noClock d then some eGated else none)
  else if dmaSpace a = 2 then none else some eAddress

def State.dmaRead (s : State) (a n : Nat) : Bytes :=
  let off := a % 2 ^ 28
  if dmaSpace a = 0 then s.storeRead off n else if dmaSpace a = 1 then Mem.read s.window off n else Mem.read s.dram off n

/-- Two lists write one place of an output image. -/
def sharesImage (l m : DmaList) : Bool :=
  l.descs.any fun d => m.descs.any fun e => decide (0x12110000 ≤ d.dst) && decide (d.dst < 0x12112000) && decide (d.dst < e.dst + e.length) &&
    decide (e.dst < d.dst + d.length)

/-- The slowest class whose commit ticks (R125), or cut-offs, hold every tick in which one of these lists runs, by its length. -/
def runLen (ls : List DmaList) : Nat :=
  ([4000, 400, 40, 4].find? fun n => ls.all fun m => decide (m.first % n = 0) && (decide (m.count = 1) || decide (m.stride % n = 0))).getD 1

/-- Length of the class to which the outputs of a staging list belong: the slowest whose commit ticks (R125) hold every tick in which a list stages
one of them. The image names no class of a local output channel (R108) otherwise (DEDUCED, log entry 44). -/
def stagingLen (ls : List DmaList) (l : DmaList) : Nat :=
  runLen (l :: ls.filter fun m => decide (m.trigger = 2) && sharesImage l m)

/-- A staging list of a slower class that runs before the first commit edge of its class since RUN began: the outputs keep their
state (R128). -/
def State.stagingHeld (s : State) (list : Nat) : Bool :=
  match s.startTick, s.lists[list]? with
  | some b, some l =>
    let n := stagingLen s.lists l
    decide (l.trigger = 2) && decide (1 < n) && decide (s.tick < b + n)
  | _, _ => false

/-- A write beat; one of a lane list into the Store saves its lines first (R195), one of a held staging list leaves the output images
alone. -/
def State.dmaWrite (s : State) (lane held : Bool) (a : Nat) (bs : Bytes) : State :=
  let off := a % 2 ^ 28
  if dmaSpace a = 0 then
    (if lane then s.storeWrite off bs else s.storePut off bs).noteScratch off bs.length
  else if held && decide (dmaSpace a = 1) && decide (0x2110000 ≤ off) && decide (off < 0x2112000) then s
  else if dmaSpace a = 1 then { s with window := Mem.write s.window off bs } else { s with dram := Mem.write s.dram off bs }

/-- A write beat that R459 forbids: into the weft area from a list that is no capture list, and into the platform, configuration
and undo areas from any. -/
def beatProtected (trigger a : Nat) : Bool :=
  let off := a % 2 ^ 28
  decide (dmaSpace a = 0) && ((inWeft off && decide (trigger ≠ 1)) || inPlatform off || inConfig off || inUndo off)

/-- Error of a beat, and its failing address; `ecc` where its LPDDR4X read is uncorrectable. -/
def State.beatError (s : State) (trigger src dst : Nat) (ecc : Bool) : Option (Nat × Nat) :=
  match s.dmaAccess src with
  | some e => some (e, src)
  | none =>
    if ecc && decide (dmaSpace src = 2) then some (eEcc, src)
    else match s.dmaAccess dst with
      | some e => some (e, dst)
      | none => if beatProtected trigger dst then some (eProtected, dst) else none

/-- A DMA_RELOCATE of a lane list, added to its space-0x0 addresses (R187, R458). -/
def relocated (rel a : Nat) : Nat := if dmaSpace a = 0 then ((a + rel) % 2 ^ 32) else a

/-- A beat from a device window into the weft area of a module in STANDBY: its wefts are the mirrored ones, never of its own receptions
(R120), so the beat writes nothing. -/
def State.standbyWeft (s : State) (src dst : Nat) : Bool :=
  decide (s.mode = .standby) && decide (dmaSpace src = 1) && decide (dmaSpace dst = 0) && inWeft (dst % 2 ^ 28)

/-- An ERR or LATE_ERR record: its tally (R465), and the halt of its channel (R464). -/
def State.dmaErrorTally (s : State) (engine channel seq err fail : Nat) : State :=
  s.issueTally 0x0303 [seq, err + engine * 256 + channel * 1024, fail, low32 s.tick]

def State.haltChannel (s : State) (engine channel : Nat) : State :=
  let s1 := s.count Obj.dmaHalts
  { s1 with eng := { s1.eng with halted := (engine * 8 + channel) :: s1.eng.halted } }

def State.isHalted (s : State) (engine channel : Nat) : Bool := s.eng.halted.contains (engine * 8 + channel)

def DescResult.bytes (r : DescResult) : Bytes :=
  [byte r.type, byte r.error] ++ leBytes 2 r.flags ++ leBytes 4 r.seq ++ leBytes 4 r.good ++ leBytes 4 r.fail

/-- A record appended to its channel's queue (R462); a DONE without BARRIER leaves its line open for a LATE_ERR. -/
def State.appendRecord (s : State) (job : DmaJob) (r : DescResult) : State :=
  let (off, lines) := queueOf (sectBody s.sections 7) job.engine job.channel
  if off = 0xFFFFFFFF || lines = 0 then s
  else
    let q := stateBase + off
    let n := s.storeNat q 4
    let line := q + 32 + 32 * (n % lines)
    let put := fun (s : State) a bs => if job.lane.isSome then s.storeWrite a bs else s.storePut a bs
    let s1 := put (put s line (r.bytes ++ zeros 16)) q
      (leBytes 4 (n + 1) ++ leBytes 2 lines ++ [byte job.engine, byte job.channel] ++ zeros 24)
    if r.type = 1 && !bit r.flags 0 then
      { s1 with eng := { s1.eng with lines := (job.id, r.seq % 65536, line) :: s1.eng.lines } }
    else s1

/-- The tag `tag` of lane `lane` changed by `f`. -/
def State.mapTag (s : State) (lane tag : Nat) (f : LaneTag → LaneTag) : State :=
  { s with eng := { s.eng with lanes := s.eng.lanes.mapFinIdx fun i x _ =>
      if i = lane then { x with tags := x.tags.mapFinIdx fun j t _ => if j = tag then f t else t } else x } }

/-- An operation under a tag completes (R465): error and failing address stay the first ones, GOOD_BYTES add up. -/
def LaneTag.complete (t : LaneTag) (err good fail : Nat) : LaneTag :=
  let e := if t.live.error = 0 then err else t.live.error
  { t with
    open_ := t.open_ - 1
    live := ⟨if e ≠ 0 then 2 else if t.open_ ≤ 1 then 1 else t.live.state, e, t.live.good + good,
      if t.live.address = 0 then fail else t.live.address⟩ }

/-- An error of a list's record stands in its tag's record as it is written, the first one first (R465). -/
def LaneTag.noteError (t : LaneTag) (err fail : Nat) : LaneTag :=
  { t with live := ⟨2, if t.live.error = 0 then err else t.live.error, t.live.good, if t.live.address = 0 then fail else t.live.address⟩ }

/-- The tag of a lane list changed by `f`. -/
def State.mapJobTag (s : State) (j : DmaJob) (f : LaneTag → LaneTag) : State :=
  match j.lane with
  | some (l, t) => s.mapTag l t f
  | none => s

/-- A LATE_ERR replaces the GOOD_BYTES of its DONE record in the live tag record (R465). -/
def TagRecord.late (t : TagRecord) (err lost fail : Nat) : TagRecord :=
  ⟨2, if t.error = 0 then err else t.error, t.good - lost, if t.address = 0 then fail else t.address⟩

/-- A list on a halted channel is discarded (R464): its tag completes with HALTED. -/
def State.discardList (s : State) (job : DmaJob) : State :=
  (s.count Obj.dmaListsDiscarded).mapJobTag job fun x => x.complete eHalted 0 0

/-- Whether a scheduled list starts in the tick (R459): its run covers it and it has not started in it. -/
def State.scheduledNow (s : State) (l : DmaList) : Bool :=
  decide (l.trigger ≠ 0) && (l.run.covers (s.tick % hyperTicks)) &&
    !(s.eng.jobs.any fun j => decide (j.list = l.list) && j.lane.isNone)

/-! ### Slots (R455, R459, R460) -/

/-- The slots of a kind that the tick's plan allocates to an engine's port; those of a re-execution are shifted by W (R196). -/
def State.engineSlots (s : State) (engine kind : Nat) : List (Nat × Nat) :=
  let rs := portSlots (planAt (sectBody s.sections 8) (tickIndex s.tick)) kind (10 + engine)
  if s.eng.reexecuting && decide (kind = 1) then
    let w := reexecStart (tickCounts s.sections 3 (tickIndex s.tick))
    rs.map fun r => (r.1 + w, r.2)
  else rs

/-- The list is over: nothing is left of it, or a halt has ended it. -/
def DmaJob.over (j : DmaJob) : Bool := j.complete || j.halted || j.left.isEmpty

/-- The slot of a list's next beat, as far as its own channel goes; none where the tick has no such slot left. -/
def State.jobSlot (s : State) (j : DmaJob) : Option Nat :=
  let from_ := max (max j.start (Assoc.getD s.eng.chanFree (j.engine * 8 + j.channel) 0)) s.eng.passed[Fin.ofNat 4 j.engine]
  slotFrom from_ (s.engineSlots j.engine (triggerKind j.trigger))

/-- The list whose turn it is on a channel: the first one started or issued that is not over. -/
def State.channelHead (s : State) (engine channel : Nat) : Option DmaJob :=
  s.eng.jobs.find? fun j => decide (j.engine = engine) && decide (j.channel = channel) && !j.over

/-- An engine's next beat: the earliest slot, and in it the lowest-numbered channel with a beat ready (R455). -/
def State.nextBeat (s : State) (engine : Nat) : Option (Nat × DmaJob) :=
  let heads := (List.range 7).filterMap fun c => (s.channelHead engine c).bind fun j =>
    if j.started then (s.jobSlot j).map fun t => (t, j) else none
  heads.foldl (fun best c => match best with | none => some c | some b => if c.1 < b.1 then some c else some b) none

def State.setJob (s : State) (j : DmaJob) : State :=
  { s with eng := { s.eng with jobs := s.eng.jobs.map fun x => if x.id = j.id then j else x } }

def State.job? (s : State) (id : Nat) : Option DmaJob := s.eng.jobs.find? fun j => decide (j.id = id)

/-- Slots before `t` have passed on an engine's port; those that the plan leaves free serve the burst open on the host channel (R455, R466). -/
def State.passTo (s : State) (engine t : Nat) : State :=
  let e := Fin.ofNat 4 engine
  let old := s.eng.passed[e]
  if t ≤ old then s
  else
    let taken := ((List.range 4).flatMap (s.engineSlots engine)).foldl (fun n r => n + (min t (r.1 + r.2) - max old r.1)) 0
    let burst := s.eng.hostBurst[e].bind fun b =>
      let n := b.moved + (t - old - taken)
      if b.beats ≤ n then none else some { b with moved := n }
    { s with eng := { s.eng with passed := s.eng.passed.set e t, hostBurst := s.eng.hostBurst.set e burst } }

/-- Beats of an engine that have landed by slot `t`, and all of job `id`, stand at their destination (R460). -/
def State.land (s : State) (due : Landing → Bool) : State :=
  let s1 := (s.eng.landing.filter due).foldl (fun (s : State) x => s.dmaWrite x.lane x.held x.addr x.data) s
  { s1 with eng := { s1.eng with landing := s1.eng.landing.filter fun x => !due x } }

/-- What comes behind a halt on a channel (R464): a list that has moved nothing is discarded, and one under way ends, its tag with HALTED. -/
def State.haltBehind (s : State) (engine channel : Nat) : State :=
  (s.eng.jobs.filter fun j => decide (j.engine = engine) && decide (j.channel = channel) && !j.over).foldl (fun (s : State) j =>
    if j.slots.isEmpty then (s.setJob { j with started := true, complete := true }).discardList j
    else (s.setJob { j with halted := true }).mapJobTag j fun x => x.noteError eHalted 0) s

/-- The ERR record `seq` of a list is counted and reported (R465), an uncorrectable LPDDR4X error among the memory's too (R468), stands in the list's
tag, and halts its channel unless CONTINUE_ON_ERROR (R464). -/
def State.descFailed (s : State) (j : DmaJob) (seq e f : Nat) (halts : Bool) : State :=
  let s1 := if e = eEcc then (s.count Obj.dramUncorrectable).setNum Obj.dramLastFault (f % 2 ^ 28) else s
  let s2 := ((s1.count Obj.dmaErrors).dmaErrorTally j.engine j.channel seq e f).mapJobTag j fun x => x.noteError e f
  if halts then (s2.haltChannel j.engine j.channel).haltBehind j.engine j.channel else s2

/-- The descriptor `d` under way ends with its last beat, or its failing one, in slot `t`: its record (R461, R463), its error with the halt of the
channel (R464), and the slot from which the channel goes on (R460). The last record of the list is written as the list completes. -/
def State.endDesc (s : State) (j : DmaJob) (d : Descriptor) (t : Nat) (fail : Option (Nat × Nat)) : State :=
  let k := j.results.length
  let barrier := bit d.flags 0
  let cont := bit d.flags 1
  let mine := j.faults.filter fun f => decide (f.desc.toNat = k) && decide (f.kind = .response) && decide (f.beat.toNat < beatsOf d)
  let late := mine.map (·.beat.toNat)
  let dst := relocated (if j.lane.isSome then j.relocate else 0) d.dst
  let seq := j.list * 65536 + k
  let base := b2n barrier + 2 * b2n cont
  let err : Option (Nat × Nat × Nat) := match fail with
    | some (e, f) => some (e, f, 32 * j.beat)
    | none =>
      if barrier && !late.isEmpty then
        let lost := ((List.range (beatsOf d)).filter late.contains).foldl (fun n i => n + min 32 (d.length - 32 * i)) 0
        some (eResponse, dst + 32 * late.foldl min (beatsOf d), d.length - lost)
      else none
  let r : DescResult := match err with
    | some (e, f, good) => ⟨2, e, base + (if cont then 0 else 4), seq, good, f⟩
    | none => ⟨1, 0, base, seq, d.length, 0⟩
  let halts := err.isSome && !cont
  let last := halts || decide (j.left.length ≤ 1)
  let rec_ := if barrier then t + descLatency d else t + 1
  let s0 : State := { s with eng := { s.eng with
    chanFree := Assoc.set s.eng.chanFree (j.engine * 8 + j.channel) (if barrier then rec_ + 1 else t + 1) } }
  let s1 := if last then s0 else s0.appendRecord j r
  let s2 := s1.setJob { j with left := j.left.tail, beat := 0, results := j.results ++ [r], halted := halts
                               written := if last then j.written else j.written + 1 }
  match err with
  | none => s2
  | some (e, f, _) => s2.descFailed j seq e f halts

/-- One beat of the list `j`, in slot `t` (R460): read, and written at once, or on its way for 160 slots where it comes from LPDDR4X. -/
def State.beat (s : State) (t : Nat) (j : DmaJob) : State :=
  match j.left with
  | [] => s
  | d :: _ =>
    let s1 := (s.land fun x => decide (x.engine = j.engine) && decide (x.slot ≤ t)).passTo j.engine (t + 1)
    let rel := if j.lane.isSome then j.relocate else 0
    let a := relocated rel d.src + 32 * j.beat
    let b := relocated rel d.dst + 32 * j.beat
    let meets := fun k => j.faults.any fun f => decide (f.desc.toNat = j.results.length) && decide (f.beat.toNat = j.beat) && decide (f.kind = k)
    let s2 := if meets .corrected && decide (dmaSpace a = 2) then s1.count Obj.dramCorrected else s1
    match s2.beatError j.trigger a b (meets .ecc) with
    | some fail => s2.endDesc { j with slots := t :: j.slots } d t (some fail)
    | none =>
      let data := s2.dmaRead a (min 32 (d.length - 32 * j.beat))
      let held := s2.stagingHeld j.list
      let s3 := if s2.standbyWeft a b then s2
        else if dmaSpace a = 2 then { s2 with eng := { s2.eng with landing := s2.eng.landing ++ [⟨t + 160, j.engine, j.id, j.lane.isSome, held, b, data⟩] } }
        else s2.dmaWrite j.lane.isSome held b data
      let j1 := { j with beat := j.beat + 1, slots := t :: j.slots }
      if beatsOf d ≤ j1.beat then s3.endDesc j1 d t none else s3.setJob j1

/-- Beats that the lists of an engine have left. -/
def State.beatsLeft (s : State) (engine : Nat) : Nat :=
  ((s.eng.jobs.filter fun j => decide (j.engine = engine)).flatMap (·.left)).foldl (fun n d => n + beatsOf d) 0

/-- An engine moves its beats in slots before `limit`, one after another, until `stop`. -/
def State.runEngine (engine limit : Nat) (stop : State → Bool) : Nat → State → State
  | 0, s => s
  | n + 1, s =>
    if stop s then s
    else match s.nextBeat engine with
      | some (t, j) => if t < limit then State.runEngine engine limit stop n (s.beat t j) else s
      | none => s

/-- The engine has come to slot `t`. -/
def State.engineTo (s : State) (engine t : Nat) : State := (State.runEngine engine t (fun _ => false) (s.beatsLeft engine) s).passTo engine t

/-! ### Starting, completing and late errors -/

/-- A list as it starts, or as a lane issues it, in this tick. -/
def State.newJob (s : State) (l : DmaList) (lane : Option (Nat × Nat)) (relocate start : Nat) (faults : List DmaFault) : DmaJob :=
  { id := s.eng.jobCount, list := l.list, engine := l.engine, channel := l.channel, trigger := l.trigger, lane := lane, relocate := relocate
    started := lane.isNone, start := start, faults := faults, left := l.descs, beat := 0, slots := [], results := [], written := 0
    halted := false, complete := false }

/-- The job takes its place on its channel: scheduled lists that start at one slot run in ascending list number (R459). -/
def State.addJob (s : State) (j : DmaJob) : State :=
  let after := fun (x : DmaJob) => j.lane.isNone && x.lane.isNone && decide (x.engine = j.engine) && decide (x.channel = j.channel) &&
    decide (x.start = j.start) && x.slots.isEmpty && !x.over && decide (j.list < x.list)
  let js := s.eng.jobs
  { s with eng := { s.eng with jobCount := s.eng.jobCount + 1, jobs := js.takeWhile (fun x => !after x) ++ j :: js.dropWhile fun x => !after x } }

/-- A list starts (R459): the oldest issue of a lane list, or a scheduled list whose run covers the tick; on a halted channel it is
discarded (R464), and on an engine without clock it does not start (R447). Its beats move as the engine comes to their slots. A tick whose staging is
discarded stages nothing (R133, R197). -/
def execDmaListStart (list : BitVec 16) (faults : List DmaFault) (s : State) : Host.Outcome State Fault Refusal :=
  .next (match s.lists[list.toNat]? with
    | none => s
    | some l =>
      if !s.executes || !bit s.eng.gates (9 + l.engine) then s
      else if l.trigger = 0 then
        match s.eng.jobs.find? fun j => decide (j.list = l.list) && !j.started && j.lane.isSome with
        | none => s
        | some j =>
          if s.isHalted j.engine j.channel then (s.setJob { j with started := true, complete := true }).discardList j
          else (s.setJob { j with started := true, faults := faults }).engineTo j.engine j.start
      else if l.trigger = 2 && s.eng.discard then s
      else if s.scheduledNow l then
        match (s.engineSlots l.engine (triggerKind l.trigger)).head? with
        | none => s
        | some r =>
          let j := s.newJob l none 0 r.1 faults
          if s.isHalted l.engine l.channel then (s.addJob { j with complete := true }).discardList j
          else (s.addJob j).engineTo l.engine r.1
      else s)

/-- The last record of a started list is written, what it moved has landed, and its tag completes (R461, R465; log entry 154). A list for which the tick has
no slot left is over too (R187). -/
def execDmaListComplete (list : BitVec 16) (s : State) : Host.Outcome State Fault Refusal :=
  .next (match s.eng.jobs.find? fun j => decide (j.list = list.toNat) && j.started && !j.complete with
    | none => s
    | some j0 =>
      let s0 := State.runEngine j0.engine 200000 (fun s => (s.job? j0.id).any DmaJob.over) (s.beatsLeft j0.engine) s
      match s0.job? j0.id with
      | none => s
      | some j =>
        if !j.over && (s0.jobSlot j).isSome then s
        else
          let s1 := s0.land fun x => decide (x.job = j.id)
          let s2 := ((j.results.drop j.written).foldl (fun s r => s.appendRecord j r) s1).setJob { j with written := j.results.length, complete := true }
          s2.mapJobTag j fun x => x.complete 0 (j.results.foldl (fun n r => n + r.good) 0) 0)

/-- Beats of the descriptors before `k`. -/
def DmaList.beatsBefore (l : DmaList) (k : Nat) : Nat := (l.descs.take k).foldl (fun n d => n + beatsOf d) 0

/-- An error response to a beat of a descriptor that has written DONE without BARRIER (R463): LATE_ERR in the same line, the live
tag record (R465), and the halt of the channel from the slot in which it is taken unless CONTINUE_ON_ERROR (R464). Of two issues of the list in one tick,
the older with an open line is meant (DESIGN CHOICE, log entry 153). -/
def execDmaResponseError (list desc : BitVec 16) (beat : BitVec 20) (s : State) : Host.Outcome State Fault Refusal :=
  let open_ := s.eng.lines.reverse.find? fun e => decide (e.2.1 = desc.toNat) && (s.job? e.1).any fun j => decide (j.list = list.toNat)
  .next (match open_, s.lists[list.toNat]? with
    | some (id, _, line), some l =>
      match s.job? id, l.descs[desc.toNat]? with
      | some j0, some d =>
        if beatsOf d ≤ beat.toNat then s
        else
          let cont := bit d.flags 1
          let dst := relocated (if j0.lane.isSome then j0.relocate else 0) d.dst + 32 * beat.toNat
          let lost := min 32 (d.length - 32 * beat.toNat)
          let r : DescResult := ⟨3, eResponse, 2 * b2n cont + (if cont then 0 else 4), list.toNat * 65536 + desc.toNat, d.length - lost, dst⟩
          let taken := (j0.slots.reverse[l.beatsBefore desc.toNat + beat.toNat]?).getD 0 + descLatency d
          let s0 := s.engineTo j0.engine taken
          let j := (s0.job? id).getD j0
          let s1 := if j.lane.isSome then s0.storeWrite (line + 16) r.bytes else s0.storePut (line + 16) r.bytes
          let s2 := (s1.count Obj.dmaLateErrors).dmaErrorTally j.engine j.channel r.seq r.error r.fail
          let s3 := { s2 with eng := { s2.eng with lines := s2.eng.lines.filter fun e => decide (e.2.2 ≠ line) } }
          let s4 := if j.complete then s3.mapJobTag j fun x => { x with live := x.live.late r.error lost dst }
            else (s3.setJob { j with halted := j.halted || !cont
                                     results := j.results.map fun x => if x.seq = r.seq then { x with good := r.good } else x }).mapJobTag j
              fun x => x.noteError r.error dst
          if cont then s4 else (s4.haltChannel j.engine j.channel).haltBehind j.engine j.channel
      | _, _ => s
    | _, _ => s)

/-- A device's request on an engine's host channel (R466): it reserves one burst of 1 to 16 beats, which the free slots of the port serve; the
request line is sampled again only after it. A withdrawal stops a burst of which no beat has been issued. A request that meets an engine without clock is
an access of a gated block (R447). -/
def execDeviceRequest (line : HostLine) (beats : Fin 16) (withdrawn : Bool) (s : State) : Host.Outcome State Fault Refusal :=
  let e := line.engine
  let put := fun b => { s with eng := { s.eng with hostBurst := s.eng.hostBurst.set e b } }
  .next (match s.eng.hostBurst[e] with
    | some b => if withdrawn && decide (b.device = line.device) && decide (b.moved = 0) then put none else s
    | none =>
      if withdrawn then s
      else if bit s.eng.gates (9 + e.val) then put (some ⟨line.device, beats.val + 1, 0⟩)
      else s.count Obj.gatedAccesses)

/-- A pass of the best-effort LPDDR4X scrubber, or what a host core met as it read (R468). -/
def execDramScrubPass (found : DramErrors) (uncorrectable : BitVec 32) (lastFault : Option (BitVec 32)) (s : State) :
    Host.Outcome State Fault Refusal :=
  let s0 := if found.pass then s.count Obj.dramScrubPasses else s
  let s1 := (s0.count Obj.dramCorrected found.corrected.toNat).count Obj.dramUncorrectable uncorrectable.toNat
  .next (match lastFault with
    | some a => if uncorrectable = 0 then s1 else s1.setNum Obj.dramLastFault a.toNat
    | none => s1)

end Sys2Proof.Machine
end

