-- ==== Sys2Proof/Machine/Lanes.lean ====
section
/-! DEFINITION. The slot instructions of the lanes (chapter 06): the window (R172), the operand spaces (R173 to R175), the
arithmetic (R178 to R182), the cycle count of R191 and the issue of engine work (R183 to R188). An instruction acts on a lane
that runs and is not held by a WAIT; on any other lane it changes nothing (log entry 12). -/

namespace Sys2Proof.Machine

/-! ### The lane -/

def State.lane (s : State) (l : Fin 4) : Lane := s.eng.lanes[l]

def State.setLane (s : State) (l : Fin 4) (x : Lane) : State := { s with eng := { s.eng with lanes := s.eng.lanes.set l x } }

/-- A register as read: w0 is 0 (R172). -/
def Lane.reg (x : Lane) (r : Fin 512) : Word64 := if r = 0 then 0 else x.regs[r]

/-- A register write: w0 discards it (R172). -/
def Lane.setReg (x : Lane) (r : Fin 512) (v : Word64) : Lane := if r = 0 then x else { x with regs := x.regs.set r v }

/-- Whether the lane can take its next instruction. -/
def Lane.active (x : Lane) : Bool := x.running && !x.second && x.waiting.isNone

/-- Start cycle of an instruction that reads the registers `srcs` (R191). -/
def Lane.startOf (x : Lane) (srcs : List (Fin 512)) : Nat := srcs.foldl (fun c r => max c x.ready[r]) x.cycle

/-- Start cycle of LDW and END, which wait for every register (R191). -/
def Lane.startAll (x : Lane) : Nat := x.ready.toList.foldl max x.cycle

/-- Whether the latencies of CANVAS hold (Table 6-4). -/
def State.canvas (s : State) : Bool := decide (s.num Obj.activeProfile = 3)

/-- An instruction of `issue` cycles that starts at `start`, and sets register `d` ready `lat` cycles later (R191). -/
def Lane.took (x : Lane) (start issue : Nat) (d : Fin 512) (lat : Nat) : Lane :=
  { x with
    pc := x.pc + 1
    cycle := start + issue
    ready := if d = 0 then x.ready else x.ready.set d (start + lat) }

/-- An instruction that computes a register from registers: `srcs` are its sources, `issue` and `lat` its row of Table 6-4. -/
def State.compute (s : State) (l : Fin 4) (srcs : List (Fin 512)) (issue lat : Nat) (d : Fin 512) (f : Lane → Word64) : State :=
  let x := s.lane l
  if x.active then s.setLane l ((x.took (x.startOf srcs) issue d lat).setReg d (f x)) else s

/-- A 32-bit result: bits [63:32] cleared (R178). -/
def w32 (n : Nat) : Word64 := BitVec.ofNat 64 (n % 2 ^ 32)

/-- The 32-bit operand of a register (R178). -/
def Lane.lo (x : Lane) (r : Fin 512) : BitVec 32 := (x.reg r).truncate 32
def Lane.loNat (x : Lane) (r : Fin 512) : Nat := (x.lo r).toNat
/-- The high parameter of a composite primitive (R181). -/
def Lane.hiNat (x : Lane) (r : Fin 512) : Nat := (x.reg r).toNat / 2 ^ 32

def bool64 (b : Bool) : Word64 := if b then 1 else 0

/-! ### Integer operations (R178, R179) -/

/-- Signed division truncated toward zero, 0 for a zero divisor (R179). -/
def divS {n : Nat} (a b : BitVec n) : BitVec n := if b = 0 then 0 else a.sdiv b
/-- Unsigned division, 0 for a zero divisor (R179). -/
def divU {n : Nat} (a b : BitVec n) : BitVec n := if b = 0 then 0 else a / b

def State.int32 (s : State) (l : Fin 4) (d a b : Fin 512) (issue lat : Nat) (f : BitVec 32 → BitVec 32 → BitVec 32) : State :=
  s.compute l [a, b] issue lat d fun x => (f (x.lo a) (x.lo b)).zeroExtend 64

def State.int64 (s : State) (l : Fin 4) (d a b : Fin 512) (issue lat : Nat) (f : Word64 → Word64 → Word64) : State :=
  s.compute l [a, b] issue lat d fun x => f (x.reg a) (x.reg b)

def execLaneNop (l : Fin 4) (s : State) : Host.Outcome State Fault Refusal :=
  .next (s.compute l [] 1 0 0 fun _ => 0)

def execLaneConstl (l : Fin 4) (d : Fin 512) (imm : BitVec 32) (s : State) : Host.Outcome State Fault Refusal :=
  .next (s.compute l [] 1 1 d fun _ => imm.zeroExtend 64)

def execLaneConsth (l : Fin 4) (d : Fin 512) (imm : BitVec 32) (s : State) : Host.Outcome State Fault Refusal :=
  .next (s.compute l [d] 1 1 d fun x => (imm ++ x.lo d : BitVec 64))

def execLaneMov (l : Fin 4) (d a : Fin 512) (s : State) : Host.Outcome State Fault Refusal :=
  .next (s.compute l [a] 1 1 d fun x => x.reg a)

def execLaneAddi (l : Fin 4) (d a : Fin 512) (imm : BitVec 38) (s : State) : Host.Outcome State Fault Refusal :=
  .next (s.compute l [a] 1 1 d fun x => x.reg a + imm.signExtend 64)

/-- The low `width1` + 1 bits of a word. -/
def lowMask (width1 : BitVec 6) : Word64 := BitVec.ofNat 64 (2 ^ (width1.toNat + 1) - 1)

def execLaneExt (l : Fin 4) (d a : Fin 512) (lsb width1 : BitVec 6) (s : State) : Host.Outcome State Fault Refusal :=
  .next (s.compute l [a] 1 1 d fun x => (x.reg a >>> lsb.toNat) &&& lowMask width1)

def execLaneIns (l : Fin 4) (d a : Fin 512) (lsb width1 : BitVec 6) (s : State) : Host.Outcome State Fault Refusal :=
  .next (s.compute l [a, d] 1 1 d fun x =>
    let m := lowMask width1 <<< lsb.toNat
    (x.reg d &&& ~~~m) ||| ((x.reg a <<< lsb.toNat) &&& m))

def execLaneAdd32 (l : Fin 4) (d a b : Fin 512) (s : State) : Host.Outcome State Fault Refusal :=
  .next (s.int32 l d a b 1 1 fun x y => x + y)
def execLaneSub32 (l : Fin 4) (d a b : Fin 512) (s : State) : Host.Outcome State Fault Refusal :=
  .next (s.int32 l d a b 1 1 fun x y => x - y)
def execLaneMul32 (l : Fin 4) (d a b : Fin 512) (s : State) : Host.Outcome State Fault Refusal :=
  .next (s.int32 l d a b 1 3 fun x y => x * y)
def execLaneDivs32 (l : Fin 4) (d a b : Fin 512) (s : State) : Host.Outcome State Fault Refusal :=
  .next (s.int32 l d a b 18 18 divS)
def execLaneDivu32 (l : Fin 4) (d a b : Fin 512) (s : State) : Host.Outcome State Fault Refusal :=
  .next (s.int32 l d a b 18 18 divU)
def execLaneAdd64 (l : Fin 4) (d a b : Fin 512) (s : State) : Host.Outcome State Fault Refusal :=
  .next (s.int64 l d a b 1 1 fun x y => x + y)
def execLaneSub64 (l : Fin 4) (d a b : Fin 512) (s : State) : Host.Outcome State Fault Refusal :=
  .next (s.int64 l d a b 1 1 fun x y => x - y)
def execLaneMul64 (l : Fin 4) (d a b : Fin 512) (s : State) : Host.Outcome State Fault Refusal :=
  .next (s.int64 l d a b 1 4 fun x y => x * y)
def execLaneDivs64 (l : Fin 4) (d a b : Fin 512) (s : State) : Host.Outcome State Fault Refusal :=
  .next (s.int64 l d a b 34 34 divS)
def execLaneDivu64 (l : Fin 4) (d a b : Fin 512) (s : State) : Host.Outcome State Fault Refusal :=
  .next (s.int64 l d a b 34 34 divU)
def execLaneAnd (l : Fin 4) (d a b : Fin 512) (s : State) : Host.Outcome State Fault Refusal :=
  .next (s.int64 l d a b 1 1 fun x y => x &&& y)
def execLaneOr (l : Fin 4) (d a b : Fin 512) (s : State) : Host.Outcome State Fault Refusal :=
  .next (s.int64 l d a b 1 1 fun x y => x ||| y)
def execLaneXor (l : Fin 4) (d a b : Fin 512) (s : State) : Host.Outcome State Fault Refusal :=
  .next (s.int64 l d a b 1 1 fun x y => x ^^^ y)
def execLaneNot (l : Fin 4) (d a : Fin 512) (s : State) : Host.Outcome State Fault Refusal :=
  .next (s.compute l [a] 1 1 d fun x => ~~~(x.reg a))
def execLaneShl (l : Fin 4) (d a b : Fin 512) (s : State) : Host.Outcome State Fault Refusal :=
  .next (s.int64 l d a b 1 1 fun x y => x <<< (y.toNat % 64))
def execLaneShr (l : Fin 4) (d a b : Fin 512) (s : State) : Host.Outcome State Fault Refusal :=
  .next (s.int64 l d a b 1 1 fun x y => x >>> (y.toNat % 64))
def execLaneSar (l : Fin 4) (d a b : Fin 512) (s : State) : Host.Outcome State Fault Refusal :=
  .next (s.int64 l d a b 1 1 fun x y => x.sshiftRight (y.toNat % 64))
def execLaneMins (l : Fin 4) (d a b : Fin 512) (s : State) : Host.Outcome State Fault Refusal :=
  .next (s.int64 l d a b 1 1 fun x y => if x.slt y then x else y)
def execLaneMaxs (l : Fin 4) (d a b : Fin 512) (s : State) : Host.Outcome State Fault Refusal :=
  .next (s.int64 l d a b 1 1 fun x y => if x.slt y then y else x)
def execLaneSx8 (l : Fin 4) (d a : Fin 512) (s : State) : Host.Outcome State Fault Refusal :=
  .next (s.compute l [a] 1 1 d fun x => ((x.reg a).truncate 8).signExtend 64)
def execLaneSx16 (l : Fin 4) (d a : Fin 512) (s : State) : Host.Outcome State Fault Refusal :=
  .next (s.compute l [a] 1 1 d fun x => ((x.reg a).truncate 16).signExtend 64)
def execLaneSx32 (l : Fin 4) (d a : Fin 512) (s : State) : Host.Outcome State Fault Refusal :=
  .next (s.compute l [a] 1 1 d fun x => ((x.reg a).truncate 32).signExtend 64)
def execLaneCeq (l : Fin 4) (d a b : Fin 512) (s : State) : Host.Outcome State Fault Refusal :=
  .next (s.int64 l d a b 1 1 fun x y => bool64 (x == y))
def execLaneCne (l : Fin 4) (d a b : Fin 512) (s : State) : Host.Outcome State Fault Refusal :=
  .next (s.int64 l d a b 1 1 fun x y => bool64 (x != y))
def execLaneClts (l : Fin 4) (d a b : Fin 512) (s : State) : Host.Outcome State Fault Refusal :=
  .next (s.int64 l d a b 1 1 fun x y => bool64 (x.slt y))
def execLaneCltu (l : Fin 4) (d a b : Fin 512) (s : State) : Host.Outcome State Fault Refusal :=
  .next (s.int64 l d a b 1 1 fun x y => bool64 (x.ult y))
def execLaneCles (l : Fin 4) (d a b : Fin 512) (s : State) : Host.Outcome State Fault Refusal :=
  .next (s.int64 l d a b 1 1 fun x y => bool64 (x.sle y))
def execLaneCleu (l : Fin 4) (d a b : Fin 512) (s : State) : Host.Outcome State Fault Refusal :=
  .next (s.int64 l d a b 1 1 fun x y => bool64 (x.ule y))
def execLaneSel (l : Fin 4) (d a b c : Fin 512) (s : State) : Host.Outcome State Fault Refusal :=
  .next (s.compute l [a, b, c] 1 1 d fun x => if x.reg c ≠ 0 then x.reg a else x.reg b)
def execLaneBsel (l : Fin 4) (d a b c : Fin 512) (s : State) : Host.Outcome State Fault Refusal :=
  .next (s.compute l [a, b, c] 1 1 d fun x => (x.reg a &&& x.reg c) ||| (x.reg b &&& ~~~(x.reg c)))

/-! ### Floating point (R180 to R182) -/

/-- A two-operand F32 operation. -/
def State.flt32 (s : State) (l : Fin 4) (d a b : Fin 512) (issue lat : Nat) (f : Nat → Nat → Nat) : State :=
  s.compute l [a, b] issue lat d fun x => w32 (f (x.loNat a) (x.loNat b))

def State.flt64 (s : State) (l : Fin 4) (d a b : Fin 512) (issue lat : Nat) (f : Nat → Nat → Nat) : State :=
  s.compute l [a, b] issue lat d fun x => BitVec.ofNat 64 (f (x.reg a).toNat (x.reg b).toNat)

/-- A one-operand F32 operation. -/
def State.un32 (s : State) (l : Fin 4) (d a : Fin 512) (issue lat : Nat) (f : Nat → Nat) : State :=
  s.compute l [a] issue lat d fun x => w32 (f (x.loNat a))

def State.un64 (s : State) (l : Fin 4) (d a : Fin 512) (issue lat : Nat) (f : Nat → Nat) : State :=
  s.compute l [a] issue lat d fun x => BitVec.ofNat 64 (f (x.reg a).toNat)

def execLaneFceq32 (l : Fin 4) (d a b : Fin 512) (s : State) : Host.Outcome State Fault Refusal :=
  .next (s.flt32 l d a b 1 2 fun x y => b2n (fEq f32 x y))
def execLaneFclt32 (l : Fin 4) (d a b : Fin 512) (s : State) : Host.Outcome State Fault Refusal :=
  .next (s.flt32 l d a b 1 2 fun x y => b2n (fLt f32 x y))
def execLaneFcle32 (l : Fin 4) (d a b : Fin 512) (s : State) : Host.Outcome State Fault Refusal :=
  .next (s.flt32 l d a b 1 2 fun x y => b2n (fLe f32 x y))
def execLaneFcun32 (l : Fin 4) (d a b : Fin 512) (s : State) : Host.Outcome State Fault Refusal :=
  .next (s.flt32 l d a b 1 2 fun x y => b2n (fUnordered f32 x y))
def execLaneFceq64 (l : Fin 4) (d a b : Fin 512) (s : State) : Host.Outcome State Fault Refusal :=
  .next (s.flt64 l d a b 1 2 fun x y => b2n (fEq f64 x y))
def execLaneFclt64 (l : Fin 4) (d a b : Fin 512) (s : State) : Host.Outcome State Fault Refusal :=
  .next (s.flt64 l d a b 1 2 fun x y => b2n (fLt f64 x y))
def execLaneFcle64 (l : Fin 4) (d a b : Fin 512) (s : State) : Host.Outcome State Fault Refusal :=
  .next (s.flt64 l d a b 1 2 fun x y => b2n (fLe f64 x y))
def execLaneFcun64 (l : Fin 4) (d a b : Fin 512) (s : State) : Host.Outcome State Fault Refusal :=
  .next (s.flt64 l d a b 1 2 fun x y => b2n (fUnordered f64 x y))
def execLaneFadd32 (l : Fin 4) (d a b : Fin 512) (s : State) : Host.Outcome State Fault Refusal :=
  .next (s.flt32 l d a b 1 3 (fAdd f32))
def execLaneFsub32 (l : Fin 4) (d a b : Fin 512) (s : State) : Host.Outcome State Fault Refusal :=
  .next (s.flt32 l d a b 1 3 (fSub f32))
def execLaneFmul32 (l : Fin 4) (d a b : Fin 512) (s : State) : Host.Outcome State Fault Refusal :=
  .next (s.flt32 l d a b 1 3 (fMul f32))
def execLaneFdiv32 (l : Fin 4) (d a b : Fin 512) (s : State) : Host.Outcome State Fault Refusal :=
  .next (s.flt32 l d a b 12 12 (fDiv f32))
def execLaneFsqrt32 (l : Fin 4) (d a : Fin 512) (s : State) : Host.Outcome State Fault Refusal :=
  .next (s.un32 l d a 14 14 (fSqrt f32))
def execLaneFmin32 (l : Fin 4) (d a b : Fin 512) (s : State) : Host.Outcome State Fault Refusal :=
  .next (s.flt32 l d a b 1 2 (fMin f32))
def execLaneFmax32 (l : Fin 4) (d a b : Fin 512) (s : State) : Host.Outcome State Fault Refusal :=
  .next (s.flt32 l d a b 1 2 (fMax f32))
def execLaneFabs32 (l : Fin 4) (d a : Fin 512) (s : State) : Host.Outcome State Fault Refusal :=
  .next (s.un32 l d a 1 2 (fAbs f32))
def execLaneFneg32 (l : Fin 4) (d a : Fin 512) (s : State) : Host.Outcome State Fault Refusal :=
  .next (s.un32 l d a 1 2 (fNeg f32))
def execLaneFadd64 (l : Fin 4) (d a b : Fin 512) (s : State) : Host.Outcome State Fault Refusal :=
  .next (s.flt64 l d a b 1 4 (fAdd f64))
def execLaneFsub64 (l : Fin 4) (d a b : Fin 512) (s : State) : Host.Outcome State Fault Refusal :=
  .next (s.flt64 l d a b 1 4 (fSub f64))
def execLaneFmul64 (l : Fin 4) (d a b : Fin 512) (s : State) : Host.Outcome State Fault Refusal :=
  .next (s.flt64 l d a b 1 5 (fMul f64))
def execLaneFdiv64 (l : Fin 4) (d a b : Fin 512) (s : State) : Host.Outcome State Fault Refusal :=
  .next (s.flt64 l d a b 22 22 (fDiv f64))
def execLaneFsqrt64 (l : Fin 4) (d a : Fin 512) (s : State) : Host.Outcome State Fault Refusal :=
  .next (s.un64 l d a 26 26 (fSqrt f64))
def execLaneFmin64 (l : Fin 4) (d a b : Fin 512) (s : State) : Host.Outcome State Fault Refusal :=
  .next (s.flt64 l d a b 1 2 (fMin f64))
def execLaneFmax64 (l : Fin 4) (d a b : Fin 512) (s : State) : Host.Outcome State Fault Refusal :=
  .next (s.flt64 l d a b 1 2 (fMax f64))
def execLaneFabs64 (l : Fin 4) (d a : Fin 512) (s : State) : Host.Outcome State Fault Refusal :=
  .next (s.un64 l d a 1 2 (fAbs f64))
def execLaneFneg64 (l : Fin 4) (d a : Fin 512) (s : State) : Host.Outcome State Fault Refusal :=
  .next (s.un64 l d a 1 2 (fNeg f64))
def execLaneCvtf32i32 (l : Fin 4) (d a : Fin 512) (s : State) : Host.Outcome State Fault Refusal :=
  .next (s.un32 l d a 1 3 fun v => fOfInt f32 (toSigned 32 v))
def execLaneCvti32f32 (l : Fin 4) (d a : Fin 512) (s : State) : Host.Outcome State Fault Refusal :=
  .next (s.un32 l d a 1 3 fun v => ofSigned 32 (fToInt f32 (-2 ^ 31) (2 ^ 31 - 1) v))
def execLaneCvtf64f32 (l : Fin 4) (d a : Fin 512) (s : State) : Host.Outcome State Fault Refusal :=
  .next (s.compute l [a] 1 3 d fun x => BitVec.ofNat 64 (fConvert f32 f64 (x.loNat a)))
def execLaneCvtf32f64 (l : Fin 4) (d a : Fin 512) (s : State) : Host.Outcome State Fault Refusal :=
  .next (s.compute l [a] 1 3 d fun x => w32 (fConvert f64 f32 (x.reg a).toNat))
def execLaneCvtf64i64 (l : Fin 4) (d a : Fin 512) (s : State) : Host.Outcome State Fault Refusal :=
  .next (s.un64 l d a 1 3 fun v => fOfInt f64 (toSigned 64 v))
def execLaneCvti64f64 (l : Fin 4) (d a : Fin 512) (s : State) : Host.Outcome State Fault Refusal :=
  .next (s.un64 l d a 1 3 fun v => ofSigned 64 (fToInt f64 (-2 ^ 63) (2 ^ 63 - 1) v))
/-- SCL.32 (R181). -/
def sclF32 (a low high : Nat) : Nat := fAdd f32 (fMul f32 a low) high
/-- CLAMP.32 (R181). -/
def clampF32 (a low high : Nat) : Nat := fMin f32 (fMax f32 a low) high
/-- FILT.32 (R181). -/
def filtF32 (a d low : Nat) : Nat := fAdd f32 d (fMul f32 low (fSub f32 a d))
/-- RAMP.32 (R181). -/
def rampF32 (a d step : Nat) : Nat := fAdd f32 d (fMin f32 (fMax f32 (fSub f32 a d) (fNeg f32 step)) step)

def execLaneScl32 (l : Fin 4) (d a b : Fin 512) (s : State) : Host.Outcome State Fault Refusal :=
  .next (s.compute l [a, b] 1 6 d fun x => w32 (sclF32 (x.loNat a) (x.loNat b) (x.hiNat b)))
def execLaneClamp32 (l : Fin 4) (d a b : Fin 512) (s : State) : Host.Outcome State Fault Refusal :=
  .next (s.compute l [a, b] 1 2 d fun x => w32 (clampF32 (x.loNat a) (x.loNat b) (x.hiNat b)))
def execLaneFilt32 (l : Fin 4) (d a b : Fin 512) (s : State) : Host.Outcome State Fault Refusal :=
  .next (s.compute l [a, b, d] 1 9 d fun x => w32 (filtF32 (x.loNat a) (x.loNat d) (x.loNat b)))
def execLaneRamp32 (l : Fin 4) (d a b : Fin 512) (s : State) : Host.Outcome State Fault Refusal :=
  .next (s.compute l [a, b, d] 1 8 d fun x => w32 (rampF32 (x.loNat a) (x.loNat d) (x.loNat b)))
/-! ### Store, window and port accesses (R173 to R175) -/

/-- Store effective address (R173): reduced modulo 2^25 and aligned down to `size`. -/
def Lane.storeAddr (x : Lane) (a : Fin 512) (imm : BitVec 38) (size : Nat) : Nat :=
  (x.reg a + imm.signExtend 64).toNat % 2 ^ 25 / size * size

def State.laneLoad (s : State) (l : Fin 4) (d a : Fin 512) (imm : BitVec 38) (size : Nat) : State :=
  s.compute l [a] 1 (if s.canvas then 8 else 6) d fun x => BitVec.ofNat 64 (s.storeNat (x.storeAddr a imm size) size)

/-- A lane store; one that is not into the state area is discarded as a protected store (R174, R452). -/
def State.laneStore (s : State) (l : Fin 4) (d a : Fin 512) (imm : BitVec 38) (size : Nat) : State :=
  let x := s.lane l
  if x.active then
    let start := x.startOf [a, d]
    let s1 := s.setLane l { x.took start 1 0 0 with drain := max x.drain (start + (if s.canvas then 5 else 4)) }
    let addr := x.storeAddr a imm size
    if inStateArea addr then (s1.storeWrite addr (leBytes size (x.reg d).toNat)).noteScratch addr size
    else (s1.count Obj.protectedStores).dieFault .protectedStore l.val addr 0
  else s

def execLaneLd8 (l : Fin 4) (d a : Fin 512) (imm : BitVec 38) (s : State) : Host.Outcome State Fault Refusal :=
  .next (s.laneLoad l d a imm 1)
def execLaneLd16 (l : Fin 4) (d a : Fin 512) (imm : BitVec 38) (s : State) : Host.Outcome State Fault Refusal :=
  .next (s.laneLoad l d a imm 2)
def execLaneLd32 (l : Fin 4) (d a : Fin 512) (imm : BitVec 38) (s : State) : Host.Outcome State Fault Refusal :=
  .next (s.laneLoad l d a imm 4)
def execLaneLd64 (l : Fin 4) (d a : Fin 512) (imm : BitVec 38) (s : State) : Host.Outcome State Fault Refusal :=
  .next (s.laneLoad l d a imm 8)
def execLaneSt8 (l : Fin 4) (d a : Fin 512) (imm : BitVec 38) (s : State) : Host.Outcome State Fault Refusal :=
  .next (s.laneStore l d a imm 1)
def execLaneSt16 (l : Fin 4) (d a : Fin 512) (imm : BitVec 38) (s : State) : Host.Outcome State Fault Refusal :=
  .next (s.laneStore l d a imm 2)
def execLaneSt32 (l : Fin 4) (d a : Fin 512) (imm : BitVec 38) (s : State) : Host.Outcome State Fault Refusal :=
  .next (s.laneStore l d a imm 4)
def execLaneSt64 (l : Fin 4) (d a : Fin 512) (imm : BitVec 38) (s : State) : Host.Outcome State Fault Refusal :=
  .next (s.laneStore l d a imm 8)
/-- Register number of LDW and STW (Table 6-3). -/
def Lane.regIndex (x : Lane) (a : Fin 512) (imm : BitVec 38) : Fin 512 :=
  Fin.ofNat 512 (x.reg a + imm.signExtend 64).toNat

/-- LDW starts when every register is ready (R191). -/
def execLaneLdw (l : Fin 4) (d a : Fin 512) (imm : BitVec 38) (s : State) : Host.Outcome State Fault Refusal :=
  let x := s.lane l
  .next (if x.active then s.setLane l ((x.took x.startAll 1 d 2).setReg d (x.reg (x.regIndex a imm))) else s)

/-- STW's issue of 2 covers its write; number 0 discards it. -/
def execLaneStw (l : Fin 4) (d a : Fin 512) (imm : BitVec 38) (s : State) : Host.Outcome State Fault Refusal :=
  let x := s.lane l
  .next (if x.active then s.setLane l ((x.took (x.startOf [a, d]) 2 0 0).setReg (x.regIndex a imm) (x.reg d)) else s)

/-- Port address (R175): 32-bit accesses, aligned down to 4. -/
def Lane.portAddr (x : Lane) (a : Fin 512) (imm : BitVec 38) : Nat := (x.reg a + imm.signExtend 64).toNat / 4 * 4

/-- A port read (Table 6-1): the latched tag records and DMA_RELOCATE; every other offset reads 0. -/
def Lane.portRead (x : Lane) (p : Nat) : Nat :=
  if p < 0x200 then
    let r := x.latched[Fin.ofNat 32 (p / 16)]
    if p % 16 = 0 then r.state else if p % 16 = 4 then r.error else if p % 16 = 8 then r.good else r.address
  else if p = 0x400 then x.relocate else 0

def execLaneLdp (l : Fin 4) (d a : Fin 512) (imm : BitVec 38) (s : State) : Host.Outcome State Fault Refusal :=
  .next (s.compute l [a] 1 (if s.canvas then 14 else 10) d fun x => w32 (x.portRead (x.portAddr a imm)))

/-- STP: only DMA_RELOCATE takes a write, and its bits [4:0] are ignored (Table 6-1). -/
def execLaneStp (l : Fin 4) (d a : Fin 512) (imm : BitVec 38) (s : State) : Host.Outcome State Fault Refusal :=
  let x := s.lane l
  .next (if x.active then
      let y := x.took (x.startOf [a, d]) 1 0 0
      s.setLane l (if x.portAddr a imm = 0x400 then { y with relocate := x.loNat d / 32 * 32 } else y)
    else s)


end Sys2Proof.Machine
end

