-- ==== Sys2Proof/Machine/Shuttles.lean ====
section
/-! DEFINITION. The shuttle loop engines (chapter 08): the records (Tables 8-1 to 8-3), the loop law in its order of IEEE operations
(R234, R235), loss, freeze and envelope (R239 to R242), tests and their capture (R248 to R250). -/

namespace Sys2Proof.Machine

/-- The loop state record (Table 8-2). -/
structure LoopRec where
  sp : Nat
  pv : Nat
  ff : Nat
  load : Nat
  spQ : Nat
  pvQ : Nat
  ffQ : Nat
  loadQ : Nat
  out : Nat
  outQ : Nat
  gate : Nat
  u1 : Nat
  e1 : Nat
  y1 : Nat
  dy1 : Nat
  ff1 : Nat
  error : Nat
  frzValue : Nat
  frzOut : Nat
  frzCount : Nat
  lossCount : Nat
  mode : Nat
  status : Nat
  eval : Nat
  manual : Nat
  testIndex : Nat
  testSignal : Nat
  testLfsr : Nat
  testState : Nat
  flags : Nat
  captureCount : Nat
  deriving DecidableEq, Repr

def loopRecOf (b : Bytes) : LoopRec :=
  { sp := u32At b 0, pv := u32At b 4, ff := u32At b 8, load := u32At b 12, spQ := u16At b 16, pvQ := u16At b 18, ffQ := u16At b 20,
    loadQ := u16At b 22, out := u32At b 24, outQ := u16At b 28, gate := u8At b 30, u1 := u32At b 32, e1 := u32At b 36,
    y1 := u32At b 40, dy1 := u32At b 44, ff1 := u32At b 48, error := u32At b 52, frzValue := u32At b 56, frzOut := u32At b 60,
    frzCount := u16At b 64, lossCount := u8At b 66, mode := u8At b 67, status := u16At b 68, eval := u16At b 70,
    manual := u32At b 72, testIndex := u32At b 76, testSignal := u32At b 80, testLfsr := u16At b 84, testState := u8At b 86,
    flags := u8At b 87, captureCount := u16At b 88 }

def LoopRec.bytes (r : LoopRec) : Bytes :=
  leBytes 4 r.sp ++ leBytes 4 r.pv ++ leBytes 4 r.ff ++ leBytes 4 r.load ++ leBytes 2 r.spQ ++ leBytes 2 r.pvQ ++ leBytes 2 r.ffQ ++
    leBytes 2 r.loadQ ++ leBytes 4 r.out ++ leBytes 2 r.outQ ++ leBytes 1 r.gate ++ [0] ++ leBytes 4 r.u1 ++ leBytes 4 r.e1 ++
    leBytes 4 r.y1 ++ leBytes 4 r.dy1 ++ leBytes 4 r.ff1 ++ leBytes 4 r.error ++ leBytes 4 r.frzValue ++ leBytes 4 r.frzOut ++
    leBytes 2 r.frzCount ++ leBytes 1 r.lossCount ++ leBytes 1 r.mode ++ leBytes 2 r.status ++ leBytes 2 r.eval ++ leBytes 4 r.manual ++
    leBytes 4 r.testIndex ++ leBytes 4 r.testSignal ++ leBytes 2 r.testLfsr ++ leBytes 1 r.testState ++ leBytes 1 r.flags ++
    leBytes 2 r.captureCount ++ zeros 6

/-- Store address of loop `j`'s configuration record in the master copy, and of gain table `g` (R228, R453). -/
def State.loopCfgAt (s : State) (j : Nat) : Nat := (match s.warp.loaded with | some l => l.map.loops | none => 0) + 8 + 64 * j
def State.gainAt (s : State) (g : Nat) : Nat := (match s.warp.loaded with | some l => l.map.gains | none => 0) + 8 + 704 * g
/-- LOOP_COUNT and GAIN_TABLE_COUNT of the loaded image. -/
def State.loopCount (s : State) : Nat := recCount (sectBody s.sections 4)
def State.gainCount (s : State) : Nat := recCount (sectBody s.sections 5)
def State.loopCfg (s : State) (j : Nat) : Bytes := s.storeRead (s.loopCfgAt j) 64
def loopClass (cfg : Bytes) : Nat := u8At cfg 2
def loopShuttle (cfg : Bytes) : Nat := u8At cfg 3
def loopRecAt (cfg : Bytes) : Nat := stateBase + u32At cfg 56
def State.loopRec (s : State) (j : Nat) : LoopRec := loopRecOf (s.storeRead (loopRecAt (s.loopCfg j)) 96)

/-- T and TINV of a class as F32 (Table 8-4). -/
def classT (c : Nat) : Nat :=
  if c = 0 then 0x3983126F else if c = 1 then 0x3A83126F else if c = 2 then 0x3C23D70A else if c = 3 then 0x3DCCCCCD else 0x3F800000
def classTinv (c : Nat) : Nat :=
  if c = 0 then 0x457A0000 else if c = 1 then 0x447A0000 else if c = 2 then 0x42C80000 else if c = 3 then 0x41200000 else 0x3F800000

/-- Place of loop `j`'s configuration in the table RAM: its shuttle's slots in ascending loop number (R228). -/
def State.slotKey (s : State) (j : Nat) : Nat :=
  let u := loopShuttle (s.loopCfg j)
  256 * u + ((List.range j).filter fun i => decide (loopShuttle (s.loopCfg i) = u)).length
/-- Loop `j`'s slot rewritten from the master copy. -/
def State.loadSlot (s : State) (j : Nat) : State := { s with tableRam := Assoc.set s.tableRam (s.slotKey j) (s.loopCfg j) }
/-- Every slot loaded from the LOOPS section (R228). -/
def State.loadTables (s : State) : State := (List.range s.loopCount).foldl State.loadSlot { s with tableRam := [] }
/-- The slots that an uncorrectable error has destroyed are rewritten from the master copy (Table 8-6). -/
def State.repairTables (s : State) : State :=
  if s.tableRam.length = s.loopCount then s
  else (List.range s.loopCount).foldl (fun s j => if (Assoc.get? s.tableRam (s.slotKey j)).isSome then s else s.loadSlot j) s

/-- BAD or STALE (R235). -/
def qBad (q : Nat) : Bool := decide (qualityMain q = 2) || decide (qualityMain q = 3)

/-- A ramp whose step is +∞ is its target (R234); whether the step limited it. -/
def rampStep (target current step : Nat) : Nat × Bool :=
  if step = f32.infinity false then (target, false)
  else
    let d := fSub f32 target current
    let limited := fLt f32 step d || fLt f32 d (fNeg f32 step)
    (rampF32 target current step, limited)

/-- The gains of an error by interpolation (R235): KP, KI, KD, KF. -/
def gainsAt (gain : Bytes) (e : Nat) : Nat × Nat × Nat × Nat :=
  let x := fun k => u32At gain (32 + 4 * k)
  let v := clampF32 e (x 0) (x 32)
  let i := ((List.range 32).filter fun k => decide (1 ≤ k) && fLe f32 (x k) v).length
  let f := fDiv f32 (fSub f32 v (x i)) (fSub f32 (x (i + 1)) (x i))
  let g := fun o =>
    let lo := u32At gain (176 + 16 * i + o)
    let hi := u32At gain (176 + 16 * (i + 1) + o)
    fAdd f32 lo (fMul f32 f (fSub f32 hi lo))
  (g 0, g 4, g 8, g 12)

/-- What the judgements of an evaluation fix before the branch of R234. -/
structure LoopJudged where
  r : LoopRec
  spBad : Bool
  pvBad : Bool
  pvLost : Bool
  spLost : Bool
  frozen : Bool
  envelope : Bool
  hold : Bool
  lossEntry : Bool
  freezeEntry : Bool
  envelopeChange : Bool
  deriving DecidableEq, Repr

/-- Loss, then freeze, then envelope (R239, R240, R242). -/
def judgeLoop (cfg gain : Bytes) (r : LoopRec) : LoopJudged :=
  let frozen0 := bit r.status 4
  let spBad := qBad r.spQ
  let pvBad := qBad r.pvQ && !(decide (r.pvQ = 0x4600) && frozen0)
  let bad := spBad || pvBad
  let loss := if bad then min 255 (r.lossCount + 1) else 0
  let lossEntry := bad && decide (u8At cfg 5 ≤ loss) && !bit r.status 2 && !bit r.status 3
  let pvLost := if lossEntry then pvBad else bad && bit r.status 2
  let spLost := if lossEntry then spBad else bad && bit r.status 3
  let window := u16At cfg 44
  let changed := decide (r.pv ≠ r.frzValue)
  let r1 := if window = 0 then { r with frzCount := 0, frzValue := r.pv }
    else if pvBad then r
    else if changed then { r with frzValue := r.pv, frzCount := 0, frzOut := r.u1 }
    else { r with frzCount := min (r.frzCount + 1) 65535 }
  let freezeEntry := decide (window ≠ 0) && !pvBad && !frozen0 && decide (window ≤ r1.frzCount) &&
    fLt f32 (u32At cfg 48) (fAbs f32 (fSub f32 r.u1 r1.frzOut))
  let frozen := if window = 0 then false else if pvBad then frozen0 else freezeEntry || (frozen0 && !changed)
  let env0 := bit r.status 7
  let lo := u32At gain 8
  let hi := u32At gain 12
  let hy := u32At gain 16
  let envelope := if qBad r.loadQ || fLt f32 r.load lo || fLt f32 hi r.load then true
    else if judged r.loadQ && fLe f32 (fAdd f32 lo hy) r.load && fLe f32 r.load (fSub f32 hi hy) then false else env0
  { r := { r1 with lossCount := loss }, spBad := spBad, pvBad := pvBad, pvLost := pvLost, spLost := spLost, frozen := frozen,
    envelope := envelope, hold := pvLost || spLost || frozen, lossEntry := lossEntry, freezeEntry := freezeEntry,
    envelopeChange := envelope != env0 }

/-- A test signal (R249): the signal, and the PRBS register after it. -/
def testSignalOf (t : LoopTest) (n lfsr : Nat) : Nat × Nat :=
  let neg := fNeg f32 t.amplitude
  if t.mode = 1 then (t.amplitude, lfsr)
  else if t.mode = 2 then (if n / t.period % 2 = 0 then t.amplitude else neg, lfsr)
  else
    let next := if n % t.period = t.period - 1 then (lfsr * 2 + b2n (bit lfsr 14 != bit lfsr 13)) % 32768 else lfsr
    (if bit lfsr 0 then t.amplitude else neg, next)

/-- The law of R235 from the record, the effective set-point error and the constants: the record after it and the output, with
whether the rate limit, the upper and the lower clamp acted. -/
def loopLaw (cfg gain : Bytes) (derated : Bool) (e : Nat) (r : LoopRec) : LoopRec × Nat × Bool × Bool × Bool :=
  let cls := loopClass cfg
  let rev := bit (u8At cfg 4) 0
  let y := if bit (u8At cfg 4) 1 then (if rev then r.pv else fNeg f32 r.pv) else e
  let ffBad := qBad r.ffQ
  let re := bit r.flags 0
  let e1 := if re then e else r.e1
  let y1 := if re then y else r.y1
  let dy1 := if re then 0 else r.dy1
  let ff1 := if re then r.ff else if bit r.flags 1 && !ffBad then r.ff else r.ff1
  let d1 := fSub f32 e e1
  let dy := fSub f32 y y1
  let d2 := fSub f32 dy dy1
  let (kp, ki, kd, kf) := gainsAt gain e
  let m := fun g => if derated then fMul f32 g (u32At cfg 52) else g
  let p := fMul f32 (m kp) d1
  let iv := fMul f32 (fMul f32 (m ki) e) (classT cls)
  let dv := fMul f32 (fMul f32 (m kd) d2) (classTinv cls)
  let fv := if u32At cfg 16 = 0xFFFFFFFF || ffBad then 0 else fMul f32 (m kf) (fSub f32 r.ff ff1)
  let du := fAdd f32 (fAdd f32 (fAdd f32 p iv) dv) fv
  let (ur, limited) := rampStep (fAdd f32 r.u1 du) r.u1 (u32At cfg 32)
  let u := clampF32 ur (u32At cfg 24) (u32At cfg 28)
  ({ r with e1 := e, y1 := y, dy1 := dy, ff1 := if ffBad then ff1 else r.ff, flags := ofBits [false, ffBad] }, u, limited,
    fLt f32 (u32At cfg 28) ur, fLt f32 ur (u32At cfg 24))

/-- Tally codes of the shuttles (Table 18-3). -/
def tLoopLost : Nat := 0x0501
def tLoopFrozen : Nat := 0x0502
def tLoopReengaged : Nat := 0x0503
def tLoopMissed : Nat := 0x0504
def tLoopEnvelope : Nat := 0x0505
def tLoopTest : Nat := 0x0506

def loopObj (j sub : Nat) : Nat := objAddr (0x10000 + j) sub

/-- A shuttle tally with its four parameters (R236). -/
def State.loopTally (s : State) (j cutoff : Nat) (r : LoopRec) (code : Nat) : State :=
  s.issueStationTally code [j + r.status * 65536, r.out, if code = tLoopEnvelope then r.load else r.pv, low32 cutoff]

def State.pairCapture (s : State) (q : Nat) : Capture := (s.captures.toList[q]?).getD ⟨none, none, 0, 0, [], [], 0, 0⟩
def State.setCapture (s : State) (q : Nat) (c : Capture) : State := { s with captures := s.captures.set! q c }

/-- A miss (R238): the counters, the cause, the gap of a running test and the first miss's tally. -/
def State.loopMiss (s : State) (j cutoff : Nat) (cfg : Bytes) (r : LoopRec) (cause : Nat) : State :=
  let s1 := ((s.count (loopObj j 0x30)).count Obj.loopMisses).setObj (loopObj j 0x13) (leBytes 1 cause)
  let q := loopShuttle cfg / 2
  let c := s1.pairCapture q
  let s2 := match c.test with
    | some t => if t.loop = j && decide (r.testState = 1) then s1.setCapture q { c with gaps := min 65535 (c.gaps + 1) } else s1
    | none => s1
  if s2.loopsMissed.contains j then s2 else s2.loopTally j cutoff r tLoopMissed

/-- What an evaluation comes to: the record it leaves, the judgement, the test that runs or ended, and the set-point, test signal and output
that a capture shows. -/
structure LoopRun where
  left : LoopRec
  judged : LoopJudged
  running : Option LoopTest
  ended : Option Nat
  first : Bool
  capture : Bool
  sp : Nat
  signal : Nat
  out : Nat
  reengaged : Bool
  held : Bool
  deriving DecidableEq, Repr

/-- The law of R234 to R242 and the test of R248 on a record, `captured` being the test of the pair's capture, and `wasHeld` saying that
the law has not run since a hold. -/
def loopRun (cfg gain : Bytes) (captured : Option LoopTest) (j : Nat) (r0 : LoopRec) (skipped wasHeld : Bool) : LoopRun :=
  let g := judgeLoop cfg gain r0
  let r := g.r
  let test := match captured with | some t => if t.loop = j && decide (r.testState = 1) then some t else none | none => none
  -- the test signal, or the end of the test
  let ended := match test with
    | some t => if g.hold then some 3 else if t.duration ≤ r.testIndex then some 2 else none
    | none => none
  let running := if ended.isSome then none else test
  let sig := match running with | some t => testSignalOf t r.testIndex r.testLfsr | none => (0, r.testLfsr)
  let ts := sig.1
  let onSp := match running with | some t => decide (t.target = 1) | none => false
  let lo := u32At cfg 24
  let hi := u32At cfg 28
  let sp' := if onSp then fAdd f32 r.sp ts else r.sp
  let e := if bit (u8At cfg 4) 0 then fSub f32 r.pv sp' else fSub f32 sp' r.pv
  let auto := decide (r.mode = 1)
  let bad := g.spBad || g.pvBad
  let derated := g.envelope && bit (u8At cfg 4) 2
  let fbRamp := bit (u8At cfg 4) 3
  let reflag := putBit (putBit r.flags 0 true) 1 (bit r.flags 1 || qBad r.ffQ)
  let law := loopLaw cfg gain derated e r
  -- record, output, held, init, limited, sat hi, sat lo
  let res : LoopRec × Nat × Bool × Bool × Bool × Bool × Bool :=
    if !auto then ({ r with flags := reflag }, clampF32 r.manual lo hi, false, false, false, fLt f32 hi r.manual, fLt f32 r.manual lo)
    else if g.hold then
      ({ r with flags := reflag }, if fbRamp then (rampStep (u32At cfg 36) r.u1 (u32At cfg 40)).1 else r.u1, true, false, false, false, false)
    else if bad then ({ r with flags := reflag }, r.u1, true, false, false, false, false)
    else (law.1, law.2.1, false, bit r.flags 0, law.2.2)
  let (r1, u, held, init, limited, satHi, satLo) := res
  let onOut := running.isSome && !onSp
  let raw := fAdd f32 u ts
  let out := if onOut then clampF32 raw lo hi else u
  let outQ := if !auto then 0 else if held then 0x2400 else if g.envelope then 0x2100
    else if qualityMain r.spQ = 1 || qualityMain r.pvQ = 1 then 0x2000 else 0
  let atFb := g.hold && (if auto then fbRamp && fEq f32 u (u32At cfg 36) else bit r0.status 6)
  let status := ofBits [auto, init, g.pvLost, g.spLost, g.frozen, g.hold, atFb, g.envelope, derated,
    satHi || (onOut && fLt f32 hi raw), satLo || (onOut && fLt f32 raw lo), limited, skipped, qBad r.ffQ, running.isSome]
  let capture := match running with
    | some t => decide (r.testIndex % t.decimation = 0) && decide (r.captureCount < 6144)
    | none => false
  let r2 : LoopRec := { r1 with
    u1 := u
    manual := if auto then u else r.manual
    out := out
    outQ := outQ
    error := e
    status := status
    testSignal := ts
    testIndex := if running.isSome then r.testIndex + 1 else r.testIndex
    testLfsr := sig.2
    testState := ended.getD r.testState
    captureCount := r.captureCount + b2n capture }
  let waits := bit r0.status 5 || wasHeld
  ⟨r2, g, running, ended, decide (r.testIndex = 0), capture, sp', ts, out, auto && waits && !g.hold && !bad, g.hold || (auto && bad && waits)⟩

/-- The tallies of an evaluation (R239 to R242, R248). -/
def State.loopTallies (s : State) (j cutoff : Nat) (x : LoopRun) : State :=
  let s1 := if x.judged.lossEntry then (s.count (loopObj j 0x31)).loopTally j cutoff x.left tLoopLost else s
  let s2 := if x.judged.freezeEntry then (s1.count (loopObj j 0x32)).loopTally j cutoff x.left tLoopFrozen else s1
  let s3 := if x.judged.envelopeChange then s2.loopTally j cutoff x.left tLoopEnvelope else s2
  let s4 := if x.ended.isSome then s3.loopTally j cutoff x.left tLoopTest else s3
  if x.reengaged then s4.loopTally j cutoff x.left tLoopReengaged else s4

/-- The law's part of an evaluation, once gates, skips and repeats are settled (R234). -/
def State.runLoop (s : State) (j cutoff : Nat) (cfg : Bytes) (r0 : LoopRec) (skipped : Bool) : State :=
  let q := loopShuttle cfg / 2
  let cap := s.pairCapture q
  let x := loopRun cfg (s.storeRead (s.gainAt (u16At cfg 6)) 704) cap.test j r0 skipped (s.loopsHeld.contains j)
  let s1 := s.storeWrite (loopRecAt cfg) x.left.bytes
  let record := leBytes 4 x.sp ++ leBytes 4 x.judged.r.pv ++ leBytes 4 x.out ++ leBytes 4 x.signal
  let s2 := match x.running, x.ended with
    | some _, _ => s1.setCapture q { cap with
        firstCutoff := if x.first then cutoff else cap.firstCutoff
        staged := if x.capture then cap.staged ++ [record] else cap.staged }
    | none, some code => s1.setCapture q { cap with status := code }
    | none, none => s1
  let s3 := if skipped then s2.loopMiss j cutoff cfg x.left 2 else s2
  let others := fun (ks : List Nat) => ks.filter fun k => decide (k ≠ j)
  ({ s3 with loopsMissed := others s3.loopsMissed, loopsHeld := if x.held then j :: others s3.loopsHeld else others s3.loopsHeld }).loopTallies j cutoff x

/-- One evaluation of loop `j` in the current cycle of its class; `lost` where the configuration read was uncorrectable (R234). -/
def State.evalLoop (s : State) (j : Nat) (lost : Bool) : State :=
  let cfg := s.loopCfg j
  let cutoff := s.weftTick (loopClass cfg)
  let m := cutoff / lenOfCode (loopClass cfg) % 32768
  let r := loopRecOf (s.storeRead (loopRecAt cfg) 96)
  if r.eval = m + 32768 then s.count Obj.loopRepeats
  else
    let skipped := decide (32768 ≤ r.eval) && decide (r.eval ≠ (m + 32767) % 32768 + 32768)
    let r1 := { r with eval := m + 32768, flags := if r.eval < 32768 then putBit r.flags 0 true else r.flags }
    if r1.gate ≠ 0 || lost then
      let r2 := { r1 with gate := 0, status := putBit r1.status 12 true, flags := putBit r1.flags 0 true }
      let s1 := (s.storeWrite (loopRecAt cfg) r2.bytes).loopMiss j cutoff cfg r2 (if r1.gate ≠ 0 then 1 else 3)
      { s1 with loopsMissed := j :: s1.loopsMissed.filter fun k => decide (k ≠ j) }
    else s.runLoop j cutoff cfg { r1 with flags := if skipped then putBit r1.flags 0 true else r1.flags } skipped

/-- The queue of a shuttle: in CANVAS that of its pair (R193). -/
def State.shuttleQueue (s : State) (u : Fin 16) : Fin 16 := if s.canvas then ⟨u.val / 2 * 2, by omega⟩ else u

/-- The loop's configuration slot is read with an outcome (R228, Table 8-6): an uncorrectable error destroys it until the guard. -/
def State.evalFromSlot (s : State) (j : Nat) (ram : TableRam) : State :=
  match ram, Assoc.get? s.tableRam (s.slotKey j) with
  | .good, some _ => s.evalLoop j false
  | .corrected, some _ => (s.count Obj.tableRamCorrected).evalLoop j false
  | _, _ => ({ s with tableRam := Assoc.erase s.tableRam (s.slotKey j) }.count Obj.tableRamUncorrectable).evalLoop j true

/-- One loop's 64 slots on a shuttle (R185, R227, R229): the next loop of its first activation; `ram` is the state of the loop's
configuration slot. -/
def execLoopEvaluation (u : Fin 16) (ram : TableRam) (s : State) : Host.Outcome State Fault Refusal :=
  let k := s.shuttleQueue u
  .next (match s.eng.shuttles[k] with
    | [] => s
    | a :: rest =>
      let j := a.first + a.done
      let (b, last) := a.advance
      let bound := loopShuttle (s.loopCfg j)
      let here := if s.canvas then decide (bound / 2 = k.val / 2) else decide (bound = k.val)
      let s1 := if s.loopCount ≤ j then s
        else if !here then s.count Obj.bindingMisses
        else s.evalFromSlot j ram
      ({ s1 with eng := { s1.eng with shuttles := s1.eng.shuttles.set k (if last then rest else b :: rest) } }).tagUnit a.lane a.tag 1 last)

/-- LOSS_COUNT has reached LOSS_TOLERANCE (R239): the flags, HOLD, the entry and the tally, unless the evaluation that counted has
set them. -/
def execLoopLost (loop : BitVec 12) (s : State) : Host.Outcome State Fault Refusal :=
  let j := loop.toNat
  let cfg := s.loopCfg j
  let r := s.loopRec j
  .next (if j < s.loopCount && decide (u8At cfg 5 ≤ r.lossCount) && decide (0 < r.lossCount) && !bit r.status 2 && !bit r.status 3 then
      let r1 := { r with status := putBit (putBit (putBit r.status 2 (qBad r.pvQ)) 3 (qBad r.spQ)) 5 true }
      ((s.storeWrite (loopRecAt cfg) r1.bytes).count (loopObj j 0x31)).loopTally j (s.weftTick (loopClass cfg)) r1 tLoopLost
    else s)

/-- FRZ_COUNT has reached FREEZE_WINDOW with the output moved beyond the threshold (R240). -/
def execLoopFrozen (loop : BitVec 12) (s : State) : Host.Outcome State Fault Refusal :=
  let j := loop.toNat
  let cfg := s.loopCfg j
  let r := s.loopRec j
  .next (if j < s.loopCount && decide (u16At cfg 44 ≠ 0) && decide (u16At cfg 44 ≤ r.frzCount) && !bit r.status 4 &&
      fLt f32 (u32At cfg 48) (fAbs f32 (fSub f32 r.u1 r.frzOut)) then
      let r1 := { r with status := putBit (putBit r.status 4 true) 5 true }
      ((s.storeWrite (loopRecAt cfg) r1.bytes).count (loopObj j 0x32)).loopTally j (s.weftTick (loopClass cfg)) r1 tLoopFrozen
    else s)

/-- A running test of loop `j` ends in the cycle cut off at `cutoff` with TestStatus `code` (R248): ts is 0 from then on, TEST clears and
LOOP_TEST is written. -/
def State.testEnd (s : State) (j code cutoff : Nat) : State :=
  let cfg := s.loopCfg j
  let r := s.loopRec j
  if j < s.loopCount && decide (r.testState = 1) then
    let r1 := { r with testState := code, testSignal := 0, status := putBit r.status 14 false }
    let q := loopShuttle cfg / 2
    let c := s.pairCapture q
    let s1 := if c.test.any fun t => decide (t.loop = j) then s.setCapture q { c with status := code } else s
    (s1.storeWrite (loopRecAt cfg) r1.bytes).loopTally j cutoff r1 tLoopTest
  else s

/-- TEST_INDEX has reached TestDuration: the test ends DONE (R248). -/
def execTestComplete (loop : BitVec 12) (s : State) : Host.Outcome State Fault Refusal :=
  let j := loop.toNat
  .next (match (s.pairCapture (loopShuttle (s.loopCfg j) / 2)).test with
    | some t => if t.loop = j && decide (t.duration ≤ (s.loopRec j).testIndex) then s.testEnd j 2 (s.weftTick (loopClass (s.loopCfg j))) else s
    | none => s)

/-- A test starts at the loop's cut-off (R248): the capture area is emptied, the record's test fields are set, LOOP_TEST is
written. -/
def State.testStart (s : State) (t : LoopTest) (cutoff : Nat) : State :=
  let cfg := s.loopCfg t.loop
  let r := s.loopRec t.loop
  let r1 := { r with testIndex := 0, captureCount := 0, testLfsr := t.seed, testState := 1, status := putBit r.status 14 true }
  ((s.setCapture (loopShuttle cfg / 2) ⟨some t, none, cutoff, 0, [], [], loopClass cfg, 1⟩).storePut (loopRecAt cfg) r1.bytes).loopTally t.loop cutoff r1 tLoopTest

/-- The capture domain of a shuttle pair (Table 8-10). -/
def State.captureDomain (s : State) (q : Nat) : Bytes :=
  let c := s.pairCapture q
  match c.test with
  | none => zeros 32
  | some t =>
    leBytes 2 t.loop ++ [byte c.cls, byte t.mode, byte t.target, byte c.status] ++ leBytes 2 t.decimation ++
      leBytes 8 c.firstCutoff ++ leBytes 4 c.records.length ++ leBytes 2 c.gaps ++ leBytes 2 t.period ++ leBytes 4 t.amplitude ++
      leBytes 2 t.seed ++ zeros 2 ++ c.records.flatten

end Sys2Proof.Machine
end

