-- ==== Sys2Proof/Machine/Engines.lean ====
section
/-! DEFINITION. The execution window (chapter 06): the start of the lanes (R171, R172, R193), the engine instructions SHUT, TROM, DMAI
(R185 to R187), WAIT and its release (R188, R192), COMMIT, WEFT and END (R183, R184, R191), and the lockstep of CANVAS (R194 to
R197). -/

namespace Sys2Proof.Machine

def State.profile (s : State) : Nat := s.num Obj.activeProfile

/-- Sequencer clock of the tick in MHz (R28, Table 1-9). -/
def State.tickClock (s : State) : Nat := (clockAt (sectBody s.sections 9) s.profile (tickIndex s.tick)).1

/-- The window of a program as it starts (R172): w1 the ordinal, w2 the tick index, w3 the lane number. -/
def startWindow (k i l : Nat) : Vector Word64 512 :=
  (((Vector.replicate 512 (0 : Word64)).set 1 (BitVec.ofNat 64 k)).set 2 (BitVec.ofNat 64 i)).set 3 (BitVec.ofNat 64 l)

def noTag : LaneTag := ⟨false, 0, 0, ⟨0, 0, 0, 0⟩⟩

/-- A lane that starts the program of number `l` in tick index `i` (R172). -/
def startLane (running second : Bool) (program k i l : Nat) : Lane :=
  { running := running, second := second, program := program, pc := 0, regs := startWindow k i l, cycle := 0, drain := 0,
    ready := Vector.replicate 512 0, waiting := none, tags := Vector.replicate 32 noTag,
    latched := Vector.replicate 32 ⟨0, 0, 0, 0⟩, relocate := 0, retired := none }

/-- The four lanes of tick index `i`: in CANVAS the odd ones wait for their pair's first program (R193). -/
def State.tickLanes (s : State) : Vector Lane 4 :=
  let i := tickIndex s.tick
  match runAt (programRuns (sectBody s.sections 10)) i with
  | some (r, k) => Vector.ofFn fun l : Fin 4 => startLane true (s.canvas && decide (l.val % 2 = 1)) (runProgram r l.val) k i l.val
  | none => Vector.ofFn fun l : Fin 4 => startLane false false 0 0 i l.val

/-- The engines idle, with the tick's lanes about to start; capture lists and gates stay. -/
def State.startEngines (s : State) : State :=
  { s with eng := { s.eng with
      lanes := s.tickLanes, shuttles := Vector.replicate 16 [], shuttleEnd := Vector.replicate 16 0, passes := [], passEnd := 0
      jobs := s.eng.jobs.filter fun j => j.lane.isNone
      landing := s.eng.landing.filter fun x => !x.lane
      closed := [], undo := [] } }

/-- WEFT (R183). -/
def execLaneWeft (l : Fin 4) (d : Fin 512) (cls : CClass) (s : State) : Host.Outcome State Fault Refusal :=
  .next (s.compute l [] 1 1 d fun _ => BitVec.ofNat 64 (s.weftOf (classCode cls)))

/-- COMMIT retires after every earlier store of its lane, and closes the class's output buffer (R184, R191); which of the two buffers that is, the
addresses of the warp say (DEDUCED, log entry 155). -/
def execLaneCommit (l : Fin 4) (cls : CClass) (s : State) : Host.Outcome State Fault Refusal :=
  let x := s.lane l
  .next (if x.active then
      let s1 := s.setLane l (x.took (max x.cycle x.drain) 1 0 0)
      { s1 with eng := { s1.eng with closed := s1.eng.closed ++ [classCode cls] } }
    else s)

/-- A tag of a lane takes an operation planned to end at a slot (R188, R192). -/
def LaneTag.issue (t : LaneTag) (planned : Nat) : LaneTag :=
  { t with issued := true, planned := max t.planned planned, open_ := t.open_ + 1, live := { t.live with state := 0 } }

/-- SHUT (R185, R192): `count` loops from w[a][11:0] on a shuttle; a gated pair takes nothing (R447). -/
def execLaneShut (l : Fin 4) (a : Fin 512) (unit : Fin 16) (tag : Fin 32) (count : BitVec 28) (s : State) :
    Host.Outcome State Fault Refusal :=
  let x := s.lane l
  .next (if x.active then
      let start := x.startOf [a]
      let u := s.shuttleQueue unit
      let n := count.toNat
      let s1 := s.setLane l (x.took start 2 0 0)
      if n = 0 || !bit s.eng.gates (unit.val / 2) then s1
      else
        let e := max (slotOfCycle s.tickClock start) s.eng.shuttleEnd[u] + 64 * n
        let act : Activation := ⟨l.val, tag.val, (x.reg a).toNat % 4096, n, 0⟩
        { s1 with eng := { s1.eng with shuttles := s1.eng.shuttles.set u (s1.eng.shuttles[u] ++ [act]),
                                       shuttleEnd := s1.eng.shuttleEnd.set u e } }.mapTag l.val tag.val (·.issue e)
    else s)

/-- TROM (R186, R192): a pass over `count` points from w[a][17:0]; a gated trommel takes nothing (R447). -/
def execLaneTrom (l : Fin 4) (a : Fin 512) (tag : Fin 32) (count : BitVec 28) (s : State) : Host.Outcome State Fault Refusal :=
  let x := s.lane l
  .next (if x.active then
      let start := x.startOf [a]
      let n := count.toNat
      let s1 := s.setLane l (x.took start 2 0 0)
      if n = 0 || !bit s.eng.gates 8 then s1
      else
        let e := max (slotOfCycle s.tickClock start) s.eng.passEnd + 16 + 4 * n
        let act : Activation := ⟨l.val, tag.val, (x.reg a).toNat % 262144, n, 0⟩
        { s1 with eng := { s1.eng with passes := s1.eng.passes ++ [act], passEnd := e } }.mapTag l.val tag.val (·.issue e)
    else s)

/-- The Loom slot in which an engine instruction of a cycle is issued (R192); a re-execution runs W pair cycles later (R196). -/
def State.issueSlot (s : State) (cycle : Nat) : Nat :=
  slotOfCycle s.tickClock cycle + (if s.eng.reexecuting then reexecStart (tickCounts s.sections 3 (tickIndex s.tick)) else 0)

/-- The plan of the tick has an execution-kind slot of an engine's port at or after a slot (R187). -/
def State.slotsLeft (s : State) (engine slot : Nat) : Bool :=
  (s.engineSlots engine 1).any fun e => decide (slot < e.1 + e.2)

/-- DMAI (R187): list number `list` with DMA_RELOCATE, which it clears; a list on a halted channel is discarded at once (R464), and one whose
slots have all passed, or go to the lists before it, moves nothing: its operation is over. -/
def execLaneDmai (l : Fin 4) (tag : Fin 32) (list : BitVec 28) (s : State) : Host.Outcome State Fault Refusal :=
  let x := s.lane l
  .next (if x.active then
      let s1 := s.setLane l { x.took x.cycle 2 0 0 with relocate := 0 }
      match s.lists[list.toNat]? with
      | none => s1
      | some d =>
        let slot := s.issueSlot x.cycle
        let (e, stuck) := (plannedList s.sections s.profile (tickIndex s.tick) l.val x.pc).getD (slot, false)
        let job := s.newJob d (some (l.val, tag.val)) x.relocate slot []
        let s2 := s1.mapTag l.val tag.val (·.issue e)
        if s.isHalted d.engine d.channel then s2.discardList job
        else if stuck || !s.slotsLeft d.engine slot then s2.mapTag l.val tag.val (·.complete 0 0 0)
        else s2.addJob job
    else s)

/-- WAIT: the lane is held from its start on until WAIT_RELEASE (R188). -/
def execLaneWait (l : Fin 4) (d : Fin 512) (mask : BitVec 32) (s : State) : Host.Outcome State Fault Refusal :=
  let x := s.lane l
  .next (if x.active then s.setLane l { x with waiting := some (mask.toNat, d.val, x.cycle) } else s)

/-- The tags of a lane that a mask names. -/
def Lane.maskTags (x : Lane) (mask : Nat) : List LaneTag :=
  (x.tags.toList.zipIdx.filter fun p => bit mask p.2).map (·.1)

/-- Release cycle of a tag set (R192): the last planned completion slot. -/
def releaseOf (f : Nat) (ts : List LaneTag) : Nat := releaseCycle f (ts.foldl (fun m t => max m t.planned) 0)

/-- The records of the tags in a mask are latched (R175). -/
def Lane.latch (y x : Lane) (mask : Nat) : Lane :=
  let l := x.latched.mapFinIdx fun g r _ => if bit mask g then ((x.tags.toList[g]?).getD noTag).live else r
  { y with latched := l }

/-- The lane's WAIT releases (R175, R188, R192), once every operation under its tags has completed: the records of its tags are
latched and w[D] takes their error bits. -/
def execWaitRelease (l : Fin 4) (s : State) : Host.Outcome State Fault Refusal :=
  let x := s.lane l
  .next (match x.waiting with
    | none => s
    | some (mask, d, start0) =>
      if ((x.maskTags mask).any fun t => decide (t.open_ ≠ 0)) then s
      else
        let start := max start0 (releaseOf s.tickClock (x.maskTags mask))
        let dr : Fin 512 := Fin.ofNat 512 d
        let errs := ofBits ((x.tags.toList.zipIdx).map fun p => bit mask p.2 && decide (p.1.live.state = 2))
        let y := ({ x with waiting := none }.took start 1 dr 1).setReg dr (BitVec.ofNat 64 errs)
        s.setLane l (y.latch x mask))

/-- The lane after END (R171, R191): retired with its count. -/
def Lane.retire (x : Lane) (f : Nat) : Lane :=
  let start := max (max x.startAll x.drain) (releaseOf f (x.tags.toList.filter (·.issued)))
  let y := x.took start 1 0 0
  { y with running := false, retired := some y.cycle }

/-- A re-execution has retired on both pairs without a further mismatch (Table 6-5). -/
def State.reexecDone (s : State) : Bool :=
  s.eng.reexecuting && decide (s.eng.mismatches = 1) && s.eng.lanes.toList.all fun x => !x.running

/-- END, once every operation of the lane has completed. In CANVAS the pair goes on with its second program eight pair cycles later,
with every register ready and the drain kept (R193). -/
def execLaneEnd (l : Fin 4) (s : State) : Host.Outcome State Fault Refusal :=
  let x := s.lane l
  .next (if x.active && (x.tags.toList.all fun t => decide (t.open_ = 0)) then
      let y := x.retire s.tickClock
      let s1 := s.setLane l y
      let k : Fin 4 := ⟨l.val / 2 * 2 + 1, by omega⟩
      let n := s1.lane k
      let s2 := if s.canvas && decide (l.val % 2 = 0) && n.second then
          s1.setLane k { n with second := false, cycle := y.cycle + 8, drain := y.drain, ready := Vector.replicate 512 (y.cycle + 8) }
        else s1
      if s2.reexecDone then s2.count Obj.reexecutions else s2
    else s)

/-- The Store lines of the undo area restored (R196). -/
def State.undoAll (s : State) : State :=
  let s1 := s.eng.undo.foldl (fun (s : State) e => s.storePut (e.1 * 32) e.2) s
  { s1 with eng := { s1.eng with undo := [] } }

/-- The lanes and engines stopped at the next Loom slot, with the deferred effects of the window discarded (R196). -/
def State.stopWindow (s : State) : State :=
  { s with
    eng := { s.eng with
      lanes := s.eng.lanes.map fun x => { x with running := false, second := false, waiting := none, retired := none }
      shuttles := Vector.replicate 16 [], passes := [], closed := []
      jobs := s.eng.jobs.filter fun j => j.lane.isNone
      landing := s.eng.landing.filter fun x => !x.lane }
    loopsMissed := s.eng.missedBefore
    loopsHeld := s.eng.heldBefore
    captures := s.captures.mapFinIdx fun q c _ => { c with staged := [], gaps := (s.eng.gapsBefore.toList[q]?).getD 0 }
    tally := { s.tally with issued := [] } }

/-- A compare of CANVAS finds a mismatch in a lane pair, or in a shuttle pair (R194 to R197). The first of a tick stops the window and
restores the undo area; the second, in the same compares or in the re-execution's, stages nothing and asserts the escalation source. None is found before
the lanes run, or once the later pair has retired. -/
def execLockstepMismatch (shuttle : Bool) (pair : Fin 8) (pairCycle : BitVec 32) (s : State) : Host.Outcome State Fault Refusal :=
  let comparing := s.eng.lanes.toList.any (·.running) || (decide (s.eng.mismatches = 1) && !s.eng.reexecuting)
  .next (if s.canvas && s.executes && decide (s.eng.mismatches < 2) && comparing then
      let form := b2n shuttle * 2 ^ 31 + pair.val % 8 * 2 ^ 28 + tickIndex s.tick
      let s1 := ((s.count Obj.lockstepMismatches).setNum Obj.lastMismatch form).logTally 0x0302
        [form, if s.eng.reexecuting then 2 else 1, pairCycle.toNat, low32 s.tick]
      let s2 := s1.stopWindow.undoAll
      if s.eng.mismatches = 0 then { s2 with eng := { s2.eng with mismatches := 1 } }
      else ({ s2 with eng := { s2.eng with mismatches := 2, discard := true } }).assertSource .lockstep .s
    else s)

/-- Both pairs start the re-execution at pair cycle W from the same weft (R196). -/
def execReExecution (s : State) : Host.Outcome State Fault Refusal :=
  .next (if s.canvas && s.executes && decide (s.eng.mismatches = 1) && !s.eng.reexecuting then
      let s1 := s.startEngines
      { s1 with eng := { s1.eng with reexecuting := true } }
    else s)

end Sys2Proof.Machine
end

