-- ==== Sys2Proof/Machine/Objects.lean ====
section
/-! DEFINITION. The dictionary of the running station: the rows of the objects that the loaded warp defines (Tables 7-1, 7-13, 8-7,
8-8), which indices and subindices exist (R37), and the value of every object (R50, R60, R202). -/

namespace Sys2Proof.Machine

/-! ### Warp-defined rows -/

/-- Type of a type code (Table 2-1) that a point can have. -/
def typeOfCode (c : Nat) : ObjType :=
  match c with
  | 1 => .bool | 2 => .u8 | 3 => .u16 | 4 => .u32 | 5 => .u64 | 6 => .i8 | 7 => .i16 | 8 => .i32 | 9 => .i64 | 10 => .f32
  | _ => .f64

/-- Bit range of a PD field in a body: first bit and length (R155). -/
def fieldSpan (f : PdField) : Nat × Nat := if f.encoding = 1 then (8 * f.offset + f.bitPos, 1) else (8 * f.offset, 8 * typeSize (typeOfCode f.encoding))

/-- A row of one object with WEFT or other effect, station-scope. -/
def warpRow (a : Nat) (type : ObjType) (access : Access) (persistent : Bool) (effect : EffectTime) (audit : Bool) (range : RangeRule) : ObjRow :=
  ⟨"", addrIndex a, 1, 1, addrSub a, 1, type, access, persistent, [], effect, audit, true, range⟩

/-- Access of .00 by ATTRIBUTES (Table 5-4). -/
def pointAccess (p : PointDef) : Access := if p.attributes % 8 = 2 then .rw else if p.attributes % 8 = 3 then .rws else .ro

/-- Row of a point's subindex (Table 7-1); `sets` is LIMIT_SETS: with none, the range of .06 is empty. -/
def pointRow (p : PointDef) (sets a : Nat) : Option ObjRow :=
  let t := typeOfCode p.type
  match addrSub a with
  | 0 => some (warpRow a t (pointAccess p) (bit p.attributes 3) .weft (bit p.attributes 4) .any)
  | 1 => some (warpRow a .u16 .ro false .weft false .any)
  | 2 => some (warpRow a .time96 .ro false .weft false .any)
  | 3 => some (warpRow a t .rw true .weft true .any)
  | 4 => some (warpRow a .bool .rw false .weft true .any)
  | 5 => some (warpRow a .u16 .rw false .weft true (.nat 1 1))
  | 6 => some (warpRow a .u8 .rw true .weft true (if sets = 0 then .nat 1 0 else .nat 0 (sets - 1)))
  | _ => none

/-- Row of a loop's subindex (Table 8-7). -/
def loopRow (a : Nat) : Option ObjRow :=
  let w := fun t p r => some (warpRow a t .rw p .weft true r)
  let i := fun t r => some (warpRow a t .rw false .immediate true r)
  let ro := fun t => some (warpRow a t .ro false .weft false .any)
  match addrSub a with
  | 0x01 => w .u8 true (.nat 0 1)
  | 0x02 => w .f32 false .any
  | 0x03 => ro .f32
  | 0x04 => ro .f32
  | 0x05 => ro .u16
  | 0x06 => w .u16 true .any
  | 0x07 => w .f32 true .any
  | 0x08 => w .f32 true .any
  | 0x09 => w .f32 true .any
  | 0x0A => w .f32 true .any
  | 0x0B => w .f32 true .any
  | 0x0C => w .u16 true .any
  | 0x0D => w .f32 true .any
  | 0x0E => w .f32 true .any
  | 0x0F => w .u8 true (.nat 1 255)
  | 0x10 => some (warpRow a .u8 .rws true .weft true (.nat 0 15))
  | 0x11 => some (warpRow a (.octets 16) .ro false .immediate false .any)
  | 0x12 => some (warpRow a .u16 .ro false .immediate false .any)
  | 0x13 => some (warpRow a .u8 .ro false .immediate false .any)
  | 0x20 => w .u8 false (.nat 0 3)
  | 0x21 => i .u8 (.nat 0 1)
  | 0x22 => i .f32 .any
  | 0x23 => i .u16 (.nat 1 65535)
  | 0x24 => i .u32 (.nat 1 4000000)
  | 0x25 => i .u16 (.nat 1 0x7FFF)
  | 0x26 => i .u16 (.nat 1 65535)
  | 0x27 => ro .u8
  | 0x30 => some (warpRow a .u32 .rw false .immediate false .zero)
  | 0x31 => some (warpRow a .u32 .rw false .immediate false .zero)
  | 0x32 => some (warpRow a .u32 .rw false .immediate false .zero)
  | 0xFF => some (warpRow a (.octets 32) .ro false .immediate false .any)
  | _ => none

/-- Row of a gain table's subindex (Table 8-8). -/
def gainRow (a : Nat) : Option ObjRow :=
  let sub := addrSub a
  if sub = 1 then some (warpRow a .u32 .ro false .immediate false .any)
  else if 2 ≤ sub && sub ≤ 4 then some (warpRow a .f32 .rw true .weft true .any)
  else if 0x10 ≤ sub && sub ≤ 0x30 then some (warpRow a .f32 .rws true .weft true .any)
  else if 0x40 ≤ sub && sub ≤ 0x60 then some (warpRow a (.octets 16) .rw true .weft true .any) else none

/-- Row of an alarm group's subindex (Table 7-13). -/
def groupRow (maxShelve a : Nat) : Option ObjRow :=
  match addrSub a with
  | 1 => some (warpRow a .vstring .ro false .immediate false .any)
  | 2 => some (warpRow a .bool .rw false .weft true .any)
  | 3 => some (warpRow a .u32 .rw true .immediate true (.nat 1 maxShelve))
  | 4 => some (warpRow a .u64 .ro false .weft false .any)
  | 5 => some (warpRow a .u8 .wo false .weft true (.nat 1 1))
  | 6 => some (warpRow a .u32 .ro false .weft false .any)
  | 7 => some (warpRow a .u32 .ro false .weft false .any)
  | _ => none

def isPointIx (ix : Nat) : Bool := decide (0x100000 ≤ ix) && decide (ix < 0x140000)
def isLoopIx (ix : Nat) : Bool := decide (0x10000 ≤ ix) && decide (ix < 0x11000)
def isGainIx (ix : Nat) : Bool := decide (0x20000 ≤ ix) && decide (ix < 0x21000)
def isGroupIx (ix : Nat) : Bool := decide (0x30000 ≤ ix) && decide (ix < 0x31000)
/-- The range of station-scope indices (R42). -/
def isStationIx (ix : Nat) : Bool := decide (0x10000 ≤ ix) && decide (ix < 0x140000)

/-- LIMIT_SETS of a point. -/
def State.limitSetCount (s : State) (p : PointDef) : Nat := u8At (s.storeRead (pointCfgAt p) 4) 3 / 32

/-- Whether the station defines an index (R37). -/
def State.indexDefined (s : State) (ix : Nat) : Bool :=
  if isPointIx ix then (s.point? (ix - 0x100000)).isSome
  else if isLoopIx ix then decide (ix - 0x10000 < s.loopCount)
  else if isGainIx ix then decide (ix - 0x20000 < s.gainCount)
  else if isGroupIx ix then decide (ix - 0x30000 < s.groups.length)
  else fixedIndex ix

/-- The row of an address, where its index and subindex are defined (R37). -/
def State.objRow? (s : State) (a : Nat) : Option ObjRow :=
  let ix := addrIndex a
  if isPointIx ix then (match s.point? (ix - 0x100000) with | some p => pointRow p (s.limitSetCount p) a | none => none)
  else if isLoopIx ix then if ix - 0x10000 < s.loopCount then loopRow a else none
  else if isGainIx ix then if ix - 0x20000 < s.gainCount then gainRow a else none
  else if isGroupIx ix then (match s.groups[ix - 0x30000]? with | some g => groupRow (groupMaxShelve g) a | none => none)
  else fixedRow? a

/-- The class of a warp-defined object (R58): its point's, loop's or table's; Q for a group. -/
def State.classOfAddr (s : State) (a : Nat) : CClass :=
  let ix := addrIndex a
  let n := if isPointIx ix then (match s.point? (ix - 0x100000) with | some p => p.cls | none => 0)
    else if isLoopIx ix then loopClass (s.loopCfg (ix - 0x10000))
    else if isGainIx ix then s.storeNat (s.gainAt (ix - 0x20000) + 2) 1 else 0
  (classOf? n).getD .q

/-! ### Values -/

/-- Where a loop subindex lies in the loop's configuration record: offset and size (Tables 8-1 and 8-7). -/
def loopCfgField : Nat → Option (Nat × Nat)
  | 0x06 => some (6, 2) | 0x07 => some (24, 4) | 0x08 => some (28, 4) | 0x09 => some (32, 4) | 0x0A => some (36, 4)
  | 0x0B => some (40, 4) | 0x0C => some (44, 2) | 0x0D => some (48, 4) | 0x0E => some (52, 4) | 0x0F => some (5, 1)
  | 0x10 => some (4, 1) | 0x11 => some (8, 16) | 0x12 => some (2, 2)
  | _ => none

/-- Where a loop subindex lies in the loop's state record (Table 8-2). -/
def loopRecField : Nat → Option (Nat × Nat)
  | 0x01 => some (67, 1) | 0x02 => some (72, 4) | 0x03 => some (24, 4) | 0x04 => some (52, 4) | 0x05 => some (68, 2)
  | 0x27 => some (86, 1)
  | _ => none

/-- Where a gain-table subindex lies in its record (Table 8-3). -/
def gainField (sub : Nat) : Option (Nat × Nat) :=
  if sub = 1 then some (4, 4) else if 2 ≤ sub && sub ≤ 4 then some (4 * sub, 4)
  else if 0x10 ≤ sub && sub ≤ 0x30 then some (32 + 4 * (sub - 0x10), 4)
  else if 0x40 ≤ sub && sub ≤ 0x60 then some (176 + 16 * (sub - 0x40), 16) else none

/-- The default of a loop subindex that the warp does not give (Table 8-7). -/
def loopDflt : Nat → Bytes
  | 0x13 => [0] | 0x20 => [0] | 0x21 => [0] | 0x22 => leBytes 4 0x3F800000 | 0x23 => leBytes 2 10 | 0x24 => leBytes 4 1000
  | 0x25 => leBytes 2 1 | 0x26 => leBytes 2 1 | 0xFF => zeros 32
  | _ => zeros 4

/-- The current value of a warp-defined object. -/
def State.warpValue (s : State) (a : Nat) : Bytes :=
  let ix := addrIndex a
  let sub := addrSub a
  let ss := s.sections
  if isPointIx ix then
    match s.point? (ix - 0x100000) with
    | none => []
    | some p =>
      let b := pointAt p
      let n := typeSize (typeOfCode p.type)
      match sub with
      | 0 => s.storeRead b n
      | 1 => s.storeRead (b + 24) 2
      | 2 => time96 (s.storeNat (pointTimeAt ss p) 8)
      | 3 => s.storeRead (b + 16) n
      | 4 => s.storeRead (b + 28) 1
      | 5 => s.storeRead (alarmAt ss p) 2
      | _ => s.storeRead (b + 29) 1
  else if isLoopIx ix then
    let j := ix - 0x10000
    match loopCfgField sub, loopRecField sub with
    | some (o, n), _ =>
      let v := slice (s.loopCfg j) o n
      if sub = 0x12 then leBytes 2 (u8At v 0 + u8At v 1 * 256) else v
    | none, some (o, n) => s.storeRead (loopRecAt (s.loopCfg j) + o) n
    | none, none => (Assoc.get? s.dict a).getD (loopDflt sub)
  else if isGainIx ix then
    match gainField sub with
    | some (o, n) => s.storeRead (s.gainAt (ix - 0x20000) + o) n
    | none => []
  else
    let g := ix - 0x30000
    let b := groupAt ss g
    let rec_ := (s.groups[g]?).getD []
    match sub with
    | 1 => groupName rec_
    | 2 => s.storeRead b 1
    | 3 => (Assoc.get? s.dict a).getD (leBytes 4 (groupMaxShelve rec_))
    | 4 => s.storeRead (b + 16) 8
    | 6 => s.storeRead (b + 24) 4
    | 7 => s.storeRead (b + 28) 4
    | _ => [0]

/-- Newest episode slot (Table 15-6): that of ResetCount, while a record was ever written. -/
def ResetBlock.record (r : ResetBlock) (k : Nat) : Bytes := (Assoc.get? r.records (k % 4)).getD (zeros 32)

/-- EpisodeHistory: the four records, newest first; an episode still open has no record yet. -/
def ResetBlock.history (r : ResetBlock) : List Bytes :=
  let newest := (r.records.map fun e => u32At e.2 0).foldl max 0
  (List.range 4).map fun i => if i ≤ newest then r.record (newest - i) else zeros 32

/-- The record with a sequence as the mirror holds it, and its status (R481): 0 VALID, 1 DAMAGED, 2 NOT_HELD. -/
def TallyLog.lookup (t : TallyLog) (n : Nat) : Bytes × Nat :=
  let oldest := max 1 (t.head - (tallySlots - 1))
  if oldest ≤ n && n ≤ t.head then
    let r := fit 64 ((Assoc.get? t.mirror (n % tallySlots)).getD [])
    (r, if crc32c (r.take 60) = u32At r 60 && u64At r 8 = n then 0 else 1)
  else (zeros 64, 2)

/-- TallyOldest (R481); 0 in an empty log (Table 18-6; DEDUCED, log entry 160). -/
def TallyLog.oldest (t : TallyLog) : Nat := if t.head = 0 then 0 else max 1 (t.head - (tallySlots - 1))

def statusBytes {n : Nat} (v : Vector Nat n) : Bytes := v.toList.map byte
def installedBytes {n : Nat} (fault : Bool) (v : Vector (Option Bytes) n) : Bytes := v.toList.map fun k => byte (b2n (k.isSome && !fault))

/-- Calibration temperatures and the margin of ENVELOPE, the same in every record (R369): −30.0 °C, +95.0 °C and 2.0 °C. -/
def tempLow : Nat := 0xC1F00000
def tempHigh : Nat := 0x42BE0000
def tempMargin : Nat := 0x40000000

/-- The 30 stored bytes of a record, CRC with them: the factory's, or what damage has left (R369, R371). -/
def calStored (k : Nat) : Bytes :=
  let b := fit 16 (Config.calRecord k) ++ leBytes 4 tempLow ++ leBytes 4 tempHigh ++ leBytes 4 tempMargin
  if Config.calDamaged k then fit 30 (Config.calDamage k) else b ++ leBytes 2 (crc16 b)

/-- Calibration record of a channel: 0 to 7 AI, 8 to 15 AO (Table 13-4). FLAGS tell of the midscale trim, of the trim fuses' parity and of the
record's CRC (R371). -/
def calBytes (k : Nat) : Bytes :=
  let b := calStored k
  let crcBad := decide (crc16 (b.take 28) ≠ u16At b 28)
  b ++ [byte (ofBits [Config.trimParityBad k || crcBad, Config.trimParityBad k, crcBad]), 0]

/-- The midscale trim is in use (R371). -/
def midscale (k : Nat) : Bool := bit (u8At (calBytes k) 30) 0

/-- What the RO channel objects of groups A and B report (R356, R376): the last valid snapshot (Tables 12-3 and 13-1) with its
currents, and the calibration records. -/
def State.fieldValue (s : State) (a : Nat) : Option Bytes :=
  let ix := addrIndex a
  let sub := addrSub a
  let la := s.io.links[0]
  let sa := fit 360 la.snapshot
  let sb := fit 448 s.io.links[1].snapshot
  let cur := fun k => leBytes 2 ((la.currents[k]?).getD 0)
  if 0x3101 ≤ ix && ix ≤ 0x3130 then
    let n := ix - 0x3101
    let q := u16At sa (24 + 2 * n)
    match sub with
    | 3 => some [if q / 8192 % 8 = 2 then 2 else if q / 8192 % 8 = 1 then 3 else byte (b2n (bit (u64At sa 8) n))]
    | 4 => some (cur n)
    | 5 => some (leBytes 2 q)
    | 6 => some (slice sa (168 + 4 * n) 4)
    | _ => none
  else if 0x3201 ≤ ix && ix ≤ 0x3218 then
    let n := ix - 0x3201
    match sub with
    | 3 => some [byte (b2n (bit (u32At sa 16) n))]
    | 4 => some (cur (48 + n))
    | 5 => some (slice sa (120 + 2 * n) 2)
    | _ => none
  else if 0x3221 ≤ ix && ix ≤ 0x3226 && sub = 2 then
    some (leBytes 2 ((List.range 4).foldl (fun m i => m + (la.currents[48 + 4 * (ix - 0x3221) + i]?).getD 0) 0))
  else if 0x3301 ≤ ix && ix ≤ 0x3304 then
    match sub with
    | 2 => some (slice sa (20 + (ix - 0x3301)) 1)
    | 3 => some (cur (72 + (ix - 0x3301)))
    | _ => none
  else if 0x3401 ≤ ix && ix ≤ 0x3408 then
    let n := ix - 0x3401
    match sub with
    | 3 => some (slice sb (8 + 4 * n) 4)
    | 4 => some (slice sb (40 + 2 * n) 2)
    | 5 => some (calBytes n)
    | _ => none
  else if 0x3501 ≤ ix && ix ≤ 0x3508 then
    let n := ix - 0x3501
    match sub with
    | 5 => some (slice sb (56 + 4 * n) 4)
    | 6 => some (slice sb (88 + 2 * n) 2)
    | 7 => some (slice sb (120 + n) 1)
    | 8 => some (slice sb (104 + 2 * n) 2)
    | 9 => some (calBytes (8 + n))
    | _ => none
  else none

/-- A sensor object of Table 20-8 reads what its sensor measures, a free value in the object's width; the door is closed or open. -/
def State.sensorValue (s : State) (a : Nat) : Option Bytes :=
  let v := Config.sensor a s.localNs
  if a = Obj.doorState then some [byte (v % 2)]
  else if a = Obj.logicPower then some (leBytes 4 v)
  else if [Obj.logicFeedA, Obj.logicFeedB, Obj.dieTemperature, Obj.plateTemperature].contains a then some (leBytes 2 v)
  else none

/-- The current value of an object. Objects that a typed field of the state holds are read from it. -/
def State.current (s : State) (a : Nat) : Bytes :=
  let t := s.tally
  if isStationIx (addrIndex a) then s.warpValue a
  else if a = Obj.stationState then [byte s.mode.code]
  else if a = Obj.stationStateDetail then leBytes 2 (putBit (s.num Obj.stationStateDetail) 6 s.commandPending)
  else if a = Obj.currentTick then leBytes 8 s.tick
  else if a = Obj.resetCount then leBytes 4 s.rst.count
  else if a = Obj.resetCause then leBytes 2 s.rst.cause
  else if a = Obj.lastEpisode then (s.rst.history.head?).getD (zeros 32)
  else if a = Obj.episodeHistory then s.rst.history.flatten
  else if a = overflowAddr Obj.resetCount then putBytesBit (zeros 32) 1 s.rst.saturated
  else if a = Obj.tallyNewest then leBytes 8 t.head
  else if a = Obj.tallyOldest then leBytes 8 t.oldest
  else if a = Obj.operatingMinutes then leBytes 4 t.minutes
  else if a = Obj.powerCycles then leBytes 4 t.powerCycles
  else if a = Obj.tallyRecord then
    -- R482: the record as it stands in the log, all zero where it is not held
    (let r := t.lookup (s.num Obj.tallySelect); if r.2 = 2 then zeros 64 else r.1)
  else if a = Obj.tallyStatus then [byte (t.lookup (s.num Obj.tallySelect)).2]
  else if a = Obj.faceplateQueued then [byte s.face.queue.length]
  else if a = Obj.keyStoreState then [byte (b2n s.keys.wrapFault)]
  else if Obj.warpKey 0 ≤ a && a ≤ Obj.warpKey 7 then fit 64 ((s.keys.warp.toList[a - Obj.warpKey 0]?).getD [])
  else if Obj.safetySetKey 0 ≤ a && a ≤ Obj.safetySetKey 7 then fit 64 ((s.keys.safety.toList[a - Obj.safetySetKey 0]?).getD [])
  else if a = Obj.warpKeyStatus then statusBytes s.keys.warpStatus
  else if a = Obj.safetyKeyStatus then statusBytes s.keys.safetyStatus
  else if a = Obj.firmwareKeyStatus then statusBytes s.keys.firmwareStatus
  else if a = Obj.conduitKeyStatus then installedBytes s.keys.wrapFault s.keys.conduit
  else if a = Obj.seamKeyStatus then installedBytes s.keys.wrapFault s.keys.seam
  else if a = Obj.firmwareSecurityVersion then [byte s.keys.securityVersion]
  else if a = Obj.debugLock then [byte (b2n s.keys.locked)]
  else ((s.sensorValue a).orElse fun _ => s.fieldValue a).getD (s.obj a)

/-- Whether an object's reads follow R60 and R202: the WEFT objects of a warp that runs, or that has run since it was loaded; content of cycles
that a STOP ended without an output (R129) is never read. For class Q, the cycle's outputs take effect one edge after its cut-off (R125,
Table 4-6), and R60's sentence of one class cycle plus one tick is read so (DEDUCED, log entry 19). -/
def State.readsCommitted (s : State) (a : Nat) : Bool := (Assoc.get? s.shown a).isSome

/-- The descriptor of a domain (R39). -/
def Domain.descriptor (d : Domain) : Bytes := leBytes 4 d.content.length ++ leBytes 4 (crc32c d.content) ++ leBytes 4 d.status

def State.domain (s : State) (a : Nat) : Domain := (Assoc.get? s.domains a).getD ⟨[], 0⟩
def State.setDomain (s : State) (a : Nat) (d : Domain) : State := { s with domains := Assoc.set s.domains a d }

/-- What a read of a readable object returns (R39, R60, R202). -/
def State.readValue (s : State) (a : Nat) : Bytes :=
  if s.readsCommitted a then (Assoc.get? s.shown a).getD [] else s.current a

/-- The addresses of the WEFT objects of a class (R60): its points, loops and gain tables, and for Q the groups. -/
def State.weftObjects (s : State) (c : CClass) : List Nat :=
  let cls := classCode c
  let pts := (s.pointDefs.filter fun p => decide (p.cls = cls)).flatMap fun p => (List.range 7).map fun k => objAddr (0x100000 + p.point) k
  let lps := ((List.range s.loopCount).filter fun j => decide (loopClass (s.loopCfg j) = cls)).flatMap fun j =>
    ((List.range 16).map fun k => objAddr (0x10000 + j) (k + 1)) ++ [objAddr (0x10000 + j) 0x20, objAddr (0x10000 + j) 0x27]
  let gts := ((List.range s.gainCount).filter fun g => decide (s.storeNat (s.gainAt g + 2) 1 = cls)).flatMap fun g =>
    ((List.range 3).map fun k => objAddr (0x20000 + g) (k + 2)) ++ ((List.range 33).map fun k => objAddr (0x20000 + g) (0x10 + k)) ++
      (List.range 33).map fun k => objAddr (0x20000 + g) (0x40 + k)
  let grs := if cls = 0 then (List.range s.groups.length).flatMap fun g => [2, 4, 6, 7].map fun k => objAddr (0x30000 + g) k else []
  pts ++ lps ++ gts ++ grs

/-- The values of some objects as they stand, over a snapshot. -/
def State.snapshot (s : State) (as : List Nat) (m : Assoc Bytes) : Assoc Bytes := as.foldl (fun m a => Assoc.set m a (s.current a)) m

end Sys2Proof.Machine
end

