-- ==== Sys2Proof/Machine/Analog.lean ====
section
/-! DEFINITION. The analogue channels and HART (chapter 13): AI quality and correction (R360 to R362, R369 to R371), AO commands, failure
currents and delivery states (R359, R363 to R366), and the HART primary master (R372 to R375). -/

namespace Sys2Proof.Machine

/-! ### Currents in mA, as F32 -/

def ma0_1 : Nat := 0x3DCCCCCD
def ma0_2 : Nat := 0x3E4CCCCD
def ma0_5 : Nat := 0x3F000000
def ma1_0 : Nat := 0x3F800000
def ma3_5 : Nat := 0x40600000
def ma3_6 : Nat := 0x40666666
def ma3_8 : Nat := 0x40733333
def ma20_5 : Nat := 0x41A40000
def ma21_0 : Nat := 0x41A80000
def ma21_5 : Nat := 0x41AC0000
def ma24 : Nat := 0x41C00000

/-- Quality codes that the field sides report (Table 7-4). -/
def qcUncertain : Nat := 0x2000
def qcEnvelope : Nat := 0x2100
def qcCompliance : Nat := 0x2200
def qcBad : Nat := 0x4000
def qcWireBreak : Nat := 0x4100
def qcShort : Nat := 0x4200
def qcOverload : Nat := 0x4300
def qcSupplyLow : Nat := 0x4400
def qcOpen : Nat := 0x4700

/-- A configuration object as the field side of a group has received it (R341). -/
def State.sideCfg (s : State) (g : Fin 3) (a : Nat) : Nat := (Assoc.get? s.io.sides[g].config a).getD (leNat (dfltObj a))

def State.setSide (s : State) (g : Fin 3) (x : FieldSide) : State := { s with io := { s.io with sides := s.io.sides.set g x } }
def State.setGroupB (s : State) (b : GroupB) : State := { s with io := { s.io with b := b } }
def State.setGroupA (s : State) (a : GroupA) : State := { s with io := { s.io with a := a } }

/-- Outputs of a group off by hardware: from a trip to the first edge after the qualification (Table 12-5). -/
def FieldSide.off (x : FieldSide) : Bool := x.tripped || x.returning || !x.running

/-! ### Calibration -/


/-- Linear in the temperature between the two calibration temperatures, held at the nearer end outside them (R369). -/
def interpolated (lo hi tLo tHi t : Nat) : Nat :=
  if fLe f32 t tLo then lo else if fLe f32 tHi t then hi
  else fAdd f32 lo (fMul f32 (fSub f32 hi lo) (fDiv f32 (fSub f32 t tLo) (fSub f32 tHi tLo)))

/-- value = raw × gain + offset (R369); gain 1 and offset 0 at midscale (R371). -/
def corrected (k raw t : Nat) : Nat :=
  let r := calBytes k
  if midscale k then raw
  else
    let at_ := fun lo hi => interpolated (u32At r lo) (u32At r hi) (u32At r 16) (u32At r 20) t
    fAdd f32 (fMul f32 raw (at_ 0 8)) (at_ 4 12)

/-! ### Inputs -/

/-- The first row of Table 13-2 that applies. -/
def State.aiQuality (s : State) (k : Fin 8) : Nat :=
  let x := s.io.b.ai[k]
  let i := x.current
  if s.io.sides[1].tripped then qcSupplyLow
  else if decide (s.sideCfg 1 (Obj.aiSupply k.val) ≠ 0) && x.limiting then qcShort
  else if fLt f32 i ma0_5 then qcWireBreak
  else if fLe f32 i ma3_6 || fLe f32 ma21_0 i then qcBad
  else if fLt f32 i ma3_8 || fLt f32 ma20_5 i then qcUncertain
  else if x.envelope then qcEnvelope
  else if midscale k.val then qcUncertain else 0

/-! ### Outputs -/

def State.setAo (s : State) (k : Fin 8) (x : AoChannel) : State := s.setGroupB { s.io.b with ao := s.io.b.ao.set k x }

/-- The failure current of a channel (R364). -/
def State.failureCurrent (s : State) (k : Nat) : Nat := if s.sideCfg 1 (Obj.aoFailureCurrent k) = 1 then ma21_5 else ma3_5

/-- A command of the output image (R359): limited to 0 to 24 mA; NaN or FAIL gives the failure current. -/
def State.aoCommand (s : State) (k : Nat) (image : Bytes) : Nat × Bool :=
  let v := u32At image (5 * k)
  if fIsNan f32 v || bit (u8At image (5 * k + 4)) 0 then (s.failureCurrent k, true)
  else (if fLt f32 v 0 then 0 else if fLt f32 ma24 v then ma24 else v, false)

/-- The safe state of an AO in a silence that meets a trip: HOLD keeps what was applied before it (Table 12-7). -/
def State.aoHeld (s : State) (k : Fin 8) : Nat × Bool :=
  let x := s.io.b.ao[k]
  match s.sideCfg 1 (Obj.aoSafeState k.val) with
  | 0 => if s.io.sides[1].committed then (x.beforeTrip, x.beforeFailing) else (s.failureCurrent k.val, true)
  | 1 => (s.sideCfg 1 (Obj.aoSafeValue k.val), false)
  | _ => (s.failureCurrent k.val, true)

/-- The programmed safe state of an AO (R15, R364). -/
def State.aoSafe (s : State) (k : Fin 8) : Nat × Bool :=
  let x := s.io.b.ao[k]
  match s.sideCfg 1 (Obj.aoSafeState k.val) with
  | 0 => if s.io.sides[1].committed then (x.last, x.lastFailing) else (s.failureCurrent k.val, true)
  | 1 => (s.sideCfg 1 (Obj.aoSafeValue k.val), false)
  | _ => (s.failureCurrent k.val, true)

/-- Every AO takes what `f` gives; a COMMAND is also the value last committed. -/
def State.applyAo (s : State) (command : Bool) (f : Fin 8 → Nat × Bool) : State :=
  let take := fun (k : Fin 8) =>
    let (v, b) := f k
    let x : AoChannel := s.io.b.ao[k]
    if command then { x with want := v, failing := b, last := v, lastFailing := b } else { x with want := v, failing := b }
  s.setGroupB { s.io.b with ao := Vector.ofFn take }

/-- Quality of an AO (R353, R365, R366, R370, R371). -/
def State.aoQuality (s : State) (k : Fin 8) : Nat :=
  let x := s.io.b.ao[k]
  if s.io.sides[1].tripped then qcSupplyLow
  else match x.delivery with
    | .opened => qcOpen
    | .compliance => qcCompliance
    | .normal => if x.thermal || midscale (8 + k.val) then qcUncertain else if x.envelope then qcEnvelope else 0

/-- AoStatus (Table 13-6). -/
def AoChannel.status (x : AoChannel) : Nat :=
  ofBits [decide (x.delivery = .compliance), decide (x.delivery = .opened), x.thermal, x.envelope, x.failing]

/-- A tally of an AO with its command and measured current (Table 18-8). -/
def State.aoTally (s : State) (code : Nat) (k : Fin 8) (current : Nat) : State :=
  s.logTally code [k.val + 1, s.io.b.ao[k].want, current, 0]

/-- Whether group B's outputs are judged at all. -/
def State.aoJudged (s : State) : Bool := s.io.sides[1].running && !s.io.sides[1].off

/-- Compliance supply in mV: its range, and the headroom that it keeps (R363). -/
def aoSupplyLow : Nat := 6000
def aoSupplyHigh : Nat := 26000
def aoHeadroom : Nat := 2000

/-- A current in µA. -/
def microamps (ma : Nat) : Nat := (fToInt f32 0 100000 (fMul f32 ma 0x447A0000)).toNat

/-- The supply that a current needs over the loop resistance that the present supply and current show; 26 V where the current shows none
(R363). -/
def AoChannel.needs (x : AoChannel) (ma : Nat) : Nat :=
  if fLt f32 x.current ma0_5 || fLt f32 ma ma0_5 then aoSupplyHigh
  else max aoSupplyLow (min aoSupplyHigh ((x.supplyMv - aoHeadroom) * microamps ma / max 1 (microamps x.current) + aoHeadroom))

/-- A commit frame of MODE COMMAND raises the supplies in advance of the edge that it names (R363); in every other MODE its payload is ignored
(R359). -/
def State.aoPrepare (s : State) (y : FieldSide) : State :=
  match y.commit with
  | some c =>
    if c.mode ≠ 0 then s else
    let raise := fun (k : Fin 8) =>
      let x : AoChannel := s.io.b.ao[k]
      { x with supplyMv := max x.supplyMv (x.needs (s.aoCommand k.val c.image).1) }
    s.setGroupB { s.io.b with ao := Vector.ofFn raise }
  | none => s

/-- The supply stands at its limit, where alone a shortfall counts (R365). -/
def AoChannel.atLimit (x : AoChannel) : Bool := decide (aoSupplyHigh ≤ x.supplyMv)

/-- Command less measured current is above, or at most, a limit. -/
def AoChannel.short (x : AoChannel) (limit current : Nat) : Bool := fLt f32 limit (fSub f32 x.want current)

/-- 10 ms of shortfall above 0.2 mA at 26 V with a current of at least 0.5 mA (Table 13-3). -/
def execAoCompliance (k : Fin 8) (current : BitVec 32) (s : State) : Host.Outcome State Fault Refusal :=
  let x := s.io.b.ao[k]
  .next (if s.aoJudged && decide (x.delivery = .normal) && fLe f32 ma0_5 current.toNat && x.atLimit && x.short ma0_2 current.toNat then
      (s.setAo k { x with delivery := .compliance }).aoTally 0x0A05 k current.toNat
    else s)

/-- 10 ms below 0.5 mA with a command of at least 1.0 mA (Table 13-3). -/
def execAoOpen (k : Fin 8) (current : BitVec 32) (s : State) : Host.Outcome State Fault Refusal :=
  let x := s.io.b.ao[k]
  .next (if s.aoJudged && decide (x.delivery ≠ .opened) && fLt f32 current.toNat ma0_5 && fLe f32 ma1_0 x.want then
      (s.setAo k { x with delivery := .opened }).aoTally 0x0A06 k current.toNat
    else s)

/-- The condition has cleared for 10 ms (Table 13-3): COMPLIANCE with a shortfall of at most 0.1 mA or a supply below 26 V, OPEN with a current
of at least 0.5 mA, which goes to COMPLIANCE or NORMAL by the shortfall at this instant; `atLimit`: the supply stands at 26 V. -/
def execAoRestored (k : Fin 8) (current : BitVec 32) (atLimit : Bool) (s : State) : Host.Outcome State Fault Refusal :=
  let x := s.io.b.ao[k]
  .next (if !s.aoJudged then s
    else match x.delivery with
      | .normal => s
      | .compliance =>
        if atLimit && x.short ma0_1 current.toNat then s else (s.setAo k { x with delivery := .normal }).aoTally 0x0A07 k current.toNat
      | .opened =>
        if fLt f32 current.toNat ma0_5 then s
        else (s.setAo k { x with delivery := if atLimit && x.short ma0_2 current.toNat then .compliance else .normal }).aoTally 0x0A07 k
          current.toNat)

/-- A restoration finds the output NORMAL (Table 13-3). -/
def State.aoNormal (s : State) (k : Fin 8) : State :=
  let x := s.io.b.ao[k]
  if x.delivery = .normal then s else (s.setAo k { x with delivery := .normal }).aoTally 0x0A07 k x.current

/-- The output stage reaches 135 °C (R366). -/
def execAoThermal (k : Fin 8) (current : BitVec 32) (s : State) : Host.Outcome State Fault Refusal :=
  let x := s.io.b.ao[k]
  .next (if s.aoJudged && !x.thermal then (s.setAo k { x with thermal := true }).aoTally 0x0A08 k current.toNat else s)

/-- The commanded current has been delivered below 125 °C for 100 ms (R366). -/
def execAoThermalClear (k : Fin 8) (s : State) : Host.Outcome State Fault Refusal :=
  let x := s.io.b.ao[k]
  .next (if x.thermal then s.setAo k { x with thermal := false } else s)

/-- The field-side temperature calls for ENVELOPE to be set, or to be cleared (R370). -/
def envelopeCalls (t : Nat) (set : Bool) : Bool :=
  if set then fLt f32 t tempLow || fLt f32 tempHigh t
  else fLe f32 (fAdd f32 tempLow tempMargin) t && fLe f32 t (fSub f32 tempHigh tempMargin)

/-- ENVELOPE of a channel sets or clears (R370), where the temperature last measured calls for it. -/
def execAnalogEnvelope (output : Bool) (k : Fin 8) (set : Bool) (s : State) : Host.Outcome State Fault Refusal :=
  let tally := fun (s : State) => s.logTally 0x0A09 [k.val + 1 + (if output then 256 else 0) + (if set then 65536 else 0)]
  let ao := s.io.b.ao[k]
  let ai := s.io.b.ai[k]
  .next (if !s.io.sides[1].running || !envelopeCalls s.io.b.temperature set then s
    else if output then (if ao.envelope = set then s else tally (s.setAo k { ao with envelope := set }))
    else if ai.envelope = set then s else tally (s.setGroupB { s.io.b with ai := s.io.b.ai.set k { ai with envelope := set } }))

/-! ### HART -/

def State.setHart (s : State) (c : Fin 16) (x : HartChannel) : State := { s with io := { s.io with hart := s.io.hart.set c x } }

/-- The canonical NaN of F32. -/
def nan32 : Nat := f32.qnan

/-- A channel of which nothing has been heard. -/
def blankHart : HartChannel := ⟨[nan32, nan32, nan32, nan32], 0, false, false, none, 0, none, false, none⟩

/-- AiHart or AoHart of a channel (R372). -/
def State.hartEnabled (s : State) (c : Nat) : Bool := if c < 8 then s.flag (Obj.aiHart c) else s.flag (Obj.aoHart (c - 8))

/-- HartState codes (Table 13-6). -/
def hartOff : Nat := 0
def hartSearching : Nat := 1
def hartConnected : Nat := 2
def hartLost : Nat := 3
def State.hartIs (s : State) (c : Fin 16) (st : Nat) : Bool := decide (s.num (Obj.hartState c.val) = st)

/-- AiHart or AoHart of a channel has been written, or the station starts: it searches, or is off. -/
def State.hartEnable (s : State) (c : Fin 16) : State :=
  (s.setHart c blankHart).setNum (Obj.hartState c.val) (if s.hartEnabled c.val then hartSearching else hartOff)

/-- The module acts as HART primary master (R372). -/
def State.hartMaster (s : State) : Bool :=
  match s.mode with
  | .run => true
  | .service | .ready =>
    decide (s.started Obj.pairEnable = 0) ||
      (decide (s.num Obj.partnerState ≠ Mode.run.code) && decide (s.num Obj.partnerState ≠ Mode.standby.code) && s.flag Obj.roleContact)
  | _ => false

/-- A command leaves on a loop (R373, R374). -/
def State.hartSend (s : State) (c : Fin 16) (x : HartChannel) (command : Nat) (data : Bytes) (passing : Bool := false) : State :=
  ((s.setHart c { x with inFlight := some command, passing := passing }).count (Obj.hartTransactions c.val)).send .hart (c.val + 1) 0 (byte command :: data)

/-- Every 5 s a searching channel, or a lost one, sends Command 0 (R373). -/
def execHartSearch (c : Fin 16) (s : State) : Host.Outcome State Fault Refusal :=
  .next (if s.hartMaster && s.hartEnabled c.val && (s.hartIs c hartSearching || s.hartIs c hartLost) then
      s.hartSend c (s.io.hart[c]) 0 []
    else s)

/-- Every HartPollInterval a connected channel sends Command 3, or a queued pass-through in its place (R373, R374). -/
def execHartPoll (c : Fin 16) (s : State) : Host.Outcome State Fault Refusal :=
  let x := s.io.hart[c]
  .next (if s.hartMaster && s.hartEnabled c.val && s.hartIs c hartConnected then
      (match x.queued with
        | some p => s.hartSend c x (u8At p 0) (slice p 2 (u8At p 1)) true
        | none => s.hartSend c x 3 [])
    else s)

/-- HartResponse: RESULT, command, response code, device status, byte count and data (R374). -/
def hartResult (result : Nat) (command : Nat) (r : Option HartReply) : Bytes :=
  match r with
  | some x => fit 240 ([byte result, byte command, byte x.responseCode.toNat, byte x.deviceStatus.toNat, byte x.data.length] ++ x.data)
  | none => fit 240 [byte result, byte command]

/-- HartIdentity from the data of Command 0: expanded device type, device ID, HART revision, device revision, 0. -/
def hartIdentityOf (d : Bytes) : Bytes :=
  fit 8 (leBytes 2 (u8At d 1 * 256 + u8At d 2) ++ slice d 9 3 ++ [byte (u8At d 4), byte (u8At d 5), 0])

/-- The variable at place `i` of a Command 3 response: F32, most significant byte first, after its unit code. -/
def hartVar (d : Bytes) (i : Nat) : Nat :=
  if 9 + 5 * i ≤ d.length then beNat (slice d (5 + 5 * i) 4) else nan32

/-- A channel updated by a Command 3 response or burst (R373). -/
def State.hartUpdate (s : State) (c : Fin 16) (r : HartReply) : State :=
  let x := s.io.hart[c]
  s.setHart c { x with vars := (List.range 4).map (hartVar r.data), status := r.deviceStatus.toNat, burst := r.burst
                       more := bit r.deviceStatus.toNat 4, updatedNs := some s.localNs, failures := 0
                       inFlight := if r.burst then x.inFlight else none }

/-- A response or a burst is decoded (R373 to R375); without the clock of the modems none is (R442). A module that only receives follows the
transactions of the loop's master. -/
def execHartResponse (c : Fin 16) (r : HartReply) (s : State) : Host.Outcome State Fault Refusal :=
  let x := s.io.hart[c]
  let cmd := r.command.toNat
  .next (if !s.hartEnabled c.val || s.noClock 6 then s
    else if r.burst then
      (if cmd ≠ 3 then s.count (Obj.hartBurstIgnored c.val) else if s.hartIs c hartConnected then s.hartUpdate c r else s)
    else if s.hartMaster && x.inFlight ≠ some cmd then s
    else if s.hartIs c hartConnected then
      (if s.hartMaster && x.passing then
        (s.setHart c { x with queued := none, inFlight := none, passing := false, failures := 0 }).setObj (Obj.hartResponse c.val) (hartResult 2 cmd (some r))
      else if cmd = 3 then s.hartUpdate c r
      else s.setHart c { x with inFlight := none, failures := 0 })
    else if cmd = 0 then
      let id := hartIdentityOf r.data
      (((s.setHart c { x with inFlight := none, failures := 0 }).setObj (Obj.hartIdentity c.val) id).setNum (Obj.hartState c.val)
        hartConnected).logTally 0x0A0B [c.val + 1, first4 id]
    else s)

/-- The third transaction in a row without a valid response loses a connected channel (R373). -/
def State.hartLose (s : State) (c : Fin 16) (failures : Nat) : State :=
  if s.hartIs c hartConnected && decide (3 ≤ failures) then
    (s.setNum (Obj.hartState c.val) hartLost).logTally 0x0A0C [c.val + 1, first4 (s.obj (Obj.hartIdentity c.val))]
  else s

/-- A transaction ends without a valid response (R373, R374). A module that only receives counts those of the loop's master, and so keeps the
connection state of the channel (R375). -/
def execHartTransactionFailure (c : Fin 16) (s : State) : Host.Outcome State Fault Refusal :=
  let x := s.io.hart[c]
  .next (match x.inFlight with
    | none =>
      if s.hartMaster || !s.hartEnabled c.val then s
      else (s.setHart c { x with failures := x.failures + 1 }).hartLose c (x.failures + 1)
    | some cmd =>
      let passed := s.hartIs c hartConnected && x.passing
      let s1 := (s.setHart c { x with inFlight := none, passing := false, failures := x.failures + 1, queued := if passed then none else x.queued }).count
        (Obj.hartFailures c.val)
      let s2 := if passed then s1.setObj (Obj.hartResponse c.val) (hartResult 3 cmd none) else s1
      s2.hartLose c (x.failures + 1))

/-- A module that hands over never completes a pass-through that waits there (R375): the host must send it again to the new active. Its response
object returns to none (DESIGN CHOICE, log entry 26). -/
def State.dropPassThrough (s : State) : State :=
  (List.finRange 16).foldl (fun (s : State) c =>
    let x := s.io.hart[c]
    let s1 := s.setHart c { x with queued := none, inFlight := none, passing := false }
    if x.queued.isSome then s1.setObj (Obj.hartResponse c.val) (hartResult 0 0 none) else s1) s

/-- A channel's record in the snapshot (R373). -/
def State.hartRecord (s : State) (c : Fin 16) : Bytes :=
  let x := s.io.hart[c]
  let age := match x.updatedNs with
    | some n => min 65535 ((s.localNs - n) / 1000000)
    | none => 65535
  x.vars.flatMap (leBytes 4) ++ [byte x.status, byte (ofBits [s.hartIs c hartConnected, x.burst, x.more])] ++ leBytes 2 age

/-- The group B snapshot (Table 13-1). -/
def State.snapshotB (s : State) (flags : Nat) : Bytes :=
  let x := s.io.sides[1]
  let ks := List.finRange 8
  leBytes 4 x.epoch ++ leBytes 2 x.supplyMv ++ [byte flags, 0] ++
    ks.flatMap (fun k => leBytes 4 s.io.b.ai[k].current) ++ ks.flatMap (fun k => leBytes 2 (s.aiQuality k)) ++
    ks.flatMap (fun k => leBytes 4 s.io.b.ao[k].current) ++ ks.flatMap (fun k => leBytes 2 (s.aoQuality k)) ++
    ks.flatMap (fun k => leBytes 2 s.io.b.ao[k].supplyMv) ++ ks.map (fun k => byte s.io.b.ao[k].status) ++
    (List.finRange 16).flatMap s.hartRecord

/-- An AI latches the mean of the tick, corrected and, with AiHart true, filtered (R360, R369). -/
def State.latchAi (s : State) (m : FieldMeasure) (k : Fin 8) : AiChannel :=
  let x := s.io.b.ai[k]
  let mean := corrected k.val ((m.aiRaw[k.val]?).getD 0).toNat m.temperature.toNat
  let (st, out) := Config.hartFilter x.filter (BitVec.ofNat 32 mean)
  let hart := decide (s.sideCfg 1 (Obj.aiHart k.val) ≠ 0)
  { x with current := if hart then out.toNat else mean, filter := if hart then st else 0, limiting := m.aiLimiting.getLsbD k.val }

/-- An AO latches its corrected sense current and its compliance supply, which stands at 26 V below 0.5 mA and else between 6 V and 26 V (R363,
R369). -/
def State.latchAo (s : State) (m : FieldMeasure) (k : Fin 8) : AoChannel :=
  let i := corrected (8 + k.val) ((m.aoCurrent[k.val]?).getD 0).toNat m.temperature.toNat
  let v := ((m.aoSupply[k.val]?).getD 0).toNat
  { s.io.b.ao[k] with current := i, supplyMv := if fLt f32 i ma0_5 then aoSupplyHigh else max aoSupplyLow (min aoSupplyHigh v) }

/-- Group B latches its measurements (R360, R363, R369). -/
def State.latchB (s : State) (m : FieldMeasure) : State :=
  s.setGroupB ⟨m.temperature.toNat, Vector.ofFn (s.latchAi m), Vector.ofFn (s.latchAo m)⟩

end Sys2Proof.Machine
end

