-- ==== Sys2Proof/Machine/Clocks.lean ====
section
/-! DEFINITION. Clocks (chapter 16): judging sources stable (R437, R438), the clock monitor (R439, R440), domains and multiplexers (R441,
R442), the way without the XO (R443) and the IRC trim (R444, R445). -/

namespace Sys2Proof.Machine

/-- Bits of ClockSources (Table 16-7). -/
def srcXo : Nat := 0
def srcIrc : Nat := 1
def srcLrc : Nat := 2
def srcIrcFailed : Nat := 7
def pllBit : Pll → Nat
  | .sys => 3 | .net => 4 | .seam => 5 | .conv => 6

def State.source (s : State) (i : Nat) : Bool := bit (s.num Obj.clockSources) i
def State.setSource (s : State) (i : Nat) (b : Bool) : State := s.setNum Obj.clockSources (putBit (s.num Obj.clockSources) i b)

/-- Rows of Table 16-3 that a PLL clocks. -/
def pllDomains : Pll → List Nat
  | .sys => [0, 1] | .net => [2] | .seam => [3] | .conv => [4, 5, 6]

/-- DomainSources of some domains: 0 normal, 1 fall-back, 2 none. -/
def State.setDomains (s : State) (ds : List Nat) (v : Nat) : State :=
  s.setObj Obj.domainSources (ds.foldl (fun (b : Bytes) d => patch b d [byte v]) (fit 7 (s.obj Obj.domainSources)))

/-- What a domain has without its PLL (Table 16-3): the network and seam domains have no clock; the root and the sequencer never
switch to an IRC that is not judged stable (R415, R441). -/
def domainFallback (ircStable : Bool) (d : Nat) : Nat := if d = 2 || d = 3 || (d ≤ 1 && !ircStable) then 2 else 1

/-- The domains of a PLL go to their reset source. -/
def State.dropPll (s : State) (p : Pll) : State :=
  (pllDomains p).foldl (fun (s : State) d => s.setDomains [d] (domainFallback (s.source srcIrc) d)) (s.setSource (pllBit p) false)

/-- The root clock and the sequencer's, where they stand still, go to the IRC: at step 2, and as the clock-failure source releases (R415). -/
def State.rootToIrc (s : State) : State :=
  s.setDomains ([0, 1].filter fun d => s.noClock d && s.source srcIrc) 1

/-- Root clock from the SYS PLL. -/
def State.rootIsSys (s : State) : Bool := decide (u8At (s.obj Obj.domainSources) 0 = 0) && s.source 3

/-- The IRC trim code in force, 20 bits (R444). -/
def trimMidscale : Nat := 0x80000
def State.trimCode (s : State) : Nat := s.num Obj.ircTrim % 2 ^ 20

/-- The CONV PLL has lost its lock, or is restarted (R442): its domains run on the fall-back, the CAN channels held off, until it locks
again; frames on the bus are abandoned (DEDUCED, log entry 86). -/
def State.convLost (s : State) : State := (s.dropPll .conv).canAbandon.canRefresh

/-- The exit sequence that runs tries the XO (R443): one of level P or S without a clock-failure cause. -/
def State.triesXo (s : State) : Bool :=
  !bit s.rst.exitCauses (sourceBit .clkFail) && (decide (s.rst.exiting = some .p) || decide (s.rst.exiting = some .s))

/-- Step 5 of an exit sequence, or of a wake, is trying the XO: the steps before it have ended. -/
def State.tryingXo (s : State) : Bool :=
  s.rst.episode.isNone && ((s.triesXo && s.source srcIrc) || (s.rst.waking && !s.flag Obj.xoFailed)) && !s.clocks.refIrc

/-- An episode or an exit sequence of level S or P has not yet ended step 2. -/
def State.beforeStep2 (s : State) : Bool :=
  (s.rst.episode.any fun e => decide (3 ≤ levelCode e.widest)) ||
    (!s.source srcIrc && (decide (s.rst.exiting = some .p) || decide (s.rst.exiting = some .s)))

/-- A check of the clock monitor is armed (Table 16-2): the XO's from step 5 on, but not while the station runs without it; a PLL's once
its lock has been judged; the root clock's from step 2 on, while it is not gated. -/
def State.armed (s : State) : ClockTrip → Bool
  | .xoStop | .xoFrequency => s.source srcXo || (s.tryingXo && !s.flag Obj.xoFailed)
  | .pll p => s.source (pllBit p)
  | .convHang _ _ => s.source (pllBit .conv)
  | .root => !s.beforeStep2 && !s.noClock 0

/-- The clock-failure source asserts and gates the root clock; in a W-level episode, where the failed clock feeds the LPDDR4X controller, the
LPDDR4X goes into self-refresh first (R415). -/
def State.failClock (s : State) (feedsDram : Bool) : State :=
  let s1 := (s.assertSource .clkFail .s).setDomains [0] 2
  let w := s1.rst.asserted.any fun e => e.1 == .clkFail && e.2 == .w
  { s1 with clocks := { s1.clocks with selfRefresh := s1.clocks.selfRefresh || (w && feedsDram) } }

/-- Domains of the CONV PLL without a clock: a multiplexer that hangs (R442). -/
def hungDomains (converter hart : Bool) : List Nat := (if converter then [5] else []) ++ if hart then [6] else []

/-- An armed check of the clock monitor trips (R439, R442, R443). A trip of the CONV PLL asserts no reset. The XO and the SYS PLL clock the
root, which the LPDDR4X controller runs on (DEDUCED, log entry 123). -/
def execClockMonitorTrip (what : ClockTrip) (s : State) : Host.Outcome State Fault Refusal :=
  .next (if s.mode = .off || !s.armed what then s
    else
      let s1 := s.count Obj.monitorTrips
      match what with
      | .xoStop | .xoFrequency =>
        (((s1.setSource srcXo false).setFlag Obj.xoFailed true).logTally 0x0C06 []).failClock true
      | .root => s1.failClock true
      | .pll .conv => s1.convLost
      | .convHang c h => s1.convLost.setDomains (hungDomains c h) 2
      | .pll .sys => ((s1.setSource (pllBit .sys) false).setDomains [1] 2).failClock true
      | .pll p => (s1.dropPll p).failClock false)

/-- IRC and LRC judged against each other over a window of 32 LRC periods (R437); nominal 97,656.25 cycles. Judged unstable while the root clock
is not SYS, they trip the monitor, with no reset (R439, Table 16-2); while it is SYS the trip is CLK_IRC_FAILED. At step 2 the root clock then
runs on the IRC; while the clock-failure source is asserted it waits for its release (R415). -/
def ircInWindow (count : Nat) : Bool := decide (4 * count ≤ 390625 + 31250) && decide (390625 ≤ 4 * count + 31250)
def ircAgree (a b : Nat) : Bool := decide ((max a b - min a b) * 200 ≤ max a b)

def execIrcJudgementWindow (count : Nat) (s : State) : Host.Outcome State Fault Refusal :=
  .next (if s.mode = .off then s
    else
      let s1 := { s with clocks := { s.clocks with lastCount := some count } }
      if !ircInWindow count then
        let s2 := if s.source srcIrc && !s.rootIsSys then s1.count Obj.monitorTrips else s1
        (s2.setSource srcIrc false).setSource srcLrc false
      else match s.clocks.lastCount with
        | some old =>
          if ircInWindow old && ircAgree old count then
            let s2 := ((s1.setSource srcIrc true).setSource srcLrc true).setSource srcIrcFailed false
            if s.rst.asserted.any fun e => e.1 == .clkFail then s2 else s2.rootToIrc
          else s1
        | none => s1)

/-- An IRC–LRC trip (Table 16-2) while the root clock is SYS asserts no reset (R440). -/
def execClkIrcFailed (s : State) : Host.Outcome State Fault Refusal :=
  .next (if s.rootIsSys && !s.source srcIrcFailed then
      (((((s.count Obj.monitorTrips).setSource srcIrc false).setSource srcLrc false).setSource srcIrcFailed true).setNum Obj.ircTrimSource 0).logTally 0x0C05 []
    else s)

/-- A PLL's domains switch to it. A ready-checked switch away from a clock that has stopped is refused, and the domain keeps its source
(R441); that of a glitch-free multiplexer is not requested (R442). The network and seam domains have no clock to switch away from. -/
def State.switchTo (s : State) (p : Pll) (stopped : Bool) : State :=
  if p = .net || p = .seam || !(stopped || (p = .sys && s.noClock 0)) then s.setDomains (pllDomains p) 0
  else s.count Obj.switchRefusals (if p = .sys then 2 else 1)

/-- A source or PLL is judged stable or locked (R438, R443). The XO is judged in an exit sequence that tries it, and in a wake (R422); the PLLs that
lock without it have the IRC ÷ 4 as their reference (R436). -/
def execPllLock (what : ClockLock) (s : State) : Host.Outcome State Fault Refusal :=
  .next (if s.mode = .off || s.mode = .layup then s
    else match what with
      | .xo => if s.tryingXo then (s.setSource srcXo true).setFlag Obj.xoFailed false else s
      | .pll p stopped =>
        let s0 := { s with clocks := { s.clocks with refIrc := s.clocks.refIrc || !s.source srcXo } }
        let s1 := (s0.setSource (pllBit p) true).switchTo p stopped
        if p = .conv then s1.canRefresh else s1)

/-- A glitch-free multiplexer has hung (R442): the domain reset forces IRC ÷ 4, and the CONV PLL is restarted. -/
def execClkMuxHang (hart : Bool) (s : State) : Host.Outcome State Fault Refusal :=
  let d := if hart then 6 else 5
  .next (if s.mode = .off || s.mode = .layup then s
    else (s.convLost.count Obj.muxHangs).logTally 0x0C07 [d])

/-- The channel that IrcTrimChannel names. -/
def State.trimChannel (s : State) : Option (Fin 8) :=
  let n := s.num Obj.ircTrimChannel
  if h : 1 ≤ n ∧ n ≤ 8 then some ⟨n - 1, by omega⟩ else none

/-- The first available reference of Table 16-4: 1 XO, 2 tick edges, 3 CAN reference messages, 0 none. -/
def State.trimReference (s : State) : Nat :=
  if s.source srcIrcFailed then 0
  else if !s.flag Obj.xoFailed then (if s.source srcXo then 1 else 0)
  else if s.num Obj.tickSource = 0 then 2
  else if s.trimChannel.any (fun k => (s.chan k).refEdge.isSome) then 3 else 0

/-- Master time of a window of CAN reference messages (Table 16-4): between SOFs 100 messages apart, with none missing; 0 where the run is
shorter. -/
def State.masterWindow (s : State) : Nat :=
  match s.trimChannel with
  | some k => (match (s.chan k).masters, (s.chan k).masters[100]? with
    | new :: _, some old => new - old
    | _, _ => 0)
  | none => 0

/-- A window of CAN reference messages has been used: the next begins with the message that ended it. -/
def State.trimUsed (s : State) : State :=
  match s.trimChannel with
  | some k => s.setChan k { s.chan k with masters := (s.chan k).masters.take 1 }
  | none => s

/-- The IRC count expected of the window that ends (Table 16-4); 0 where there is none. -/
def State.trimExpected (s : State) : Nat :=
  match s.trimReference with
  | 1 => 100000
  | 2 => 100000000
  | 3 => s.masterWindow / 10
  | _ => 0

/-- Correction in steps of 0.1 ppm (R445): half the measured error, rounded toward zero, at most 10,000; and the error in ppb. -/
def trimSteps (count expected : Nat) : Int := clampInt (-10000) 10000 (Int.tdiv (((count : Int) - expected) * 10000000) (2 * expected))
def trimErrorPpb (count expected : Nat) : Int := Int.tdiv (((count : Int) - expected) * 1000000000) expected

/-- An auto-trim window ends (R444, R445). -/
def execTrimWindow (count : Nat) (stepped changed : Bool) (s : State) : Host.Outcome State Fault Refusal :=
  let r := s.trimReference
  let expected := s.trimExpected
  .next (if s.mode = .off || s.mode = .layup then s
    else
      let s0 := if r = 3 then s.trimUsed else s
      let s1 := s0.setNum Obj.ircTrimSource r
      if r = 0 || stepped || changed || expected = 0 then s1
      else
        let code := clampInt 0 0xFFFFF ((s.trimCode : Int) - trimSteps count expected)
        (s1.setNum Obj.ircTrim code.toNat).setNum Obj.ircError (ofSigned 32 (trimErrorPpb count expected)))

/-- The code is stored in backup RAM once per second (R445). -/
def execTrimStore (s : State) : Host.Outcome State Fault Refusal :=
  .next (if s.mode = .off || s.mode = .layup then s
    else { s with clocks := { s.clocks with trimStored := some s.trimCode } })

/-- Step 3 (R429, R444): the fuse trim, or midscale where it fails parity. -/
def State.trimLoad (s : State) : State :=
  if Config.ircTrimBad then (((s.setNum Obj.ircTrim trimMidscale).setNum Obj.trimStatus 1).logTally 0x0C04 []).setNum Obj.ircTrimSource 0
  else ((s.setNum Obj.ircTrim (Config.ircTrim % 2 ^ 20)).setNum Obj.trimStatus 0).setNum Obj.ircTrimSource 0

/-- The PLLs stop, and their domains run on their fall-back. -/
def State.pllsStop (s : State) : State := [Pll.sys, .net, .seam, .conv].foldl State.dropPll s

/-- Step 5 begins: the PLLs restart. After a clock failure every one of them has the IRC ÷ 4 as its reference, and the IRC runs on the stored
trim code, or on the fuse trim (R443); an XO on which the monitor has not tripped stays judged stable (R438). -/
def State.clocksRestart (s : State) (clkFail : Bool) : State :=
  let s1 := { s.pllsStop with clocks := { s.clocks with refIrc := clkFail, selfRefresh := false } }
  if clkFail then
    let s2 := s1.setNum Obj.ircTrimSource 0
    match s.clocks.trimStored with
    | some c => s2.setNum Obj.ircTrim c
    | none => s2.setNum Obj.ircTrim (if Config.ircTrimBad then trimMidscale else Config.ircTrim % 2 ^ 20)
  else s1

end Sys2Proof.Machine
end

