-- ==== Sys2Proof/Machine/Bank.lean ====
section
/-! DEFINITION. Bringing an image into the Store (chapter 05): the configuration area (R453, R454), the initial state (R148), the stored
PERSISTENT values (R149), the bank objects (Table 5-15) and what the objects report of the loaded image. -/

namespace Sys2Proof.Machine

/-- Bytes of a page of the configuration area (R453). -/
def pageSize : Nat := 65536

/-- Parts of the configuration placed one after another from `at_` on, each on an 8-byte boundary: the memory, the start addresses
and the end. -/
def placeParts (m : Mem) (at_ : Nat) : List Bytes → Mem × List Nat × Nat
  | [] => (m, [], at_)
  | p :: ps =>
    let a := roundUp 8 at_
    let (m', as, e) := placeParts (Mem.write m a p) (a + p.length) ps
    (m', a :: as, e)

/-- The part of an ALARMS section that holds limit sets, and the part that holds groups (Table 7-6). -/
def limitPart (b : Bytes) : Bytes := (limitSets b).flatten
def groupPart (b : Bytes) : Bytes := (groupRecords b).flatten

/-- The configuration of an image in the logical window (R453): its bytes, its map and its end. -/
def configOf (ss : List Section) : Mem × ConfigMap :=
  let al := sectBody ss 6
  let recs := (pointDefs ss).zip (records al 32)
  let m0 := recs.foldl (fun m (p, r) => Mem.write m (pointCfgAt p) r) []
  let top := recs.foldl (fun t (p, _) => max t (pointCfgAt p + 32)) configBase
  let base := configBase + roundUp pageSize (top - configBase)
  let (m, as, e) := placeParts m0 base
    [limitPart al, groupPart al, sectBody ss 10, sectBody ss 7, sectBody ss 8, sectBody ss 9, sectBody ss 4, sectBody ss 5]
  let at_ := fun k => (as[k]?).getD 0
  (m, ⟨at_ 0, at_ 1, at_ 2, at_ 3, at_ 4, at_ 5, at_ 6, at_ 7, e⟩)

/-- Pages that a configuration needs (R453). -/
def pagesNeeded (m : ConfigMap) : Nat := ceilDiv (m.limit - configBase) pageSize

/-- An image loaded afresh from a bank: page k in physical page k. -/
def loadImage (bank : Nat) (img : Bytes) : Loaded :=
  let ss := sectionsOf img
  let (c, m) := configOf ss
  { bank := bank, digest := imageDigest img, header := img.take 192, sections := ss, config := c, map := m, pages := List.range (pagesNeeded m) }

def pageBytes (m : Mem) (k : Nat) : Bytes := Mem.read m (configBase + k * pageSize) pageSize

/-- Pages of the target that differ from the active image's at the same logical address (R454). -/
def differingPages (active target : Loaded) : List Nat :=
  (List.range target.pages.length).filter fun k =>
    decide (active.pages.length ≤ k) || decide (pageBytes active.config k ≠ pageBytes target.config k)

/-- The target with its pages mapped beside the active image's (R454): equal pages shared, differing ones in free physical pages;
none where the 192 pages do not hold them. -/
def mapPages (active target : Loaded) : Option Loaded :=
  let diff := differingPages active target
  let free := (List.range 192).filter fun p => !active.pages.contains p
  if free.length < diff.length then none
  else some { target with pages := (List.range target.pages.length).map fun k =>
    match (diff.zip free).find? fun e => decide (e.1 = k) with
    | some (_, p) => p
    | none => (active.pages[k]?).getD 0 }

/-! ### Writes to the configuration and state records -/

/-- A write to the master copy of the configuration (R228, R244). -/
def State.configPut (s : State) (a : Nat) (v : Bytes) : State :=
  match s.warp.loaded with
  | some l => { s with warp := { s.warp with loaded := some { l with config := Mem.write l.config a v } } }
  | none => s

/-- A value takes effect on a loop object, configuration or state record (R244). -/
def State.putLoop (s : State) (j sub : Nat) (v : Bytes) : State :=
  match loopCfgField sub, loopRecField sub with
  | some (o, _), _ => (s.configPut (s.loopCfgAt j + o) v).loadSlot j
  | none, some (o, _) => s.storePut (loopRecAt (s.loopCfg j) + o) v
  | none, none => s.setObj (loopObj j sub) v

def State.putGain (s : State) (g sub : Nat) (v : Bytes) : State :=
  match gainField sub with
  | some (o, _) => s.configPut (s.gainAt g + o) v
  | none => s

/-- A stored PERSISTENT value of a warp-defined object applied as RUN begins (R148). -/
def State.applyStored1 (s : State) (a : Nat) (v : Bytes) : State :=
  let ix := addrIndex a
  let sub := addrSub a
  if isPointIx ix then
    match s.point? (ix - 0x100000) with
    | none => s
    | some p =>
      let b := pointAt p
      if sub = 0 then ((s.storePut b (fit 8 v)).storePut (b + 8) (fit 8 v)).storePut (b + 26) (leBytes 2 0)
      else if sub = 3 then s.storePut (b + 16) (fit 8 v) else if sub = 6 then s.storePut (b + 29) v else s
  else if isLoopIx ix then if ix - 0x10000 < s.loopCount then s.putLoop (ix - 0x10000) sub v else s
  else if isGainIx ix then if ix - 0x20000 < s.gainCount then s.putGain (ix - 0x20000) sub v else s
  else if isGroupIx ix then s.setObj a v else s

def State.applyStored (s : State) : State :=
  s.stored.foldl (fun s e => if isStationIx (addrIndex e.1) then s.applyStored1 e.1 e.2 else s) s

/-- The initial state of R148: every STATE_MAP area cleared, the blocks written in section order, the stored values applied. -/
def State.initialState (s : State) : State :=
  let ss := s.sections
  let b := sectBody ss 0x0B
  let s1 := (stateAreas ss).foldl (fun s a => { s with store := Mem.clear s.store (stateBase + a.offset) a.length }) s
  let s2 := (initialBlocks b (recCount b) 8).foldl (fun s e => s.storePut (stateBase + e.1) e.2) s1
  { s2.applyStored with loopsMissed := [], loopsHeld := [] }

/-- Stored values bound to another LAYOUT_DIGEST are discarded with one tally (R149). -/
def State.bindStored (s : State) (digest : Bytes) : State :=
  let old := s.stored.filter fun e => isStationIx (addrIndex e.1)
  if s.storedLayout = digest || old.isEmpty then { s with storedLayout := digest }
  else ({ s with storedLayout := digest, stored := s.stored.filter fun e => !isStationIx (addrIndex e.1) }).logTally 0x0204 [old.length]

/-! ### What the objects report -/

/-- Name of a bank's domain. -/
def bankDomain (k : Nat) : Nat := if k = 0 then Obj.warpBankA else Obj.warpBankB
def digestObj (k : Nat) : Nat := if k = 0 then Obj.warpDigestA else Obj.warpDigestB

/-- Longest execution of a proof in ns and its tick index (Table 5-14): the largest count at each tick's clock, with the ns rounded down (DESIGN
CHOICE, log entry 36). -/
def worstExec (ss : List Section) (profile : Nat) : Nat × Nat :=
  match ss.find? fun x => decide (x.type = 0x0C) && decide (x.inst = profile) with
  | none => (0, 0)
  | some x =>
    (List.range hyperTicks).foldl (fun best t =>
      let r := slice x.body (40 + 32 * t) 32
      let n := if profile = 3 then max (u32At r 16) (u32At r 20)
        else max (max (u32At r 0) (u32At r 4)) (max (u32At r 8) (u32At r 12))
      let ns := n * 1000 / (clockAt (sectBody ss 9) profile t).1
      if best.1 < ns then (ns, t) else best) (0, 0)

/-- The objects that report the loaded image (Tables 2-5, 3-7, 5-14, 17-10). -/
def State.reportLoaded (s : State) : State :=
  match s.warp.loaded with
  | none =>
    let s1 := (((s.setNum Obj.activeWarpBank 0xFF).setNum Obj.pdPort 0).setFlag Obj.jumboDeclared false).setNum Obj.configPagesUsed 0
    [Obj.worstExecSatin, Obj.worstTickSatin, Obj.worstExecTwill, Obj.worstTickTwill, Obj.worstExecCanvas, Obj.worstTickCanvas,
     Obj.forcedPoints, Obj.activeAlarms, Obj.unackedAlarms, Obj.loopsInHold, Obj.loopsInEnvelope].foldl
      (fun (s : State) a => s.setNum a 0) s1
  | some l =>
    let ss := l.sections
    let s1 := (((s.setNum Obj.activeWarpBank l.bank).setNum Obj.pdPort (netPdPort ss)).setFlag Obj.jumboDeclared (netJumbo ss)).setNum
      Obj.configPagesUsed l.pages.length
    let (a, ta) := worstExec ss 1
    let (b, tb) := worstExec ss 2
    let (c, tc) := worstExec ss 3
    (((((s1.setNum Obj.worstExecSatin a).setNum Obj.worstTickSatin ta).setNum Obj.worstExecTwill b).setNum Obj.worstTickTwill tb).setNum
      Obj.worstExecCanvas c).setNum Obj.worstTickCanvas tc

/-- The bank objects of Table 5-15 at their defaults, with a BankState. -/
def State.clearBank (s : State) (k state : Nat) : State :=
  (((((((((s.setNum (Obj.bankState k) state).setNum (Obj.refusalReason k) 0).setNum (Obj.refusalDetail k) 0).setNum (Obj.provenProfiles k) 0).setObj
    (Obj.layoutDigest k) (zeros 32)).setNum (Obj.imageLength k) 0).setObj (Obj.buildTime k) (zeros 12)).setObj (Obj.applicationName k) [0]).setNum
      (Obj.opkorVersion k) 0).setObj (digestObj k) (zeros 32)

/-- The bank objects of a VALID image. -/
def State.reportValid (s : State) (k : Nat) (img : Bytes) : State :=
  let h := img.take 192
  ((((((((s.clearBank k 3).setNum (Obj.provenProfiles k) (hdrProven h)).setObj (Obj.layoutDigest k) (hdrLayoutDigest h)).setNum
    (Obj.imageLength k) (u32At h 8)).setObj (Obj.buildTime k) (slice h 28 12)).setObj (Obj.applicationName k) (hdrName h)).setNum
      (Obj.opkorVersion k) (u32At h 24))).setObj (digestObj k) (imageDigest img)

/-- The bank image, and whether the bank reads VALID. -/
def State.bankImage (s : State) (k : Nat) : Bytes := (s.domain (bankDomain k)).content
def State.bankValid (s : State) (k : Nat) : Bool := decide (s.num (Obj.bankState k) = 3)

/-- The bank is locked by a write or a verification (R158, R161). -/
def State.bankLocked (s : State) (k : Nat) : Bool := decide (s.num (Obj.bankState k) = 1) || decide (s.num (Obj.bankState k) = 2)

/-- The verification of a bank that has been written begins (R161). -/
def State.verifyWritten (s : State) (k : Nat) : State :=
  let s1 := (s.setDomain (bankDomain k) ⟨s.bankImage k, 3⟩).setNum (Obj.bankState k) 2
  { s1 with warp := { s1.warp with written := (s1.warp.written.filter (· ≠ k)) ++ [k] } }

/-- Dictionary entries of warp-defined objects removed: their volatile values return to the warp's initial ones. -/
def State.dropWarpDict (s : State) : State := { s with dict := s.dict.filter fun e => !isStationIx (addrIndex e.1) }

/-- Accepted writes that wait for a cut-off are discarded (R44), with the tests accepted and not yet started. -/
def State.dropHeld (s : State) : State :=
  let drop := fun (c : Capture) => { c with next := none }
  { s with weftQueue := [], captures := s.captures.map drop }

/-- The warp state released (UNLOAD, joining with another image). -/
def State.releaseWarp (s : State) : State :=
  ({ s.dropWarpDict.dropHeld with warp := { s.warp with loaded := none }, can := { s.can with slots := [] }, ended := [], shown := [] }).reportLoaded

/-- An image becomes the loaded one: R149, the objects, and the initial values that reads in READY return (R50). -/
def State.setLoaded (s : State) (l : Loaded) : State :=
  let s1 := { s.releaseWarp with warp := { s.warp with loaded := some l } }.loadTables
  ((s1.bindStored (hdrLayoutDigest l.header)).reportLoaded).initialState

end Sys2Proof.Machine
end

