-- ==== Sys2Proof/Machine/Island.lean ====
section
/-! DEFINITION. The safety island (chapter 14): the parameter set (Tables 14-6, 14-7), inputs and test pulses, outputs, the
cause-and-effect matrix (R392, Table 14-5), the island's states (Table 14-9) and the mirror (Table 14-11). -/

namespace Sys2Proof.Machine

/-! ### The parameter set -/

def setDigest (b : Bytes) : Bytes := sha256 (b.take 64 ++ b.drop 128)
def setRevisionOf (b : Bytes) : Nat := u32At b 24
def setNameOf (b : Bytes) : Bytes := slice b 28 (1 + u8At b 28)

/-- Input record (Table 14-6). -/
def inMode (b : Bytes) (i : Nat) : Nat := u8At b (128 + 16 * i)
def inTp (b : Bytes) (i : Nat) : Nat := u8At b (129 + 16 * i)
def inPair (b : Bytes) (i : Nat) : Nat := u8At b (130 + 16 * i)
def inFilter (b : Bytes) (i : Nat) : Nat := u16At b (132 + 16 * i)
def inDiscrepancy (b : Bytes) (i : Nat) : Nat := u16At b (134 + 16 * i)
/-- Cause record. -/
def causeInputs (b : Bytes) (i : Nat) : Nat := u8At b (256 + 16 * i)
def causeMode (b : Bytes) (i : Nat) : Nat := u8At b (257 + 16 * i)
def causeOnDelay (b : Bytes) (i : Nat) : Nat := u16At b (258 + 16 * i)
def causeEffects (b : Bytes) (i : Nat) : Nat := u8At b (260 + 16 * i)
/-- Effect record. -/
def effUsed (b : Bytes) (e : Nat) : Nat := u8At b (768 + 16 * e)
def effFlags (b : Bytes) (e : Nat) : Nat := u8At b (769 + 16 * e)
def effReset (b : Bytes) (e : Nat) : Nat := u8At b (770 + 16 * e)
def effTripDelay (b : Bytes) (e : Nat) : Nat := u16At b (772 + 16 * e)
def effDarkPulse (b : Bytes) (e : Nat) : Nat := u16At b (774 + 16 * e)
def resetChannel (b : Bytes) (k : Nat) : Nat := u8At b (895 + k)
def resetMin (b : Bytes) : Nat := u16At b 898
def resetMax (b : Bytes) : Nat := u16At b 900

def between (lo hi v : Nat) : Bool := decide (lo ≤ v) && decide (v ≤ hi)
def allZero (b : Bytes) : Bool := b.all (· == 0)

/-- DISCREPANCY (Table 14-6): 10 to 500 ms for a pair, 0 for an unpaired channel; the even channel of a pair may hold either. -/
def discrepancyOk (b : Bytes) (i : Nat) : Bool :=
  let zero := decide (inDiscrepancy b i = 0)
  let inRange := between 10 500 (inDiscrepancy b i)
  if inPair b i ≠ 0 then inRange else if i % 2 = 1 && inPair b (i - 1) = 1 then zero || inRange else zero

/-- Reserved bytes and ranges of Table 14-6. -/
def setFieldsOk (b : Bytes) : Bool :=
  let n := u8At b 28
  let name := n ≤ 35 && utf8Ok (slice b 29 n) && allZero (slice b (29 + n) (35 - n))
  let input := fun (i : Nat) =>
    let m := inMode b i
    m ≤ 3 && (if m = 0 then inTp b i ≤ 4 else if m = 2 then decide (inTp b i = 0) else between 1 4 (inTp b i)) && inPair b i ≤ 1 &&
      decide (u8At b (131 + 16 * i) = 0) &&
      (decide (m = 0 && inFilter b i = 0) || (between 1000 8000 (inFilter b i) && decide (inFilter b i % 500 = 0))) &&
      discrepancyOk b i && allZero (slice b (136 + 16 * i) 8)
  let cause := fun (i : Nat) => causeMode b i ≤ 2 && causeOnDelay b i ≤ 60000 && allZero (slice b (261 + 16 * i) 11)
  let effect := fun (e : Nat) =>
    effUsed b e ≤ 1 && effFlags b e < 4 && (decide (effUsed b e = 0 && effReset b e = 0) || between 1 2 (effReset b e)) &&
      decide (u8At b (771 + 16 * e) = 0) && effTripDelay b e ≤ 30000 &&
      (if e < 4 then decide (effUsed b e = 0 && effDarkPulse b e = 0) || between 100 300 (effDarkPulse b e) else decide (effDarkPulse b e = 0)) &&
      allZero (slice b (776 + 16 * e) 8)
  allZero (slice b 9 3) && decide (u32At b 20 < 1000000000) && name && (List.range 8).all input && (List.range 32).all cause &&
    (List.range 8).all effect && resetChannel b 1 ≤ 8 && resetChannel b 2 ≤ 8 && between 100 1000 (resetMin b) &&
    between (resetMin b) 5000 (resetMax b) && allZero (slice b 902 122)

/-- Pairs (R386): only odd channels pair, both in TP mode with different TP outputs or both in OSSD mode. -/
def setPairsOk (b : Bytes) : Bool :=
  (List.range 8).all fun i =>
    decide (inPair b i = 0) || (decide (i % 2 = 0) &&
      ((decide (inMode b i = 1) && decide (inMode b (i + 1) = 1) && decide (inTp b i ≠ inTp b (i + 1))) ||
        (decide (inMode b i = 2) && decide (inMode b (i + 1) = 2))))

def setCausesOk (b : Bytes) : Bool :=
  (List.range 32).all fun i => decide (causeMode b i = 0) ||
    (decide (causeEffects b i ≠ 0) && (List.range 8).all fun n => !bit (causeInputs b i) n || inMode b n = 1 || inMode b n = 2)

def setResetsOk (b : Bytes) : Bool :=
  let elementOk := fun (k : Nat) => decide (resetChannel b k ≠ 0) && decide (inMode b (resetChannel b k - 1) = 3)
  ((List.range 8).all fun e => decide (effUsed b e = 0) || elementOk (effReset b e)) &&
    [1, 2].all fun k => decide (resetChannel b k = 0) || elementOk k

/-- First refusal code of Table 14-7; 0 for none. -/
def State.setRefusal (s : State) (b : Bytes) : Nat :=
  let slot := u8At b 8
  if b.length ≠ 1024 || u32At b 0 ≠ 0x53465A43 || u16At b 4 ≠ 1 || u16At b 6 ≠ 1024 then 1
  else if (s.keys.safetyStatus.toList[slot]?).getD 0 ≠ 1 then 2
  else if !ecdsaVerify ((s.keys.safety.toList[slot]?).getD []) (setDigest b) (slice b 64 64) then 3
  else if !setFieldsOk b then 4
  else if !setPairsOk b then 5
  else if !setCausesOk b then 6
  else if !setResetsOk b then 7 else 0

/-! ### Codes and the mirror -/

def EffectState.code : EffectState → Nat
  | .unused => 0 | .on => 1 | .tripDelaying => 2 | .tripped => 3 | .restartRequired => 4 | .fault => 5

def IslandMode.code : IslandMode → Nat
  | .off => 0 | .starting => 1 | .operating => 2 | .safeFault => 3 | .locked => 4 | .noSet => 5

def Island.setBytes (x : Island) : Bytes := x.set.getD (zeros 1024)

/-- INPUT_FAULT (Table 14-3): DISCREPANCY stands before another latched code (DESIGN CHOICE, log entry 50). -/
def SafetyInput.code (n : SafetyInput) : Nat := if n.disc then 4 else n.fault

/-- What channel `i` (0 based) reads, the latch of its pair aside: high, with no fault, anomaly or TP fault (R383 to R385). -/
def Island.channelValue (x : Island) (i : Fin 8) : Bool :=
  let n := x.inputs[i]
  let tp := inTp x.setBytes i.val
  n.level && decide (n.fault = 0) && decide (n.anomalies = 0) &&
    !((inMode x.setBytes i.val = 1 || inMode x.setBytes i.val = 3) && (x.tpFault.toList[tp - 1]?).getD false)

/-- Value of input `i`: a latched DISCREPANCY holds it at 0 too (R386). -/
def Island.inputValue (x : Island) (i : Fin 8) : Bool := x.channelValue i && !x.inputs[i].disc

/-- Value that a cause reads: a pair's is 1 only while both are (R386). -/
def Island.pairValue (x : Island) (i : Fin 8) : Bool :=
  let odd : Fin 8 := ⟨i.val / 2 * 2, by omega⟩
  let even : Fin 8 := ⟨i.val / 2 * 2 + 1, by omega⟩
  if inPair x.setBytes odd.val = 1 then x.inputValue odd && x.inputValue even else x.inputValue i

/-- An output conducts: both its switches are closed in the field side. -/
def Island.outputOn (x : Island) (o : Fin 4) : Bool := x.applied[o].1 && x.applied[o].2

/-- An output is off in the field side, and commanded off. -/
def Island.outputOff (x : Island) (o : Fin 4) : Bool := !x.applied[o].1 && !x.applied[o].2 && !x.outputs[o].high

/-- Bytes 7 to 35 and 44 to 49 of the mirror: what the island's state changes show. -/
def Island.face (x : Island) : Bytes × Bytes :=
  ([byte x.mode.code, byte (ofBits ((List.finRange 8).map x.inputValue)), byte (ofBits (x.tpFault.toList.map (!·))),
    byte (ofBits ((List.finRange 4).map x.outputOn)), byte (ofBits ((x.effects.toList.drop 4).map fun e => decide (e.state = .on)))] ++
    leBytes 4 (ofBits (x.causes.toList.map (·.active))) ++ x.inputs.toList.map (fun i => byte i.code) ++
    x.outputs.toList.map (fun o => byte o.fault) ++ x.effects.toList.map (fun e => byte e.state.code),
   (match x.set with | some b => (setDigest b).take 4 | none => zeros 4) ++ leBytes 2 x.fault)

/-- A change of the island counts in EVENT_SEQ. -/
def Island.changed (old new : Island) : Island :=
  if old.face = new.face then new else { new with eventSeq := (new.eventSeq + 1) % 65536 }

def State.setIsland (s : State) (x : Island) : State := { s with island := s.island.changed x }

/-- Bytes 7 to 63 of the mirror (Table 14-11) are taken from the island: at the end of a scan, and as its state changes outside one, when no scan
runs that could show it (R402; DESIGN CHOICE, log entry 130). -/
def Island.afterScan (x : Island) : Island :=
  { x with shown := x.face.1 ++ (x.outputs.toList.flatMap fun o => leBytes 2 o.current) ++ x.face.2 ++ leBytes 2 x.eventSeq ++ zeros 12 }

def State.showIsland (s : State) : State := { s with island := s.island.afterScan }

/-- The 64-byte mirror (Table 14-11), with the link's epoch and supply of the group C field side. -/
def Island.mirrorBytes (x : Island) (epoch supplyMv flags : Nat) : Bytes :=
  leBytes 4 epoch ++ leBytes 2 supplyMv ++ [byte flags] ++ x.shown

/-! ### Start and states -/

def blankInput : SafetyInput := ⟨false, 0, false, 0, false, 0, none⟩
def blankOutput : SafetyOutput := ⟨false, false, 0, true, 0⟩

/-- Every used effect RESTART_REQUIRED, outputs off (Table 14-5, first row); what an output had latched is judged again by the switch-on
sequence (DESIGN CHOICE, log entry 118). -/
def Island.restartEffects (x : Island) : Island :=
  let b := x.setBytes
  let es := Vector.ofFn fun (e : Fin 8) => if x.set.isSome && effUsed b e.val = 1 then (⟨.restartRequired, 0⟩ : SafetyEffect) else ⟨.unused, 0⟩
  { x with effects := es, outputs := x.outputs.map fun o => { o with high := false, low := false, fault := 0 } }

/-- An input as the island starts: a reset input that is high then stays so until it falls, which fires nothing (Table 14-13). -/
def Island.startInput (x : Island) (i : Fin 8) : SafetyInput := { blankInput with level := x.inputs[i].level && decide (inMode x.setBytes i.val = 3) }

/-- A stored copy of a set with its CRC (R401). -/
def storedSet (b : Bytes) : Bytes := b ++ leBytes 4 (crc32c b)
def storedSetOk (c : Bytes) : Bool := decide (c.length = 1028) && decide (crc32c (c.take 1024) = u32At c 1024)

/-- The set that the island finds stored: a copy whose CRC holds (R401). -/
def Island.loadSet (x : Island) : Option Bytes :=
  if storedSetOk x.copyA then some (x.copyA.take 1024) else if storedSetOk x.copyB then some (x.copyB.take 1024) else none

/-- The field side's switches open and stay so until the island has commanded the outputs off: an output comes back only through Table 14-5
(R399; DEDUCED, log entry 129). -/
def Island.openAll (x : Island) : Island := { x with applied := Vector.replicate 4 (false, false), barred := Vector.replicate 4 true }

/-- The switches that a link C frame commands, as the field side takes them. -/
def Island.apply (x : Island) (command : Nat) : Island :=
  let high := fun (o : Fin 4) => bit command o.val
  let low := fun (o : Fin 4) => bit command (4 + o.val)
  let barred := Vector.ofFn fun o => x.barred[o] && (high o || low o)
  { x with barred := barred, applied := Vector.ofFn fun o => if barred[o] then (false, false) else (high o, low o) }

/-- The island and its field side start (R397): self-test, outputs off, every used effect RESTART_REQUIRED, TP outputs pulsing. -/
def Island.start (x : Island) : Island :=
  { x.openAll with mode := .starting, set := x.loadSet, rxSeq := none, inputs := Vector.ofFn x.startInput, tpFault := Vector.replicate 4 false,
                     tpBad := Vector.replicate 4 false, causes := Vector.replicate 32 ⟨false, 0, false⟩,
                     outputs := Vector.replicate 4 blankOutput, fired := [], linkStopped := false,
                     silent := false, tpHigh := Vector.replicate 4 true }.restartEffects

/-- The silence state of the group C field side, or its end (R382). -/
def Island.silence (x : Island) (on : Bool) : Island :=
  { (if on then x.openAll else x) with silent := on, tpHigh := Vector.replicate 4 (!on) }

/-- The island at OFF: no logic supply (R396). -/
def Island.powerOff (x : Island) : Island := { x.start.silence true with mode := .off, inputs := Vector.replicate 8 blankInput, linkStopped := true, resets := [], next := none }

/-- The self-test has passed. -/
def execIslandSelfTestDone (s : State) : Host.Outcome State Fault Refusal :=
  .next (if s.island.mode ≠ .starting then s
    else if s.island.set.isSome then (s.setIsland { s.island.restartEffects with mode := .operating }).showIsland
    else (s.setIsland { s.island with mode := .noSet }).showIsland)

/-- States in which the island works. -/
def Island.works (x : Island) : Bool := decide (x.mode = .starting) || decide (x.mode = .operating) || decide (x.mode = .noSet)

/-- Island resets within 600 s of an instant. -/
def recentResets (resets : List Nat) (now : Nat) : List Nat := resets.filter fun t => decide (now < t + 600000000000)

/-- Fault code of a Canary island check (Table 14-10). -/
def islandCheckCode : IslandCheck → Nat
  | .scanPeriod _ => 0x0101 | .programFlow _ => 0x0102 | .clock _ _ => 0x0103 | .linkC _ _ => 0x0104 | .readback _ _ _ => 0x0105
  | .setDigest _ => 0x0106 | .memory _ _ => 0x0107

/-- A Canary island check passes (Table 14-10): the readback is held against the switches that the last link C frame commanded, the digest against
that of the set in force, and the frame period of link C against 250 µs within the 2 % of the island clock (DEDUCED, log entry 131). -/
def Island.checkPasses (x : Island) : IslandCheck → Bool
  | .scanPeriod ns => decide (980000 ≤ ns) && decide (ns ≤ 1020000)
  | .programFlow found => decide (found = Config.islandSignature)
  | .clock a b => decide (98 * b ≤ 100 * a) && decide (100 * a ≤ 102 * b)
  | .linkC ns good => good && decide (245000 ≤ ns) && decide (ns ≤ 255000)
  | .readback o high low => decide ((high, low) = (x.outputs[o].high, x.outputs[o].low))
  | .setDigest found => x.set.all fun b => decide (setDigest b = found)
  | .memory good ms => good && decide (ms ≤ 8000)

/-- A Canary island check of Table 14-10; one that fails is an island fault (R397, R398): link C stops, and the third island reset within 600 s
locks the island. -/
def execCanaryIslandFault (check : IslandCheck) (s : State) : Host.Outcome State Fault Refusal :=
  .next (
    let x := s.island
    if !x.works || x.checkPasses check then s
    else
      let locked := decide (2 ≤ (recentResets x.resets s.localNs).length)
      (s.setIsland { x with fault := islandCheckCode check, linkStopped := true, mode := if locked then .locked else .safeFault }).showIsland)

/-! ### Inputs -/

def Island.setInput (x : Island) (i : Fin 8) (n : SafetyInput) : Island := { x with inputs := x.inputs.set i n }

/-- The reset elements on channel `i` + 1. -/
def Island.elementsOn (x : Island) (i : Nat) : List Nat := [1, 2].filter fun k => decide (resetChannel x.setBytes k = i + 1)

/-- A RESET-mode input falls: its elements fire if the high phase lasted between RESET_MIN and RESET_MAX (R387). -/
def Island.resetFalls (x : Island) (i : Fin 8) (atUs : Nat) : Island :=
  let n := x.inputs[i]
  let b := x.setBytes
  match n.highUs with
  | some t =>
    let d := atUs - t
    -- Table 14-13: until that TP output is healthy
    let tpBad := (x.tpBad.toList[inTp b i.val - 1]?).getD false
    if 1000 * resetMin b ≤ d && d ≤ 1000 * resetMax b && n.code = 0 && !tpBad then { x with fired := x.fired ++ x.elementsOn i.val } else x
  | none => x

/-- A sample of a safety input is high at 11 V or more; the transition region counts as low (R384). -/
def sampleHigh (mv : Nat) : Bool := decide (11000 ≤ mv)

/-- A sample at an instant of the island clock that an input in TP mode ignores: it lies in the mask of its own TP output (Table 14-2). -/
def maskedAt (b : Bytes) (i us : Nat) : Bool :=
  decide (inMode b i = 1) && decide (5000 * (inTp b i - 1) ≤ us % 20000) && decide (us % 20000 ≤ 5000 * (inTp b i - 1) + 500)

/-- The level that samples 50 µs apart, from `startUs` on, have read for FILTER (R384): every one that is not ignored is high, or every one
is low. -/
def filteredLevel (b : Bytes) (i startUs : Nat) (samples : List (BitVec 16)) : Option Bool :=
  let kept := (samples.zipIdx.filter fun e => !maskedAt b i (startUs + 50 * e.2)).map fun e => sampleHigh e.1.toNat
  if 50 * samples.length < inFilter b i || kept.isEmpty then none
  else if kept.all id then some true else if kept.all (!·) then some false else none

/-- A safety input's samples have read one level for FILTER (R384). The press of a reset input counts from the end of STARTING on (Table 14-13). -/
def execInputFilterExpiry (i : Fin 8) (startUs : Nat) (samples : List (BitVec 16)) (s : State) : Host.Outcome State Fault Refusal :=
  .next (
    let x := s.island
    let atUs := startUs + 50 * samples.length
    match filteredLevel x.setBytes i.val startUs samples with
    | none => s
    | some high =>
    if !x.works || x.inputs[i].level = high then s
    else
      let n := x.inputs[i]
      if inMode x.setBytes i.val = 3 then
        if high then s.setIsland (x.setInput i { n with level := true, highUs := if x.mode = .starting then none else some atUs })
        else s.setIsland ((x.resetFalls i atUs).setInput i { n with level := false, highUs := none })
      else s.setIsland (x.setInput i { n with level := high }))

/-- One frame's check of an input in TP mode (R385): two consecutive anomalies latch; one alone is counted. The second component says
whether a single anomaly ended here. -/
def tpCheck (n : SafetyInput) (code : Nat) : SafetyInput × Bool :=
  if code = 0 then ({ n with anomalies := 0, clean := true }, decide (n.anomalies = 1))
  else if 1 ≤ n.anomalies then ({ n with anomalies := 2, clean := false, fault := if n.fault = 0 then code else n.fault }, false)
  else ({ n with anomalies := 1, clean := false }, false)

/-- Samples of a 20 ms frame that fall inside the low pulse of TP output `k` (0 based), and those that fall outside it; a sample at either end
of the pulse is neither (Table 14-2; DESIGN CHOICE, log entry 132). -/
def inPulse (k j : Nat) : Bool := decide (5000 * k < 50 * j) && decide (50 * j < 5000 * k + 400)
def outOfPulse (k j : Nat) : Bool := decide (50 * j < 5000 * k) || decide (5000 * k + 400 < 50 * j)

/-- The samples of a frame for which `p` holds all read `high`. -/
def readsAll (w : BitVec 400) (high : Bool) (p : Nat → Bool) : Bool := (List.range 400).all fun j => !p j || w.getLsbD j == high

/-- A TP output's readback: low throughout its pulse, and high throughout the rest of the frame (R383). -/
def tpReadbackOk (k : Nat) (w : BitVec 400) : Bool := readsAll w false (inPulse k) && readsAll w true (outOfPulse k)

/-- Low in the pulse of TP output `k` and high on both sides of it: the samples just before the pulse and just after its mask. -/
def lowInPulse (k : Nat) (w : BitVec 400) : Bool :=
  readsAll w false (inPulse k) && w.getLsbD ((100 * k + 399) % 400) && w.getLsbD (100 * k + 11)

/-- What a frame shows of an input in TP mode on TP output `tp` (1 based), in the order of Table 14-3: its code. -/
def observationCode (tp : Nat) (w : BitVec 400) : Nat :=
  if readsAll w true (inPulse (tp - 1)) then 1
  else if (List.range 4).any fun k => decide (k + 1 ≠ tp) && lowInPulse k w then 2 else 0

/-- The end of a test-pulse frame (R383, R385): TP_FAULT stands before what the input itself shows (DESIGN CHOICE, log entry 132). -/
def execTpFrame (inputs readback : List (BitVec 400)) (s : State) : Host.Outcome State Fault Refusal :=
  .next (
    let x := s.island
    if !x.works then s
    else
      let bad := Vector.ofFn fun (k : Fin 4) => !tpReadbackOk k.val ((readback[k.val]?).getD 0)
      let x1 := { x with tpBad := bad, tpFault := Vector.ofFn fun (k : Fin 4) => x.tpFault[k] || bad[k] }
      let b := x.setBytes
      let judge := fun (i : Fin 8) =>
        let tp := inTp b i.val
        if inMode b i.val = 1 then
          tpCheck x.inputs[i] (if 1 ≤ tp && (bad.toList[tp - 1]?).getD false then 3 else observationCode tp ((inputs[i.val]?).getD 0))
        else (x.inputs[i], false)
      let x2 := { x1 with inputs := Vector.ofFn fun i => (judge i).1 }
      let n := ((List.finRange 8).filter fun i => (judge i).2).length
      let s1 := s.setIsland x2
      if n = 0 then s1 else s1.count Obj.crossShortsTransient n)

/-- The values of a channel pair have differed beyond DISCREPANCY (R386). -/
def execDiscrepancy (p : Fin 4) (s : State) : Host.Outcome State Fault Refusal :=
  .next (
    let x := s.island
    let a : Fin 8 := ⟨2 * p.val, by omega⟩
    let c : Fin 8 := ⟨2 * p.val + 1, by omega⟩
    if !x.works || inPair x.setBytes a.val ≠ 1 || x.channelValue a = x.channelValue c then s
    else
      let mark := fun (n : SafetyInput) => { n with disc := true, phase := 0 }
      s.setIsland ((x.setInput a (mark x.inputs[a])).setInput c (mark x.inputs[c])))

/-- The way out of DISCREPANCY as a scan sees it: both 0, then both 1. -/
def Island.trackDiscrepancy (x : Island) : Island :=
  let other := fun (i : Fin 8) => if i.val % 2 = 0 then (⟨(i.val + 1) % 8, by omega⟩ : Fin 8) else ⟨i.val - 1, by omega⟩
  let step := fun (i : Fin 8) =>
    let n := x.inputs[i]
    let a := x.channelValue i
    let c := x.channelValue (other i)
    if !n.disc then n
    else if n.phase = 0 && !a && !c then { n with phase := 1 }
    else if n.phase = 1 && a && c then { n with phase := 2 } else n
  { x with inputs := Vector.ofFn step }

/-- A reset has fired: latched input faults that may clear do (R383, R385, R386). -/
def Island.clearFaults (x : Island) : Island :=
  let step := fun (n : SafetyInput) =>
    let m := if n.disc && decide (n.phase = 2) then { n with disc := false, phase := 0 } else n
    if m.fault ≠ 0 && m.clean then { m with fault := 0 } else m
  { x with inputs := x.inputs.map step, tpFault := Vector.ofFn fun (k : Fin 4) => x.tpFault[k] && x.tpBad[k] }

/-! ### Outputs -/

def Island.setOutput (x : Island) (o : Fin 4) (v : SafetyOutput) : Island := { x with outputs := x.outputs.set o v }
def Island.setEffect (x : Island) (e : Fin 8) (v : SafetyEffect) : Island := { x with effects := x.effects.set e v }
def effOf (o : Fin 4) : Fin 8 := ⟨o.val, by omega⟩

/-- The output of an effect follows its new state: the switch-on sequence closes the high-side switch first (R389). -/
def Island.drive (x : Island) (e : Fin 8) : Island :=
  if h : e.val < 4 then
    let o : Fin 4 := ⟨e.val, h⟩
    let v := x.outputs[o]
    let on := decide (x.effects[e].state = .on) || decide (x.effects[e].state = .tripDelaying)
    if on then (if v.high then x else x.setOutput o { v with high := true, low := false, fault := 0 })
    else x.setOutput o { v with high := false, low := false, fault := if v.fault = 7 then 0 else v.fault }
  else x

/-- A latching output fault (Table 14-4): both switches open, the effect in FAULT; an effect that the set does not use stays UNUSED
(DEDUCED, log entry 118). -/
def Island.latchFault (x : Island) (o : Fin 4) (code : Nat) : Island :=
  let y := x.setOutput o { x.outputs[o] with high := false, low := false, fault := code }
  if x.effects[effOf o].state = .unused then y else y.setEffect (effOf o) ⟨.fault, 0⟩

/-- The check 1 ms after the high-side switch closed (R389). -/
def execSwitchOnCheck (o : Fin 4) (lowMv supplyMv : Nat) (s : State) : Host.Outcome State Fault Refusal :=
  .next (
    let x := s.island
    let v := x.outputs[o]
    if !x.works || !v.high || v.low then s
    else if supplyMv ≤ lowMv + 5000 then s.setIsland (x.setOutput o { v with low := true })
    else s.setIsland (x.latchFault o 4))

/-- A dark test of the switch that is due (R390). -/
def execDarkTest (o : Fin 4) (readMv supplyMv : Nat) (s : State) : Host.Outcome State Fault Refusal :=
  .next (
    let x := s.island
    let v := x.outputs[o]
    if !x.works || !x.outputOn o then s
    else
      let pass := if v.testHigh then decide (readMv ≤ 5000) else decide (supplyMv ≤ readMv + 5000)
      if pass then s.setIsland (x.setOutput o { v with testHigh := !v.testHigh })
      else (s.setIsland (x.latchFault o (if v.testHigh then 2 else 3))).count Obj.darkTestFailures)

/-- An output fault of Table 14-4: OVERLOAD of an output with a switch closed, SHORT_H and EXTERNAL_FEED of one that is off, and OPEN_LOAD, which
is reported only with OPEN_LOAD_WARN and latches nothing. Codes 2 to 4 come of the tests themselves. -/
def execSafetyOutputFault (o : Fin 4) (code : Fin 8) (s : State) : Host.Outcome State Fault Refusal :=
  .next (
    let x := s.island
    let v := x.outputs[o]
    if !x.works then s
    else if code = 0 then (if v.fault = 7 then s.setIsland (x.setOutput o { v with fault := 0 }) else s)
    else if code = 7 then
      (if bit (effFlags x.setBytes o.val) 1 && x.outputOn o then s.setIsland (x.setOutput o { v with fault := 7 }) else s)
    else if (code = 1 && (x.applied[o].1 || x.applied[o].2)) || ((code = 5 || code = 6) && x.outputOff o) then
      s.setIsland (x.latchFault o code.val)
    else s)

/-! ### The scan -/

/-- A cause's combination over the input values (R391). -/
def Island.combination (x : Island) (c : Nat) : Bool :=
  let b := x.setBytes
  let demand := fun (i : Fin 8) => !x.pairValue i
  let named := (List.finRange 8).filter fun i => bit (causeInputs b c) i.val
  if causeMode b c = 1 then named.any demand
  else if causeMode b c = 2 then !named.isEmpty && named.all demand else false

/-- A cause after one scan: active when its combination holds, and has held for ON_DELAY without a break. -/
def Island.causeStep (x : Island) (c : Fin 32) : SafetyCause :=
  let old := x.causes[c]
  if x.combination c.val then
    let held := if old.holds then old.heldMs + 1 else 0
    ⟨true, held, decide (causeOnDelay x.setBytes c.val ≤ held)⟩
  else ⟨false, 0, false⟩

/-- An effect after one scan: the first row of Table 14-5 that applies. -/
def effectStep (old : SafetyEffect) (demand fires inputFault outputFault latch : Bool) (tripDelay : Nat) : SafetyEffect :=
  match old.state with
  | .unused => old
  | st =>
    if outputFault && st ≠ .fault then ⟨.fault, 0⟩
    else match st with
      | .on => if demand then (if tripDelay = 0 then ⟨.tripped, 0⟩ else ⟨.tripDelaying, 0⟩) else old
      | .tripDelaying => if tripDelay ≤ old.timer + 1 then ⟨.tripped, 0⟩ else ⟨.tripDelaying, old.timer + 1⟩
      | .tripped => if demand then old else if latch then ⟨.restartRequired, 0⟩ else ⟨.on, 0⟩
      | .restartRequired => if fires && !demand && !inputFault then ⟨.on, 0⟩ else old
      | .fault => if fires && !demand then ⟨.on, 0⟩ else old
      | .unused => old

/-- One scan of the matrix (R392). -/
def Island.scan (x : Island) : Island :=
  let b := x.setBytes
  let causes := Vector.ofFn x.causeStep
  let onto := fun (e : Nat) (c : Fin 32) => decide (causeMode b c.val ≠ 0) && bit (causeEffects b c.val) e
  let demand := fun (e : Nat) => (List.finRange 32).any fun c => causes[c].active && onto e c
  -- a pair is one input (R386): both its channels count where either is named
  let names := fun (c i : Nat) => bit (causeInputs b c) i ||
    (decide (inPair b (i / 2 * 2) = 1) && (bit (causeInputs b c) (i / 2 * 2) || bit (causeInputs b c) (i / 2 * 2 + 1)))
  let faulted := fun (e : Nat) => (List.finRange 32).any fun c => onto e c &&
    (List.finRange 8).any fun i => names c.val i.val && decide (x.inputs[i].code ≠ 0)
  let step := fun (e : Fin 8) =>
    let outFault := match x.outputs.toList[e.val]? with | some o => decide (1 ≤ o.fault) && decide (o.fault ≤ 6) | none => false
    effectStep x.effects[e] (demand e.val) (x.fired.contains (effReset b e.val)) (faulted e.val) outFault (bit (effFlags b e.val) 0)
      (effTripDelay b e.val)
  let x1 := { x with causes := causes, effects := Vector.ofFn step }
  let x2 := (List.finRange 8).foldl (fun y e => y.drive e) x1
  let x3 := if x.fired.isEmpty then x2 else x2.clearFaults
  { x3.trackDiscrepancy with fired := [] }

/-- A scan while L+C is TRIPPED leaves every used effect RESTART_REQUIRED: the first row of Table 14-5. -/
def Island.scanUnder (x : Island) (tripped : Bool) : Island := if tripped then x.scan.restartEffects else x.scan

/-- A confirmed set comes into force once both copies are stored, and the effects restart (R401, Table 14-9). -/
def Island.takeSet (x : Island) (b : Bytes) : Island :=
  { x with set := some b, next := none, copyA := storedSet b, copyB := storedSet b, mode := .operating, fired := []
           causes := Vector.replicate 32 ⟨false, 0, false⟩ }.restartEffects

/-- Every 1 ms on the island clock; a confirmed set comes into force here, and SafetySetDigest shows it (R401). -/
def execIslandScan (currents : List (BitVec 16)) (s : State) : Host.Outcome State Fault Refusal :=
  .next (
    let x := s.island
    let outs := Vector.ofFn fun (o : Fin 4) => { x.outputs[o] with current := ((currents[o.val]?).getD 0).toNat }
    let x := { x with outputs := outs }
    if x.mode ≠ .operating && x.mode ≠ .noSet then s
    else match x.next with
      | some b => (s.setIsland (x.takeSet b)).showIsland.setObj Obj.safetySetDigest (setDigest b)
      | none =>
        if x.mode = .noSet then (s.setIsland { x with fired := [] }).showIsland
        else (s.setIsland (x.scanUnder s.io.sides[2].tripped)).showIsland)

/-- The combination of a cause has held for ON_DELAY: the cause is active. -/
def execOnDelayExpiry (c : Fin 32) (s : State) : Host.Outcome State Fault Refusal :=
  .next (
    let x := s.island
    let v := x.causes[c]
    if x.mode ≠ .operating || !v.holds || v.active then s
    else s.setIsland { x with causes := x.causes.set c { v with heldMs := causeOnDelay x.setBytes c.val, active := true } })

/-- TRIP_DELAY of an effect has elapsed, whether or not demand persists. -/
def execTripDelayExpiry (e : Fin 8) (s : State) : Host.Outcome State Fault Refusal :=
  .next (if s.island.mode ≠ .operating || s.island.effects[e].state ≠ .tripDelaying then s
    else s.setIsland ((s.island.setEffect e ⟨.tripped, 0⟩).drive e))

/-! ### The set and the proof test -/

/-- The island has verified a written set (R394, R400). -/
def execSafetySetVerified (s : State) : Host.Outcome State Fault Refusal :=
  .next (if s.num Obj.pendingState ≠ 2 then s
    else
      let b := s.island.pending
      let code := s.setRefusal b
      let d := (Assoc.get? s.domains Obj.safetyParameterSet).getD ⟨[], 0⟩
      let s1 := { s with domains := Assoc.set s.domains Obj.safetyParameterSet { d with status := if code = 0 then 1 else 4 } }
      if code = 0 then ((s1.setNum Obj.pendingState 3).setNum Obj.pendingRefusal 0).setObj Obj.pendingDigest (setDigest b)
      else ((s1.setNum Obj.pendingState 4).setNum Obj.pendingRefusal code).setObj Obj.pendingDigest (zeros 32))

/-- A pending VALID set is confirmed (R401): stored, and in force at the next scan. -/
def State.confirmSet (s : State) : State :=
  let b := s.island.pending
  let old := match s.island.set with | some o => first4 (setDigest o) | none => 0
  let s1 := { s with island := { s.island with next := some b, pending := [] } }
  ((s1.setNum Obj.pendingState 0).setObj Obj.pendingDigest (zeros 32)).logTally 0x0B03 [old, first4 (setDigest b)]

/-- The instant at which ProofTestInterval has elapsed since LastProofTest (R403). -/
def State.proofTestNs (s : State) : Nat := time96Ns (s.obj Obj.lastProofTest) + s.num Obj.proofTestInterval * 86400000000000

/-- ProofTestInterval has elapsed since LastProofTest (R403), which the time unit says. -/
def execProofTestDue (s : State) : Host.Outcome State Fault Refusal :=
  .next (if s.island.proofDue || decide (s.timeNs < s.proofTestNs) then s else { s with island := { s.island with proofDue := true } }.logTally 0x0108 [])

/-! ### What the die reads of the mirror -/

/-- A valid mirror arrives at a tick's capture (R402, Table 14-12). -/
def State.takeMirror (s : State) (m : Bytes) : State :=
  let core := fun (b : Bytes) => slice b 7 29 ++ slice b 44 8
  let s1 := (((((((s.setNum Obj.islandState (u8At m 7)).setNum Obj.islandFault (u16At m 48)).setNum Obj.inputValues (u8At m 8)).setObj
    Obj.inputFaults (slice m 16 8)).setObj Obj.effectStates (slice m 28 8)).setObj Obj.outputFaults (slice m 24 4)).setObj
    Obj.outputCurrents (slice m 36 8)).setNum Obj.causeStates (u32At m 12)
  let b := s.island.setBytes
  let s2 := (s1.setNum Obj.setRevision (setRevisionOf b)).setObj Obj.setName (setNameOf b)
  let s3 := { s2 with island := { s2.island with lastMirror := some m } }
  match s.island.lastMirror with
  | none => s3
  | some old =>
    if core old = core m then s3
    else
      let seq := u16At m 50
      let s4 := s3.logTally 0x0B01 [u32At m 7, u32At m 12, u32At m 28, seq + u16At m 48 * 65536]
      let d := (seq + 65536 - u16At old 50) % 65536
      if 1 < d then s4.logTally 0x0B02 [d - 1] else s4

end Sys2Proof.Machine
end

