-- ==== Sys2Proof/Machine/Time.lean ====
section
/-! DEFINITION. Network time (chapter 10, R100 to R103, R130, R131): the PTP ports and their measurements, the choice of the
grandmaster, lock, holdover, refusal and step, PPS, and the time of a standby. Message forms and the best master clock algorithm
are those of IEEE 1588-2019, which R292 names. -/

namespace Sys2Proof.Machine

/-- PtpTimeState codes (Table 10-2). -/
inductive TimeState where
  | noParent | locking | locked | holdover | jumpRefused | grandmaster | seamFollowing
  deriving DecidableEq, Repr

def TimeState.code : TimeState → Nat
  | .noParent => 0 | .locking => 1 | .locked => 2 | .holdover => 3 | .jumpRefused => 4 | .grandmaster => 5 | .seamFollowing => 6

/-- IEEE 1588 portState codes that a port takes. -/
def portListening : Nat := 4
def portMaster : Nat := 6
def portSlave : Nat := 9

/-- PtpTimeState changes; an armed permit is cleared unused when JUMP_REFUSED ends (R301). -/
def State.setTimeState (s : State) (t : TimeState) : State :=
  let s1 := s.setNum Obj.ptpTimeState t.code
  if t = .jumpRefused then s1 else s1.setFlag Obj.reStepArmed false
def State.timeStateIs (s : State) (t : TimeState) : Bool := decide (s.num Obj.ptpTimeState = t.code)

/-- A standby that is not DEGRADED takes its edges from the active (R305). -/
def State.shadowTime (s : State) : Bool := decide (s.mode = .standby) && !s.degraded
def State.atRest (s : State) : Bool := decide (s.mode = .service) || decide (s.mode = .ready)
/-- Delay mechanism: request-response, else peer delay. -/
def State.endToEnd (s : State) : Bool := decide (s.started Obj.ptpDelayMechanism = 1)
/-- PTP runs over UDP/IPv4, else over Layer 2 (Table 10-1). -/
def State.ptpUdp (s : State) : Bool := decide (s.started Obj.ptpTransport = 2)
/-- PTP is served: enabled at the last start, in a state with the network up; over UDP with an address (R70). -/
def State.ptpOn (s : State) : Bool :=
  decide (s.started Obj.ptpEnable ≠ 0) && decide (s.mode ≠ .off) && decide (s.mode ≠ .layup) && (!s.ptpUdp || decide (s.ownIp ≠ 0))
/-- The clock is master-capable; a standby's ports run slave-only (R305). -/
def State.masterCapable (s : State) : Bool := decide (s.started Obj.ptpMode = 1) && decide (s.mode ≠ .standby)

def blankPort : PtpPort := ⟨[], none, 0, none, none, none, 0, 0, 0, none, none, []⟩
def blankTime : TimeUnit := ⟨Vector.replicate 2 blankPort, 0, false, false, none, none, false, none, false⟩

def State.ptpPort (s : State) (p : NetPort) : PtpPort := s.time.ports[portIx p]
def State.setPtpPort (s : State) (p : NetPort) (x : PtpPort) : State :=
  { s with time := { s.time with ports := s.time.ports.set (portIx p) x } }
def otherPort : NetPort → NetPort
  | .a => .b | .b => .a

/-- Clock identity (R293), and the port identity of a port. -/
def State.clockIdentity (s : State) : Nat :=
  let m := s.obj Obj.moduleMac
  beNat (m.take 3 ++ [0xFF, 0xFE] ++ m.drop 3)
def State.portIdentity (s : State) (p : NetPort) : Nat := s.clockIdentity * 65536 + portNo p + 1

def State.portIs (s : State) (p : NetPort) (st : Nat) : Bool := decide (s.num (Obj.portState (portNo p)) = st)
def State.anySlave (s : State) : Bool := s.portIs .a portSlave || s.portIs .b portSlave

/-! ### Lock and holdover -/

/-- PPS_OUT is negated with mode 0x00, and while HOLDOVER is set unless PpsOutInHoldover (R310); a pulse in progress ends there. -/
def State.ppsJudge (s : State) : State :=
  if s.time.ppsOut && (decide (s.num Obj.ppsOutMode = 0) || (s.holdover && !s.flag Obj.ppsOutInHoldover)) then
    { s with time := { s.time with ppsOut := false } }.send .pps 0 0 [0]
  else s

/-- Reference of the edges without network time (R130): XO, or the IRC when the XO has failed. -/
def State.localSource (s : State) : Nat := if s.clocks.refIrc then 2 else 1

/-- Entry to holdover, in a time state (R130, R297, R300); a module that has not locked since its start stays unlocked (R102). -/
def State.enterHoldover (s : State) (t : TimeState) : State :=
  let s0 := { s with time := { s.time with below := 0 } }
  if s.num Obj.tickSource = 0 then
    let s1 := (((s0.setNum Obj.tickSource s.localSource).setDetail 2 true).setTimeState t).setObj Obj.holdoverSince (time96 s.timeNs)
    ((s1.count Obj.holdoverEntries).logTally 0x0801 []).ppsJudge
  else s0.setTimeState t

/-- Lock (R297): TIME_LOCKED, TickSource 0x00; HOLDOVER clears at the next edge (R131). -/
def State.timeLock (s : State) (t : TimeState) : State :=
  ((s.setNum Obj.tickSource 0).setTimeState t).logTally 0x0802 []

/-! ### The best master clock algorithm -/

def lexLt : List Nat → List Nat → Bool
  | [], _ => false
  | _ :: _, [] => false
  | a :: as, b :: bs => decide (a < b) || (decide (a = b) && lexLt as bs)

def announceKey (m : PtpAnnounce) : List Nat :=
  [m.priority1.toNat, m.clockClass.toNat, m.accuracy.toNat, m.variance.toNat, m.priority2.toNat, m.grandmaster.toNat]

/-- Announce `a` is better than `b`: by grandmaster, then by distance and sender for one grandmaster. -/
def betterMaster (a b : PtpAnnounce) : Bool :=
  if a.grandmaster = b.grandmaster then lexLt [a.stepsRemoved.toNat, a.source.toNat] [b.stepsRemoved.toNat, b.source.toNat]
  else lexLt (announceKey a) (announceKey b)

def bestMaster (ms : List PtpAnnounce) : Option PtpAnnounce :=
  ms.foldl (fun best m => match best with
    | none => some m
    | some b => if betterMaster m b then some m else best) none

/-- The station's own data set (R293): clockClass 255 in slave-only mode. -/
def State.ownKey (s : State) : List Nat :=
  [s.started Obj.ptpPriority1, if s.masterCapable then 248 else 255, 0xFE, 0xFFFF, s.started Obj.ptpPriority2, s.clockIdentity]

def State.setPortState (s : State) (p : NetPort) (st : Nat) : State := s.setNum (Obj.portState (portNo p)) st

/-- The selected grandmaster; a change from one to another is counted and recorded (Table 10-2). -/
def State.setGrandmaster (s : State) (gm : Nat) : State :=
  let old := beNat (s.obj Obj.grandmasterIdentity)
  let s1 := s.setObj Obj.grandmasterIdentity (beBytes 8 gm)
  if old = gm || old = 0 then s1
  else (s1.count Obj.grandmasterChanges).logTally 0x0805 [leNat ((beBytes 8 gm).take 4), leNat ((beBytes 8 gm).drop 4)]

/-- No port is SLAVE: a loss condition of R297, except for a station that is grandmaster by R302. -/
def State.noSlave (s : State) : State :=
  if s.shadowTime || s.timeStateIs .grandmaster then s
  else if s.num Obj.tickSource = 3 then s.setTimeState .noParent
  else s.enterHoldover .holdover

/-- The state decision of both ports over the Announces held (R294, R295, R302). A slave-only clock whose own data set is the better one
listens (PRESUMED, IEEE 1588-2019: a recommended MASTER is LISTENING there; log entry 30). -/
def State.selectMaster (s : State) : State :=
  let ba := bestMaster (s.ptpPort .a).masters
  let bb := bestMaster (s.ptpPort .b).masters
  let best := bestMaster (ba.toList ++ bb.toList)
  let better := match best with | none => true | some m => lexLt s.ownKey (announceKey m)
  if better && s.masterCapable then
    let s1 := (((s.setPortState .a portMaster).setPortState .b portMaster).setGrandmaster s.clockIdentity)
    if s.time.hadParent then s1.noSlave
    else if s.timeStateIs .grandmaster then s1 else s1.timeLock .grandmaster
  else
    match (if better then none else best) with
    | none => ((s.setPortState .a portListening).setPortState .b portListening).noSlave
    | some m =>
      let slave := fun (b : Option PtpAnnounce) => match b with
        | some x => if x.grandmaster = m.grandmaster then portSlave else portListening
        | none => portListening
      let s1 := (((s.setPortState .a (slave ba)).setPortState .b (slave bb)).setGrandmaster m.grandmaster.toNat)
      let parent := match (if s.num Obj.timePort = 1 then bb else ba) with
        | some x => if x.grandmaster = m.grandmaster then x else m
        | none => m
      let s2 := (s1.setObj Obj.parentIdentity (beBytes 10 parent.source.toNat)).setNum Obj.utcOffset m.utcOffset.toNat
      let s3 := { s2 with time := { s2.time with hadParent := true } }
      if s3.shadowTime then s3
      else if s3.timeStateIs .noParent || s3.timeStateIs .grandmaster then s3.setTimeState .locking else s3

/-- A message that R292 does not support. -/
def State.ptpDiscard (s : State) : State := s.count Obj.ptpDiscarded

/-- Messages of PTP that a port takes in a second (R507). -/
def ptpLimit : Nat := 256

/-- A message reaches a port while PTP is served, in the station's VLAN (R67): within the limit of R507 it acts, if it came by the transport
in use; beyond it it is dropped and counted. -/
def State.ptpTake (s : State) (p : NetPort) (vlan : Option Nat) (udp : Bool) (act : State → State) : State :=
  if !s.ptpOn then s
  else
    let s := (s.count (Obj.rxFrames (portNo p))).hear p
    let ts := lastSecond s.localNs (s.ptpPort p).arrivals
    if !s.vlanTakes vlan then s.count Obj.framesDiscarded
    else if ptpLimit ≤ ts.length || udp ≠ s.ptpUdp then s.ptpDiscard
    else act (s.setPtpPort p { s.ptpPort p with arrivals := ts ++ [s.localNs] })

/-- An Announce of PtpDomain on the PTP timescale enters the algorithm (R294); of each master the newest is kept. -/
def execAnnounce (p : NetPort) (m : PtpAnnounce) (s : State) : Host.Outcome State Fault Refusal :=
  .next (s.ptpTake p m.vlan m.udp fun s =>
    if m.domain ≠ s.started Obj.ptpDomain || !m.timescale then s.ptpDiscard
    else
      let x := s.ptpPort p
      (s.setPtpPort p { x with masters := x.masters.filter (fun y => y.source ≠ m.source) ++ [m] }).selectMaster)

/-- No Announce for PtpAnnounceTimeout intervals: the port's masters are forgotten. -/
def execAnnounceTimeout (p : NetPort) (s : State) : Host.Outcome State Fault Refusal :=
  .next (if !s.ptpOn then s
    else
      let s1 := s.count (Obj.announceTimeouts (portNo p))
      (s1.setPtpPort p { s1.ptpPort p with masters := [] }).selectMaster)

/-! ### Offsets -/

/-- A step condition with an offset (R298, R301): applied at the next guard, or held in RUN and STANDBY (R102). -/
def State.stepCondition (s : State) (k : StepKind) (off : Int) : State :=
  let s1 := { s with time := { s.time with step := some (k, -off) } }
  if s.mode.running then s1.setFlag Obj.stepHeld true else s1

/-- Refusal of an offset beyond the threshold (R300). -/
def State.refuseOffset (s : State) (off : Int) : State :=
  let s1 := { s.setNum Obj.refusedOffset (ofSigned 64 off) with time := { s.time with below := 0 } }
  if s.timeStateIs .jumpRefused then s1
  else ((s1.enterHoldover .jumpRefused).count Obj.jumpsRefused).logTally 0x0804 []

/-- The rate correction that removes an offset (R101, R131): against its sign and at most 100 ppm; how large it is below that, the
manual does not say. -/
def State.adjustRate (s : State) (off : Int) : State :=
  let (v, s1) := s.drawFree
  let size : Int := (v.toNat % 100001 : Nat)
  s1.setNum Obj.rateAdjust (ofSigned 32 (if off = 0 then 0 else if off < 0 then size else -size))

/-- Judgement of a measured offset of the time port (R297, R298, R300, R301). -/
def State.judgeOffset (s : State) (off : Int) : State :=
  let permit := match s.time.step with | some (.permit, _) => true | _ => false
  if !s.time.firstDone then s.stepCondition .first off
  else if permit then { s with time := { s.time with step := some (.permit, -off) } }
  else if s.num Obj.jumpThreshold < off.natAbs then
    if s.flag Obj.reStepArmed then
      let s1 := { s.setFlag Obj.reStepArmed false with time := { s.time with below := 0 } }
      s1.stepCondition .permit off
    else s.refuseOffset off
  else
    let s1 := if s.timeStateIs .jumpRefused then s.setTimeState .holdover else s
    let s2 := s1.adjustRate off
    let n := if off.natAbs < 1000 then s2.time.below + 1 else 0
    let s3 := { s2 with time := { s2.time with below := n } }
    if 16 ≤ n && s3.num Obj.tickSource ≠ 0 then s3.timeLock .locked
    else if 16 ≤ n && s3.timeStateIs .locking then s3.setTimeState .locked else s3

/-- A step held through STANDBY keeps the offset last measured: it is applied with the one current at its application (R301). -/
def State.heldOffset (s : State) (off : Int) : State :=
  match s.time.step with
  | some (.set, _) => s
  | some (k, _) => { s with time := { s.time with step := some (k, -off) } }
  | none => s

/-- A measured offset of a port (R295, R296): reported, and judged on the time port. -/
def State.measured (s : State) (p : NetPort) (off : Int) : State :=
  let x := s.ptpPort p
  let gm := (bestMaster x.masters).map fun m => m.grandmaster.toNat
  let s1 := (s.setPtpPort p { x with offsetAt := some s.localNs, offsetGm := gm }).setNum (Obj.portOffset (portNo p)) (ofSigned 64 off)
  if s.shadowTime then s1.heldOffset off
  else
    let s2 := if s1.num Obj.timePort = 0xFF
      then s1.setNum Obj.timePort (if s1.portIs .a portSlave then 0 else 1) else s1
    if s2.num Obj.timePort ≠ portNo p then s2
    else
      let s3 := (s2.setNum Obj.offsetFromMaster (ofSigned 64 off)).setNum Obj.meanPathDelay (s2.num (Obj.portPathDelay (portNo p)))
      s3.judgeOffset off

/-- ns of a TIME stamp of a message (R307). -/
def ptpStampNs (m : PtpMsg) : Nat := m.seconds.toNat * 1000000000 + m.nanos.toNat
/-- Whole ns of a correction field. -/
def corrNs (c : Int) : Int := c / 65536

def State.pathDelay (s : State) (p : NetPort) : Int := (s.num (Obj.portPathDelay (portNo p)) : Nat)
def State.asymmetry (s : State) (p : NetPort) : Int := toSigned 32 (s.num (Obj.portAsymmetry (portNo p)))

/-- The parent of a port: the best master heard on it. -/
def State.fromParent (s : State) (p : NetPort) (m : PtpMsg) : Bool :=
  match bestMaster (s.ptpPort p).masters with
  | some x => decide (x.source = m.source) && s.portIs p portSlave
  | none => false

/-- A Sync's stamps complete: its offset (IEEE 1588: reception less origin, less correction, path delay and asymmetry). -/
def State.syncComplete (s : State) (p : NetPort) (rx : Nat) (origin : Nat) (corr : Int) : State :=
  let delta : Int := (rx : Int) - origin - corrNs corr
  let s1 := s.setPtpPort p { s.ptpPort p with sync := none, syncDelta := some delta }
  s1.measured p (delta - s.pathDelay p - s.asymmetry p)

def State.wrongDomain (s : State) (m : PtpMsg) : Bool := decide (m.domain ≠ s.started Obj.ptpDomain)

/-- A Sync (R297): one-step completes at once, two-step waits for its Follow_Up. -/
def execSync (p : NetPort) (m : PtpMsg) (s : State) : Host.Outcome State Fault Refusal :=
  .next (s.ptpTake p m.vlan m.udp fun s =>
    if s.wrongDomain m then s.ptpDiscard
    else if !s.fromParent p m then s
    else
      let s1 := s.count (Obj.syncReceived (portNo p))
      let s2 := s1.setPtpPort p { s1.ptpPort p with syncInterval := m.logInterval }
      if m.twoStep then s2.setPtpPort p { s2.ptpPort p with sync := some (m.seq.toNat, m.rxNs, m.corr) }
      else s2.syncComplete p m.rxNs (ptpStampNs m) m.corr)

/-- A Follow_Up completes the Sync of its sequence number. -/
def execFollowUp (p : NetPort) (m : PtpMsg) (s : State) : Host.Outcome State Fault Refusal :=
  .next (s.ptpTake p m.vlan m.udp fun s =>
    if s.wrongDomain m then s.ptpDiscard
    else if !s.fromParent p m then s
    else match (s.ptpPort p).sync with
      | some (seq, rx, corr) => if seq = m.seq.toNat then s.syncComplete p rx (ptpStampNs m) (corr + m.corr) else s
      | none => s)

/-- A path delay measured on a port; a negative one is reported as 0. -/
def State.setPathDelay (s : State) (p : NetPort) (d : Int) : State :=
  let s1 := s.setNum (Obj.portPathDelay (portNo p)) d.toNat
  if s1.num Obj.timePort = portNo p then s1.setNum Obj.meanPathDelay d.toNat else s1

/-- A Delay_Resp to this port's Delay_Req: the mean path delay. -/
def execDelayResp (p : NetPort) (m : PtpMsg) (s : State) : Host.Outcome State Fault Refusal :=
  .next (s.ptpTake p m.vlan m.udp fun s =>
    if s.wrongDomain m || !s.endToEnd then s.ptpDiscard
    else if !s.fromParent p m || m.requesting.toNat ≠ s.portIdentity p then s
    else
      let x := s.ptpPort p
      match x.request, x.syncDelta with
      | some (seq, t3), some delta =>
        if seq = m.seq.toNat then
          (s.setPtpPort p { x with request := none }).setPathDelay p ((delta + (((ptpStampNs m) : Int) - t3 - corrNs m.corr)) / 2)
        else s
      | _, _ => s)

/-- A Pdelay_Resp to this port's Pdelay_Req. -/
def execPdelayResp (p : NetPort) (m : PtpMsg) (s : State) : Host.Outcome State Fault Refusal :=
  .next (s.ptpTake p m.vlan m.udp fun s =>
    if s.wrongDomain m || s.endToEnd then s.ptpDiscard
    else
      let x := s.ptpPort p
      match x.request with
      | some (seq, t1) =>
        if seq ≠ m.seq.toNat || m.requesting.toNat ≠ s.portIdentity p then s
        else if m.twoStep then s.setPtpPort p { x with peer := some ((ptpStampNs m), m.rxNs, m.corr) }
        else (s.setPtpPort p { x with request := none }).setPathDelay p (((m.rxNs : Int) - t1 - corrNs m.corr) / 2)
      | none => s)

/-- A Pdelay_Resp_Follow_Up completes the link delay. -/
def execPdelayRespFollowUp (p : NetPort) (m : PtpMsg) (s : State) : Host.Outcome State Fault Refusal :=
  .next (s.ptpTake p m.vlan m.udp fun s =>
    if s.wrongDomain m || s.endToEnd then s.ptpDiscard
    else
      let x := s.ptpPort p
      match x.request, x.peer with
      | some (seq, t1), some (t2, t4, corr) =>
        if seq ≠ m.seq.toNat || m.requesting.toNat ≠ s.portIdentity p then s
        else (s.setPtpPort p { x with request := none, peer := none }).setPathDelay p
          ((((t4 : Int) - t1) - (((ptpStampNs m) : Int) - t2) - corrNs (corr + m.corr)) / 2)
      | _, _ => s)

/-! ### Transmission -/

/-- 10 bytes of a PTP timestamp. -/
def ptpStamp (ns : Nat) : Bytes := beBytes 6 (ns / 1000000000) ++ beBytes 4 (ns % 1000000000)

/-- A PTP message (IEEE 1588-2019, 13.3): header and body. -/
def State.ptpBytes (s : State) (p : NetPort) (type flags control : Nat) (corr : Int) (seq : Nat) (log : Int) (body : Bytes) : Bytes :=
  [byte type, 0x12] ++ beBytes 2 (34 + body.length) ++ [byte (s.started Obj.ptpDomain), 0] ++ beBytes 2 flags ++
    beBytes 8 (ofSigned 64 corr) ++ zeros 4 ++ beBytes 10 (s.portIdentity p) ++ beBytes 2 seq ++ [byte control, byte (ofSigned 8 log)] ++ body

/-- A message leaves on its port (Table 10-1): to the group of the delay mechanism, on Layer 2 or over UDP port 319 (event) or 320
(general). -/
def State.sendPtp (s : State) (p : NetPort) (event : Bool) (b : Bytes) : State :=
  let group := if s.endToEnd then 0xE0000181 else 0xE000006B
  let port := if event then 319 else 320
  let head := if s.ptpUdp then s.ipHead .ptp false group (some (port, port)) b
    else s.ethHead .ptp false (some (if s.endToEnd then 0x011B19000000 else 0x0180C200000E)) etherPtp
  let (seq, s1) := s.takePrpSeq false
  s1.sendOn (portNo p) .ptp (if s.ptpUdp then group * 65536 + port else 0) seq head b

def twoStepFlag : Nat := 0x0200
def timescaleFlag : Nat := 0x0008

/-- The clock's own messages: delay requests, and as master Sync with Follow_Up, and Announce (R292, R293). -/
def execPtpTransmit (p : NetPort) (what : PtpSend) (txNs : Nat) (s : State) : Host.Outcome State Fault Refusal :=
  .next (if !s.ptpOn then s
    else
      let x := s.ptpPort p
      match what with
      | .delay =>
        let seq := x.nextRequest
        let log := toSigned 8 (s.started Obj.ptpLogMinDelayInterval)
        if s.endToEnd then
          if !s.portIs p portSlave then s
          else (s.setPtpPort p { x with request := some (seq, txNs), nextRequest := (seq + 1) % 65536 }).sendPtp p true
            (s.ptpBytes p 1 0 1 0 seq 0x7F (zeros 10))
        else (s.setPtpPort p { x with request := some (seq, txNs), peer := none, nextRequest := (seq + 1) % 65536 }).sendPtp p true
          (s.ptpBytes p 2 0 5 0 seq log (zeros 20))
      | .sync =>
        if !s.portIs p portMaster then s
        else
          let seq := x.nextSync
          let log := toSigned 8 (s.started Obj.ptpLogSyncInterval)
          let s1 := s.setPtpPort p { x with nextSync := (seq + 1) % 65536 }
          (s1.sendPtp p true (s.ptpBytes p 0 twoStepFlag 0 0 seq log (zeros 10))).sendPtp p false
            (s.ptpBytes p 8 0 2 0 seq log (ptpStamp txNs))
      | .announce =>
        if !s.portIs p portMaster then s
        else
          let seq := x.nextAnnounce
          let body := zeros 10 ++ beBytes 2 (s.num Obj.utcOffset) ++ [0, byte (s.started Obj.ptpPriority1), 248, 0xFE, 0xFF, 0xFF,
            byte (s.started Obj.ptpPriority2)] ++ beBytes 8 s.clockIdentity ++ [0, 0, 0xA0]
          (s.setPtpPort p { x with nextAnnounce := (seq + 1) % 65536 }).sendPtp p false
            (s.ptpBytes p 0x0B timescaleFlag 5 0 seq (toSigned 8 (s.started Obj.ptpLogAnnounceInterval)) body))

/-- A Delay_Req is answered while the clock is master, with its reception stamp. -/
def execDelayReq (p : NetPort) (m : PtpMsg) (s : State) : Host.Outcome State Fault Refusal :=
  .next (s.ptpTake p m.vlan m.udp fun s =>
    if s.wrongDomain m || !s.endToEnd then s.ptpDiscard
    else if !s.portIs p portMaster then s
    else s.sendPtp p false (s.ptpBytes p 9 0 3 m.corr m.seq.toNat (toSigned 8 (s.started Obj.ptpLogMinDelayInterval))
      (ptpStamp m.rxNs ++ beBytes 10 m.source.toNat)))

/-- A Pdelay_Req is answered with Pdelay_Resp and Pdelay_Resp_Follow_Up. -/
def execPdelayReq (p : NetPort) (m : PtpMsg) (txNs : Nat) (s : State) : Host.Outcome State Fault Refusal :=
  .next (s.ptpTake p m.vlan m.udp fun s =>
    if s.wrongDomain m || s.endToEnd then s.ptpDiscard
    else (s.sendPtp p true (s.ptpBytes p 3 twoStepFlag 5 0 m.seq.toNat 0x7F (ptpStamp m.rxNs ++ beBytes 10 m.source.toNat))).sendPtp p false
      (s.ptpBytes p 0x0A 0 5 m.corr m.seq.toNat 0x7F (ptpStamp txNs ++ beBytes 10 m.source.toNat)))

/-! ### Loss of offsets, port switch, step -/

/-- A port has produced no valid offset for so many ns. -/
def State.offsetSilent (s : State) (p : NetPort) (ns : Nat) : Bool :=
  (s.ptpPort p).offsetAt.all fun (t : Nat) => decide (t + ns ≤ s.localNs)

/-- Three Sync intervals, as the parent's Sync messages on the port gave them, in ns (R296). -/
def State.threeSyncs (s : State) (p : NetPort) : Nat :=
  let n := (s.ptpPort p).syncInterval
  if 0 ≤ n then 3000000000 * 2 ^ n.toNat else 3000000000 / 2 ^ n.natAbs

/-- Neither port has produced a valid offset for HoldoverEntry (R297). -/
def execHoldoverEntry (s : State) : Host.Outcome State Fault Refusal :=
  let due := [NetPort.a, NetPort.b].all fun p => s.offsetSilent p (s.num Obj.holdoverEntry * 1000000)
  .next (if s.shadowTime || s.num Obj.tickSource ≠ 0 || s.timeStateIs .grandmaster || !due then s else s.enterHoldover .holdover)

/-- The time port has produced no valid offset for three Sync intervals (R296). The jump threshold judges the difference of two offsets from
the selected grandmaster; an offset from a former one is not compared (Table 10-3). -/
def execTimePortSwitch (s : State) : Host.Outcome State Fault Refusal :=
  .next (
    let old : NetPort := if s.num Obj.timePort = 1 then .b else .a
    let new := otherPort old
    let gm := fun p => (bestMaster (s.ptpPort p).masters).map (·.grandmaster)
    let same := match gm new with | some g => decide (g.toNat = beNat (s.obj Obj.grandmasterIdentity)) | none => false
    if s.shadowTime || s.num Obj.timePort = 0xFF || !s.portIs new portSlave || !same || !s.offsetSilent old (s.threeSyncs old) then s
    else
      let o := toSigned 64 (s.num (Obj.portOffset (portNo new)))
      let d := o - toSigned 64 (s.num (Obj.portOffset (portNo old)))
      let s1 := ((s.setNum Obj.timePort (portNo new)).setNum Obj.offsetFromMaster (ofSigned 64 o)).setNum Obj.meanPathDelay
        (s.num (Obj.portPathDelay (portNo new)))
      let current := some (beNat (s.obj Obj.grandmasterIdentity))
      let comparable := decide ((s.ptpPort new).offsetGm = current) && decide ((s.ptpPort old).offsetGm = current)
      if s.time.firstDone && comparable && decide (s.num Obj.jumpThreshold < d.natAbs) then s1.refuseOffset o else s1)

/-- I32 saturation. -/
def satI32 (v : Int) : Nat := ofSigned 32 (clampInt (-2147483648) 2147483647 v)

/-- First tick edge after a time-unit time (R4). -/
def State.edgeAfter (s : State) (ns : Nat) : Nat :=
  let off := s.started Obj.tickOffset
  if ns < off then 0 else (ns - off) / tickNs + 1

/-- The step takes effect (R299): time, real-time counter, numbering, tally; a pending command that it passes over moves to the first
L-cycle boundary after it (Table 10-3). -/
def State.applyStep (s : State) (k : StepKind) (d : Int) : State :=
  let now := ((s.timeNs : Int) + d).toNat
  let new := s.edgeAfter now
  let later := fun (t : Nat) => if t < new then roundUp hyperTicks new else t
  let unit := { s.time with step := none, nextTick := some new, below := 0,
                            ppsInAt := s.time.ppsInAt.map fun (t : Nat) => ((t : Int) + d).toNat
                            firstDone := s.time.firstDone || decide (k = StepKind.first) }
  let waiting := s.command.map fun (c : PendingCommand) => { c with tick := later c.tick }
  let profiles := s.profileChange.map fun (c : Nat × Nat) => (c.1, later c.2)
  let s1 := { s with timeNs := now, rtcNs := now, time := unit, command := waiting, profileChange := profiles }
  let s2 := (s1.setFlag Obj.stepHeld false).count Obj.steps
  let s3 := if k = .set then s2
    else s2.setTimeState (if s.holdover then .holdover else .locking)
  s3.logTally 0x0803 [low32 s.tick, low32 new, satI32 (Int.tdiv d 1000)]

/-- A step held in RUN or STANDBY is applied when the module enters another state, before the first tick edge there (R102). -/
def State.applyHeld (s : State) : State :=
  match s.time.step with
  | some (k, d) => if s.flag Obj.stepHeld && (s.atRest || decide (s.mode = .boot)) then s.applyStep k d else s
  | none => s

/-- The guard in which a step takes effect; in RUN and STANDBY it stays held (R102). -/
def execTimeStepped (s : State) : Host.Outcome State Fault Refusal :=
  .next (match s.time.step with
    | none => s
    | some (k, d) => if s.mode.running || (s.flag Obj.stepHeld && decide (s.mode = .hold)) then s.setFlag Obj.stepHeld true else s.applyStep k d)

/-- Once every second while TickSource reads 0x00 (R299). -/
def execRtcUpdate (s : State) : Host.Outcome State Fault Refusal :=
  .next (if s.num Obj.tickSource = 0 then { s with rtcNs := s.timeNs } else s)

/-- The module leaves the active's edges (R306): the time state is that of the last mirrored weft. A step that this module holds stays held
(R102). -/
def State.timeFromSeam (s : State) (flags : Nat) : State :=
  let unlocked := bit flags 1
  let hold := !unlocked && bit flags 0
  let s1 := { s with time := { s.time with below := 0, firstDone := !unlocked } }
  let s2 := s1.setNum Obj.tickSource
    (if unlocked then 3 else if hold then s.localSource else 0)
  let s3 := ((s2.setDetail 2 hold).setTimeState (if unlocked then .noParent else if hold then .holdover else .locked)).setNum
    Obj.timePort (if s.portIs .a portSlave then 0 else if s.portIs .b portSlave then 1 else 0xFF)
  (if s3.anySlave then s3 else s3.noSlave).ppsJudge

/-- A standby begins to follow the active (R305): its own time state is given up, its ports are slave-only, and a step that it holds waits for the
next READY, SERVICE or BOOT (R102). -/
def State.timeFollows (s : State) : State :=
  let held := s.time.step.isSome
  let s1 := ((s.setFlag Obj.stepHeld held).setTimeState .seamFollowing).setNum Obj.rateAdjust 0
  if s1.ptpOn then s1.selectMaster else s1

/-- The rate at which a standby holds its edges to the active's, from the round trip of the timing ordered sets (R305): within R101, and otherwise a
value that the manual does not give (log entry 2). -/
def State.seamRate (s : State) : State :=
  let (v, s1) := s.drawFree
  s1.setNum Obj.rateAdjust (ofSigned 32 ((v.toNat % 200001 : Nat) - 100000))

/-- The TIME_FLAGS of a mirrored weft reach the standby (R305), HOLDOVER its StationStateDetail too. -/
def State.mirrorFlags (s : State) (f : Nat) : State := (({ s with tickFlags := f }).setDetail 2 (bit f 0)).ppsJudge

/-- The states of the PTP ports while nothing is heard (Table 10-2). -/
def State.idlePorts (s : State) : State :=
  let st := if s.started Obj.ptpEnable ≠ 0 then portListening else 3
  (s.setPortState .a st).setPortState .b st

/-- The time unit restarts (R304): time from the real-time counter, TickSource 0x03; with the backup domain lost, 0 s and RtcLost. -/
def State.timeStart (s : State) (backupLost : Bool) : State :=
  let ns := if backupLost then 0 else s.rtcNs
  let s1 := { s with timeNs := ns, rtcNs := ns, time := blankTime, ticking := false }
  (((s1.setFlag Obj.rtcLost backupLost).setNum Obj.tickSource 3).setTimeState .noParent).idlePorts

/-- Step 11 latches PtpEnable and the rest of PTP's START values: a lock that BOOT has already taken stands (R298), unless PTP is off. -/
def State.ptpStart (s : State) : State :=
  if s.started Obj.ptpEnable = 0 then (s.setTimeState .noParent).idlePorts
  else if s.portIs .a 3 && s.portIs .b 3 then s.idlePorts else s

/-! ### PPS -/

/-- A time stamp record (R308). -/
def State.stampRecord (s : State) (ns source : Nat) : Bytes := time96 ns ++ [byte s.timeFlags, byte source, 0, 0]

/-- A rising edge on PPS_IN (R311). -/
def execPpsInEdge (atNs : Nat) (s : State) : Host.Outcome State Fault Refusal :=
  .next (if !s.flag Obj.ppsInEnable then s
    else
      let s1 := { s with time := { s.time with ppsInAt := some atNs } }
      let glitch := match s.time.ppsInAt with | some t => decide (atNs < t + 900000000) | none => false
      if glitch then s1.count Obj.ppsInGlitches
      else
        let f : Int := (atNs % 1000000000 : Nat)
        (s1.setObj Obj.ppsInLast (s.stampRecord atNs 1)).setNum Obj.ppsInOffset
          (ofSigned 32 (if f < 500000000 then f else f - 1000000000)))

/-- PPS_OUT at a tick edge (R310). -/
def State.ppsEdge (s : State) (tick : Nat) : State :=
  let mode := s.num Obj.ppsOutMode
  let on := (decide (mode = 1) && decide (tick % hyperTicks = 0)) || decide (mode = 2)
  if on && !(s.holdover && !s.flag Obj.ppsOutInHoldover) then
    { s with time := { s.time with ppsOut := true } }.send .pps 0 0 [1]
  else s

/-- A PPS_OUT pulse ends. -/
def execPpsOutEnd (s : State) : Host.Outcome State Fault Refusal :=
  .next (if s.time.ppsOut then { s with time := { s.time with ppsOut := false } }.send .pps 0 0 [0] else s)

end Sys2Proof.Machine
end

