-- ==== Sys2Proof/Machine/Field.lean ====
section
/-! DEFINITION. The field sides and the barrier links (chapter 12): frames (R336 to R341), silence (R342, R343), the group A channels
(R344 to R352), field supplies (R353, R354), and what an edge marker does (R113, R309, R340). -/

namespace Sys2Proof.Machine

def groupFin : Group → Fin 3
  | .a => 0 | .b => 1 | .c => 2

def State.side (s : State) (g : Group) : FieldSide := s.io.sides[groupFin g]
def State.putSide (s : State) (g : Group) (x : FieldSide) : State := s.setSide (groupFin g) x
def State.link (s : State) (g : Group) : LogicLink := s.io.links[groupFin g]
def State.putLink (s : State) (g : Group) (x : LogicLink) : State := { s with io := { s.io with links := s.io.links.set (groupFin g) x } }

/-- The number of the next tick edge: one more than the last, the number a step has fixed (R299), or the first edge since the start. A standby
takes its edges from the active (R305), whose last CLOSE gives their numbering. -/
def State.nextEdge (s : State) : Nat :=
  let own := (s.time.nextTick).getD (if s.ticking then s.tick + 1 else s.edgeAfter s.timeNs)
  match s.pair.heard with
  | some c => if s.shadowTime && c.state = Mode.run.code then (if s.ticking then max own (c.tick + 1) else c.tick + 1) else own
  | none => own

/-! ### Digital inputs -/

/-- Judgement of a DI (Table 12-4): a definite state, or none, and the quality of the band. -/
def diBand (monitored : Bool) (mv ua : Nat) : Option Bool × Nat :=
  if monitored then
    if ua < 500 then (none, qcWireBreak) else if ua < 1500 then (none, qcUncertain) else if ua ≤ 3500 then (some false, 0)
    else if ua ≤ 5000 then (none, qcUncertain) else (some true, 0)
  else if 11000 ≤ mv && mv ≤ 30000 && 2000 ≤ ua then (some true, 0)
  else if mv ≤ 5000 || ua ≤ 1500 then (some false, 0) else (none, qcUncertain)

def State.vsEnabled (s : State) (k : Nat) : Bool := decide (s.sideCfg 0 (Obj.vsEnable k) ≠ 0)

/-- Quality of a DI: the last two rows of Table 12-4 go first. -/
def State.diQuality (s : State) (n : Fin 48) : Nat :=
  if s.io.sides[0].tripped then qcSupplyLow
  else if s.vsEnabled (n.val / 12) && bit s.io.a.vsOver (n.val / 12) then qcOverload else s.io.a.di[n].quality

/-- STATE of a sequence-of-events entry (R224). -/
def State.diState (s : State) (n : Fin 48) : Nat :=
  let m := qualityMain (s.diQuality n)
  if m = 2 then 2 else if m = 1 then 3 else b2n s.io.a.di[n].closed

/-- The point with SOE set on a DI channel 1 to 48 (R212, R348). -/
def State.soePoint (s : State) (channel : Nat) : Option PointDef :=
  s.pointDefs.find? fun p => decide (p.source = 1) && decide (p.ref = channel) && bit (s.storeNat (pointCfgAt p) 4) 28

/-- A queue of 256 entries, oldest time stamp first, takes a new one, or drops it (R224, R348). -/
def GroupA.note (a : GroupA) (e : SoeEntry) : GroupA :=
  if a.soe.length < 256 then { a with soe := insertBy (fun x y => decide (x.ns < y.ns)) e a.soe } else { a with dropped := a.dropped + 1 }

/-- Entries for the DIs whose state or quality a change of the field side moves (R347, R348), at the instant of the first sample of the new
state. -/
def State.noting (s : State) (ns : Nat) (f : State → State) : State :=
  let t := f s
  let moved := (List.finRange 48).filter fun n =>
    (decide (s.diState n ≠ t.diState n) || decide (s.diQuality n ≠ t.diQuality n)) && (s.soePoint (n.val + 1)).isSome
  t.setGroupA (moved.foldl (fun (a : GroupA) n => a.note ⟨ns, n.val + 1, t.diState n⟩) t.io.a)

def State.setDi (s : State) (n : Fin 48) (x : DiChannel) : State := s.setGroupA { s.io.a with di := s.io.a.di.set n x }

/-- The last two rows of Table 12-4 hold for a DI: it keeps the state that was last definite. -/
def State.diHeld (s : State) (n : Fin 48) : Bool :=
  s.io.sides[0].tripped || (s.vsEnabled (n.val / 12) && bit s.io.a.vsOver (n.val / 12))

/-- A definite state is taken, with its rising edge (R347, R349), unless the DI is held. -/
def State.diTake (s : State) (n : Fin 48) (seen : Bool) : DiChannel :=
  let x := s.io.a.di[n]
  if s.diHeld n then { x with seen := seen }
  else { x with seen := seen, closed := seen, count := if seen && !x.closed then (x.count + 1) % 2 ^ 32 else x.count }

/-- DIs that a change of the field side has released take the state that their band has given meanwhile. -/
def State.diRelease (s : State) : State :=
  s.setGroupA { s.io.a with di := Vector.ofFn fun n => s.diTake n s.io.a.di[n].seen }

/-- A new band of a DI is taken (R346 to R349). -/
def execDiBandChange (n : Fin 48) (mv ua : BitVec 16) (firstNs : Nat) (s : State) : Host.Outcome State Fault Refusal :=
  let x := s.io.a.di[n]
  let (st, q) := diBand (decide (s.sideCfg 0 (Obj.diMode n.val) = 1)) mv.toNat ua.toNat
  .next (if !s.io.sides[0].running then s
    else s.noting firstNs fun s => s.setDi n { s.diTake n (st.getD x.seen) with quality := q })

/-! ### Digital outputs and sensor supplies -/

/-- DoParallel of the group of a DO (R351), and the channel whose command and safe state it takes. -/
def State.doParallelOn (s : State) (n : Nat) : Bool := decide (s.sideCfg 0 (Obj.doParallel (n / 4)) ≠ 0)
def State.doLeader (s : State) (n : Nat) : Nat := if s.doParallelOn n then n / 4 * 4 else n

/-- A 24-bit word from a rule of each DO. -/
def doWord (f : Nat → Bool) : Nat := ofBits ((List.range 24).map f)

/-- The DO commands of an output image (R341, R351). -/
def State.doImage (s : State) (image : Bytes) : Nat := doWord fun n => bit (u32At image 0) (s.doLeader n)

/-- The programmed safe states (R15), HOLD keeping `hold`. -/
def State.doSafe (s : State) (hold : Nat) : Nat :=
  doWord fun n =>
    let k := s.doLeader n
    match s.sideCfg 0 (Obj.doSafeState k) with
    | 1 => true
    | 2 => bit hold k
    | _ => false

/-- The DO commands `w` applied: a channel commanded off leaves OVERLOAD. -/
def GroupA.apply (a : GroupA) (command : Bool) (w : Nat) : GroupA :=
  { a with want := w, last := if command then w else a.last, overloads := a.overloads &&& w }

/-- A DO conducts. -/
def State.doOn (s : State) (n : Nat) : Bool := !s.io.sides[0].off && bit s.io.a.want n && !bit s.io.a.overloads n

/-- Quality of one switch (R350, R353), with the current its thresholds judge. -/
def State.doSwitch (s : State) (n ma : Nat) : Nat :=
  if s.io.sides[0].tripped then qcSupplyLow
  else if !bit s.io.a.want n && bit s.io.a.above n then qcShort
  else if bit s.io.a.overloads n then qcOverload
  else if decide (s.sideCfg 0 (Obj.doOpenLoad n) ≠ 0) && s.doOn n && decide (ma < 4) then qcWireBreak else 0

/-- Rank of a code in a parallel group (R351). -/
def doRank (q : Nat) : Nat := if q = qcSupplyLow then 4 else if q = qcShort then 3 else if q = qcOverload then 2 else if q = qcWireBreak then 1 else 0

/-- Quality of a DO (R350, R351). -/
def State.doQuality (s : State) (n : Nat) : Nat :=
  let cur := fun k => (s.io.a.doCurrent[k]?).getD 0
  if s.doParallelOn n then
    let ks := (List.range 4).map fun i => n / 4 * 4 + i
    let sum := ks.foldl (fun m k => m + cur k) 0
    ks.foldl (fun q k => let p := s.doSwitch k sum; if doRank q < doRank p then p else q) 0
  else s.doSwitch n (cur n)

/-- VsStatus (Table 12-6). -/
def State.vsStatus (s : State) (k : Nat) : Nat :=
  if s.io.sides[0].off then 3 else if !s.vsEnabled k then 1 else if bit s.io.a.vsOver k then 2 else 0

/-- The switches of a load: all four of a parallel group. -/
def State.loadBits (s : State) (n : Nat) : Nat := if s.doParallelOn n then 15 * 2 ^ (n / 4 * 4) else 2 ^ n

/-- A load stays in current limit for 5 ms, or its switch reaches its thermal limit (R350 to R352). -/
def execOutputOverload (event : LoadEvent) (s : State) : Host.Outcome State Fault Refusal :=
  .next (match event.load with
    | .dout n => if s.doOn n.val then s.setGroupA { s.io.a with overloads := s.io.a.overloads ||| s.loadBits n.val } else s
    | .vs k =>
      if s.vsStatus k.val = 0 then s.noting event.firstNs fun s => s.setGroupA { s.io.a with vsOver := s.io.a.vsOver ||| 2 ^ k.val }
      else s)

/-- DoRetryInterval has passed for an overloaded channel: it is switched on again (R350, R352), but not during a trip (R357). -/
def execOverloadRetry (event : LoadEvent) (s : State) : Host.Outcome State Fault Refusal :=
  let without := fun (v m : Nat) => v - (v &&& m)
  .next (if s.io.sides[0].off then s
    else match event.load with
      | .dout n => s.setGroupA { s.io.a with overloads := without s.io.a.overloads (s.loadBits n.val) }
      | .vs k => s.noting event.firstNs fun s => (s.setGroupA { s.io.a with vsOver := without s.io.a.vsOver (2 ^ k.val) }).diRelease)

/-! ### The snapshot of group A (Table 12-3) -/

def FieldSide.supplyFlags (x : FieldSide) : Nat := ofBits [x.warning, x.tripped, x.restoring]

def State.snapshotA (s : State) (flags : Nat) : Bytes :=
  let x := s.io.sides[0]
  let a := s.io.a
  leBytes 4 x.epoch ++ leBytes 2 x.supplyMv ++ [byte flags, 0] ++ leBytes 8 (ofBits (a.di.toList.map (·.closed))) ++
    leBytes 4 a.above ++ (List.range 4).map (fun k => byte (s.vsStatus k)) ++
    (List.finRange 48).flatMap (fun n => leBytes 2 (s.diQuality n)) ++ (List.range 24).flatMap (fun n => leBytes 2 (s.doQuality n)) ++
    a.di.toList.flatMap fun d => leBytes 4 d.count

def State.latchA (s : State) (m : FieldMeasure) : State :=
  let di := s.io.a.di.mapFinIdx fun i (d : DiChannel) _ =>
    { d with current := if s.sideCfg 0 (Obj.diMode i) = 1 then ((m.diCurrent[i]?).getD 0).toNat else 0 }
  s.setGroupA { s.io.a with above := m.doAbove.toNat, doCurrent := m.doCurrent.map (·.toNat), vsCurrent := m.vsCurrent.map (·.toNat)
                            di := di }

/-- The entries that a slot-0 frame of edge `c` carries (R348): up to 12, stamped before the edge (Table 4-4, R117). -/
def State.soeDue (s : State) (c : Nat) : List SoeEntry := (s.io.a.soe.takeWhile fun x => decide (x.ns < s.edgeNs c)).take 12

/-- Their bytes, with OFFSET (R224). -/
def State.soeCarried (s : State) (c : Nat) : List Bytes :=
  let e := s.edgeNs c
  (s.soeDue c).map fun x =>
    [byte x.channel, byte x.state, 0, 0] ++ leBytes 4 (ofSigned 32 (-(((e - x.ns) / 1000 : Nat) : Int)))

/-! ### Frames (Table 12-1) -/

def barrierFrame (seq type tickLow flags : Nat) (payload : Bytes) : Bytes :=
  let b := [byte seq, byte type] ++ leBytes 2 tickLow ++ [byte flags, 0] ++ leBytes 2 payload.length ++ payload
  b ++ leBytes 2 (crc16 b)

/-- A received frame's CRC and length are right. -/
def barrierCrcOk (b : Bytes) : Bool :=
  decide (10 ≤ b.length) && decide (b.length ≤ 480) && decide (b.length = 10 + u16At b 6) && decide (crc16 (b.take (b.length - 2)) = u16At b (b.length - 2))

def framePayload (b : Bytes) : Bytes := slice b 8 (u16At b 6)

/-- Output MODE codes (R339). -/
def modeCommand : Nat := 0
def modeSafe : Nat := 1
def modePairSafe : Nat := 2

/-- MODE of SERVICE, READY and HOLD (Table 12-2). -/
def State.restMode (s : State) : Nat :=
  if s.pairEnabled && decide (s.num Obj.partnerState = Mode.run.code) then modePairSafe else modeSafe

/-- RUN ends at an edge: by a pending STOP (R129), or by an activation through READY (R169). -/
def State.runEndsAt (s : State) (edge : Nat) : Bool :=
  (match s.command with | some c => decide (c.code = 4) && decide (c.tick = edge) | none => false) ||
    (match s.warp.activation with | some a => decide (a.tick = edge) && a.decided && !a.hitless | none => false)

/-- MODE of a frame (Table 12-2); a commit frame's is that of the edge it names. -/
def State.outputMode (s : State) (commit : Bool) : Nat :=
  match s.mode with
  | .run => if commit && s.runEndsAt s.nextEdge then s.restMode else modeCommand
  | .standby => modePairSafe
  | _ => s.restMode

/-- Configuration objects of a group, in the order of the rotation (R341). -/
def configObjects : Group → List Nat
  | .a => Obj.silenceTimeout 0 :: Obj.doRetryInterval :: ((List.range 48).flatMap fun n => [Obj.diMode n, Obj.diFilter n]) ++
      ((List.range 24).flatMap fun n => [Obj.doSafeState n, Obj.doOpenLoad n]) ++ (List.range 6).map Obj.doParallel ++
      (List.range 4).map Obj.vsEnable
  | .b => Obj.silenceTimeout 1 :: Obj.hartPollInterval :: (List.range 8).flatMap fun n =>
      [Obj.aiSupply n, Obj.aiHart n, Obj.aoSafeState n, Obj.aoSafeValue n, Obj.aoFailureCurrent n, Obj.aoHart n]
  | .c => []

/-- The objects of the next configuration block: accepted writes first, then the rotation, 16 in all; and the link after it. -/
def LogicLink.nextConfig (x : LogicLink) (all : List Nat) : List Nat × LogicLink :=
  let now := x.writes.take 16
  let n := all.length
  let turn := if n = 0 then [] else (List.range (16 - now.length)).map fun i => (all[(x.rotation + i) % n]?).getD 0
  (now ++ turn, { x with writes := x.writes.drop 16, rotation := if n = 0 then 0 else (x.rotation + turn.length) % n })

/-- An IMMEDIATE configuration write reaches the next logic-to-field frame (R341). -/
def State.configWrite (s : State) (a : Nat) : State :=
  [Group.a, Group.b].foldl (fun (s : State) g =>
    if (configObjects g).contains a then s.putLink g { s.link g with writes := (s.link g).writes.filter (· ≠ a) ++ [a] } else s) s

/-- A configuration block (R341). -/
def State.configBlock (s : State) (as : List Nat) : Bytes :=
  [byte as.length, 0, 0, 0] ++ as.flatMap fun a => leBytes 2 (addrIndex a) ++ [byte (addrSub a), 0] ++ leBytes 4 (s.num a)

/-- Bytes of a group's output image, and its window (Table 17-2). -/
def imageSize : Group → Nat
  | .a => 8 | .b => 40 | .c => 0
def imageWindow : Group → Nat
  | .a => 0x2110000 | .b => 0x2111000 | .c => 0

/-- The image that a commit frame carries: the staged one, with every AO at 0 mA while R284 holds them. -/
def State.stagedImage (s : State) (g : Group) : Bytes :=
  if g = .b && s.io.aoHold then zeros 40 else Mem.read s.window (imageWindow g) (imageSize g)

/-- The logic side sends frames on links A and B (Table 12-2, R276). -/
def State.linksSend (s : State) : Bool := s.mode.answers && !s.io.fenced

/-- Barrier link B has no clock, which a hung multiplexer leaves it without (R442). -/
def State.linkStands (s : State) (g : Group) : Bool := decide (g = .b) && s.noClock 5

/-- A logic-to-field frame of group A or B leaves (R336 to R341). A discarded staging sends no commit frame (R133). -/
def State.sendBarrier (s : State) (g : Group) (slot : Fin 4) : State :=
  let commit := decide (slot = 3)
  if !s.linksSend || s.linkStands g || (commit && s.eng.discard) then s
  else
    let x := s.link g
    let (as, y) := x.nextConfig (configObjects g)
    let image := if commit then s.stagedImage g else fit (imageSize g) x.image
    let type := slot.val + 4 * s.outputMode commit + 16 * b2n commit
    let b := barrierFrame x.txSeq type ((if commit then s.nextEdge else s.tick) % 65536) 0 (image ++ s.configBlock as)
    (s.putLink g { y with txSeq := (x.txSeq + 1) % 256, sent := Assoc.set y.sent slot.val b, image := image }).send .barrier (groupIx g) 0 b

/-- A frame of the island on link C (R381), counted in the island's own frame periods, at slot 3 the commit frame; its payload, the switches of the
safety outputs, is the model's own form (log entry 25). -/
def State.sendIslandFrame (s : State) (slot : Fin 4) : State :=
  if s.island.linkStopped then s
  else
    let x := s.link .c
    let commit := decide (slot = 3)
    let out := s.island.outputs.toList
    let n := s.island.frame + b2n commit
    let b := barrierFrame x.txSeq (slot.val + 16 * b2n commit) (n % 65536) 0 [byte (ofBits (out.map (·.high) ++ out.map (·.low)))]
    let s1 := s.putLink .c { x with txSeq := (x.txSeq + 1) % 256, sent := Assoc.set x.sent slot.val b }
    { s1 with island := { s1.island with frame := n } }.send .barrier 2 0 b

/-! ### Reception on the field side -/

/-- Entries of a configuration block, as object addresses and values. -/
def configEntries (g : Group) (p : Bytes) : List (Nat × Nat) :=
  let o := imageSize g
  (List.range (min 16 (u8At p o))).map fun i =>
    let e := slice p (o + 4 + 8 * i) 8
    (objAddr (u16At e 0) (u8At e 2), u32At e 4)

/-- The rotation has passed whole since a restart. -/
def rotationWhole (g : Group) (seen : List Nat) : Bool := (configObjects g).all fun a => seen.contains a

/-- The field side after an accepted logic-to-field frame (R340, R341, R343). -/
def FieldSide.take (x : FieldSide) (g : Group) (b : Bytes) : FieldSide :=
  let type := u8At b 1
  let es := configEntries g (framePayload b)
  let gap := match x.rxSeq with | some q => decide (u8At b 0 ≠ (q + 1) % 256) | none => false
  let good := if gap then 1 else min 4 (x.good + 1)
  let seen := match x.seen with
    | none => none
    | some l =>
      let l' := es.foldl (fun (l : List Nat) e => if l.contains e.1 then l else e.1 :: l) l
      if rotationWhole g l' then none else some l'
  let free := !x.held
  let y := { x with rxSeq := some (u8At b 0), good := good, seen := seen, held := x.held && !(decide (4 ≤ good) && seen.isNone)
                    config := es.foldl (fun (m : Assoc Nat) e => Assoc.set m e.1 e.2) x.config }
  if bit type 4 then
    let y1 := { y with named := some (u16At b 2) }
    if free then { y1 with commit := some ⟨u16At b 2, field type 3 2, (framePayload b).take (imageSize g)⟩ } else y1
  else y

/-- A counter of Table 12-6 for group A or B; link C has none. -/
def State.linkCount (s : State) (f : Nat → Nat) (g : Group) (n : Nat) : State :=
  if g = .c || n = 0 then s else s.count (f (groupIx g)) n

/-- Frames skipped by a newer SEQ (R338). -/
def seqSkipped (last seq : Nat) : Nat := (seq + 256 - last) % 256 - 1

/-- A logic-to-field frame reaches the field side. -/
def State.fieldReceive (s : State) (g : Group) (b : Bytes) : State :=
  let x := s.side g
  if !x.running then s
  else if !barrierCrcOk b then (s.putSide g { x with good := 0 }).linkCount Obj.crcErrors g 1
  else
    let ok := match x.rxSeq with | some q => newerBits 8 (u8At b 0) q | none => true
    let skipped := match x.rxSeq with | some q => seqSkipped q (u8At b 0) | none => 0
    if !ok then s
    else
      let y := x.take g b
      -- a VsEnable that the frame brings can move the quality of DIs (Table 12-4), from the slot instant of the frame on (log entry 24)
      let put := fun (s : State) => s.putSide g y
      let slotNs := s.edgeNs s.tick + 31250 + 62500 * (u8At b 1 % 4)
      let s0 := match g with
        | .a => s.noting slotNs fun s => (put s).diRelease
        | .b => if bit (u8At b 1) 4 then (put s).aoPrepare y else put s
        | .c => put s
      let s1 := s0.linkCount Obj.sequenceGaps g skipped
      if g = .c && !y.held && s.island.mode ≠ .off then
        let x := if s1.island.silent then s1.island.silence false else s1.island
        s1.setIsland (x.apply (u8At (framePayload b) 0))
      else s1

/-! ### Reception on the logic side -/

/-- SupplyState (Table 12-6) of SUPPLY_FLAGS. -/
def supplyStateOf (flags : Nat) : Nat := if bit flags 2 then 3 else if bit flags 1 then 2 else if bit flags 0 then 1 else 0

/-- The supply tallies of a slot-0 frame (R353). -/
def State.supplyTallies (s : State) (g : Group) (old new mv : Nat) : State :=
  let params := [groupIx g, mv, supplyStateOf new + (if bit new 0 then 256 else 0), low32 s.nextEdge]
  let s1 := if bit old 0 ≠ bit new 0 then s.logTally 0x0A02 params else s
  let s2 := if !bit old 1 && bit new 1 then (s1.linkCount Obj.supplyTrips g 1).logTally 0x0A03 params else s1
  if bit old 2 && !bit new 2 && !bit new 1 then s2.logTally 0x0A04 params else s2

/-- Bytes of a group's snapshot. -/
def snapshotSize : Group → Nat
  | .a => 360 | .b => 448 | .c => 64

/-- A valid slot-0 frame delivers its snapshot (R343, R344, R348, R353, R356). -/
def State.deliver (s : State) (g : Group) (b : Bytes) : State :=
  let p := framePayload b
  let snap := fit (snapshotSize g) p
  let flags := u8At b 4
  let sf := u8At snap 6
  let x := s.side g
  let l := s.link g
  let a := s.io.a
  let cur := if g = .a then
      a.di.toList.map (·.current) ++ (List.range 24).map (fun k => (a.doCurrent[k]?).getD 0) ++ (List.range 4).map fun k => (a.vsCurrent[k]?).getD 0
    else l.currents
  let entries := if g = .a then chunks 8 12 (p.drop 360) else []
  let s1 := s.putLink g { l with snapshot := snap, entries := entries, valid := true, currents := cur, flags := sf }
  let s2 := if g = .a then
      s1.setGroupA { a with soe := a.soe.filter (fun e => !a.carried.contains e), carried := [], dropped := if bit flags 2 then 0 else a.dropped }
    else s1
  let s3 := if g = .c then s2
    else (((s2.setNum (Obj.supplyVoltage (groupIx g)) (u16At snap 4)).setNum (Obj.supplyState (groupIx g)) (supplyStateOf sf)).setNum
      (Obj.fieldEpoch (groupIx g)) (u32At snap 0)).setNum (Obj.linkState (groupIx g)) (if bit flags 1 then 2 else 1)
  let s4 := (s3.linkCount Obj.commitMissed g (b2n (bit flags 0))).supplyTallies g l.flags sf (u16At snap 4)
  let s5 := if bit flags 2 then (s4.linkCount Obj.soeLost g a.dropped).logTally 0x040A [a.dropped, 0, 0, low32 s.nextEdge] else s4
  if bit flags 1 && !x.held then
    (s5.linkCount Obj.silenceEvents g 1).logTally 0x0A01 [groupIx g, u32At snap 0, 0, low32 s.nextEdge]
  else s5

/-- A field-to-logic frame reaches the logic side, or the mirror tap of link C (R124, R338). The slot-0 frame of an edge arrives before
TICK_EDGE of that edge captures it. -/
def State.logicReceive (s : State) (g : Group) (slot : Fin 4) (b : Bytes) : State :=
  if s.mode = .off || s.linkStands g then s
  else if !barrierCrcOk b then s.linkCount Obj.crcErrors g 1
  else
    let l := s.link g
    let seq := u8At b 0
    let epoch := u32At (framePayload b) 0
    let restarted := bit (u8At b 4) 3 && decide (l.epoch ≠ some epoch)
    let fresh := restarted || l.rxSeq.isNone
    let last := l.rxSeq.getD 0
    if !fresh && !newerBits 8 seq last then s
    else
      let s1 := (s.putLink g { l with rxSeq := some seq, epoch := if restarted then some epoch else l.epoch }).linkCount Obj.sequenceGaps g (if fresh then 0 else seqSkipped last seq)
      if slot = 0 && decide (u8At b 1 % 4 = 0) && decide (u16At b 2 = s.nextEdge % 65536) then s1.deliver g b else s1

/-- The snapshot of a field side's present inputs. -/
def State.snapshotNow (s : State) (g : Group) : Bytes :=
  let x := s.side g
  match g with
  | .a => s.snapshotA x.supplyFlags
  | .b => s.snapshotB x.supplyFlags
  | .c => s.island.mirrorBytes x.epoch x.supplyMv x.supplyFlags

/-- The frame that a field side sends in a slot: slot 0 as its edge formed it, the others with the latest inputs (R113); EPOCH_NEW stands in each
until R343 is met. -/
def State.fieldFrame (s : State) (g : Group) (slot : Fin 4) : Bytes :=
  let x := s.side g
  if slot = 0 then x.frame
  else barrierFrame ((x.txSeq + slot.val) % 256) slot.val (s.tick % 65536) (if x.epochNew then 8 else 0) (s.snapshotNow g)

/-- The island receives a frame of the field-to-logic lane of link C (R338, R381); what its inputs show reaches it as their own commands. -/
def State.islandReceive (s : State) (b : Bytes) : State :=
  let fresh := s.island.rxSeq.all fun q => newerBits 8 (u8At b 0) q
  if s.island.works && barrierCrcOk b && (fresh || bit (u8At b 4) 3) then { s with island := { s.island with rxSeq := some (u8At b 0) } } else s

/-- A field-to-logic frame arrives: at the logic side, or for link C at the island and at the mirror tap of the die. -/
def State.fromField (s : State) (g : Group) (slot : Fin 4) (b : Bytes) : State :=
  (if g = .c then s.islandReceive b else s).logicReceive g slot b

/-- A barrier-link frame arrives (R338): the one the other side formed, or other bytes. -/
def execBarrierFrameReceive (toField : Bool) (g : Group) (slot : Fin 4) (wire : Option (List Byte)) (s : State) :
    Host.Outcome State Fault Refusal :=
  .next (if toField then
      (match wire, Assoc.get? (s.link g).sent slot.val with
        | some b, _ => s.fieldReceive g b
        | none, some b => s.fieldReceive g b
        | none, none => s)
    else match wire with
      | some b => s.fromField g slot b
      | none => if (s.side g).running then s.fromField g slot (s.fieldFrame g slot) else s)

/-! ### The edge -/

/-- The state of a MODE, or of silence, applied to the outputs of a group (Table 12-2, R342). -/
def State.applyMode (s : State) (g : Group) (mode : Nat) (silence : Bool) (image : Bytes) : State :=
  let x := s.side g
  match g with
  | .a =>
    let a := s.io.a
    if mode = modeCommand then (s.putSide g { x with committed := true }).setGroupA (a.apply true (s.doImage image))
    else if mode = modePairSafe then s.setGroupA (a.apply false 0)
    else s.setGroupA (a.apply false (s.doSafe (if silence then (if x.off then a.beforeTrip else a.want) else if x.committed then a.last else 0)))
  | .b =>
    if mode = modeCommand then (s.putSide g { x with committed := true }).applyAo true fun k => s.aoCommand k.val image
    else if mode = modePairSafe then s.applyAo false fun _ => (0, false)
    else s.applyAo false fun k => if silence && x.off then s.aoHeld k else s.aoSafe k
  | .c => s

/-- The slot-0 frame of edge `c` is formed with the flags of R340, R343, R348 and R353. -/
def State.formSlot0 (s : State) (g : Group) (c : Nat) : State :=
  let x := s.side g
  let due := if g = .a then s.soeDue c else []
  let soe := if g = .a then s.soeCarried c else []
  let snap := s.snapshotNow g ++ soe.flatten
  let lost := x.soeLost || (g = .a && decide (s.io.a.dropped ≠ 0))
  let seq := (x.txSeq + 4) % 256
  let b := barrierFrame seq 0 (c % 65536) (ofBits [x.missed, x.silenced, lost, x.epochNew]) snap
  let s1 := s.putSide g { x with txSeq := seq, frame := b, missed := false, soeLost := false
                                 silenced := x.silenced && x.held, epochNew := x.epochNew && x.held }
  if g = .c then { s1 with island := { s1.island with mirror := snap } }
  else if g = .a then s1.setGroupA { s1.io.a with carried := due } else s1

/-- Outputs of group B that a restoration brings back are NORMAL, each change with its tally (Table 13-3, R365). -/
def State.restoreOutputs (s : State) (g : Group) : State :=
  if g = .b then (List.finRange 8).foldl State.aoNormal s else s

/-- At an edge marker the field side latches its inputs and applies the commit frame of the edge (R113, R309, R340, R343, R353). -/
def execFieldEdgeApply (g : Group) (m : FieldMeasure) (s : State) : Host.Outcome State Fault Refusal :=
  let c := s.nextEdge
  .next (if !(s.side g).running then s
    else
      let s0 := s.putSide g { s.side g with supplyMv := m.supplyMv.toNat }
      let s1 := (match g with | .a => s0.latchA m | .b => s0.latchB m | .c => s0).formSlot0 g c
      let x := s1.side g
      let s2 := if x.returning then (s1.putSide g { x with returning := false }).restoreOutputs g else s1
      if g = .c then s2
      else
        -- nothing stored is kept for another edge: nothing is applied late
        let s3 := s2.putSide g { s2.side g with commit := none, named := none, missed := decide (x.named ≠ some (c % 65536)) }
        match x.commit, x.held with
        | some k, false => if k.edge = c % 65536 then s3.applyMode g k.mode false k.image else s3
        | _, _ => s3)

/-! ### Silence -/

/-- No valid frame within the silence timeout (R342, R343, R382, R283). -/
def execSilenceTimeout (g : Group) (s : State) : Host.Outcome State Fault Refusal :=
  let x := s.side g
  .next (if !x.running then s
    else if x.silenced && x.held then s.putSide g { x with good := 0 }
    else
      let starting := x.held && x.epochNew
      -- a commit from before the silence is never applied (R343)
      let s1 := s.putSide g { x with held := true, good := 0, silenced := true, commit := none }
      if g = .c then s1.setIsland (s1.island.silence true)
      else if starting then s1
      else s1.applyMode g (if s.pairEnabled then modePairSafe else modeSafe) true [])

/-! ### Field supplies (Table 12-5) -/

/-- WARNING sets or clears by its own two rows. -/
def execFieldSupplyWarning (g : Group) (low : Bool) (s : State) : Host.Outcome State Fault Refusal :=
  .next (if (s.side g).running then s.putSide g { s.side g with warning := low } else s)

/-- L+C TRIPPED, and the restoration that follows, take every effect to RESTART_REQUIRED (Table 14-5, R399). -/
def State.islandTrip (s : State) : State := if s.island.works then s.setIsland s.island.restartEffects else s

/-- A trip of L+C turns the safety outputs and the TP outputs off by hardware; its restoration brings the TP outputs back (R353). -/
def State.tripC (s : State) (on : Bool) : State :=
  let x := if on then s.island.openAll else s.island
  (s.setIsland { x with tpHigh := Vector.replicate 4 (!on && !x.silent) }).islandTrip

/-- What the outputs of a group had been given before a trip (Table 12-7). -/
def State.markTrip (s : State) (g : Group) : State :=
  match g with
  | .a => s.setGroupA { s.io.a with beforeTrip := s.io.a.want }
  | .b => s.setGroupB { s.io.b with ao := s.io.b.ao.map fun x => { x with beforeTrip := x.want, beforeFailing := x.failing } }
  | .c => s

/-- A supply below 16.0 V: every output and sensor supply of the group off by hardware. -/
def execFieldSupplyTrip (event : SupplyEvent) (s : State) : Host.Outcome State Fault Refusal :=
  let g := event.group
  let x := s.side g
  .next (if !x.running || x.tripped then s
    else
      -- outputs that are still off keep the mark of the trip before
      let mark := fun (s : State) => if x.returning then s else s.markTrip g
      let trip := fun (s : State) => mark (s.putSide g { x with tripped := true, restoring := false, returning := false })
      match g with
      | .a => s.noting event.firstNs trip
      | .b => trip s
      | .c => (trip s).tripC true)

/-- A tripped supply rises above 18.0 V, or falls back below it. -/
def execSupplyRestoring (g : Group) (above : Bool) (s : State) : Host.Outcome State Fault Refusal :=
  let x := s.side g
  .next (if x.running && x.tripped && x.restoring ≠ above then s.putSide g { x with restoring := above } else s)

/-- The 20 ms qualification ends: at the next edge outputs take the state that the link then calls for. -/
def execFieldSupplyRestored (event : SupplyEvent) (s : State) : Host.Outcome State Fault Refusal :=
  let g := event.group
  let x := s.side g
  let back := fun (s : State) => s.putSide g { x with tripped := false, restoring := false, returning := true }
  .next (if !x.running || !x.restoring then s else match g with
    | .a => s.noting event.firstNs fun s => (back s).diRelease
    | .b => back s
    | .c => (back s).tripC false)

/-! ### Starting and stopping a field side -/

def blankDi : DiChannel := ⟨false, false, 0, 0, 0⟩
def blankGroupA : GroupA := ⟨0, 0, 0, 0, 0, 0, [], [], Vector.replicate 48 blankDi, [], [], 0⟩
def blankAo : AoChannel := ⟨0, false, 0, false, 0, false, .normal, false, false, 0, 0⟩
def blankGroupB : GroupB := ⟨0, Vector.replicate 8 ⟨0, 0, false, false⟩, Vector.replicate 8 blankAo⟩

/-- A field side that does not run, with its supply present or not. -/
def stoppedSide (present : Bool) (epoch supplyMv : Nat) : FieldSide :=
  { running := false, present := present, epoch := epoch, txSeq := 0, rxSeq := none, held := true, good := 0, seen := some [], missed := false
    silenced := false, epochNew := false, soeLost := false, named := none, commit := none, committed := false, warning := false
    tripped := false, restoring := false, returning := false, supplyMv := supplyMv, config := [], frame := [] }

/-- The outputs and inputs of a group at a field side's start or stop: every output off (R353, R408). -/
def State.blankGroup (s : State) (g : Group) : State :=
  match g with
  | .a => s.setGroupA blankGroupA
  | .b => s.setGroupB blankGroupB
  | .c => s.setIsland (s.island.restartEffects.silence true)

/-- A field side stops (R353, R408): the link is absent. -/
def State.fieldStop (s : State) (g : Group) : State :=
  (s.putSide g (stoppedSide (s.side g).present (s.side g).epoch (s.side g).supplyMv)).blankGroup g

/-- A channel at the midscale trim is reported at the field side's start (R371). -/
def State.midscaleTallies (s : State) : State :=
  (List.range 16).foldl (fun (s : State) k => if midscale k then s.logTally 0x0A0A [k % 8 + 1 + (if k < 8 then 0 else 256)] else s) s

/-- A field side whose supply is present starts (R349): a new FIELD_EPOCH, counts at 0, EPOCH_NEW, supply NORMAL; it applies nothing until R343 is
met. -/
def State.fieldStart (s : State) (g : Group) : State :=
  if !(s.side g).present then s
  else
    let (v, s1) := s.drawFree
    let s2 := (s1.putSide g { stoppedSide true (v.toNat % 2 ^ 32) 0 with running := true, epochNew := true }).blankGroup g
    if g = .b then s2.midscaleTallies else s2

/-- The island starts once the logic supply and L+C are present (Table 14-9). -/
def State.islandStart (s : State) : State :=
  if (s.side .c).present && decide (s.island.mode = .off) then (s.setIsland s.island.start).showIsland else s

/-- A field supply falls below 12.0 V (Table 12-5). -/
def execFieldSideStop (g : Group) (s : State) : Host.Outcome State Fault Refusal :=
  let s1 := s.putSide g { s.side g with present := false }
  .next (if (s.side g).running then s1.fieldStop g else s1)

/-- The field supply is back after a stop (Table 12-5): the field side starts, unless a reset episode that holds it is open. -/
def execFieldSideRestart (g : Group) (s : State) : Host.Outcome State Fault Refusal :=
  let s1 := s.putSide g { s.side g with present := true }
  let holding := match s.rst.episode with | some e => decide ((if g = .c then 4 else 3) ≤ levelCode e.widest) | none => false
  .next (if (s.side g).running || s.mode = .off || holding then s1 else if g = .c then s1.islandStart.fieldStart g else s1.fieldStart g)

/-- 100 ms after a SAFE_FAULT: the island, its link and the group C field side are reset (R380, R397). -/
def execIslandReset (s : State) : Host.Outcome State Fault Refusal :=
  .next (if s.island.mode ≠ .safeFault then s
    else
      let x := s.island
      ((s.setIsland { x.start with resets := recentResets x.resets s.localNs ++ [s.localNs] }).showIsland.fieldStart .c).count Obj.islandResets)

/-! ### The logic side's start -/

def blankLink : LogicLink := ⟨0, none, [], 0, none, [], [], [], [], [], false, [], 0⟩

/-- The logic sides after a reset of the die (R338): at both ends the first frame whose CRC verifies is accepted. -/
def State.linksStart (s : State) : State :=
  let keep := fun (l : LogicLink) => { blankLink with txSeq := l.txSeq, flags := l.flags }
  let sides := (s.io.sides.set 0 { s.io.sides[0] with rxSeq := none }).set 1 { s.io.sides[1] with rxSeq := none }
  { s with io := { s.io with links := s.io.links.map keep, sides := sides, aoHold := false } }

/-- The output images as RUN begins: the programmed safe states (R128). -/
def State.startImages (s : State) : State :=
  let a := leBytes 4 (s.doSafe (if s.io.sides[0].committed then s.io.a.last else 0)) ++ zeros 4
  let b := (List.finRange 8).flatMap fun k => leBytes 4 (s.aoSafe k).1 ++ [byte (b2n (s.aoSafe k).2)]
  { s with window := Mem.write (Mem.write s.window (imageWindow .a) a) (imageWindow .b) b }

end Sys2Proof.Machine
end

