-- ==== Sys2Proof/Machine/Weft.lean ====
section
/-! DEFINITION. The weft (chapter 04, R116 to R124): where each class's weft lies (R183), the stale table (R122, R208), the writes that a
cut-off applies (R58, R209, R223, R244, R246), the header (Table 4-5), and what a cut-off and a commit edge take from and give to
the sources. -/

namespace Sys2Proof.Machine

/-! ### Sources -/

/-- A stale source (R122): its class length and tolerance. -/
structure StaleDef where
  len : Nat
  tolerance : Nat
  deriving DecidableEq, Repr

/-- Tolerance of the barrier groups (R345). -/
def groupTolerance : Nat := 4

/-- The sources of the stale table in the order of R208. -/
def State.staleDefs (s : State) : List StaleDef :=
  List.replicate 3 ⟨1, groupTolerance⟩ ++ (rxLayouts s.sections).map (fun l => ⟨lenOfCode l.cls, l.tolerance⟩) ++
    (rxEntries s.sections).map fun e => ⟨lenOfCode e.cls, e.tolerance⟩

def State.staleAt (s : State) (k : Nat) : StaleSource := (Assoc.get? s.stale k).getD ⟨0, false⟩

/-- One source at a cut-off of its class (R122): fresh, or its count advanced; a source that is fresh again is reported (R123). -/
def State.staleStep (s : State) (c k : Nat) (fresh : Bool) : State :=
  let x := s.staleAt k
  if fresh then
    let s1 := { s with stale := Assoc.set s.stale k ⟨0, false⟩ }
    if x.reached then s1.issueTally 0x0305 [k, 0, 0, low32 c] else s1
  else { s with stale := Assoc.set s.stale k { x with count := min 255 (x.count + 1) } }

/-- Every source with a cut-off at `c` (R122). -/
def State.staleSteps (s : State) (c : Nat) (fresh : Nat → Bool) : State :=
  (s.staleDefs.zipIdx).foldl (fun s (d, k) => if c % d.len = 0 then s.staleStep c k (fresh k) else s) s

/-- The stale table (R208). -/
def State.staleTable (s : State) : Bytes :=
  let b := (s.staleDefs.zipIdx).flatMap fun (d, k) => [byte (s.staleAt k).count, byte d.tolerance]
  b ++ zeros (roundUp 8 b.length - b.length)

/-- A source's count has reached its tolerance (R123). -/
def execSourceStale (entry : BitVec 16) (s : State) : Host.Outcome State Fault Refusal :=
  .next (
    let k := entry.toNat
    let x := s.staleAt k
    match s.staleDefs[k]? with
    | none => s
    | some d =>
      if x.reached || x.count < d.tolerance then s
      else
        ({ s with stale := Assoc.set s.stale k { x with reached := true } }.count Obj.staleEntries).issueTally 0x0304
          [k, x.count, 0, low32 s.tick])

/-! ### Where a weft lies -/

/-- Capture lists that cover the tick and whose cut-offs are those of a class length. -/
def State.captureLists (s : State) (t len : Nat) : List DmaList :=
  s.lists.filter fun l => decide (l.trigger = 1) && l.run.covers (tickIndex t) && decide (runLen [l] = len)

/-- DMA address of the time-unit state for the weft header (Table 17-2). -/
def timeWindow : Nat := 0x12200000

/-- Weft header address of a class cut off at `t`: where the capture lists of the tick put the time-unit state, those of the class itself
or, where it has none, of the next faster one; otherwise as before (R183; DEDUCED, log entry 62). -/
def State.weftPlan (s : State) (t : Nat) (c : CClass) : Nat :=
  let found := ([4000, 400, 40, 4, 1].filter fun n => decide (n ≤ classLen c)).findSome? fun n =>
    ((s.captureLists t n).flatMap (·.descs)).findSome? fun d => if d.src = timeWindow then some (d.dst % 2 ^ 28) else none
  found.getD (s.weftOf (classCode c))

/-- Classes with a cut-off at `t`. -/
def cutoffClasses (t : Nat) : List CClass := allClasses.filter fun c => decide (t % classLen c = 0)
/-- CLASSES of a weft header. -/
def classMask (t : Nat) : Nat := (cutoffClasses t).foldl (fun m c => m + 2 ^ classCode c) 0

def State.placeWefts (s : State) (t : Nat) : State :=
  let place : Fin 5 → Nat := fun k =>
    match classOf? k.val with
    | some c => if t % classLen c = 0 then s.weftPlan t c else s.weftOf k.val
    | none => s.weftOf k.val
  { s with eng := { s.eng with weftAddr := Vector.ofFn place } }

/-! ### Writes that a cut-off applies -/

/-- A write to a point (R209). -/
def State.applyPointWrite (s : State) (a : Nat) (v : Bytes) : State :=
  match s.point? (addrIndex a - 0x100000) with
  | none => s
  | some p =>
    let b := pointAt p
    let al := alarmAt s.sections p
    match addrSub a with
    | 0 => (s.storePut (b + 8) (fit 8 v)).storePut (b + 26) (zeros 2)
    | 3 => s.storePut (b + 16) (fit 8 v)
    | 4 => s.storePut (b + 28) (fit 1 v)
    | 5 => s.storePut (al + 3) [byte (putBit (s.storeNat (al + 3) 1) 0 true)]
    | 6 => (s.storePut (b + 29) (fit 1 v)).storePut (al + 2) [byte (putField (s.storeNat (al + 2) 1) 4 1 0)]
    | _ => s

/-- The test that TestMode `mode` starts with the parameters in force (Table 8-7). -/
def State.loopTest (s : State) (j mode : Nat) : LoopTest :=
  let p := fun k => leNat (s.current (objAddr (0x10000 + j) k))
  { loop := j, mode := mode, target := p 0x21, amplitude := p 0x22, period := p 0x23, duration := p 0x24, seed := p 0x25, decimation := p 0x26 }

/-- A write to a loop (R244, R248): a change of LoopMode stops a test; TestMode starts one with the parameters latched at its acceptance,
on a standby with those forwarded, or stops it. -/
def State.applyLoopWrite (s : State) (c a : Nat) (v : Bytes) : State :=
  let j := addrIndex a - 0x10000
  match addrSub a with
  | 0x01 => (if leNat v ≠ (s.loopRec j).mode then s.testEnd j 5 c else s).putLoop j 1 v
  | 0x20 =>
    let s1 := s.setObj a v
    let q := loopShuttle (s.loopCfg j) / 2
    (match leNat v, (s.pairCapture q).next with
      | 0, _ => s1.testEnd j 4 c
      | _, some t => if t.loop = j then s1.testStart t c else s1
      | m, none => s1.testStart (s1.loopTest j m) c)
  | sub => s.putLoop j sub v

/-- A write to an alarm group (R223, step 1); whether it changed anything. -/
def State.applyGroupWrite (s : State) (c a : Nat) (v : Bytes) : State :=
  let g := addrIndex a - 0x30000
  let b := groupAt s.sections g
  match addrSub a with
  | 2 =>
    if leNat v ≠ 0 then (s.storePut b [1]).storePutNat (b + 16) 8 (c + 4000 * leNat (s.current (objAddr (addrIndex a) 3)))
    else (s.storePut b [0]).storePut (b + 16) (zeros 8)
  | 5 => s.storePutNat (b + 2) 2 ((s.storeNat (b + 2) 2 + 1) % 65536)
  | _ => s

/-- The tally of a group write (R223, step 4); `was`: the group was shelved before the write. -/
def State.groupWriteTally (s : State) (c a : Nat) (v : Bytes) (was : Bool) : State :=
  let g := addrIndex a - 0x30000
  let b := groupAt s.sections g
  match addrSub a with
  | 2 =>
    if leNat v ≠ 0 then s.issueTally 0x0406 [g, low32 (s.storeNat (b + 16) 8), leNat (s.current (objAddr (addrIndex a) 3)), low32 c]
    else if was then s.issueTally 0x0407 [g, 0, 0, low32 c] else s
  | 5 => s.issueTally 0x0408 [g, s.storeNat (b + 2) 2, 0, low32 c]
  | _ => s

/-- A write that a cut-off applies to a point, a loop or a gain table. -/
def State.applyWrite (s : State) (c : Nat) (w : Nat × Bytes) : State :=
  let ix := addrIndex w.1
  if isPointIx ix then s.applyPointWrite w.1 w.2 else if isLoopIx ix then s.applyLoopWrite c w.1 w.2
  else if isGainIx ix then s.putGain (ix - 0x20000) (addrSub w.1) w.2 else s

def isGroupWrite (w : Nat × Bytes) : Bool := isGroupIx (addrIndex w.1)

/-- SHELVED and ACK_TOTAL of a group copied for the classes with a cut-off at `c` (R223, step 3). -/
def State.groupSnap (s : State) (c g : Nat) : State :=
  let b := groupAt s.sections g
  let shelved := decide (s.storeNat b 1 ≠ 0)
  (cutoffClasses c).foldl (fun s k =>
    let i := classCode k
    (s.storePut (b + 1) [byte (putBit (s.storeNat (b + 1) 1) i shelved)]).storePut (b + 4 + 2 * i) (s.storeRead (b + 2) 2)) s

/-- Steps 1, 3 and 4 of R223 for the carried group writes; step 2 is SHELVE_EXPIRY. -/
def State.groupSteps (s : State) (c : Nat) (ws : List (Nat × Bytes)) : State :=
  let gs := ws.filter isGroupWrite
  let was := gs.map fun w => decide (s.storeNat (groupAt s.sections (addrIndex w.1 - 0x30000)) 1 ≠ 0)
  let s1 := gs.foldl (fun s w => s.applyGroupWrite c w.1 w.2) s
  let s2 := (List.range s.groups.length).foldl (fun s g => s.groupSnap c g) s1
  (gs.zip was).foldl (fun s e => s.groupWriteTally c e.1.1 e.1.2 e.2) s2

/-- A record of step 2 goes before those of step 4 of the same capture (R223). -/
def insertExpiry (d : TallyDraft) (ds : List TallyDraft) : List TallyDraft :=
  let step4 := fun (x : TallyDraft) => decide (0x0406 ≤ x.code) && decide (x.code ≤ 0x0408) && decide (x.params[3]? = d.params[3]?)
  ds.takeWhile (fun x => !step4 x) ++ [d] ++ ds.dropWhile fun x => !step4 x

/-- A shelve whose EXPIRY is at or before the cut-off ends (R223, step 2), and the snapshots of the cut-off follow. -/
def State.shelveExpiry (s : State) (g : Nat) : State :=
  let b := groupAt s.sections g
  if s.executes && decide (g < s.groups.length) && decide (s.storeNat b 1 ≠ 0) && decide (s.storeNat (b + 16) 8 ≤ s.tick) then
      let s1 := ((s.storePut b [0]).storePut (b + 16) (zeros 8)).groupSnap s.tick g
      let s2 := s1.issueTally 0x0407 [g + 65536, 0, 0, low32 s.tick]
      match s2.tally.issued.getLast? with
      | some d => { s2 with tally := { s2.tally with issued := insertExpiry d s1.tally.issued } }
      | none => s2
    else s

/-! ### The header and the sequence of events -/

/-- Sequence-of-events tallies of a tick (R225), in entry order, for the channels of points with SOE. -/
def State.soeTallies (s : State) (c : Nat) (es : List Bytes) : State :=
  es.foldl (fun s e =>
    match s.soePoint (u8At e 0) with
    | none => s
    | some p =>
      let stamp := ((s.edgeNs c : Int) + 1000 * toSigned 32 (u32At e 4)).toNat
      let d : TallyDraft := { code := 0x0409, flags := s.tickFlags + 8, source := s.num Obj.moduleNode, timeNs := stamp,
                              params := [u8At e 0 % 64 + u8At e 1 % 4 * 256 + b2n (bit s.tickFlags 0) * 2 ^ 31, p.point, low32 c, 0] }
      { s with tally := { s.tally with issued := s.tally.issued ++ [d] } }) s

/-- The first 24 bytes of a weft header (Table 4-5). -/
def weftHeader (c flags absent writes soe pd can : Nat) : Bytes :=
  leBytes 8 c ++ [byte (classMask c), byte flags, byte absent, 0] ++ leBytes 2 writes ++ leBytes 2 soe ++ leBytes 4 pd ++ leBytes 4 can

/-- Headers, stale tables and, in the Q weft, the sequence-of-events entries (R121, R208, R224). -/
def State.putHeaders (s : State) (c : Nat) (header : Bytes) (soe : List Bytes) : State :=
  let table := s.staleTable
  let s1 := { s with window := Mem.write s.window 0x2200000 (header.take 16) }
  (cutoffClasses c).foldl (fun s k =>
    let w := s.weftOf (classCode k)
    (s.storePut w (header ++ zeros 8)).storePut (w + 32) (table ++ if k = .q then soe.flatten else [])) s1

/-- Length of the body of a class's weft: the stale table and entries, and what the capture lists of the tick put above its header and
below the next weft (R121; DEDUCED, log entry 63). -/
def State.weftBodyLength (s : State) (c : Nat) (k : CClass) : Nat :=
  let w := s.weftOf (classCode k)
  let base := roundUp 8 (2 * s.staleDefs.length) + (if k = .q then 8 * s.storeNat (w + 14) 2 else 0)
  let next := (s.eng.weftAddr.toList.filter fun a => decide (w < a)).foldl min platformBase
  let ds := (s.lists.filter fun l => decide (l.trigger = 1) && l.run.covers (tickIndex c)).flatMap (·.descs)
  ds.foldl (fun n d =>
    let a := d.dst % 2 ^ 28
    if dmaSpace d.dst = 0 && decide (w + 32 ≤ a) && decide (a < next) then max n (a + d.length - (w + 32)) else n) base

/-- BODY_LENGTH and BODY_CRC of the wefts cut off at the running tick, as capture ends (R121). -/
def State.closeWefts (s : State) : State :=
  (cutoffClasses s.tick).foldl (fun s k =>
    let w := s.weftOf (classCode k)
    let n := s.weftBodyLength s.tick k
    (s.storePutNat (w + 24) 4 n).storePutNat (w + 28) 4 (crc32c (s.storeRead (w + 32) n))) s

/-! ### The cut-off -/

/-- Received layouts that are fresh at `c`, by ordinal. -/
def State.pdFresh (s : State) (c : Nat) : List Nat :=
  ((rxLayouts s.sections).zipIdx.filter fun (l, r) => decide (c % lenOfCode l.cls = 0) &&
    (match Assoc.get? s.pd.rx r with | some x => x.waiting.isSome | none => false)).map (·.2)

/-- The frozen packets of a cut-off (R87, R116): each fresh layout's newest packet enters its window (Table 17-2). -/
def State.pdTake (s : State) (fresh : List Nat) : State :=
  fresh.foldl (fun s r =>
    match Assoc.get? s.pd.rx r with
    | some x =>
      let s1 := match x.waiting with
        | some (_, b) => { s with window := Mem.write s.window (0x4000 * r) b }
        | none => s
      { s1 with pd := { s1.pd with rx := Assoc.set s1.pd.rx r { x with waiting := none } } }
    | none => s) s

/-- Slot-0 payloads of the groups enter their windows where they are valid (R116). -/
def State.groupWindows (s : State) (valid : Nat → Bool) : State :=
  let put := fun (s : State) (g at_ : Nat) (b : Bytes) => if valid g then { s with window := Mem.write s.window at_ b } else s
  put (put (put s 0 0x2100000 s.io.links[0].snapshot) 1 0x2101000 s.io.links[1].snapshot) 2 0x2102000 s.io.links[2].snapshot

/-- Writes of the queue that a cut-off at `c` carries (R58), in acceptance order. -/
def carriedWrites (c : Nat) (q : List WeftWrite) : List WeftWrite := q.filter fun w => decide (c % classLen w.cls = 0)

/-- Items that are dictionary writes (R20): all but an activation's outcome and what a write of TestMode latched. -/
def isDictItem : WeftItem → Bool
  | .outcome _ => false
  | .test _ _ => false
  | _ => true

/-- The bytes of an item in a WEFT frame (log entry 40). -/
def itemBytes : WeftItem → Bytes
  | .write a v => [1] ++ leBytes 4 a ++ leBytes 2 v.length ++ v
  | .command code tick => [2, byte code] ++ leBytes 8 tick
  | .profile p tick => [3, byte p] ++ leBytes 8 tick
  | .activate target tick => [4, byte target] ++ leBytes 8 tick
  | .cancelActivation => [5]
  | .outcome ok => [6, byte (b2n ok)]
  | .test t begun => [7] ++ leBytes 2 t.loop ++ [byte t.mode, byte t.target] ++ leBytes 4 t.amplitude ++ leBytes 4 t.period ++
      leBytes 4 t.duration ++ leBytes 2 t.seed ++ leBytes 4 t.decimation ++ [byte (b2n begun.isSome)] ++ leBytes 8 (begun.getD 0)

/-- A queued write as the items of its weft: one that starts a test goes behind the parameters latched at its acceptance (R248). -/
def State.writeItems (s : State) (w : WeftWrite) : List (Nat × WeftItem) :=
  let starts := isLoopIx (addrIndex w.addr) && decide (addrSub w.addr = 0x20) && decide (leNat w.value ≠ 0)
  let latched := if starts then (s.pairCapture (loopShuttle (s.loopCfg (addrIndex w.addr - 0x10000)) / 2)).next.toList else []
  (latched.map fun t => (classCode w.cls, WeftItem.test t none)) ++ [(classCode w.cls, WeftItem.write w.addr w.value)]

/-- The sender is in STANDBY. -/
def SeamClose.standsBy (c : SeamClose) : Bool := decide (c.state = Mode.standby.code)
/-- The sender is SYNCED. -/
def SeamClose.isSynced (c : SeamClose) : Bool := bit c.flags 1

/-- The tests that run, for a partner that begins to execute at this L-cycle boundary (R267, R251). -/
def State.runningTests (s : State) (c : Nat) : List (Nat × WeftItem) :=
  let joins := match s.pair.heard with | some h => h.standsBy && !h.isSynced | none => false
  if s.paired && joins && decide (c % 4000 = 0) then
    s.captures.toList.flatMap fun x => match x.test with
      | some t => if (s.loopRec t.loop).testState = 1 then [(0, WeftItem.test t (some x.firstCutoff))] else []
      | none => []
  else []

/-- The active module forms the wefts of the cut-off at `c` (R116 to R124); `valid` says which groups' slot-0 frames came. -/
def State.formWefts (s : State) (c : Nat) (valid : Nat → Bool) : State :=
  let pd := s.pdFresh c
  let can := s.canFresh c
  let nRx := (rxLayouts s.sections).length
  let canNo := (rxEntries s.sections).map (·.number)
  let ws := carriedWrites c s.weftQueue
  let carried : List (Nat × WeftItem) := s.runningTests c ++ ws.flatMap s.writeItems ++ s.pair.outgoing.map fun i => (0, i)
  let count := (carried.filter fun (e : Nat × WeftItem) => isDictItem e.2).length
  let soe := if valid 0 then s.io.links[0].entries else []
  let s1 := (s.placeWefts c).groupWindows valid
  let s2 := s1.pdTake pd
  let s3 := { s2 with window := Mem.write s2.window 0x2000000 s2.canSnapshot }.canTake c
  let s4 := s3.staleSteps c fun k =>
    if k < 3 then valid k else if k < 3 + nRx then pd.contains (k - 3) else
      match canNo[k - 3 - nRx]? with | some n => can.contains n | none => false
  let s5 := { s4 with weftQueue := s4.weftQueue.filter fun w => decide (c % classLen w.cls ≠ 0)
                      window := Mem.write (Mem.clear s4.window 0x2300000 0x100000) 0x2300000 (carried.flatMap fun (e : Nat × WeftItem) => itemBytes e.2)
                      pair := { s4.pair with outgoing := [], carrying := carried } }
  let s6 := ws.foldl (fun s (w : WeftWrite) => s.applyWrite c (w.addr, w.value)) s5
  let s7 := s6.groupSteps c (ws.map fun (w : WeftWrite) => (w.addr, w.value))
  let absent := ofBits [!valid 0, !valid 1, !valid 2]
  (s7.putHeaders c (weftHeader c s.tickFlags absent count soe.length pd.length can.length) soe).soeTallies c soe

/-! ### Commit edges -/

/-- Whether a cycle of a class commits at edge `t` of the active module (R125, R128, R280, R286). A module that hands over
at T has no cycle of a class above Q whose edge is T, since T is an L-cycle boundary. -/
def State.commitsAt (s : State) (t cls : Nat) : Bool :=
  let n := lenOfCode cls
  let since := match s.startTick with | some b => decide (b + (if n = 1 then 1 else n + 1) ≤ t) | none => true
  decide (s.mode = .run) && decide (s.pair.commitFrom ≤ t) && ((decide ((t - 1) % n = 0) && since) || s.pair.late.any fun e => decide (e.1 = cls))

/-- Cut-off tick of the cycle of a class that commits at edge `t`. -/
def State.committedCutoff (s : State) (t cls : Nat) : Nat :=
  match s.pair.late.find? fun e => decide (e.1 = cls) with
  | some e => e.2
  | none => t - 1 - (if lenOfCode cls = 1 then 0 else lenOfCode cls)

/-- The body that is sent: what the fields, and with QUALITY their quality words, hold; every other byte and bit is 0 (R155). -/
def sentBody (l : PdLayout) (staged : Bytes) : Bytes :=
  let put := fun (b : Bytes) (f : PdField) =>
    if f.encoding = 1 then putBytesBit b (fieldSpan f).1 (bytesBit staged (fieldSpan f).1)
    else patch b f.offset (slice staged f.offset ((fieldSpan f).2 / 8))
  let b := l.fields.foldl put (zeros l.bodyLength)
  let q := if bit l.flags 0 then 2 * l.fields.length else 0
  fit l.bodyLength (patch b (l.bodyLength - q) (slice staged (l.bodyLength - q) q))

/-- Packets of the transmitted layouts whose cycles commit at `t` are ready for their planned starts (R127). -/
def State.pdCommit (s : State) (t : Nat) : State :=
  ((txLayouts s.sections).zipIdx).foldl (fun s (l, r) =>
    let x : PdTx := ⟨s.committedCutoff t l.cls, sentBody l (Mem.read s.window (0x1000000 + 0x4000 * r + 12) l.bodyLength)⟩
    if s.commitsAt t l.cls then { s with pd := { s.pd with tx := Assoc.set s.pd.tx r x } } else s) s

/-- What the edge `t` gives to the network and CAN (R127); nothing where the staging of the tick before was discarded (R29, R133). -/
def State.commitEdge (s : State) (t : Nat) : State :=
  if s.eng.discard then s
  else if s.mode = .run then
    let s1 := (s.pdCommit t).canCommit t s.tickFlags (fun c => s.commitsAt t c) fun i n => Mem.read s.window (0x2010000 + 0x100 * i) n
    { s1 with pair := { s1.pair with late := if s1.pair.commitFrom ≤ t then [] else s1.pair.late } }
  else s

/-- What reads of WEFT objects return from edge `t` on (R60, R202). -/
def State.showEdge (s : State) (t : Nat) : State :=
  let slow := [CClass.f, CClass.m, CClass.s, CClass.l]
  let s1 := (slow.filter fun c => decide ((t - 1) % classLen c = 0)).foldl (fun s c =>
    let new := (s.weftObjects c).foldl (fun m a => match Assoc.get? s.ended a with | some v => Assoc.set m a v | none => m) s.shown
    { s with shown := new }) s
  let s2 := { s1 with shown := s1.snapshot (s1.weftObjects .q) s1.shown }
  (slow.filter fun c => decide (t % classLen c = 0)).foldl (fun s c => { s with ended := s.snapshot (s.weftObjects c) s.ended }) s2

/-- The values that reads of WEFT objects return when the warp begins (R60, R110): the initial ones. -/
def State.showInitial (s : State) : State :=
  let as := allClasses.flatMap s.weftObjects
  let m := s.snapshot as []
  { s with ended := m, shown := m }

/-- A module that begins to shadow the active shows the initial values until it executes (R202), or what it last showed. -/
def State.showJoined (s : State) : State := if s.shown.isEmpty then s.showInitial else s

end Sys2Proof.Machine
end

