-- ==== Sys2Proof/Machine/Mirror.lean ====
section
/-! DEFINITION. What a pair keeps alike: the changed words and the digest of a tick (R262), mirrored wefts and gap wefts (R260, R261), and
what comes with them (R20, R58, R166, R167). -/

namespace Sys2Proof.Machine

def State.setPair (s : State) (p : PairBlock) : State := { s with pair := p }

/-- Place of a class's weft in the seam transmit window and in the seam receive window; Table 17-2 gives the windows no layout (DESIGN CHOICE, log entry
152). -/
def seamTxWindow (cls : Nat) : Nat := 0x2400000 + 0x20000 * cls
def seamRxWindow (cls : Nat) : Nat := 0x2500000 + 0x20000 * cls

/-! ### Changed words (R262) -/

/-- Ascending lines of the STATE_MAP areas, by Store address divided by 32. -/
def State.stateLines (s : State) : List Nat :=
  let ls := (stateAreas s.sections).flatMap fun a => linesOf (stateBase + a.offset) a.length
  (sortBy (fun a b => decide (a ≤ b)) ls).foldr (fun x (r : List Nat) => match r with | y :: _ => if x = y then r else x :: r | [] => [x]) []

/-- A 64-bit word at a Store address has a byte in a STATE_MAP area: the seam state copy carries it (R147). -/
def State.inStateMap (s : State) (a : Nat) : Bool :=
  (stateAreas s.sections).any fun x => decide (stateBase + x.offset < a + 8) && decide (a < stateBase + x.offset + x.length)

/-- The entry of a line, where one of its words differs between two memories. -/
def State.changedLine (s : State) (before : Mem) (line : Nat) : Option StateEntry :=
  let ws := (List.range 4).filter fun w =>
    let a := 32 * line + 8 * w
    s.inStateMap a && decide (Mem.read before a 8 ≠ Mem.read s.store a 8)
  if ws.isEmpty then none
  else some ⟨line, ws.foldl (fun m w => m + 2 ^ w) 0, ws.flatMap fun w => Mem.read s.store (32 * line + 8 * w) 8⟩

def StateEntry.bytes (e : StateEntry) : Bytes := leBytes 4 (e.line % 2 ^ 20 + e.mask % 16 * 2 ^ 20) ++ e.words

/-- The words of an entry by their place in the line. -/
def StateEntry.places (e : StateEntry) : List (Nat × Bytes) :=
  let ws := (List.range 4).filter fun w => bit e.mask w
  ws.zipIdx.map fun (w, k) => (w, slice e.words (8 * k) 8)

/-- An edge ends the tick before it: its entries and digest, and the state area as it left it. -/
def State.endTick (s : State) : State :=
  if s.pairEnabled then
    let es := if s.executes then s.stateLines.filterMap (s.changedLine s.pair.before) else []
    s.setPair { s.pair with entries := es, digest := crc64 (es.flatMap StateEntry.bytes), before := s.store, words := [], entriesSent := 0 }
  else s

/-! ### Items that travel with a weft -/

/-- An item waits for the next cut-off, of whatever class (R166). -/
def State.carryItem (s : State) (i : Option WeftItem) : State := s.setPair { s.pair with outgoing := s.pair.outgoing ++ i.toList }

/-- The items of a byte string. -/
def itemsOfBytes : Nat → Bytes → List WeftItem
  | 0, _ => []
  | fuel + 1, b =>
    match u8At b 0 with
    | 1 => .write (u32At b 1) (slice b 7 (u16At b 5)) :: itemsOfBytes fuel (b.drop (7 + u16At b 5))
    | 2 => .command (u8At b 1) (u64At b 2) :: itemsOfBytes fuel (b.drop 10)
    | 3 => .profile (u8At b 1) (u64At b 2) :: itemsOfBytes fuel (b.drop 10)
    | 4 => .activate (u8At b 1) (u64At b 2) :: itemsOfBytes fuel (b.drop 10)
    | 5 => .cancelActivation :: itemsOfBytes fuel (b.drop 1)
    | 7 => .test ⟨u16At b 1, u8At b 3, u8At b 4, u32At b 5, u32At b 9, u32At b 13, u16At b 17, u32At b 19⟩
        (if u8At b 23 = 0 then none else some (u64At b 24)) :: itemsOfBytes fuel (b.drop 32)
    | 6 => .outcome (decide (u8At b 1 ≠ 0)) :: itemsOfBytes fuel (b.drop 2)
    | _ => []

/-- What follows the body of a weft of a class on the seam: the length of its items, and the items. -/
def State.weftTail (s : State) (cls : Nat) : Bytes :=
  let b := (s.pair.carrying.filter fun e => decide (e.1 = cls)).flatMap fun e => itemBytes e.2
  leBytes 4 b.length ++ b

/-! ### Pending activations (R164 to R167) -/

/-- An activation of the other bank at boundary `tick` is pending. -/
def State.pendActivation (s : State) (target tick : Nat) : State :=
  let img := loadImage target (s.bankImage target)
  let (hitless, pages) := match s.warp.loaded with
    | some l => (decide (hdrLayoutDigest l.header = hdrLayoutDigest img.header), (differingPages l img).length)
    | none => (false, img.pages.length)
  ((((({ s with warp := { s.warp with activation := some ⟨target, tick, hitless, none, false⟩ } }).setNum Obj.activationResult 1).setNum
    Obj.activationDetail 0).setNum Obj.pendingTick tick).setNum Obj.configPagesNeeded pages)

/-- The pending activation ends with a result and a detail (Table 5-17). -/
def State.endActivation (s : State) (result detail : Nat) : State :=
  (((({ s with warp := { s.warp with activation := none } }).setNum Obj.activationResult result).setNum Obj.activationDetail detail).setNum
    Obj.pendingTick 0).setNum Obj.configPagesNeeded 0

/-- The outcome of the decision cut-off (R167): it proceeds, or it fails with STAGING_FAILED. -/
def State.decideActivation (s : State) (proceeds : Bool) : State :=
  match s.warp.activation with
  | none => s
  | some a => if proceeds then { s with warp := { s.warp with activation := some { a with decided := true } } } else s.endActivation 4 1

/-! ### Mirrored wefts -/

/-- The bytes received without a gap from the header on. -/
def MirrorWeft.bytes (m : MirrorWeft) : Bytes :=
  (sortBy (fun a b => decide (a.1 ≤ b.1)) m.pieces).foldl (fun (acc : Bytes) p =>
    if p.1 ≤ acc.length then acc ++ p.2.drop (acc.length - p.1) else acc) []

/-- A weft is complete when every byte has arrived and BODY_CRC matches (R260); the items that travel with it count as bytes of it. -/
def MirrorWeft.complete (m : MirrorWeft) : Bool :=
  let b := m.bytes
  let n := u32At b 24
  decide (36 + n ≤ b.length) && decide (36 + n + u32At b (32 + n) ≤ b.length) && decide (u64At b 0 = m.tick) &&
    decide (crc32c (slice b 32 n) = u32At b 28)

/-- The items that came with a complete weft. -/
def MirrorWeft.items (m : MirrorWeft) : List WeftItem :=
  let b := m.bytes
  let n := u32At b 24
  itemsOfBytes (u32At b (32 + n)) (slice b (36 + n) (u32At b (32 + n)))

def State.mirrorOf (s : State) (t cls : Nat) : Option MirrorWeft :=
  s.pair.wefts.find? fun m => decide (m.tick = t) && decide (m.cls = cls)

/-- The mirrored wefts of every class with a cut-off at `t` are complete. -/
def State.mirrorComplete (s : State) (t : Nat) : Bool :=
  (cutoffClasses t).all fun c => match s.mirrorOf t (classCode c) with | some m => m.complete | none => false

/-- Items that came with the wefts of a tick. -/
def State.itemsOf (s : State) (t : Nat) : List WeftItem := (s.pair.items.filter fun e => decide (e.1 = t)).map (·.2)

/-- A test's parameters reach the standby: those of a start wait for the TestMode write of the same weft, those of a running test stand for
the capture that this module joins in, and replace another test's (R248, R251). -/
def State.takeTest (s : State) : WeftItem → State
  | .test t none => let q := loopShuttle (s.loopCfg t.loop) / 2; s.setCapture q { s.pairCapture q with next := some t }
  | .test t (some c) =>
    let q := loopShuttle (s.loopCfg t.loop) / 2
    let old := s.pairCapture q
    if old.test = some t && old.firstCutoff = c then s
    else s.setCapture q ⟨some t, old.next, c, 0, [], [], loopClass (s.loopCfg t.loop), 1⟩
  | _ => s

def itemWrite : WeftItem → Option (Nat × Bytes)
  | .write a v => some (a, v)
  | _ => none

/-- A mirrored command, profile change or activation takes hold on the standby (R20, R27, R166, R167). A mirrored command takes the place of a STOP that
the standby has pending for itself, whose CommandResult stays PENDING: no rule says which stands (DESIGN CHOICE, log entry 146). -/
def State.applyItem (s : State) : WeftItem → State
  | .write _ _ => s
  | .test _ _ => s
  | .command code tick => { s with command := some ⟨code, tick, true⟩ }
  | .profile p t => { (s.setNum Obj.profile p) with profileChange := some (p, t), stored := Assoc.set s.stored Obj.profile [byte p] }
  | .activate target tick => (s.pendActivation target tick).setNum Obj.activateTick 0
  | .cancelActivation => s.endActivation 0 0
  | .outcome ok => s.decideActivation ok

/-- A PERSISTENT value of a mirrored write goes into this module's MRAM too (R265). -/
def State.storeMirrored (s : State) (w : Nat × Bytes) : State :=
  if ((s.objRow? w.1).map (·.persistent)).getD false then { s with stored := Assoc.set s.stored w.1 w.2 } else s

/-- Wefts of ticks up to `t` are no longer waited for. -/
def PairBlock.dropWefts (p : PairBlock) (t : Nat) : PairBlock :=
  { p with wefts := p.wefts.filter fun m => decide (t < m.tick), items := p.items.filter fun e => decide (t < e.1) }

/-- A write to a configuration record, which no state copy carries. -/
def isTableWrite (w : Nat × Bytes) : Bool :=
  let ix := addrIndex w.1
  (isLoopIx ix && (loopCfgField (addrSub w.1)).isSome) || isGainIx ix

/-- A standby in the state pass executes no tick: of the wefts before `t` it takes the stored values and the configuration written, and the
commands, profile changes and activations (R20, R166, R265); what the writes left in the state areas comes with the pass (R267). -/
def State.takeCarried (s : State) (t : Nat) : State :=
  let es := sortBy (fun a b => decide (a.1 ≤ b.1)) (s.pair.items.filter fun e => decide (e.1 < t))
  let s1 := es.foldl (fun (s : State) e => match itemWrite e.2 with
    | some w => let s1 := s.storeMirrored w; if isTableWrite w then s1.applyWrite e.1 w else s1
    | none => s.applyItem e.2) s
  s1.setPair (s1.pair.dropWefts (t - 1))

/-- A mirrored item whose boundary is the very tick of its weft (R20). -/
def itemDue (t : Nat) : WeftItem → Bool
  | .command _ b => decide (b = t)
  | .profile _ b => decide (b = t)
  | _ => false

/-- Shelves that wait for the mirrored writes of the tick, which go before them (R223). -/
def State.expireShelves (s : State) : State :=
  s.pair.expiring.foldl State.shelveExpiry (s.setPair { s.pair with expiring := [] })

/-- The expiry of a group's shelve (R223, step 2): on a standby after the writes of the tick's mirrored weft, step 1, have been applied. -/
def execShelveExpiry (group : BitVec 12) (s : State) : Host.Outcome State Fault Refusal :=
  .next (if s.mode = .standby && s.executes && decide (s.pair.placed ≠ some s.tick) then
      s.setPair { s.pair with expiring := s.pair.expiring ++ [group.toNat] }
    else s.shelveExpiry group.toNat)

/-- The writes of a mirrored weft, and its items, act as on the active module. -/
def State.applyItems (s : State) (t : Nat) : State :=
  let items := s.itemsOf t
  let ws := items.filterMap itemWrite
  let s1 := (ws.foldl (fun s w => (s.storeMirrored w).applyWrite t w) (items.foldl State.takeTest s)).groupSteps t ws
  items.foldl State.applyItem s1

/-- Stale counts of a mirrored stale table (R122, R208), with SOURCE_FRESH as on the active (R123). -/
def State.mirrorStale (s : State) (t : Nat) (table : Bytes) : State :=
  (s.staleDefs.zipIdx).foldl (fun s (d, k) =>
    let x := s.staleAt k
    let n := u8At table (2 * k)
    if t % d.len ≠ 0 then s
    else if n = 0 && x.reached then
      ({ s with stale := Assoc.set s.stale k ⟨0, false⟩ }).issueTally 0x0305 [k, 0, 0, low32 t]
    else { s with stale := Assoc.set s.stale k { x with count := n } }) s

/-- The standby takes the complete mirrored weft of the running tick (R260). -/
def State.takeMirrorWeft (s : State) : State :=
  let t := s.tick
  let s1 := s.placeWefts t
  let s2 := (cutoffClasses t).foldl (fun s c =>
    match s.mirrorOf t (classCode c) with
    | some m => s.storePut (s.weftOf (classCode c)) (m.bytes.take (32 + u32At m.bytes 24))
    | none => s) s1
  let w := s2.weftOf 0
  let s3 := s2.mirrorFlags (s2.storeNat (w + 9) 1)
  let n := roundUp 8 (2 * s3.staleDefs.length)
  let soe := chunks 8 (s3.storeNat (w + 14) 2) (s3.storeRead (w + 32 + n) (8 * s3.storeNat (w + 14) 2))
  let s4 := ((s3.mirrorStale t (s3.storeRead (w + 32) n)).applyItems t).soeTallies t soe
  (s4.setPair { s4.pair.dropWefts t with weftAck := t, placed := some t }).expireShelves

/-! ### Gap wefts (R261) -/

/-- A byte of the weft area that a capture list of the tick fills from the Store or LPDDR4X: a cross-class value (R110). -/
def State.capturedHere (s : State) (t a : Nat) : Bool :=
  s.lists.any fun l => decide (l.trigger = 1) && l.run.covers (tickIndex t) && l.descs.any fun d =>
    decide (dmaSpace d.src ≠ 1) && decide (d.dst % 2 ^ 28 ≤ a) && decide (a < d.dst % 2 ^ 28 + d.length)

/-- The last content of a class's weft carried to its new place. -/
def State.carryWeft (s : State) (t old new : Nat) : State :=
  if old = new then s
  else (List.range (s.storeNat (old + 24) 4)).foldl (fun s i =>
    if s.capturedHere t (new + 32 + i) then s else s.storePut (new + 32 + i) [s.storeByte (old + 32 + i)]) s

/-- The standby forms a gap weft for the running tick. -/
def State.gapWeft (s : State) : State :=
  let t := s.tick
  let s1 := (s.placeWefts t).staleSteps t fun _ => false
  let s2 := (cutoffClasses t).foldl (fun s' c => s'.carryWeft t (s.weftOf (classCode c)) (s1.weftOf (classCode c))) s1
  let s3 := (s2.putHeaders t (weftHeader t s2.tickFlags 7 0 0 0 0) []).groupSteps t []
  let s4 := s3.closeWefts.count Obj.gapWefts
  (s4.setPair { s4.pair.dropWefts t with placed := some t, gaps := s4.pair.gaps + 1 }).expireShelves

/-- 28 µs: the mirrored weft is not complete (R261). -/
def execGapWeft (s : State) : Host.Outcome State Fault Refusal :=
  .next (if s.mode = .standby && s.executes && decide (s.pair.placed ≠ some s.tick) && !s.mirrorComplete s.tick then s.gapWeft else s)

end Sys2Proof.Machine
end

