-- ==== Sys2Proof/Machine/Records.lean ====
section
/-! DEFINITION. The tally log's head (R478 to R480), its export (R483), and the faceplate: requests, updates,
waveforms, the ledger and the journal (R484 to R491). -/

namespace Sys2Proof.Machine

/-! ### The log -/

/-- The codes of Table 18-3 and those of Table 19-5 (R474). -/
def tallyCodeOk (c : Nat) : Bool :=
  [(0x0101, 0x0108), (0x0201, 0x0204), (0x0301, 0x0305), (0x0401, 0x040A), (0x0501, 0x0506), (0x0601, 0x060A), (0x0701, 0x0709),
    (0x0801, 0x0805), (0x0901, 0x0904), (0x0A01, 0x0A0C), (0x0B01, 0x0B03), (0x0C01, 0x0C07), (0x0D01, 0x0D04)].any
    fun r => decide (r.1 ≤ c) && decide (c ≤ r.2)

/-- The firmware writes a record, or keeps it until the head is known (R474, R477, R480). -/
def execTallyWrite (code : BitVec 16) (params : List (BitVec 32)) (s : State) : Host.Outcome State Fault Refusal :=
  .next (if s.mode = .off || !tallyCodeOk code.toNat then s else s.logTally code.toNat (params.map (·.toNat)))

/-- A record count of R478 advances, and saturates with one tally: the counts are never cleared, so that it is the only one of the
module's life (R62). -/
def State.recordCount (s : State) (v a : Nat) (put : TallyLog → TallyLog) : State :=
  if v < 0xFFFFFFFF then { s with tally := put s.tally }
  else if s.tally.spilled.contains a then s
  else
    let s1 : State := { s with tally := { s.tally with spilled := a :: s.tally.spilled } }
    (s1.setObj (overflowAddr a) (putBytesBit (fit 32 (s.obj (overflowAddr a))) (addrSub a) true)).logTally tCounterOverflow [a]

def execOperatingMinute (s : State) : Host.Outcome State Fault Refusal :=
  .next (if s.mode = .off then s
    else s.recordCount s.tally.minutes Obj.operatingMinutes fun t => { t with minutes := t.minutes + 1 })

/-- POWER_CYCLES at an episode of level P (R478). -/
def State.powerCycle (s : State) : State :=
  s.recordCount s.tally.powerCycles Obj.powerCycles fun t => { t with powerCycles := t.powerCycles + 1 }

/-- A head seal copy is valid (R479): the head it names. -/
def sealHead (b : Bytes) : Option Nat :=
  if b.length = 32 && u32At b 0 = 0x4C415443 && crc32c (b.take 28) = u32At b 28 then some (u64At b 4) else none

/-- The slot of sequence `n` holds a good record of exactly that sequence. -/
def TallyLog.holds (t : TallyLog) (n : Nat) : Bool :=
  let r := (Assoc.get? t.slots (n % tallySlots)).getD []
  decide (r.length = 64) && decide (crc32c (r.take 60) = u32At r 60) && decide (u64At r 8 = n)

/-- Highest sequence of a good record in the slots. -/
def TallyLog.highest (t : TallyLog) : Nat :=
  t.slots.foldl (fun m e => if t.holds (u64At e.2 8) && decide (u64At e.2 8 % tallySlots = e.1) then max m (u64At e.2 8) else m) 0

/-- Step 11 fixes the head (R480), and the records formed before it are written. The mirror is built from MRAM again: after level P or S it
was lost, and after W it holds the same records already (R481). -/
def State.fixHead (s : State) : State :=
  let t := { s.tally with mirror := s.tally.slots }
  let heads := [sealHead t.sealA, sealHead t.sealB].filterMap id
  let s1 := if heads.isEmpty then
      let h := t.highest
      ({ s with tally := { t.seal h with headKnown := true } }.count Obj.headRebuilds).logTally 0x0D01 [low32 h]
    else
      let h := heads.foldl max 0
      { s with tally := { (if t.holds (h + 1) then t.seal (h + 1) else { t with head := h }) with headKnown := true } }
  t.waiting.foldl (fun (s : State) d => s.logDraft d) { s1 with tally := { s1.tally with waiting := [] } }

/-- A damaged record found is counted once (R481). -/
def State.foundDamaged (s : State) (n : Nat) : State :=
  if s.tally.damagedFound.contains n then s
  else { s with tally := { s.tally with damagedFound := n :: s.tally.damagedFound } }.count Obj.talliesDamaged

/-- A record looked at: its status is taken, and a damaged one counted. -/
def State.inspect (s : State) (n : Nat) : State := if (s.tally.lookup n).2 = 1 then s.foundDamaged n else s

/-- Content of the export domain (R483), and the state with the damaged records it found counted. -/
def State.exportTallies (s : State) : Bytes × State :=
  let t := s.tally
  let first := max (s.num Obj.exportFirst) t.oldest
  let held := t.head + 1 - first
  let n := if s.num Obj.exportCount = 0 then held else s.num Obj.exportCount
  let es := (List.range n).map fun k => t.lookup (first + k)
  let cnt := fun st => (es.filter fun e => decide (e.2 = st)).length
  let head := leBytes 4 0x58504554 ++ leBytes 2 1 ++ zeros 2 ++ leBytes 8 first ++ leBytes 4 n ++ leBytes 4 (cnt 1) ++ leBytes 4 (cnt 2) ++ zeros 4
  (head ++ es.flatMap (·.1), (List.range n).foldl (fun (s : State) k => s.inspect (first + k)) s)

/-! ### Audit (Table 2-7) -/

/-- Parameter 4 of a DICT_WRITE tally. -/
def Req.origin (r : Req) : Nat := r.seq % 65536 * 65536 + ifaceCode r.iface * 16384

/-- Parameters of the DICT_WRITE tally of a value (Table 2-7; a fuse command of R510 too: DEDUCED, log entry 159). -/
def auditParams (r : Req) (a type : Nat) (v : Bytes) : List Nat :=
  let short := decide (v.length ≤ 4) && decide (type ≠ 15)
  [a, if short then leNat v else first4 (sha256 v), type * 2 ^ 24 + (if short then 0 else 2 ^ 23) + min v.length 0x7FFFFF, Req.origin r]

/-- One DICT_WRITE tally (R56): its source node is the request's, 0xFFFF over USB. -/
def State.audit (s : State) (r : Req) (a type : Nat) (v : Bytes) : State :=
  let d := s.draft 0x0101 (auditParams r a type v)
  (s.logDraft { d with source := if r.iface = .usb then 0xFFFF else r.source }).count Obj.auditTallies

/-! ### The faceplate -/

/-- The panel and the regions of Table 18-4. -/
def panel : FaceRequest := ⟨0, 0, 296, 152⟩
def faceRegion : Fin 5 → FaceRequest
  | 0 => ⟨0, 0, 296, 32⟩ | 1 => ⟨0, 32, 296, 32⟩ | 2 => ⟨0, 64, 296, 24⟩ | 3 => ⟨0, 88, 296, 32⟩ | _ => ⟨0, 120, 296, 32⟩

/-- Bytes of a frame (R484). -/
def frameLen : Nat := 11248

def FaceRequest.overlaps (a b : FaceRequest) : Bool :=
  decide (a.x < b.x + b.w) && decide (b.x < a.x + a.w) && decide (a.y < b.y + b.h) && decide (b.y < a.y + a.h)

def FaceRequest.covers (a b : FaceRequest) : Bool :=
  decide (a.x ≤ b.x) && decide (b.x + b.w ≤ a.x + a.w) && decide (a.y ≤ b.y) && decide (b.y + b.h ≤ a.y + a.h)

/-- The queue with a request (R488): the newest replaces those it overlaps, at the place of the earliest; a full queue without an overlap
becomes one full-panel update. -/
def queueRequest (q : List FaceRequest) (r : FaceRequest) : List FaceRequest :=
  if q.any (·.overlaps r) then
    let head := q.takeWhile fun x => !x.overlaps r
    head ++ [r] ++ (q.drop head.length).filter fun x => !x.overlaps r
  else if q.length < 8 then q ++ [r] else [panel]

def State.setFace (s : State) (f : Faceplate) : State := { s with face := f }

/-- A region calls for a redraw; while the identity page stands it is held (R485). -/
def State.redraw (s : State) (r : FaceRequest) : State :=
  let f := s.face
  if f.page then s.setFace { f with heldRegions := f.heldRegions.filter (fun x => decide (x ≠ r)) ++ [r] }
  else s.setFace { f with queue := queueRequest f.queue r }

/-- The station applies ON_CHANGE: as FaceplateRate says, or below 0 °C (R487). -/
def State.onChange (s : State) (cold : Bool) : Bool := cold || decide (s.num Obj.faceplateRate = 2)

/-- Shortest interval between the starts of two updates in ns (R488). -/
def State.faceInterval (s : State) (cold : Bool) : Nat := if cold = false ∧ s.num Obj.faceplateRate = 0 then 250000000 else 1000000000

/-- A region calls for a redraw (R488); in ON_CHANGE the time in region 2 alone causes none. -/
def execFaceplateRequest (call : RedrawCall) (s : State) : Host.Outcome State Fault Refusal :=
  .next (if s.mode = .off || (call.region == 1 && call.timeOnly && s.onChange call.cold) then s else s.redraw (faceRegion call.region))

/-- The identity page begins: the whole panel (R485). -/
def State.pageBegin (s : State) : State :=
  if s.face.page then s else s.setFace { s.face with page := true, queue := queueRequest s.face.queue panel }

/-- It ends: the regions are drawn again, and those held with their newest content (R485). -/
def State.pageEnd (s : State) : State :=
  if s.face.page then s.setFace { s.face with page := false, heldRegions := [], queue := queueRequest s.face.queue panel } else s

/-- The page has stood for 60 s. -/
def execPageTimeout (s : State) : Host.Outcome State Fault Refusal :=
  .next (if s.face.page then (s.pageEnd).setNum Obj.faceplatePage 0 else s)

/-- A journal header (Table 18-5). -/
def journalHeader (running : Bool) (phase : Nat) (r : FaceRequest) (targetCrc oldCrc seq : Nat) : Bytes :=
  let b := leBytes 4 0x4E524A46 ++ [byte (b2n running), byte Config.waveformSet, 24, byte phase] ++ leBytes 2 r.x ++ leBytes 2 r.y ++
    leBytes 2 r.w ++ leBytes 2 r.h ++ leBytes 4 targetCrc ++ leBytes 4 oldCrc ++ leBytes 4 seq ++ zeros 32
  b ++ leBytes 4 (crc32c b)

def headerOk (b : Bytes) : Bool := decide (b.length = 64) && decide (u32At b 0 = 0x4E524A46) && decide (crc32c (b.take 60) = u32At b 60)
def headerRunning (b : Bytes) : Bool := decide (u8At b 4 = 1)
def headerPhase (b : Bytes) : Nat := u8At b 7
def headerRegion (b : Bytes) : FaceRequest := ⟨u16At b 8, u16At b 10, u16At b 12, u16At b 14⟩

/-- The header rewritten with another STATE and PHASE_INDEX. -/
def headerAt (b : Bytes) (running : Bool) (phase : Nat) : Bytes :=
  let h := slice b 0 4 ++ [byte (b2n running)] ++ slice b 5 2 ++ [byte phase] ++ slice b 8 52
  h ++ leBytes 4 (crc32c h)

/-- Grey level of a pixel (R484). -/
def pixel (frame : Bytes) (x y : Nat) : Nat := u8At frame (74 * y + x / 4) / 4 ^ (x % 4) % 4

/-- Rows of a rectangle taken from another frame; a region spans whole rows. -/
def mixRows (frame drawn : Bytes) (r : FaceRequest) : Bytes :=
  frame.take (74 * r.y) ++ slice drawn (74 * r.y) (74 * r.h) ++ frame.drop (74 * (r.y + r.h))

/-- The interval of FaceplateRate since the last start has not passed (R488; log entry 10). -/
def State.faceWaits (s : State) (cold : Bool) : Bool := s.face.lastStart.any fun t => decide (s.localNs < t + s.faceInterval cold)

/-- The next queued update starts (R488 to R490): the frame memory is checked, and rebuilt from the
region contents where its CRC fails; the journal's frames and header are written. -/
def execUpdateStart (drawn : FaceDrawing) (s : State) : Host.Outcome State Fault Refusal :=
  let f := s.face
  let now := fit frameLen drawn.content
  .next (if s.mode = .off || headerRunning f.header || s.faceWaits drawn.cold then s
    else match f.queue with
      | [] => s
      | r0 :: rest =>
        let bad := drawn.upset || decide (crc32c f.frame ≠ f.frameCrc)
        let old := if bad then now else fit frameLen f.frame
        let r := if bad then panel else r0
        let s1 := if bad then (s.logTally 0x0D03 []).count Obj.frameCrcFaults else s
        let target := fit frameLen (mixRows old now r)
        let crc := crc32c target
        let seq := (f.updateSeq + 1) % 2 ^ 32
        s1.setFace { s1.face with
          queue := if bad then [] else rest, oldFrame := old, targetFrame := target, frame := target, frameCrc := crc
          updateSeq := seq, lastStart := some s.localNs, header := journalHeader true 0 r crc (crc32c old) seq })

/-- Largest magnitude of the sum of the first `k` drives: at most 12, and no more than the phases left can bring back to 0 (R487). -/
def driveBound (k : Nat) : Int := if k < 12 then 12 else 24 - k

/-- Sum of the first `k` drives of a pixel from grey `a` to grey `b` (R487): steps of −1, 0 or +1 within the bound, 0 after 24. -/
def driveSum (a b : Nat) : Nat → Int
  | 0 => 0
  | k + 1 =>
    let p := driveSum a b k
    clampInt (max (p - 1) (-driveBound (k + 1))) (min (p + 1) (driveBound (k + 1))) (p + Config.waveform a b k)

/-- W[a][b][k] (R487). -/
def drive (a b k : Nat) : Int := driveSum a b (k + 1) - driveSum a b k

/-- Phase `k` committed to the ledger rows of the region (R489, R490); an entry of 0 is not listed. -/
def ledgerPhase (ledger : Assoc Int) (old target : Bytes) (r : FaceRequest) (k : Nat) : Assoc Int :=
  (List.range r.h).foldl (fun (m : Assoc Int) j =>
    (List.range r.w).foldl (fun (m : Assoc Int) i =>
      let x := r.x + i
      let y := r.y + j
      let e := (Assoc.get? m (y * 296 + x)).getD 0 + drive (pixel old x y) (pixel target x y) k
      if e = 0 then Assoc.erase m (y * 296 + x) else Assoc.set m (y * 296 + x) e) m) ledger

/-- A row of the ledger as it lies in MRAM: an I8 for each pixel (R489). -/
def Faceplate.ledgerRow (f : Faceplate) (y : Nat) : Bytes :=
  (List.range 296).map fun x => byte (ofSigned 8 ((Assoc.get? f.ledger (y * 296 + x)).getD 0))

/-- The byte at an offset of the faceplate area (R489): the ledger, a CRC for each of its rows, the journal header, the old frame and the target
frame; none between them. -/
def Faceplate.areaByte (f : Faceplate) (o : Nat) : Option Byte :=
  if o < 0xAFC0 then (f.ledgerRow (o / 296))[o % 296]?
  else if o < 0xAFC0 + 4 * 152 then (leBytes 4 (crc32c (f.ledgerRow ((o - 0xAFC0) / 4))))[(o - 0xAFC0) % 4]?
  else if 0xC000 ≤ o ∧ o < 0xC040 then f.header[o - 0xC000]?
  else if 0xC040 ≤ o ∧ o < 0xC040 + frameLen then (fit frameLen f.oldFrame)[o - 0xC040]?
  else if 0xEC40 ≤ o ∧ o < 0xEC40 + frameLen then (fit frameLen f.targetFrame)[o - 0xEC40]?
  else none

/-- The end of an update: the redrawn region is no longer stale (R491). -/
def State.updateEnd (s : State) (r : FaceRequest) : State :=
  let done := match s.face.stale with | some x => r.covers x | none => false
  let s1 := s.setFace { s.face with header := headerAt s.face.header false 24, stale := if done then none else s.face.stale }
  (if done then s1.setFlag Obj.faceplateStale false else s1).count Obj.updatesDone

/-- A phase of the running update (R490). -/
def State.runPhase (s : State) : State :=
  let f := s.face
  let k := headerPhase f.header
  let r := headerRegion f.header
  let s1 := s.setFace { f with ledger := ledgerPhase f.ledger f.oldFrame f.targetFrame r k, header := headerAt f.header true (k + 1) }
  if 24 ≤ k + 1 then s1.updateEnd r else s1

def execUpdatePhase (s : State) : Host.Outcome State Fault Refusal :=
  .next (if s.mode = .off || !headerRunning s.face.header then s else s.runPhase)

/-- `n` phases in turn. -/
def State.runPhases (s : State) : Nat → State
  | 0 => s
  | n + 1 => (s.runPhase).runPhases n

/-- Balancing (R491): an entry e is driven by −sign(e) for |e| phases, at most 12. -/
def balanced (ledger : Assoc Int) : Assoc Int :=
  (ledger.map fun e => (e.1, e.2 - clampInt (-12) 12 e.2)).filter fun e => decide (e.2 ≠ 0)

/-- Step 10 (R491): an interrupted update is completed from the journal, or a balancing pass runs and the panel is drawn white. -/
def State.finishJournal (s : State) : State :=
  let f := s.face
  let ok := headerOk f.header
  if ok && !headerRunning f.header then s
  else
    let note := headerPhase f.header + f.updateSeq % 2 ^ 24 * 256
    if ok && decide (crc32c f.targetFrame = u32At f.header 16) then
      let s1 := (s.setFace { f with completed := some note, frame := f.targetFrame, frameCrc := u32At f.header 16, stale := none }).runPhases
        (24 - headerPhase f.header)
      let s2 := if headerRunning s1.face.header then s1.updateEnd (headerRegion f.header) else s1
      (s2.setFace { s2.face with stale := some (headerRegion f.header) }).setFlag Obj.faceplateStale true
    else
      let white := zeros frameLen
      let s1 := s.setFace { f with
        completed := some note, ledger := balanced f.ledger, frame := white, frameCrc := crc32c white, stale := some panel
        header := journalHeader false 24 panel (crc32c white) (crc32c white) f.updateSeq }
      (s1.setFlag Obj.faceplateStale true).logTally 0x0D04 []

/-- Step 11 reports it (R491), and the affected region is queued with current content. -/
def State.reportJournal (s : State) : State :=
  match s.face.completed with
  | none => s
  | some n =>
    let s1 := ((s.setFace { s.face with completed := none }).logTally 0x0D02 [n]).count Obj.journalCompletions
    match s.face.stale with
    | some r => s1.redraw r
    | none => s1

end Sys2Proof.Machine
end

