-- ==== Sys2Proof/Machine/Security.lean ====
section
/-! DEFINITION. The security functions (chapter 19): the key store and its writes (R496 to R501), the firmware banks, their verification
and the choice of the running one (R502 to R505), recovery (R506), and the debug lock (R509). -/

namespace Sys2Proof.Machine

/-- Status codes of a key slot (Table 19-4). -/
def slotEmpty : Nat := 0
def slotInstalled : Nat := 1
def slotRevoked : Nat := 2
def slotDamaged : Nat := 3

/-- Classes of fused keys, as RevokeKey and tally 0x0702 name them. -/
def warpClass : Nat := 1
def safetyClass : Nat := 2

def State.setKeys (s : State) (k : KeyStore) : State := { s with keys := k }

def KeyStore.statusOf (k : KeyStore) (cls : Nat) (slot : Fin 8) : Nat := if cls = warpClass then k.warpStatus[slot] else k.safetyStatus[slot]

def KeyStore.setStatus (k : KeyStore) (cls : Nat) (slot : Fin 8) (v : Nat) : KeyStore :=
  if cls = warpClass then { k with warpStatus := k.warpStatus.set slot v } else { k with safetyStatus := k.safetyStatus.set slot v }

def KeyStore.setKey (k : KeyStore) (cls : Nat) (slot : Fin 8) (v : Bytes) : KeyStore :=
  if cls = warpClass then { k with warp := k.warp.set slot v } else { k with safety := k.safety.set slot v }

/-- A public key whose point is on the curve (R497). -/
def keyOnCurve (v : Bytes) : Bool := onCurve (leNat (v.take 32)) (leNat (v.drop 32))

/-- A fused key is installed: the key bits first, the status bits last; a reset between them leaves the slot to read DAMAGED at the
next start (R497, R512). -/
def State.fuseKey (s : State) (cls : Nat) (slot : Fin 8) (v : Bytes) (cutOff : Bool) : State :=
  let k := s.keys.setKey cls slot v
  if cutOff then s.setKeys { k with burning := some (cls, slot.val) } else s.setKeys (k.setStatus cls slot slotInstalled)

/-- The next start after a burn that was cut off (R497): the slot whose status bits were not programmed reads DAMAGED. -/
def State.finishBurn (s : State) : State :=
  match s.keys.burning with
  | none => s
  | some (cls, slot) =>
    if s.keys.statusOf cls (Fin.ofNat 8 slot) ≠ slotEmpty then s.setKeys { s.keys with burning := none }
    else (s.setKeys { s.keys.setStatus cls (Fin.ofNat 8 slot) slotDamaged with burning := none }).logTally 0x0702 [cls * 256 + slot]

/-- The wrap-key fault of R499 is recorded at each start. -/
def State.startKeys (s : State) : State := if s.keys.wrapFault then s.finishBurn.logTally 0x0709 [] else s.finishBurn

/-- RevokeKey's format (Table 19-4). -/
def revokeOk (v : Nat) : Bool :=
  decide (v / 4096 = 5) && (decide (v / 256 % 16 = warpClass) || decide (v / 256 % 16 = safetyClass)) && decide (v % 256 < 8)

/-- SIGNER_SLOT of the images and of the safety parameter set that are in use (R498). -/
def State.signersInUse (s : State) (cls : Nat) : List Nat :=
  if cls = warpClass then
    (match s.warp.loaded with | some l => [hdrSigner l.header] | none => []) ++
      (match s.warp.activation with | some p => [hdrSigner (s.bankImage p.target)] | none => [])
  else match s.island.set with
    | some b => [u8At b 8]
    | none => []

/-- The revocation fuse burns (R498). -/
def State.revoke (s : State) (v : Nat) : State :=
  (s.setKeys (s.keys.setStatus (v / 256 % 16) (Fin.ofNat 8 (v % 256)) slotRevoked)).logTally 0x0701 [v]

/-- A conduit key is written or erased (R499, R500); the replay records of its slot are cleared. -/
def State.putConduit (s : State) (slot : Fin 16) (v : Bytes) : State :=
  let key := if v = zeros 32 then none else some v
  { s with
    keys := { s.keys with conduit := s.keys.conduit.set slot key }
    clp := { s.clp with replay := s.clp.replay.filter fun r => decide (r.slot ≠ slot.val) } }

/-- A seam key is written or erased (R499, R501). -/
def State.putSeamKey (s : State) (slot : Fin 2) (v : Bytes) : State :=
  s.setKeys { s.keys with seam := s.keys.seam.set slot (if v = zeros 32 then none else some v) }

/-- The conduit key of a slot, for use; none under a wrap-key fault (R499). -/
def State.conduitKey (s : State) (slot : Nat) : Option Bytes :=
  if s.keys.wrapFault then none else (s.keys.conduit.toList[slot]?).getD none

/-- The seam key of a slot (R501). -/
def State.seamKeyOf (s : State) (slot : Nat) : Option Bytes := if s.keys.wrapFault then none else (s.keys.seam.toList[slot]?).getD none

/-- A start or a training of the link takes the key of the slot that SeamKeyId selects (R501; DESIGN CHOICE, log entry 156). -/
def State.takeSeamKey (s : State) : State := s.setKeys { s.keys with seamInUse := s.seamKeyOf (s.started Obj.seamKeyId) }

/-- The debug lock fuse burns (R509); it is in force from the next episode of level S or P. -/
def State.burnLock (s : State) : State := (s.setKeys { s.keys with lockFuse := true }).logTally 0x0707 []

/-! ### Firmware -/

def firmwareDomain (k : Nat) : Nat := if k = 0 then Obj.firmwareBankA else Obj.firmwareBankB

/-- What a firmware header names (Table 19-3), with the digest of R502. -/
structure FirmwareInfo where
  signer : Nat
  security : Nat
  version : Nat
  digest : Bytes
  deriving DecidableEq, Repr

/-- The digest of a firmware image (R502). -/
def firmwareDigest (b : Bytes) : Bytes := sha256 (b.take 64 ++ (b.take (u32At b 12)).drop 128)

/-- A bank's header fields. The image a bank was delivered with is known by its named values. -/
def State.firmwareInfo (s : State) (k : Fin 2) : FirmwareInfo :=
  if s.firmware.delivered[k] then ⟨0, 1, 0x01000000, fit 32 (Config.deliveredDigest k.val)⟩
  else
    let b := (s.domain (firmwareDomain k.val)).content
    ⟨u8At b 6, u8At b 7, u32At b 8, firmwareDigest b⟩

/-- The header of Table 19-8; a SIGNER above 3 or a SECURITY_VERSION of 0 fails FORMAT (DESIGN CHOICE, log entry 157). -/
def firmwareFormatOk (b : Bytes) : Bool :=
  decide (u32At b 0 = 0x57465A43) && decide (u16At b 4 = 1) && decide (u8At b 6 < 4) && decide (1 ≤ u8At b 7) && allZero (slice b 28 36)

/-- Steps 1 and 2 of R503 for the bytes of a bank: a refusal code, or 0. -/
def firmwareForm (b : Bytes) : Nat :=
  let n := u32At b 12
  if b.length ≠ n || n < 4096 || 16777216 < n then 1
  else if !firmwareFormatOk b then 2 else 0

/-- The refusal code of a bank that is not empty, or 0 (R503). -/
def State.firmwareRefusalOf (s : State) (k : Fin 2) : Nat :=
  let b := (s.domain (firmwareDomain k.val)).content
  let i := s.firmwareInfo k
  let form := if s.firmware.delivered[k] then 0 else firmwareForm b
  let slot : Fin 4 := Fin.ofNat 4 i.signer
  if form ≠ 0 then form
  else if s.keys.firmwareStatus[slot] = slotRevoked then 3
  else if !s.firmware.delivered[k] && !ecdsaVerify s.keys.firmware[slot] i.digest (slice b 64 64) then 4
  else if i.security < s.keys.securityVersion then 5 else 0

def versionObj (k : Nat) : Nat := if k = 0 then Obj.firmwareVersionA else Obj.firmwareVersionB
def firmwareDigestObj (k : Nat) : Nat := if k = 0 then Obj.firmwareDigestA else Obj.firmwareDigestB

/-- A bank holds no image. -/
def State.firmwareEmpty (s : State) (k : Fin 2) : Bool :=
  !s.firmware.delivered[k] && decide ((s.domain (firmwareDomain k.val)).content = [])

/-- Parameters of FIRMWARE_VERIFIED, FIRMWARE_STARTED and RECOVERY_LOADED (Table 19-5). -/
def State.firmwareParams (s : State) (k : Fin 2) : List Nat :=
  let i := s.firmwareInfo k
  [k.val, i.version, i.security, first4 i.digest]

/-- A bank holds nothing: its state, its refusal and its identity objects (R53). -/
def State.clearFirmware (s : State) (k : Nat) : State :=
  (((s.setNum (Obj.firmwareBankState k) 0).setNum (Obj.firmwareRefusal k) 0).setNum (versionObj k) 0).setObj (firmwareDigestObj k) (zeros 32)

/-- The verification of a bank completes (R503): its state, its refusal, its identity objects (R53), its descriptor (R39) and its tally. -/
def State.verifyFirmware (s : State) (k : Fin 2) : State :=
  if s.firmwareEmpty k then
    s.clearFirmware k.val
  else
    let code := s.firmwareRefusalOf k
    let i := s.firmwareInfo k
    let d := firmwareDomain k.val
    let s0 := s.setDomain d { s.domain d with status := if code = 0 then 1 else 4 }
    let s1 := (((s0.setNum (Obj.firmwareBankState k.val) (if code = 0 then 3 else 4)).setNum (Obj.firmwareRefusal k.val) code).setNum
      (versionObj k.val) i.version).setObj (firmwareDigestObj k.val) i.digest
    if code = 0 then s1.logTally 0x0703 (s1.firmwareParams k) else s1.logTally 0x0704 [k.val, code]

def State.firmwareValid (s : State) (k : Fin 2) : Bool := !s.firmwareEmpty k && decide (s.firmwareRefusalOf k = 0)

/-- The bank that the boot loader runs (R503): the valid one of highest SECURITY_VERSION, then VERSION, and bank A on a tie. -/
def State.chooseFirmware (s : State) : Option (Fin 2) :=
  match s.firmwareValid 0, s.firmwareValid 1 with
  | false, false => none
  | true, false => some 0
  | false, true => some 1
  | true, true =>
    let a := s.firmwareInfo 0
    let b := s.firmwareInfo 1
    if a.security < b.security || (a.security = b.security && a.version < b.version) then some 1 else some 0

/-- The bank to run where none has been written to take effect: the running one while it stays valid (R504). -/
def State.keepFirmware (s : State) : Option (Fin 2) :=
  match s.firmware.running with
  | some (k, _) => if s.firmwareValid (Fin.ofNat 2 k) then some (Fin.ofNat 2 k) else s.chooseFirmware
  | none => s.chooseFirmware

/-- Step 9 of Table 15-4 (R503): both banks are verified and one is run; without one the module stays in BOOT, and the boot loader waits
for recovery frames (R506). A written bank takes effect at an exit of level S or P alone (`selects`, R504). -/
def State.secureBoot (s : State) (selects : Bool) : State :=
  let s1 := (s.verifyFirmware 0).verifyFirmware 1
  match (if selects then s1.chooseFirmware else s1.keepFirmware) with
  | some k =>
    { (s1.setNum Obj.activeFirmwareBank k.val) with
      firmware := { s1.firmware with running := some (k.val, (s1.firmwareInfo k).version, (s1.firmwareInfo k).security, (s1.firmwareInfo k).signer) }
      face := { s1.face with noFirmware := false } }
  | none =>
    { s1 with
      firmware := { s1.firmware with running := none, received := 0 }
      face := { s1.face with noFirmware := true, queue := queueRequest s1.face.queue (faceRegion 3) } }

/-- Step 11: FIRMWARE_STARTED. -/
def State.firmwareStarted (s : State) : State :=
  match s.firmware.running with
  | some (k, _) => s.logTally 0x0705 (s.firmwareParams (Fin.ofNat 2 k))
  | none => s

/-- The verification of a firmware bank after DOMAIN_WRITE_END completes (R504), with the audit tally of R57. -/
def execFirmwareVerified (bank : Fin 2) (s : State) : Host.Outcome State Fault Refusal :=
  .next (if s.num (Obj.firmwareBankState bank.val) = 2 then
      let s1 := s.verifyFirmware bank
      let d := firmwareDomain bank.val
      let ok := decide (s1.num (Obj.firmwareBankState bank.val) = 3)
      let s3 := match ok, Assoc.get? s.clp.audits d with
        | true, some r => s1.audit r d 15 (s1.domain d).content
        | _, _ => s1
      { s3 with clp := { s3.clp with audits := Assoc.erase s3.clp.audits d } }
    else s)

/-- CommitSecurityVersion takes effect (R505). -/
def State.commitVersion (s : State) (v : Nat) : State :=
  match s.firmware.running with
  | none => s
  | some (_, _, _, signer) =>
    let st := s.keys.firmwareStatus
    let below := (List.range 4).filter fun i => decide (i < signer)
    let st' := Vector.ofFn fun i : Fin 4 => if i.val < signer then slotRevoked else st[i]
    let mask := below.foldl (fun m i => m + 2 ^ i) 0
    (s.setKeys { s.keys with securityVersion := v, firmwareStatus := st' }).logTally 0x0706 [s.keys.securityVersion, v, mask]

/-- Step 4 and 6 conditions of CommitSecurityVersion (R505). -/
def State.commitOk (s : State) (v : Nat) : Bool :=
  match s.firmware.running with
  | some (_, _, security, _) => decide (v = security) && decide (s.keys.securityVersion < v)
  | none => false

/-- The CRC of a recovery frame covers its offset, length and content (R506). -/
def recoveryCrc (offset : Nat) (data : Bytes) : Nat := crc32c (leBytes 4 offset ++ leBytes 2 data.length ++ data)

/-- The boot loader waits for recovery frames (R24, R506). -/
def State.recovering (s : State) : Bool := decide (s.mode = .boot) && s.firmware.running.isNone && s.rst.episode.isNone && (s.rst.exiting.isSome || s.rst.waking)

/-- A recovery frame writes firmware bank A under the offset rule of R84: an offset up to the received length is stored, and writes again what it
covers; a higher one is not. -/
def execRecoveryFrame (offset crc : BitVec 32) (data : List Byte) (s : State) : Host.Outcome State Fault Refusal :=
  .next (if !s.recovering || data.isEmpty || 4096 < data.length || recoveryCrc offset.toNat data ≠ crc.toNat then s
    else if offset.toNat ≠ 0 && s.firmware.received < offset.toNat then s
    else if 16777216 < offset.toNat + data.length then s
    else
      let old := if s.firmware.received = 0 then [] else (s.domain Obj.firmwareBankA).content
      let content := patch old offset.toNat data
      let s1 := (s.setDomain Obj.firmwareBankA ⟨content, 2⟩).setNum (Obj.firmwareBankState 0) 1
      { s1 with firmware := { s1.firmware with received := content.length, delivered := s1.firmware.delivered.set 0 false } })

/-- The last recovery frame has come: bank A is verified, and step 9 runs again if it is valid (R506); a refused bank waits for a new
transfer. -/
def execRecoveryLoaded (s : State) : Host.Outcome State Fault Refusal :=
  .next (if !s.recovering || s.firmware.received = 0 then s
    else
      let s1 := s.verifyFirmware 0
      let s3 := { s1 with firmware := { s1.firmware with received := 0 } }
      if s3.firmwareValid 0 then (s3.secureBoot true).logTally 0x0708 (s3.firmwareParams 0) else s3)

end Sys2Proof.Machine
end

