-- ==== Sys2Proof/Machine/Seam.lean ====
section
/-! DEFINITION. The seam link (R257 to R259): frames and their seal, what has been received, acknowledgement and re-sending. The layout of
a payload that the manual leaves open is the model's own (log entry 40). -/

namespace Sys2Proof.Machine

/-! ### Frame types (Table 9-5) -/

def seamTypeHello : Nat := 1
def seamTypeWeft : Nat := 2
def seamTypeState : Nat := 3
def seamTypeClose : Nat := 4
def seamTypeDict : Nat := 5
def seamTypeBank : Nat := 6
def seamTypeResync : Nat := 7
def seamTypePersist : Nat := 8
def seamTypeAck : Nat := 9

/-! ### A CLOSE frame read (Table 9-6) -/

/-- The sender executes ticks: a Q cycle ends in every one. -/
def SeamClose.executing (c : SeamClose) : Bool := bit c.ended 0

/-- SeamState codes (Table 9-11); while the link is down and PARTNER_PRESENT says that there is a partner to train with, it is TRAINING (DESIGN
CHOICE, log entry 135). -/
def seamDown : Nat := 0
def seamTraining : Nat := 1
def seamIsUp : Nat := 2
def seamRefused : Nat := 3

def State.seamUp (s : State) : Bool := decide (s.num Obj.seamState = seamIsUp)

/-! ### Sealing (R258) -/

def State.ownSerial (s : State) : Bytes := fit 12 (s.obj Obj.moduleSerial)

/-- Serial of the partner: that of its HELLO, or of the last pairing. -/
def State.partnerSerialOf (s : State) : Bytes :=
  match s.pair.partner with
  | some h => h.serial
  | none => fit 12 (s.obj Obj.partnerSerial)

/-- The sending key of the module with a serial, from the seam key in use (R501). -/
def State.sendingKey (s : State) (serial : Bytes) : Option Bytes :=
  s.keys.seamInUse.map fun k => hmacSha256 k (asciiBytes "CZ9P-SEAM" ++ serial)

/-- A frame header (Table 9-4). -/
def seamHeader (type flags length epoch seq tick delta : Nat) : Bytes :=
  [byte type, byte flags] ++ leBytes 2 length ++ leBytes 4 epoch ++ leBytes 8 seq ++ leBytes 4 tick ++ leBytes 4 delta

def seamNonce (h : Bytes) : Bytes := slice h 8 8 ++ slice h 4 4

/-- A sealed frame: the header is additional data; the payload is encrypted, or additional data too. -/
def sealFrame (key : Bytes) (encrypt : Bool) (h payload : Bytes) : Bytes :=
  if encrypt then
    let ct := gcmCrypt key (seamNonce h) payload
    h ++ ct ++ gcmTag key (seamNonce h) h ct
  else h ++ payload ++ gcmTag key (seamNonce h) (h ++ payload) []

/-- Header and payload of a frame whose tag verifies. -/
def openFrame (key : Bytes) (encrypt : Bool) (wire : Bytes) : Option (Bytes × Bytes) :=
  let h := wire.take 24
  let n := u16At h 2
  let text := slice wire 24 n
  let tag := wire.drop (24 + n)
  if wire.length ≠ 24 + n + 16 || 4096 < n then none
  else if encrypt then if gcmTag key (seamNonce h) h text = tag then some (h, gcmCrypt key (seamNonce h) text) else none
  else if gcmTag key (seamNonce h) (h ++ text) [] = tag then some (h, text) else none

/-- Payloads are encrypted when SeamEncrypt is true; a HELLO's never, so that step 2 of Table 9-2 can judge SeamEncrypt (DEDUCED, log
entry 65). -/
def State.encrypts (s : State) (type : Nat) : Bool := decide (s.started Obj.seamEncrypt ≠ 0) && decide (type ≠ seamTypeHello)

/-! ### Sending -/

/-- A frame leaves with the next FRAME_SEQ; all but ACK wait for their acknowledgement. -/
def State.sendSeam (s : State) (type : Nat) (payload : Bytes) : State :=
  match s.sendingKey s.ownSerial with
  | none => s
  | some key =>
    let p := s.pair
    let h := seamHeader type 0 payload.length p.epoch p.frameSeq (low32 s.tick) 0
    let sent := if type = seamTypeAck then p.sent else p.sent ++ [⟨p.frameSeq, p.frameSeq, type, low32 s.tick, payload, 1⟩]
    (s.setPair { p with frameSeq := p.frameSeq + 1, sent := sent }).send .seam 0 0 (sealFrame key (s.encrypts type) h payload)

/-- A frame that the partner names is sent again (R259), at most four times in all. -/
def State.resend (s : State) (e : SeamSent) : State :=
  match s.sendingKey s.ownSerial with
  | none => s
  | some key =>
    let p := s.pair
    let h := seamHeader e.type 1 e.payload.length p.epoch p.frameSeq e.tick (p.frameSeq - e.first)
    let sent := p.sent.map fun (x : SeamSent) => if x.first = e.first then { x with seq := p.frameSeq, sends := x.sends + 1 } else x
    ((s.setPair { p with frameSeq := p.frameSeq + 1, sent := sent }).send .seam 0 0
      (sealFrame key (s.encrypts e.type) h e.payload)).count Obj.seamRetransmits

/-! ### Receiving -/

/-- The lowest number not received, and the numbers received above it. -/
def settleRx : Nat → Nat → List Nat → Nat × List Nat
  | 0, next, got => (next, got)
  | fuel + 1, next, got => if got.contains next then settleRx fuel (next + 1) (got.filter (· ≠ next)) else (next, got)

/-- Frame numbers are passed: nothing waits for them any more. -/
def PairBlock.passNumbers (p : PairBlock) (ns : List Nat) : PairBlock :=
  let got := p.rxGot ++ ns.filter fun n => decide (p.rxNext ≤ n) && !p.rxGot.contains n
  let (next, rest) := settleRx (got.length + 1) p.rxNext got
  { p with rxNext := next, rxGot := rest }

/-- A frame number, and that of its first send, are received. -/
def PairBlock.note (p : PairBlock) (seq orig : Nat) : PairBlock :=
  { p with gone := p.gone.filter fun n => decide (n ≠ seq) && decide (n ≠ orig) }.passNumbers [seq, orig]

/-- The frame of a number has come; one given up has not. -/
def PairBlock.has (p : PairBlock) (n : Nat) : Bool := (decide (n < p.rxNext) || p.rxGot.contains n) && !p.gone.contains n

/-- Up to 16 frame numbers below the highest received that are missing. -/
def PairBlock.missing (p : PairBlock) : List Nat :=
  let top := p.rxGot.foldl max p.rxNext
  (((List.range (min (top - p.rxNext) (16 + p.rxGot.length))).map (p.rxNext + ·)).filter fun n => !p.rxGot.contains n).take 16

/-- A number that has been named in four ticks is given up: it was that of a retransmission that came again under another number, or the sender
takes the link down. Nothing waits for it any more; should its frame still come, it is applied (R259, log entry 21). -/
def PairBlock.giveUp (p : PairBlock) : PairBlock :=
  let ns := (p.named.filter fun e => decide (4 ≤ e.2)).map (·.1)
  { p with named := p.named.filter fun e => decide (e.2 < 4), gone := p.gone ++ ns }.passNumbers ns

/-- An ACK: the highest number received in order (all ones for none), then the numbers to be sent again. A tick's namings of a number count once,
since the sender's answer to one takes longer than the next ACK (log entry 21). -/
def State.sendAck (s : State) (named : List Nat) : State :=
  let p := s.pair.giveUp
  let high := if p.rxNext = 0 then 2 ^ 64 - 1 else p.rxNext - 1
  let list := (named ++ p.missing.filter fun n => !named.contains n).take 16
  let open_ := p.named.filter fun e => !p.has e.1
  let counts := if p.namedAt = some s.tick then open_ else list.foldl (fun m n => Assoc.set m n (Assoc.getD m n 0 + 1)) open_
  (s.setPair { p with named := counts, namedAt := if list.isEmpty then p.namedAt else some s.tick }).sendSeam seamTypeAck (leBytes 8 high ++ list.flatMap (leBytes 8))

/-- The module takes part on the seam: PairEnable, the link up, the dictionary service running. -/
def State.seamServes (s : State) : Bool := s.pairEnabled && s.seamUp && s.mode.answers

/-- Types whose frames change the receiver in an order that shows: what they write may be written again by the next (R259). Frames of the other types
carry their own place and tick (weft pieces with the items of a tick, changed words, lines of the pass) or their own tick (CLOSE), by which the
receiver applies them: what they leave is that of the order of their first sends. -/
def seamOrdered (type : Nat) : Bool := decide (type = seamTypeDict) || decide (type = seamTypeBank) || decide (type = seamTypePersist)

/-- Frames that waited and whose turn has come: every number below that of their first send has been received. -/
def State.releaseWaiting (apply : Nat → State → Bytes → Bytes → State) : Nat → State → State
  | 0, s => s
  | fuel + 1, s =>
    match s.pair.waiting with
    | [] => s
    | f :: rest =>
      if f.first < s.pair.rxNext then releaseWaiting apply fuel (apply f.type (s.setPair { s.pair with waiting := rest }) f.header f.payload) else s

/-- A frame received whole: applied at once, or kept until those of its type sent before it have been applied (R259). -/
def State.placeFrame (s : State) (apply : Nat → State → Bytes → Bytes → State) (f : SeamHeld) : State :=
  let s1 := if seamOrdered f.type && decide (s.pair.rxNext ≤ f.first) then
      s.setPair { s.pair with waiting := insertBy (fun a b => decide (a.first ≤ b.first)) f s.pair.waiting }
    else apply f.type s f.header f.payload
  s1.releaseWaiting apply (s1.pair.waiting.length + 1)

/-- A frame of a type arrives: refused by its tag (counted and named), or taken once, applied and acknowledged (R258, R259). An unpaired module
applies none. -/
def State.seamReceive (s : State) (type : Nat) (wire : Bytes) (apply : Nat → State → Bytes → Bytes → State) : State :=
  if !s.seamServes then s
  else match (s.sendingKey s.partnerSerialOf).bind fun key => openFrame key (s.encrypts type) wire with
    | none =>
      let n := u64At wire 8
      let s1 := s.count Obj.seamAuthFailures
      if s.paired then s1.sendAck (if s.pair.has n then [] else [n]) else s1
    | some (h, payload) =>
      let seq := u64At h 8
      let orig := seq - u32At h 20
      if u8At h 0 ≠ type || s.pair.has seq || !s.paired then s
      else
        let s1 := s.setPair (s.pair.note seq orig)
        let s2 := if s.pair.has orig then s1 else s1.placeFrame apply ⟨orig, type, h, payload⟩
        if type = seamTypeAck then s2 else s2.sendAck []

/-- An ACK arrives: frames up to the highest in order are delivered, those named are sent again. -/
def State.takeAck (s : State) (payload : Bytes) : State :=
  let high := u64At payload 0
  let named := (chunks 8 16 (payload.drop 8)).map leNat
  let left := s.pair.sent.filter fun e => decide (high = 2 ^ 64 - 1) || decide (high < e.seq)
  let s1 := s.setPair { s.pair with sent := left }
  (left.filter fun e => named.contains e.seq && decide (e.sends < 4)).foldl State.resend s1

/-! ### Sidebands (Table 9-1, R275) -/

/-- The module's RoleContact reads high. -/
def State.roleHigh (s : State) : Bool := s.flag Obj.roleContact

/-- FENCE_IN is effective (R275); with PairEnable false it is ignored (R252). -/
def State.fenceEffective (s : State) : Bool := s.pairEnabled && s.pair.fenceIn && !(s.roleHigh && s.pair.fenceOut)

/-- SEAM_CLK_ALIVE: powered, out of P- and S-level reset, SEAM PLL locked. -/
def State.clkAlive (s : State) : Bool :=
  let r := s.rst.episode.any fun e => decide (3 ≤ levelCode e.widest)
  decide (s.mode ≠ .off) && !r && bit (s.num Obj.clockSources) 5

/-- The sidebands as the object reports them. -/
def State.sidebandsNow (s : State) : State :=
  s.setNum Obj.sidebands (ofBits [s.pairEnabled && s.pair.partnerPresent, s.pairEnabled && s.pair.fenceIn, s.fenceEffective, s.pair.fenceOut, s.clkAlive])

/-- FENCE_IN becomes effective (R276): links A and B and the CAN channels stop, and the seam-fence source asserts. -/
def State.fenceActs (s : State) : State :=
  if s.fenceEffective then
    if s.io.fenced then s
    else ({ s.canAbandon with io := { s.io with fenced := true } }.assertSource .fence .s).sidebandsNow
  else { s with io := { s.io with fenced := false } }

/-- FENCE_OUT asserted or negated. -/
def State.setFence (s : State) (on : Bool) : State :=
  if s.pair.fenceOut = on then s
  else
    let s1 := (s.setPair { s.pair with fenceOut := on }).send .fence 0 0 [byte (b2n on)]
    let s2 := if on then s1.count Obj.fenceAssertions else s1
    s2.fenceActs.sidebandsNow

/-- The partner is visible at a decision in tick `d` (R272). -/
def State.visibleAt (s : State) (d : Nat) : Bool :=
  s.pairEnabled && s.pair.partnerPresent && decide (s.pair.presenceSeen ≠ 0) && decide (d ≤ s.pair.presenceTick + 1)

/-- FENCE_IN is asserted (R276). -/
def execFenceIn (s : State) : Host.Outcome State Fault Refusal :=
  .next ((s.setPair { s.pair with fenceIn := true }).fenceActs.sidebandsNow)

/-- FENCE_IN is negated: links A and B may send again. -/
def execFenceInRelease (s : State) : Host.Outcome State Fault Refusal :=
  .next ((s.setPair { s.pair with fenceIn := false }).fenceActs.sidebandsNow)

/-- The state of a link that is not up. -/
def State.seamRest (s : State) : Nat := if s.pairEnabled && s.pair.partnerPresent then seamTraining else seamDown

/-- PARTNER_PRESENT changes (R272); a link that is not up trains while there is a partner. -/
def execPartnerPresentChange (asserted : Bool) (s : State) : Host.Outcome State Fault Refusal :=
  let s1 := s.setPair { s.pair with partnerPresent := asserted }
  let idle := decide (s.num Obj.seamState = seamDown) || decide (s.num Obj.seamState = seamTraining)
  .next ((if idle && s.mode.answers then s1.setNum Obj.seamState s1.seamRest else s1).sidebandsNow)

/-! ### HELLO (R254) -/

/-- The digest that a HELLO gives of a bank: of the loaded image or a VALID one; all zero for any other content (R164). -/
def State.bankCopy (s : State) (k : Nat) : Bytes :=
  match s.warp.loaded with
  | some l => if l.bank = k then fit 32 l.digest else if s.bankValid k then fit 32 (s.obj (digestObj k)) else zeros 32
  | none => if s.bankValid k then fit 32 (s.obj (digestObj k)) else zeros 32

/-- HELLO payload of this module. -/
def State.helloBytes (s : State) : Bytes :=
  s.ownSerial ++ leBytes 2 (s.num Obj.moduleNode) ++ leBytes 2 (s.started Obj.stationNode) ++ s.startedObj Obj.stationIPv4 ++ beBytes 4 s.ownIp ++
    s.moduleMacBytes ++ leBytes 4 (s.started Obj.tickOffset) ++ [byte (b2n s.roleHigh)] ++ leBytes 4 (s.num (Obj.silenceTimeout 0)) ++
    leBytes 4 (s.num (Obj.silenceTimeout 1)) ++ leBytes 4 (match s.firmware.running with | some (_, v, _) => v | none => 0) ++
    leBytes 2 (s.num Obj.seamProtocolVersion) ++ [byte (b2n (decide (s.started Obj.seamEncrypt ≠ 0))), byte s.mode.code,
      byte (s.num Obj.activeWarpBank)] ++ s.bankCopy 0 ++ s.bankCopy 1

/-- A module that runs and whose bank objects have changed, or that enters RUN or STANDBY, tells its partner with a new HELLO (R164 step 8; log
entry 22). -/
def State.refreshHello (s : State) : State :=
  if s.pairEnabled && s.paired && s.seamServes && s.mode.running then s.sendSeam seamTypeHello s.helloBytes else s

end Sys2Proof.Machine
end

