-- ==== Sys2Proof/Machine/Verify.lean ====
section
/-! DEFINITION. Verification of a warp image (R161, R162): the nineteen steps of Table 5-16 with the rules that the sections' chapters give
(R153, R155, R177, R184, R195, R196, R212, R231, R233, R318 to R320, R448, R452, R457 to R459, R531). -/

namespace Sys2Proof.Machine

/-! ### Header and directory (steps 1, 2 and 6) -/

/-- A text field: U8 length, then UTF-8 without U+0000, zero-padded to `size` bytes in all. -/
def textOk (b : Bytes) (size maxLen : Nat) : Bool :=
  let n := u8At b 0
  let t := slice b 1 n
  decide (n ≤ maxLen) && utf8Ok t && t.all (· != 0) && (slice b (1 + n) (size - (1 + n))).all (· == 0)

def zeroAt (b : Bytes) (off n : Nat) : Bool := (slice b off n).all (· == 0)

/-- Header offset of the first bad field (step 2). -/
def headerFault (h : Bytes) : Option Nat :=
  [(0, decide (u32At h 0 = 0x50524157)), (4, decide (u16At h 4 = 1)), (6, decide (u16At h 6 = 192)), (14, decide (u16At h 14 = 4000)),
    (18, zeroAt h 18 2), (52, zeroAt h 52 4), (88, textOk (slice h 88 64) 64 63), (152, zeroAt h 152 40)].findSome? fun e =>
      if e.2 then none else some e.1

/-- Mandatory section types (Table 5-3), in ascending order. -/
def mandatoryTypes : List Nat := [0x01, 0x06, 0x07, 0x08, 0x09, 0x0A, 0x0B, 0x0D, 0x0E]

/-- A directory entry by itself, with what stands before it: the end of the previous section and the types met (R135, R138, R139). -/
def entryOk (img : Bytes) (x : Section) (len prevEnd : Nat) (seen : List (Nat × Nat)) : Bool :=
  decide (1 ≤ x.type) && decide (x.type ≤ 0x0E) && decide (x.version = 1) &&
    (if x.type = 0x0C then decide (1 ≤ x.inst) && decide (x.inst ≤ 3) else decide (x.inst = 0)) &&
    !seen.contains (x.type, x.inst) && decide (x.offset = roundUp 8 prevEnd) && decide (x.offset + len ≤ img.length) &&
    zeroAt img prevEnd (x.offset - prevEnd)

/-- First bad entry of the directory. -/
def directoryWalk (img : Bytes) : Nat → Nat → Nat → List (Nat × Nat) → Option Nat
  | 0, k, prevEnd, _ => if prevEnd = img.length then none else some (k - 1)
  | n + 1, k, prevEnd, seen =>
    let x := sectionAt img k
    let len := u32At img (256 + 16 * k + 8)
    if entryOk img x len prevEnd seen then directoryWalk img n (k + 1) (x.offset + len) ((x.type, x.inst) :: seen) else some k

def directoryFault (img : Bytes) : Option Nat :=
  let n := hdrSectionCount img
  if n < 8 || 64 < n || img.length < 256 + 16 * n then some 0
  else match directoryWalk img n 0 (256 + 16 * n) [] with
    | some k => some k
    | none =>
      let types := (sectionsOf img).map (·.type)
      (mandatoryTypes.find? fun t => !types.contains t).map fun t => 0xFF000000 + t

/-! ### Section rules (step 8) -/

/-- RECORD_COUNT and RECORD_SIZE of records of fixed size that fill the section (R140). -/
def fixedRecords (b : Bytes) (size : Nat) : Bool :=
  decide (8 ≤ b.length) && decide (u32At b 4 = size) && decide (b.length = 8 + size * recCount b)

/-- A section of records that vary in length. -/
def variableRecords (b : Bytes) : Bool := decide (8 ≤ b.length) && decide (u32At b 4 = 0) && decide (recCount b ≤ b.length)

def disjoint (rs : List (Nat × Nat)) : Bool :=
  let ss := sortBy (fun a b => decide (a.1 ≤ b.1)) rs
  (ss.zip (ss.drop 1)).all fun p => decide (p.1.1 + p.1.2 ≤ p.2.1)

/-- STATE_MAP (R147, R452). -/
def stateMapOk (b : Bytes) (areas : List StateArea) : Bool :=
  fixedRecords b 12 && (areas.all fun a =>
    decide (1 ≤ a.kind) && decide (a.kind ≤ 6) && decide (a.reserved = 0) && decide (a.offset + a.length ≤ configBase - stateBase)) &&
    disjoint (areas.map fun a => (a.offset, a.length))

/-- `n` bytes from a state-area offset lie inside one area of a kind. -/
def inArea (areas : List StateArea) (kind off n : Nat) : Bool :=
  areas.any fun a => decide (a.kind = kind) && decide (a.offset ≤ off) && decide (off + n ≤ a.offset + a.length)

/-- Local channel numbers (Table 5-20). -/
def localChannelOk (r : Nat) : Bool :=
  [(0x001, 0x030), (0x101, 0x118), (0x201, 0x204), (0x301, 0x308), (0x401, 0x408), (0x501, 0x510), (0x601, 0x608), (0x700, 0x707)].any
    fun x => decide (x.1 ≤ r) && decide (r ≤ x.2)

/-- POINT_MAP (R141, R531); `rx` and `can` are the received layouts and the number of CAN entries. -/
def pointOk (rx : List PdLayout) (can : Nat) (p : PointDef) : Bool :=
  decide (p.point < 262144) && decide (1 ≤ p.type) && decide (p.type ≤ 11) && decide (p.cls ≤ 4) && decide (1 ≤ p.attributes % 8) &&
    decide (p.attributes % 8 ≤ 3) && decide (p.attributes < 32) && decide (p.offset % 32 = 0) &&
    (if p.source = 1 then localChannelOk p.ref
     else if p.source = 2 then rx.any fun l => decide (l.id = p.ref / 65536) && decide (((l.fields[p.ref % 65536]?).map (·.point)) = some p.point)
     else if p.source = 3 then decide (p.ref < can)
     else decide (p.source = 0 || p.source = 4) && decide (p.ref = 0))

def ascending : List Nat → Bool
  | a :: b :: r => decide (a < b) && ascending (b :: r)
  | _ => true

def pointsOk (b : Bytes) (ps : List PointDef) (rx : List PdLayout) (can : Nat) : Bool :=
  fixedRecords b 16 && ascending (ps.map (·.point)) && ps.all (pointOk rx can)

/-- NETWORK (Table 5-5, R142); `ports` are the ClpPort in force and the one stored. -/
def networkOk (b : Bytes) (ports : List Nat) : Bool :=
  let r := b.drop 8
  let n := u8At r 4
  fixedRecords b 48 && decide (recCount b = 1) && decide (1024 ≤ u16At r 0) && !([319, 320] ++ ports).contains (u16At r 0) &&
    decide (1 ≤ u8At r 2) && decide (u8At r 2 ≤ 3) && decide (u8At r 3 < 2) && decide (n ≤ 10) && zeroAt r 5 3 &&
    ((List.range n).all fun k => decide (224 ≤ u8At r (8 + 4 * k)) && decide (u8At r (8 + 4 * k) ≤ 239)) && zeroAt r (8 + 4 * n) (40 - 4 * n)

/-- A field's encoding and class are its point's, and it lies inside the value area (R155). -/
def pdFieldOk (ps : List PointDef) (cls bytes : Nat) (f : PdField) : Bool :=
  (match ps.find? fun p => decide (p.point = f.point) with
    | some p => decide (p.type = f.encoding) && decide (p.cls = cls)
    | none => false) &&
    (if f.encoding = 1 then decide (f.bitPos < 8) else decide (f.bitPos = 0)) && decide ((fieldSpan f).1 + (fieldSpan f).2 ≤ 8 * bytes)

def pdFieldsOk (ps : List PointDef) (cls bytes : Nat) (fs : List PdField) : Bool :=
  fs.all (pdFieldOk ps cls bytes) && disjoint (fs.map fieldSpan)


/-- A PD layout (R154, R155); a class of Q is step 12's. -/
def layoutOk (ss : List Section) (ps : List PointDef) (l : PdLayout) : Bool :=
  let fc := l.fields.length
  let q := if bit l.flags 0 then 2 * fc else 0
  let cap := (if netJumbo ss then 8948 else 1428) - (if l.auth = 0 then 0 else 16)
  decide (1 ≤ l.id) && decide (l.id ≤ 0xFFFE) && decide (l.direction ≤ 1) && decide (l.cls ≤ 4) && decide (l.reserved = 0) && decide (l.auth ≤ 2) &&
    (if l.auth = 0 then decide (l.keyId = 0) else decide (l.keyId < 16)) && decide (l.flags < 2) && decide (1 ≤ fc) && decide (fc ≤ 2048) &&
    decide (l.bodyLength ≤ cap) && decide (q ≤ l.bodyLength) &&
    (if l.direction = 0 then decide (1 ≤ l.tolerance) && decide (l.tolerance ≤ 254) && decide (l.txOffset = 0)
     else decide (l.tolerance = 0) && decide (l.txOffset < 250000) && (!isMulticast l.peerIp || (netGroups ss).contains l.peerIp)) &&
    pdFieldsOk ps l.cls (l.bodyLength - q) l.fields

def pdOk (ss : List Section) (ps : List PointDef) (b : Bytes) : Bool :=
  let ls := pdLayouts ss
  variableRecords b && decide ((pdLayoutsFrom b (recCount b) 8).2 = b.length) && decide ((ls.map fun l => (l.id, l.direction)).Nodup) &&
    ls.all (layoutOk ss ps)

/-- CAN_MAPS (R318, R319); a class of Q is step 12's. -/
def canEntryOk (ps : List PointDef) (chans : List (Nat × Nat × Nat)) (e : CanEntry) : Bool :=
  let fd := bit e.ident 30
  let brs := bit e.ident 31
  let (nominal, data, _) := (chans[e.channel - 1]?).getD (0, 0, 0)
  decide (1 ≤ e.channel) && decide (e.channel ≤ 8) && decide (e.transmit ≤ 1) && decide (e.buffer < (if e.transmit = 1 then 32 else 64)) &&
    decide (e.dlc < 16) && (fd || decide (e.dlc ≤ 8)) && (bit e.ident 29 || decide (e.ident % 2 ^ 29 < 2048)) &&
    decide (e.mask < 2 ^ 29) && (decide (e.transmit = 0) || decide (e.mask = 0)) && decide (e.cls ≤ 4) &&
    (if e.transmit = 1 then decide (e.tolerance = 0) else decide (1 ≤ e.tolerance) && decide (e.tolerance ≤ 254)) && decide (e.flags < 2) &&
    decide (e.reserved = 0) && decide (e.fields.length ≤ 512) && pdFieldsOk ps e.cls (dlcLength e.dlc) e.fields &&
    decide (nominal ≠ 0) && (!brs || (fd && decide (data ≠ 0))) &&
    (!e.reference || (e.fields.isEmpty && (decide (e.transmit = 0) || decide (e.cls = 2)) && (fd || decide (e.dlc ≠ 0)) &&
      (decide (e.transmit = 0) || !fd || decide (e.dlc = 13))))

/-- The channel table agrees with the entries (Table 11-3). -/
def canChannelOk (es : List CanEntry) (k : Nat) (r : Nat × Nat × Nat) : Bool :=
  let mine := es.filter fun e => decide (e.channel = k + 1)
  (!mine.isEmpty || decide (r.1 = 0)) && ((mine.any fun e => bit e.ident 31) || decide (r.2.1 = 0)) &&
    decide (r.2.2 = b2n (mine.any fun e => bit e.ident 30))

def canMapsOk (ss : List Section) (ps : List PointDef) (b : Bytes) : Bool :=
  let es := canEntries ss
  let (_, o) := canEntriesFrom b (recCount b) 0 8
  let chans := canChannelRecords ss
  variableRecords b && decide (b.length = o + 128) && ((List.range 8).all fun k => zeroAt b (o + 16 * k + 9) 7) && es.all (canEntryOk ps chans) &&
    (chans.zipIdx.all fun r => canChannelOk es r.2 r.1)

def finite32 (v : Nat) : Bool := fFinite f32 v
def notNegative32 (v : Nat) : Bool := !fIsNan f32 v && fLe f32 0 v
def positive32 (v : Nat) : Bool := fLt f32 0 v

def ordered32 : List Nat → Bool
  | a :: b :: r => fLe f32 a b && ordered32 (b :: r)
  | _ => true

/-- A limit set (Table 7-8, R212). -/
def limitSetOk (r : Bytes) : Bool :=
  let armed := u8At r 20
  let ls := ((List.range 4).filter fun k => bit armed k).map fun k => u32At r (4 * k)
  ls.all finite32 && ordered32 ls && finite32 (u32At r 16) && notNegative32 (u32At r 16) && decide (armed < 16) && zeroAt r 21 3

/-- A point configuration record beside its point (R212). -/
def alarmRecordOk (ss : List Section) (ps : List PointDef) (areas : List StateArea) (b : Bytes) (p : PointDef) (r : Bytes) : Bool :=
  let flags := u32At r 0
  let sets := flags / 2 ^ 29
  let group := u16At r 6
  let dev := u32At r 8
  decide (flags % 2 ^ 18 = p.point) && decide (field flags 23 18 = 0) && decide (field flags 26 25 ≠ 3) && decide (sets ≤ 4) &&
    (decide (sets = 0) || decide (u32At r 12 + sets ≤ (limitSets b).length)) &&
    (decide (group = 0xFFFF) || decide (group < (groupRecords b).length)) &&
    (decide (u16At r 4 = 0xFFFF) || decide (u16At r 4 < staleEntries ss)) &&
    (decide (dev = 0xFFFFFFFF) || (decide (dev ≠ p.point) && ps.any fun x => decide (x.point = dev) && decide (x.cls = p.cls))) &&
    decide (u8At r 30 ≠ 255) && decide (u8At r 31 ≠ 255) && positive32 (u32At r 16) && positive32 (u32At r 20) && finite32 (u32At r 24) &&
    notNegative32 (u32At r 24) && decide (u16At r 28 < 2 ^ 14) &&
    (!bit flags 28 || (decide (p.cls = 0) && decide (p.source = 1) && decide (1 ≤ p.ref) && decide (p.ref ≤ 0x30))) &&
    inArea areas 1 p.offset 32 && inArea areas 1 (timeArea ss + p.offset / 4) 8 && inArea areas 3 (alarmStateArea ss + p.offset / 2) 16

def groupOk (k : Nat) (r : Bytes) : Bool :=
  decide (u16At r 0 = k) && decide (u16At r 2 = 0) && decide (groupMaxShelve r ≤ 86400) && textOk (slice r 8 40) 40 39

/-- ALARMS (R211, R212). -/
def alarmsOk (ss : List Section) (ps : List PointDef) (areas : List StateArea) (b : Bytes) : Bool :=
  let rs := records b 32
  let o := 24 + 32 * recCount b
  let nl := u32At b o
  let ng := u32At b (o + 4 + 24 * nl)
  let gs := groupRecords b
  decide (8 ≤ b.length) && decide (u32At b 4 = 32) && decide (recCount b = ps.length) && decide (b.length = o + 8 + 24 * nl + 48 * ng) &&
    decide (ng ≤ 4096) && decide (staleEntries ss = 3 + (rxLayouts ss).length + (rxEntries ss).length) &&
    (ps.zip rs).all (fun x => alarmRecordOk ss ps areas b x.1 x.2) && (limitSets b).all limitSetOk &&
    (gs.zipIdx.all fun x => groupOk x.2 x.1) && (gs.isEmpty || inArea areas 3 (groupArea ss) (32 * gs.length))

/-- A loop configuration record (R231). -/
def loopRecordOk (ps : List PointDef) (alarms : List Bytes) (gains : List Bytes) (areas : List StateArea) (k : Nat) (r : Bytes) : Bool :=
  let cls := u8At r 2
  let named := fun n => ps.any fun p => decide (p.point = n) && decide (p.cls = cls)
  let lo := u32At r 24
  let hi := u32At r 28
  let sub := match (ps.zip alarms).find? fun x => decide (x.1.point = u32At r 12) with
    | some x => field (u32At x.2 0) 26 25
    | none => 0
  let window := u16At r 44
  decide (u16At r 0 = k) && decide (cls ≤ 4) && decide (u8At r 3 ≤ 15) && decide (u8At r 4 < 16) && zeroAt r 46 2 && zeroAt r 60 4 &&
    named (u32At r 8) && named (u32At r 12) && named (u32At r 20) && (decide (u32At r 16 = 0xFFFFFFFF) || named (u32At r 16)) &&
    finite32 lo && finite32 hi && fLe f32 lo hi && positive32 (u32At r 32) && positive32 (u32At r 40) && fLe f32 lo (u32At r 36) &&
    fLe f32 (u32At r 36) hi && positive32 (u32At r 52) && fLe f32 (u32At r 52) 0x3F800000 && decide (u8At r 5 ≠ 0) &&
    (decide (window = 0) || (notNegative32 (u32At r 48) && decide (sub = 0))) &&
    (match gains[u16At r 6]? with
      | some g => decide (u8At g 2 = cls)
      | none => false) &&
    decide (u32At r 56 % 32 = 0) && inArea areas 2 (u32At r 56) 96

/-- A gain table record (R233). -/
def gainRecordOk (ps : List PointDef) (k : Nat) (r : Bytes) : Bool :=
  let xs := (List.range 33).map fun i => u32At r (32 + 4 * i)
  let rows := (List.range 132).map fun i => u32At r (176 + 4 * i)
  let lo := u32At r 8
  let hi := u32At r 12
  let h := u32At r 16
  decide (u16At r 0 = k) && decide (u8At r 2 ≤ 4) && zeroAt r 3 1 && zeroAt r 20 12 && zeroAt r 164 12 && xs.all finite32 &&
    ((xs.zip (xs.drop 1)).all fun p => fLt f32 p.1 p.2) && rows.all finite32 && (ps.any fun p => decide (p.point = u32At r 4)) &&
    finite32 lo && finite32 hi && fLe f32 lo hi && notNegative32 h &&
    fLe f64 (fMul f64 (fOfInt f64 2) (fConvert f32 f64 h)) (fSub f64 (fConvert f32 f64 hi) (fConvert f32 f64 lo))

/-- The bounds of a run (R145): the form of its entry, and no index at or above 4,000. -/
def runOk (r : Run) : Bool := decide (1 ≤ r.count) && decide (1 ≤ r.stride) && decide (r.first + (r.count - 1) * r.stride < hyperTicks)

def runTableOk (b : Bytes) (off size : Nat) (rest : Bytes → Bool) : Bool :=
  let n := u32At b off
  decide (1 ≤ n) && decide (n ≤ 16000) && decide (b.length = off + 4 + size * n) && ((runTable b off size).all fun r => runOk r && rest r.rest)

/-- A program (R177, R183, R187): END once and last, every word well-formed, every DMAI a lane list. -/
def programOk (lists : List DmaList) (ws : List Nat) : Bool :=
  decide (ws.length ≤ 65536) && ws.all slotWordOk && decide ((ws.getLast?.map fun w => (slotFields w).op) = some 1) &&
    ((ws.take (ws.length - 1)).all fun w => decide ((slotFields w).op ≠ 1)) &&
    (ws.all fun w => let x := slotFields w
      decide (x.op ≠ 7) || (match lists[x.count]? with | some l => decide (l.trigger = 0) | none => false))

/-- Classes whose cycle ends with a tick index: a mask by class number. -/
def endingClasses (i : Nat) : List Nat := (List.range 5).filter fun c => decide ((i + 1) % lenOfCode c = 0)

/-- R184: exactly one COMMIT for every class whose cycle ends with the tick, and no other. An index that no run covers has no programs
to judge: step 10 names it (DEDUCED, log entry 64). -/
def commitsOk (progs : Bytes) (i : Nat) : Bool :=
  (runAt (programRuns progs) i).isNone ||
  (let cs := (tickPrograms progs i).flatten.filterMap fun w => let x := slotFields w; if x.op = 4 then some x.imm else none
   sortBy (fun a b => decide (a ≤ b)) cs == endingClasses i)

/-- SLOT_PROGRAMS (R144, R177, R184). -/
def programsOk (b : Bytes) (lists : List DmaList) : Bool :=
  let n := recCount b
  let table := programTable b
  let e := programEnd b
  variableRecords b && decide (e ≤ b.length) && decide (8 + 8 * n ≤ b.length) &&
    (table.all fun p => decide (p.1 % 8 = 0) && decide (p.2 % 8 = 0) && decide (8 + 8 * n ≤ p.1)) &&
    ((List.range n).all fun k => programOk lists (programWords b k)) &&
    ((List.range (e - (8 + 8 * n))).all fun i => let a := 8 + 8 * n + i
      decide (u8At b a = 0) || table.any fun p => decide (p.1 ≤ a) && decide (a < p.1 + p.2)) &&
    runTableOk b e 24 (fun r => decide (u16At r 0 = 0) && ((List.range 4).all fun l => decide (u32At r (2 + 4 * l) < n))) &&
    ((List.range hyperTicks).all fun i => commitsOk b i)

/-- CLOCK_SCHEDULE (R146). -/
def clockOk (b : Bytes) : Bool :=
  let n := recCount b
  decide (8 ≤ b.length) && decide (u32At b 4 = 4) && decide (1 ≤ n) && decide (n ≤ 16) &&
    ((operatingPoints b).all fun p => decide (150 ≤ p.1) && decide (p.1 ≤ 600) && decide (p.1 % 25 = 0) && decide (600 ≤ p.2) &&
      decide (p.2 ≤ 750) && decide (p.2 % 5 = 0)) &&
    runTableOk b (8 + 4 * n) 12 fun r => decide (u8At r 0 < n) && decide (u8At r 1 = 0)

/-- LOOM_PLAN (R150, Table 5-8). -/
def loomEntryOk (e : LoomEntry) : Bool :=
  decide (e.first < 185600) && decide (1 ≤ e.count) && decide (e.fromPort < 16) && decide (e.toPort < 16) && decide (e.fromPort ≠ e.toPort) &&
    decide (e.kind ≤ 3) && decide (e.reserved = 0)

def loomOk (b : Bytes) : Bool :=
  let (ps, e) := loomPlansFrom b (recCount b) 8
  variableRecords b && (ps.all fun p => p.all loomEntryOk) &&
    runTableOk b e 12 fun r => decide (u16At r 0 = 0) && decide (u32At r 2 < ps.length)

/-- A descriptor and a list (R457, R458). -/
def descOk (d : Descriptor) : Bool :=
  decide (d.src % 4 = 0) && decide (d.dst % 4 = 0) && (decide (dmaSpace d.dst ≠ 0) || decide (d.dst % 32 = 0)) && decide (4 ≤ d.length) &&
    decide (d.length ≤ 16777216) && decide (d.length % 4 = 0) && decide (d.flags < 4)

def dmaListOk (body : Bytes) (k : Nat) (l : DmaList) : Bool :=
  decide (l.list = k) && decide (l.engine ≤ 3) && decide (l.channel ≤ 6) && decide (l.trigger ≤ 3) && decide (l.reserved = 0) &&
    decide (1 ≤ l.descs.length) && decide (l.descs.length ≤ 1024) && l.descs.all descOk &&
    (if l.trigger = 0 then decide (l.first = 0) && decide (l.count = 0) && decide (l.stride = 0) else runOk l.run) &&
    decide ((queueOf body l.engine l.channel).1 ≠ 0xFFFFFFFF)

def dmaListsOk (b : Bytes) (areas : List StateArea) : Bool :=
  let (ls, o) := dmaListsFrom b (recCount b) 8
  variableRecords b && decide (b.length = o + 224) && (ls.zipIdx.all fun x => dmaListOk b x.2 x.1) &&
    ((List.range 28).all fun k => let r := slice b (o + 8 * k) 8
      zeroAt r 6 2 && [16, 32, 64, 128, 256, 512, 1024].contains (u16At r 4) &&
        (decide (u32At r 0 = 0xFFFFFFFF) || inArea areas 5 (u32At r 0) (32 * (u16At r 4 + 1))))

/-- INITIAL_STATE (R148). -/
def initialEnd (b : Bytes) : Nat → Nat → Nat
  | 0, off => off
  | n + 1, off => initialEnd b n (off + 8 + roundUp 8 (u32At b (off + 4)))

def initialPads (b : Bytes) : Nat → Nat → Bool
  | 0, _ => true
  | n + 1, off =>
    let len := u32At b (off + 4)
    zeroAt b (off + 8 + len) (roundUp 8 len - len) && initialPads b n (off + 8 + roundUp 8 len)

def initialOk (b : Bytes) (areas : List StateArea) : Bool :=
  let n := recCount b
  variableRecords b && decide (initialEnd b n 8 = b.length) && initialPads b n 8 &&
    ((initialBlocks b n 8).all fun x => areas.any fun a => decide (a.offset ≤ x.1) && decide (x.1 + x.2.length ≤ a.offset + a.length))

/-- BUDGET_PROOF's form (R152); its content is judged at steps 18 and 19. -/
def proofFormOk (b : Bytes) : Bool :=
  decide (b.length = 128040) && decide (recCount b = 4000) && decide (u32At b 4 = 32) &&
    ((List.range hyperTicks).all fun i => zeroAt b (40 + 32 * i + 29) 3)

/-- Whether the section of a directory entry keeps its own rules (step 8). -/
def sectionOk (ss : List Section) (ports : List Nat) (x : Section) : Bool :=
  let ps := pointDefs ss
  let areas := stateAreas ss
  let alarms := records (sectBody ss 6) 32
  let gains := records (sectBody ss 5) 704
  let b := x.body
  match x.type with
  | 0x01 => pointsOk b ps (rxLayouts ss) (canEntries ss).length
  | 0x02 => pdOk ss ps b
  | 0x03 => canMapsOk ss ps b
  | 0x04 => fixedRecords b 64 && ((records b 64).zipIdx.all fun r => loopRecordOk ps alarms gains areas r.2 r.1)
  | 0x05 => fixedRecords b 704 && (gains.zipIdx.all fun r => gainRecordOk ps r.2 r.1)
  | 0x06 => alarmsOk ss ps areas b
  | 0x07 => dmaListsOk b areas
  | 0x08 => loomOk b
  | 0x09 => clockOk b
  | 0x0A => programsOk b (dmaLists (sectBody ss 7))
  | 0x0B => initialOk b areas
  | 0x0C => proofFormOk b
  | 0x0D => networkOk b ports
  | _ => stateMapOk b areas

/-! ### Steps 9 to 17 -/

/-- Digest of the state layout (R139). -/
def layoutDigestOf (ss : List Section) : Bytes := sha256 (sectBody ss 1 ++ sectBody ss 2 ++ sectBody ss 3 ++ sectBody ss 0x0E)

/-- Lowest tick index that a run table covers not exactly once (R145). -/
def coverageFault (rs : List Run) : Option Nat :=
  (List.range hyperTicks).find? fun i => decide ((rs.filter (·.covers i)).length ≠ 1)

/-- Directory entry number of a section type. -/
def entryOf (ss : List Section) (type : Nat) : Nat := ss.findIdx fun x => decide (x.type = type)

def perSecond (cls : Nat) : Nat := if cls = 1 then 1000 else if cls = 2 then 100 else if cls = 3 then 10 else 1

/-- Frame time of an entry in units of 1 / (nominal × data) of a second: its nominal bits and its data bits (R320). -/
def canBits (e : CanEntry) : Nat × Nat :=
  let n := dlcLength e.dlc
  let ide := b2n (bit e.ident 29)
  if bit e.ident 30 then (45 + 25 * ide, ceilDiv ((8 * n + (if n ≤ 16 then 32 else 37)) * 5) 4)
  else let s := 34 + 20 * ide + 8 * n
    (s + (s - 1) / 4 + 13, 0)

/-- The bus-load bound of a channel exceeds 0.80 (R320). -/
def canOverload (es : List CanEntry) (k : Nat) (r : Nat × Nat × Nat) : Bool :=
  let (nominal, data, _) := r
  let d := max data 1
  let load := (es.filter fun e => decide (e.channel = k + 1)).foldl (fun t e =>
    let (a, b) := canBits e
    t + perSecond e.cls * (if bit e.ident 31 then a * d + b * nominal else (a + b) * d)) 0
  decide (4 * nominal * d < 5 * load)

def canCapacityOk (ss : List Section) : Bool :=
  let es := canEntries ss
  decide ((es.map fun e => (e.channel, e.transmit, e.buffer)).Nodup) &&
    ((List.range 8).all fun k => decide ((es.filter fun e => e.reference && decide (e.transmit = 1) && decide (e.channel = k + 1)).length ≤ 1)) &&
    ((canChannelRecords ss).zipIdx.all fun r => !canOverload es r.2 r.1)

/-- Lowest entry number at which header counts or a capacity fail (step 11). -/
def capacityFault (h : Bytes) (ss : List Section) : Option Nat :=
  let loops := records (sectBody ss 4) 64
  let q := (loops.filter fun r => decide (u8At r 2 = 0)).length
  let nodes := ((pdLayouts ss).map (·.peerNode)).eraseDups.length
  let pages := pagesNeeded (configOf ss).2
  let faults : List (Nat × Bool) := [
    (0x01, decide (hdrPointCount h = recCount (sectBody ss 1)) && decide (hdrPointCount h ≤ 262144)),
    (0x02, decide (u16At h 50 = nodes) && decide (nodes ≤ 1024)),
    (0x03, canCapacityOk ss),
    (0x04, decide (hdrLoopCount h = recCount (sectBody ss 4)) && decide (hdrLoopCount h ≤ 4096) && decide (u16At h 46 = q) && decide (q ≤ 1024) &&
      (List.range 16).all fun u => decide ((loops.filter fun r => decide (u8At r 3 = u)).length ≤ 256)),
    (0x05, decide (u16At h 48 = recCount (sectBody ss 5)) && decide (u16At h 48 ≤ 4096)),
    (0x06, decide (pages ≤ 176))]
  let bad := (faults.filter fun f => !f.2).map fun f => let e := entryOf ss f.1; if e < ss.length then e else 0
  bad.foldl (fun m e => match m with | none => some e | some x => some (min x e)) none

/-- Two staging lists of one tick write one place of an output image: its outputs would belong to cycles of two classes, which end together there (R108).
The image names no class of a local output channel otherwise (DEDUCED, log entry 44). -/
def stagedTwice (ss : List Section) : Bool :=
  let ls := ((dmaLists (sectBody ss 7)).filter fun l => decide (l.trigger = 2)).zipIdx
  ls.any fun l => ls.any fun m => decide (l.2 < m.2) && sharesImage l.1 m.1 && (List.range hyperTicks).any fun i => l.1.run.covers i && m.1.run.covers i

/-- R107, R108 (step 12): a layout, a frame map or a remote point of class Q, or local outputs in two classes. -/
def classFault (ss : List Section) : Option Nat :=
  let bad := [(0x01, (pointDefs ss).any fun p => decide (p.cls = 0) && (decide (p.source = 2) || decide (p.source = 3))),
    (0x02, (pdLayouts ss).any fun l => decide (l.cls = 0)), (0x03, (canEntries ss).any fun e => decide (e.cls = 0)), (0x07, stagedTwice ss)]
  let es := (bad.filter (·.2)).map fun f => entryOf ss f.1
  es.foldl (fun m e => match m with | none => some e | some x => some (min x e)) none

/-- Planned load of a direction in bit/s (R156). -/
def plannedLoad (ss : List Section) (direction : Nat) : Nat :=
  ((pdLayouts ss).filter fun l => decide (l.direction = direction)).foldl (fun t l =>
    t + perSecond l.cls * (8 * (44 + l.bodyLength + (if l.auth = 0 then 0 else 16) + 82 + 4))) 0

/-- Line rate of SLOWEST_RATE in bit/s. -/
def lineRate (code : Nat) : Nat := if code = 1 then 100000000 else if code = 2 then 1000000000 else 2500000000

/-- Step 13 (R156): direction and planned load in Mbit/s, rounded down (DESIGN CHOICE, log entry 35). -/
def networkFault (ss : List Section) : Option Nat :=
  ([0, 1].find? fun d => decide (lineRate (netSlowest ss) * 9 < plannedLoad ss d * 10)).map fun d => d * 65536 + plannedLoad ss d / 1000000 % 65536

/-- Lowest operating point below the fused supply minimum (R146). -/
def supplyFault (minimum : Bytes) (b : Bytes) : Option Nat :=
  let ps := operatingPoints b
  (List.range ps.length).find? fun k => let p := (ps[k]?).getD (0, 0)
    decide (p.2 < u16At minimum (2 * ((p.1 - 150) / 25)))

/-- The gate mask of a tick covers what its programs and its plan use (R448). -/
def gateOk (ss : List Section) (i : Nat) : Bool :=
  let mask := gatesAt (sectBody ss 9) i
  let lists := dmaLists (sectBody ss 7)
  let plan := planAt (sectBody ss 8) i
  let port := fun p => plan.any fun e => decide (e.fromPort = p) || decide (e.toPort = p)
  let used := (tickPrograms (sectBody ss 0x0A) i).flatten.all fun w => let x := slotFields w
    if x.op = 5 then bit mask (x.unit / 2) else if x.op = 6 then bit mask 8
    else if x.op = 7 then (match lists[x.count]? with | some l => bit mask (9 + l.engine) | none => true) else true
  used && ((List.range 4).all fun e => !port (10 + e) || bit mask (9 + e)) && (!port 4 || decide (mask % 256 ≠ 0)) && (!port 5 || bit mask 8) &&
    decide (mask < 2 ^ 13)

/-- A plan keeps R151. -/
def planOk (p : List LoomEntry) : Bool :=
  (p.all fun e =>
    let (lo, hi) := if e.kind = 0 then (0, 24000) else if e.kind = 1 then (24000, 168000) else if e.kind = 2 then (168000, 185600) else (0, 185600)
    decide (lo ≤ e.first) && decide (e.first + e.count ≤ hi) && decide (e.fromPort ≠ 14) && decide (e.toPort ≠ 14)) &&
    (List.range 16).all fun port =>
      disjoint ((p.filter fun e => decide (e.fromPort = port) || decide (e.toPort = port)).map fun e => (e.first, e.count))

/-- R151 and R459 for a tick index (step 16). -/
def loomTickOk (ss : List Section) (i : Nat) : Bool :=
  let plan := planAt (sectBody ss 8) i
  planOk plan && (dmaLists (sectBody ss 7)).all fun l =>
    decide (l.trigger = 0) || !l.run.covers i || !(portSlots plan (triggerKind l.trigger) (10 + l.engine)).isEmpty

/-! ### Budget proofs (R153, R195, R196) -/

def proofOf (ss : List Section) (profile : Nat) : Bytes :=
  match ss.find? fun x => decide (x.type = 0x0C) && decide (x.inst = profile) with
  | some x => x.body
  | none => []

def provenSet (ss : List Section) : List Nat := [1, 2, 3].filter fun p => ss.any fun x => decide (x.type = 0x0C) && decide (x.inst = p)

/-- The record that R153 recomputes for a tick index (Table 5-9). -/
def proofRecord (ss : List Section) (profile i : Nat) : Bytes :=
  let counts := tickCounts ss profile i
  let c := fun k => leBytes 4 ((counts[k]?).getD 0)
  let plan := planAt (sectBody ss 8) i
  let tail := leBytes 2 (captureEnd plan) ++ leBytes 2 (stagingEnd plan) ++ [byte (if profile = 1 then settingAt (sectBody ss 9) i else 0), 0, 0, 0]
  if profile = 3 then
    let w := reexecStart counts
    c 0 ++ zeros 4 ++ c 1 ++ zeros 4 ++ leBytes 4 (w + (counts[0]?).getD 0) ++ leBytes 4 (w + (counts[1]?).getD 0) ++ tail
  else c 0 ++ c 1 ++ c 2 ++ c 3 ++ zeros 8 ++ tail

/-- Largest lane count of a record (R152). -/
def recordPeak (profile : Nat) (r : Bytes) : Nat :=
  if profile = 3 then max (u32At r 16) (u32At r 20) else max (max (u32At r 0) (u32At r 4)) (max (u32At r 8) (u32At r 12))

/-- The largest count of a proof and the lowest tick index where it occurs. -/
def proofPeak (profile : Nat) (rs : List Bytes) : Nat × Nat :=
  rs.zipIdx.foldl (fun best r => if best.1 < recordPeak profile r.1 then (recordPeak profile r.1, r.2) else best)
    (recordPeak profile ((rs.head?).getD []), 0)

/-- R153 steps 1 to 3 of a proof (step 18): the tick index at fault. -/
def proofFault (ss : List Section) (profile : Nat) : Option Nat :=
  let b := proofOf ss profile
  if u32At b 12 ≠ 0x00010000 then some 0xFFFF
  else
    let rs := (List.range hyperTicks).map fun i => slice b (40 + 32 * i) 32
    match (List.range hyperTicks).find? fun i => decide ((rs[i]?).getD [] ≠ proofRecord ss profile i) with
    | some i => some i
    | none =>
      let (peak, tick) := proofPeak profile rs
      if u8At b 8 = profile && zeroAt b 9 3 && zeroAt b 22 18 && u32At b 16 = peak && u16At b 20 = tick then none else some 0xFFFE

/-- Lines of the undo area that a CANVAS tick can write (R195). -/
def undoBound (ss : List Section) (i : Nat) : Nat :=
  let lists := dmaLists (sectBody ss 7)
  (tickPrograms (sectBody ss 0x0A) i).flatten.foldl (fun n w => let x := slotFields w
    if isStore x.op then n + 1 else if x.op = 5 then n + 4 * x.count else if x.op = 6 then n + 2 * x.count
    else if x.op = 7 then (match lists[x.count]? with
      | some l => l.descs.foldl (fun n d => n + (if dmaSpace d.dst = 0 then ceilDiv d.length 32 + 1 else 1)) n
      | none => n)
    else n) 0

/-- R153 step 4 and the CANVAS bounds for a tick (step 19). -/
def boundsOk (ss : List Section) (profile i : Nat) : Bool :=
  let r := proofRecord ss profile i
  let f := (clockAt (sectBody ss 9) profile i).1
  (if profile = 3 then decide (recordPeak 3 r ≤ 122400) else decide (recordPeak profile r ≤ 153 * f)) && decide (u16At r 24 ≤ 24000) &&
    decide (u16At r 26 ≤ 17600) && (decide (profile ≠ 3) || (decide (undoBound ss i ≤ 32768) &&
      let w := reexecStart (tickCounts ss 3 i)
      (planAt (sectBody ss 8) i).all fun e => decide (e.kind ≠ 1) || decide (e.first + e.count + w ≤ 168000)))

/-! ### The nineteen steps -/

/-- What verification depends on beside the image: the running firmware's VERSION, the warp keys and their status, the ClpPort values of
R142, and the fused supply minimum. -/
structure VerifyContext where
  firmware : Nat
  status : List Nat
  keys : List Bytes
  ports : List Nat
  supply : Bytes
  deriving DecidableEq, Repr

def State.verifyContext (s : State) : VerifyContext :=
  { firmware := match s.firmware.running with | some (_, v, _) => v | none => 0
    status := s.keys.warpStatus.toList, keys := s.keys.warp.toList, ports := [s.started Obj.clpPort, s.num Obj.clpPort]
    supply := s.obj Obj.supplyMinimum }

/-- Steps 6 to 19, on an image whose signature has verified (R162): reason and detail of the first failure. -/
def contentFault (c : VerifyContext) (img : Bytes) : Option (Nat × Nat) :=
  let h := img.take 192
  let ss := sectionsOf img
  let first := fun p => (List.range ss.length).find? fun k => match ss[k]? with | some x => !p x | none => false
  let tick := fun (p : Nat → Bool) => (List.range hyperTicks).find? fun i => !p i
  match directoryFault img with
  | some d => some (6, d)
  | none => match first fun x => decide (crc32c x.body = x.crc) with
    | some d => some (7, d)
    | none => match first (sectionOk ss c.ports) with
      | some d => some (8, d)
      | none =>
        if layoutDigestOf ss ≠ hdrLayoutDigest h then some (9, 0)
        else match [programRuns (sectBody ss 0x0A), clockRuns (sectBody ss 9), loomRuns (sectBody ss 8)].findSome? coverageFault with
          | some d => some (10, d)
          | none => match capacityFault h ss with
            | some d => some (11, d)
            | none => match classFault ss with
              | some d => some (12, d)
              | none => match networkFault ss with
                | some d => some (13, d)
                | none => match supplyFault c.supply (sectBody ss 9) with
                  | some d => some (14, d)
                  | none => match tick (gateOk ss) with
                    | some d => some (15, d)
                    | none => match tick (loomTickOk ss) with
                      | some d => some (16, d)
                      | none =>
                        let mask := (provenSet ss).foldl (fun m p => m + 2 ^ (p - 1)) 0
                        if hdrProven h = 0 || hdrProven h ≠ mask then some (17, 0)
                        else match (provenSet ss).findSome? fun p => (proofFault ss p).map fun i => p * 65536 + i with
                          | some d => some (18, d)
                          | none => ((provenSet ss).findSome? fun p => (tick (boundsOk ss p)).map fun i => p * 65536 + i).map fun d => (19, d)

/-- The verification of an image (R161): reason and detail of the first failure, or none. -/
def verifyFault (c : VerifyContext) (img : Bytes) : Option (Nat × Nat) :=
  let h := img.take 192
  if img.length < 512 || u32At h 8 ≠ img.length then some (1, 0)
  else match headerFault h with
    | some d => some (2, d)
    | none =>
      if c.firmware < u32At h 20 then some (3, 0)
      else if (c.status[hdrSigner h]?).getD 0 ≠ 1 then some (4, hdrSigner h)
      else if !ecdsaVerify ((c.keys[hdrSigner h]?).getD []) (imageDigest img) (slice img 192 64) then some (5, 0)
      else contentFault c img

/-- A bank is verified (R161): its objects, the status of its domain (R39), and WARP_REFUSED. -/
def State.verifyBank (s : State) (k : Nat) : State :=
  let img := s.bankImage k
  let status := fun (n : Nat) => s.setDomain (bankDomain k) ⟨img, n⟩
  if img = [] then s.clearBank k 0
  else match verifyFault s.verifyContext img with
    | none => (status 1).reportValid k img
    | some (reason, detail) =>
      (((((status 4).clearBank k 4).setNum (Obj.refusalReason k) reason).setNum (Obj.refusalDetail k) detail).setObj (digestObj k) (imageDigest img)).logTally
        0x0202 [k, reason, detail]

/-- The warp that a boot or a LOAD needs is absent (Table 1-7): the bank stays EMPTY, with the reason of step 1 of Table 5-16 and its tally
(DEDUCED, log entry 45). -/
def State.refuseAbsent (s : State) (k : Nat) : State :=
  if s.bankImage k = [] then (s.setNum (Obj.refusalReason k) 1).logTally 0x0202 [k, 1, 0] else s

end Sys2Proof.Machine
end

