-- ==== Sys2Proof/Machine/Tick.lean ====
section
/-! DEFINITION. The phases of the tick (Table 4-3): the edge with its cut-off and commits (R116, R125), the opening of the execution window
(R112), staging and the queue of data-path records (R220), the barrier frames and what the seam copy sends with them (R113, R263,
R264), the guard (R115) and the Canary's tick checks (R132, R133). -/

namespace Sys2Proof.Machine

/-! ### The edge -/

/-- Counts over the loaded warp as at the edge (Tables 7-14 and 8-9). -/
def State.edgeObjects (s : State) : State :=
  let ps := s.pointDefs
  let n := fun (p : PointDef → Bool) => (ps.filter p).length
  let state := fun (p : PointDef) => alarmStateOf (field (s.storeNat (alarmAt s.sections p) 2) 10 8)
  let loops := (List.range s.loopCount).map fun j => (s.loopRec j).status
  ((((s.setNum Obj.forcedPoints (n fun p => decide (s.storeNat (pointAt p + 28) 1 ≠ 0))).setNum Obj.activeAlarms
    (n fun p => decide (state p = .unack) || decide (state p = .acked))).setNum Obj.unackedAlarms
      (n fun p => decide (state p = .unack) || decide (state p = .rtnUnack))).setNum Obj.loopsInHold
        (loops.filter fun w => bit w 5).length).setNum Obj.loopsInEnvelope (loops.filter fun w => bit w 7).length

/-- The edge of tick `t` comes: time, number, and the end of the tick before it. -/
def State.openEdge (s : State) (t : Nat) : State :=
  let s1 := if s.shadowTime then s.endTick.seamRate else s.endTick
  let s2 := s1.advance (s1.edgeNs t - s1.timeNs)
  let unit := { s2.time with nextTick := none, unjudged := s.time.nextTick.isSome }
  let s3 : State := { s2 with tick := t, ticking := true, time := unit }
  -- R131: HOLDOVER clears at the first edge after lock; on a standby it is the weft's (R305)
  if State.num s3 Obj.tickSource = 0 && !s3.shadowTime then s3.setDetail 2 false else s3

/-- A reset request takes its place at the edge (R55), at the level that the state of the edge gives it (R410). -/
def State.edgeRequest (s : State) : State := s.assertRequest

/-- Ticks without a valid snapshot (R124), and the links that have gone down. -/
def State.edgeLinks (s : State) : State :=
  (List.range 3).foldl (fun s g =>
    if ((s.io.links.toList[g]?).map (·.valid)).getD false then s
    else
      let s1 := s.count (Obj.snapshotMissingA + g)
      if g < 2 then s1.setNum (Obj.linkState g) 0 else s1) s

/-- The snapshots of the edge have been taken. -/
def State.linksTaken (s : State) : State :=
  let clear := fun (l : LogicLink) => { l with valid := false }
  { s with io := { s.io with links := s.io.links.map clear } }

/-- Output images as they stand at an edge, against a tick whose staging is discarded. -/
def State.imagesNow (s : State) : List Bytes := [Group.a, Group.b].map fun g => Mem.read s.window (imageWindow g) (imageSize g)

/-- What a discarded tick had staged into the output images, and into the image that every later frame repeats, gives way to what stood there at its
edge (R133). -/
def State.undoStaging (s : State) : State :=
  let put := fun (w : Mem) (g : Group) => Mem.write w (imageWindow g) ((s.eng.images[groupIx g]?).getD [])
  let back := fun (l : LogicLink) => { l with image := l.before }
  if s.eng.discard then { s with window := put (put s.window .a) .b, io := { s.io with links := s.io.links.map back } } else s

/-- The engines at an edge, once its commits are made: nothing halted, no list of the tick before left (Table 17-7). -/
def State.edgeEngines (s : State) : State :=
  let s := s.undoStaging
  let keep := fun (l : LogicLink) => { l with before := l.image }
  { s with io := { s.io with links := s.io.links.map keep }
           eng := { s.eng with halted := [], jobs := [], lines := [], jobCount := 0, passed := Vector.replicate 4 0, chanFree := [], landing := []
                               closed := [], closedBefore := s.eng.closed, undo := [], mismatches := 0, reexecuting := false, discard := false
                               hostBurst := Vector.replicate 4 none, images := s.imagesNow } }

/-- A standby's own receptions enter no weft (R120): what waits for the cut-off of `t` is dropped. -/
def State.dropReceptions (s : State) (t : Nat) : State :=
  let rx := (s.pdFresh t).foldl (fun (m : Assoc PdRx) r => match Assoc.get? m r with
    | some x => Assoc.set m r { x with waiting := none }
    | none => m) s.pd.rx
  { s with pd := { s.pd with rx := rx } }.canTake t

/-- Every word of every STATE_MAP area has been received (R267 step 3). -/
def State.passComplete (s : State) : Bool :=
  s.stateLines.all fun l => (List.range 4).all fun w => !s.inStateMap (32 * l + 8 * w) || (Assoc.get? s.pair.lines (4 * l + w)).isSome

/-- A standby that does not execute takes what came with the wefts before the edge (R20, R265). -/
def State.carriedEdge (s : State) (t : Nat) : State := if s.mode = .standby && !s.executes then s.takeCarried t else s

/-- The weft of the boundary at which the module left RUN, with nothing in it but what was accepted in the last tick (R20; log entry 137). -/
def State.sendParting (s : State) : State :=
  let b := s.pair.parting.flatMap itemBytes
  let s1 := s.setPair { s.pair with parting := [] }
  if b.isEmpty || !s.seamServes || !s.paired then s1
  else
    let w := weftHeader s.tick s.tickFlags 7 0 0 0 0 ++ leBytes 4 0 ++ leBytes 4 (crc32c []) ++ leBytes 4 b.length ++ b
    (chunks 4084 w.length w).zipIdx.foldl (fun s (p, i) => s.sendSeam seamTypeWeft (leBytes 8 s.tick ++ leBytes 4 (4084 * i) ++ p)) s1

/-- Joining at an L-cycle boundary: the boundary b of R267 step 4, and the return to STANDBY after an image (step 1). -/
def State.joinEdge (s : State) (t : Nat) : State :=
  if t % hyperTicks ≠ 0 then s
  else if s.mode = .standby && decide (s.num Obj.syncState = 2) && s.passComplete then
    (s.setNum Obj.syncState 3).setPair { s.pair with joinAt := some t }
  else if s.mode = .ready && s.pair.fetching && decide (s.num Obj.partnerState = Mode.run.code) then
    let s1 := { s.dropHeld with mode := .standby, startTick := some t }
    (((s1.setPair { s1.pair with fetching := false, lines := [], joinAt := none }).setNum Obj.syncState 2).timeFollows.canBegin).showJoined.refreshHello
  else s

/-- What the edge of `t` does in each state once it has come: cut-off, capture and commits. -/
def State.edgeWork (s : State) (t : Nat) : State :=
  let valid := fun g => ((s.io.links.toList[g]?).map (·.valid)).getD false
  if s.mode = .run then ((s.commitEdge t).showEdge t).formWefts t valid
  else if s.mode = .standby then
    let s1 := s.dropReceptions t
    if s1.executes then s1.showEdge t else s1
  else s

/-- Content of the state area outside every area of STATE_MAP does not survive the tick (R147): each byte of it that holds something, and each that the
warp has stored to, becomes a free value. -/
def State.dropUnmapped (s : State) : State :=
  let held := (s.store.filter fun c => inStateArea c.1 && !s.keepsByte c.1).map (·.1)
  (held ++ s.eng.scratch.filter fun a => inStateArea a && !s.keepsByte a && !held.contains a).foldl (fun (s : State) a =>
    let (v, s1) := s.drawFree
    s1.storePut a [byte v.toNat]) s

/-- The tick edge (R116): the sources are frozen for every class with a cut-off, and the outputs staged in the previous tick take effect. -/
def execTickEdge (s : State) : Host.Outcome State Fault Refusal :=
  .next (if s.mode = .off || s.mode = .boot || s.mode = .layup then s
    else
      let t := s.nextEdge
      let s1 := (s.openEdge t).edgeRequest
      let s2 := if s1.shadowTime then s1 else { s1 with tickFlags := s1.timeFlags }
      let mirrored := s2.io.links[2].valid
      let s3 := s2.edgeLinks
      let s4 := if mirrored then s3.takeMirror s3.io.links[2].snapshot else s3
      let s5 := (((if s4.warp.loaded.isSome then s4.dropUnmapped else s4).carriedEdge t |>.joinEdge t).edgeWork t).edgeEngines.linksTaken.sendParting
      let s6 := if s5.warp.loaded.isSome then s5.edgeObjects else s5
      ((s6.setFlag Obj.partnerVisible (s6.visibleAt (t - 1))).ppsEdge t).sidebandsNow)

/-! ### Execution -/

/-- A seam list of the tick moves to the transmit window of a class (Table 17-2). -/
def State.seamStaged (s : State) (cls : Nat) : Bool :=
  s.lists.any fun l => decide (l.trigger = 3) && l.run.covers (tickIndex s.tick) && l.descs.any fun d =>
    decide (dmaSpace d.dst = 1) && decide (seamTxWindow cls ≤ d.dst % 2 ^ 28) && decide (d.dst % 2 ^ 28 < seamTxWindow (cls + 1))

/-- The wefts of the tick stand in the transmit window: the header as the station has written it, the body as seam lists of the tick have moved it
there or, where there are none, as it lies in the Store (Table 17-2, R260; log entry 152). -/
def State.fillTransmit (s : State) : State :=
  (cutoffClasses s.tick).foldl (fun s c =>
    let k := classCode c
    let w := s.weftOf k
    let n := if s.seamStaged k then 32 else 32 + s.storeNat (w + 24) 4
    { s with window := Mem.write s.window (seamTxWindow k) (s.storeRead w n) }) s

/-- The active sends the wefts of the tick from the transmit window, each with the items that travel with it (R20, R166, R167, R260, R265). -/
def State.sendWefts (s : State) : State :=
  if s.seamServes && s.paired then
    (cutoffClasses s.tick).foldl (fun s c =>
      let w := s.weftOf (classCode c)
      let b := Mem.read s.window (seamTxWindow (classCode c)) (32 + s.storeNat (w + 24) 4)
      let b := b ++ s.weftTail (classCode c)
      (chunks 4084 b.length b).zipIdx.foldl (fun s (p, i) => s.sendSeam seamTypeWeft (leBytes 8 s.tick ++ leBytes 4 (4084 * i) ++ p)) s) s.fillTransmit
  else s

/-- The execution window opens at 30 µs (R112): the capture has ended, the standby's weft is in place, and every lane starts the tick's
slot program. -/
def execExecutionStart (s : State) : Host.Outcome State Fault Refusal :=
  .next (if s.executes then
      let s0 := if s.mode = .run then s.closeWefts.sendWefts
        else if decide (s.pair.placed ≠ some s.tick) && s.mirrorComplete s.tick then s.takeMirrorWeft else s
      let s1 := (s0.atOffset 30000).startEngines
      { s1 with
        eng := { s1.eng with
          mismatches := 0, reexecuting := false, missedBefore := s1.loopsMissed, heldBefore := s1.loopsHeld
          gapsBefore := s1.captures.map (·.gaps) }
        tally := { s1.tally with captured := s1.tally.captured ++ s1.tally.issued, issued := [] } }
    else s)

/-! ### Staging -/

/-- Capacity of the queue of R220, and the records written from it in a tick. -/
def tallyQueueSize : Nat := 16384
def tallyQueueRate : Nat := 32

/-- The tick's data-path records enter the queue; those that find it full are lost and counted (R220). -/
def State.queueTallies (s : State) : State :=
  let ds := (s.tally.captured ++ s.tally.issued).map fun (d : TallyDraft) =>
    if d.timeNs = 0 then { d with timeNs := s.edgeNs s.tick } else d
  let room := tallyQueueSize - s.tally.queue.length
  let lost := ds.length - room
  let s1 := { s with tally := { s.tally with captured := [], issued := [], queue := s.tally.queue ++ ds.take room,
                                             dropped := s.tally.dropped + lost } }
  if lost = 0 then s1 else s1.count Obj.alarmTalliesLost lost

/-- Up to 32 records go from the queue to the log; ALARM_FLOOD follows when a queue that lost records is empty again (R220). -/
def State.drainTallies (s : State) : State :=
  let s1 := (s.tally.queue.take tallyQueueRate).foldl State.logDraft { s with tally := { s.tally with queue := s.tally.queue.drop tallyQueueRate } }
  if s1.tally.queue = [] && decide (s1.tally.dropped ≠ 0) then
    ({ s1 with tally := { s1.tally with dropped := 0 } }).logTally 0x0405 [s1.tally.dropped, 0, 0, low32 s1.tick]
  else s1

/-- The records that the tick's tests captured become part of their captures (R189, R250). -/
def State.stageCaptures (s : State) : State :=
  let stage := fun (c : Capture) => { c with records := c.records ++ c.staged, staged := [] }
  { s with captures := s.captures.map stage }

/-- A tick whose staging is discarded gives nothing (R29, R133). -/
def State.dropStaging (s : State) : State :=
  let drop := fun (c : Capture) => { c with staged := [] }
  { s with captures := s.captures.map drop, tally := { s.tally with captured := [], issued := [] } }

/-- 210 µs: the tick's deferred effects are released and its records queued (R189, R220); the staging lists move the outputs. -/
def execOutputStaging (s : State) : Host.Outcome State Fault Refusal :=
  .next (if !s.mode.answers then s
    else
      let s1 := s.atOffset 210000
      let s2 := if s1.eng.discard then s1.dropStaging else if s1.executes then s1.stageCaptures.queueTallies else s1
      s2.drainTallies)

/-! ### Barrier frames and the seam copy -/

/-- Changed-word entries of the tick before, as many as the free capacity takes (R263). -/
def State.sendEntries (s : State) (n : Nat) : State :=
  let es := (s.pair.entries.drop s.pair.entriesSent).take n
  let s1 := (chunks 113 es.length es).foldl (fun s p => s.sendSeam seamTypeState (p.flatMap StateEntry.bytes)) s
  s1.setPair { s1.pair with entriesSent := s.pair.entriesSent + es.length }

/-- Lines of the state pass (R267 step 3): tick at whose end the content stood, line, content. -/
def State.sendPass (s : State) (n : Nat) : State :=
  match s.pair.pass with
  | none => s
  | some k =>
    let ls := (s.stateLines.drop k).take n
    let item := fun l => leBytes 8 (s.tick - 1) ++ leBytes 4 l ++ Mem.read s.pair.before (32 * l) 32
    let s1 := (chunks 93 ls.length ls).foldl (fun s p => s.sendSeam seamTypeResync (p.flatMap item)) s
    let done := k + ls.length
    (s1.setPair { s1.pair with pass := if s.stateLines.length ≤ done then none else some done }).setNum Obj.syncProgress (32 * done)

/-- Bytes of the active image for a partner that joins without it (R267 step 1). -/
def State.sendImage (s : State) (n : Nat) : State :=
  match s.pair.bankPass, s.warp.loaded with
  | some k, some l =>
    let b := s.bankImage l.bank
    let part := slice b k (32 * n)
    let s1 := ((chunks 4092 part.length part).zipIdx).foldl (fun s (p, i) => s.sendSeam seamTypeBank (leBytes 4 (k + 4092 * i) ++ p)) s
    let done := k + part.length
    let s1 := if b.length ≤ done then s1.sendSeam seamTypeBank (leBytes 4 b.length) else s1
    (s1.setPair { s1.pair with bankPass := if b.length ≤ done then none else some done }).setNum Obj.syncProgress done
  | _, _ => s

/-- What the seam copy sends in the free capacity: entries first, then the pass, then the image. -/
def State.seamCopy (s : State) (room : Nat) : State :=
  if s.mode = .run && s.seamServes && s.paired then
    let n := min room (s.pair.entries.length - s.pair.entriesSent)
    let s1 := s.sendEntries n
    let left := room - n
    let m := match s1.pair.pass with | some k => min left (s1.stateLines.length - k) | none => 0
    (s1.sendPass m).sendImage (left - m)
  else s

/-- CLOSE of the tick (Table 9-6). An automatic start that waits for its boundary counts as a pending command: Table 9-3 has no other sign of
it (DESIGN CHOICE, log entry 41). ENDED names the classes whose COMMIT has closed a cycle's state copy (R184). -/
def State.closeBytes (s : State) : Bytes :=
  let active := decide (s.mode = .run)
  let begun := s.executes && (s.startTick.all fun b => decide (b < s.tick)) && (s.pair.joinAt.all fun b => decide (b < s.tick))
  leBytes 8 s.tick ++ [byte s.mode.code, byte (ofBits [s.roleActive, s.synced, s.commandPending || s.rst.autoAt.isSome, s.pair.fenceOut]),
    byte (if begun then s.eng.closedBefore.eraseDups.foldl (fun m c => m + 2 ^ c) 0 else 0), 0] ++ leBytes 4 s.pair.entries.length ++
    leBytes 4 (if active then s.pair.entriesSent else 0) ++ leBytes 2 (if active then s.prp.stationSeq else 0) ++ zeros 2 ++
    leBytes 8 s.pair.digest ++ leBytes 8 (if active then 0 else s.num Obj.lastMatchedTick) ++
    leBytes 8 (if active then 0 else s.pair.weftAck)

/-- The partner's newest CLOSE shows a standby in the state pass: not SYNCED, and no cycle executed. -/
def State.partnerPassing (s : State) : Bool := s.pair.heard.any fun c => c.standsBy && !c.isSynced && !c.executing

/-- The CLOSE frame follows the commit frame (R264); a pass whose tick did not send every entry starts again (R267 step 3). -/
def State.sendClose (s : State) : State :=
  if s.seamServes && s.paired && decide (s.mode ≠ .hold) then
    let s1 := s.sendSeam seamTypeClose s.closeBytes
    if s1.pair.entriesSent < s1.pair.entries.length && (s1.pair.pass.isSome || s1.partnerPassing) then s1.setPair { s1.pair with pass := some 0 } else s1
  else s

/-- A logic-to-field frame of a slot (R113): at slot 3 the commit frame, which CLOSE follows on group B, the second link. -/
def execBarrierFrameSend (g : Group) (slot : Fin 4) (room : Nat) (s : State) : Host.Outcome State Fault Refusal :=
  .next (match g with
    | .c => s.sendIslandFrame slot
    | .a => s.sendBarrier .a slot
    | .b =>
      let s1 := (s.sendBarrier .b slot).seamCopy room
      if slot = 3 && s.linksSend && !s.eng.discard then s1.sendClose else s1)

/-! ### The guard -/

/-- The image and profile of a tick that is about to begin: a decided hitless activation and a profile change at its edge count. -/
def State.imageAt (s : State) (t : Nat) : List Section :=
  match s.warp.activation with
  | some a => (match a.staged with
    | some l => if a.decided && a.hitless && decide (a.tick = t) then l.sections else s.sections
    | none => s.sections)
  | none => s.sections
def State.profileAt (s : State) (t : Nat) : Nat :=
  match s.profileChange with
  | some (p, b) => if b = t then p else s.profile
  | none => s.profile

/-- The gate mask of a tick (R448). -/
def State.applyGates (s : State) (t : Nat) : State :=
  { s with eng := { s.eng with gates := gatesAt (sectBody (s.imageAt t) 9) (tickIndex t) } }

/-- A change of operating point (Table 16-5): rising, the core supply slews and settles before the divider is retargeted; falling, the
divider comes first (R115). -/
def State.changePoint (s : State) (mhz mv : Nat) : State :=
  if s.num Obj.coreSupply < mv then (s.setNum Obj.coreSupply mv).setNum Obj.sequencerClock mhz
  else (s.setNum Obj.sequencerClock mhz).setNum Obj.coreSupply mv

/-- The gates and the setting of a tick (R28, R446, R447). -/
def State.applySetting (s : State) (t : Nat) : State :=
  let (mhz, mv) := clockAt (sectBody (s.imageAt t) 9) (s.profileAt t) (tickIndex t)
  (s.applyGates t).changePoint mhz mv

/-- The tick after the running one runs the warp. -/
def State.runsNext (s : State) : Bool :=
  s.mode.running || (match s.command with | some c => decide (c.code = 3) && decide (c.tick = s.nextEdge) | none => false) ||
    (match s.warp.restart with | some (t, _) => decide (t = s.nextEdge) | none => false) || decide (s.rst.autoAt = some s.nextEdge)

/-- 232 µs: the guard begins, and the next tick's gates are applied; in SATIN its setting too, while the fixed setting of TWILL and CANVAS comes
with the boundary at which the profile takes effect (R446). -/
def execGuard (s : State) : Host.Outcome State Fault Refusal :=
  .next (if !s.mode.answers then s
    else
      let s1 := (s.atOffset 232000).repairTables
      if s1.runsNext && s1.warp.loaded.isSome then
        if s1.mode.running && s1.profile = 1 && s1.profileAt s1.nextEdge = 1 then s1.applySetting s1.nextEdge else s1.applyGates s1.nextEdge
      else s1)

/-! ### The Canary's tick checks -/

/-- Retirement of a lane, or in CANVAS of a pair: expected and observed counts, where they differ (Table 4-7). -/
def State.retirementFault (s : State) (record : Bytes) (k : Nat) : Option (Nat × Nat × Nat) :=
  let count : Nat → Nat := fun l => ((s.eng.lanes.toList[l]?).bind Lane.retired).getD 0xFFFFFFFF
  if s.canvas then
    if 2 ≤ k then none
    else
      let w := max (u32At record 0) (u32At record 8) + 4160
      let seen : Nat := count (2 * k + 1)
      let got := if s.eng.reexecuting && decide (seen ≠ 0xFFFFFFFF) then seen + w else seen
      let want := if s.eng.reexecuting then u32At record (16 + 4 * k) else u32At record (8 * k)
      if got = want then none else some (0x10 + k, want, got)
  else
    let want := u32At record (4 * k)
    if count k = want then none else some (k, want, count k)

/-- Transfer counts of the plan of the tick by port pair. -/
def loomExpected (plan : List LoomEntry) : List (Nat × Nat × Nat) :=
  plan.foldl (fun m e =>
    if m.any fun x => decide (x.1 = e.fromPort) && decide (x.2.1 = e.toPort) then
      m.map fun x => if x.1 = e.fromPort && x.2.1 = e.toPort then (x.1, x.2.1, x.2.2 + e.count) else x
    else m ++ [(e.fromPort, e.toPort, e.count)]) []

/-- A check that fails is a die fault (R133). -/
def State.checked (s : State) (check : TickCheck) (bad : Option (Nat × Nat × Nat)) : State :=
  match bad with
  | some (unit, want, got) => s.dieFault check unit want got
  | none => s

/-- Transfers of a port pair in a list of counts. -/
def pairCount (xs : List (Nat × Nat × Nat)) (src dst : Nat) : Nat :=
  ((xs.find? fun x => decide (x.1 = src) && decide (x.2.1 = dst)).map fun x => x.2.2).getD 0

/-- A Loom port is that of a DMA engine which a halt has left idle: it counts as used every slot that the halt leaves (R464). -/
def State.haltedPort (s : State) (port : Nat) : Bool := s.eng.halted.any fun h => decide (10 + h / 8 = port)

/-- The engine's port of a transfer of this tick that a gated block has answered (R447). -/
def State.gatedPort (s : State) (port : Nat) : Bool :=
  s.eng.jobs.any fun j => decide (10 + j.engine = port) && j.results.any fun r => decide (r.error = 2)

/-- The first port pair, planned or observed, whose observed count is not the warp's, or on which a transfer met a gated block. -/
def State.loomFault (s : State) (seen : List (Nat × Nat × Nat)) : Option (Nat × Nat × Nat) :=
  let want := loomExpected (planAt (sectBody s.sections 8) (tickIndex s.tick))
  (want ++ seen).findSome? fun x =>
    let n := pairCount want x.1 x.2.1
    let counted := pairCount seen x.1 x.2.1
    let got := if s.haltedPort x.1 || s.haltedPort x.2.1 then max n counted else counted
    if n = got && !(s.gatedPort x.1 || s.gatedPort x.2.1) then none else some (0x20 + x.1, x.2.1 * 2 ^ 28 + n, got)

/-- Ticks of a full scan (R134, Table 1-9): 400 in SATIN, 40 in TWILL, one in CANVAS. -/
def scanInterval (profile : Nat) : Nat := if profile = 3 then 1 else if profile = 2 then 40 else 400

/-- Reference of a word of the full scan (R134): the Loom allocation tables are those of the warp's LOOM section, 32 bits a word, and the clock gates
the mask that the warp has set; the other items are those of the fuse map, whose words the manual does not give (DESIGN CHOICE, log entry 43). -/
def State.scanReference (s : State) (w : ScanWord) : Nat :=
  match w.item with
  | .loomTables => u32At (sectBody s.sections 8) (4 * w.place)
  | .clockGates => s.eng.gates
  | .laneConfiguration => Config.scanReference 2 w.place s.tick
  | .eccSyndromes => Config.scanReference 3 w.place s.tick
  | .scrubProgress => Config.scanReference 4 w.place s.tick

/-- The first word of the tick's share of the full scan that differs from its reference (R134). The share of a tick is the places congruent
to its number modulo the interval (DESIGN CHOICE, log entry 43). -/
def State.scanFault (s : State) (ws : List ScanWord) : Option (Nat × Nat × Nat) :=
  let n := scanInterval s.profile
  (ws.filter fun w => decide (w.place % n = s.tick % n)).findSome? fun w =>
    if s.scanReference w = w.found then none else some (0xFF, s.scanReference w, w.found)

/-- The setting that the profile gives the tick; where no tick of the warp runs, the one last applied (log entry 42). -/
def State.settingWanted (s : State) : Nat × Nat :=
  if s.executes then clockAt (sectBody s.sections 9) s.profile (tickIndex s.tick) else (s.num Obj.sequencerClock, s.num Obj.coreSupply)

/-- Capture (Table 4-7): completed at or before 30 µs, with BODY_CRC computed. -/
def captureFault (at_ : Option Nat) (bodyCrc : Bool) : Option (Nat × Nat × Nat) :=
  match at_ with
  | some n => if n ≤ 30000 && bodyCrc then none else some (0xFF, 30000, if bodyCrc then n else 0xFFFFFFFF)
  | none => some (0xFF, 30000, 0xFFFFFFFF)

/-- Staging, commit frames and the seam close (Table 4-7): complete at or before 232 µs. -/
def stagingFault (at_ : Option Nat) : Option (Nat × Nat × Nat) :=
  match at_ with
  | some n => if n ≤ 232000 then none else some (0xFF, 232000, n)
  | none => some (0xFF, 232000, 0xFFFFFFFF)

/-- A pair of MHz and mV as one word (Table 18-9). -/
def settingWord (x : Nat × Nat) : Nat := x.1 * 65536 + x.2

/-- The checks of the tick's work (Table 4-7). -/
def State.checkWork (s : State) (m : CanaryMeasure) : State :=
  if !s.executes then s
  else
    let record := proofRecord s.sections s.profile (tickIndex s.tick)
    let s2 := s.checked .capture (captureFault m.capture m.bodyCrc)
    let s3 := (List.range 4).foldl (fun s' k => s'.checked .laneRetirement (s.retirementFault record k)) s2
    (s3.checked .loomAllocation (s.loomFault m.loom)).checked .staging (stagingFault m.staging)

/-- The end-of-tick checks in the order of Table 4-7; those of the warp's work are made while it runs. -/
def execCanaryTickCheck (m : CanaryMeasure) (s : State) : Host.Outcome State Fault Refusal :=
  .next (if !s.mode.answers || !s.ticking then s
    else
      let s1 := if s.time.unjudged || (249000 ≤ m.interval && m.interval ≤ 251000) then s
        else s.dieFault .edgeInterval 0xFF 250000 m.interval
      let s2 := s1.checkWork m
      let want := s.settingWanted
      let s3 := s2.checked .clockSupply (if m.setting = want then none else some (0xFF, settingWord want, settingWord m.setting))
      s3.checked .fullScan (s.scanFault m.scan))

end Sys2Proof.Machine
end

