-- ==== Sys2Proof/Machine/Net.lean ====
section
/-! DEFINITION. The field network below CLP (chapters 03 and 09): PRP (R287), the ports and their paths (R143,
R288), ARP, ICMP and IGMP (R65, R99), and presence frames as they leave (R271). -/

namespace Sys2Proof.Machine

/-- The network serves CLP: a state that answers, and an address (R70, R81). -/
def State.netServes (s : State) : Bool := s.serves && decide (s.ownIp ≠ 0)

/-! ### PRP (R287) -/

/-- A rate in Mbit/s is below the warp's SLOWEST_RATE (R143). -/
def State.rateLow (s : State) (rate : Nat) : Bool := s.warp.loaded.isSome && decide (rate * 1000000 < lineRate (netSlowest s.sections))

/-- Kinds of traffic that a port with too low a rate does not carry (R143). -/
def isBulk : SentKind → Bool
  | .clp | .pd | .event => true
  | _ => false

/-- A port carries traffic of a kind: bulk traffic never at too low a rate (R143), nor on a path that is lost while the other is not (R288); what keeps the
network itself going leaves on both (log entry 139). -/
def State.portCarries (s : State) (kind : SentKind) (k : Nat) : Bool :=
  let lost := fun i => (s.prp.lost.toList[i]?).getD false
  !isBulk kind || (!s.rateLow (s.portRate k) && (!lost k || lost (1 - k)))

/-- A frame leaves with its trailer on the ports that carry it, from the module's or the station's MAC address. -/
def State.prpSend (s : State) (kind : SentKind) (peer : Nat) (station : Bool) (head : NetHead) (data : Bytes) : State :=
  let (seq, s1) := s.takePrpSeq station
  [0, 1].foldl (fun s k => if s.portCarries kind k then s.sendOn k kind peer seq head data else s) s1

/-- A UDP datagram leaves on both ports. -/
def State.udpSend (s : State) (kind : SentKind) (ip sport dport : Nat) (station : Bool) (data : Bytes) : State :=
  s.prpSend kind (ip * 65536 + dport) station (s.ipHead kind station ip (some (sport, dport)) data) data

/-- Entries of the duplicate list that the forget time of 400 ms ends; a frame whose second copy never came is Unique. -/
def State.prpForget (s : State) : State :=
  let old := s.prp.seen.filter fun e => decide (e.2.2.2.1 + 400000000 ≤ s.localNs)
  let keep := s.prp.seen.filter fun e => decide (s.localNs < e.2.2.2.1 + 400000000)
  let s1 := { s with prp := { s.prp with seen := keep } }
  old.foldl (fun s e => if e.2.2.2.2 then s else s.count (Obj.unique e.2.2.1)) s1

/-- A frame arrives on a port: counted, and its path heard. -/
def State.prpHear (s : State) (rx : NetRx) : State := ((s.atOffset rx.ns).prpForget.count (Obj.rxFrames (portNo rx.port))).hear rx.port

/-- A frame that has arrived on a port: false for one of another VLAN (R67), which is discarded, and for the second copy of a frame
already taken. -/
def State.prpTake (s : State) (rx : NetRx) : State × Bool :=
  let k := portNo rx.port
  let s1 := s.prpHear rx
  if !s1.vlanTakes rx.vlan then (s1.count Obj.framesDiscarded, false)
  else match rx.rct with
  | none => (s1, true)
  | some (lan, seq) =>
    let s2 := if lan = (if k = 0 then 0xA else 0xB) then s1 else s1.count (Obj.wrongLan k)
    if s2.prp.seen.any fun e => decide (e.1 = rx.mac) && decide (e.2.1 = seq) then
      let mark := s2.prp.seen.map fun (e : Nat × Nat × Nat × Nat × Bool) =>
        if e.1 = rx.mac && e.2.1 = seq then (e.1, e.2.1, e.2.2.1, e.2.2.2.1, true) else e
      ({ s2 with prp := { s2.prp with seen := mark } }.count (Obj.duplicates k), false)
    else ({ s2 with prp := { s2.prp with seen := s2.prp.seen ++ [(rx.mac, seq, k, s2.localNs, false)] } }, true)

/-- Supervision frames that a port takes in a second (R507), and peers whose supervision is kept (R287). -/
def supervisionLimit : Nat := 64
def peerLimit : Nat := 1088

/-- A supervision frame arrives: beyond the limit of R507 it is dropped and counted; else its peer's supervision is kept (R287). -/
def State.takeSupervision (s : State) (rx : NetRx) : State :=
  let (s1, ok) := s.prpTake rx
  let ts := lastSecond s1.localNs s1.prp.supervised[portIx rx.port]
  if !ok && !s1.vlanTakes rx.vlan then s1
  else if supervisionLimit ≤ ts.length then s1.count Obj.framesDiscarded
  else
    let room := (Assoc.get? s1.prp.peers rx.mac).isSome || decide (s1.prp.peers.length < peerLimit)
    let peers := if room then Assoc.set s1.prp.peers rx.mac s1.localNs else s1.prp.peers
    { s1 with prp := { s1.prp with peers := peers, supervised := s1.prp.supervised.set (portIx rx.port) (ts ++ [s1.localNs]) } }

/-- 2 s have passed: a supervision frame (type 20 TLV of IEC 62439-3). -/
def execPrpSupervision (s : State) : Host.Outcome State Fault Refusal :=
  .next (if s.mode.answers then
      s.prpSend .prpSupervision 0 false (s.ethHead .prpSupervision false (some 0x01154E000100) etherSupervision) ([0, 1] ++ beBytes 2 s.prp.moduleSeq ++ [20, 6] ++ s.moduleMacBytes ++ [0, 0])
    else s)

/-! ### Ports and paths (R143, R288) -/

/-- PrpState (Table 9-11) of the two paths. -/
def State.prpStateNow (s : State) : State :=
  let a := s.prp.lost[0]
  let b := s.prp.lost[1]
  s.setNum Obj.prpState (if !a && !b then 0 else if !a then 1 else if !b then 2 else 3)

def State.setPathLost (s : State) (p : NetPort) (b : Bool) : State :=
  { s with prp := { s.prp with lost := s.prp.lost.set (portIx p) b } }.prpStateNow

/-- The path of a port is lost, with its cause (Table 18-8). -/
def State.losePath (s : State) (p : NetPort) (cause : Nat) : State :=
  if s.prp.lost[portIx p] then s
  else ((s.setPathLost p true).count (Obj.pathLosses (portNo p))).logTally 0x0608 [portNo p, cause]

/-- What a cause of Table 18-8 asks of a port (R288): for 0x02 no valid frame for PathTimeout, for 0x03 a rate below SLOWEST_RATE. -/
def State.pathFails (s : State) (p : NetPort) (cause : Nat) : Bool :=
  match cause with
  | 1 => true
  | 2 => decide (s.prp.heardAt[portIx p] + s.num Obj.pathTimeout * 1000000 ≤ s.localNs)
  | 3 => s.rateLow (s.portRate (portNo p))
  | _ => false

/-- A path's loss (R288): a link that is down has no rate. -/
def execPathLost (p : NetPort) (cause : Fin 4) (s : State) : Host.Outcome State Fault Refusal :=
  .next (if !s.mode.answers || !s.pathFails p cause.val then s
    else
      let s1 := if cause.val = 1 then { s with prp := { s.prp with rates := s.prp.rates.set (portIx p) 0 } } else s
      s1.losePath p cause.val)

/-- A path recovers (R288): its link is up at a rate that the warp can use (R143), and a valid frame has come within PathTimeout. -/
def execPathRestored (p : NetPort) (s : State) : Host.Outcome State Fault Refusal :=
  .next (if s.mode.answers && s.prp.lost[portIx p] && decide (s.portRate (portNo p) ≠ 0) && !s.pathFails p 2 && !s.pathFails p 3 then
      (s.setPathLost p false).logTally 0x0609 [portNo p]
    else s)

/-! ### ARP, ICMP, IGMP -/

/-- An ARP message for IPv4 over Ethernet. -/
def arpBytes (op : Nat) (senderMac : Bytes) (senderIp : Nat) (targetMac : Bytes) (targetIp : Nat) : Bytes :=
  [0, 1, 8, 0, 6, 4] ++ beBytes 2 op ++ senderMac ++ beBytes 4 senderIp ++ targetMac ++ beBytes 4 targetIp

def broadcastMac : Nat := 0xFFFFFFFFFFFF

/-- A gratuitous announcement of an address (R65, R278). -/
def State.announceIp (s : State) (station : Bool) : State :=
  let ip := if station then s.stationIp else s.ownIp
  if ip = 0 then s
  else s.prpSend .arp 0 station (s.ethHead .arp station (some broadcastMac) etherArp) (arpBytes 1 (if station then s.stationMacBytes else s.moduleMacBytes) ip (zeros 6) ip)

/-- A version 2 membership report for a group. -/
def igmpReport (group : Nat) : Bytes :=
  [0x16, 0] ++ beBytes 2 (inetChecksum ([0x16, 0] ++ zeros 2 ++ beBytes 4 group)) ++ beBytes 4 group

/-- A membership report for each group that the loaded warp declares (R65). -/
def State.reportGroups (s : State) : State :=
  if s.netServes then (netGroups s.sections).foldl (fun s g => s.prpSend .igmp (g * 65536) false (s.ipHead .igmp false g none []) (igmpReport g)) s else s

/-- A module that enters RUN, or whose port comes up, announces its address, and the station's if it holds it (R65, R278), and reports its groups (log
entry 141). -/
def State.announceAll (s : State) : State :=
  (if s.holdsStation then (s.announceIp false).announceIp true else s.announceIp false).reportGroups

/-- A port negotiates a link (R65, R143). -/
def execPortLinkUp (p : NetPort) (rate : Nat) (s : State) : Host.Outcome State Fault Refusal :=
  .next (if !s.mode.answers then s
    else
      let s1 := { s with prp := { s.prp with rates := s.prp.rates.set (portIx p) rate } }.hear p
      if s1.rateLow rate then (s1.logTally 0x060A [portNo p, rate]).losePath p 3
      else s1.announceAll)

/-- The addresses that this module answers for. -/
def State.answersIp (s : State) (ip : Nat) : Bool := decide (ip ≠ 0) && (decide (ip = s.ownIp) || (s.holdsStation && decide (ip = s.stationIp)))

/-- The USB service port serves a host at its address (R66). -/
def State.usbServes (s : State) (ip : Nat) : Bool := s.serves && s.options.inForce.usb && decide (ip = usbHostIp)

/-- A frame below UDP leaves at the USB service port. -/
def State.usbSend (s : State) (kind : SentKind) (peer dst etherType : Nat) (ip : Option (Nat × Nat)) (data : Bytes) : State :=
  let head : NetHead := { dst := some dst, src := some (beNat (fit 6 (s.obj Obj.usbMac))), tag := none, etherType := etherType, ip := ip, udp := none }
  { s with out := s.out ++ [(⟨kind, 2, peer, data, some head⟩ : Sent)] }

/-- An ARP request at the USB service port, under the limit of R95; a frame of another sender than the host is discarded (R66). -/
def State.usbArp (s : State) (mac ns senderIp targetIp : Nat) : State :=
  let s1 := s.atOffset ns
  let ts := lastSecond s1.localNs s1.clp.usbArpTimes
  if !s1.usbServes senderIp then s1.count Obj.framesDiscarded
  else if 100 ≤ ts.length then s1.count Obj.rateDropped
  else
    let s2 := { s1 with clp := { s1.clp with usbArpTimes := ts ++ [s1.localNs] } }
    if targetIp = usbStationIp then
      s2.usbSend .arp (senderIp * 65536) mac etherArp none (arpBytes 2 (fit 6 (s2.obj Obj.usbMac)) usbStationIp (beBytes 6 mac) senderIp)
    else s2

/-- An ARP request at a network port (R65, R95): at most 100 frames per second per port. -/
def State.netArp (s : State) (rx : NetRx) (senderIp targetIp : Nat) : State :=
  if !s.netServes then s
    else
      let (s1, ok) := s.prpTake rx
      let ts := lastSecond s1.localNs s1.clp.arpTimes[portIx rx.port]
      if !ok then s1
      else if 100 ≤ ts.length then s1.count Obj.rateDropped
      else
        let s2 := { s1 with clp := { s1.clp with arpTimes := s1.clp.arpTimes.set (portIx rx.port) (ts ++ [s1.localNs]) } }
        if s2.answersIp targetIp then
          let station := decide (targetIp ≠ s2.ownIp)
          s2.prpSend .arp (senderIp * 65536) station (s2.ethHead .arp station (some rx.mac) etherArp)
            (arpBytes 2 (if station then s2.stationMacBytes else s2.moduleMacBytes) targetIp (beBytes 6 rx.mac) senderIp)
        else s2

/-- An ARP request (R65, R66). -/
def execArpRequest (rx : IpOrigin) (senderIp targetIp : Nat) (s : State) : Host.Outcome State Fault Refusal :=
  .next (match rx with
    | .net rx => s.netArp rx senderIp targetIp
    | .usb mac ns => if s.serves then s.usbArp mac ns senderIp targetIp else s)

/-- The unicast PD destinations' addresses to resolve (R99). -/
def State.pdHops (s : State) : List Nat :=
  ((txLayouts s.sections).filter fun l => !isMulticast l.peerIp).map fun l => s.nextHop l.peerIp

/-- A PD destination's resolution is refreshed (R99); the cache holds 1,088 entries (R65). -/
def execArpRefresh (ip : Nat) (mac : Option Nat) (s : State) : Host.Outcome State Fault Refusal :=
  .next (if s.netServes && s.pdHops.contains ip && decide (ip ≠ 0) then
      let s1 := s.prpSend .arp (ip * 65536) false (s.ethHead .arp false (some broadcastMac) etherArp) (arpBytes 1 s.moduleMacBytes s.ownIp (zeros 6) ip)
      let cache := match mac with
        | some m => if (Assoc.get? s1.clp.arp ip).isSome || s1.clp.arp.length < 1088 then Assoc.set s1.clp.arp ip m else s1.clp.arp
        | none => Assoc.erase s1.clp.arp ip
      { s1 with clp := { s1.clp with arp := cache } }
    else s)

/-- An echo reply: type and code 0, the checksum, and what follows it in the request. -/
def icmpReply (rest : Bytes) : Bytes := zeros 2 ++ beBytes 2 (inetChecksum (zeros 4 ++ rest)) ++ rest

/-- An ICMP echo request at the USB service port (R65, R66). -/
def State.usbEcho (s : State) (mac ns srcIp dstIp : Nat) (data : Bytes) : State :=
  let s1 := s.atOffset ns
  let ts := lastSecond s1.localNs s1.clp.usbIcmpTimes
  if !s1.usbServes srcIp then s1.count Obj.framesDiscarded
  else if dstIp ≠ usbStationIp then s1
  else if 10 ≤ ts.length then s1.count Obj.rateDropped
  else
    { s1 with clp := { s1.clp with usbIcmpTimes := ts ++ [s1.localNs] } }.usbSend .icmp (srcIp * 65536) mac etherIpv4 (some (usbStationIp, srcIp))
      (icmpReply data)

/-- An ICMP echo request at a network port: at most 10 replies per second per port (R65, R97). -/
def State.netEcho (s : State) (rx : NetRx) (srcIp dstIp : Nat) (data : Bytes) : State :=
  if !s.netServes then s
    else
      let (s1, ok) := s.prpTake rx
      let ts := lastSecond s1.localNs s1.clp.icmpTimes[portIx rx.port]
      if !ok || !s1.answersIp dstIp then s1
      else if 10 ≤ ts.length then s1.count Obj.rateDropped
      else
        let s2 := { s1 with clp := { s1.clp with icmpTimes := s1.clp.icmpTimes.set (portIx rx.port) (ts ++ [s1.localNs]) } }
        let station := decide (dstIp ≠ s2.ownIp)
        s2.prpSend .icmp (srcIp * 65536) station { s2.ipHead .icmp station srcIp none [] with dst := some rx.mac } (icmpReply data)

/-- An ICMP echo request (R65, R66). -/
def execIcmpEcho (rx : IpOrigin) (srcIp dstIp : Nat) (data : List Byte) (s : State) : Host.Outcome State Fault Refusal :=
  .next (match rx with
    | .net rx => s.netEcho rx srcIp dstIp data
    | .usb mac ns => if s.serves then s.usbEcho mac ns srcIp dstIp data else s)

/-- An IGMP general query is answered with a report for each declared group (R65). -/
def execIgmpQuery (rx : NetRx) (s : State) : Host.Outcome State Fault Refusal :=
  .next (if !s.netServes then s
    else
      let (s1, ok) := s.prpTake rx
      if ok then s1.reportGroups else s1)

/-! ### Presence frames (R271) -/

/-- Destination of presence frames: 03-50-53-39 and StationNode. -/
def State.presenceMac (s : State) : Nat := beNat (pairMac 0x03 (s.started Obj.stationNode))

/-- Nonce of a presence frame. -/
def presenceNonce (counter : Nat) : Bytes := leBytes 8 counter ++ [0xFF, 0xFF, 0xFF, 0xFF]

/-- Bytes 0 to 31 of a presence frame (Table 9-7). -/
def State.presenceBody (s : State) (counter : Nat) : Bytes :=
  leBytes 4 0x52505A43 ++ leBytes 2 (s.num Obj.moduleNode) ++ leBytes 2 (s.started Obj.stationNode) ++ leBytes 8 s.tick ++ leBytes 8 counter ++
    [byte s.mode.code, byte (ofBits [s.roleHigh, s.pair.fenceOut, s.seamUp, s.synced, s.roleActive])] ++ zeros 6

/-- 232 µs: each module of a pair sends its presence frame on both ports; a fenced one does not (R276). -/
def execPresenceFrameSend (s : State) : Host.Outcome State Fault Refusal :=
  .next (if !s.pairEnabled || !s.mode.answers || !s.ticking || s.io.fenced then s
    else match s.sendingKey s.ownSerial with
      | none => s
      | some key =>
        let s1 := s.setPair { s.pair with presenceSent := s.pair.presenceSent + 1 }
        let counter := s.clp.startCount * 2 ^ 40 + s1.pair.presenceSent
        let body := s1.presenceBody counter
        s1.prpSend .presence 0 false (s1.ethHead .presence false (some s1.presenceMac) etherPresence) (body ++ gcmTag key (presenceNonce counter) body []))

end Sys2Proof.Machine
end

