-- ==== Sys2Proof/Machine/Pair.lean ====
section
/-! DEFINITION. The pair (chapter 09): entering and leaving RUN and STANDBY, pairing (Table 9-2), roles (Table 9-3), joining (R267), what the
frames of the seam do, the guard check (R266, R270), the decisions (Table 9-8), takeover and handover (R278 to R286). -/

namespace Sys2Proof.Machine

/-! ### Leaving and entering RUN and STANDBY -/

/-- The pending activation is discarded without an outcome (Table 5-18). -/
def State.dropActivation (s : State) : State := if s.warp.activation.isSome then s.endActivation 0 0 else s

/-- The warp stops: the module leaves RUN or STANDBY for a state (R129, R277). What the active has accepted for the wefts since the last cut-off still goes
with that of the boundary (R20; log entry 137). -/
def State.leaveRun (s : State) (target : Mode) : State :=
  let s1 := { s with mode := target, startTick := none, pd := ⟨[], []⟩, eng := { s.eng with weftAddr := Vector.replicate 5 0 } }
  let s2 := ((s1.setDetail 0 false).setDetail 4 false).setDetail 5 false
  let s3 := (s2.setNum Obj.syncState 0).canStop.canEnd
  let s4 := s3.setPair { s3.pair with takeover := none, late := [], pass := none, bankPass := none, joinAt := none, wefts := [], items := [],
                                      outgoing := [], carrying := [], commitFrom := 0
                                      parting := if s.mode = .run && s.paired then s.pair.outgoing else [] }
  let s5 := { s4 with io := { s4.io with aoHold := false } }
  let s6 := (if s.shadowTime then s5.timeFromSeam s5.tickFlags else s5).applyHeld
  s6.setFence false

/-- A standby leaves the pair for READY (Table 9-8). -/
def State.leavePair (s : State) : State := (s.dropActivation.leaveRun .ready).logTally 0x0606 []

/-- RUN begins at boundary `b` as the active module (R128, R148). -/
def State.enterRun (s : State) (b : Nat) : State :=
  let s1 := s.initialState
  let s2 := { s1 with mode := .run, startTick := some b, stale := [], pd := ⟨[], []⟩ }
  ((((s2.setDetail 5 true).showInitial.startImages).canBegin).applySetting b).announceAll.refreshHello

/-- The module of the pair that has not been RUN's active begins to shadow it: joining as far as the image allows (R267 steps 2 and 3). -/
def State.beginPass (s : State) : State :=
  let s1 := (((s.setDetail 4 false).setNum Obj.syncState 2).setNum Obj.syncProgress 0)
  s1.setPair { s1.pair with lines := [], joinAt := none, fetching := false, words := [] }

/-- A verified bank that covers Profile is loaded (R163, Table 1-7); whether it was. -/
def State.installBank (s : State) (k : Nat) : State × Bool :=
  let p := s.num Obj.profile
  if s.bankValid k && bit (s.num (Obj.provenProfiles k)) (p - 1) then
    let s1 := (s.setLoaded (loadImage k (s.bankImage k))).setNum Obj.activeProfile p
    ({ s1 with mode := .ready }.reportGroups, true)
  else (s, false)

/-- A LOAD of a bank (R163): verified first. -/
def State.loadBank (s : State) (k : Nat) : State × Bool := ((s.verifyBank k).refuseAbsent k).installBank k

/-- SelectedBank set by the station, in MRAM too (R167, R267). -/
def State.selectBank (s : State) (k : Nat) : State :=
  { s.setNum Obj.selectedBank k with stored := Assoc.set s.stored Obj.selectedBank [byte k] }

/-- The image digest and bank of the partner's active image. -/
def State.partnerImage (s : State) : Option (Nat × Bytes) :=
  match s.pair.partner with
  | some h => if h.bank = 0 then some (0, h.digestA) else if h.bank = 1 then some (1, h.digestB) else none
  | none => none

/-- Step 1 of R267 ends: the bank of the partner's letter holds its image, and LOAD takes the module to READY. -/
def State.joinLoad (s : State) : State :=
  match s.partnerImage with
  | none => s
  | some (k, digest) =>
    if s.bankValid k && decide (s.obj (digestObj k) = digest) then
      let (s1, ok) := (s.selectBank k).loadBank k
      if ok then s1 else (s1.setNum Obj.syncState 0).setPair { s1.pair with fetching := false }
    else s

/-- Joining begins (R267): with the partner's image from step 2 on; otherwise the module leaves STANDBY for SERVICE and fetches it. -/
def State.joinStart (s : State) : State :=
  match s.partnerImage with
  | none => s.beginPass
  | some (_, digest) =>
    if (match s.warp.loaded with | some l => decide (l.digest = digest) | none => false) then s.beginPass
    else
      let s1 := (s.dropActivation.leaveRun .service).releaseWarp.setNum Obj.activeProfile 0
      ((s1.setNum Obj.syncState 1).setPair { s1.pair with fetching := true }).joinLoad

/-- The module enters STANDBY (Table 9-3): its held writes are discarded (R44), it follows the active's edges (R305), joining begins. -/
def State.enterStandby (s : State) (b : Nat) : State :=
  let s1 := { s.dropHeld with mode := .standby, startTick := some b }
  (s1.timeFollows.canBegin.applySetting b).showJoined.refreshHello.joinStart

/-! ### Roles (Table 9-3) -/

/-- The partner's state, as last seen. -/
def State.partnerIs (s : State) (m : Mode) : Bool := decide (s.num Obj.partnerState = m.code)

/-- The partner's CLOSE shows a command pending in READY: a start, taken as for the same boundary (log entry 41). -/
def State.partnerStarts (s : State) : Bool :=
  match s.pair.heard with
  | some c => decide (c.state = Mode.ready.code) && bit c.flags 2
  | none => false

/-- The role that the module takes at a start: none where START is refused; and whether it asserts FENCE_OUT. -/
def State.roleAtStart (s : State) : Option (Mode × Bool) :=
  if !s.pairEnabled then some (.run, false)
  else if s.fenceEffective && !s.partnerIs .run then none
  else if s.seamUp && s.partnerIs .run then some (.standby, false)
  else if s.seamUp && s.partnerStarts then some (if s.roleHigh then .run else .standby, false)
  else if s.seamUp || !s.pair.partnerPresent then some (.run, false)
  else if s.visibleAt s.tick && (decide (s.pair.presenceState = Mode.run.code) || decide (s.pair.presenceState = Mode.standby.code)) then none
  else if s.roleHigh then some (.run, true) else none

/-- A command takes effect (R19): CommandTick returns to 0, CommandResult reads DONE or FAILED; a mirrored one is the partner's. CommandTick returns to 0
also where the command fails at its boundary, of which R19 says nothing (DESIGN CHOICE, log entry 145). -/
def State.commandDone (s : State) (ok : Bool) : State :=
  let s1 := { s with command := none }
  if s.command.any (·.mirrored) then s1 else (s1.setNum Obj.commandTick 0).setNum Obj.commandResult (if ok then 2 else 3)

/-- A boundary is at hand: the coming edge, or the one that has just passed, when what it brings came with its own weft. -/
def State.due (s : State) (t : Nat) : Bool := decide (t = s.nextEdge) || (decide (t = s.tick) && s.ticking)

/-- A start at boundary `b` in the role that Table 9-3 gives. -/
def State.startAt (s : State) (b : Nat) : State × Bool :=
  match s.roleAtStart with
  | some (.standby, _) => (s.enterStandby b, true)
  | some (_, fence) => (if fence then (s.enterRun b).setFence true else s.enterRun b, true)
  | none => (s, false)

/-! ### Pairing (R254) -/

def helloOf (b : Bytes) : SeamHello :=
  { serial := slice b 0 12, moduleNode := u16At b 12, stationNode := u16At b 14, stationIp := slice b 16 4, moduleIp := slice b 20 4,
    mac := slice b 24 6, tickOffset := u32At b 30, roleHigh := decide (u8At b 34 ≠ 0), silenceA := u32At b 35, silenceB := u32At b 39,
    firmware := u32At b 43, protocol := u16At b 47, encrypt := decide (u8At b 49 ≠ 0), state := u8At b 50, bank := u8At b 51,
    digestA := slice b 52 32, digestB := slice b 84 32 }

/-- Steps 2 to 8 of Table 9-2: the code of the first check that fails, or 0. -/
def State.pairRefusal (s : State) (h : SeamHello) : Nat :=
  if h.protocol ≠ s.num Obj.seamProtocolVersion || decide (h.encrypt ≠ decide (s.started Obj.seamEncrypt ≠ 0)) then 2
  else if h.tickOffset ≠ s.started Obj.tickOffset then 3
  else if h.stationNode ≠ s.started Obj.stationNode || h.stationNode = 0 then 4
  else if h.stationIp ≠ fit 4 (s.startedObj Obj.stationIPv4) || beNat h.stationIp = 0 then 5
  else if h.moduleNode = s.num Obj.moduleNode then 6
  else if h.roleHigh = s.roleHigh then 7
  else if h.silenceA ≠ s.num (Obj.silenceTimeout 0) || h.silenceB ≠ s.num (Obj.silenceTimeout 1) || h.silenceA < 1000 || h.silenceB < 1000 then 8
  else 0

/-- Pairing is refused (R254). -/
def State.refusePair (s : State) (code node : Nat) : State :=
  (((s.setNum Obj.seamState seamRefused).setNum Obj.seamRefusal code).setDetail 3 false).logTally 0x0604 [code, node]

/-- A PERSISTENT RO object that the station sets. -/
def State.setStored (s : State) (a : Nat) (v : Bytes) : State := { s.setObj a v with stored := Assoc.set s.stored a v }

/-- The modules are paired (R254); a standby that was cut off joins afresh (Table 9-8). -/
def State.acceptPair (s : State) (h : SeamHello) (epoch : Nat) : State :=
  let s1 := ((((s.setNum Obj.seamState seamIsUp).setNum Obj.seamRefusal 0).setDetail 3 true).setStored Obj.partnerNode (leBytes 2 h.moduleNode)).setStored
    Obj.partnerIPv4 h.moduleIp
  let s2 := ((s1.setStored Obj.partnerMac h.mac).setStored Obj.partnerSerial h.serial).setNum Obj.partnerState h.state
  let seen := if h.serial = s.partnerSerialOf then s.pair.presenceSeen else 0
  let s3 := (s2.setPair { s2.pair with partner := some h, partnerEpoch := epoch, presenceSeen := seen }).logTally 0x0601 [h.moduleNode, epoch]
  if s3.mode = .standby && (s3.degraded || !s3.synced) then s3.joinStart else s3

/-- The checks have passed for this partner since the last start of either module: a training brings the pairing back without them (R254). -/
def State.pairedBefore (s : State) (h : SeamHello) : Bool :=
  s.pair.retrained && (s.pair.partner.any fun p => decide (p.serial = h.serial))

/-- The HELLO of a module that runs, in the epoch of the pairing, only brings its state and digests up to date (log entry 22). -/
def State.refreshes (s : State) (h : SeamHello) (epoch : Nat) : Bool :=
  s.paired && decide (s.pair.partnerEpoch = epoch) && decide (h.state = Mode.run.code ∨ h.state = Mode.standby.code)

/-- A HELLO arrives (R254). A module that has refused runs the checks again only after either module has started: the first HELLO after a
retraining is no such start. A second HELLO in one epoch comes from a module that has started again, and this module's own answers it, whether it
pairs or not. -/
def execHello (wire : List Byte) (s : State) : Host.Outcome State Fault Refusal :=
  .next (
    let st := s.num Obj.seamState
    if !s.pairEnabled || !s.mode.answers || (st ≠ seamIsUp && st ≠ seamRefused) then s
    else
      let serial := slice wire 24 12
      let epoch := u32At wire 4
      let again := decide (s.pair.helloEpoch = some epoch)
      let s := s.setPair { s.pair with helloEpoch := some epoch }
      let answered := fun (s : State) => if again then s.sendSeam seamTypeHello s.helloBytes else s
      if st = seamRefused && s.pair.retrained && !again then s
      else
      match (s.sendingKey serial).bind fun key => openFrame key false wire with
      | none => answered ((s.count Obj.seamAuthFailures).refusePair 1 0)
      | some (head, payload) =>
        let seq := u64At head 8
        let orig := seq - u32At head 20
        if u8At head 0 ≠ seamTypeHello || s.pair.has seq then s
        else if s.pair.has orig then (s.setPair (s.pair.note seq orig)).sendAck []
        else
          let s1 := s.setPair (s.pair.note seq orig)
          let h := helloOf payload
          let code := if s1.pairedBefore h then 0 else s1.pairRefusal h
          if s1.refreshes h epoch then (s1.setPair { s1.pair with partner := some h }).sendAck []
          else if code ≠ 0 then answered (s1.refusePair code h.moduleNode)
          else (answered (s1.acceptPair h epoch)).sendAck [])

/-- The link reports UP after a training (R257, R258): the seam key as it stands now (R501), a new EPOCH, and HELLO. A refusal outlives a retraining (R254). -/
def execSeamUp (s : State) : Host.Outcome State Fault Refusal :=
  .next (if !s.pairEnabled || s.mode = .off || s.seamUp then s
    else
      let p := s.pair
      let s1 := s.takeSeamKey.setPair { p with epoch := min (p.epoch + 1) 0xFFFFFFFE, frameSeq := 0, sent := [], rxNext := 0, rxGot := [], waiting := [], named := [], namedAt := none, gone := [], helloEpoch := none }
      if s1.num Obj.seamRefusal ≠ 0 then s1.setNum Obj.seamState seamRefused
      else
        let s2 := s1.setNum Obj.seamState seamIsUp
        if s2.mode.answers then s2.sendSeam seamTypeHello s2.helloBytes else s2)

/-- The standby's copy of a bank that was being written over the seam becomes EMPTY (R160). -/
def State.dropBankCopy (s : State) : State :=
  match s.pair.bankRx with
  | some k => ((s.clearBank k 0).setDomain (bankDomain k) ⟨[], 0⟩).setPair { s.pair with bankRx := none }
  | none => s

/-- The link is no longer up: nothing is in flight. -/
def State.seamLost (s : State) (state : Nat) : State :=
  let s1 := s.dropBankCopy
  let s2 := s1.setPair { s1.pair with sent := [], waiting := [], named := [], gone := [], pass := none, bankPass := none, served := none }
  (s2.setNum Obj.seamState state).setDetail 3 false

/-- A frame is still undelivered after four sends: the link goes down and trains again (R259). -/
def execSeamRetrain (s : State) : Host.Outcome State Fault Refusal :=
  .next (if s.seamUp && (s.pair.sent.any fun e => decide (4 ≤ e.sends)) then
      let s1 := s.seamLost s.seamRest
      s1.setPair { s1.pair with retrained := true }
    else s)

/-- The link loses its training (R257). While PARTNER_PRESENT says that the partner goes on, it is a loss of the link alone and a refusal stands
(R254); without it, the partner or its clock has gone and will start again. -/
def execSeamLinkDown (s : State) : Host.Outcome State Fault Refusal :=
  .next (if s.num Obj.seamState = seamDown || s.num Obj.seamState = seamTraining then s
    else
      let s1 := s.seamLost s.seamRest
      let s2 := if s.pair.partnerPresent then s1 else s1.setNum Obj.seamRefusal 0
      s2.setPair { s2.pair with retrained := s.pair.partnerPresent })

/-! ### Frames -/

/-- A piece of a mirrored weft (R260), which the receive window shows (Table 17-2); with the last one, what takes effect with the weft's own cut-off, the items that travel with it and, when the tick has no other weft to come, the tick
that WEFT_ACK reports. -/
def State.takeWeftPiece (s : State) (cls : CClass) (payload : Bytes) : State :=
  if s.mode ≠ .standby then s
  else
    let t := u64At payload 0
    let off := u32At payload 8
    let piece := (off, payload.drop 12)
    let p := s.pair
    let k := classCode cls
    let old := (s.mirrorOf t k).getD ⟨t, k, []⟩
    let rest := p.wefts.filter fun m => !(decide (m.tick = t) && decide (m.cls = k))
    let new : MirrorWeft := { old with pieces := old.pieces ++ [piece] }
    let all := if new.complete && !old.complete then new.items else []
    let now := all.filter (itemDue t)
    let came := (all.filter fun i => !itemDue t i).map fun i => (t, i)
    let sw := { s with window := Mem.write s.window (seamRxWindow k + off) (payload.drop 12) }
    let s0 := if new.complete && !old.complete && sw.shadowTime && !sw.executes then sw.mirrorFlags (u8At new.bytes 9) else sw
    let s1 := now.foldl State.applyItem (s0.setPair { p with wefts := rest ++ [new], items := p.items ++ came })
    if s1.mirrorComplete t then s1.setPair { s1.pair with weftAck := t } else s1

/-- Entries of a STATE payload (R262). -/
def stateEntriesOf : Nat → Bytes → List StateEntry
  | 0, _ => []
  | fuel + 1, b =>
    if b.length < 4 then []
    else
      let w := u32At b 0
      let n := 8 * ((List.range 4).filter fun i => bit w (20 + i)).length
      ⟨w % 2 ^ 20, field w 23 20, slice b 4 n⟩ :: stateEntriesOf fuel (b.drop (4 + n))

/-- A received word goes into the joiner's state if none of a later tick has come (R267 step 3). -/
def State.joinWord (s : State) (u line w : Nat) (v : Bytes) : State :=
  let k := 4 * line + w
  let later := match Assoc.get? s.pair.lines k with | some t => decide (u < t) | none => false
  if later || !s.inStateMap (32 * line + 8 * w) then s
  else
    -- the word as the tick before left it; what this module has itself written since stands
    let a := 32 * line + 8 * w
    let s1 := if Mem.read s.store a 8 = Mem.read s.pair.before a 8 || !s.executes then s.storePut a v else s
    s1.setPair { s1.pair with lines := Assoc.set s.pair.lines k u, before := Mem.write s.pair.before a v }

/-- The tick of a frame whose header carries the low 32 bits of its tick. -/
def State.frameTick (s : State) (h : Bytes) : Nat :=
  let low := u32At h 16
  let t := s.tick / 2 ^ 32 * 2 ^ 32 + low
  if s.tick < t && 2 ^ 32 ≤ t then t - 2 ^ 32 else t

/-- Entries of tick u = header tick − 1: those of the tick before this one kept for the comparison of R266, and applied while the module joins (R267 steps 3, 4). -/
def State.takeState (s : State) (h payload : Bytes) : State :=
  if s.mode ≠ .standby then s
  else
    let u := s.frameTick h - 1
    let es := stateEntriesOf payload.length payload
    let s1 := if u + 1 = s.tick then s.setPair { s.pair with words := s.pair.words ++ es } else s
    let joining := decide (s1.num Obj.syncState = 2) || (match s1.pair.joinAt with | some b => decide (u < b) | none => false)
    if joining then es.foldl (fun s e => e.places.foldl (fun s w => s.joinWord u e.line w.1 w.2) s) s1 else s1

/-- A line of the state pass. -/
def State.takeLine (s : State) (b : Bytes) : State :=
  let u := u64At b 0
  let line := u32At b 8
  (List.range 4).foldl (fun s w => s.joinWord u line w (slice b (12 + 8 * w) 8)) s

/-- Lines of the state pass arrive (R267 step 3). -/
def State.takeLines (s : State) (payload : Bytes) : State :=
  if s.mode = .standby && decide (s.num Obj.syncState = 2) then
    let ls := chunks 44 93 payload
    let s1 := ls.foldl State.takeLine s
    s1.setNum Obj.syncProgress (s1.num Obj.syncProgress + 32 * ls.length)
  else s

/-- Values of a DICT or PERSIST payload: address, length, value. -/
def valuesOf : Nat → Bytes → List (Nat × Bytes)
  | 0, _ => []
  | fuel + 1, b => if b.length < 6 then [] else (u32At b 0, slice b 6 (u16At b 4)) :: valuesOf fuel (b.drop (6 + u16At b 4))

def valueBytes (e : Nat × Bytes) : Bytes := leBytes 4 e.1 ++ leBytes 2 e.2.length ++ e.2

/-- Station-scope objects (R42): the warp's, and those whose row says so. -/
def State.stationScope (s : State) (a : Nat) : Bool := isStationIx (addrIndex a) || (match s.objRow? a with | some r => r.station | none => false)

/-- The configuration of the loaded image without any stored value (R453). -/
def State.plainConfig (s : State) : State :=
  match s.warp.loaded with
  | some l => { s with warp := { s.warp with loaded := some { l with config := (configOf l.sections).1 } } }.loadTables
  | none => s

/-- Stored values of the partner replace the module's own of station scope (R267 step 2), and with them what they configure; the first frame says
so with flag 1. What the values give the state areas comes with the state pass. ActiveProfile stays that of the joiner's own LOAD: no rule says when it
follows a Profile that comes so (DESIGN CHOICE, log entry 147). -/
def State.takeStored (s : State) (payload : Bytes) : State :=
  if s.mode ≠ .standby then s
  else
    let kept := if u8At payload 0 = 1 then s.stored.filter fun e => !s.stationScope e.1 else s.stored
    let vs := valuesOf payload.length (payload.drop 1)
    let s1 := { s with stored := vs.foldl (fun m e => Assoc.set m e.1 e.2) kept }
    vs.foldl (fun s e =>
      if !isStationIx (addrIndex e.1) then s.setObj e.1 e.2
      else if isTableWrite e || isGroupIx (addrIndex e.1) then s.applyStored1 e.1 e.2 else s) (if u8At payload 0 = 1 then s1.plainConfig else s1)

/-- PERSIST frames of every stored station-scope value (R267 step 2). -/
def State.sendStored (s : State) : State :=
  let vs := s.stored.filter fun e => s.stationScope e.1
  let groups := chunks 32 (vs.length + 1) vs
  let groups := if groups.isEmpty then [[]] else groups
  groups.zipIdx.foldl (fun s (g, i) => s.sendSeam seamTypePersist (byte (b2n (decide (i = 0))) :: g.flatMap valueBytes)) s

/-- A bank that BANK frames may write: while the image is fetched, the letter of the partner's active bank; else the other letter, which the
active writes (R160, R267). -/
def State.bankToWrite (s : State) : Option Nat :=
  if s.pair.fetching then (s.partnerImage).map (·.1)
  else if s.mode = .standby then (s.partnerImage).map fun e => 1 - e.1 else none

/-- A BANK segment is programmed and read back (R160; that the read-back agrees is log entry 47). One without content begins a copy at offset 0, ends it at the received length, whereupon
the verification of R161 runs, and abandons it at the offset that no bank reaches (log entry 40). -/
def State.takeBank (s : State) (off : Nat) (content : Bytes) : State :=
  match s.bankToWrite with
  | none => s
  | some k =>
    let open_ := decide (s.pair.bankRx = some k)
    let received := (s.bankImage k).length
    if content.isEmpty && open_ && decide (off = 0xFFFFFFFF) then s.dropBankCopy.refreshHello
    else if content.isEmpty && open_ && decide (off = received) && decide (off ≠ 0) then
      (s.verifyWritten k).setPair { s.pair with bankRx := none }
    else
      let begins := decide (off = 0) && (content.isEmpty || !open_)
      let s1 := if begins then (((s.clearBank k 1).setDomain (bankDomain k) ⟨[], 2⟩).setPair { s.pair with bankRx := some k }).refreshHello else s
      let old := s1.bankImage k
      if s1.pair.bankRx ≠ some k || old.length < off then s1
      else
        let new := patch old off content
        let s2 := s1.setDomain (bankDomain k) ⟨new, 2⟩
        if s2.pair.fetching then s2.setNum Obj.syncProgress new.length else s2

/-! ### CLOSE -/

def closeOf (b : Bytes) : SeamClose :=
  { tick := u64At b 0, state := u8At b 8, flags := u8At b 9, ended := u8At b 10, entryCount := u32At b 12, sentCount := u32At b 16,
    prpSeq := u16At b 20, digest := u64At b 24, lastMatched := u64At b 32, weftAck := u64At b 40 }


/-- What the active sends a partner that joins, or that has given up its state in CONFIRMING (R266): its image to one in SERVICE that lacks it (R267
step 1; log entry 136), or the stored values and the state pass (steps 2 and 3). It begins once for each state of the partner and each pairing. `was` is the
CLOSE before. -/
def State.serveJoiner (s : State) (was : Option SeamClose) (c : SeamClose) : State :=
  let joins := c.standsBy && !c.isSynced
  let gaveUp := match was with | some o => o.executing && !c.executing | none => false
  let lacks := match s.warp.loaded, s.pair.partner with
    | some l, some h => decide (c.state = Mode.service.code) && decide ((if l.bank = 1 then h.digestB else h.digestA) ≠ l.digest)
    | _, _ => false
  let begun := decide (s.pair.served = some c.state)
  if joins then
    if begun && !gaveUp then s else s.sendStored.setPair { s.sendStored.pair with pass := some 0, served := some c.state }
  else if lacks then if begun then s else s.setPair { s.pair with bankPass := some 0, served := some c.state }
  else s.setPair { s.pair with served := none }

/-- The partner's CLOSE arrives (R264, R267, R277): one that tells of entries not sent restarts the state pass, however late it comes; of the rest only
the newest counts. -/
def State.takeClose (s : State) (c : SeamClose) : State :=
  let was := s.pair.heard
  let short := decide (s.mode = .standby) && decide (s.num Obj.syncState = 2) && decide (c.sentCount < c.entryCount)
  let s := if short then (s.setPair { s.pair with lines := [] }).setNum Obj.syncProgress 0 else s
  if s.pair.heard.any fun o => decide (c.tick < o.tick) then s else
  let s1 := (s.setPair { s.pair with heard := some c, gaps := 0 }).setNum Obj.partnerState c.state
  let s2 := if c.standsBy && c.isSynced then s1.setFence false else s1
  if s2.mode = .run then (s2.setDetail 4 (c.standsBy && c.isSynced)).serveJoiner was c else s2

/-! ### The guard check (R266, R270) -/

/-- The first line in which a word received in STATE frames differs from the module's own content at the end of that tick. -/
def State.wordsDiffer (s : State) : Option Nat :=
  let bad := s.pair.words.filter fun e => e.places.any fun w => decide (Mem.read s.pair.before (32 * e.line + 8 * w.1) 8 ≠ w.2)
  (bad.map (·.line)).foldl (fun m l => match m with | some x => some (min x l) | none => some l) none

/-- SEAM_FAULT (R266). -/
def State.seamFaultTally (s : State) (compared : Nat) (line : Option Nat) (role : Nat) : State :=
  s.logTally 0x0603 [low32 compared, line.getD 0xFFFFFFFF, role, low32 s.pair.digest]

/-- LastMatchedTick, and the end of joining (R267 step 5). -/
def State.matched (s : State) (t : Nat) : State :=
  let s1 := s.setNum Obj.lastMatchedTick t
  match s1.pair.joinAt with
  | some b =>
    if s1.num Obj.syncState = 3 && b + 3999 ≤ t then
      let s2 := if s1.degraded then (s1.setDetail 0 false).timeFollows else s1
      ((((s2.setDetail 4 true).setNum Obj.syncState 4).setPair { s2.pair with gaps := 0 }).count Obj.joins).logTally 0x0605 []
    else s1
  | none => s1

/-- The digest comparison of both sides (R266) for a CLOSE of the running tick; the active's with that of a standby which executed the tick
before, as its ENDED tells. -/
def State.compareDigest (s : State) (c : SeamClose) : State :=
  let t := c.tick - 1
  if s.mode = .standby then
    if !s.executes || (match s.pair.joinAt with | some b => decide (t < b) | none => false) then s
    else
      let line := s.wordsDiffer
      if c.digest = s.pair.digest && line.isNone then s.matched t
      else (((s.setDetail 4 false).count Obj.digestMismatches).seamFaultTally t line 0).joinStart
  else if s.mode = .run then
    if c.standsBy && c.executing && decide (c.digest ≠ s.pair.digest) then s.seamFaultTally t none 1 else s
  else s

/-- Without the partner's CLOSE, a standby still compares the words received for the tick before (R266). -/
def State.compareWords (s : State) : State :=
  if s.mode = .standby && s.executes && !(s.pair.joinAt.any fun b => decide (s.tick - 1 < b)) then
    match s.wordsDiffer with
    | some l => (((s.setDetail 4 false).count Obj.digestMismatches).seamFaultTally (s.tick - 1) (some l) 0).joinStart
    | none => s
  else s

/-- A heartbeat that has not come (R270): the second consecutive miss calls for a decision; so does each later one on a DEGRADED standby that
no longer sees its partner (R268). -/
def State.missHeartbeat (s : State) : State :=
  let n := min 255 (s.num Obj.heartbeatMisses + 1)
  let s2 := (s.setNum Obj.heartbeatMisses n).count Obj.heartbeatsMissed
  let alone := decide (2 < n) && decide (s2.mode = .standby) && s2.degraded && !s2.visibleAt s2.tick
  s2.setPair { s2.pair with deciding := decide (n = 2) || alone }

/-- A module of a pair: PairEnable, and a partner it has paired with since its start. -/
def State.inPair (s : State) : Bool := s.pairEnabled && s.pair.partner.isSome && s.mode.answers

/-- 240 µs: the digests are compared, then the heartbeat is judged (R266, R270, Table 9-12). -/
def execSeamGuardCheck (s : State) : Host.Outcome State Fault Refusal :=
  .next (if !s.inPair then s
    else
      let s1 := s.atOffset 240000
      match s1.pair.heard with
        | some c =>
          if c.tick = s1.tick then (s1.compareDigest c).setNum Obj.heartbeatMisses 0 else s1.compareWords.missHeartbeat
        | none => s1.compareWords.missHeartbeat)

/-! ### Decisions (Table 9-8) -/

/-- h: the last tick whose CLOSE arrived. -/
def State.lastHeard (s : State) : Nat := match s.pair.heard with | some c => c.tick | none => 0

/-- SEAM_LOST (Table 18-8). -/
def State.seamLostTally (s : State) (visible : Bool) : State :=
  s.logTally 0x0602 [low32 s.lastHeard, b2n visible, s.mode.code, low32 s.tick]

/-- A standby whose active is lost asserts FENCE_OUT and takes over at the next edge. -/
def State.decideTakeover (s : State) : State :=
  let s1 := s.setFence true
  s1.setPair { s1.pair with takeover := some (s.tick + 1), takeoverH := s.lastHeard }

/-- A standby that has lost the seam while the partner is visible becomes DEGRADED. -/
def State.degrade (s : State) : State :=
  let s1 := (((s.setDetail 0 true).setDetail 4 false).setNum Obj.syncState 0).timeFromSeam s.tickFlags
  (s1.setPair { s1.pair with joinAt := none, lines := [], wefts := [], items := [] }).seamLostTally true

/-- The decision at the second consecutive miss (R274). -/
def execSeamDecision (s : State) : Host.Outcome State Fault Refusal :=
  .next (if !s.inPair || !s.pair.deciding then s
    else
      let s1 := s.setPair { s.pair with deciding := false }
      let visible := s1.visibleAt s1.tick
      if s1.mode = .standby then
        -- a later miss of a DEGRADED standby only asks whether its active is still visible (R268)
        if visible then (if s1.degraded && s1.num Obj.heartbeatMisses ≠ 2 then s1 else s1.degrade)
        else if s1.synced && !s1.degraded then s1.decideTakeover
        else s1.leavePair
      else if s1.mode = .run then
        let s2 := (s1.setDetail 4 false).seamLostTally visible
        if visible then s2 else s2.setFence true
      else s1)

/-- A presence frame arrives (R271, R272); one that shows the partner not in RUN ends a DEGRADED standby (Table 9-8). -/
def execPresenceFrameReceive (rx : NetRx) (payload : List Byte) (s : State) : Host.Outcome State Fault Refusal :=
  .next (if !s.pairEnabled || !s.mode.answers then s
    else
      let (s1, ok) := s.prpTake rx
      let counter := u64At payload 16
      let tagOk := match s1.sendingKey s1.partnerSerialOf with
        | some key => decide (gcmTag key (presenceNonce counter) (payload.take 32) [] = payload.drop 32)
        | none => false
      if !ok || payload.length ≠ 48 || u32At payload 0 ≠ 0x52505A43 || u16At payload 6 ≠ s1.started Obj.stationNode ||
          u16At payload 4 = s1.num Obj.moduleNode || !tagOk || counter ≤ s1.pair.presenceSeen then s1
      else
        let t := u64At payload 8
        let st := u8At payload 24
        let s2 := s1.setPair { s1.pair with presenceSeen := counter, presenceTick := t, presenceState := st, presenceFlags := u8At payload 25 }
        let delay := s1.tick * tickNs + rx.ns - (t * tickNs + 232000)
        let s3 := (s2.setNum Obj.partnerState st).setNum Obj.presenceDelayMax (max (s2.num Obj.presenceDelayMax) (min delay (2 ^ 32 - 1)))
        if s3.mode = .standby && s3.degraded && decide (st ≠ Mode.run.code) then s3.leavePair else s3)

/-! ### Takeover and handover (R278 to R286) -/

/-- Cycles of the slower classes whose commit edge was h + 1, h + 2 or h + 3: class and cut-off (R280). -/
def lateCycles (h : Nat) : List (Nat × Nat) :=
  [CClass.f, CClass.m, CClass.s, CClass.l].filterMap fun c =>
    let n := classLen c
    ([h + 1, h + 2, h + 3].find? fun e => decide ((e - 1) % n = 0) && decide (n < e)).map fun e => (classCode c, e - 1 - n)

/-- The module that was standby drives the station (R278 steps 3 to 5); `skip` frames may have left under PRP_SEQ of the other. -/
def State.becomeActive (s : State) (skip : Nat) : State :=
  let seq := match s.pair.heard with | some c => c.prpSeq | none => 0
  let s1 := { s with mode := .run, startTick := none, prp := { s.prp with stationSeq := (seq + skip) % 65536 } }
  let s2 := (s1.setDetail 5 true).setNum Obj.syncState 0
  (s2.timeFromSeam s2.tickFlags).canRefresh.announceAll

/-- Edge h + 3 (R278): the module enters RUN, unless FENCE_IN is effective. -/
def execTakeover (s : State) : Host.Outcome State Fault Refusal :=
  .next (if s.mode = .standby && decide (s.pair.takeover = some s.nextEdge) && !s.fenceEffective then
      let h := s.pair.takeoverH
      let s1 := (s.setDetail 4 false).becomeActive 4096
      let s2 := s1.setPair { s1.pair with takeover := none, late := lateCycles h, pass := none, commitFrom := h + 4 }
      let s3 := { s2 with io := { s2.io with aoHold := true } }
      ((s3.setNum Obj.lastTakeoverTick (h + 3)).count Obj.takeovers).logTally 0x0607
        [low32 h, low32 (h + 3), s.pair.gaps, low32 (s.num Obj.lastMatchedTick)]
    else s)

/-- The first edge at or after h + 406.25 µs + T: from the commit frame for it on, the AO values are committed again (R284). -/
def execAoHoldEnd (s : State) : Host.Outcome State Fault Refusal :=
  .next (if s.io.aoHold && decide (s.pair.takeoverH * tickNs + 406250 + 1000 * s.num (Obj.silenceTimeout 1) ≤ s.nextEdge * tickNs) then
      { s with io := { s.io with aoHold := false } }
    else s)

/-- The packets of the cycles that commit at the boundary of a HANDOVER still leave in the tick that begins there (R127, R286). -/
def State.pdEdge (s : State) (t : Nat) : State := if s.eng.discard then s else s.pdCommit t

/-- A HANDOVER takes effect at its boundary (R286): the old active enters STANDBY, the standby RUN; both stay SYNCED. One that a decision
of Table 9-8 has overtaken is discarded. One that reaches the standby with the weft of the boundary itself finds the tick without a weft of its own: both
modules run it over the same gap weft (log entry 137). Accepted writes that wait for the cut-off of the boundary or a later one are discarded on the old
active, whose wefts end there (DESIGN CHOICE, log entry 148). -/
def execHandoverBoundary (s : State) : Host.Outcome State Fault Refusal :=
  .next (match s.command with
    | some c =>
      if c.code ≠ 5 || !s.due c.tick then s
      else if s.mode = .run then
        if !s.synced then s.commandDone false
        else
        let s0 := if c.tick = s.nextEdge then s.pdEdge c.tick else s
        let s1 := { s0.dropHeld with mode := .standby }
        let s2 := ((s1.setDetail 5 false).setNum Obj.syncState 4).setNum Obj.lastMatchedTick s.tick
        let s3 := s2.setPair { s2.pair with joinAt := none, pass := none, gaps := 0, weftAck := s.tick, commitFrom := 0
                                            parting := s.pair.outgoing, outgoing := [] }
        ((s3.setFence false).timeFollows.canAbandon.canRefresh).dropPassThrough.commandDone true
      else if s.mode = .standby && s.synced && s.pair.takeover.isNone then
        let s0 := if c.tick = s.tick && s.ticking && decide (s.pair.placed ≠ some s.tick) then s.gapWeft else s
        let s1 := s0.becomeActive 4096
        (s1.setPair { s1.pair with joinAt := none, commitFrom := c.tick + 1 }).commandDone true
      else s.commandDone false
    | none => s)

end Sys2Proof.Machine
end

