-- ==== Sys2Proof/Machine/Resets.lean ====
section
/-! DEFINITION. Reset episodes (chapter 15): sources, holds and the reach of the levels (Table 15-1), the close and the exit sequence
(Table 15-4), boot complete (Table 1-7), waking from LAYUP (R422) and HOLD (Table 1-8). -/

namespace Sys2Proof.Machine

/-! ### What a reset takes away -/

/-- A write transfer that ends without its content leaves its domain empty, and a bank's objects say so (R53, R84, R159). -/
def State.dropContent (s : State) (a : Nat) : State :=
  let s1 := s.setDomain a ⟨[], 0⟩
  if a = Obj.warpBankA then s1.clearBank 0 0
  else if a = Obj.warpBankB then s1.clearBank 1 0
  else if a = Obj.firmwareBankA then s1.clearFirmware 0
  else if a = Obj.firmwareBankB then s1.clearFirmware 1
  else if a = Obj.safetyParameterSet then s1.setNum Obj.pendingState 0
  else s1

/-- A transfer is discarded (R84). -/
def State.dropTransfer (s : State) (t : Transfer) : State :=
  let s1 := { s with clp := { s.clp with transfers := s.clp.transfers.filter fun x => decide (x.id ≠ t.id) } }
  if t.write then s1.dropContent t.addr else s1

/-- The protocol service restarts (R421, Table 3-2): transfers, subscriptions and sequence records end, and a new BOOT_ID is drawn. -/
def State.clpRestart (s : State) : State :=
  let s1 := s.clp.transfers.foldl State.dropTransfer s
  let (v, s2) := s1.drawFree
  { s2 with clp := { s2.clp with bootId := v.toNat % 2 ^ 32, seqs := [], transfers := [], subs := [] } }

/-- Indices whose objects show hardware, MRAM or backup content rather than a VOLATILE value, and so outlive a start. -/
def keptIndices : List Nat :=
  [0x0003, 0x0005, 0x2120, 0x5001, 0x7011]

/-- Objects that keep their value through a start from BOOT; every other returns to its stored value or its default (R48). -/
def keptAtStart (a : Nat) : Bool :=
  (keptIndices.contains (addrIndex a) && !(fixedRow? a).any (·.persistent)) ||
    [Obj.clockSources, Obj.xoFailed, Obj.domainSources, Obj.ircTrim, Obj.moduleNode, Obj.roleContact, Obj.storeLastFault].contains a

/-- Contents and blocks that every start from BOOT finds in their reset state (Tables 15-1 and 17-9). -/
def State.blocksReset (s : State) : State :=
  let fallback := s.optFallback
  let mirrored := s.pairEnabled && s.paired && (decide (s.num Obj.partnerState = Mode.run.code) || decide (s.num Obj.partnerState = Mode.standby.code))
  let lost := decide (s.warp.activation.isSome) && !mirrored
  let s1 := s.clpRestart.dropBankCopy
  let z := State.reset
  let p := s1.pair
  let s2 : State := { s1 with
    dict := s1.dict.filter fun e => keptAtStart e.1
    weftQueue := [], ended := [], shown := [], command := none, profileChange := none, restore := none
    tally := { s1.tally with headKnown := false, captured := [], issued := [] }
    face := { s1.face with queue := [], page := false, heldRegions := [], lastStart := none }
    clp := { s1.clp with arp := [], audits := [], sourceTimes := [], arpTimes := z.clp.arpTimes, icmpTimes := z.clp.icmpTimes, usbArpTimes := [], usbIcmpTimes := [] }
    eng := z.eng, warp := ⟨none, none, none, false, []⟩, time := z.time, can := z.can, pd := z.pd, stale := [], prp := z.prp
    pair := { z.pair with
      epoch := p.epoch, frameSeq := p.frameSeq, sent := p.sent, rxNext := p.rxNext, rxGot := p.rxGot, partnerPresent := p.partnerPresent
      fenceIn := p.fenceIn, fenceOut := p.fenceOut, presenceSeen := p.presenceSeen }
    startTick := none, captures := z.captures, loopsMissed := [], loopsHeld := [], tableRam := [], store := [], window := [], ticking := false, tickFlags := 0
    storeFault := s1.storeFault.map fun e => (e.1, true)
    island := { s1.island with lastMirror := none, pending := [] }
    domains := if (s1.domain Obj.safetyParameterSet).status = 3 then Assoc.erase s1.domains Obj.safetyParameterSet else s1.domains
    rst := { s1.rst with request := none, autoArmed := false, autoAt := none, activationLost := s1.rst.activationLost || lost } }
  s2.setDetail 1 fallback

/-! ### Reach (Table 15-1) -/

/-- Level C: host cores and lanes; every reset negates FENCE_OUT (R277). -/
def State.reachC (s : State) : State :=
  { s with eng := { s.eng with lanes := State.reset.eng.lanes } }.clpRestart.setFence false

/-- Level W: BOOT, with the contacts of R423. -/
def State.reachW (s : State) : State :=
  let s1 := ({ s with mode := .boot }.applyHeld).setFence false
  let s2 := s1.blocksReset
  { s2 with rst := { s2.rst with okContact := false, resetOut := true, waking := false } }

/-- Level S: the XO and the PLLs, with the root clock still gated while a clock failure waits; the field sides, the seam PHY, LPDDR4X with the
queue of R220, and the debug lock in force (R509). -/
def State.reachS (s : State) : State :=
  let s0 := s.pllsStop.setSource srcXo false
  let s1 := if s.rst.asserted.any fun e => e.1 == .clkFail then s0.setDomains [0] 2 else s0
  let s2 := ((s1.fieldStop .a).fieldStop .b).seamLost seamDown
  { s2 with dram := [], keys := { s2.keys with locked := s2.keys.lockFuse }, tally := { s2.tally with queue := [], dropped := 0, mirror := [] }
            clocks := { s2.clocks with refIrc := false, selfRefresh := false } }

/-- Level P: the island with group C, the cause register, the IRC with its judgement, and the supply: OFF until the supervisor releases
(R407, R409, R437). -/
def State.reachP (s : State) : State :=
  let s1 := s.fieldStop .c
  let s2 := (s1.setIsland s1.island.powerOff).showIsland.powerCycle
  let s3 := (s2.setNum Obj.clockSources 0).setDomains [0, 1] 2
  { s3 with mode := .off, rst := { s3.rst with cause := 2 ^ sourceBit .por }, clocks := { s3.clocks with lastCount := none } }

/-- The blocks that a level reaches and a narrower one, `old`, had not. -/
def State.reach (s : State) (old new : Nat) : State :=
  let s1 := if old < 1 && 1 ≤ new && new < 2 then s.reachC else s
  let s2 := if old < 2 && 2 ≤ new then s1.reachW else s1
  let s3 := if old < 3 && 3 ≤ new then s2.reachS else s2
  if old < 4 && 4 ≤ new then s3.reachP else s3

/-! ### Holds (R416 to R419) -/

/-- ResetCount advances (R419). -/
def State.countEpisode (s : State) : State :=
  let r := s.rst
  if r.count < 0xFFFFFFFF then { s with rst := { r with count := r.count + 1 } }
  else if r.saturated then s
  else { s with rst := { r with saturated := true } }.logTally tCounterOverflow [Obj.resetCount]

/-- An episode opens with its first source (R417). -/
def State.openEpisode (s : State) (level : ResetLevel) : State :=
  let s1 := s.countEpisode
  let (m, t, e) := s.rst.first.getD (s.mode, s.rtcNs, if s.ticking then some s.tick else none)
  let ep : Episode := ⟨0, level, level, m, t, s.localNs, if s.rst.exiting.isSome then 4 else 0, e⟩
  { s1 with rst := { s1.rst with episode := some ep, exiting := none, interrupted := s.rst.exiting, first := none } }

/-- An asserted source takes hold: it opens an episode or joins the open one, and the blocks of a wider level are reset at once (R417). -/
def State.hold (s : State) (src : ResetSource) (delayed : Bool) : State :=
  match s.rst.asserted.find? fun e => e.1 == src with
  | none => s
  | some (_, level) =>
    let s1 := if s.rst.episode.isNone then s.openEpisode level else s
    match s1.rst.episode with
    | none => s1
    | some e =>
      let old := match s.rst.episode with | some x => levelCode x.widest | none => 0
      let ep := { e with causes := putBit e.causes (sourceBit src) true, widest := widerLevel e.widest level
                         flags := putBit e.flags 0 (bit e.flags 0 || delayed) }
      let s2 : State := { s1 with rst := { s1.rst with
        episode := some ep, holding := if s1.rst.holding.contains src then s1.rst.holding else s1.rst.holding ++ [src] } }
      s2.reach old (levelCode ep.widest)

/-- A source takes hold. A reset request that waits for the edge joins the episode that it opens, its tally and response being written (Table
15-9). -/
def State.takeHold (s : State) (src : ResetSource) (delayed : Bool) : State :=
  if s.rst.episode.isNone && s.rst.request.isSome && s.rst.asserted.any fun e => e.1 == src then
    (s.assertRequest.hold src delayed).hold .request false
  else s.hold src delayed

/-- The newest operation of two pulses has stopped between them (R416): the second has not been written. -/
def State.stopBetween (s : State) : TwoPulses → State
  | .tally => { s with tally := { s.tally with sealA := s.tally.sealsBefore.1, sealB := s.tally.sealsBefore.2 } }
  | .option => { s with options := { s.options with copyA := s.options.before.1, copyB := s.options.before.2 } }

/-- A source has released. -/
def State.releaseSource (s : State) (src : ResetSource) : State :=
  { s with rst := { s.rst with asserted := s.rst.asserted.filter fun e => e.1 != src, holding := s.rst.holding.filter fun x => x != src } }

/-- A source asserts by its own event, and takes hold at once unless a pulse is running (R416). -/
def State.assertHold (s : State) (src : ResetSource) (asked : ResetLevel) (pulse : Bool) : State :=
  let s1 := s.assertSource src asked
  if pulse || decide (s1.rst.asserted = s.rst.asserted) then s1 else s1.takeHold src false

/-- The logic input is back inside its window (R413). -/
def execLogicSupplyRise (s : State) : Host.Outcome State Fault Refusal :=
  .next (if s.rst.asserted.any fun e => e.1 == .por then
      let s1 := s.releaseSource .por
      if s1.mode = .off then { s1 with mode := .boot } else s1
    else s)

/-- The logic input has been below 16.5 V for 10 ms, or a rail has left its window (R413). -/
def execLogicSupplyLoss (pulse : Bool) (s : State) : Host.Outcome State Fault Refusal := .next (s.assertHold .por .p pulse)

/-- One feed is lost while the other stands (R529). -/
def execFeedLoss (s : State) : Host.Outcome State Fault Refusal := .next (if s.mode = .off then s else s.count Obj.feedLosses)

/-- The host watchdog expires (R410). -/
def execWatchdogExpiry (pulse : Bool) (s : State) : Host.Outcome State Fault Refusal := .next (s.assertHold .watchdog .c pulse)

/-- DBG_RST_N, or a command over DBG_IO that names S or C (R414); a port that DBG_EN or the options disable takes neither
(DEDUCED, log entry 120). -/
def execDebugReset (port : DebugPins) (level : ResetLevel) (pulse : Bool) (s : State) : Host.Outcome State Fault Refusal :=
  .next (if s.keys.locked || !s.options.inForce.debugPort || !port.enabled then s
    else if port.pin then s.assertHold .debug .s pulse
    else if level = .s || level = .c then s.assertHold .debug level pulse else s)

/-- An asserted source takes hold (R416). -/
def execSourceTakesHold (src : ResetSource) (how : HoldFacts) (s : State) : Host.Outcome State Fault Refusal :=
  .next (if s.rst.asserted.any fun e => e.1 == src then
      (match how.stopped with | some op => s.stopBetween op | none => s).takeHold src how.delayed
    else s)

/-- RESET_N has been high for 10 ms (R412). -/
def execResetPinRelease (s : State) : Host.Outcome State Fault Refusal := .next (s.releaseSource .pin)

/-- 5 ms after it took hold an internal source releases (R411). The clock-failure source waits for the IRC (R415), and then the root clock
is on the IRC. -/
def execInternalSourceRelease (src : ResetSource) (s : State) : Host.Outcome State Fault Refusal :=
  .next (if src = .por || src = .pin || !s.rst.holding.contains src then s
    else if src = .clkFail then
      if s.source srcIrc then s.rootToIrc.releaseSource src
      else
        let held := s.rst.episode.map fun (e : Episode) => { e with flags := putBit e.flags 1 true }
        { s with rst := { s.rst with episode := held } }
    else s.releaseSource src)

/-! ### The close and the exit sequence (Table 15-4) -/

/-- An episode record (Table 15-7). -/
def Episode.record (e : Episode) (sequence durationUs : Nat) : Bytes :=
  let b := leBytes 4 sequence ++ leBytes 2 e.causes ++ [byte (levelCode e.widest + 16 * levelCode e.first), byte e.state.code] ++
    time96 e.assertNs ++ leBytes 4 (min durationUs 0xFFFFFFFF) ++ leBytes 4 e.flags
  b ++ leBytes 4 (crc32c b)

/-- The episode's record is written to its slot of the reset area; the last edge before it is kept for its tally (R433). -/
def ResetBlock.record1 (r : ResetBlock) (e : Episode) (durationUs : Nat) : ResetBlock :=
  { r with records := Assoc.set r.records (r.count % 4) (e.record r.count durationUs)
           recordEdges := Assoc.set r.recordEdges (r.count % 4) (match e.lastEdge with | some t => low32 t | none => 0xFFFFFFFF)
           unreported := r.unreported.filter (· ≠ r.count % 4) ++ [r.count % 4] }

/-! ### Backup RAM (R430, R470) -/

/-- Bytes 0 to 31 of the reset area (Table 15-6). -/
def ResetBlock.header (r : ResetBlock) : Bytes :=
  let t := fun i => leBytes 4 ((r.loopTimes[i]?).getD 0)
  let b := leBytes 4 r.count ++ [byte (b2n r.saturated), byte r.loopTimes.length] ++ zeros 2 ++ t 0 ++ t 1 ++ zeros 12
  b ++ leBytes 4 (crc32c b)

/-- A value with its CRC-32C; none is written with a CRC that fails. -/
def withCrc (n : Nat) (v : Option Nat) : Bytes :=
  match v with
  | some x => leBytes 4 x ++ leBytes 4 (crc32c (leBytes 4 x))
  | none => leBytes 4 n ++ leBytes 4 (crc32c (leBytes 4 n) + 1)

/-- The first 184 bytes of backup RAM as they were last written. -/
def State.backupRam (s : State) : Bytes :=
  s.rst.header ++ ((List.range 4).map fun k => s.rst.record k).flatten ++ withCrc 0 s.clocks.trimStored ++
    withCrc 0xFFFFFFFF (s.storeFault.map (·.1)) ++ withCrc 0 (s.rst.layup.map Mode.code)

/-- The same bytes as they read, some of them upset. -/
def upset (b : Bytes) (bad : List (BitVec 8 × Byte)) : Bytes := bad.foldl (fun (b : Bytes) e => b.set e.1.toNat e.2) b

/-- Whether the CRC over `n` bytes from `o` on, which follows them, holds. -/
def crcHolds (b : Bytes) (o n : Nat) : Bool := crc32c (slice b o n) = u32At b (o + n)

/-- Step 2 of a P-level exit that finds the backup domain lost (R430): the area is cleared, the present episode counts as 1 and leaves no
record but ResetCause; what else backup RAM held reads as none recorded (R443, R470), and time starts at 0 s (R304). -/
def State.backupLost (s : State) : State :=
  { (s.setFlag Obj.backupLost true).setNum Obj.storeLastFault 0xFFFFFFFF with
    rst := { s.rst with count := 1, saturated := false, loopTimes := [], records := [], recordEdges := [], unreported := [], layup := none
                        rtcLost := true }
    clocks := { s.clocks with trimStored := none }, storeFault := none, rtcNs := 0 }

/-- Backup RAM as the exit sequence reads it: a record keeps what it reads as, and a failed CRC is read as none recorded (R430, R470). -/
def State.readBackup (s : State) (bad : List (BitVec 8 × Byte)) : State :=
  if bad.isEmpty then s
  else
    let ram := upset s.backupRam bad
    let s1 : State := { s with
      rst := { s.rst with records := (List.range 4).map fun k => (k, slice ram (32 + 32 * k) 32), layup := if crcHolds ram 176 4 then s.rst.layup else none }
      clocks := { s.clocks with trimStored := if crcHolds ram 160 4 then s.clocks.trimStored else none } }
    if crcHolds ram 168 4 then s1 else { s1.setNum Obj.storeLastFault 0xFFFFFFFF with storeFault := none }

/-- Step 2 of an exit sequence: at P the header's CRC and the LRC's stop flag are checked (R430). -/
def State.checkBackup (s : State) (level : ResetLevel) (f : ExitFacts) : State :=
  if level = .p && (f.lrcStopped || !crcHolds (upset s.backupRam f.backup) 0 28) then s.backupLost else s.readBackup f.backup

/-- The option loader (R425, R426) over the copies as they read. -/
def OptionArea.load (o : OptionArea) (a b : Option Bytes) : OptionArea :=
  let o1 := { o with copyA := a.getD o.copyA, copyB := b.getD o.copyB }
  { o1 with inForce := match o1.a, o1.b with
      | some x, some y => if x.1 < y.1 then y.2 else x.2
      | some x, none => x.2
      | none, some y => y.2
      | none, none => ⟨true, false, true⟩ }

/-- Causes that count toward RESET_LOOP, and those that clear its window (R432). -/
def loopCauses : Nat := 2 ^ sourceBit .watchdog + 2 ^ sourceBit .canary + 2 ^ sourceBit .clkFail + 2 ^ sourceBit .lockstep
def clearCauses : Nat := 2 ^ sourceBit .por + 2 ^ sourceBit .pin + 2 ^ sourceBit .debug

/-- The window of fault W episodes (R432): the third within 600 s ends the boot in HOLD. -/
def ResetBlock.judgeLoop (r : ResetBlock) (e : Episode) : ResetBlock :=
  let t := low32 (e.assertNs / 1000000000)
  if Nat.land e.causes clearCauses ≠ 0 || decide (e.state = .hold) then { r with loopTimes := [] }
  else if e.widest ≠ .w || Nat.land e.causes loopCauses = 0 then r
  else
    let recent := r.loopTimes.filter fun x => decide ((t + 2 ^ 32 - x) % 2 ^ 32 < 600)
    if 2 ≤ recent.length then { r with holdAtExit := holdCauseCode .resetLoop } else { r with loopTimes := recent ++ [t] }

/-- Steps 3 and 4: fuses, trims and options. -/
def State.loadFuses (s : State) (f : ExitFacts) : State :=
  let s1 := s.trimLoad
  let s2 := s1.setNum Obj.fuseMapStatus (b2n f.fuseMismatch)
  let s3 : State := { s2 with options := s2.options.load f.optionA f.optionB
                              rst := { s2.rst with holdAtExit := if f.fuseMismatch then holdCauseCode .fuseDigest else s2.rst.holdAtExit } }
  s3.setDetail 1 (s3.options.a.isNone && s3.options.b.isNone)

/-- The exit sequence of `level` up to step 10, after the episode `e`, whose own level says what it has reset; `clkFail`: a clock failure is
among its causes. At C the sequence is the digest re-check of step 9, of which no rule gives a failure, and step 12. -/
def State.exitSequence (s : State) (e : Episode) (level : ResetLevel) (clkFail : Bool) (f : ExitFacts) : State :=
  let n := levelCode level
  let s1 := s.checkBackup level f
  let s2 : State := if 2 ≤ n then
    { s1.timeStart s1.rst.rtcLost with rst := { s1.rst with holdAtExit := 0 }, clocks := { s1.clocks with selfRefresh := false } } else s1
  let s3 := if 3 ≤ n then s2.loadFuses f else s2
  let s4 := if 3 ≤ n || clkFail then s3.clocksRestart clkFail else s3
  let s5 := { s4 with rst := s4.rst.judgeLoop e }
  let s6 := if 2 ≤ n then (s5.secureBoot (decide (3 ≤ n))).finishJournal else s5
  let s7 := if 3 ≤ levelCode e.widest then (s6.fieldStart .a).fieldStart .b else s6
  if e.widest = .p then s7.islandStart.fieldStart .c else s7

/-- The last source has released: the episode closes and the station leaves reset (R417, R420). In BOOT a C-level episode has interrupted a
wider exit sequence, or a wake, which starts again from its first step (DEDUCED from R418, log entry 125). -/
def execEpisodeClose (f : ExitFacts) (s : State) : Host.Outcome State Fault Refusal :=
  .next (match s.rst.episode with
    | none => s
    | some e =>
      if s.rst.asserted ≠ [] || s.mode = .off then s
      else
        let s1 := s.advance f.ns
        let level := if e.widest = .c then s.rst.interrupted.getD .c else e.widest
        let causes := if level = e.widest then e.causes else Nat.lor e.causes s.rst.exitCauses
        let s2 : State := { s1 with rst := { s1.rst.record1 e ((s1.localNs - e.holdNs) / 1000) with
          episode := none, holding := [], first := none, exiting := some level, interrupted := none, exitCauses := causes, closeNs := s1.localNs } }
        s2.exitSequence e level (bit causes (sourceBit .clkFail)) f)

/-! ### Step 11 -/

/-- Stored values replace defaults; one whose CRC fails is dropped (R48, R49). START values are latched (R43). -/
def State.loadStored (s : State) (damaged : List Nat) : State :=
  let bad := damaged.filter fun a => (Assoc.get? s.stored a).isSome
  let s1 := { s with stored := s.stored.filter fun e => !bad.contains e.1 }
  let s2 := s1.stored.foldl (fun s e => if isStationIx (addrIndex e.1) then s else s.setObj e.1 e.2) s1
  let s3 := { s2 with inForce := s2.stored.filter fun e => !isStationIx (addrIndex e.1) }
  bad.foldl (fun s a => (s.count Obj.damagedRecords).logTally 0x0103 [a]) s3

/-- The option loader has run since the last boot complete: not for a W-level exit, a C-level one or a wake (Table 15-4). -/
def State.optionsLoaded (s : State) : Bool := !s.rst.waking && decide (s.rst.exiting ≠ some .w)

/-- Option repair, and what the option objects report (R426, Table 15-8). -/
def State.repairOptions (s : State) : State :=
  let o := s.options
  let seq := match o.a, o.b with
    | some a, some b => max a.1 b.1 | some a, none => a.1 | none, some b => b.1 | none, none => 0
  let s1 := s.setNum Obj.optionSequence seq
  let s2 := match o.a, o.b with
    | some _, none => { (s1.setNum Obj.optionStatus 2).logTally 0x0C02 [1, seq] with options := { o with copyB := o.copyA } }
    | none, some _ => { (s1.setNum Obj.optionStatus 1).logTally 0x0C02 [0, seq] with options := { o with copyA := o.copyB } }
    | none, none =>
      let s2 := s1.setNum Obj.optionStatus 3
      if s.optionsLoaded then s2.logTally 0x0C03 [] else s2
    | some _, some _ => s1.setNum Obj.optionStatus 0
  let v := match s2.options.a, s2.options.b with
    | some a, some b => if a.1 < b.1 then b.2 else a.2
    | _, _ => o.inForce
  ((s2.setFlag Obj.optUsbEnable v.usb).setFlag Obj.optDebugEnable v.debugPort).setFlag Obj.optResetPin v.resetPin

/-- RESET_EPISODE for each record written since the last such tally (R433). -/
def State.reportEpisodes (s : State) : State :=
  let r := s.rst
  let news := (r.unreported.map fun k => (k, r.record k)).filter fun e => crcHolds e.2 0 28
  let s1 := news.foldl (fun (s : State) (k, b) => s.logTally 0x0C01
    [u16At b 4 + u8At b 6 % 16 * 65536 + u8At b 6 / 16 * 1048576 + u8At b 7 * 16777216, u32At b 0, u32At b 20,
      (Assoc.get? r.recordEdges k).getD 0xFFFFFFFF]) s
  { s1 with rst := { s1.rst with unreported := [] } }

/-- Addresses and identity of this start (R68, R516, R53). -/
def State.startIdentity (s : State) (addr : Nat) (roleHigh : Bool) : State :=
  let s1 := (s.setNum Obj.moduleNode (s.started Obj.nodeBase + addr)).setFlag Obj.roleContact roleHigh
  let s2 := (s1.setObj Obj.stationMac s1.stationMacBytes).setNum Obj.dictionaryVersion 0x00010000
  let s3 := s2.setNum Obj.bootLoaderVersion Config.bootLoaderVersion
  let s4 := s3.setObj Obj.safetySetDigest (match s3.island.set with | some b => setDigest b | none => zeros 32)
  { s4 with face := { s4.face with noAddress := decide (s4.ownIp = 0) } }

/-- The protocol service starts: a new START_COUNT for its nonces (R79), full buckets (R95). -/
def State.clpStart (s : State) : State :=
  let full := fun rate => (⟨rate * 100000000, s.localNs⟩ : Bucket)
  { s with clp := { s.clp with startCount := s.clp.startCount + 1, packets := 0
                               packetBucket := Vector.replicate 2 (full (s.num Obj.ratePackets))
                               bitBucket := Vector.replicate 2 (full (s.num Obj.rateBitsPerSecond * 1000)) } }

/-- The seam after a start: the key that SeamKeyId selects (R501), and with PairEnable a link that has stayed trained is UP and says HELLO (R254, R257). -/
def State.seamStart (s : State) : State :=
  let st := s.num Obj.seamState
  let s1 := (s.takeSeamKey.setNum Obj.seamRefusal 0).setPair { s.pair with retrained := false }
  if !s1.pairEnabled then (s1.setNum Obj.seamState seamDown).sidebandsNow
  else if st = seamIsUp || st = seamRefused then s1.setNum Obj.seamState seamIsUp else s1

/-- The services that step 11 starts. -/
def State.startServices (s : State) (f : BootFacts) : State :=
  let s0 := { s with keys := { s.keys with wrapFault := f.wrapBad } }
  let s1 := (s0.loadStored (f.damaged.map (·.toNat))).startIdentity f.addr.toNat f.roleHigh
  let s2 := (s1.repairOptions.fixHead.reportEpisodes.firmwareStarted.startKeys.reportJournal.clpStart).linksStart
  let s3 := s2.ptpStart.reportLoaded
  let s4 := (List.range 8).foldl State.setCanRates s3
  let s5 := (List.finRange 16).foldl State.hartEnable s4
  let s6 := if s5.rst.activationLost then (s5.setNum Obj.activationResult 4).setNum Obj.activationDetail 3 else s5
  let s7 := match s6.can.woke with
    | some (k, cause) => { s6.logTally 0x0904 [k, cause] with can := { s6.can with woke := none } }
    | none => s6
  { s7.seamStart with rst := { s7.rst with activationLost := false, rtcLost := false } }

/-- The bank that a boot does not select is verified after the decision, and locked until then (R163). -/
def State.verifyLater (s : State) (k : Nat) : State :=
  if s.bankImage k = [] then s.clearBank k 0 else (s.setDomain (bankDomain k) ⟨s.bankImage k, 3⟩).clearBank k 2

/-- The state that boot complete enters (Table 1-7), READY at most after damaged values (R49); a wake resumes the recorded one. Where damaged values meet
OPT_FALLBACK, or a wake that resumes SERVICE, no rule says which wins: the module stops in SERVICE, the narrower (DESIGN CHOICE, log entry 150). -/
def State.bootState (s : State) : State :=
  let k := s.num Obj.selectedBank
  let resumed := if s.rst.waking then s.rst.layup else none
  let mode := s.num Obj.startMode
  let wants := if s.rst.waking then decide (resumed = some .ready) else !s.optFallback && (decide (1 ≤ mode) || decide (s.num Obj.damagedRecords ≠ 0))
  let s1 := { s with mode := .service }
  let s2 := if wants then (s1.loadBank k).1 else s1.verifyBank k
  let auto := decide (s2.mode = .ready) && !s.rst.waking && decide (mode = 2) && decide (s2.num Obj.damagedRecords = 0)
  let s3 := s2.verifyLater (1 - k)
  { s3 with rst := { s3.rst with autoArmed := auto, readyNs := s3.localNs } }

/-- HOLD is entered, from RUN or STANDBY as the warp stops (Table 1-7). -/
def State.goHold (s : State) (code : Nat) : State :=
  let s1 := if s.mode.running then (s.dropActivation.leaveRun .hold) else s
  let s2 := { s1 with profileChange := none }.enterHold code
  { s2 with rst := { s2.rst with autoArmed := false, autoAt := none } }.canRefresh

/-- Boot complete (Table 1-7): the exit sequence has ended, and the module answers again. A module that a self-test has put into HOLD
stays there. After a C-level episode outside BOOT it is step 12: service resumes, and the state is unchanged (DESIGN CHOICE, log entry 126). -/
def execBootComplete (f : BootFacts) (s : State) : Host.Outcome State Fault Refusal :=
  .next (if s.rst.episode.isSome || (s.rst.exiting.isNone && !s.rst.waking) || s.firmware.running.isNone then s
    else if s.mode ≠ .boot && s.rst.exiting = some .c then { s.advance f.ns with rst := { s.rst with exiting := none } }
    else if !(s.mode = .boot || s.mode = .hold) then s
    else
      let s0 := s.advance f.ns
      let s1 := s0.startServices f
      let s2 := if s1.mode = .hold then s1 else s1.bootState
      let s3 := if s2.rst.holdAtExit ≠ 0 then s2.goHold s2.rst.holdAtExit else s2
      let ok := decide (s3.mode ≠ .hold)
      let s4 := if s.rst.waking then s3 else s3.setNum Obj.bootDuration ((s3.localNs - s3.rst.closeNs) / 1000000)
      let s5 : State := { s4 with rst := { s4.rst with exiting := none, waking := false, layup := none, resetOut := false, okContact := ok, holdAtExit := 0 } }
      let s6 := s5.canRefresh.fenceActs.sidebandsNow
      if s6.pairEnabled && s6.seamUp then s6.sendSeam seamTypeHello s6.helloBytes else s6)

/-! ### HOLD -/

/-- A HOLD cause occurs (Table 1-8). -/
def execHoldEntered (cause : BitVec 16) (s : State) : Host.Outcome State Fault Refusal :=
  .next (if s.mode = .off || s.mode = .layup || s.mode = .hold || !(1 ≤ cause.toNat && cause.toNat ≤ 6) then s else s.goHold cause.toNat)

/-- The die has stayed above 115 °C for 10 ticks (R523). -/
def execOvertemp (s : State) : Host.Outcome State Fault Refusal :=
  .next (if s.mode = .off || s.mode = .layup || s.mode = .hold then s else s.goHold (holdCauseCode .overtemp))

/-- A pass of the Store scrubber, or an error that another reader of the Store meets (R467). An uncorrectable error is a Canary die fault;
one at an address that failed before the last W-level reset takes the station to HOLD. -/
def execScrubPass (ticks : Option (BitVec 32)) (corrected : BitVec 32) (uncorrectable : Option (BitVec 32 × BitVec 32)) (s : State) :
    Host.Outcome State Fault Refusal :=
  let s0 := match ticks with | some n => s.setNum Obj.scrubPassTicks n.toNat | none => s
  let s1 := s0.count Obj.storeCorrected corrected.toNat
  .next (if s.mode = .off || s.mode = .layup then s
    else match uncorrectable with
      | none => s1
      | some (a, syndrome) =>
        let again := decide (s.storeFault = some (a.toNat, true)) && decide (s.mode ≠ .hold)
        let s2 := (s1.count Obj.storeUncorrectable).setNum Obj.storeLastFault a.toNat
        let s3 := if again then s2.goHold (holdCauseCode .storeUncorrectable) else { s2 with storeFault := some (a.toNat, false) }
        s3.dieFault .storeEcc 0xFF a.toNat syndrome.toNat)

/-! ### Waking from LAYUP (R23, R422) -/

/-- A wake: steps 5 to 11, no episode. Whether the record of the backup domain is good is an operand of each wake source. -/
def State.wakeUp (s : State) (recordBad : Bool) : State :=
  let s1 := { s with mode := .boot }.blocksReset
  let s2 : State := { s1 with rst := { s1.rst with
    waking := true, holdAtExit := 0, okContact := false, layup := if recordBad then none else s1.rst.layup } }
  (((s2.timeStart false).clocksRestart false).secureBoot false).finishJournal

/-- An enabled wake source is asserted. -/
def execWake (src : WakeSource) (recordBad : Bool) (s : State) : Host.Outcome State Fault Refusal :=
  let n := match src with | .usbVbus => 1 | .door => 2 | .rtcAlarm => 3
  let due := decide (src ≠ .rtcAlarm) || decide (time96Ns (s.obj Obj.layupAlarm) ≠ 0)
  .next (if s.mode = .layup && bit (s.num Obj.layupWake) n && due then s.wakeUp recordBad else s)

/-- A sleeping channel judges what it sees (R333); CAN_WAKE is written after the boot. -/
def execCanWake (channel : Fin 8) (seen : CanWaking) (s : State) : Host.Outcome State Fault Refusal :=
  .next (if s.mode ≠ .layup || !bit (s.num Obj.layupWake) 0 then s
    else
      let (cause, n) := s.canWakeJudge channel seen.event
      match cause with
      | none => s.setChan channel { s.chan channel with wakeErrors := n }
      | some c =>
        let s1 := s.wakeUp seen.recordBad
        { s1 with can := { s1.can with woke := some (channel.val + 1, c) } })

/-- RESET_N is taken as asserted (R412). With OptResetPin false it only wakes (Table 15-8). -/
def execResetPinAssert (pin : PinAssert) (s : State) : Host.Outcome State Fault Refusal :=
  .next (if s.options.inForce.resetPin then s.assertHold .pin .s pin.pulse else if s.mode = .layup then s.wakeUp pin.recordBad else s)

end Sys2Proof.Machine
end

