-- ==== Sys2Proof/Machine/Station.lean ====
section
/-! DEFINITION. What happens at the boundaries of the lifecycle (chapter 01): starts (R103, R128), STOP (R129), profile changes (R27); the
completion of a bank's verification (R161, R163) and activation (R164 to R170). -/

namespace Sys2Proof.Machine

/-! ### Starts -/

/-- The next L-cycle boundary (R19). -/
def State.nextL (s : State) : Nat := nextBoundary (s.nextEdge - 1)

/-- The automatic start of R103: lock has come, or LockWait has passed, since READY was entered. It is scheduled for the next boundary. -/
def execAutomaticStart (s : State) : Host.Outcome State Fault Refusal :=
  let locked := decide (s.num Obj.tickSource = 0)
  let waited := decide (s.rst.readyNs + s.num Obj.lockWait * 1000000000 ≤ s.localNs)
  .next (if s.mode = .ready && s.rst.autoArmed && !s.optFallback && (locked || waited) then
      { s with rst := { s.rst with autoArmed := false, autoAt := some s.nextL } }
    else s)

/-- A start is no longer awaited. -/
def State.noAuto (s : State) : State :=
  { s with rst := { s.rst with autoArmed := false, autoAt := none }, warp := { s.warp with restart := none } }

/-- A pending START, or an automatic start, at its boundary (R128, Table 9-3). After a step of time the start comes at the first boundary
at or after its tick. -/
def execStartBoundary (s : State) : Host.Outcome State Fault Refusal :=
  let b := s.nextEdge
  let commanded := s.command.any fun c => decide (c.code = 3) && decide (c.tick ≤ b)
  let auto := s.rst.autoAt.any fun t => decide (t ≤ b)
  .next (if b % hyperTicks ≠ 0 || !(commanded || auto) then s
    else if s.mode = .ready then
      let (s1, ok) := s.noAuto.startAt b
      if commanded then s1.commandDone ok else s1
    else
      let s1 := { s with rst := { s.rst with autoAt := none } }
      if commanded then s1.commandDone false else s1)

/-! ### Verification of a bank -/

/-- A LOAD ends with the verification of its bank (R163). -/
def State.finishLoad (s : State) (k : Nat) : State :=
  let s1 := { s with warp := { s.warp with loading := false } }
  let (s2, ok) := if s1.mode = .service then (s1.refuseAbsent k).installBank k else (s1, false)
  s2.setNum Obj.commandResult (if ok then 2 else 3)

/-- A verification completes (R161): for a write, with WARP_VERIFIED and the audit tally of R57. -/
def execWarpVerified (bank : Fin 2) (s : State) : Host.Outcome State Fault Refusal :=
  let k := bank.val
  .next (if s.num (Obj.bankState k) ≠ 2 then s
    else
      let a := bankDomain k
      let s1 := s.verifyBank k
      let ok := s1.bankValid k
      let s3 := if ok && s.warp.written.contains k then
          let t := s1.logTally 0x0201 [k, first4 (s1.obj (digestObj k)), s1.num (Obj.provenProfiles k), s1.num (Obj.imageLength k)]
          match Assoc.get? s.clp.audits a with
          | some r => t.audit r a 15 (s1.bankImage k)
          | none => t
        else s1
      let s4 := { s3 with clp := { s3.clp with audits := Assoc.erase s3.clp.audits a }
                          warp := { s3.warp with written := s3.warp.written.filter (· ≠ k) } }.refreshHello
      if s4.warp.loading && decide (s4.num Obj.selectedBank = k) then s4.finishLoad k
      else if s4.pair.fetching && s4.mode = .service then s4.joinLoad else s4)

/-! ### Activation -/

/-- Staging completes on the copy in LPDDR4X (R167), or finds a section whose CRC fails (Table 5-17): the active module's activation fails at once, and
the outcome goes to the standby with the next weft (DEDUCED, log entry 138); a standby's stays unstaged. A hitless activation needs a free page for each differing one; one through READY loads its whole configuration
afresh (R454). -/
def execActivationStaging (crcFault : Option (Fin 64)) (s : State) : Host.Outcome State Fault Refusal :=
  .next (match s.warp.activation, s.warp.loaded with
    | some a, some old =>
      if a.staged.isSome then s
      else match crcFault with
        | some k =>
          let s1 := if s.mode = .standby then s else s.endActivation 4 2
          let s2 := if s.mode = .run then s1.carryItem (some (.outcome false)) else s1
          let img := s2.bankImage a.target
          let s3 := (s2.setDomain (bankDomain a.target) ⟨img, 4⟩).clearBank a.target 4
          (((s3.setNum (Obj.refusalReason a.target) 7).setNum (Obj.refusalDetail a.target) k.val).setObj (digestObj a.target) (imageDigest img)).refreshHello
        | none =>
          let img := loadImage a.target (s.bankImage a.target)
          { s with warp := { s.warp with activation := some { a with staged := if a.hitless then mapPages old img else some img } } }
    | _, _ => s)

/-- The decision cut-off, tick T − 4,000 (R167): the active module's own staging decides, and the outcome travels with that weft. -/
def execActivationDecision (s : State) : Host.Outcome State Fault Refusal :=
  .next (match s.warp.activation with
    | some a =>
      if s.mode = .run && !a.decided && hyperTicks ≤ a.tick && s.due (a.tick - hyperTicks) then
        (s.decideActivation a.staged.isSome).carryItem (some (.outcome a.staged.isSome))
      else s
    | none => s)

/-- Stored values that a hitless activation discards (R168 step 3): loop configurations, gain tables and alarm configurations. -/
def isConfigObject (a : Nat) : Bool :=
  let ix := addrIndex a
  (isLoopIx ix && (loopCfgField (addrSub a)).isSome) || isGainIx ix || isGroupIx ix

/-- Every running test stops with STOPPED_ACTIVATION (R248); its capture remains (R251). -/
def State.stopTests (s : State) : State := (List.range s.loopCount).foldl (fun s j => s.testEnd j 6 (s.weftTick (loopClass (s.loopCfg j)))) s

/-- What every activation that takes effect leaves (R167, R169). -/
def State.activated (s : State) (a : PendingActivation) (old new : Bytes) (result : Nat) : State :=
  let s1 := ((s.endActivation result 0).selectBank a.target).logTally 0x0203 [first4 old, first4 new, low32 a.tick]
  s1.setPair { s1.pair with partner := s1.pair.partner.map fun (h : SeamHello) => { h with bank := a.target } }

/-- A hitless activation (R168): the configuration is the new image's, the state is carried. -/
def State.swapImage (s : State) (a : PendingActivation) (new : Loaded) (old : Bytes) : State :=
  let s1 := s.stopTests
  let gone := s1.stored.filter fun e => isConfigObject e.1
  let s2 : State := { s1 with
    warp := { s1.warp with loaded := some new }
    stored := s1.stored.filter fun e => !isConfigObject e.1
    dict := s1.dict.filter fun e => !isGroupIx (addrIndex e.1) }
  let s3 := if gone.isEmpty then s2 else s2.logTally 0x0204 [gone.length]
  (s3.loadTables.reportLoaded.activated a old new.digest 2).reportGroups

/-- An activation through READY (R169); `restart` unless a STOP takes effect with it. -/
def State.swapThroughReady (s : State) (a : PendingActivation) (new : Loaded) (old : Bytes) (restart : Bool) : State :=
  let active := decide (s.mode = .run)
  let s1 := (s.stopTests.leaveRun .ready).setLoaded new
  let s2 := s1.activated a old new.digest 3
  { s2 with warp := { s2.warp with restart := if restart then some (a.tick + hyperTicks, active) else none } }

/-- The pending activation takes effect at T. A module in RUN that has received no outcome, or has not staged the image, has taken over since the
decision: its own staging decides (Table 5-18). A standby that has not staged it leaves the pair (R167), and so does one without the outcome
(DEDUCED, log entry 46). -/
def State.activate (s : State) (a : PendingActivation) (restart : Bool) : State :=
  match a.staged, s.warp.loaded with
  | some new, some old =>
    if s.mode = .standby && !a.decided then s.leavePair
    else if a.hitless then s.swapImage a new old.digest else s.swapThroughReady a new old.digest restart
  | _, _ => if s.mode = .standby then s.leavePair else s.endActivation 4 1

/-- Boundary T. A STOP at the same boundary acts by its own row (Table 5-18). -/
def execActivation (s : State) : Host.Outcome State Fault Refusal :=
  .next (match s.warp.activation with
    | some a => if s.mode.running && s.due a.tick && !(s.command.any fun c => decide (c.code = 4) && decide (c.tick = a.tick)) then s.activate a true else s
    | none => s)

/-- Boundary T + 4,000 after an activation through READY: the module starts in its former role, whatever StartMode says (R169). -/
def execActivationRestart (s : State) : Host.Outcome State Fault Refusal :=
  .next (match s.warp.restart with
    | some (t, active) =>
      if !s.due t then s
      else
        let s1 := s.noAuto
        if s.mode ≠ .ready then s1 else if active then s1.enterRun t else s1.enterStandby t
    | none => s)

/-! ### STOP and profile changes -/

/-- A pending STOP takes effect (R129): from the active for the station, so that a SYNCED standby stops with it, told by the weft of the boundary where the
command came in its last tick (R20); from a standby for itself.
A decided activation of the same boundary applies, without a restart (Table 5-18). -/
def execStopBoundary (s : State) : Host.Outcome State Fault Refusal :=
  .next (match s.command with
    | some c =>
      if c.code ≠ 4 || !s.due c.tick then s
      else if !s.mode.running then s.commandDone false
      else if c.mirrored && s.mode = .standby && !s.synced then s.commandDone false
      else
        let s1 := match s.warp.activation with
          | some a => if a.tick = c.tick then s.activate a false else s
          | none => s
        let s2 := if s1.mode.running then s1.dropActivation.leaveRun .ready else s1
        s2.commandDone true
    | none => s)

/-- A profile change takes effect (R27): the profile of the L cycle that begins, and its fixed setting. -/
def execProfileChange (s : State) : Host.Outcome State Fault Refusal :=
  .next (match s.profileChange with
    | some (p, b) =>
      if !s.due b then s
      else
        let s1 := { s with profileChange := none }
        if s1.warp.loaded.isNone then s1
        else
          let s2 := s1.setNum Obj.activeProfile p
          if s2.mode.running then s2.applySetting b else s2
    | none => s)

end Sys2Proof.Machine
end

