-- ==== Sys2Proof/Machine/Clp.lean ====
section
/-! DEFINITION. CLP packets (chapter 03): status and command codes, packets and their seal (R71, R77), responses and the sequence record
(R73, R74), reads (R82, R83) and IDENTIFY (R85). A row of a request is the request executed: it has passed step 11 of Table 3-4. -/

namespace Sys2Proof.Machine

/-! ### Codes (Tables 3-5, 3-6) -/

namespace Status

abbrev ok : Nat := 0
abbrev badHeader : Nat := 0x0101
abbrev badVersion : Nat := 0x0102
abbrev unknownCommand : Nat := 0x0103
/-- Firmware fault (Table 3-6). -/
abbrev internal : Nat := 0x0F01
abbrev badLength : Nat := 0x0104
abbrev tooLarge : Nat := 0x0105
abbrev sequence : Nat := 0x0106
abbrev authRequired : Nat := 0x0107
abbrev wrongInterface : Nat := 0x0108
abbrev noObject : Nat := 0x0201
abbrev noSubindex : Nat := 0x0202
abbrev readOnly : Nat := 0x0203
abbrev writeOnly : Nat := 0x0204
abbrev stateConflict : Nat := 0x0205
abbrev typeMismatch : Nat := 0x0206
abbrev range : Nat := 0x0207
abbrev busy : Nat := 0x0208
abbrev storageFault : Nat := 0x0209
abbrev profileUnproven : Nat := 0x020A
abbrev transferUnknown : Nat := 0x0301
abbrev offset : Nat := 0x0302
abbrev lengthMismatch : Nat := 0x0303
abbrev domainCrc : Nat := 0x0304
abbrev tooManyTransfers : Nat := 0x0305
abbrev noSubscription : Nat := 0x0401
abbrev tooManySubscriptions : Nat := 0x0402

end Status

namespace Cmd

abbrev identify : Nat := 0x01
abbrev read : Nat := 0x10
abbrev write : Nat := 0x11
abbrev readMulti : Nat := 0x12
abbrev writeMulti : Nat := 0x13
abbrev writeBegin : Nat := 0x20
abbrev writeSegment : Nat := 0x21
abbrev writeEnd : Nat := 0x22
abbrev readBegin : Nat := 0x23
abbrev readSegment : Nat := 0x24
abbrev abort : Nat := 0x25
abbrev status : Nat := 0x26
abbrev pd : Nat := 0x30
abbrev subscribe : Nat := 0x40
abbrev unsubscribe : Nat := 0x41
abbrev event : Nat := 0x42
abbrev eventAck : Nat := 0x43
abbrev reset : Nat := 0x50

end Cmd

/-! ### Packets -/

/-- A header (Table 3-2). -/
def clpHeader (command flags seq source dest status length key bootId nonce : Nat) : Bytes :=
  leBytes 4 0x39504C43 ++ [1, byte command] ++ leBytes 2 flags ++ leBytes 2 seq ++ leBytes 2 source ++ leBytes 2 dest ++ leBytes 2 status ++
    leBytes 2 length ++ [byte key, 0] ++ leBytes 4 bootId ++ leBytes 8 nonce

/-- The nonce of a packet (R77), from its header. -/
def clpNonce (h : Bytes) : Bytes := slice h 24 8 ++ slice h 10 2 ++ [byte (u16At h 6 % 2), 0]

/-- A packet: header and payload, and under a key the tag (R77). -/
def sealPacket (key : Option Bytes) (h payload : Bytes) : Bytes :=
  match key with
  | none => h ++ payload
  | some k =>
    if bit (u16At h 6) 2 then
      let ct := gcmCrypt k (clpNonce h) payload
      h ++ ct ++ gcmTag k (clpNonce h) h ct
    else h ++ payload ++ gcmTag k (clpNonce h) (h ++ payload) []

/-- The payload of a packet with AUTH whose tag verifies under a key (R77). -/
def openPacket (k wire : Bytes) : Option Bytes :=
  let h := wire.take 32
  let n := u16At h 16
  let text := slice wire 32 n
  let tag := slice wire (32 + n) 16
  if bit (u16At h 6) 2 then if gcmTag k (clpNonce h) h text = tag then some (gcmCrypt k (clpNonce h) text) else none
  else if gcmTag k (clpNonce h) (h ++ text) [] = tag then some text else none

/-- A packet of the station; the NONCE_COUNTER of R79 where it is authenticated. `auth`: key slot and key. -/
def State.packet (s : State) (command flags seq source dest status : Nat) (auth : Option (Nat × Bytes)) (encrypt : Bool) (payload : Bytes) :
    Bytes :=
  let (f, slot, nonce) := match auth with
    | some (slot, _) => (flags + 2 + (if encrypt then 4 else 0), slot, s.clp.startCount * 2 ^ 40 + s.clp.packets % 2 ^ 40)
    | none => (flags, 0, 0)
  sealPacket (auth.map (·.2)) (clpHeader command f seq source dest status payload.length slot s.clp.bootId nonce) payload

/-- A packet has been sent (R79). -/
def State.countPacket (s : State) : State := { s with clp := { s.clp with packets := s.clp.packets + 1 } }

/-- The payload area of an interface (R71), and what of it a request's tag leaves to a payload. -/
def State.payloadArea (s : State) (usb : Bool) : Nat := if !usb && s.flag Obj.jumboDeclared then 8960 else 1440
def State.payloadRoom (s : State) (r : Req) : Nat := s.payloadArea (decide (r.iface = .usb)) - if r.auth.isSome then 16 else 0

/-- The source node of a request: 0xFFFF over USB (R69). -/
def Req.node (r : Req) : Nat := if r.iface = .usb then 0xFFFF else r.source % 65536

/-! ### Responses -/

/-- What a request is answered with: its status and its payload. -/
structure Reply where
  status : Nat
  payload : Bytes
  deriving DecidableEq, Repr

/-- A refusal with nothing but its code. -/
def refusal (code : Nat) : Reply := ⟨code, []⟩

/-- The head of a packet at the service port, from the module's second MAC address (R528). -/
def State.usbHead (s : State) (r : Req) (b : Bytes) : NetHead :=
  let port := s.started Obj.clpPort
  { dst := none, src := some (beNat (fit 6 (s.obj Obj.usbMac))), tag := none, etherType := etherIpv4, ip := some (usbStationIp, r.ip)
    udp := some (port, r.port, udpChecksum usbStationIp r.ip port r.port b) }

/-- A packet goes to where a request came from, on its interface (R73), from the address that was asked (R255). -/
def State.sendTo (s : State) (r : Req) (b : Bytes) : State :=
  if r.iface = .usb then { s with out := s.out ++ [(⟨.clp, 2, r.ip * 65536 + r.port, b, some (s.usbHead r b)⟩ : Sent)] }
  else s.udpSend .clp r.ip (s.started Obj.clpPort) r.port (s.holdsStation && decide (r.toIp = s.stationIp)) b

/-- A response (R73), sealed with `key` in the request's slot; and its bytes. A request to node 0 is answered by the module (R69). -/
def State.respond (s : State) (key : Option Bytes) (r : Req) (command : Nat) (x : Reply) : State × Bytes :=
  let auth := match r.auth, key with
    | some slot, some k => some (slot, k)
    | _, _ => none
  let source := if r.dest = 0 then s.num Obj.moduleNode else r.dest
  let b := s.packet command 1 r.seq source (Req.node r) x.status auth r.encrypt x.payload
  let s1 := if x.status = Status.badHeader then s.count Obj.badHeader else s
  (s1.countPacket.sendTo r b, b)

/-- The sequence record of a source node. -/
def State.seqRecord (s : State) (node : Nat) : Option SeqRecord := s.clp.seqs.find? fun x => decide (x.source = node)

/-- The record of a source is discarded (R75). -/
def State.forget (s : State) (node : Nat) : State :=
  { s with clp := { s.clp with seqs := s.clp.seqs.filter fun x => decide (x.source ≠ node) } }

/-- A request has been executed with a response: its SEQUENCE is the newest, and the response is one of the last 16 (R74). -/
def State.remember (s : State) (r : Req) (b : Bytes) : State :=
  let old := match s.seqRecord (Req.node r) with | some x => x.cache | none => []
  let s1 := s.forget (Req.node r)
  { s1 with clp := { s1.clp with seqs := s1.clp.seqs ++ [⟨(Req.node r), r.seq, ((r.seq, b) :: old).take 16⟩] } }

/-- The protocol service takes a request from an interface: a state that answers (R81), and an address on the network (R70). -/
def State.servesReq (s : State) (r : Req) : Bool := s.serves && (decide (r.iface = .usb) || decide (s.ownIp ≠ 0))

/-- Steps 12 and 13 with their outcome. Where the firmware fails in them the request has no effect: INTERNAL, and its tally (Table 3-6;
which requests fail is an operand, log entry 38). -/
def State.attempt (s : State) (r : Req) (command : Nat) (act : State → State × Reply) : State × Reply :=
  let s1 := s.count Obj.requestsExecuted
  if r.fails then (s1.logTally 0x0107 [command % 256 * 256 + r.seq % 65536 * 65536], refusal Status.internal) else act s1

/-- A request executed: steps 12 and 13, the response, and its place in the cache. The response is sealed with the key that verified the
request (R500). -/
def State.request (s : State) (r : Req) (command : Nat) (act : State → State × Reply) : State :=
  if s.servesReq r then
    let key := r.auth.bind s.conduitKey
    let (s1, x) := s.attempt r command act
    let (s2, b) := s1.respond key r command x
    s2.remember r b
  else s

/-! ### IDENTIFY (R85) -/

/-- The payload of an IDENTIFY response (R85). A StationNode of 0 is reported as the node number in force, this module's own (R68; DESIGN
CHOICE, log entry 33). -/
def State.identity (s : State) (usb : Bool) : Bytes :=
  leBytes 2 (s.num Obj.moduleNode) ++ leBytes 2 s.stationNodeOf ++ [byte s.mode.code, 0] ++ s.current Obj.stationStateDetail ++ s.ownSerial ++
    leBytes 4 (s.num Obj.dictionaryVersion) ++ [byte (s.num Obj.activeWarpBank), byte (s.num Obj.jumboDeclared), byte (s.num Obj.authModeNetwork),
      byte (s.num Obj.authModeUsb)] ++ leBytes 2 (s.payloadArea usb) ++ [byte (if s.warp.loaded.isSome then s.num Obj.activeProfile else 0), 0]

/-- IDENTIFY with its payload, which is empty: the source's record is discarded first, and the response never cached (R75). -/
def State.identify (s : State) (r : Req) (b : Bytes) : State :=
  if s.servesReq r then
    let (s1, x) := (s.forget (Req.node r)).attempt r Cmd.identify fun s =>
      (s, if b.isEmpty then ⟨Status.ok, s.identity (decide (r.iface = .usb))⟩ else refusal Status.badHeader)
    (s1.respond (r.auth.bind s.conduitKey) r Cmd.identify x).1
  else s

def execIdentify (req : Req) (s : State) : Host.Outcome State Fault Refusal := .next (s.identify req [])

/-! ### Reads -/

/-- A capture domain's shuttle pair. -/
def capturePair (a : Nat) : Option Nat := if Obj.loopCapture 0 ≤ a && a ≤ Obj.loopCapture 7 then some (a - Obj.loopCapture 0) else none

/-- The delivered image still in a firmware bank (R530). -/
def State.deliveredImage (s : State) (a : Nat) : Option Bytes :=
  if a = Obj.firmwareBankA && s.firmware.delivered[0] then some (Config.deliveredFirmware 0)
  else if a = Obj.firmwareBankB && s.firmware.delivered[1] then some (Config.deliveredFirmware 1) else none

/-- The content of a domain with its status: the export and the captures as they stand (R483, R250), a user image never written all
white (R486). -/
def State.domainNow (s : State) (a : Nat) : Domain :=
  if a = Obj.tallyExport then ⟨s.exportTallies.1, 1⟩
  else match capturePair a, s.deliveredImage a with
    | some q, _ => ⟨s.captureDomain q, 1⟩
    | none, some b => ⟨b, 1⟩
    | none, none => if a = Obj.faceplateUserImage && (Assoc.get? s.domains a).isNone then ⟨zeros 2368, 1⟩ else s.domain a

/-- Channel and buffer of a receive buffer record (Table 11-7). -/
def rxBufferOf (a : Nat) : Option (Fin 8 × Nat) :=
  let k := (a - Obj.canRxBuffer 0 0) / 0x1000
  let b := (a - Obj.canRxBuffer 0 0) % 0x1000
  if Obj.canRxBuffer 0 0 ≤ a && k < 8 && b < 64 then some (Fin.ofNat 8 k, b) else none

/-- The checks of a read (R45): steps 1 to 3. -/
def State.readCode (s : State) (a : Nat) : Nat :=
  if !s.indexDefined (addrIndex a) then Status.noObject
  else match s.objRow? a with
    | none => Status.noSubindex
    | some o => if o.access = .wo then Status.writeOnly else Status.ok

/-- The bytes that a read returns: a domain's descriptor (R39), a buffer record (R325), or the value. -/
def State.readBytes (s : State) (a : Nat) : Bytes :=
  match s.objRow? a, rxBufferOf a with
  | some o, none => if o.type = .domain then (s.domainNow a).descriptor else s.readValue a
  | _, some (k, b) => s.bufferRecord k b
  | none, none => []

/-- What reading leaves: a buffer read whole is released (R325), a damaged record looked at is counted (R481). -/
def State.afterRead (s : State) (a : Nat) : State :=
  if s.readCode a ≠ Status.ok then s
  else if a = Obj.tallyRecord || a = Obj.tallyStatus then s.inspect (s.num Obj.tallySelect)
  else match rxBufferOf a with
    | some (k, b) => s.mapBuffer k b fun x => x.release true
    | none => s

/-- One item of a read (R82): type code, length and value, or type code 0 and the error. -/
def State.readItem (s : State) (a : Nat) : Bytes :=
  let c := s.readCode a
  if c ≠ Status.ok then [0, 0] ++ leBytes 2 c
  else
    let v := s.readBytes a
    [byte (match s.objRow? a with | some o => typeCode o.type | none => 0), 0] ++ leBytes 2 v.length ++ v

/-- READ (R82). -/
def State.readOne (s : State) (a : Nat) : State × Reply :=
  let c := s.readCode a
  if c ≠ Status.ok then (s, refusal c) else (s.afterRead a, ⟨Status.ok, s.readItem a⟩)

def execRead (req : Req) (addr : BitVec 32) (s : State) : Host.Outcome State Fault Refusal :=
  .next (s.request req Cmd.read fun s => s.readOne addr.toNat)

/-- READ_MULTI (R82, R83): every item at one instant, or none. -/
def State.readAll (s : State) (r : Req) (as : List Nat) : State × Reply :=
  if as = [] || 64 < as.length then (s, refusal Status.badHeader)
  else
    let b := as.flatMap s.readItem
    if s.payloadRoom r < b.length then (s, refusal Status.tooLarge) else (as.foldl State.afterRead s, ⟨Status.ok, b⟩)

def execReadMulti (req : Req) (addrs : List (BitVec 32)) (s : State) : Host.Outcome State Fault Refusal :=
  .next (s.request req Cmd.readMulti fun s => s.readAll req (addrs.map (·.toNat)))

/-- 10 s without a request from a source (R75). -/
def execSequenceRecordExpiry (source : BitVec 16) (s : State) : Host.Outcome State Fault Refusal := .next (s.forget source.toNat)

end Sys2Proof.Machine
end

