-- ==== Sys2Proof/Machine/Writes.lean ====
section
/-! DEFINITION. Writes to the dictionary (chapter 02): the checks of Table 2-3 with every object's own rules, acceptance, audit, effect times
(R43, R44, R58), the effect of each object, restore-defaults (R51), forwarding to the standby (R265), WRITE and WRITE_MULTI (R47, R82), and the
rows that are writes of one object. -/

namespace Sys2Proof.Machine

/-! ### Form of a value (R38, R40) -/

/-- The `k` below `n` whose object `f k` lies at an address. -/
def unitAt (f : Nat → Nat) (n a : Nat) : Option Nat := (List.range n).find? fun k => decide (f k = a)
def isUnit (f : Nat → Nat) (n a : Nat) : Bool := (unitAt f n a).isSome

/-- Step 5 of Table 2-3. -/
def lengthOk (t : ObjType) (v : Bytes) : Bool :=
  match t with
  | .vstring => decide (1 ≤ v.length) && decide (v.length = 1 + u8At v 0)
  | .domain => false
  | t => decide (v.length = typeSize t)

/-- Loop subindices whose Meaning admits +∞ (Table 2-1). -/
def admitsInfinity (a : Nat) : Bool := isLoopIx (addrIndex a) && (decide (addrSub a = 0x09) || decide (addrSub a = 0x0B))

/-- The encoding rules of Table 2-1. -/
def encodingOk (t : ObjType) (a : Nat) (v : Bytes) : Bool :=
  match t with
  | .bool => decide (leNat v ≤ 1)
  | .f32 => fFinite f32 (leNat v) || (admitsInfinity a && decide (leNat v = 0x7F800000))
  | .f64 => fFinite f64 (leNat v)
  | .time96 => decide (u32At v 8 ≤ 999999999)
  | .vstring => decide (u8At v 0 ≤ 240) && utf8Ok (v.drop 1) && (v.drop 1).all (· != 0)
  | _ => true

/-- Width of an integer type in bits. -/
def typeBits (t : ObjType) : Nat := 8 * typeSize t

/-- The range that the object's row states. -/
def ruleOk (rule : RangeRule) (t : ObjType) (v : Bytes) : Bool :=
  match rule with
  | .any => true
  | .nat lo hi => decide (lo ≤ leNat v) && decide (leNat v ≤ hi)
  | .int lo hi => decide (lo ≤ toSigned (typeBits t) (leNat v)) && decide (toSigned (typeBits t) (leNat v) ≤ hi)
  | .zero => decide (leNat v = 0)

/-! ### Boundaries that a write names -/

/-- The boundary of a station command (R19). -/
def State.commandBoundary (s : State) : Nat := if s.num Obj.commandTick = 0 then s.nextL else s.num Obj.commandTick

/-- CommandTick is 0, or a boundary after the next one (R19). -/
def State.commandTickOk (s : State) : Bool :=
  let t := s.num Obj.commandTick
  decide (t = 0) || (decide (t % hyperTicks = 0) && decide (s.nextL < t))

/-- The first boundary that an activation accepted now may take effect at (R165): the acceptance instant lies after the running tick's edge,
so 16,000 ticks on lie after edge `s.tick + 16000`. -/
def State.firstActivation (s : State) : Nat := nextBoundary (s.tick + 16000)

def State.activationBoundary (s : State) : Nat := if s.num Obj.activateTick = 0 then s.firstActivation else s.num Obj.activateTick

def State.activateTickOk (s : State) : Bool :=
  let t := s.num Obj.activateTick
  decide (t = 0) || (decide (t % hyperTicks = 0) && decide (s.tick + 16000 < t))

/-! ### Step 4: the state, and the object's own rule -/

/-- States in which StationCommand accepts a code (Tables 1-6, 1-7 and 5-18). -/
def State.commandState (s : State) (code : Nat) : Bool :=
  match code with
  | 1 => decide (s.mode = .service)
  | 2 => decide (s.mode = .ready)
  | 3 => decide (s.mode = .ready) && !s.optFallback && s.roleAtStart.isSome
  | 4 => s.mode.running
  | 5 => decide (s.mode = .run) && s.paired && s.partnerIs .standby && s.synced && !s.degraded &&
      !(s.warp.activation.any fun x => decide (x.tick = s.commandBoundary) && !x.hitless)
  | 6 => decide (s.mode = .service) || decide (s.mode = .ready)
  | _ => false

/-- No effect from E0 to E3 is ON or TRIP_DELAYING (R401). -/
def State.effectsOff (s : State) : Bool :=
  (List.finRange 4).all fun o =>
    let e := s.island.effects[effOf o].state
    decide (e ≠ .on) && decide (e ≠ .tripDelaying)

/-- LoopMode of a loop at its next cut-off (R248). -/
def State.modeAtCutoff (s : State) (j : Nat) : Nat :=
  (s.weftQueue.foldl (fun m w => if w.addr = loopObj j 1 then some (leNat w.value) else m) none).getD (s.loopRec j).mode

/-- A buffer of a channel (both from 0) that a receive entry of the loaded warp names. -/
def State.bufferMapped (s : State) (k b : Nat) : Bool :=
  (rxEntries s.sections).any fun e => decide (e.channel = k + 1) && decide (e.buffer = b)

/-- The object's own rule on the state. A rule that looks at the value applies to a value of the right length. -/
def State.ownState (s : State) (r : Req) (a : Nat) (v : Bytes) (sized : Bool) : Bool :=
  let n := leNat v
  if a = Obj.stationCommand then !sized || s.commandState n
  else if a = Obj.activateBank then decide (s.mode = .run)
  else if a = Obj.reStepPermit then s.timeStateIs .jumpRefused && decide (s.mode ≠ .standby)
  else if a = Obj.timeSet then s.atRest && !([NetPort.a, NetPort.b].any fun p => s.portIs p 9 || s.portIs p 8)
  else if a = Obj.restoreCommand then s.atRest
  else if a = Obj.safetySetConfirm then decide (s.mode = .service) && s.effectsOff
  else if isUnit Obj.warpKey 8 a then
    decide (s.mode = .service) && decide (r.iface = .usb) && decide (s.keys.statusOf warpClass (Fin.ofNat 8 (a - Obj.warpKey 0)) = slotEmpty)
  else if isUnit Obj.safetySetKey 8 a then
    decide (s.mode = .service) && decide (r.iface = .usb) && decide (s.keys.statusOf safetyClass (Fin.ofNat 8 (a - Obj.safetySetKey 0)) = slotEmpty)
  else if a = Obj.revokeKey then
    decide (s.mode = .service) && decide (r.iface = .usb) && (!sized || !revokeOk n || !(s.signersInUse (n / 256 % 16)).contains (n % 256))
  else if isUnit Obj.conduitKey 16 a || isUnit Obj.seamKey 2 a then decide (r.iface = .usb) || r.encrypt
  else if a = Obj.commitSecurityVersion || a = Obj.debugLockCommand then decide (s.mode = .service)
  else if isLoopIx (addrIndex a) && decide (addrSub a = 0x20) then
    let j := addrIndex a - 0x10000
    !sized || decide (n = 0) || decide (leNat (s.current (loopObj j 0x21)) ≠ 1) || decide (s.modeAtCutoff j ≠ 0)
  else match unitAt Obj.detectCommand 8 a, unitAt Obj.hartRequest 16 a with
    | some k, _ => !sized || decide (n = 0) || (s.atRest && !s.flag (Obj.canEnable k))
    | none, some c => s.hartIs (Fin.ofNat 16 c) hartConnected && s.hartMaster
    | none, none =>
      !(List.range 8).any fun k => match unitAt (Obj.canHostFilter k) 64 a with
        | some b => s.bufferMapped k b
        | none => false

/-- Step 4 of Table 2-3: RWS (Table 2-2), STANDBY (R42), HOLD (R44), the object's own rule. -/
def State.stateAllows (s : State) (r : Req) (o : ObjRow) (a : Nat) (v : Bytes) : Bool :=
  (decide (o.access ≠ .rws) || s.atRest) && (decide (s.mode ≠ .hold) || decide (o.effect = .immediate)) &&
    (decide (s.mode ≠ .standby) || !s.stationScope a) && s.ownState r a v (lengthOk o.type v)

/-! ### Step 6: the range -/

/-- Rows of Table 2-4: first and last index. -/
def indexMap : List (Nat × Nat) :=
  [(0x000000, 0x000FFF), (0x001000, 0x001FFF), (0x002000, 0x002FFF), (0x003000, 0x003FFF), (0x004000, 0x004FFF), (0x005000, 0x005FFF),
    (0x006000, 0x006FFF), (0x007000, 0x007FFF), (0x008000, 0x008FFF), (0x010000, 0x010FFF), (0x020000, 0x020FFF), (0x030000, 0x030FFF),
    (0x100000, 0x13FFFF), (0x200000, 0x2000FF)]

/-- A range that a restore accepts (R51): within one row of Table 2-4, neither identity nor domains. -/
def restoreRangeOk (first last : Nat) : Bool :=
  decide (first ≤ last) &&
    indexMap.any fun e => decide (e.1 ≠ 0) && decide (e.1 ≠ 0x200000) && decide (e.1 ≤ first) && decide (last ≤ e.2)

/-- A contiguous mask from /8 to /30 (Table 3-7). -/
def maskOk (v : Bytes) : Bool := (List.range 23).any fun k => decide (beNat v = 2 ^ 32 - 2 ^ (24 - k))

/-- PD_PORT of a VALID image in either bank (R142). -/
def State.pdPortTaken (s : State) (p : Nat) : Bool :=
  [0, 1].any fun k => s.bankValid k && decide (netPdPort (sectionsOf (s.bankImage k)) = p)

/-- The limits of R316 with timing subindex `sub` of channel `k` made `v`. -/
def State.timingAfter (s : State) (k sub v : Nat) : Bool :=
  let g := fun (i : Nat) (o : Nat → Nat) => if sub = i then v else s.num (o k)
  canTimingOk (g 2 Obj.nominalPrescaler) (g 3 Obj.nominalTseg1) (g 4 Obj.nominalTseg2) (g 5 Obj.nominalSjw) (g 6 Obj.dataPrescaler)
    (g 7 Obj.dataTseg1) (g 8 Obj.dataTseg2) (g 9 Obj.dataSjw)

/-- The channel whose CanEnable or timing objects share an index. -/
def canChannelAt (a : Nat) : Option (Fin 8) :=
  (unitAt (fun k => addrIndex (Obj.canEnable k)) 8 (addrIndex a)).map (Fin.ofNat 8)

/-- Ranges of Table 11-7 that depend on other objects. -/
def State.canRangeOk (s : State) (k sub n : Nat) : Bool :=
  if sub = 1 then decide (n = 0) || s.timingAfter k 1 n
  else if 2 ≤ sub && sub ≤ 9 then !s.flag (Obj.canEnable k) || s.timingAfter k sub n
  else if sub = 0x10 then decide (n ≠ 2) || [125000, 250000, 500000, 1000000].contains (s.num (Obj.nominalRate k))
  else if sub = 0x16 then decide (n ≤ 1)
  else if sub = 0x0F then decide (n = 1)
  else true

/-- A pass-through payload (R374, Table 13-5). -/
def hartPayloadOk (v : Bytes) : Bool :=
  let n := u8At v 1
  decide (u8At v 0 ≤ 121) && decide (u8At v 0 ≠ 31) && decide (n ≤ 235) && (v.drop (2 + n)).all (· == 0)

/-- Accepted writes to an index that wait for their cut-off, by subindex (R245). -/
def State.queuedAt (s : State) (ix : Nat) : List (Nat × Bytes) :=
  (s.weftQueue.filter fun w => decide (addrIndex w.addr = ix)).map fun w => (addrSub w.addr, w.value)

/-- A record with writes applied to its fields. -/
def patched (place : Nat → Option (Nat × Nat)) (record : Bytes) (ws : List (Nat × Bytes)) : Bytes :=
  ws.foldl (fun r w => match place w.1 with | some (o, _) => patch r o w.2 | none => r) record

/-- The cross-field rules of R231 and R233 on the configuration as it will stand (R245). -/
def State.recordOk (s : State) (a : Nat) (v : Bytes) : Bool :=
  let ix := addrIndex a
  let sub := addrSub a
  let ss := s.sections
  let ws := s.queuedAt ix ++ [(sub, v)]
  if isLoopIx ix && (loopCfgField sub).isSome then
    loopRecordOk s.pointDefs (records (sectBody ss 6) 32) (records (sectBody ss 5) 704) (stateAreas ss) (ix - 0x10000)
      (patched loopCfgField (s.loopCfg (ix - 0x10000)) ws)
  else if isGainIx ix then
    gainRecordOk s.pointDefs (ix - 0x20000) (patched gainField (s.storeRead (s.gainAt (ix - 0x20000)) 704) ws)
  else if isLoopIx ix && decide (sub = 0x22) then positive32 (leNat v)
  else if isGroupIx ix && decide (sub = 2) then
    decide (leNat v = 0) || decide (groupMaxShelve ((s.groups[ix - 0x30000]?).getD []) ≠ 0)
  else true

/-- Whether the loaded image, and the target of a pending activation, prove a profile (R27, Table 5-18). -/
def State.profileProven (s : State) (p : Nat) : Bool :=
  (match s.warp.loaded with | some l => bit (hdrProven l.header) (p - 1) | none => true) &&
    (match s.warp.activation with | some x => bit (hdrProven (s.bankImage x.target)) (p - 1) | none => true)

/-- The checks of R164, in its order. -/
def State.activateCode (s : State) (v : Nat) : Nat :=
  let target := v % 2
  let img := s.bankImage target
  let profiles := s.num Obj.activeProfile :: (match s.profileChange with
    | some (p, t) => if t ≤ s.activationBoundary then [p] else []
    | none => [])
  let copy := s.pair.partner.map fun h => if target = 0 then h.digestA else h.digestB
  if v / 2 % 64 ≠ 0 then Status.range
  else match s.warp.loaded with
    | none => Status.range
    | some l =>
      if l.bank = target then Status.range
      else if s.warp.activation.isSome then Status.busy
      else if !s.bankValid target then Status.stateConflict
      else if !s.activateTickOk then Status.range
      else if !profiles.all fun p => bit (hdrProven img) (p - 1) then Status.profileUnproven
      else if hdrLayoutDigest l.header ≠ hdrLayoutDigest img && !bit v 7 then Status.stateConflict
      else if s.paired && s.synced && decide (copy ≠ some (imageDigest img)) then Status.stateConflict
      else Status.ok

/-- The keys' ranges (R497, R498, R505, R509). -/
def State.keyRangeOk (s : State) (a : Nat) (v : Bytes) : Bool :=
  let n := leNat v
  if isUnit Obj.warpKey 8 a || isUnit Obj.safetySetKey 8 a then keyOnCurve v
  else if a = Obj.revokeKey then revokeOk n
  else if a = Obj.commitSecurityVersion then s.commitOk n
  else if a = Obj.debugLockCommand then decide (n = 0x4B434F4C)
  else true

/-- The object's own range, where it depends on more than the value and the row. -/
def State.ownRange (s : State) (a : Nat) (v : Bytes) : Bool :=
  let n := leNat v
  if isStationIx (addrIndex a) then s.recordOk a v
  else if a = Obj.stationCommand then
    if 3 ≤ n && n ≤ 5 then s.commandTickOk
    else decide (n ≠ 6) || decide (time96Ns (s.obj Obj.layupAlarm) = 0) || decide (s.timeNs ≤ time96Ns (s.obj Obj.layupAlarm))
  else if a = Obj.resetRequest then decide (1 ≤ n) && decide (n ≤ 3)
  else if a = Obj.resetCauseClear then decide (n < 512)
  else if a = Obj.restoreCommand then decide (n = 0x64666C74) && restoreRangeOk (s.num Obj.restoreFirst) (s.num Obj.restoreLast)
  else if a = Obj.iPv4Mask then maskOk v
  else if a = Obj.clpPort then !s.pdPortTaken n
  else if isUnit Obj.silenceTimeout 2 a then decide (n % 500 = 0) && (!s.flag Obj.pairEnable || decide (1000 ≤ n))
  else if isUnit Obj.aiSupply 8 a then decide (n = 0) || !s.flag Obj.pairEnable
  else if isUnit Obj.aoSafeValue 8 a then notNegative32 n && fLe f32 n 0x41C00000
  else if isUnit Obj.hartRequest 16 a then hartPayloadOk v
  else if a = Obj.activateCancel || a = Obj.reStepPermit then decide (n = 1)
  else if a = Obj.tallySelect then decide (s.tally.oldest ≤ n) && decide (n ≤ s.tally.head)
  else if a = Obj.faceplatePage then decide (n ≤ 1)
  else if a = Obj.safetySetConfirm then decide (s.num Obj.pendingState = 3) && decide (n = first4 (s.obj Obj.pendingDigest))
  else match canChannelAt a with
    | some k => s.canRangeOk k.val (addrSub a) n
    | none => s.keyRangeOk a v

/-- Step 6 of Table 2-3: 0, or the code. -/
def State.rangeCode (s : State) (o : ObjRow) (a : Nat) (v : Bytes) : Nat :=
  if !encodingOk o.type a v || !ruleOk o.range o.type v || !s.ownRange a v then Status.range
  else if a = Obj.activateBank then s.activateCode (leNat v)
  else if a = Obj.profile && (decide (s.mode = .ready) || decide (s.mode = .run)) && !s.profileProven (leNat v) then Status.profileUnproven
  else Status.ok

/-! ### Steps 7 and 8 -/

/-- Another loop of the loop's shuttle pair has a test running or starting (R248). -/
def State.pairTesting (s : State) (j : Nat) : Bool :=
  let pair := fun j => loopShuttle (s.loopCfg j) / 2
  let c := s.pairCapture (pair j)
  let starts := fun (w : WeftWrite) =>
    let i := addrIndex w.addr - 0x10000
    isLoopIx (addrIndex w.addr) && decide (addrSub w.addr = 0x20) && decide (leNat w.value ≠ 0) && decide (i ≠ j) && decide (pair i = pair j)
  (c.test.any fun t => decide (t.loop ≠ j) && decide ((s.loopRec t.loop).testState = 1)) || (c.next.any fun t => decide (t.loop ≠ j)) ||
    s.weftQueue.any starts

/-- Step 7 of Table 2-3. -/
def State.lockedFor (s : State) (a : Nat) (v : Bytes) : Bool :=
  let ix := addrIndex a
  (s.restore.any fun e => (decide (e.1 ≤ ix) && decide (ix ≤ e.2)) || decide (a = Obj.restoreCommand)) ||
    (decide (a = Obj.stationCommand) && (s.commandPending || (decide (leNat v = 1) && s.bankLocked (s.num Obj.selectedBank)))) ||
    (decide (a = Obj.activateCancel) && s.warp.activation.any fun x => decide (x.tick ≤ s.tick + hyperTicks)) ||
    (isLoopIx ix && decide (addrSub a = 0x20) && decide (leNat v ≠ 0) && s.pairTesting (ix - 0x10000)) ||
    (match unitAt Obj.hartRequest 16 a with
      | some c => decide (u8At (s.obj (Obj.hartResponse c)) 0 = 1)
      | none => false)

/-- Step 8 of Table 2-3, with the secret slots of a key store whose wrap key has failed (R499). -/
def State.storeFails (s : State) (r : Req) (o : ObjRow) (a : Nat) : Bool :=
  (o.persistent && !r.stores) || (s.keys.wrapFault && (isUnit Obj.conduitKey 16 a || isUnit Obj.seamKey 2 a))

/-- The checks of Table 2-3: the code of the first that fails, or 0. -/
def State.writeCode (s : State) (r : Req) (a : Nat) (v : Bytes) : Nat :=
  if !s.indexDefined (addrIndex a) then Status.noObject
  else match s.objRow? a with
    | none => Status.noSubindex
    | some o =>
      if o.access = .const || o.access = .ro then Status.readOnly
      else if !s.stateAllows r o a v then Status.stateConflict
      else if !lengthOk o.type v then Status.typeMismatch
      else if s.rangeCode o a v ≠ Status.ok then s.rangeCode o a v
      else if s.lockedFor a v then Status.busy
      else if s.storeFails r o a then Status.storageFault
      else Status.ok

/-! ### Effects -/

/-- Option objects (Table 15-8), whose values live in the option area. -/
def isOption (a : Nat) : Bool := decide (a = Obj.optUsbEnable) || decide (a = Obj.optDebugEnable) || decide (a = Obj.optResetPin)

/-- A new option record with SEQUENCE one higher (R428). -/
def State.putOption (s : State) (a : Nat) (v : Bytes) : State :=
  let s1 := s.setObj a v
  let n := s.num Obj.optionSequence + 1
  let new := optionRecord n ⟨s1.flag Obj.optUsbEnable, s1.flag Obj.optDebugEnable, s1.flag Obj.optResetPin⟩
  ({ s1 with options := s1.options.write new }.setNum Obj.optionSequence n).setNum Obj.optionStatus 0

/-- A counter is cleared with its overflow bit (R62). -/
def State.clearCounter (s : State) (a : Nat) : State :=
  let o := overflowAddr a
  (s.setNum a 0).setObj o (putBytesBit (fit 32 (s.obj o)) (addrSub a) false)

/-- The level that a value of ResetRequest asks for (R55, R85). -/
def askedLevel (requested : Nat) : ResetLevel := if requested = 1 then .c else if requested = 2 then .w else .s

/-- The reset that a request applies (R55), where the state answers the dictionary. -/
def State.appliedLevel (s : State) (requested : Nat) : ResetLevel :=
  match s.mode with
  | .service => if requested = 1 then .c else .s
  | .hold => .s
  | _ => .w

/-- ResetRequest (R55): the reset is asserted at the next tick edge; the tally names the level that the state of the request applies. -/
def State.requestReset (s : State) (r : Req) (requested : Nat) : State :=
  let level := s.appliedLevel requested
  let s1 := s.logTally 0x0105 [requested + levelCode level * 256, Req.origin r]
  { s1 with rst := { s1.rst with request := some (askedLevel requested) } }

/-- LAYUP (Tables 1-3 and 1-7): the state is recorded, the CAN channels stop, and every clock but the IRC rests. -/
def State.enterLayup (s : State) : State :=
  let s1 : State := { s.noAuto with mode := .layup, rst := { s.noAuto.rst with layup := some s.mode }, profileChange := none }
  let s2 := s1.canStop.canRefresh.pllsStop.setSource srcXo false
  let s3 := { s2 with clocks := { s2.clocks with selfRefresh := true } }
  ((s3.seamLost seamDown).setFence false).setNum Obj.commandResult 2

/-- An accepted station command (R19). -/
def State.takeCommand (s : State) (code : Nat) : State :=
  match code with
  | 1 => ({ s with warp := { s.warp with loading := true } }.setNum (Obj.bankState (s.num Obj.selectedBank)) 2).setNum Obj.commandResult 1
  | 2 =>
    let s1 := { s.noAuto with mode := .service, profileChange := none }
    ((s1.releaseWarp.setNum Obj.activeProfile 0).setNum Obj.commandResult 2).canRefresh
  | 6 => s.enterLayup
  | n => { s with command := some ⟨n, s.commandBoundary, false⟩ }.setNum Obj.commandResult 1

/-- A key object's value goes into the key store, and nowhere else (R496 to R501). -/
def State.putKey (s : State) (a : Nat) (v : Bytes) : State :=
  match unitAt Obj.warpKey 8 a, unitAt Obj.safetySetKey 8 a, unitAt Obj.conduitKey 16 a, unitAt Obj.seamKey 2 a with
  | some k, _, _, _ => s.fuseKey warpClass (Fin.ofNat 8 k) v false
  | _, some k, _, _ => s.fuseKey safetyClass (Fin.ofNat 8 k) v false
  | _, _, some k, _ => s.putConduit (Fin.ofNat 16 k) v
  | _, _, _, some k => s.putSeamKey (Fin.ofNat 2 k) v
  | _, _, _, _ => s

/-- What an accepted write to a write-only object does; such a value is stored nowhere. -/
def State.actWriteOnly (s : State) (r : Req) (a : Nat) (v : Bytes) : State :=
  let n := leNat v
  if a = Obj.stationCommand then s.takeCommand n
  else if a = Obj.resetRequest then s.requestReset r n
  else if a = Obj.restoreCommand then { s with restore := some (s.num Obj.restoreFirst, s.num Obj.restoreLast) }.setNum Obj.restoreResult 1
  else if a = Obj.resetCauseClear then { s with rst := { s.rst with cause := Nat.land s.rst.cause (511 - n % 512) } }
  else if a = Obj.activateBank then (s.pendActivation (n % 2) s.activationBoundary).setNum Obj.activateTick 0
  else if a = Obj.activateCancel then if s.warp.activation.isSome then s.endActivation 0 0 else s
  else if a = Obj.reStepPermit then s.setFlag Obj.reStepArmed true
  else if a = Obj.timeSet then { s with time := { s.time with step := some (.set, (time96Ns v : Int) - s.timeNs) } }
  else if a = Obj.safetySetConfirm then s.confirmSet
  else if a = Obj.revokeKey then s.revoke n
  else if a = Obj.commitSecurityVersion then s.commitVersion n
  else if a = Obj.debugLockCommand then s.burnLock
  else match unitAt Obj.recover 8 a, unitAt Obj.detectCommand 8 a, unitAt Obj.hartRequest 16 a with
    | some k, _, _ => if s.num (Obj.canState k) = canBusOffState then s.setNum (Obj.recover k) 1 else s
    | _, some k, _ => if n = 1 then s.detectStart (Fin.ofNat 8 k) else s.detectEnd (Fin.ofNat 8 k) 4
    | _, _, some c =>
      (s.setHart (Fin.ofNat 16 c) { s.io.hart[Fin.ofNat 16 c] with queued := some (v.take (2 + u8At v 1)) }).setObj (Obj.hartResponse c)
        (hartResult 1 (u8At v 0) none)
    | _, _, _ => s.putKey a v

/-- What follows from an object's new value in force. -/
def State.followValue (s : State) (a : Nat) (old : Bytes) : State :=
  let s1 := s.configWrite a
  if a = Obj.profile then { s1 with profileChange := some (s1.num a, s1.nextL) }
  else if a = Obj.ppsOutMode || a = Obj.ppsOutInHoldover then s1.ppsJudge
  else if a = Obj.faceplatePage then if s1.flag a then s1.pageBegin else s1.pageEnd
  else if a = Obj.lastProofTest || a = Obj.proofTestInterval then { s1 with island := { s1.island with proofDue := false } }
  else match canChannelAt a, unitAt Obj.aiHart 8 a, unitAt Obj.aoHart 8 a with
    | some k, _, _ =>
      if 1 ≤ addrSub a && addrSub a ≤ 9 then
        let s2 := if s1.flag (Obj.canEnable k.val) then s1.detectEnd k 4 else s1
        (s2.setCanRates k.val).canRefresh
      else s1
    | _, some c, _ => if s1.obj a = old then s1 else s1.hartEnable (Fin.ofNat 16 c)
    | _, _, some c => if s1.obj a = old then s1 else s1.hartEnable (Fin.ofNat 16 (8 + c))
    | _, _, _ => s1

/-- An IMMEDIATE, BOUNDARY or START value is the object's value from acceptance on (R43); `inForce` keeps a START object's value in force. -/
def State.putValue (s : State) (o : ObjRow) (a : Nat) (v : Bytes) : State :=
  if isOption a then s.putOption a v
  else if o.range = .zero then s.clearCounter a
  else
    let old := s.obj a
    let s1 := if o.persistent then s.setStored a v else s.setObj a v
    s1.followValue a old

/-- The write queue takes a WEFT write (R58) to an object that the warp still defines; a newer write to the same object supersedes an older
one (R59). -/
def State.queueWrite (s : State) (a : Nat) (v : Bytes) : State :=
  if (s.objRow? a).isNone then s else
  let w : WeftWrite := ⟨a, v, s.classOfAddr a⟩
  let s1 := { s with weftQueue := s.weftQueue.filter (fun x => decide (x.addr ≠ a)) ++ [w] }
  if s.weftQueue.any fun x => decide (x.addr = a) then s1.count Obj.writesSuperseded else s1

/-- TestMode takes the parameters in force at its acceptance (R248). -/
def State.latchTest (s : State) (a mode : Nat) : State :=
  let j := addrIndex a - 0x10000
  let q := loopShuttle (s.loopCfg j) / 2
  let c := s.pairCapture q
  if mode = 0 then s.setCapture q { c with next := if c.next.any fun t => decide (t.loop = j) then none else c.next }
  else s.setCapture q { c with next := some (s.loopTest j mode) }

/-- A WEFT write is stored if PERSISTENT (R48) and queued. -/
def State.holdWrite (s : State) (o : ObjRow) (a : Nat) (v : Bytes) : State :=
  let s1 := if o.persistent then { s with stored := Assoc.set s.stored a v } else s
  let s2 := if isLoopIx (addrIndex a) && decide (addrSub a = 0x20) then s1.latchTest a (leNat v) else s1
  s2.queueWrite a v

/-- Effect code of a response (R82). -/
def effectCode : EffectTime → Nat
  | .immediate => 0 | .weft => 1 | .boundary => 2 | .start => 3

/-- Effect and effect tick of a write accepted in this state (R82). -/
def State.effectOf (s : State) (o : ObjRow) (a : Nat) (v : Bytes) : Nat × Nat :=
  if o.effect = .weft then (1, if s.mode.running then s.nextCutoff (s.classOfAddr a) else 0)
  else if a = Obj.stationCommand then if 3 ≤ leNat v && leNat v ≤ 5 then (2, s.commandBoundary) else (0, 0)
  else if a = Obj.activateBank then (2, s.activationBoundary)
  else if o.effect = .boundary then (2, s.nextL)
  else (effectCode o.effect, 0)

/-- Objects whose accepted writes travel in the weft and not in a DICT frame (R20, R27, R166, R265). -/
def inWeftMirror (a : Nat) : Bool :=
  [Obj.stationCommand, Obj.profile, Obj.activateBank, Obj.activateCancel].contains a

/-- What the next weft carries of an accepted write that travels with it (R20, R27, R166), from the state after it. -/
def State.weftItem (s : State) (a : Nat) : Option WeftItem :=
  if a = Obj.stationCommand then s.command.map fun c => .command c.code c.tick
  else if a = Obj.profile then s.profileChange.map fun p => .profile p.1 p.2
  else if a = Obj.activateBank then s.warp.activation.map fun x => .activate x.target x.tick
  else if a = Obj.activateCancel then some .cancelActivation else none

/-- What travels with the wefts waits for the next cut-off, of whatever class (R166); the active of a pair forwards every other
station-scope write to a standby (R265). -/
def State.forward (s : State) (o : ObjRow) (a : Nat) (v : Bytes) : State :=
  if s.mode = .run && inWeftMirror a then s.carryItem (s.weftItem a)
  else if s.mode = .run && s.seamServes && s.paired && s.partnerIs .standby && s.stationScope a && decide (o.effect ≠ .weft) && !inWeftMirror a then
    s.sendSeam seamTypeDict (valueBytes (a, v))
  else s

/-- An accepted write (R46 to R48, R56): its audit tally, its effect, its place in WritesAccepted; and what the response reports. -/
def State.accept (s : State) (r : Req) (o : ObjRow) (a : Nat) (v : Bytes) : State × Nat × Nat :=
  let s1 := if o.audit then s.audit r a (typeCode o.type) v else s
  let s2 := s1.count Obj.writesAccepted
  let s3 := if o.effect = .weft then s2.holdWrite o a v else if o.access = .wo then s2.actWriteOnly r a v else s2.putValue o a v
  (s3.forward o a v, s.effectOf o a v)

/-- A WRITE response (R82). -/
def writeResponse (e : Nat × Nat) : Bytes := [byte e.1, 0, 0, 0] ++ leBytes 8 e.2

/-- One write: refused with its code, or accepted (R45, R46). -/
def State.writeOne (s : State) (r : Req) (a : Nat) (v : Bytes) : State × Reply :=
  let c := s.writeCode r a v
  match s.objRow? a with
  | some o =>
    if c ≠ Status.ok then (s.count Obj.writesRefused, refusal c)
    else
      let (s1, e) := s.accept r o a v
      (s1, ⟨Status.ok, writeResponse e⟩)
  | none => (s.count Obj.writesRefused, refusal c)

/-! ### WRITE, WRITE_MULTI and RESET -/

/-- An accepted write request of one object. -/
def State.writeRequest (s : State) (r : Req) (a : Nat) (v : Bytes) : State := s.request r Cmd.write fun s => s.writeOne r a v

def execWrite (req : Req) (addr : BitVec 32) (value : List Byte) (s : State) : Host.Outcome State Fault Refusal :=
  .next (s.writeRequest req addr.toNat value)

/-- What a checked item of a WRITE_MULTI shows to the items after it: a WEFT write stands in the queue, a value stands in its object. The
write-only objects act at acceptance alone, so two station commands in one request both meet the state before it and the later one replaces
the earlier (DESIGN CHOICE, log entry 18). -/
def State.asIfAccepted (s : State) (a : Nat) (v : Bytes) : State :=
  match s.objRow? a with
  | some o =>
    if o.effect = .weft then { s with weftQueue := s.weftQueue ++ [⟨a, v, s.classOfAddr a⟩] }
    else if o.access = .wo || isOption a || decide (o.range = .zero) then s else s.setObj a v
  | none => s

/-- The first failing item of a WRITE_MULTI and its code: each item is checked as if those before it had been accepted (R19, R47, R245, R248). -/
def State.firstFailure (s : State) (r : Req) : Nat → List (Nat × Bytes) → Option (Nat × Nat)
  | _, [] => none
  | i, (a, v) :: rest =>
    let c := s.writeCode r a v
    if c ≠ Status.ok then some (i, c)
    else
      (s.asIfAccepted a v).firstFailure r (i + 1) rest

/-- Every item accepted in order, each with the row that its check found: one item may remove what another one names (R47). -/
def State.acceptAll (s : State) (r : Req) (items : List (Nat × Bytes)) : State × Bytes :=
  let rows := items.filterMap fun e => (s.objRow? e.1).map fun o => (o, e)
  rows.foldl (fun (s, b) (o, a, v) =>
    let (s1, e) := s.accept r o a v
    (s1, b ++ writeResponse e)) (s, [])

/-- A multiple write: all or none (R47). -/
def State.writeAll (s : State) (r : Req) (items : List (Nat × Bytes)) : State × Reply :=
  if items = [] || 64 < items.length then (s, refusal Status.badHeader)
  else match s.firstFailure r 0 items with
    | some (i, c) => (s.count Obj.writesRefused items.length, ⟨c, [byte i]⟩)
    | none =>
      let (s1, b) := s.acceptAll r items
      (s1, ⟨Status.ok, b⟩)

def execWriteMulti (req : Req) (items : List (BitVec 32 × List Byte)) (s : State) : Host.Outcome State Fault Refusal :=
  .next (s.request req Cmd.writeMulti fun s => s.writeAll req (items.map fun e => (e.1.toNat, e.2)))

/-- A write to the object at an address. -/
def execObjectWrite (req : Req) (addr : BitVec 32) (value : List Byte) (s : State) : Host.Outcome State Fault Refusal :=
  .next (s.writeRequest req addr.toNat value)

/-- RESET: the write of its level to ResetRequest, under its own command code (R85). -/
def execReset (req : Req) (level : BitVec 8) (s : State) : Host.Outcome State Fault Refusal :=
  .next (s.request req Cmd.reset fun s => s.writeOne req Obj.resetRequest [level])

/-! ### Writes that are rows of their own -/

/-- A write of a station command code (Table 1-6). -/
def State.commandWrite (s : State) (req : Req) (code : Nat) : State := s.writeRequest req Obj.stationCommand [byte code]

def execLoad (req : Req) (s : State) : Host.Outcome State Fault Refusal := .next (s.commandWrite req 1)
def execUnload (req : Req) (s : State) : Host.Outcome State Fault Refusal := .next (s.commandWrite req 2)
def execStart (req : Req) (s : State) : Host.Outcome State Fault Refusal := .next (s.commandWrite req 3)
def execStop (req : Req) (s : State) : Host.Outcome State Fault Refusal := .next (s.commandWrite req 4)
def execHandover (req : Req) (s : State) : Host.Outcome State Fault Refusal := .next (s.commandWrite req 5)
def execLayup (req : Req) (s : State) : Host.Outcome State Fault Refusal := .next (s.commandWrite req 6)

def execProfileWrite (req : Req) (value : BitVec 8) (s : State) : Host.Outcome State Fault Refusal :=
  .next (s.writeRequest req Obj.profile [value])

def execResetRequest (req : Req) (value : BitVec 8) (s : State) : Host.Outcome State Fault Refusal :=
  .next (s.writeRequest req Obj.resetRequest [value])

def execRestoreCommand (req : Req) (value : BitVec 32) (s : State) : Host.Outcome State Fault Refusal :=
  .next (s.writeRequest req Obj.restoreCommand (leBytes 4 value.toNat))

def execResetCauseClear (req : Req) (value : BitVec 16) (s : State) : Host.Outcome State Fault Refusal :=
  .next (s.writeRequest req Obj.resetCauseClear (leBytes 2 value.toNat))

def execActivateBankWrite (req : Req) (value : BitVec 8) (s : State) : Host.Outcome State Fault Refusal :=
  .next (s.writeRequest req Obj.activateBank [value])

def execActivateCancelWrite (req : Req) (value : BitVec 8) (s : State) : Host.Outcome State Fault Refusal :=
  .next (s.writeRequest req Obj.activateCancel [value])

def execReStepPermitWrite (req : Req) (value : BitVec 8) (s : State) : Host.Outcome State Fault Refusal :=
  .next (s.writeRequest req Obj.reStepPermit [value])

def execTimeSetWrite (req : Req) (value : List Byte) (s : State) : Host.Outcome State Fault Refusal :=
  .next (s.writeRequest req Obj.timeSet value)

def execRecoverWrite (req : Req) (channel : Fin 8) (value : BitVec 8) (s : State) : Host.Outcome State Fault Refusal :=
  .next (s.writeRequest req (Obj.recover channel.val) [value])

def execDetectStart (req : Req) (channel : Fin 8) (s : State) : Host.Outcome State Fault Refusal :=
  .next (s.writeRequest req (Obj.detectCommand channel.val) [1])

def execDetectStop (req : Req) (channel : Fin 8) (s : State) : Host.Outcome State Fault Refusal :=
  .next (s.writeRequest req (Obj.detectCommand channel.val) [0])

def execSafetySetConfirmWrite (req : Req) (value : BitVec 32) (s : State) : Host.Outcome State Fault Refusal :=
  .next (s.writeRequest req Obj.safetySetConfirm (leBytes 4 value.toNat))

def execTestModeWrite (req : Req) (loop : BitVec 12) (mode : BitVec 8) (s : State) : Host.Outcome State Fault Refusal :=
  .next (s.writeRequest req (loopObj loop.toNat 0x20) [mode])

def execHartRequestWrite (req : Req) (channel : Fin 16) (payload : List Byte) (s : State) : Host.Outcome State Fault Refusal :=
  .next (s.writeRequest req (Obj.hartRequest channel.val) payload)

def execTallySelectWrite (req : Req) (sequence : BitVec 64) (s : State) : Host.Outcome State Fault Refusal :=
  .next (s.writeRequest req Obj.tallySelect (leBytes 8 sequence.toNat))

def execFaceplatePageWrite (req : Req) (value : BitVec 8) (s : State) : Host.Outcome State Fault Refusal :=
  .next (s.writeRequest req Obj.faceplatePage [value])

def execRevokeKeyWrite (req : Req) (value : BitVec 16) (s : State) : Host.Outcome State Fault Refusal :=
  .next (s.writeRequest req Obj.revokeKey (leBytes 2 value.toNat))

def execConduitKeyWrite (req : Req) (slot : Fin 16) (key : List Byte) (s : State) : Host.Outcome State Fault Refusal :=
  .next (s.writeRequest req (Obj.conduitKey slot.val) key)

def execSeamKeyWrite (req : Req) (slot : Fin 2) (key : List Byte) (s : State) : Host.Outcome State Fault Refusal :=
  .next (s.writeRequest req (Obj.seamKey slot.val) key)

def execCommitSecurityVersionWrite (req : Req) (value : BitVec 8) (s : State) : Host.Outcome State Fault Refusal :=
  .next (s.writeRequest req Obj.commitSecurityVersion [value])

def execDebugLockWrite (req : Req) (value : BitVec 32) (s : State) : Host.Outcome State Fault Refusal :=
  .next (s.writeRequest req Obj.debugLockCommand (leBytes 4 value.toNat))

/-- A fused key's write; `cutOff`: a reset or a power loss stops it between the key bits and the status bits, and no response leaves
(R497). -/
def State.fusedKeyWrite (s : State) (req : Req) (cls : Nat) (slot : Fin 8) (a : Nat) (key : Bytes) (cutOff : Bool) : State :=
  if cutOff && s.servesReq req && decide (s.writeCode req a key = Status.ok) then s.fuseKey cls slot key true
  else s.writeRequest req a key

def execWarpKeyWrite (req : Req) (slot : Fin 8) (key : List Byte) (cutOff : Bool) (s : State) : Host.Outcome State Fault Refusal :=
  .next (s.fusedKeyWrite req warpClass slot (Obj.warpKey slot.val) key cutOff)

def execSafetySetKeyWrite (req : Req) (slot : Fin 8) (key : List Byte) (cutOff : Bool) (s : State) : Host.Outcome State Fault Refusal :=
  .next (s.fusedKeyWrite req safetyClass slot (Obj.safetySetKey slot.val) key cutOff)

/-! ### Restore-defaults (R51) -/

/-- Writable objects that hold a value: RW and RWS, not a domain. -/
def restorable (o : ObjRow) : Bool := (decide (o.access = .rw) || decide (o.access = .rws)) && decide (o.type ≠ .domain)

/-- Indices of a range that hold objects. -/
def State.indicesIn (s : State) (first last : Nat) : List Nat :=
  let within := fun ix => decide (first ≤ ix) && decide (ix ≤ last)
  (if first < 0x10000 then ((List.range 0x1000).map (first / 0x1000 * 0x1000 + ·)).filter fun ix => within ix && fixedIndex ix
    else if first < 0x20000 then ((List.range s.loopCount).map (0x10000 + ·)).filter within
    else if first < 0x30000 then ((List.range s.gainCount).map (0x20000 + ·)).filter within
    else if first < 0x100000 then ((List.range s.groups.length).map (0x30000 + ·)).filter within
    else (s.pointDefs.map fun p => 0x100000 + p.point).filter within)

/-- The restorable objects of a range. -/
def State.restorables (s : State) (first last : Nat) : List (Nat × ObjRow) :=
  (s.indicesIn first last).flatMap fun ix => (List.range 256).filterMap fun k =>
    match s.objRow? (objAddr ix k) with
    | some o => if restorable o then some (objAddr ix k, o) else none
    | none => none

/-- A warp-defined object returns to the warp's initial value, which `fresh` shows. -/
def State.restoreWarp (s fresh : State) (a : Nat) : State :=
  let ix := addrIndex a
  let sub := addrSub a
  let v := fresh.current a
  if isPointIx ix then
    match s.point? (ix - 0x100000) with
    | none => s
    | some p =>
      if sub = 4 then s.storePut (pointAt p + 28) v
      else if sub = 5 then (s.storePut (alarmAt s.sections p) (fit 2 v)).storePut (alarmAt s.sections p + 3) [0] else s.applyStored1 a v
  else if isGroupIx ix then
    let b := groupAt s.sections (ix - 0x30000)
    if sub = 2 then (s.storePut b v).storePut (b + 16) (zeros 8) else { s with dict := Assoc.erase s.dict a }
  else if isLoopIx ix && (loopCfgField sub).isNone && (loopRecField sub).isNone then { s with dict := Assoc.erase s.dict a }
  else s.applyStored1 a v

/-- One object returns to its default: its value, a START object's value in force, its stored copy (R51), and what reads return of it. A WEFT write to it
that was accepted before and waits stays queued and applies at its cut-off, after the restore: no rule says that it is discarded (DESIGN CHOICE, log
entry 149). -/
def State.restoreOne (s fresh : State) (e : Nat × ObjRow) : State :=
  let (a, o) := e
  let s1 := { s with stored := Assoc.erase s.stored a, inForce := Assoc.erase s.inForce a, shown := Assoc.erase s.shown a
                     ended := Assoc.erase s.ended a }
  if o.range = .zero then s1.clearCounter a
  else if isStationIx (addrIndex a) then s1.restoreWarp fresh a
  else if isOption a then s1.putOption a (dfltObj a)
  else (s1.setObj a (dfltObj a)).followValue a (s1.obj a)

/-- The warp as a LOAD leaves it, with nothing stored: what its initial values are. -/
def State.freshWarp (s : State) : State :=
  match s.warp.loaded with
  | some l =>
    { s with stored := [], warp := { s.warp with loaded := some { l with config := (configOf l.sections).1 } }
             dict := s.dict.filter fun e => !isStationIx (addrIndex e.1) }.initialState
  | none => s

/-- The restore completes (R51), with its DICT_RESTORE tally. -/
def execRestoreDone (s : State) : Host.Outcome State Fault Refusal :=
  .next (match s.restore with
    | none => s
    | some (first, last) =>
      let fresh := if first < 0x10000 then s else s.freshWarp
      let s1 := (s.restorables first last).foldl (fun s e => s.restoreOne fresh e) { s with restore := none }
      (s1.setNum Obj.restoreResult 2).logTally 0x0102 [first, last])

/-! ### Forwarded writes -/

/-- One forwarded value takes effect on the standby, and in its MRAM if PERSISTENT (R265). -/
def State.applyForwarded (s : State) (e : Nat × Bytes) : State :=
  match s.objRow? e.1 with
  | some o => if s.stationScope e.1 && decide (o.effect ≠ .weft) && decide (o.access ≠ .wo) && lengthOk o.type e.2 then s.putValue o e.1 e.2 else s
  | none => s

end Sys2Proof.Machine
end

