-- ==== Sys2Proof/Machine/Domains.lean ====
section
/-! DEFINITION. Domain transfers (R84), with the rules of the warp banks (R158 to R160), the firmware banks (R504), the safety parameter set
(R400) and the user image (R486). -/

namespace Sys2Proof.Machine

/-- Bank of a warp bank's or a firmware bank's domain. -/
def warpBankOf (a : Nat) : Option Nat := unitAt bankDomain 2 a
def firmwareBankOf (a : Nat) : Option Nat := unitAt firmwareDomain 2 a

/-- Capacity of a domain (Table 17-8); of one to which no rule gives a size, the safety parameter set and the user image, that of any transfer (R84;
DESIGN CHOICE, log entry 142). -/
def capacity (a : Nat) : Nat :=
  if (warpBankOf a).isSome then 50331648 else if (firmwareBankOf a).isSome then 16777216 else 67108864

/-- An address that names a DOMAIN, or the code (R84 steps 1 and 4). -/
def State.domainCode (s : State) (a : Nat) : Nat :=
  if !s.indexDefined (addrIndex a) then Status.noObject
  else match s.objRow? a with
    | none => Status.noSubindex
    | some o => if o.type = .domain then Status.ok else Status.typeMismatch

/-- The domain's own rules: 0, or the code (R158, R400, R504). -/
def State.domainRule (s : State) (a : Nat) : Nat :=
  match warpBankOf a, firmwareBankOf a with
  | some k, _ =>
    if !(s.atRest || decide (s.mode = .run)) then Status.stateConflict
    else if s.warp.loaded.any fun l => decide (l.bank = k) then Status.stateConflict
    else if s.warp.activation.any fun x => decide (x.target = k) then Status.busy
    else if s.bankLocked k then Status.busy else Status.ok
  | none, some k =>
    let st := s.num (Obj.firmwareBankState k)
    if !s.atRest || (s.firmware.running.any fun x => decide (x.1 = k)) then Status.stateConflict
    else if st = 1 || st = 2 then Status.busy else Status.ok
  | none, none =>
    if a = Obj.safetyParameterSet then
      if s.mode ≠ .service then Status.stateConflict else if s.num Obj.pendingState = 2 then Status.busy else Status.ok
    else Status.ok

/-- The checks of DOMAIN_WRITE_BEGIN, in their order (R84 step 1). -/
def State.beginCode (s : State) (a total : Nat) : Nat :=
  let readOnly := (s.objRow? a).any fun o => decide (o.access = .ro) || decide (o.access = .const)
  if s.domainCode a ≠ Status.ok then s.domainCode a
  else if readOnly then Status.readOnly
  else if s.domainRule a ≠ Status.ok then s.domainRule a
  else if (s.clp.transfers.any fun t => decide (t.addr = a)) || decide ((s.domain a).status = 3) then Status.busy
  else if 4 ≤ s.clp.transfers.length then Status.tooManyTransfers
  else if total = 0 || capacity a < total then Status.range
  else Status.ok

/-- The first transfer ID from `n` on that no open transfer holds. -/
def freeId (used : List Nat) (n : Nat) : Nat :=
  (((List.range (used.length + 1)).map fun i => (n + i) % 65536).find? fun i => !used.contains i).getD 0

/-- A transfer ID is drawn. -/
def State.newId (s : State) : Nat × State :=
  let (v, s1) := s.drawFree
  (freeId (s.clp.transfers.map (·.id)) (v.toNat % 65536), s1)

def State.openTransfer (s : State) (t : Transfer) : State := { s with clp := { s.clp with transfers := s.clp.transfers ++ [t] } }
def State.closeTransfer (s : State) (t : Transfer) : State :=
  { s with clp := { s.clp with transfers := s.clp.transfers.filter fun x => decide (x.id ≠ t.id) } }

/-- The open transfer of an ID and the source that opened it (R84 step 6). -/
def State.transferOf (s : State) (r : Req) (id : Nat) : Option Transfer :=
  s.clp.transfers.find? fun t => decide (t.id = id) && decide (t.source = Req.node r)

/-- The active forwards to the standby what it writes to a bank (R160). -/
def State.forwardBank (s : State) (a off : Nat) (data : Bytes) : State :=
  if (warpBankOf a).isSome && s.mode = .run && s.seamServes && s.paired && s.partnerIs .standby then
    let parts := if data.isEmpty then [[]] else chunks 4092 data.length data
    parts.zipIdx.foldl (fun s (p, i) => s.sendSeam seamTypeBank (leBytes 4 (off + 4092 * i) ++ p)) s
  else s

/-- A transfer that ends without its content; of one that writes a bank the standby drops its copy too (R84, R160). -/
def State.abandon (s : State) (t : Transfer) : State :=
  let s1 := s.dropTransfer t
  if t.write then s1.forwardBank t.addr 0xFFFFFFFF [] else s1

/-- The content is discarded as a write transfer opens (R84, R159). -/
def State.beginDomain (s : State) (a : Nat) : State :=
  let s1 := s.setDomain a ⟨[], 2⟩
  match warpBankOf a, firmwareBankOf a with
  | some k, _ => (s1.clearBank k 1).forwardBank a 0 []
  | none, some k =>
    let s2 := (s1.clearFirmware k).setNum (Obj.firmwareBankState k) 1
    { s2 with firmware := { s2.firmware with delivered := s2.firmware.delivered.set! k false } }
  | none, none =>
    if a = Obj.safetyParameterSet then
      (({ s1 with island := { s1.island with pending := [] } }.setNum Obj.pendingState 1).setNum Obj.pendingRefusal 0).setObj Obj.pendingDigest
        (zeros 32)
    else s1

def State.domainBegin (s : State) (r : Req) (a total crc : Nat) : State × Reply :=
  let c := s.beginCode a total
  if c ≠ Status.ok then (s, refusal c)
  else
    let (id, s1) := s.newId
    ((s1.beginDomain a).openTransfer ⟨id, true, Req.node r, a, total, crc, []⟩,
      ⟨Status.ok, leBytes 2 id ++ leBytes 2 (s.payloadRoom r - 8)⟩)

def execDomainWriteBegin (req : Req) (addr total crc : BitVec 32) (s : State) : Host.Outcome State Fault Refusal :=
  .next (s.request req Cmd.writeBegin fun s => s.domainBegin req addr.toNat total.toNat crc.toNat)

/-- A segment (R84 step 2); a segment of a warp bank is read back from NOR (R159). -/
def State.domainSegment (s : State) (r : Req) (id off : Nat) (data : Bytes) : State × Reply :=
  match s.transferOf r id with
  | none => (s, refusal Status.transferUnknown)
  | some t =>
    let d := s.domain t.addr
    if !t.write then (s, refusal Status.transferUnknown)
    else if d.content.length < off then (s, ⟨Status.offset, leBytes 4 d.content.length⟩)
    else if t.total < off + data.length then (s, refusal Status.range)
    else if (warpBankOf t.addr).isSome && !r.stores then (s, refusal Status.storageFault)
    else
      let s1 := s.setDomain t.addr { d with content := patch d.content off data }
      (if data.isEmpty then s1 else s1.forwardBank t.addr off data, refusal Status.ok)

def execDomainWriteSegment (req : Req) (id : BitVec 16) (offset : BitVec 32) (data : List Byte) (s : State) :
    Host.Outcome State Fault Refusal :=
  .next (s.request req Cmd.writeSegment fun s => s.domainSegment req id.toNat offset.toNat data)

/-- A write is complete: the verification of its domain begins, or the domain is complete (R84 step 3, R57). -/
def State.completeDomain (s : State) (r : Req) (a : Nat) : State :=
  let b := (s.domain a).content
  let audited := (s.objRow? a).any (·.audit)
  let verify := fun (s : State) =>
    let s1 := s.setDomain a ⟨b, 3⟩
    if audited then { s1 with clp := { s1.clp with audits := Assoc.set s1.clp.audits a r } } else s1
  match warpBankOf a, firmwareBankOf a with
  | some k, _ =>
    -- R161 asks the audit tally of R57 for a bank
    let s1 := s.verifyWritten k
    { s1 with clp := { s1.clp with audits := Assoc.set s1.clp.audits a r } }
  | none, some k => (verify s).setNum (Obj.firmwareBankState k) 2
  | none, none =>
    if a = Obj.safetyParameterSet then { verify s with island := { s.island with pending := b } }.setNum Obj.pendingState 2
    else
      let s1 := s.setDomain a ⟨b, 1⟩
      let s2 := if audited then s1.audit r a 15 b else s1
      if a = Obj.faceplateUserImage then s2.redraw (faceRegion 4) else s2

def State.domainEnd (s : State) (r : Req) (id : Nat) : State × Reply :=
  match s.transferOf r id with
  | none => (s, refusal Status.transferUnknown)
  | some t =>
    let b := (s.domain t.addr).content
    if !t.write then (s, refusal Status.transferUnknown)
    else if b.length ≠ t.total || (decide (t.addr = Obj.faceplateUserImage) && decide (t.total ≠ 2368)) then (s, refusal Status.lengthMismatch)
    else if crc32c b ≠ t.crc then (s.abandon t, refusal Status.domainCrc)
    else (((s.closeTransfer t).completeDomain r t.addr).forwardBank t.addr b.length [], refusal Status.ok)

def execDomainWriteEnd (req : Req) (id : BitVec 16) (s : State) : Host.Outcome State Fault Refusal :=
  .next (s.request req Cmd.writeEnd fun s => s.domainEnd req id.toNat)

/-- DOMAIN_READ_BEGIN (R84 step 4): a copy of the content; an export counts the damaged records it finds (R481). -/
def State.domainCopy (s : State) (r : Req) (a : Nat) : State × Reply :=
  let c := s.domainCode a
  if c ≠ Status.ok then (s, refusal c)
  else if 2 ≤ (s.clp.transfers.filter fun t => !t.write).length then (s, refusal Status.tooManyTransfers)
  else
    let b := (s.domainNow a).content
    let s1 := if a = Obj.tallyExport then s.exportTallies.2 else s
    let (id, s2) := s1.newId
    (s2.openTransfer ⟨id, false, Req.node r, a, b.length, crc32c b, b⟩,
      ⟨Status.ok, leBytes 2 id ++ [0, 0] ++ leBytes 4 b.length ++ leBytes 4 (crc32c b)⟩)

def execDomainReadBegin (req : Req) (addr : BitVec 32) (s : State) : Host.Outcome State Fault Refusal :=
  .next (s.request req Cmd.readBegin fun s => s.domainCopy req addr.toNat)

/-- DOMAIN_READ_SEGMENT (R84 step 4). The ID of a write transfer names no copy and is answered TRANSFER_UNKNOWN, as that of a read transfer is to a
segment or an end of a write (DESIGN CHOICE, log entry 143). -/
def State.domainRead (s : State) (r : Req) (id off len : Nat) : State × Reply :=
  match s.transferOf r id with
  | none => (s, refusal Status.transferUnknown)
  | some t =>
    if t.write then (s, refusal Status.transferUnknown)
    else if t.content.length < off + len then (s, refusal Status.range)
    else if s.payloadRoom r < len then (s, refusal Status.tooLarge)
    else (s, ⟨Status.ok, slice t.content off len⟩)

def execDomainReadSegment (req : Req) (id : BitVec 16) (offset length : BitVec 32) (s : State) : Host.Outcome State Fault Refusal :=
  .next (s.request req Cmd.readSegment fun s => s.domainRead req id.toNat offset.toNat length.toNat)

def State.domainAbort (s : State) (r : Req) (id : Nat) : State × Reply :=
  match s.transferOf r id with
  | none => (s, refusal Status.transferUnknown)
  | some t => (s.abandon t, refusal Status.ok)

def execDomainAbort (req : Req) (id : BitVec 16) (s : State) : Host.Outcome State Fault Refusal :=
  .next (s.request req Cmd.abort fun s => s.domainAbort req id.toNat)

/-- DOMAIN_STATUS (R84 step 5). -/
def State.domainProgress (s : State) (r : Req) (id : Nat) : State × Reply :=
  match s.transferOf r id with
  | none => (s, refusal Status.transferUnknown)
  | some t => (s, ⟨Status.ok, leBytes 4 (if t.write then (s.domain t.addr).content.length else t.content.length)⟩)

def execDomainStatus (req : Req) (id : BitVec 16) (s : State) : Host.Outcome State Fault Refusal :=
  .next (s.request req Cmd.status fun s => s.domainProgress req id.toNat)

/-- 60 s without a command for a transfer: an abort (R84 step 6). -/
def execTransferExpiry (id : BitVec 16) (s : State) : Host.Outcome State Fault Refusal :=
  .next (match s.clp.transfers.find? fun t => decide (t.id = id.toNat) with
    | some t => s.abandon t
    | none => s)

end Sys2Proof.Machine
end

