-- ==== Sys2Proof/Machine/Process.lean ====
section
/-! DEFINITION. Process data (R86 to R88, R127) and event subscriptions (R90 to R92). -/

namespace Sys2Proof.Machine

/-! ### Process data -/

/-- A layout's authentication setting is met (Table 5-10, R78). -/
def layoutAuthOk (l : PdLayout) (auth : Option Nat) (encrypt : Bool) : Bool :=
  decide (l.auth = 0) || (decide (auth = some l.keyId) && (decide (l.auth = 1) || encrypt))

/-- The sequence condition of R86, with its waiver. -/
def State.pdSequenceOk (s : State) (l : PdLayout) (x : Option PdRx) (seq : Nat) : Bool :=
  match x with
  | none => true
  | some x => newer16 seq x.seq || decide (x.tick + 16 * lenOfCode l.cls ≤ s.tick)

/-- A received packet at the PD port (R86, R87): the newest of a layout waits for its cut-off. R86 judges neither the class and reserved bytes of the
payload nor SEQUENCE against the packet's own cut-off tick: a packet in which they disagree is accepted (DESIGN CHOICE, log entry 151). -/
def State.receivePd (s : State) (source ip : Nat) (auth : Option Nat) (encrypt : Bool) (seq : Nat) (payload : Bytes) : State :=
  let found := (rxLayouts s.sections).zipIdx.find? fun e => decide (e.1.id = u16At payload 0)
  match found with
  | none => s.count Obj.pdDropped
  | some (l, k) =>
    let x := Assoc.get? s.pd.rx k
    if s.mode.running && decide (l.peerNode = source) && decide (l.peerIp = ip) && decide (payload.length = 12 + l.bodyLength) &&
        layoutAuthOk l auth encrypt && s.pdSequenceOk l x seq then
      let s1 := { s with pd := { s.pd with rx := Assoc.set s.pd.rx k ⟨seq, s.tick, some (seq, payload)⟩ } }
      if x.any fun x => x.waiting.isSome then s1.count Obj.pdSuperseded else s1
    else s.count Obj.pdDropped

def execPd (source : BitVec 16) (ip : Nat) (auth : Option Nat) (encrypt : Bool) (seq : BitVec 16) (payload : List Byte) (s : State) :
    Host.Outcome State Fault Refusal :=
  .next (if s.netServes then s.receivePd source.toNat ip auth encrypt seq.toNat payload else s)

/-- FLAGS[4] UNSOLICITED (Table 3-3). -/
def unsolicited : Nat := 16

/-- A PD packet leaves, of a module of a pair from the station's addresses (R255): header of R86, body of the cycle cut off at `x.cutoff`. -/
def State.sendPd (s : State) (l : PdLayout) (key : Option (Nat × Bytes)) (x : PdTx) : State :=
  let payload := leBytes 2 l.id ++ [byte l.cls, 0] ++ leBytes 8 x.cutoff ++ x.body
  let b := s.packet Cmd.pd unsolicited (x.cutoff / lenOfCode l.cls % 65536) s.stationNodeOf l.peerNode 0 key (decide (l.auth = 2)) payload
  let port := netPdPort s.sections
  s.countPacket.udpSend .pd l.peerIp port port (s.pairEnabled && decide (s.stationIp ≠ 0)) b

/-- The planned start of a transmitted layout (R88, R89, R99, R127). -/
def execPdTransmit (layout : BitVec 16) (s : State) : Host.Outcome State Fault Refusal :=
  .next (match (txLayouts s.sections)[layout.toNat]?, Assoc.get? s.pd.tx layout.toNat with
    | some l, some x =>
      if !s.mode.running || s.io.fenced || s.ownIp = 0 then s
      else
        let s1 := { s.atOffset l.txOffset with pd := { s.pd with tx := Assoc.erase s.pd.tx layout.toNat } }
        let key := (s1.conduitKey l.keyId).map fun k => (l.keyId, k)
        if !isMulticast l.peerIp && (Assoc.get? s1.clp.arp (s1.nextHop l.peerIp)).isNone then s1.count Obj.arpUnresolved
        else if l.auth = 0 then s1.sendPd l none x
        else if key.isNone then s1 else s1.sendPd l key x
    | _, _ => s)

/-! ### Subscriptions (R90) -/

def State.setSubs (s : State) (subs : List Subscription) : State := { s with clp := { s.clp with subs := subs } }
def State.subOf (s : State) (number : Nat) : Option Subscription := s.clp.subs.find? fun x => decide (x.number = number)
def State.putSub (s : State) (x : Subscription) : State := s.setSubs ((s.clp.subs.filter fun y => decide (y.number ≠ x.number)) ++ [x])
def State.dropSub (s : State) (number : Nat) : State := s.setSubs (s.clp.subs.filter fun x => decide (x.number ≠ number))

/-- The source of a request holds a subscription. -/
def Subscription.heldBy (x : Subscription) (r : Req) : Bool := decide (Req.node x.req = Req.node r)

/-- SUBSCRIBE opens a subscription, or renews it with a new filter and start; a renewal with start 0 goes on from the next record, and records
not yet confirmed are not sent again (DESIGN CHOICE, log entry 34). -/
def State.subscribe (s : State) (r : Req) (number first last start : Nat) : State × Reply :=
  if r.iface = .usb then (s, refusal Status.wrongInterface)
  else if number = 0 || 16 < number then (s, refusal Status.range)
  else
    let next := if start = 0 then s.tally.head + 1 else start
    let x : Subscription := ⟨number, r, first, last, next, next - 1, [], false⟩
    match s.subOf number with
    | some y => if y.heldBy r then (s.putSub x, refusal Status.ok) else (s, refusal Status.busy)
    | none => if 16 ≤ s.clp.subs.length then (s, refusal Status.tooManySubscriptions) else (s.putSub x, refusal Status.ok)

def execSubscribe (req : Req) (number : BitVec 8) (first last : BitVec 16) (start : BitVec 64) (s : State) :
    Host.Outcome State Fault Refusal :=
  .next (s.request req Cmd.subscribe fun s => s.subscribe req number.toNat first.toNat last.toNat start.toNat)

def State.unsubscribe (s : State) (r : Req) (number : Nat) : State × Reply :=
  if r.iface = .usb then (s, refusal Status.wrongInterface)
  else match s.subOf number with
    | some y => if y.heldBy r then (s.dropSub number, refusal Status.ok) else (s, refusal Status.noSubscription)
    | none => (s, refusal Status.noSubscription)

def execUnsubscribe (req : Req) (number : BitVec 8) (s : State) : Host.Outcome State Fault Refusal :=
  .next (s.request req Cmd.unsubscribe fun s => s.unsubscribe req number.toNat)

/-- 30 s without a renewal or an acknowledgement (R92). -/
def execSubscriptionLapse (number : BitVec 8) (s : State) : Host.Outcome State Fault Refusal := .next (s.dropSub number.toNat)

/-! ### Events (R91, R92) -/

/-- The record of a sequence matches a filter. -/
def State.matches_ (s : State) (x : Subscription) (n : Nat) : Bool :=
  let code := u16At (s.tally.lookup n).1 0
  decide (x.first ≤ code) && decide (code ≤ x.last)

/-- Matching sequences from one to another. -/
def State.matching (s : State) (x : Subscription) (first last : Nat) : List Nat :=
  ((List.range (last + 1 - first)).map (first + ·)).filter (s.matches_ x)

/-- An EVENT packet of these sequences (R91), sealed as the subscription's request was. Its SEQUENCE, for which no rule gives a value, is a free value for
each packet (DESIGN CHOICE, log entry 2). -/
def State.sendEvent (s : State) (x : Subscription) (lost : Bool) (ns : List Nat) : State :=
  let r := x.req
  let key := r.auth.bind fun slot => (s.conduitKey slot).map fun k => (slot, k)
  let payload := [byte x.number, byte (b2n lost)] ++ leBytes 2 ns.length ++ ns.flatMap fun n => (s.tally.lookup n).1
  let s1 := ns.foldl (fun (s : State) n => s.inspect n) s
  let (v, s2) := s1.drawFree
  if r.auth.isSome && key.isNone then s
  else
    s2.countPacket.udpSend .event r.ip (s2.started Obj.clpPort) r.port false
      (s2.packet Cmd.event unsolicited (v.toNat % 65536) (s2.num Obj.moduleNode) (Req.node r) 0 key r.encrypt payload)

/-- The highest sequence below which nothing waits for a confirmation. -/
def confirmedTo (awaiting : List Nat) (next : Nat) : Nat :=
  match awaiting with | n :: _ => n - 1 | [] => next - 1

/-- The matching records that a subscription has not been sent yet, as many as one packet holds. Where one that is not confirmed has been overwritten,
the packet says LOST and begins with the oldest record held; that stays to be said until an EVENT leaves (R92). -/
def State.sendEvents (s : State) (x : Subscription) : State :=
  let lost := x.lost || decide (x.confirmed + 1 < s.tally.oldest)
  let start := if lost then s.tally.oldest else x.next
  let all := s.matching x start s.tally.head
  let ns := all.take ((s.payloadRoom x.req - 4) / 64)
  let next := if all.length ≤ ns.length then max start (s.tally.head + 1) else ns.getLast?.getD start + 1
  let awaiting := (x.awaiting.filter fun n => decide (s.tally.oldest ≤ n) && decide (n < start)) ++ ns
  let s1 := s.putSub { x with next := next, confirmed := confirmedTo awaiting next, awaiting := awaiting, lost := lost && ns.isEmpty }
  if ns.isEmpty then s1 else s1.sendEvent x lost ns

/-- Within 10 ms of a record: the first EVENT that carries it. -/
def execEvent (number : BitVec 8) (s : State) : Host.Outcome State Fault Refusal :=
  .next (match s.subOf number.toNat with
    | some x => if s.netServes then s.sendEvents x else s
    | none => s)

/-- 1 s: records that are not confirmed are sent again. -/
def execEventResend (number : BitVec 8) (s : State) : Host.Outcome State Fault Refusal :=
  .next (match s.subOf number.toNat with
    | some x => if s.netServes && decide (x.confirmed + 1 < x.next) then s.sendEvents { x with next := x.confirmed + 1 } else s
    | none => s)

/-- Records up to a sequence are confirmed; one that is not and has been overwritten is remembered (R92). -/
def State.confirmEvents (s : State) (x : Subscription) (highest : Nat) : State :=
  let left := x.awaiting.filter fun n => decide (highest < n)
  let held := left.filter fun n => decide (s.tally.oldest ≤ n)
  s.putSub { x with awaiting := held, confirmed := confirmedTo held x.next, lost := x.lost || decide (held.length < left.length) }

/-- EVENT_ACK is not answered (Table 3-5): it consumes its SEQUENCE with an empty response. Over USB it is refused (R66). -/
def State.eventAck (s : State) (r : Req) (number highest : Nat) : State :=
  if r.iface = .usb then s.request r Cmd.eventAck fun s => (s, refusal Status.wrongInterface)
  else if !s.servesReq r then s
  else
    let s1 := s.count Obj.requestsExecuted
    let s2 := match s1.subOf number with
      | some x => if x.heldBy r then s1.confirmEvents x highest else s1
      | none => s1
    s2.remember r []

def execEventAck (req : Req) (number : BitVec 8) (highest : BitVec 64) (s : State) : Host.Outcome State Fault Refusal :=
  .next (s.eventAck req number.toNat highest.toNat)

end Sys2Proof.Machine
end

