-- ==== Sys2Proof/Machine/Receive.lean ====
section
/-! DEFINITION. Receiving a packet: the steps of Table 3-4 (R72), the rate limits (R94 to R97), authentication and replay (R77 to R80), the
sequence rule (R74), and the form of every request (R82, R84, R85, R90, R91). -/

namespace Sys2Proof.Machine

/-! ### Rate limits (R95) -/

/-- A bucket refilled at a rate per second up to a burst of 0.1 s; tokens are scaled by 10⁹. -/
def Bucket.refill (b : Bucket) (rate now : Nat) : Bucket := ⟨min (rate * 100000000) (b.tokens + rate * (now - b.atNs)), now⟩

def Bucket.take (b : Bucket) (n : Nat) : Bucket := { b with tokens := b.tokens - n * 1000000000 }
def Bucket.has (b : Bucket) (n : Nat) : Bool := decide (n * 1000000000 ≤ b.tokens)

/-- Bits of the Ethernet frame of a datagram: UDP, IPv4 and Ethernet headers, the trailer of PRP, the check sequence and a VLAN tag. -/
def frameBits (d : Datagram) : Nat := 8 * (d.data.length + 28 + 14 + 4 + (if d.rx.rct.isSome then 6 else 0) + if d.rx.vlan.isSome then 4 else 0)

/-- The request is within the limits of its port and its source, and is charged to them; or it is dropped. -/
def State.rateTake (s : State) (d : Datagram) : State × Bool :=
  let p := portIx d.rx.port
  let now := s.localNs
  let packets := s.clp.packetBucket[p].refill (s.num Obj.ratePackets) now
  let bits := s.clp.bitBucket[p].refill (s.num Obj.rateBitsPerSecond * 1000) now
  let source := u16At d.data 10
  let times := lastSecond now ((Assoc.get? s.clp.sourceTimes source).getD [])
  let ok := packets.has 1 && bits.has (frameBits d) && decide (times.length < s.num Obj.ratePerSource)
  let charged := fun (a b : Bucket) (ts : List Nat) =>
    { s with clp := { s.clp with packetBucket := s.clp.packetBucket.set p a, bitBucket := s.clp.bitBucket.set p b
                                 sourceTimes := Assoc.set s.clp.sourceTimes source ts } }
  if ok then (charged (packets.take 1) (bits.take (frameBits d)) (times ++ [now]), true) else (charged packets bits times, false)

/-! ### Replay (R80) -/

/-- The record after a counter is accepted; none for a replay. -/
def ReplayRecord.take (x : ReplayRecord) (n : Nat) : Option ReplayRecord :=
  if x.highest < n then some { x with highest := n, below := (x.below * 2 + 1) * 2 ^ (n - x.highest - 1) % 2 ^ 64 }
  else if n = x.highest || x.highest < n + 1 then none
  else
    let k := x.highest - 1 - n
    if 64 ≤ k || bit x.below k then none else some { x with below := x.below + 2 ^ k }

/-- The counter of a verified packet of a source and key slot: the state with it recorded, or a replay. -/
def State.takeNonce (s : State) (source slot n : Nat) : Option State :=
  let same := fun (x : ReplayRecord) => decide (x.source = source) && decide (x.slot = slot)
  let put := fun (x : ReplayRecord) => { s with clp := { s.clp with replay := (s.clp.replay.filter fun y => !same y) ++ [x] } }
  match s.clp.replay.find? same with
  | none => some (put ⟨source, slot, n, 0⟩)
  | some x => (x.take n).map put

/-! ### Requests in their payloads -/

/-- A request with a malformed payload (R82, R93). -/
def State.malformed (s : State) (r : Req) (command : Nat) : State := s.request r command fun s => (s, refusal Status.badHeader)

/-- The items of a WRITE_MULTI, each padded to a multiple of 4: none where the lengths do not agree or a reserved or pad byte is not 0. -/
def multiItems : Nat → Bytes → Option (List (Nat × Bytes))
  | 0, b => if b.isEmpty then some [] else none
  | n + 1, b =>
    let len := u16At b 4
    let size := roundUp 4 (8 + len)
    if b.length < size || u16At b 6 ≠ 0 || !(slice b (8 + len) (size - (8 + len))).all (· == 0) then none
    else (multiItems n (b.drop size)).map fun rest => (u32At b 0, slice b 8 len) :: rest

/-- A READ or WRITE command (R82). -/
def State.objectCommand (s : State) (r : Req) (command : Nat) (b : Bytes) : State :=
  let count := u8At b 0
  if command = Cmd.read then
    if b.length = 4 then s.request r command fun s => s.readOne (u32At b 0) else s.malformed r command
  else if command = Cmd.write then
    if b.length = 8 + u16At b 4 && 8 ≤ b.length && decide (u16At b 6 = 0) then s.writeRequest r (u32At b 0) (b.drop 8) else s.malformed r command
  else if b.length < 4 || slice b 1 3 ≠ zeros 3 || count = 0 || 64 < count then s.malformed r command
  else if command = Cmd.readMulti then
    if b.length = 4 + 4 * count then s.request r command fun s => s.readAll r ((chunks 4 count (b.drop 4)).map leNat) else s.malformed r command
  else match multiItems count (b.drop 4) with
    | some items => s.request r command fun s => s.writeAll r items
    | none => s.malformed r command

/-- A domain command (R84). -/
def State.domainCommand (s : State) (r : Req) (command : Nat) (b : Bytes) : State :=
  let act : Option (State → State × Reply) :=
    if command = Cmd.writeBegin then if b.length = 12 then some fun s => s.domainBegin r (u32At b 0) (u32At b 4) (u32At b 8) else none
    else if command = Cmd.writeSegment then
      if 8 ≤ b.length && decide (u16At b 2 = 0) then some fun s => s.domainSegment r (u16At b 0) (u32At b 4) (b.drop 8) else none
    else if command = Cmd.writeEnd then if b.length = 2 then some fun s => s.domainEnd r (u16At b 0) else none
    else if command = Cmd.readBegin then if b.length = 4 then some fun s => s.domainCopy r (u32At b 0) else none
    else if command = Cmd.readSegment then
      if b.length = 12 && decide (u16At b 2 = 0) then some fun s => s.domainRead r (u16At b 0) (u32At b 4) (u32At b 8) else none
    else if b.length ≠ 2 then none
    else if command = Cmd.abort then some fun s => s.domainAbort r (u16At b 0) else some fun s => s.domainProgress r (u16At b 0)
  match act with
  | some f => s.request r command f
  | none => s.malformed r command

/-- A subscription command (R90, R91). An EVENT_ACK is not answered; one that is malformed, or that steps 10 and 11 refuse, is answered as
any request is (DESIGN CHOICE, log entry 32). -/
def State.eventCommand (s : State) (r : Req) (command : Nat) (b : Bytes) : State :=
  if r.iface = .usb then s.request r command fun s => (s, refusal Status.wrongInterface)
  else if command = Cmd.subscribe then
    if b.length = 13 then s.request r command fun s => s.subscribe r (u8At b 0) (u16At b 1) (u16At b 3) (u64At b 5) else s.malformed r command
  else if command = Cmd.unsubscribe then
    if b.length = 1 then s.request r command fun s => s.unsubscribe r (u8At b 0) else s.malformed r command
  else if b.length = 9 then s.eventAck r (u8At b 0) (u64At b 1)
  else s.malformed r command

/-- Steps 12 and 13 of Table 3-4. A request with COMMAND 0x42 EVENT and UNSOLICITED clear, for which Table 3-5 has no host's use, is answered
UNKNOWN_COMMAND on the network and WRONG_INTERFACE over USB (DESIGN CHOICE, log entry 29). -/
def State.dispatch (s : State) (r : Req) (command : Nat) (b : Bytes) : State :=
  if command = Cmd.identify then s.identify r b
  else if Cmd.read ≤ command && command ≤ Cmd.writeMulti then s.objectCommand r command b
  else if Cmd.writeBegin ≤ command && command ≤ Cmd.status then s.domainCommand r command b
  else if command = Cmd.pd || (command = Cmd.event && r.iface = .usb) then s.request r command fun s => (s, refusal Status.wrongInterface)
  else if command = Cmd.subscribe || command = Cmd.unsubscribe || command = Cmd.eventAck then s.eventCommand r command b
  else if command = Cmd.reset then
    if b.length = 4 && decide (b.drop 1 = zeros 3) then s.request r command fun s => s.writeOne r Obj.resetRequest (b.take 1) else s.malformed r command
  else s.request r command fun s => (s, refusal Status.unknownCommand)

/-! ### Step 11 -/

/-- A request's SEQUENCE: repeated, executed or refused (R74); IDENTIFY is always executed (R75). A cached response goes out byte for byte,
with the NONCE_COUNTER it had, and the counter of packets sent (R79) does not move (DESIGN CHOICE, log entry 28). -/
def State.takeRequest (s : State) (r : Req) (command : Nat) (b : Bytes) : State :=
  match s.seqRecord (Req.node r) with
  | none => s.dispatch r command b
  | some x =>
    if command = Cmd.identify then s.dispatch r command b
    else match x.cache.find? fun e => decide (e.1 = r.seq) with
      | some e => if e.2.isEmpty then s else s.sendTo r e.2
      | none =>
        if newer16 r.seq x.newest then s.dispatch r command b
        else
          let key := r.auth.bind s.conduitKey
          ((s.count Obj.sequenceRefused).respond key r command ⟨Status.sequence, leBytes 2 x.newest⟩).1

/-! ### Steps 3 to 10 -/

/-- Step 6 of Table 3-4, RESPONSE apart. -/
def headerOk6 (h : Bytes) : Bool :=
  let flags := u16At h 6
  let key := u8At h 18
  decide (flags / 32 = 0) && decide (u16At h 14 = 0) && decide (u8At h 19 = 0) && (if bit flags 1 then decide (key ≤ 15) else decide (key = 0)) &&
    (!bit flags 2 || bit flags 1)

/-- Steps 5 to 8: the code of the first that fails, or 0. -/
def State.headerCode (s : State) (usb : Bool) (w : Bytes) : Nat :=
  let area := u16At w 16 + if bit (u16At w 6) 1 then 16 else 0
  if u8At w 4 ≠ 1 then Status.badVersion
  else if !headerOk6 w then Status.badHeader
  else if w.length ≠ 32 + area then Status.badLength
  else if s.payloadArea usb < area then Status.tooLarge
  else Status.ok

/-- What AuthMode demands of a request (R78). -/
def State.authDemand (s : State) (usb : Bool) (auth encrypt : Bool) : Bool :=
  match s.num (if usb then Obj.authModeUsb else Obj.authModeNetwork) with
  | 0 => true
  | 1 => auth
  | _ => auth && encrypt

/-- Steps 11 to 13: at ClpPort a request; at the PD port, and for an UNSOLICITED packet, R72 and R86. -/
def State.takeVerified (s : State) (r : Req) (atPd : Bool) (flags command : Nat) (payload : Bytes) : State :=
  if bit flags 4 || atPd then
    if atPd && bit flags 4 && decide (command = Cmd.pd) then s.receivePd r.source r.ip r.auth r.encrypt r.seq payload
    else s.count Obj.pdDropped
  else s.takeRequest r command payload

/-- Steps 9 and 10, then the rest. -/
def State.takeAuth (s : State) (r : Req) (atPd : Bool) (w : Bytes) : State :=
  let flags := u16At w 6
  let command := u8At w 5
  let verified : Option (State × Bytes) :=
    match r.auth with
    | none => some (s, slice w 32 (u16At w 16))
    | some slot => do
      let key ← s.conduitKey slot
      let payload ← openPacket key w
      let s1 ← s.takeNonce (Req.node r) slot (u64At w 24)
      pure (s1, payload)
  match verified with
  | none => s.count Obj.authFailures
  | some (s1, payload) =>
    if !bit flags 4 && !s1.authDemand (decide (r.iface = .usb)) r.auth.isSome r.encrypt then
      (s1.respond (r.auth.bind s1.conduitKey) r command (refusal Status.authRequired)).1
    else s1.takeVerified r atPd flags command payload

/-- Who asks, from the datagram and the header. -/
def requestOf (d : Datagram) : Req :=
  let w := d.data
  let flags := u16At w 6
  let iface : Iface := if d.usb then .usb else match d.rx.port with | .a => .portA | .b => .portB
  { iface := iface, source := u16At w 10, seq := u16At w 8, ip := d.srcIp, port := d.srcPort, toIp := d.dstIp, dest := u16At w 12
    auth := if bit flags 1 then some (u8At w 18) else none, encrypt := bit flags 2, stores := d.stores, fails := d.fails }

/-- DESTINATION of step 4 (R69). -/
def State.destinationOk (s : State) (usb : Bool) (command dest : Nat) : Bool :=
  if dest = 0 then usb || decide (command = Cmd.identify) else decide (dest = s.num Obj.moduleNode) || decide (dest = s.stationNodeOf)

/-- Steps 3 to 13 for a datagram at ClpPort or the PD port. A packet with UNSOLICITED set that fails one of steps 5 to 8 is dropped, and no
counter of R72 names it (DESIGN CHOICE between Tables 3-3 and 3-4, log entry 27). -/
def State.takePacket (s : State) (d : Datagram) (atPd : Bool) : State :=
  let w := d.data
  let flags := u16At w 6
  let r := requestOf d
  if w.length < 32 || u32At w 0 ≠ 0x39504C43 then s.count Obj.badHeader
  else if !s.destinationOk d.usb (u8At w 5) (u16At w 12) then s.count Obj.framesDiscarded
  else if bit flags 0 then s.count Obj.badHeader
  else
    let c := s.headerCode d.usb w
    if c = Status.ok then s.takeAuth r atPd w
    else if bit flags 4 then s
    else (s.respond none { r with auth := none, encrypt := false } (u8At w 5) (refusal c)).1

/-! ### Steps 1 and 2 -/

/-- The UDP checksum of a datagram as received (R65): that of its content, or 0, with which its sender set none (RFC 768, log entry 37). -/
def checksumOk (d : Datagram) : Bool :=
  decide (d.checksum = 0) || decide (d.checksum = udpChecksum d.srcIp d.dstIp d.srcPort d.dstPort d.data)

/-- A frame at the service port. -/
def State.usbPacket (s : State) (d : Datagram) : State :=
  if !s.serves || !s.options.inForce.usb then s
  else if d.excluded || !checksumOk d || d.srcIp ≠ usbHostIp || d.dstIp ≠ usbStationIp || d.dstPort ≠ s.started Obj.clpPort then s.count Obj.framesDiscarded
  else s.takePacket d false

/-- A frame is for this module: its addresses (R70, R255), or a declared multicast group. -/
def State.forUs (s : State) (ip : Nat) : Bool := s.answersIp ip || (netGroups s.sections).contains ip

/-- A datagram for the PD port of the loaded warp (R86). -/
def State.atPdPort (s : State) (d : Datagram) : Bool := s.warp.loaded.isSome && decide (d.dstPort = netPdPort s.sections)

/-- A first copy at a network port: the subset of Table 3-1, step 1, and at ClpPort the limits of step 2. What comes to the PD port is charged to no
limit of step 2, a PD packet or not (DESIGN CHOICE, log entry 140). -/
def State.netArrived (s : State) (d : Datagram) : State :=
  if d.excluded || !checksumOk d || !s.forUs d.dstIp || !(s.atPdPort d || decide (d.dstPort = s.started Obj.clpPort)) then
    s.count Obj.framesDiscarded
  else if s.atPdPort d then s.takePacket d true
  else
    let x := s.rateTake d
    if x.2 then x.1.takePacket d false else x.1.count Obj.rateDropped

/-- A frame at a network port, once the second copy is discarded (R287). A port whose rate is below SLOWEST_RATE is not used for PD or CLP (R143): what
comes on it is discarded and counted before it can stand for the copy of the other port (log entry 39). -/
def State.netPacket (s : State) (d : Datagram) : State :=
  if !s.netServes then s
  else if s.rateLow (s.portRate (portNo d.rx.port)) then (s.prpHear d.rx).count Obj.framesDiscarded
  else
    let x := s.prpTake d.rx
    if x.2 then x.1.netArrived d else x.1

def execClpPacketReceive (d : Datagram) (s : State) : Host.Outcome State Fault Refusal :=
  .next (if d.usb then s.usbPacket d
    else match d.kind with
      | .udp => s.netPacket d
      | .supervision => if s.mode.answers then s.takeSupervision d.rx else s
      | .otherPtp => s.ptpTake d.rx.port d.rx.vlan (decide (s.started Obj.ptpTransport = 2)) State.ptpDiscard)

end Sys2Proof.Machine
end

