-- ==== Sys2Proof/Machine/SeamFrames.lean ====
section
/-! DEFINITION. The frames of the seam as they arrive (Table 9-5): one reception for all (R258, R259), and what each type does. HELLO, which
opens the pairing, is in Pair.lean. -/

namespace Sys2Proof.Machine

/-- What a frame of a type does once it has been taken: header and payload. -/
def State.applyFrame (cls : CClass) (type : Nat) (s : State) (header payload : Bytes) : State :=
  match type with
  | 2 => s.takeWeftPiece cls payload
  | 3 => s.takeState header payload
  | 4 => s.takeClose (closeOf payload)
  | 5 => if s.mode = .standby then (valuesOf payload.length payload).foldl State.applyForwarded s else s
  | 6 => s.takeBank (u32At payload 0) (payload.drop 4)
  | 7 => s.takeLines payload
  | 8 => s.takeStored payload
  | 9 => s.takeAck payload
  | _ => s

/-- A frame of a type arrives; the class matters to a WEFT frame alone. -/
def State.frameIn (s : State) (type : Nat) (cls : CClass) (wire : Bytes) : State := s.seamReceive type wire (State.applyFrame cls)

/-- WEFT (R260); the seam slot that the Loom plan gives the frame says whose class's weft it carries. -/
def execWeftFrame (frame : List Byte) (cls : CClass) (tag : List Byte) (s : State) : Host.Outcome State Fault Refusal :=
  .next (s.frameIn seamTypeWeft cls (frame ++ tag))

/-- STATE (R263). -/
def execStateFrame (wire : List Byte) (s : State) : Host.Outcome State Fault Refusal := .next (s.frameIn seamTypeState .q wire)

/-- CLOSE (R264). -/
def execCloseFrameReceive (wire : List Byte) (s : State) : Host.Outcome State Fault Refusal := .next (s.frameIn seamTypeClose .q wire)

/-- DICT (R265). -/
def execDictFrame (wire : List Byte) (s : State) : Host.Outcome State Fault Refusal := .next (s.frameIn seamTypeDict .q wire)

/-- BANK (R160, R267). -/
def execBankFrame (wire : List Byte) (s : State) : Host.Outcome State Fault Refusal := .next (s.frameIn seamTypeBank .q wire)

/-- RESYNC (R267). -/
def execResyncFrame (wire : List Byte) (s : State) : Host.Outcome State Fault Refusal := .next (s.frameIn seamTypeResync .q wire)

/-- PERSIST (R267). -/
def execPersistFrame (wire : List Byte) (s : State) : Host.Outcome State Fault Refusal := .next (s.frameIn seamTypePersist .q wire)

/-- ACK (R259). -/
def execAckFrame (wire : List Byte) (s : State) : Host.Outcome State Fault Refusal := .next (s.frameIn seamTypeAck .q wire)

end Sys2Proof.Machine
end

