-- ==== Sys2Proof/Machine/Dispatch.lean ====
section
/-! DEFINITION. The dispatch of a command to its meaning: one arm per constructor of `Instr`. -/

namespace Sys2Proof.Machine

/-- The effect of a command on everything but the queue. -/
def exec (i : Instr) (s : State) : Host.Outcome State Fault Refusal :=
  match i with
  | .logicSupplyRise => Sys2Proof.Machine.execLogicSupplyRise s
  | .logicSupplyLoss pulse => Sys2Proof.Machine.execLogicSupplyLoss pulse s
  | .feedLoss => Sys2Proof.Machine.execFeedLoss s
  | .resetPinAssert pin => Sys2Proof.Machine.execResetPinAssert pin s
  | .resetPinRelease => Sys2Proof.Machine.execResetPinRelease s
  | .watchdogExpiry pulse => Sys2Proof.Machine.execWatchdogExpiry pulse s
  | .debugReset port level pulse => Sys2Proof.Machine.execDebugReset port level pulse s
  | .sourceTakesHold src delayed => Sys2Proof.Machine.execSourceTakesHold src delayed s
  | .internalSourceRelease src => Sys2Proof.Machine.execInternalSourceRelease src s
  | .episodeClose f => Sys2Proof.Machine.execEpisodeClose f s
  | .bootComplete f => Sys2Proof.Machine.execBootComplete f s
  | .holdEntered cause => Sys2Proof.Machine.execHoldEntered cause s
  | .overtemp => Sys2Proof.Machine.execOvertemp s
  | .wake src recordBad => Sys2Proof.Machine.execWake src recordBad s
  | .load req => Sys2Proof.Machine.execLoad req s
  | .unload req => Sys2Proof.Machine.execUnload req s
  | .start req => Sys2Proof.Machine.execStart req s
  | .stop req => Sys2Proof.Machine.execStop req s
  | .handover req => Sys2Proof.Machine.execHandover req s
  | .layup req => Sys2Proof.Machine.execLayup req s
  | .automaticStart => Sys2Proof.Machine.execAutomaticStart s
  | .startBoundary => Sys2Proof.Machine.execStartBoundary s
  | .stopBoundary => Sys2Proof.Machine.execStopBoundary s
  | .handoverBoundary => Sys2Proof.Machine.execHandoverBoundary s
  | .profileWrite req value => Sys2Proof.Machine.execProfileWrite req value s
  | .profileChange => Sys2Proof.Machine.execProfileChange s
  | .resetRequest req value => Sys2Proof.Machine.execResetRequest req value s
  | .restoreCommand req value => Sys2Proof.Machine.execRestoreCommand req value s
  | .restoreDone => Sys2Proof.Machine.execRestoreDone s
  | .resetCauseClear req value => Sys2Proof.Machine.execResetCauseClear req value s
  | .objectWrite req addr value => Sys2Proof.Machine.execObjectWrite req addr value s
  | .clpPacketReceive d => Sys2Proof.Machine.execClpPacketReceive d s
  | .identify req => Sys2Proof.Machine.execIdentify req s
  | .read req addr => Sys2Proof.Machine.execRead req addr s
  | .write req addr value => Sys2Proof.Machine.execWrite req addr value s
  | .readMulti req addrs => Sys2Proof.Machine.execReadMulti req addrs s
  | .writeMulti req items => Sys2Proof.Machine.execWriteMulti req items s
  | .domainWriteBegin req addr total crc => Sys2Proof.Machine.execDomainWriteBegin req addr total crc s
  | .domainWriteSegment req id offset data => Sys2Proof.Machine.execDomainWriteSegment req id offset data s
  | .domainWriteEnd req id => Sys2Proof.Machine.execDomainWriteEnd req id s
  | .domainReadBegin req addr => Sys2Proof.Machine.execDomainReadBegin req addr s
  | .domainReadSegment req id offset length => Sys2Proof.Machine.execDomainReadSegment req id offset length s
  | .domainAbort req id => Sys2Proof.Machine.execDomainAbort req id s
  | .domainStatus req id => Sys2Proof.Machine.execDomainStatus req id s
  | .transferExpiry id => Sys2Proof.Machine.execTransferExpiry id s
  | .sequenceRecordExpiry source => Sys2Proof.Machine.execSequenceRecordExpiry source s
  | .pd source ip auth encrypt seq payload => Sys2Proof.Machine.execPd source ip auth encrypt seq payload s
  | .pdTransmit layout => Sys2Proof.Machine.execPdTransmit layout s
  | .subscribe req number first last start => Sys2Proof.Machine.execSubscribe req number first last start s
  | .unsubscribe req number => Sys2Proof.Machine.execUnsubscribe req number s
  | .event number => Sys2Proof.Machine.execEvent number s
  | .eventResend number => Sys2Proof.Machine.execEventResend number s
  | .eventAck req number highest => Sys2Proof.Machine.execEventAck req number highest s
  | .subscriptionLapse number => Sys2Proof.Machine.execSubscriptionLapse number s
  | .reset req level => Sys2Proof.Machine.execReset req level s
  | .arpRequest rx senderIp targetIp => Sys2Proof.Machine.execArpRequest rx senderIp targetIp s
  | .arpRefresh ip mac => Sys2Proof.Machine.execArpRefresh ip mac s
  | .icmpEcho rx srcIp dstIp data => Sys2Proof.Machine.execIcmpEcho rx srcIp dstIp data s
  | .igmpQuery rx => Sys2Proof.Machine.execIgmpQuery rx s
  | .portLinkUp port rate => Sys2Proof.Machine.execPortLinkUp port rate s
  | .pathLost port cause => Sys2Proof.Machine.execPathLost port cause s
  | .pathRestored port => Sys2Proof.Machine.execPathRestored port s
  | .prpSupervision => Sys2Proof.Machine.execPrpSupervision s
  | .tickEdge => Sys2Proof.Machine.execTickEdge s
  | .sourceStale entry => Sys2Proof.Machine.execSourceStale entry s
  | .shelveExpiry group => Sys2Proof.Machine.execShelveExpiry group s
  | .gapWeft => Sys2Proof.Machine.execGapWeft s
  | .executionStart => Sys2Proof.Machine.execExecutionStart s
  | .laneNop l => Sys2Proof.Machine.execLaneNop l s
  | .laneEnd l => Sys2Proof.Machine.execLaneEnd l s
  | .laneWait l d mask => Sys2Proof.Machine.execLaneWait l d mask s
  | .waitRelease l => Sys2Proof.Machine.execWaitRelease l s
  | .laneWeft l d cls => Sys2Proof.Machine.execLaneWeft l d cls s
  | .laneCommit l cls => Sys2Proof.Machine.execLaneCommit l cls s
  | .laneShut l a unit tag count => Sys2Proof.Machine.execLaneShut l a unit tag count s
  | .laneTrom l a tag count => Sys2Proof.Machine.execLaneTrom l a tag count s
  | .laneDmai l tag list => Sys2Proof.Machine.execLaneDmai l tag list s
  | .laneConstl l d imm => Sys2Proof.Machine.execLaneConstl l d imm s
  | .laneConsth l d imm => Sys2Proof.Machine.execLaneConsth l d imm s
  | .laneMov l d a => Sys2Proof.Machine.execLaneMov l d a s
  | .laneAddi l d a imm => Sys2Proof.Machine.execLaneAddi l d a imm s
  | .laneExt l d a lsb width1 => Sys2Proof.Machine.execLaneExt l d a lsb width1 s
  | .laneIns l d a lsb width1 => Sys2Proof.Machine.execLaneIns l d a lsb width1 s
  | .laneAdd32 l d a b => Sys2Proof.Machine.execLaneAdd32 l d a b s
  | .laneSub32 l d a b => Sys2Proof.Machine.execLaneSub32 l d a b s
  | .laneMul32 l d a b => Sys2Proof.Machine.execLaneMul32 l d a b s
  | .laneDivs32 l d a b => Sys2Proof.Machine.execLaneDivs32 l d a b s
  | .laneDivu32 l d a b => Sys2Proof.Machine.execLaneDivu32 l d a b s
  | .laneAdd64 l d a b => Sys2Proof.Machine.execLaneAdd64 l d a b s
  | .laneSub64 l d a b => Sys2Proof.Machine.execLaneSub64 l d a b s
  | .laneMul64 l d a b => Sys2Proof.Machine.execLaneMul64 l d a b s
  | .laneDivs64 l d a b => Sys2Proof.Machine.execLaneDivs64 l d a b s
  | .laneDivu64 l d a b => Sys2Proof.Machine.execLaneDivu64 l d a b s
  | .laneAnd l d a b => Sys2Proof.Machine.execLaneAnd l d a b s
  | .laneOr l d a b => Sys2Proof.Machine.execLaneOr l d a b s
  | .laneXor l d a b => Sys2Proof.Machine.execLaneXor l d a b s
  | .laneNot l d a => Sys2Proof.Machine.execLaneNot l d a s
  | .laneShl l d a b => Sys2Proof.Machine.execLaneShl l d a b s
  | .laneShr l d a b => Sys2Proof.Machine.execLaneShr l d a b s
  | .laneSar l d a b => Sys2Proof.Machine.execLaneSar l d a b s
  | .laneMins l d a b => Sys2Proof.Machine.execLaneMins l d a b s
  | .laneMaxs l d a b => Sys2Proof.Machine.execLaneMaxs l d a b s
  | .laneSx8 l d a => Sys2Proof.Machine.execLaneSx8 l d a s
  | .laneSx16 l d a => Sys2Proof.Machine.execLaneSx16 l d a s
  | .laneSx32 l d a => Sys2Proof.Machine.execLaneSx32 l d a s
  | .laneCeq l d a b => Sys2Proof.Machine.execLaneCeq l d a b s
  | .laneCne l d a b => Sys2Proof.Machine.execLaneCne l d a b s
  | .laneClts l d a b => Sys2Proof.Machine.execLaneClts l d a b s
  | .laneCltu l d a b => Sys2Proof.Machine.execLaneCltu l d a b s
  | .laneCles l d a b => Sys2Proof.Machine.execLaneCles l d a b s
  | .laneCleu l d a b => Sys2Proof.Machine.execLaneCleu l d a b s
  | .laneFceq32 l d a b => Sys2Proof.Machine.execLaneFceq32 l d a b s
  | .laneFclt32 l d a b => Sys2Proof.Machine.execLaneFclt32 l d a b s
  | .laneFcle32 l d a b => Sys2Proof.Machine.execLaneFcle32 l d a b s
  | .laneFcun32 l d a b => Sys2Proof.Machine.execLaneFcun32 l d a b s
  | .laneFceq64 l d a b => Sys2Proof.Machine.execLaneFceq64 l d a b s
  | .laneFclt64 l d a b => Sys2Proof.Machine.execLaneFclt64 l d a b s
  | .laneFcle64 l d a b => Sys2Proof.Machine.execLaneFcle64 l d a b s
  | .laneFcun64 l d a b => Sys2Proof.Machine.execLaneFcun64 l d a b s
  | .laneSel l d a b c => Sys2Proof.Machine.execLaneSel l d a b c s
  | .laneBsel l d a b c => Sys2Proof.Machine.execLaneBsel l d a b c s
  | .laneFadd32 l d a b => Sys2Proof.Machine.execLaneFadd32 l d a b s
  | .laneFsub32 l d a b => Sys2Proof.Machine.execLaneFsub32 l d a b s
  | .laneFmul32 l d a b => Sys2Proof.Machine.execLaneFmul32 l d a b s
  | .laneFdiv32 l d a b => Sys2Proof.Machine.execLaneFdiv32 l d a b s
  | .laneFsqrt32 l d a => Sys2Proof.Machine.execLaneFsqrt32 l d a s
  | .laneFmin32 l d a b => Sys2Proof.Machine.execLaneFmin32 l d a b s
  | .laneFmax32 l d a b => Sys2Proof.Machine.execLaneFmax32 l d a b s
  | .laneFabs32 l d a => Sys2Proof.Machine.execLaneFabs32 l d a s
  | .laneFneg32 l d a => Sys2Proof.Machine.execLaneFneg32 l d a s
  | .laneCvtf32i32 l d a => Sys2Proof.Machine.execLaneCvtf32i32 l d a s
  | .laneCvti32f32 l d a => Sys2Proof.Machine.execLaneCvti32f32 l d a s
  | .laneCvtf64f32 l d a => Sys2Proof.Machine.execLaneCvtf64f32 l d a s
  | .laneCvtf32f64 l d a => Sys2Proof.Machine.execLaneCvtf32f64 l d a s
  | .laneFadd64 l d a b => Sys2Proof.Machine.execLaneFadd64 l d a b s
  | .laneFsub64 l d a b => Sys2Proof.Machine.execLaneFsub64 l d a b s
  | .laneFmul64 l d a b => Sys2Proof.Machine.execLaneFmul64 l d a b s
  | .laneFdiv64 l d a b => Sys2Proof.Machine.execLaneFdiv64 l d a b s
  | .laneFsqrt64 l d a => Sys2Proof.Machine.execLaneFsqrt64 l d a s
  | .laneFmin64 l d a b => Sys2Proof.Machine.execLaneFmin64 l d a b s
  | .laneFmax64 l d a b => Sys2Proof.Machine.execLaneFmax64 l d a b s
  | .laneFabs64 l d a => Sys2Proof.Machine.execLaneFabs64 l d a s
  | .laneFneg64 l d a => Sys2Proof.Machine.execLaneFneg64 l d a s
  | .laneCvtf64i64 l d a => Sys2Proof.Machine.execLaneCvtf64i64 l d a s
  | .laneCvti64f64 l d a => Sys2Proof.Machine.execLaneCvti64f64 l d a s
  | .laneScl32 l d a b => Sys2Proof.Machine.execLaneScl32 l d a b s
  | .laneClamp32 l d a b => Sys2Proof.Machine.execLaneClamp32 l d a b s
  | .laneFilt32 l d a b => Sys2Proof.Machine.execLaneFilt32 l d a b s
  | .laneRamp32 l d a b => Sys2Proof.Machine.execLaneRamp32 l d a b s
  | .laneLd8 l d a imm => Sys2Proof.Machine.execLaneLd8 l d a imm s
  | .laneLd16 l d a imm => Sys2Proof.Machine.execLaneLd16 l d a imm s
  | .laneLd32 l d a imm => Sys2Proof.Machine.execLaneLd32 l d a imm s
  | .laneLd64 l d a imm => Sys2Proof.Machine.execLaneLd64 l d a imm s
  | .laneSt8 l d a imm => Sys2Proof.Machine.execLaneSt8 l d a imm s
  | .laneSt16 l d a imm => Sys2Proof.Machine.execLaneSt16 l d a imm s
  | .laneSt32 l d a imm => Sys2Proof.Machine.execLaneSt32 l d a imm s
  | .laneSt64 l d a imm => Sys2Proof.Machine.execLaneSt64 l d a imm s
  | .laneLdw l d a imm => Sys2Proof.Machine.execLaneLdw l d a imm s
  | .laneStw l d a imm => Sys2Proof.Machine.execLaneStw l d a imm s
  | .laneLdp l d a imm => Sys2Proof.Machine.execLaneLdp l d a imm s
  | .laneStp l d a imm => Sys2Proof.Machine.execLaneStp l d a imm s
  | .loopEvaluation shuttle ram => Sys2Proof.Machine.execLoopEvaluation shuttle ram s
  | .loopLost loop => Sys2Proof.Machine.execLoopLost loop s
  | .loopFrozen loop => Sys2Proof.Machine.execLoopFrozen loop s
  | .testModeWrite req loop mode => Sys2Proof.Machine.execTestModeWrite req loop mode s
  | .testComplete loop => Sys2Proof.Machine.execTestComplete loop s
  | .pointScreen => Sys2Proof.Machine.execPointScreen s
  | .alarmDelayExpiry point condition => Sys2Proof.Machine.execAlarmDelayExpiry point condition s
  | .dmaListStart list faults => Sys2Proof.Machine.execDmaListStart list faults s
  | .dmaListComplete list => Sys2Proof.Machine.execDmaListComplete list s
  | .dmaResponseError list desc beat => Sys2Proof.Machine.execDmaResponseError list desc beat s
  | .deviceRequest engine beats withdrawn => Sys2Proof.Machine.execDeviceRequest engine beats withdrawn s
  | .lockstepMismatch shuttle pair pairCycle => Sys2Proof.Machine.execLockstepMismatch shuttle pair pairCycle s
  | .reExecution => Sys2Proof.Machine.execReExecution s
  | .outputStaging => Sys2Proof.Machine.execOutputStaging s
  | .barrierFrameSend group slot room => Sys2Proof.Machine.execBarrierFrameSend group slot room s
  | .barrierFrameReceive toField group slot wire => Sys2Proof.Machine.execBarrierFrameReceive toField group slot wire s
  | .fieldEdgeApply group m => Sys2Proof.Machine.execFieldEdgeApply group m s
  | .silenceTimeout group => Sys2Proof.Machine.execSilenceTimeout group s
  | .guard => Sys2Proof.Machine.execGuard s
  | .canaryTickCheck m => Sys2Proof.Machine.execCanaryTickCheck m s
  | .seamGuardCheck => Sys2Proof.Machine.execSeamGuardCheck s
  | .seamDecision => Sys2Proof.Machine.execSeamDecision s
  | .takeover => Sys2Proof.Machine.execTakeover s
  | .aoHoldEnd => Sys2Proof.Machine.execAoHoldEnd s
  | .fenceIn => Sys2Proof.Machine.execFenceIn s
  | .partnerPresentChange asserted => Sys2Proof.Machine.execPartnerPresentChange asserted s
  | .presenceFrameSend => Sys2Proof.Machine.execPresenceFrameSend s
  | .presenceFrameReceive rx payload => Sys2Proof.Machine.execPresenceFrameReceive rx payload s
  | .seamUp => Sys2Proof.Machine.execSeamUp s
  | .seamRetrain => Sys2Proof.Machine.execSeamRetrain s
  | .hello wire => Sys2Proof.Machine.execHello wire s
  | .weftFrame frame cls tag => Sys2Proof.Machine.execWeftFrame frame cls tag s
  | .stateFrame wire => Sys2Proof.Machine.execStateFrame wire s
  | .closeFrameReceive wire => Sys2Proof.Machine.execCloseFrameReceive wire s
  | .dictFrame wire => Sys2Proof.Machine.execDictFrame wire s
  | .bankFrame wire => Sys2Proof.Machine.execBankFrame wire s
  | .resyncFrame wire => Sys2Proof.Machine.execResyncFrame wire s
  | .persistFrame wire => Sys2Proof.Machine.execPersistFrame wire s
  | .ackFrame wire => Sys2Proof.Machine.execAckFrame wire s
  | .activateBankWrite req value => Sys2Proof.Machine.execActivateBankWrite req value s
  | .activateCancelWrite req value => Sys2Proof.Machine.execActivateCancelWrite req value s
  | .activationStaging crcFault => Sys2Proof.Machine.execActivationStaging crcFault s
  | .activationDecision => Sys2Proof.Machine.execActivationDecision s
  | .activation => Sys2Proof.Machine.execActivation s
  | .activationRestart => Sys2Proof.Machine.execActivationRestart s
  | .warpVerified bank => Sys2Proof.Machine.execWarpVerified bank s
  | .sync port m => Sys2Proof.Machine.execSync port m s
  | .followUp port m => Sys2Proof.Machine.execFollowUp port m s
  | .delayResp port m => Sys2Proof.Machine.execDelayResp port m s
  | .pdelayReq port m txNs => Sys2Proof.Machine.execPdelayReq port m txNs s
  | .pdelayResp port m => Sys2Proof.Machine.execPdelayResp port m s
  | .pdelayRespFollowUp port m => Sys2Proof.Machine.execPdelayRespFollowUp port m s
  | .announce port m => Sys2Proof.Machine.execAnnounce port m s
  | .announceTimeout port => Sys2Proof.Machine.execAnnounceTimeout port s
  | .ptpTransmit port what txNs => Sys2Proof.Machine.execPtpTransmit port what txNs s
  | .delayReq port m => Sys2Proof.Machine.execDelayReq port m s
  | .holdoverEntry => Sys2Proof.Machine.execHoldoverEntry s
  | .timePortSwitch => Sys2Proof.Machine.execTimePortSwitch s
  | .timeStepped => Sys2Proof.Machine.execTimeStepped s
  | .rtcUpdate => Sys2Proof.Machine.execRtcUpdate s
  | .reStepPermitWrite req value => Sys2Proof.Machine.execReStepPermitWrite req value s
  | .timeSetWrite req value => Sys2Proof.Machine.execTimeSetWrite req value s
  | .ppsInEdge atNs => Sys2Proof.Machine.execPpsInEdge atNs s
  | .ppsOutEnd => Sys2Proof.Machine.execPpsOutEnd s
  | .canFrameReceive channel rx => Sys2Proof.Machine.execCanFrameReceive channel rx s
  | .canFrameTransmitted channel buffer event => Sys2Proof.Machine.execCanFrameTransmitted channel buffer event s
  | .canBusOff channel => Sys2Proof.Machine.execCanBusOff channel s
  | .canBusOn channel => Sys2Proof.Machine.execCanBusOn channel s
  | .recoverWrite req channel value => Sys2Proof.Machine.execRecoverWrite req channel value s
  | .canRxBufferRead channel buffer word => Sys2Proof.Machine.execCanRxBufferRead channel buffer word s
  | .lockExpiry channel buffer => Sys2Proof.Machine.execLockExpiry channel buffer s
  | .detectStart req channel => Sys2Proof.Machine.execDetectStart req channel s
  | .detectStop req channel => Sys2Proof.Machine.execDetectStop req channel s
  | .detectTimeout channel overall => Sys2Proof.Machine.execDetectTimeout channel overall s
  | .canWake channel seen => Sys2Proof.Machine.execCanWake channel seen s
  | .diBandChange channel mv ua firstNs => Sys2Proof.Machine.execDiBandChange channel mv ua firstNs s
  | .outputOverload load => Sys2Proof.Machine.execOutputOverload load s
  | .overloadRetry load => Sys2Proof.Machine.execOverloadRetry load s
  | .fieldSupplyWarning group low => Sys2Proof.Machine.execFieldSupplyWarning group low s
  | .fieldSupplyTrip group => Sys2Proof.Machine.execFieldSupplyTrip group s
  | .supplyRestoring group above => Sys2Proof.Machine.execSupplyRestoring group above s
  | .fieldSupplyRestored group => Sys2Proof.Machine.execFieldSupplyRestored group s
  | .fieldSideStop group => Sys2Proof.Machine.execFieldSideStop group s
  | .aoCompliance channel current => Sys2Proof.Machine.execAoCompliance channel current s
  | .aoOpen channel current => Sys2Proof.Machine.execAoOpen channel current s
  | .aoRestored channel current atLimit => Sys2Proof.Machine.execAoRestored channel current atLimit s
  | .aoThermal channel current => Sys2Proof.Machine.execAoThermal channel current s
  | .aoThermalClear channel => Sys2Proof.Machine.execAoThermalClear channel s
  | .analogEnvelope output channel set => Sys2Proof.Machine.execAnalogEnvelope output channel set s
  | .hartSearch channel => Sys2Proof.Machine.execHartSearch channel s
  | .hartPoll channel => Sys2Proof.Machine.execHartPoll channel s
  | .hartResponse channel reply => Sys2Proof.Machine.execHartResponse channel reply s
  | .hartTransactionFailure channel => Sys2Proof.Machine.execHartTransactionFailure channel s
  | .hartRequestWrite req channel payload => Sys2Proof.Machine.execHartRequestWrite req channel payload s
  | .islandScan currents => Sys2Proof.Machine.execIslandScan currents s
  | .tpFrame seen tpBad => Sys2Proof.Machine.execTpFrame seen tpBad s
  | .inputFilterExpiry input startUs samples => Sys2Proof.Machine.execInputFilterExpiry input startUs samples s
  | .discrepancy pair => Sys2Proof.Machine.execDiscrepancy pair s
  | .onDelayExpiry cause => Sys2Proof.Machine.execOnDelayExpiry cause s
  | .tripDelayExpiry effect => Sys2Proof.Machine.execTripDelayExpiry effect s
  | .switchOnCheck output lowMv supplyMv => Sys2Proof.Machine.execSwitchOnCheck output lowMv supplyMv s
  | .darkTest output readMv supplyMv => Sys2Proof.Machine.execDarkTest output readMv supplyMv s
  | .safetyOutputFault output code => Sys2Proof.Machine.execSafetyOutputFault output code s
  | .canaryIslandFault code => Sys2Proof.Machine.execCanaryIslandFault code s
  | .islandReset => Sys2Proof.Machine.execIslandReset s
  | .islandSelfTestDone => Sys2Proof.Machine.execIslandSelfTestDone s
  | .safetySetVerified => Sys2Proof.Machine.execSafetySetVerified s
  | .safetySetConfirmWrite req value => Sys2Proof.Machine.execSafetySetConfirmWrite req value s
  | .proofTestDue => Sys2Proof.Machine.execProofTestDue s
  | .clockMonitorTrip what => Sys2Proof.Machine.execClockMonitorTrip what s
  | .clkIrcFailed => Sys2Proof.Machine.execClkIrcFailed s
  | .ircJudgementWindow count => Sys2Proof.Machine.execIrcJudgementWindow count s
  | .pllLock what => Sys2Proof.Machine.execPllLock what s
  | .clkMuxHang hart => Sys2Proof.Machine.execClkMuxHang hart s
  | .trimWindow count masterNs interrupted => Sys2Proof.Machine.execTrimWindow count masterNs interrupted s
  | .trimStore => Sys2Proof.Machine.execTrimStore s
  | .scrubPass ticks corrected uncorrectable => Sys2Proof.Machine.execScrubPass ticks corrected uncorrectable s
  | .tallyWrite code params => Sys2Proof.Machine.execTallyWrite code params s
  | .operatingMinute => Sys2Proof.Machine.execOperatingMinute s
  | .tallySelectWrite req sequence => Sys2Proof.Machine.execTallySelectWrite req sequence s
  | .faceplatePageWrite req value => Sys2Proof.Machine.execFaceplatePageWrite req value s
  | .pageTimeout => Sys2Proof.Machine.execPageTimeout s
  | .faceplateRequest call => Sys2Proof.Machine.execFaceplateRequest call s
  | .updateStart drawn => Sys2Proof.Machine.execUpdateStart drawn s
  | .updatePhase => Sys2Proof.Machine.execUpdatePhase s
  | .warpKeyWrite req slot key cutOff => Sys2Proof.Machine.execWarpKeyWrite req slot key cutOff s
  | .safetySetKeyWrite req slot key cutOff => Sys2Proof.Machine.execSafetySetKeyWrite req slot key cutOff s
  | .revokeKeyWrite req value => Sys2Proof.Machine.execRevokeKeyWrite req value s
  | .conduitKeyWrite req slot key => Sys2Proof.Machine.execConduitKeyWrite req slot key s
  | .seamKeyWrite req slot key => Sys2Proof.Machine.execSeamKeyWrite req slot key s
  | .firmwareVerified bank => Sys2Proof.Machine.execFirmwareVerified bank s
  | .commitSecurityVersionWrite req value => Sys2Proof.Machine.execCommitSecurityVersionWrite req value s
  | .debugLockWrite req value => Sys2Proof.Machine.execDebugLockWrite req value s
  | .recoveryFrame offset crc data => Sys2Proof.Machine.execRecoveryFrame offset crc data s
  | .recoveryLoaded => Sys2Proof.Machine.execRecoveryLoaded s
  | .seamLinkDown => Sys2Proof.Machine.execSeamLinkDown s
  | .fieldSideRestart group => Sys2Proof.Machine.execFieldSideRestart group s
  | .fenceInRelease => Sys2Proof.Machine.execFenceInRelease s
  | .dramScrubPass corrected uncorrectable lastFault => Sys2Proof.Machine.execDramScrubPass corrected uncorrectable lastFault s

end Sys2Proof.Machine
end

