-- ==== Sys2Proof/Machine/Contacts.lean ====
section
/-! DEFINITION. The contacts of X1 and X2 (R513) and the state that each shows (R423, R514). No state of its own: every contact is read off the
blocks that own it. Contacts that the tables show as "—", inputs that are read at any time and supplies, show no state. -/

namespace Sys2Proof.Machine

/-- The two lines of a differential pair. -/
inductive Line where
  | p | n
  deriving DecidableEq, Repr

/-- The signals of Tables 20-1 and 20-2, numbered as the tables number them. -/
inductive Signal where
  | logA | logB | log0V | shield | canGnd | usbVbus | usbGnd | pe | nc
  | portA (k : Nat) (line : Line) | portB (k : Nat) (line : Line)
  | seamTx (k : Nat) (line : Line) | seamRx (k : Nat) (line : Line)
  | partnerPresent | fenceIn | fenceOut | seamClkAlive
  | canH (n : Nat) | canL (n : Nat)
  | usbDp | usbDn | ppsIn | ppsOut
  | addr (k : Nat) | role
  | resetN | resetOutN | okA | okB | door | dbgClk | dbgIo | dbgEn | dbgRstN
  | supply (g : Group) | supplyReturn (g : Group)
  | di (n : Nat) | vs (k : Nat) | dout (n : Nat) | si (n : Nat) | tp (k : Nat)
  | soH (x : Nat) | soL (x : Nat)
  | ai (x : Nat) (line : Line) | ao (x : Nat) (line : Line)
  deriving DecidableEq, Repr

/-- The line at an offset from the first contact of a run of pairs. -/
def lineAt (offset : Nat) : Line := if offset % 2 = 0 then .p else .n

/-- The signal on contact `c` of X1 (Table 20-1). -/
def x1Signal (c : Nat) : Option Signal :=
  if c = 0 then none
  else if c ≤ 3 then some .logA
  else if c ≤ 6 then some .logB
  else if c ≤ 16 then some .log0V
  else if c ≤ 24 then some (.portA ((c - 17) / 2) (lineAt (c - 17)))
  else if c ≤ 32 then some (.portB ((c - 25) / 2) (lineAt (c - 25)))
  else if c ≤ 36 then some .shield
  else if c ≤ 40 then some (.seamTx ((c - 37) / 2) (lineAt (c - 37)))
  else if c ≤ 44 then some (.seamRx ((c - 41) / 2) (lineAt (c - 41)))
  else if c = 45 then some .partnerPresent
  else if c = 46 then some .fenceIn
  else if c = 47 then some .fenceOut
  else if c = 48 then some .seamClkAlive
  else if c ≤ 64 then some (if c % 2 = 1 then .canH ((c - 47) / 2) else .canL ((c - 48) / 2))
  else if c ≤ 66 then some .canGnd
  else if c = 67 then some .usbDp
  else if c = 68 then some .usbDn
  else if c = 69 then some .usbVbus
  else if c = 70 then some .usbGnd
  else if c = 71 then some .ppsIn
  else if c = 72 then some .ppsOut
  else if c ≤ 80 then some (.addr (c - 73))
  else if c = 81 then some .role
  else if c = 82 then some .resetN
  else if c = 83 then some .resetOutN
  else if c = 84 then some .okA
  else if c = 85 then some .okB
  else if c = 86 then some .door
  else if c = 87 then some .dbgClk
  else if c = 88 then some .dbgIo
  else if c = 89 then some .dbgEn
  else if c = 90 then some .dbgRstN
  else if c ≤ 96 then some .nc
  else none

/-- The signal on contact `c` of X2 (Table 20-2). -/
def x2Signal (c : Nat) : Option Signal :=
  if c = 0 then none
  else if c ≤ 8 then some (.supply .a)
  else if c ≤ 18 then some (.supplyReturn .a)
  else if c ≤ 20 then some (.supply .b)
  else if c ≤ 22 then some (.supplyReturn .b)
  else if c ≤ 24 then some (.supply .c)
  else if c ≤ 26 then some (.supplyReturn .c)
  else if c ≤ 74 then some (.di (c - 26))
  else if c ≤ 78 then some (.vs (c - 74))
  else if c ≤ 102 then some (.dout (c - 78))
  else if c ≤ 110 then some (.si (c - 102))
  else if c ≤ 114 then some (.tp (c - 110))
  else if c ≤ 122 then some (if c % 2 = 1 then .soH ((c - 113) / 2) else .soL ((c - 114) / 2))
  else if c ≤ 138 then some (.ai ((c - 121) / 2) (lineAt (c - 123)))
  else if c ≤ 154 then some (.ao ((c - 137) / 2) (lineAt (c - 139)))
  else if c ≤ 158 then some .pe
  else if c ≤ 160 then some .nc
  else none

/-- What a contact shows: an entry of a reset column of Tables 20-1 and 20-2; `normal`, the state that its own block gives it; `unstated` where
the tables give none. -/
inductive ContactState where
  | unstated | normal | unpowered | linkDown | bonded | highImpedance | electricalIdle | trainedIdle | ignored | trained | readNow
  | negated | asserted | busNeutral | recessive | detached | low | sampledAtStep11 | contactOpen | notJudged | judged | switchedOff | kept
  | lastCommitted | island | pulsing | notMeasured | noCurrent
  deriving DecidableEq, Repr

/-- The level whose reset column holds (R514): that of the open episode, or of the exit sequence that is still running. -/
def State.contactLevel (s : State) : Option ResetLevel :=
  match s.rst.episode with
  | some e => some e.widest
  | none => s.rst.exiting

/-- A contact in its OFF, P and S, or W column, until the block that owns it is configured. A C-level episode changes none. -/
def State.column (s : State) (configured : Bool) (off ps w : ContactState) : ContactState :=
  if s.mode = .off then off
  else match s.contactLevel with
    | some .p => ps
    | some .s => ps
    | some .w => w
    | _ => if configured then .normal else w

/-- A contact of a field group: the field side owns it, and holds the P and S column until it applies frames after a start, the W column while it holds its
outputs after a silence (R343). -/
def State.fieldColumn (s : State) (g : Group) (off ps w : ContactState) : ContactState :=
  let x := s.side g
  if s.mode = .off then off
  else if !x.running || (x.held && !x.committed) then ps
  else if x.held then w else .normal

/-- A contact of the safety island, which only the level P reaches (R380, R409). -/
def State.islandColumn (s : State) (off w : ContactState) : ContactState :=
  if s.mode = .off || s.island.mode = .off then off
  else if s.contactLevel.any fun l => decide (2 ≤ levelCode l) then w else .normal

/-- A level given as a state. -/
def levelState (on : Bool) : ContactState := if on then .asserted else .negated

/-- The state of the contact that carries a signal (Tables 20-1 and 20-2). FENCE_OUT, SEAM_CLK_ALIVE, RESET_OUT_N and the OK contact, whose rules the
model holds whole, show their level at any time. -/
def State.contact (s : State) (x : Signal) : ContactState :=
  let input := if s.mode = .off then .unstated else .readNow
  match x with
  | .logA | .logB | .log0V | .canGnd | .usbGnd | .supply _ | .supplyReturn _ | .nc => .unstated
  | .shield | .pe => .bonded
  | .portA _ _ | .portB _ _ => s.column true .unpowered .linkDown .linkDown
  | .seamTx _ _ => s.column true .highImpedance .electricalIdle .trainedIdle
  | .seamRx _ _ => s.column true .highImpedance .ignored .trained
  | .partnerPresent | .fenceIn | .usbVbus | .resetN | .door | .dbgClk | .dbgEn | .dbgRstN => input
  | .fenceOut => if s.mode = .off then .highImpedance else levelState s.pair.fenceOut
  | .seamClkAlive => if s.mode = .off then .highImpedance else levelState s.clkAlive
  | .canH n | .canL n => s.column (s.flag (Obj.canEnable (n - 1))) .busNeutral .recessive .recessive
  | .usbDp | .usbDn => if s.contactLevel = some .c then .detached else s.column true .detached .detached .detached
  | .ppsIn => s.column (s.flag Obj.ppsInEnable) .unstated .ignored .ignored
  | .ppsOut => s.column true .highImpedance .low .low
  | .addr _ | .role => s.column true .unstated .sampledAtStep11 .sampledAtStep11
  | .resetOutN => if s.rst.resetOut then .asserted else .normal
  | .okA | .okB => if s.rst.okContact then .normal else .contactOpen
  | .dbgIo => .highImpedance
  | .di _ => s.fieldColumn .a .notJudged .notJudged .judged
  | .vs _ => s.fieldColumn .a .switchedOff .switchedOff .kept
  | .dout _ => s.fieldColumn .a .switchedOff .switchedOff .lastCommitted
  | .si _ => s.islandColumn .notJudged .island
  | .tp _ => s.islandColumn .low .pulsing
  | .soH _ | .soL _ => s.islandColumn .contactOpen .island
  | .ai _ _ => s.fieldColumn .b .notMeasured .notMeasured .kept
  | .ao _ _ => s.fieldColumn .b .noCurrent .noCurrent .lastCommitted

end Sys2Proof.Machine
end

