-- ==== Sys2Proof/Safety.lean ====
section
/-! DEFINITION. The terms that claims use: what a safe state is, and what a command may change. A relation between two states says
whole what a group of commands leaves: an equation `t = { s with f := t.f }` says that nothing but `f` changes. -/

namespace Sys2Proof.Machine

/-! ### Safe states -/

/-- The byte memories are in their canonical form. -/
structure State.MemOk (s : State) : Prop where
  store : Mem.wf s.store = true
  dram : Mem.wf s.dram = true
  window : Mem.wf s.window = true

/-! ### The lanes (chapter 06) -/

/-- What an instruction leaves that computes `v` into `d` of lane `l`, starting at cycle `start`, with its issue cycles and latency
(R171, R172, R191): w0 stays 0, no other register, lane or part of the module changes. -/
structure LaneComputes (s t : State) (l : Fin 4) (start issue lat : Nat) (d : Fin 512) (v : Word64) : Prop where
  result : (t.lane l).reg d = if d = 0 then 0 else v
  registers : ∀ r, r ≠ d → (t.lane l).reg r = (s.lane l).reg r
  ready : d ≠ 0 → (t.lane l).ready[d] = start + lat
  readyOthers : ∀ r, r ≠ d → (t.lane l).ready[r] = (s.lane l).ready[r]
  lane : t.lane l = { s.lane l with
    pc := (s.lane l).pc + 1
    cycle := start + issue
    regs := (t.lane l).regs
    ready := (t.lane l).ready }
  lanes : ∀ k, k ≠ l → t.lane k = s.lane k
  rest : t = { s with eng := { s.eng with lanes := t.eng.lanes } }

/-- On a lane that can take it, an instruction completes and computes `f` of the lane into `d`, once the registers `srcs` are
ready. -/
def Computes (i : Instr) (l : Fin 4) (srcs : List (Fin 512)) (issue lat : Nat) (d : Fin 512) (f : Lane → Word64) : Prop :=
  ∀ s : State, (s.lane l).active = true → ∃ t, exec i s = .next t ∧ LaneComputes s t l ((s.lane l).startOf srcs) issue lat d (f (s.lane l))

/-- The lane whose program holds an instruction (R171). -/
def laneOf : Instr → Option (Fin 4)
  | .laneNop l => some l
  | .laneEnd l => some l
  | .laneWait l _ _ => some l
  | .laneWeft l _ _ => some l
  | .laneCommit l _ => some l
  | .laneShut l _ _ _ _ => some l
  | .laneTrom l _ _ _ => some l
  | .laneDmai l _ _ => some l
  | .laneConstl l _ _ => some l
  | .laneConsth l _ _ => some l
  | .laneMov l _ _ => some l
  | .laneAddi l _ _ _ => some l
  | .laneExt l _ _ _ _ => some l
  | .laneIns l _ _ _ _ => some l
  | .laneAdd32 l _ _ _ => some l
  | .laneSub32 l _ _ _ => some l
  | .laneMul32 l _ _ _ => some l
  | .laneDivs32 l _ _ _ => some l
  | .laneDivu32 l _ _ _ => some l
  | .laneAdd64 l _ _ _ => some l
  | .laneSub64 l _ _ _ => some l
  | .laneMul64 l _ _ _ => some l
  | .laneDivs64 l _ _ _ => some l
  | .laneDivu64 l _ _ _ => some l
  | .laneAnd l _ _ _ => some l
  | .laneOr l _ _ _ => some l
  | .laneXor l _ _ _ => some l
  | .laneNot l _ _ => some l
  | .laneShl l _ _ _ => some l
  | .laneShr l _ _ _ => some l
  | .laneSar l _ _ _ => some l
  | .laneMins l _ _ _ => some l
  | .laneMaxs l _ _ _ => some l
  | .laneSx8 l _ _ => some l
  | .laneSx16 l _ _ => some l
  | .laneSx32 l _ _ => some l
  | .laneCeq l _ _ _ => some l
  | .laneCne l _ _ _ => some l
  | .laneClts l _ _ _ => some l
  | .laneCltu l _ _ _ => some l
  | .laneCles l _ _ _ => some l
  | .laneCleu l _ _ _ => some l
  | .laneFceq32 l _ _ _ => some l
  | .laneFclt32 l _ _ _ => some l
  | .laneFcle32 l _ _ _ => some l
  | .laneFcun32 l _ _ _ => some l
  | .laneFceq64 l _ _ _ => some l
  | .laneFclt64 l _ _ _ => some l
  | .laneFcle64 l _ _ _ => some l
  | .laneFcun64 l _ _ _ => some l
  | .laneSel l _ _ _ _ => some l
  | .laneBsel l _ _ _ _ => some l
  | .laneFadd32 l _ _ _ => some l
  | .laneFsub32 l _ _ _ => some l
  | .laneFmul32 l _ _ _ => some l
  | .laneFdiv32 l _ _ _ => some l
  | .laneFsqrt32 l _ _ => some l
  | .laneFmin32 l _ _ _ => some l
  | .laneFmax32 l _ _ _ => some l
  | .laneFabs32 l _ _ => some l
  | .laneFneg32 l _ _ => some l
  | .laneCvtf32i32 l _ _ => some l
  | .laneCvti32f32 l _ _ => some l
  | .laneCvtf64f32 l _ _ => some l
  | .laneCvtf32f64 l _ _ => some l
  | .laneFadd64 l _ _ _ => some l
  | .laneFsub64 l _ _ _ => some l
  | .laneFmul64 l _ _ _ => some l
  | .laneFdiv64 l _ _ _ => some l
  | .laneFsqrt64 l _ _ => some l
  | .laneFmin64 l _ _ _ => some l
  | .laneFmax64 l _ _ _ => some l
  | .laneFabs64 l _ _ => some l
  | .laneFneg64 l _ _ => some l
  | .laneCvtf64i64 l _ _ => some l
  | .laneCvti64f64 l _ _ => some l
  | .laneScl32 l _ _ _ => some l
  | .laneClamp32 l _ _ _ => some l
  | .laneFilt32 l _ _ _ => some l
  | .laneRamp32 l _ _ _ => some l
  | .laneLd8 l _ _ _ => some l
  | .laneLd16 l _ _ _ => some l
  | .laneLd32 l _ _ _ => some l
  | .laneLd64 l _ _ _ => some l
  | .laneSt8 l _ _ _ => some l
  | .laneSt16 l _ _ _ => some l
  | .laneSt32 l _ _ _ => some l
  | .laneSt64 l _ _ _ => some l
  | .laneLdw l _ _ _ => some l
  | .laneStw l _ _ _ => some l
  | .laneLdp l _ _ _ => some l
  | .laneStp l _ _ _ => some l
  | _ => none

/-- Unsigned and signed value of a register, and of its low 32 bits (R178). -/
def Lane.u64 (x : Lane) (r : Fin 512) : Nat := (x.reg r).toNat
def Lane.s64 (x : Lane) (r : Fin 512) : Int := (x.reg r).toInt
def Lane.u32 (x : Lane) (r : Fin 512) : Nat := (x.reg r).toNat % 2 ^ 32
def Lane.s32 (x : Lane) (r : Fin 512) : Int := ((x.reg r).truncate 32).toInt

/-! ### Objects and tallies -/

/-- Every object but those of `addrs` keeps its value. -/
def State.SameObjects (s t : State) (addrs : List Nat) : Prop := ∀ a, a ∉ addrs → t.obj a = s.obj a

/-- The objects that writing a tally may move: TalliesWritten, and its bit in the overflow object of its index (R62). -/
def tallyObjects : List Nat := [Obj.talliesWritten, overflowAddr Obj.talliesWritten]

/-- Between `s` and `t` the station wrote a tally record with this code and these parameters: as a new record of the log, or among
those that wait for the head (R477, R480). -/
def State.Wrote (s t : State) (code : Nat) (params : List Nat) : Prop :=
  ∃ d : TallyDraft, d.code = code ∧ d.params = params ∧ d.source = t.num Obj.moduleNode ∧ d.timeNs = t.timeNs ∧
    if s.tally.headKnown then ∃ n, s.tally.head < n ∧ n ≤ t.tally.head ∧
      Assoc.get? t.tally.slots (n % tallySlots) = some (recordBytes d n s.tally.minutes s.tally.powerCycles)
    else ∃ k, s.tally.waiting.length ≤ k ∧ t.tally.waiting[k]? = some d

/-- A saturating counter after `n` more events (R61). -/
def State.counted (s : State) (a n : Nat) : Nat := min (s.num a + n) (256 ^ objSize a - 1)

/-! ### DMA (chapter 17) -/

/-- A beat of a descriptor writes byte `a` of a space (R456, R460). -/
def Descriptor.writes (d : Descriptor) (space a : Nat) : Prop :=
  ∃ i, 32 * i < d.length ∧ dmaSpace (d.dst + 32 * i) = space ∧ (d.dst + 32 * i) % 2 ^ 28 ≤ a ∧ a < (d.dst + 32 * i) % 2 ^ 28 + 32

/-- The completion queue of a channel holds byte `a` of the Store (R462): its header line, and its lines. -/
def State.queueHolds (s : State) (engine channel a : Nat) : Prop :=
  let (off, lines) := queueOf (sectBody s.sections 7) engine channel
  stateBase + off ≤ a ∧ a < stateBase + off + 32 + 32 * lines

/-- No commit frame of the running tick stands at a field side, nor is one on its way (R133); nothing else of the links moves. -/
structure State.CommitsGone (s t : State) : Prop where
  sides : ∀ k : Fin 3, t.io.sides[k] = (if s.io.sides[k].named = some (s.tick % 65536) then s.io.sides[k] else { s.io.sides[k] with commit := none, named := none })
  links : ∀ k : Fin 3, t.io.links[k] = { s.io.links[k] with sent := Assoc.erase s.io.links[k].sent 3 }
  rest : t.io = { s.io with sides := t.io.sides, links := t.io.links }

/-! ### The Store -/

/-- Every byte of the Store outside these ranges (address, length) is kept. -/
def State.StoreKept (s t : State) (ranges : List (Nat × Nat)) : Prop :=
  ∀ a, (∀ r ∈ ranges, a < r.1 ∨ r.1 + r.2 ≤ a) → Mem.get t.store a = Mem.get s.store a

/-- Two ranges of the Store have no byte in common. -/
def Apart (r q : Nat × Nat) : Prop := r.1 + r.2 ≤ q.1 ∨ q.1 + q.2 ≤ r.1

/-- The Store ranges that a screen of `p` writes besides its point record: its time, its alarm state record, and the counts of its
group (R201, R223). -/
def State.screenRanges (s : State) (p : PointDef) : List (Nat × Nat) :=
  [(pointTimeAt s.sections p, 8), (alarmAt s.sections p, 16),
    (groupAt s.sections (u16At (s.storeRead (pointCfgAt p) 32) 6) + 24, 8)]

/-- The value, in the bytes of its type (Table 7-2), and the quality to which the screen of `p` resolves its candidate (R205). -/
def State.resolved (s : State) (p : PointDef) : Nat × Nat :=
  let cfg := s.storeRead (pointCfgAt p) 32
  let r := resolve p.type (s.storeRead (pointAt p) 32) cfg (s.staleCount p.cls (u16At cfg 4), s.staleTolerance p.cls (u16At cfg 4))
    (bit (s.weftFlags p.cls) 0)
  (r.1 % 2 ^ (8 * pointBytes p.type), r.2)

/-- The number that SCREEN and EVAL take in the current cycle of a class (R205, R234). -/
def State.cycleMark (s : State) (cls : Nat) : Nat := s.weftTick cls / lenOfCode cls % 32768

/-! ### Requests (chapters 02 and 03) -/

/-- The counters that executing a request may move, with their overflow objects. -/
def requestObjects : List Nat :=
  let counters := [Obj.requestsExecuted, Obj.badHeader, Obj.txFrames 0, Obj.txFrames 1, Obj.writesAccepted, Obj.writesRefused, Obj.auditTallies]
  counters ++ counters.map overflowAddr ++ tallyObjects

/-- A request has been executed and answered with a status (R73, R74): its SEQUENCE is its source's newest, and the response heads the
cache of the last 16. -/
def State.Answers (t : State) (r : Req) (status : Nat) : Prop :=
  ∃ b cache, t.seqRecord (Req.node r) = some ⟨Req.node r, r.seq, (r.seq, b) :: cache⟩ ∧ cache.length ≤ 15 ∧
    u16At b 8 = r.seq % 65536 ∧ u16At b 14 = status

/-- The key that a response is sealed with: that of the request's slot as it stands when the request comes (R73, R500). -/
def State.requestKey (s : State) (r : Req) : Option Bytes := r.auth.bind s.conduitKey

/-- As `Answers`, with the response whole: under a header with the request's SEQUENCE and the status, this payload, sealed with `key` (R73, R74, R77). -/
def State.AnswersWith (t : State) (r : Req) (key : Option Bytes) (status : Nat) (payload : Bytes) : Prop :=
  ∃ h cache, t.seqRecord (Req.node r) = some ⟨Req.node r, r.seq, (r.seq, sealPacket key h payload) :: cache⟩ ∧ cache.length ≤ 15 ∧
    h.length = 32 ∧ u16At h 8 = r.seq % 65536 ∧ u16At h 14 = status

/-- `t` is `s` but for what executing a request touches whatever it asks: its counters and tallies, the response with its caches and
frame numbers, and the copy that goes to a partner; and but for the objects listed. -/
structure State.RequestOnly (s t : State) (objects : List Nat) : Prop where
  objects : s.SameObjects t (objects ++ requestObjects)
  clp : t.clp = { s.clp with packets := t.clp.packets, seqs := t.clp.seqs }
  pair : t.pair = { s.pair with frameSeq := t.pair.frameSeq, sent := t.pair.sent }
  prp : t.prp = { s.prp with moduleSeq := t.prp.moduleSeq, stationSeq := t.prp.stationSeq }
  rest : t = { s with dict := t.dict, tally := t.tally, clp := t.clp, out := t.out, prp := t.prp, pair := t.pair }

/-- The station serves a request, and its firmware does not fail in it (R93). -/
def State.Executes (s : State) (r : Req) : Prop := s.servesReq r = true ∧ r.fails = false

/-- A write of `v` at `a` that a serving station takes: it passes every check of Table 2-3. -/
def State.WriteTaken (s : State) (r : Req) (a : Nat) (v : Bytes) : Prop :=
  s.Executes r ∧ (s.count Obj.requestsExecuted).writeCode r a v = Status.ok

/-- Objects that the module itself keeps, which a write to another object may move: the channel states and rates (R316, R372). -/
def derivedObjects : List Nat :=
  ((List.range 8).flatMap fun k => [Obj.canState k, Obj.nominalRate k, Obj.dataRate k, Obj.detectResult k]) ++ (List.range 16).map Obj.hartState

/-- The objects that tell of a warp bank's image (Table 5-15), and of a firmware bank's (Tables 2-5 and 19-4). -/
def bankObjects (k : Nat) : List Nat :=
  [Obj.bankState k, Obj.refusalReason k, Obj.refusalDetail k, Obj.provenProfiles k, Obj.layoutDigest k, Obj.imageLength k, Obj.buildTime k,
    Obj.applicationName k, Obj.opkorVersion k, digestObj k]
def firmwareObjects (k : Nat) : List Nat := [Obj.firmwareBankState k, Obj.firmwareRefusal k, versionObj k, firmwareDigestObj k]

/-- The objects that tell of a domain's content: those of its bank, or of a safety parameter set that waits (Table 14-12). -/
def contentObjects (a : Nat) : List Nat :=
  if a = Obj.warpBankA then bankObjects 0
  else if a = Obj.warpBankB then bankObjects 1
  else if a = Obj.firmwareBankA then firmwareObjects 0
  else if a = Obj.firmwareBankB then firmwareObjects 1
  else if a = Obj.safetyParameterSet then [Obj.pendingState, Obj.pendingRefusal, Obj.pendingDigest] else []

/-- `s` with the transfers that `id` names ended; a write transfer leaves its domain empty (R84). -/
def State.transferEnded (s : State) (x : Transfer) : State :=
  { s with clp := { s.clp with transfers := s.clp.transfers.filter fun y => decide (y.id ≠ x.id) }
           domains := if x.write then Assoc.set s.domains x.addr ⟨[], 0⟩ else s.domains }

/-! ### The seam (chapter 09) -/

/-- A frame of the partner opens to this header and payload: the module takes part on the seam, is paired, and the tag verifies (R258). -/
def State.SeamOpens (s : State) (wire head payload : Bytes) : Prop :=
  s.seamServes = true ∧ s.paired = true ∧
    ((s.sendingKey s.partnerSerialOf).bind fun key => openFrame key (s.encrypts (u8At wire 0)) wire) = some (head, payload)

/-- A frame of a type that is neither a frame received before nor another send of one (R259). -/
def State.SeamNew (s : State) (type : Nat) (wire head payload : Bytes) : Prop :=
  s.SeamOpens wire head payload ∧ u8At wire 0 = type ∧ u8At head 0 = type ∧ s.pair.has (u64At head 8) = false ∧
    s.pair.has (u64At head 8 - u32At head 20) = false

/-- What has been received once a frame's number and that of its first send are (R259). -/
def State.seamNoted (s : State) (head : Bytes) : PairBlock := s.pair.note (u64At head 8) (u64At head 8 - u32At head 20)

/-- A frame's number, and that of its first send, are noted as received. -/
def PairBlock.Noted (p q : PairBlock) (head : Bytes) : Prop := q.rxNext = (p.note (u64At head 8) (u64At head 8 - u32At head 20)).rxNext ∧
  q.rxGot = (p.note (u64At head 8) (u64At head 8 - u32At head 20)).rxGot ∧
  q.gone = (p.note (u64At head 8) (u64At head 8 - u32At head 20)).gone

/-- No missing number has been named four times, and no frame that waits gets its turn with this one (R259). -/
def State.SeamQuiet (s : State) (head : Bytes) : Prop :=
  (∀ e ∈ s.pair.named, e.2 < 4) ∧ ∀ f ∈ s.pair.waiting, (s.seamNoted head).rxNext ≤ f.first

/-- Between `s` and `t` only the record of what has been received moved, and an acknowledgement may have left. -/
def State.SeamAcks (s t : State) : Prop :=
  t = { s with out := t.out, pair := { s.pair with rxNext := t.pair.rxNext, rxGot := t.pair.rxGot, named := t.pair.named, namedAt := t.pair.namedAt,
                                                   gone := t.pair.gone, frameSeq := t.pair.frameSeq } }

/-- What makes a presence frame valid (R271, R272): length, MAGIC, station, another module, the tag of the partner's key, a new counter. -/
def State.PresenceValid (s : State) (payload : Bytes) : Prop :=
  payload.length = 48 ∧ u32At payload 0 = 0x52505A43 ∧ u16At payload 6 = s.started Obj.stationNode ∧ u16At payload 4 ≠ s.num Obj.moduleNode ∧
    s.pair.presenceSeen < u64At payload 16 ∧ ∃ key, s.sendingKey s.partnerSerialOf = some key ∧
      gcmTag key (presenceNonce (u64At payload 16)) (payload.take 32) [] = payload.drop 32

/-! ### The island's matrix (chapter 14) -/

/-- A used cause drives an effect (Table 14-6). -/
def Island.drives (x : Island) (c : Fin 32) (e : Nat) : Bool := decide (causeMode x.setBytes c.val ≠ 0) && bit (causeEffects x.setBytes c.val) e

/-- Some active cause drives the effect (R391). -/
def Island.demands (x : Island) (e : Nat) : Bool := (List.finRange 32).any fun c => x.causes[c].active && x.drives c e

/-- A cause has input `i` among its own, itself or as the other channel of a named pair (R386). -/
def Island.names (x : Island) (c i : Nat) : Bool :=
  let b := x.setBytes
  bit (causeInputs b c) i ||
    (decide (inPair b (i / 2 * 2) = 1) && (bit (causeInputs b c) (i / 2 * 2) || bit (causeInputs b c) (i / 2 * 2 + 1)))

/-- An input of a cause that drives the effect shows a fault (R387). -/
def Island.inputFaulted (x : Island) (e : Nat) : Bool :=
  (List.finRange 32).any fun c => x.drives c e && (List.finRange 8).any fun i => x.names c.val i.val && decide (x.inputs[i].code ≠ 0)

/-- The output of the effect has a latched fault (Table 14-4). -/
def Island.outputFaulted (x : Island) (e : Nat) : Bool :=
  match x.outputs.toList[e]? with
  | some o => decide (1 ≤ o.fault) && decide (o.fault ≤ 6)
  | none => false

/-! ### The network (chapter 03) -/

/-- One frame with this content left on each port that is up and carries its kind (R143, R287), and nothing else left. -/
def State.LeavesOnPorts (s t : State) (kind : SentKind) (peer : Nat) (data : Bytes) : Prop :=
  ∃ seq head more, t.out = s.out ++ more ∧ (∀ m ∈ more, m.kind = kind ∧ m.peer = peer) ∧
    ∀ k < 2, s.portRate k ≠ 0 → s.portCarries kind k = true →
      (⟨kind, k, peer, data ++ rctBytes seq k (head.layers + data.length + 6), some head⟩ : Sent) ∈ more

/-- A packet at the service port that passes steps 1 to 10 of Table 3-4 as a request without authentication (R66, R69, R72, R78). -/
structure State.UsbRequest (s : State) (d : Datagram) : Prop where
  usb : d.usb = true
  serves : s.serves = true ∧ s.options.inForce.usb = true
  addressed : d.excluded = false ∧ d.srcIp = usbHostIp ∧ d.dstIp = usbStationIp ∧ d.dstPort = s.started Obj.clpPort ∧ checksumOk d = true
  magic : 32 ≤ d.data.length ∧ u32At d.data 0 = 0x39504C43
  destination : s.destinationOk true (u8At d.data 5) (u16At d.data 12) = true
  request : bit (u16At d.data 6) 0 = false ∧ bit (u16At d.data 6) 1 = false ∧ bit (u16At d.data 6) 4 = false
  header : s.headerCode true d.data = Status.ok
  demand : s.num Obj.authModeUsb = 0

/-- A packet at the service port whose bytes reach step 3 of Table 3-4 (R66, R72). -/
def State.AtStep3 (s : State) (d : Datagram) : Prop :=
  d.usb = true ∧ s.serves = true ∧ s.options.inForce.usb = true ∧ d.excluded = false ∧ d.srcIp = usbHostIp ∧ d.dstIp = usbStationIp ∧
    d.dstPort = s.started Obj.clpPort ∧ checksumOk d = true

/-! ### Network time (chapter 10) -/

/-- PTP is served, and the port takes one more message within the limit of R507, of this VLAN (R67) and by this transport (Table 10-1). -/
def State.PtpTakes (s : State) (p : NetPort) (vlan : Option Nat) (udp : Bool) : Prop :=
  s.ptpOn = true ∧ (lastSecond s.localNs (s.ptpPort p).arrivals).length < 256 ∧ s.vlanTakes vlan = true ∧ udp = s.ptpUdp

/-- A PTP message of a type that left on a port: on Layer 2 with EtherType 0x88F7, or over UDP from and to port 319 (event) or 320 (general), to the
group of the delay mechanism (Table 10-1). -/
def State.PtpLeft (s : State) (p : NetPort) (event : Bool) (type : Nat) (m : Sent) : Prop :=
  m.kind = .ptp ∧ m.unit = portNo p ∧ u8At m.data 0 = type ∧ ∃ h, m.head = some h ∧
    if s.ptpUdp then
      m.peer = (if s.endToEnd then 0xE0000181 else 0xE000006B) * 65536 + (if event then 319 else 320) ∧
        ∃ sum, h.udp = some (if event then 319 else 320, if event then 319 else 320, sum)
    else h.etherType = 0x88F7 ∧ h.dst = some (if s.endToEnd then 0x011B19000000 else 0x0180C200000E)

/-- Only what the PTP ports keep, the network's numbers and counters, and what left, moved between `s` and `t`. -/
def State.PtpOnly (s t : State) : Prop := t = { s with time := t.time, out := t.out, prp := t.prp, dict := t.dict, tally := t.tally }

/-- A one-step Sync of the parent completes on the time port of a clock that follows no active (R295 to R297). -/
structure State.JudgesSync (s : State) (p : NetPort) (m : PtpMsg) : Prop where
  taken : s.PtpTakes p m.vlan m.udp ∧ s.wrongDomain m = false ∧ s.fromParent p m = true
  oneStep : m.twoStep = false
  port : s.shadowTime = false ∧ s.num Obj.timePort = portNo p

/-- The offset that a Sync gives: reception less origin, less correction, path delay and asymmetry (R295). -/
def State.syncOffset (s : State) (p : NetPort) (m : PtpMsg) : Int :=
  (m.rxNs : Int) - ptpStampNs m - corrNs m.corr - s.pathDelay p - s.asymmetry p

end Sys2Proof.Machine
end

