-- ==== Sys2Proof/Certificates/Slice0/Obligations.lean ====
section
/-! DEFINITION. The statements for the provers. Each docstring names the rules that its clauses come from; a clause that rests on a value or a
behaviour of the model's own names the log entry. -/

section

open Sys2Proof Sys2Proof.Machine

/-- The command at the front of the queue runs with the queue's rest: every other statement reaches a step through this one. -/
def Obligations.StepRunsFrontCommand : Prop :=
  ∀ (s : State) (c : Instr) (rest : List Instr), s.pending = c :: rest → step s = exec c { s with pending := rest }

/-- With nothing in its queue the block idles: the model's choice (log entry 61). -/
def Obligations.EmptyQueueIdles : Prop := ∀ s : State, s.pending = [] → step s = .next s

/-- What reset leaves: the module OFF with the supply source asserted, nothing in the queue, the memories blank, every object at its default, keys and
fuses as delivered. Values that the spec does not give are the model's (log entry 60). -/
def Obligations.ResetLeaves : Prop :=
  State.reset.mode = .off ∧ State.reset.rst.asserted = [(.por, .p)] ∧ State.reset.pending = [] ∧ State.reset.weftQueue = [] ∧ State.reset.MemOk ∧
    (∀ a, Mem.get State.reset.store a = 0 ∧ Mem.get State.reset.dram a = 0 ∧ Mem.get State.reset.window a = 0) ∧
    (∀ a, State.reset.obj a = dfltObj a) ∧ (∀ k : Fin 8, State.reset.keys.warpStatus[k] = 0 ∧ State.reset.keys.safetyStatus[k] = 0) ∧
    (∀ k : Fin 4, State.reset.keys.firmwareStatus[k] = 1) ∧ State.reset.keys.conduit = Vector.replicate 16 none ∧ State.reset.keys.lockFuse = false

/-- Every command of the block completes, in every state and on all operands: none stops it, and none touches the queue behind it. -/
def Obligations.EveryCommandCompletes : Prop := ∀ (i : Instr) (s : State), ∃ t, exec i s = .next t ∧ t.pending = s.pending

/-- The byte memories keep their canonical form through every step: addresses rise strictly, and no zero byte is listed. -/
def Obligations.StepKeepsMemoryCanonical : Prop := ∀ s t : State, s.MemOk → step s = .next t → t.MemOk

/-- R21, R22, Table 1-7: the lifecycle state changes only along the transitions of the table: from OFF only to BOOT; to BOOT from any other state by a
reset or a wake, and to OFF from any; to RUN only from READY and STANDBY; LAYUP is entered from SERVICE and READY alone, and HOLD from BOOT, SERVICE,
READY, RUN and STANDBY. -/
def Obligations.LifecycleFollowsTheTable : Prop :=
  ∀ s t : State, step s = .next t → t.mode ≠ s.mode →
    t.mode = .off ∨ t.mode = .boot ∨
      (s.mode, t.mode) ∈ ([(.boot, .service), (.boot, .ready), (.service, .ready), (.ready, .service), (.ready, .run), (.ready, .standby), (.service, .layup),
        (.ready, .layup), (.run, .ready), (.run, .standby), (.standby, .run), (.standby, .ready), (.standby, .service), (.boot, .hold), (.service, .hold),
        (.ready, .hold), (.run, .hold), (.standby, .hold)] : List (Mode × Mode))

/-- R497, R498, R505, R509: fuses only burn. No step lowers the security version or clears the debug lock; a slot that is not EMPTY keeps its key and
is never EMPTY again, a REVOKED one stays REVOKED, a DAMAGED one is never INSTALLED, and the firmware keys never change. -/
def Obligations.FusesOnlyBurn : Prop :=
  ∀ s t : State, step s = .next t →
    s.keys.securityVersion ≤ t.keys.securityVersion ∧ (s.keys.lockFuse = true → t.keys.lockFuse = true) ∧ t.keys.firmware = s.keys.firmware ∧
    (∀ k : Fin 4, s.keys.firmwareStatus[k] = 2 → t.keys.firmwareStatus[k] = 2) ∧
    (∀ (cls : Nat) (k : Fin 8), s.keys.statusOf cls k ≠ 0 → t.keys.statusOf cls k ≠ 0 ∧ (s.keys.statusOf cls k = 2 → t.keys.statusOf cls k = 2) ∧
      (s.keys.statusOf cls k = 3 → t.keys.statusOf cls k ≠ 1) ∧
      (if cls = warpClass then t.keys.warp[k] = s.keys.warp[k] else t.keys.safety[k] = s.keys.safety[k]))

/-- R103, R128, R169: the automatic start of READY is scheduled for the next boundary once the time source is locked or LockWait has passed; a START,
commanded or automatic, takes an unpaired module in READY to RUN at its boundary, and one that finds another state fails; after an activation through
READY the module starts again in its former role. R27, R51, R129: a STOP takes a running module to READY at its boundary with its state kept; a
profile change makes its profile the active one at its boundary; a restore ends with its record and no stored value in its range. -/
def Obligations.StationTransitionsComplete : Prop :=
  (∀ s : State,
     (s.mode = .ready → s.rst.autoArmed = true → s.optFallback = false →
       s.num Obj.tickSource = 0 ∨ s.rst.readyNs + s.num Obj.lockWait * 1000000000 ≤ s.localNs → exec .automaticStart s = .next
       { s with rst := { s.rst with autoArmed := false, autoAt := some s.nextL } }) ∧
     (s.mode ≠ .ready ∨ s.rst.autoArmed = false ∨ s.optFallback = true ∨
       (s.num Obj.tickSource ≠ 0 ∧ s.localNs < s.rst.readyNs + s.num Obj.lockWait * 1000000000) → exec .automaticStart s = .next s) ∧
     (s.nextEdge % 4000 ≠ 0 → exec .startBoundary s = .next s) ∧
     (∀ c : PendingCommand, s.nextEdge % 4000 = 0 → s.command = some c → c.code = 3 → c.tick ≤ s.nextEdge → c.mirrored = false →
       (s.mode = .ready → s.pairEnabled = false → ∃ t, exec .startBoundary s = .next t ∧ t.mode = .run ∧ t.startTick = some s.nextEdge ∧
         t.command = none ∧ t.num Obj.commandResult = 2 ∧ t.num Obj.commandTick = 0 ∧ t.roleActive = true ∧ t.rst.autoAt = none ∧ t.keys = s.keys) ∧
       (s.mode ≠ .ready → ∃ t, exec .startBoundary s = .next t ∧ t.mode = s.mode ∧ t.command = none ∧ t.num Obj.commandResult = 3 ∧
         t.num Obj.commandTick = 0 ∧ t.store = s.store)) ∧
     (∀ b, s.nextEdge % 4000 = 0 → s.command = none → s.rst.autoAt = some b → b ≤ s.nextEdge → s.mode = .ready → s.pairEnabled = false →
       ∃ t, exec .startBoundary s = .next t ∧ t.mode = .run ∧ t.startTick = some s.nextEdge ∧ t.num Obj.commandResult = s.num Obj.commandResult ∧
         t.rst.autoAt = none) ∧
     (∀ b active, s.warp.restart = some (b, active) →
       (s.due b = false → exec .activationRestart s = .next s) ∧
       (s.due b = true → s.mode = .ready → active = true → ∃ t, exec .activationRestart s = .next t ∧ t.mode = .run ∧ t.startTick = some b ∧
         t.warp.restart = none) ∧
       (s.due b = true → s.mode ≠ .ready → ∃ t, exec .activationRestart s = .next t ∧ t.mode = s.mode ∧ t.warp.restart = none ∧ t.store = s.store))) ∧
  (∀ s : State,
     (∀ c : PendingCommand, s.command = some c →
       (c.code ≠ 4 ∨ s.due c.tick = false → exec .stopBoundary s = .next s) ∧
       (c.code = 4 → s.due c.tick = true → s.mode = .run → c.mirrored = false → s.warp.activation = none →
         ∃ t, exec .stopBoundary s = .next t ∧ t.mode = .ready ∧ t.command = none ∧ t.num Obj.commandResult = 2 ∧ t.num Obj.commandTick = 0 ∧
           t.startTick = none ∧ t.roleActive = false ∧ t.store = s.store ∧ t.dram = s.dram ∧ t.warp = s.warp ∧ t.weftQueue = s.weftQueue) ∧
       (c.code = 4 → s.due c.tick = true → s.mode.running = false → c.mirrored = false → ∃ t, exec .stopBoundary s = .next t ∧ t.mode = s.mode ∧
         t.command = none ∧ t.num Obj.commandResult = 3 ∧ t.store = s.store)) ∧
     (∀ p b, s.profileChange = some (p, b) →
       (s.due b = false → exec .profileChange s = .next s) ∧
       (s.due b = true → s.warp.loaded.isSome = true → ∃ t, exec .profileChange s = .next t ∧ t.num Obj.activeProfile = p % 256 ∧
         t.profileChange = none ∧ t.mode = s.mode ∧ t.store = s.store ∧
         (s.mode.running = true → t.eng.gates = gatesAt (sectBody (s.imageAt b) 9) (tickIndex b)))) ∧
     (s.restore = none → exec .restoreDone s = .next s) ∧
     (∀ first last, s.restore = some (first, last) → ∃ t, exec .restoreDone s = .next t ∧ t.restore = none ∧ t.num Obj.restoreResult = 2 ∧
       s.Wrote t 0x0102 [first, last] ∧ t.keys = s.keys ∧ t.mode = s.mode ∧
       (Assoc.wf s.stored = true → (∀ e ∈ s.restorables first last, Assoc.get? t.stored e.1 = none) ∧
         ∀ a v, Assoc.get? t.stored a = some v → Assoc.get? s.stored a = some v)))

/-- R161, R163, Table 5-15, Table 5-16: the verification of a bank ends with what the checks find: VALID with its digest, REFUSED with the reason and
detail of the first that fails and a WARP_REFUSED tally, or EMPTY; WARP_VERIFIED is written for a bank that has been written; a LOAD that waited for
it ends in READY, or in SERVICE with FAILED. -/
def Obligations.BankVerificationEnds : Prop :=
  ∀ (s : State) (bank : Fin 2), s.pair.fetching = false →
    let k := bank.val
    (s.num (Obj.bankState k) ≠ 2 → exec (.warpVerified bank) s = .next s) ∧
    (s.num (Obj.bankState k) = 2 → s.warp.loading = false →
      (s.bankImage k = [] → ∃ t, exec (.warpVerified bank) s = .next t ∧ t.num (Obj.bankState k) = 0 ∧ t.mode = s.mode ∧
        t.warp = { s.warp with written := s.warp.written.filter (· ≠ k) }) ∧
      (s.bankImage k ≠ [] → ∃ t, exec (.warpVerified bank) s = .next t ∧ t.mode = s.mode ∧
        t.warp = { s.warp with written := s.warp.written.filter (· ≠ k) } ∧
        (∀ reason detail, verifyFault s.verifyContext (s.bankImage k) = some (reason, detail) → t.num (Obj.bankState k) = 4 ∧
          t.num (Obj.refusalReason k) = reason % 256 ∧ t.num (Obj.refusalDetail k) = detail % 2 ^ 32 ∧ s.Wrote t 0x0202 [k, reason, detail]) ∧
        (verifyFault s.verifyContext (s.bankImage k) = none → t.num (Obj.bankState k) = 3 ∧ t.obj (digestObj k) = imageDigest (s.bankImage k) ∧
          t.obj (Obj.layoutDigest k) = hdrLayoutDigest ((s.bankImage k).take 192) ∧ (t.domain (bankDomain k)).status = 1 ∧
          (s.warp.written.contains k = true →
            s.Wrote t 0x0201 [k, first4 (t.obj (digestObj k)), t.num (Obj.provenProfiles k), t.num (Obj.imageLength k)])))) ∧
    (s.num (Obj.bankState k) = 2 → s.warp.loading = true → s.num Obj.selectedBank = k → s.mode = .service →
      ∃ t, exec (.warpVerified bank) s = .next t ∧ t.warp.loading = false ∧ (t.mode = .ready ∨ t.mode = .service) ∧
        t.num Obj.commandResult = (if t.mode = .ready then 2 else 3) ∧ (t.mode = .ready → t.num (Obj.bankState k) = 3 ∧
          ∃ l, t.warp.loaded = some l ∧ l.bank = k ∧ t.num Obj.activeProfile = s.num Obj.profile % 256))

/-- R164 to R170, Table 5-17: an activation is staged or fails with the section whose CRC fails; at its decision tick the staging decides and the
outcome goes with the next weft; at its boundary a hitless one exchanges the image in the lifecycle state it finds, and one through READY leaves RUN,
with the restart one L cycle later; one that the active has not staged fails there, and a standby without the outcome or the staging leaves the pair. -/
def Obligations.ActivationProceeds : Prop :=
  ∀ (s : State) (a : PendingActivation) (old : Loaded), s.warp.activation = some a → s.warp.loaded = some old →
    (a.staged = none → exec (.activationStaging none) s = .next { s with warp := { s.warp with activation := some { a with
      staged := if a.hitless then mapPages old (loadImage a.target (s.bankImage a.target)) else some (loadImage a.target (s.bankImage a.target)) } } }) ∧
    (∀ k : Fin 64, a.staged = none → s.mode = .run → a.target < 2 → ∃ t, exec (.activationStaging (some k)) s = .next t ∧ t.warp.activation = none ∧
      t.num Obj.activationResult = 4 ∧ t.num Obj.activationDetail = 2 ∧ t.num (Obj.bankState a.target) = 4 ∧ t.num (Obj.refusalReason a.target) = 7 ∧
      t.num (Obj.refusalDetail a.target) = k.val ∧ t.pair.outgoing = s.pair.outgoing ++ [.outcome false] ∧ t.mode = .run ∧ t.store = s.store) ∧
    (s.mode = .run → a.decided = false → 4000 ≤ a.tick → s.due (a.tick - 4000) = true →
      (a.staged ≠ none → exec .activationDecision s = .next { s with
        warp := { s.warp with activation := some { a with decided := true } }
        pair := { s.pair with outgoing := s.pair.outgoing ++ [.outcome true] } }) ∧
      (a.staged = none → ∃ t, exec .activationDecision s = .next t ∧ t.warp = { s.warp with activation := none } ∧ t.num Obj.activationResult = 4 ∧
        t.num Obj.activationDetail = 1 ∧ t.pair = { s.pair with outgoing := s.pair.outgoing ++ [.outcome false] } ∧
        t = { s with dict := t.dict, warp := t.warp, pair := t.pair })) ∧
    (s.mode ≠ .run ∨ a.decided = true ∨ s.due (a.tick - 4000) = false → exec .activationDecision s = .next s) ∧
    (s.due a.tick = false ∨ s.mode.running = false → exec .activation s = .next s) ∧
    (s.due a.tick = true → s.command = none → s.mode = .run → a.staged = none → ∃ t, exec .activation s = .next t ∧ t.mode = .run ∧
      t.warp = { s.warp with activation := none } ∧ t.num Obj.activationResult = 4 ∧ t.num Obj.activationDetail = 1 ∧ t.store = s.store) ∧
    (s.due a.tick = true → s.command = none → s.mode = .standby → a.staged = none ∨ a.decided = false → ∃ t, exec .activation s = .next t ∧
      t.mode = .ready ∧ t.warp = { s.warp with activation := none } ∧ s.Wrote t 0x0606 [] ∧ t.store = s.store) ∧
    (∀ new, s.due a.tick = true → s.mode = .run → s.command = none → a.staged = some new → a.target < 2 →
      (a.hitless = true → ∃ t, exec .activation s = .next t ∧ t.mode = .run ∧ t.warp.loaded = some new ∧ t.warp.activation = none ∧
        t.num Obj.activationResult = 2 ∧ t.num Obj.selectedBank = a.target ∧ s.Wrote t 0x0203 [first4 old.digest, first4 new.digest, low32 a.tick]) ∧
      (a.hitless = false → ∃ t l, exec .activation s = .next t ∧ t.mode = .ready ∧ t.warp.loaded = some l ∧ l.bank = new.bank ∧ l.sections = new.sections ∧
        t.warp.activation = none ∧ t.num Obj.activationResult = 3 ∧ t.num Obj.selectedBank = a.target ∧
        t.warp.restart = some (a.tick + 4000, true)))

/-- R37, R45, R46, Table 2-3, Table 3-6: a request in which the firmware fails is answered INTERNAL, with a tally and without effect. A write that a
check refuses is answered with the code of the first that fails, in the order index, subindex, access, state, length, range, lock, storage; it is
counted, and it changes no object, no register and no memory. -/
def Obligations.RefusedWriteChangesNothing : Prop :=
  (∀ (s : State) (r : Req) (addr : BitVec 32) (value : List Byte), s.servesReq r = true → r.fails = true →
    ∀ e ∈ [(Instr.write r addr value, Cmd.write), (.read r addr, Cmd.read), (.identify r, Cmd.identify), (.domainStatus r 0, Cmd.status)],
      ∃ t b, exec e.1 s = .next t ∧ u16At b 14 = Status.internal ∧ (r.iface = .usb → t.out = s.out ++ [⟨.clp, 2, r.ip * 65536 + r.port, b, some (s.usbHead r b)⟩]) ∧
        s.Wrote t 0x0107 [e.2 * 256 + r.seq % 65536 * 65536] ∧ s.RequestOnly t []) ∧
  ∀ (s : State) (r : Req) (addr : BitVec 32) (value : List Byte) (code : Nat), s.Executes r →
    (s.count Obj.requestsExecuted).writeCode r addr.toNat value = code → code ≠ Status.ok →
    (∃ t, exec (.write r addr value) s = .next t ∧ t.Answers r code ∧ s.RequestOnly t [] ∧
      t.num Obj.writesRefused = s.counted Obj.writesRefused 1) ∧
    exec (.objectWrite r addr value) s = exec (.write r addr value) s ∧
    (s.indexDefined (addrIndex addr.toNat) = false → code = Status.noObject) ∧
    (s.indexDefined (addrIndex addr.toNat) = true → s.objRow? addr.toNat = none → code = Status.noSubindex) ∧
    (∀ o, s.indexDefined (addrIndex addr.toNat) = true → s.objRow? addr.toNat = some o → o.access = .ro ∨ o.access = .const →
      code = Status.readOnly)

/-- R43, R46, R48, R58, R59, R82: an accepted write is counted and answered with its effect and effect tick. With immediate, boundary or start effect
it becomes the object's value, and its stored value if the object is persistent, while what is in force of a start object stays; an option goes into
its record; with weft effect it waits in the queue, once per object (a test start: UnitWritesAccepted); a counter is cleared, apart from those that
the request itself moves. R47, R82, R83: a multiple write is taken whole or not at all: the first item that fails is named with its code, and nothing
but counters changes; else every item is accepted, a value standing in its object and a weft write in the queue. A read answers each item with its
type, length and value, or with the code of the check that fails, a multiple read all of them at one instant; nothing changes but counters and what
reading a CAN buffer releases. A request of no or of more than 64 items is answered BAD_HEADER. -/
def Obligations.AcceptedWritesTakeTheirValues : Prop :=
  (∀ (s : State) (r : Req) (addr : BitVec 32) (value : List Byte) (o : ObjRow), s.WriteTaken r addr.toNat value →
     s.objRow? addr.toNat = some o → o.access ≠ .wo →
     let u := s.count Obj.requestsExecuted
     let a := addr.toNat
     ∃ t, exec (.objectWrite r addr value) s = .next t ∧ exec (.write r addr value) s = .next t ∧
       t.AnswersWith r (s.requestKey r) Status.ok (writeResponse (u.effectOf o a value)) ∧
       (a ≠ Obj.writesAccepted → t.num Obj.writesAccepted = s.counted Obj.writesAccepted 1) ∧
       t.mode = s.mode ∧ t.store = s.store ∧ t.keys = s.keys ∧ t.inForce = s.inForce ∧
       (o.effect = .weft → ¬(isLoopIx (addrIndex a) = true ∧ addrSub a = 0x20) →
         t.weftQueue = (s.weftQueue.filter fun w => decide (w.addr ≠ a)) ++ [⟨a, value, s.classOfAddr a⟩] ∧
         (o.persistent = true → Assoc.get? t.stored a = some value) ∧
         { s with weftQueue := t.weftQueue, stored := t.stored }.RequestOnly t [Obj.writesSuperseded, overflowAddr Obj.writesSuperseded]) ∧
       (o.effect ≠ .weft → o.range ≠ .zero → t.obj a = value ∧ t.weftQueue = s.weftQueue ∧
         (isOption a = false → o.persistent = true → Assoc.get? t.stored a = some value) ∧
         (isOption a = true → t.options = s.options.write (optionRecord (s.num Obj.optionSequence + 1)
           ⟨t.flag Obj.optUsbEnable, t.flag Obj.optDebugEnable, t.flag Obj.optResetPin⟩))) ∧
       (o.effect ≠ .weft → o.range = .zero → a ∉ requestObjects → isOption a = false →
         t.num a = 0 ∧ bytesBit (fit 32 (t.obj (overflowAddr a))) (addrSub a) = false)) ∧
  (∀ (s : State) (r : Req), s.Executes r →
     let u := s.count Obj.requestsExecuted
     let key := s.requestKey r
     let damaged := [Obj.talliesDamaged, overflowAddr Obj.talliesDamaged]
     (∀ items : List (BitVec 32 × List Byte), items = [] ∨ 64 < items.length → ∃ t, exec (.writeMulti r items) s = .next t ∧
       t.AnswersWith r key Status.badHeader [] ∧ s.RequestOnly t []) ∧
     (∀ items : List (BitVec 32 × List Byte), items ≠ [] → items.length ≤ 64 →
       let ws := items.map fun e => (e.1.toNat, e.2)
       (∀ i code, u.firstFailure r 0 ws = some (i, code) → ∃ t, exec (.writeMulti r items) s = .next t ∧ t.AnswersWith r key code [byte i] ∧
         s.RequestOnly t [] ∧ t.num Obj.writesRefused = s.counted Obj.writesRefused items.length) ∧
       (u.firstFailure r 0 ws = none → ∃ t, exec (.writeMulti r items) s = .next t ∧ t.AnswersWith r key Status.ok (u.acceptAll r ws).2 ∧
         ((∀ e ∈ ws, ∀ o, s.objRow? e.1 = some o → o.access ≠ .wo) → (ws.map (·.1)).Nodup →
           (Obj.writesAccepted ∉ ws.map (·.1) → t.num Obj.writesAccepted = s.counted Obj.writesAccepted items.length) ∧
           ∀ a v o, (a, v) ∈ ws → s.objRow? a = some o →
             (o.effect = .weft → ∃ w ∈ t.weftQueue, w.addr = a ∧ w.value = v) ∧ (o.effect ≠ .weft → o.range ≠ .zero → t.obj a = v)))) ∧
     (∀ addrs : List (BitVec 32), addrs = [] ∨ 64 < addrs.length → ∃ t, exec (.readMulti r addrs) s = .next t ∧
       t.AnswersWith r key Status.badHeader [] ∧ s.RequestOnly t []) ∧
     (∀ addrs : List (BitVec 32), addrs ≠ [] → addrs.length ≤ 64 →
       let b := addrs.flatMap fun a => u.readItem a.toNat
       (s.payloadRoom r < b.length → ∃ t, exec (.readMulti r addrs) s = .next t ∧ t.AnswersWith r key Status.tooLarge [] ∧ s.RequestOnly t []) ∧
       (b.length ≤ s.payloadRoom r → ∃ t, exec (.readMulti r addrs) s = .next t ∧ t.AnswersWith r key Status.ok b ∧
         { s with can := t.can }.RequestOnly t damaged ∧ ((∀ a ∈ addrs, rxBufferOf a.toNat = none) → t.can = s.can))) ∧
     (∀ a : BitVec 32, ∃ t, exec (.read r a) s = .next t ∧
       t.AnswersWith r key (u.readCode a.toNat) (if u.readCode a.toNat = Status.ok then u.readItem a.toNat else []) ∧
       { s with can := t.can }.RequestOnly t damaged ∧ (rxBufferOf a.toNat = none → t.can = s.can)) ∧
     ∀ a : Nat,
       (s.indexDefined (addrIndex a) = false → u.readCode a = Status.noObject) ∧
       (s.indexDefined (addrIndex a) = true → s.objRow? a = none → u.readCode a = Status.noSubindex) ∧
       (∀ o, s.indexDefined (addrIndex a) = true → s.objRow? a = some o →
         (o.access = .wo → u.readCode a = Status.writeOnly) ∧
         (o.access ≠ .wo → u.readCode a = Status.ok ∧ (o.type ≠ .domain → rxBufferOf a = none →
           u.readItem a = [byte (typeCode o.type), 0] ++ leBytes 2 (u.readValue a).length ++ u.readValue a))) ∧
       (u.readCode a ≠ Status.ok → u.readItem a = [0, 0] ++ leBytes 2 (u.readCode a)))

/-- R17, R18: a code that Table 1-6 does not list, or does not accept in the module's state, is refused with STATE_CONFLICT, and the state does not
change; while a command is pending, a further one that the checks before the lock of Table 2-3 let pass is refused with BUSY, and the pending one
stays. -/
def Obligations.StationCommandsRefused : Prop :=
  ∀ (s : State) (r : Req) (v : BitVec 8), s.Executes r →
    let accepts : List (Nat × Mode) := [(1, .service), (2, .ready), (3, .ready), (4, .run), (4, .standby), (5, .run), (6, .service), (6, .ready)]
    ((v.toNat, s.mode) ∉ accepts ∨ (v.toNat = 5 ∧ s.paired = false) → ∃ t, exec (.objectWrite r (BitVec.ofNat 32 Obj.stationCommand) [v]) s = .next t ∧
      t.Answers r Status.stateConflict ∧ t.mode = s.mode ∧ t.command = s.command ∧ s.RequestOnly t []) ∧
    (s.command.isSome = true → let code := (s.count Obj.requestsExecuted).writeCode r Obj.stationCommand [v]
      code ≠ Status.ok ∧ (code ∉ [Status.stateConflict, Status.range] → code = Status.busy ∧
        ∃ t, exec (.objectWrite r (BitVec.ofNat 32 Obj.stationCommand) [v]) s = .next t ∧ t.Answers r Status.busy ∧ t.command = s.command ∧ s.RequestOnly t []))

/-- R19, R20, R55, R160, R163, Table 1-6, Table 1-7: what each station command does once accepted: LOAD starts the bank's verification, UNLOAD leads
to SERVICE, START, STOP and HANDOVER wait for their boundary with CommandResult PENDING, and those of a module in RUN travel with the next weft; LAYUP
leads to LAYUP with the state it left. R27, R51, R55, R164 to R166, Table 15-8: what the other station writes do once accepted: a profile change waits
for the next boundary; a reset request for the next edge, where the state then maps its level; restore-defaults runs over its range; reset causes
clear where the value has ones; an activation is pending for its boundary, and its cancel ends it. -/
def Obligations.StationWritesTakeEffect : Prop :=
  (∀ (s : State) (r : Req),
     (s.WriteTaken r Obj.stationCommand [1] → s.num Obj.selectedBank < 2 → ∃ t, exec (.load r) s = .next t ∧ t.Answers r 0 ∧
       t.warp.loading = true ∧ t.num (Obj.bankState (s.num Obj.selectedBank)) = 2 ∧ t.num Obj.commandResult = 1 ∧
       { s with warp := t.warp }.RequestOnly t [Obj.commandResult, Obj.bankState (s.num Obj.selectedBank)]) ∧
     (s.WriteTaken r Obj.stationCommand [2] → ∃ t, exec (.unload r) s = .next t ∧ t.Answers r 0 ∧ t.mode = .service ∧
       t.warp.loaded = none ∧ t.num Obj.activeProfile = 0 ∧ t.num Obj.commandResult = 2 ∧ t.profileChange = none ∧ t.keys = s.keys) ∧
     (∀ n i, (n = 3 ∧ i = .start r) ∨ (n = 4 ∧ i = .stop r) ∨ (n = 5 ∧ i = .handover r) → s.WriteTaken r Obj.stationCommand [byte n] →
       ∃ t, exec i s = .next t ∧ t.Answers r 0 ∧ t.command = some ⟨n, s.commandBoundary, false⟩ ∧ t.num Obj.commandResult = 1 ∧
         t.mode = s.mode ∧ t.pair.outgoing = s.pair.outgoing ++ (if s.mode = .run then [.command n s.commandBoundary] else []) ∧
         { s with command := t.command, pair := { s.pair with outgoing := t.pair.outgoing } }.RequestOnly t [Obj.commandResult]) ∧
     (s.WriteTaken r Obj.stationCommand [6] → ∃ t, exec (.layup r) s = .next t ∧ t.Answers r 0 ∧ t.mode = .layup ∧
       t.rst.layup = some s.mode ∧ t.num Obj.commandResult = 2 ∧ t.keys = s.keys ∧ t.dram = s.dram)) ∧
  (∀ (s : State) (r : Req) (v : BitVec 8) (w : BitVec 16) (d : BitVec 32),
     (s.WriteTaken r Obj.profile [v] → ∃ t, exec (.profileWrite r v) s = .next t ∧ t.Answers r 0 ∧
       t.profileChange = some (v.toNat, s.nextL) ∧ t.num Obj.profile = v.toNat ∧ t.num Obj.activeProfile = s.num Obj.activeProfile) ∧
     (s.WriteTaken r Obj.resetRequest [v] →
       (∃ t, exec (.resetRequest r v) s = .next t ∧ t.Answers r 0 ∧ t.rst = { s.rst with request := some (askedLevel v.toNat) } ∧
         s.Wrote t 0x0105 [v.toNat + levelCode (s.appliedLevel v.toNat) * 256, Req.origin r] ∧ { s with rst := t.rst }.RequestOnly t []) ∧
       ∃ t, exec (.reset r v) s = .next t ∧ t.Answers r 0 ∧ t.rst = { s.rst with request := some (askedLevel v.toNat) } ∧
         { s with rst := t.rst }.RequestOnly t []) ∧
     (s.WriteTaken r Obj.restoreCommand (leBytes 4 d.toNat) → ∃ t, exec (.restoreCommand r d) s = .next t ∧ t.Answers r 0 ∧
       t.restore = some (s.num Obj.restoreFirst, s.num Obj.restoreLast) ∧ t.num Obj.restoreResult = 1 ∧
       { s with restore := t.restore }.RequestOnly t [Obj.restoreResult]) ∧
     (s.WriteTaken r Obj.resetCauseClear (leBytes 2 w.toNat) → ∃ t, exec (.resetCauseClear r w) s = .next t ∧ t.Answers r 0 ∧
       (∀ i < 9, bit t.rst.cause i = (bit s.rst.cause i && !w.getLsbD i)) ∧ t.rst = { s.rst with cause := t.rst.cause } ∧
       { s with rst := t.rst }.RequestOnly t []) ∧
     (s.WriteTaken r Obj.activateBank [v] → ∃ t a, exec (.activateBankWrite r v) s = .next t ∧ t.Answers r 0 ∧ t.warp.activation = some a ∧
       a.target = v.toNat % 2 ∧ a.tick = s.activationBoundary ∧ a.staged = none ∧ a.decided = false ∧ t.num Obj.activationResult = 1 ∧
       t.num Obj.activateTick = 0 ∧ t.warp.loaded = s.warp.loaded ∧ t.mode = s.mode) ∧
     (s.WriteTaken r Obj.activateCancel [v] → s.warp.activation.isSome = true → ∃ t, exec (.activateCancelWrite r v) s = .next t ∧ t.Answers r 0 ∧
       t.warp = { s.warp with activation := none } ∧ t.num Obj.activationResult = 0))

/-- R248, R301, R303, R329, R332, R374, R401, R481, R485: what the writes that command one unit do once accepted: the permit of a re-step, a time to
set, a bus-off recovery, rate detection, a safety set, a loop test, a HART pass-through, a tally selection and the faceplate's page. -/
def Obligations.UnitWritesAccepted : Prop :=
  ∀ (s : State) (r : Req) (v : BitVec 8) (value : List Byte) (k : Fin 8) (c : Fin 16) (loop : BitVec 12) (q : BitVec 64) (d : BitVec 32),
    (s.WriteTaken r Obj.reStepPermit [v] → ∃ t, exec (.reStepPermitWrite r v) s = .next t ∧ t.Answers r 0 ∧
      t.flag Obj.reStepArmed = true ∧ s.RequestOnly t [Obj.reStepArmed]) ∧
    (s.WriteTaken r Obj.timeSet value → ∃ t, exec (.timeSetWrite r value) s = .next t ∧ t.Answers r 0 ∧
      t.time = { s.time with step := some (.set, (time96Ns value : Int) - s.timeNs) } ∧ { s with time := t.time }.RequestOnly t []) ∧
    (s.WriteTaken r (Obj.recover k.val) [v] → s.num (Obj.canState k.val) = canBusOffState → ∃ t, exec (.recoverWrite r k v) s = .next t ∧
      t.Answers r 0 ∧ t.num (Obj.recover k.val) = 1 ∧ s.RequestOnly t [Obj.recover k.val]) ∧
    (s.WriteTaken r (Obj.detectCommand k.val) [1] → ∃ t, exec (.detectStart r k) s = .next t ∧ t.Answers r 0 ∧
      (t.chan k).detect = some ⟨0, 0, 0, false⟩ ∧ t.num (Obj.detectResult k.val) = 1 ∧ { s with can := t.can }.RequestOnly t derivedObjects) ∧
    (s.WriteTaken r (Obj.detectCommand k.val) [0] → (s.chan k).detect.isSome = true → ∃ t, exec (.detectStop r k) s = .next t ∧ t.Answers r 0 ∧
      (t.chan k).detect = none ∧ t.num (Obj.detectResult k.val) = 4 ∧ { s with can := t.can }.RequestOnly t derivedObjects) ∧
    (s.WriteTaken r Obj.safetySetConfirm (leBytes 4 d.toNat) → ∃ t, exec (.safetySetConfirmWrite r d) s = .next t ∧ t.Answers r 0 ∧
      t.island = { s.island with next := some s.island.pending, pending := [] } ∧ t.num Obj.pendingState = 0 ∧
      { s with island := t.island }.RequestOnly t [Obj.pendingState, Obj.pendingDigest]) ∧
    (s.WriteTaken r (loopObj loop.toNat 0x20) [v] → ∃ t, exec (.testModeWrite r loop v) s = .next t ∧ t.Answers r 0 ∧
      (∃ w ∈ t.weftQueue, w.addr = loopObj loop.toNat 0x20 ∧ w.value = [v]) ∧ t.store = s.store) ∧
    (s.WriteTaken r (Obj.hartRequest c.val) value → ∃ t, exec (.hartRequestWrite r c value) s = .next t ∧ t.Answers r 0 ∧
      (t.io.hart[c]).queued = some (value.take (2 + u8At value 1)) ∧ u8At (t.obj (Obj.hartResponse c.val)) 0 = 1 ∧
      { s with io := { s.io with hart := t.io.hart } }.RequestOnly t [Obj.hartResponse c.val]) ∧
    (s.WriteTaken r Obj.tallySelect (leBytes 8 q.toNat) → ∃ t, exec (.tallySelectWrite r q) s = .next t ∧ t.Answers r 0 ∧
      t.num Obj.tallySelect = q.toNat ∧ s.RequestOnly t [Obj.tallySelect]) ∧
    (s.WriteTaken r Obj.faceplatePage [v] → ∃ t, exec (.faceplatePageWrite r v) s = .next t ∧ t.Answers r 0 ∧
      t.num Obj.faceplatePage = v.toNat ∧ t.face.page = decide (v.toNat ≠ 0) ∧ { s with face := t.face }.RequestOnly t [Obj.faceplatePage])

/-- R497 to R501, R505, R509: what the key writes do once accepted. A fused key is installed for good, and one cut off between its key and status bits
burns no status; a slot is revoked; a secret key is stored or, all zero, erased; the security version and the debug lock only rise. No other key
changes. -/
def Obligations.KeyWritesAccepted : Prop :=
  ∀ (s : State) (r : Req) (slot : Fin 8) (big : Fin 16) (two : Fin 2) (key : List Byte) (w : BitVec 16) (v : BitVec 8) (d : BitVec 32),
    (s.WriteTaken r (Obj.warpKey slot.val) key →
      (∃ t, exec (.warpKeyWrite r slot key false) s = .next t ∧ t.Answers r 0 ∧
        t.keys = { s.keys with warp := s.keys.warp.set slot key, warpStatus := s.keys.warpStatus.set slot 1 } ∧ { s with keys := t.keys }.RequestOnly t []) ∧
      ((s.writeCode r (Obj.warpKey slot.val) key = Status.ok) → exec (.warpKeyWrite r slot key true) s =
        .next { s with keys := { s.keys with warp := s.keys.warp.set slot key, burning := some (1, slot.val) } })) ∧
    (s.WriteTaken r (Obj.safetySetKey slot.val) key → ∃ t, exec (.safetySetKeyWrite r slot key false) s = .next t ∧ t.Answers r 0 ∧
      t.keys = { s.keys with safety := s.keys.safety.set slot key, safetyStatus := s.keys.safetyStatus.set slot 1 } ∧
      { s with keys := t.keys }.RequestOnly t []) ∧
    (s.WriteTaken r Obj.revokeKey (leBytes 2 w.toNat) → ∃ t, exec (.revokeKeyWrite r w) s = .next t ∧ t.Answers r 0 ∧
      t.keys = (if w.toNat / 256 % 16 = 1 then { s.keys with warpStatus := s.keys.warpStatus.set (Fin.ofNat 8 (w.toNat % 256)) 2 }
        else { s.keys with safetyStatus := s.keys.safetyStatus.set (Fin.ofNat 8 (w.toNat % 256)) 2 }) ∧
      s.Wrote t 0x0701 [w.toNat] ∧ { s with keys := t.keys }.RequestOnly t []) ∧
    (s.WriteTaken r (Obj.conduitKey big.val) key → ∃ t, exec (.conduitKeyWrite r big key) s = .next t ∧ t.Answers r 0 ∧
      t.keys = { s.keys with conduit := s.keys.conduit.set big (if key = zeros 32 then none else some key) } ∧
      (∀ x ∈ t.clp.replay, x.slot ≠ big.val) ∧ { s with keys := t.keys, clp := { s.clp with replay := t.clp.replay } }.RequestOnly t []) ∧
    (s.WriteTaken r (Obj.seamKey two.val) key → ∃ t, exec (.seamKeyWrite r two key) s = .next t ∧ t.Answers r 0 ∧
      t.keys = { s.keys with seam := s.keys.seam.set two (if key = zeros 32 then none else some key) } ∧ { s with keys := t.keys }.RequestOnly t []) ∧
    (s.WriteTaken r Obj.commitSecurityVersion [v] → ∃ t, exec (.commitSecurityVersionWrite r v) s = .next t ∧ t.Answers r 0 ∧
      t.keys.securityVersion = v.toNat ∧ s.keys.securityVersion < v.toNat ∧
      (∀ i : Fin 4, t.keys.firmwareStatus[i] = s.keys.firmwareStatus[i] ∨ t.keys.firmwareStatus[i] = 2) ∧ { s with keys := t.keys }.RequestOnly t []) ∧
    (s.WriteTaken r Obj.debugLockCommand (leBytes 4 d.toNat) → ∃ t, exec (.debugLockWrite r d) s = .next t ∧ t.Answers r 0 ∧
      t.keys = { s.keys with lockFuse := true } ∧ { s with keys := t.keys }.RequestOnly t [])

/-- R66, R72, R74, R78, Table 3-4: packets at the service port. One without MAGIC is counted; one that fails a check of steps 5 to 8 is answered with
its code; one whose key is not there is counted and dropped; a new request is executed as its command; a repeated one is answered with the stored
response, and an old one refused. -/
def Obligations.PacketsAreScreened : Prop :=
  ∀ (s : State) (d : Datagram),
    let w := d.data
    let r := requestOf d
    (s.serves = false → d.usb = true ∨ d.kind = .udp → exec (.clpPacketReceive d) s = .next s) ∧
    (s.AtStep3 d → u32At w 0 ≠ 0x39504C43 → ∃ t, exec (.clpPacketReceive d) s = .next t ∧ t.num Obj.badHeader = s.counted Obj.badHeader 1 ∧
      t = { s with dict := t.dict, tally := t.tally }) ∧
    (s.AtStep3 d → 32 ≤ w.length → u32At w 0 = 0x39504C43 → s.destinationOk true (u8At w 5) (u16At w 12) = true → bit (u16At w 6) 0 = false →
      bit (u16At w 6) 4 = false → s.headerCode true w ≠ Status.ok → ∃ t b, exec (.clpPacketReceive d) s = .next t ∧
        t.out = s.out ++ [⟨.clp, 2, r.ip * 65536 + r.port, b, some (s.usbHead r b)⟩] ∧ u16At b 14 = s.headerCode true w ∧ u16At b 8 = u16At w 8 ∧ t.clp.seqs = s.clp.seqs ∧
        t.stored = s.stored) ∧
    (∀ slot, s.AtStep3 d → 32 ≤ w.length → u32At w 0 = 0x39504C43 → s.destinationOk true (u8At w 5) (u16At w 12) = true → bit (u16At w 6) 0 = false →
      s.headerCode true w = Status.ok → r.auth = some slot → s.conduitKey slot = none → ∃ t, exec (.clpPacketReceive d) s = .next t ∧
        t.num Obj.authFailures = s.counted Obj.authFailures 1 ∧ t = { s with dict := t.dict, tally := t.tally }) ∧
    (s.UsbRequest d →
      (∀ x e, s.seqRecord 0xFFFF = some x → u8At w 5 ≠ 1 → (x.cache.find? fun e => decide (e.1 = r.seq)) = some e → e.2 ≠ [] →
        exec (.clpPacketReceive d) s = .next { s with out := s.out ++ [⟨.clp, 2, r.ip * 65536 + r.port, e.2, some (s.usbHead r e.2)⟩] }) ∧
      (∀ x, s.seqRecord 0xFFFF = some x → u8At w 5 ≠ 1 → (x.cache.find? fun e => decide (e.1 = r.seq)) = none → newer16 r.seq x.newest = false →
        ∃ t b, exec (.clpPacketReceive d) s = .next t ∧ t.num Obj.sequenceRefused = s.counted Obj.sequenceRefused 1 ∧
          t.out = s.out ++ [⟨.clp, 2, r.ip * 65536 + r.port, b, some (s.usbHead r b)⟩] ∧ u16At b 14 = Status.sequence ∧ t.clp.seqs = s.clp.seqs ∧ t.stored = s.stored) ∧
      (w.length = 32 → u8At w 5 = 1 → exec (.clpPacketReceive d) s = exec (.identify r) s) ∧
      (s.seqRecord 0xFFFF = none → u8At w 5 = 0x10 → w.length = 36 →
        exec (.clpPacketReceive d) s = exec (.read r (BitVec.ofNat 32 (u32At w 32))) s) ∧
      (s.seqRecord 0xFFFF = none → u8At w 5 = 0x11 → 40 ≤ w.length → w.length = 40 + u16At w 36 → u16At w 38 = 0 →
        exec (.clpPacketReceive d) s = exec (.write r (BitVec.ofNat 32 (u32At w 32)) (w.drop 40)) s))

/-- R75, R84, R85, R92: IDENTIFY answers who the module is on the interface that asked, and discards the source's sequence record; the record, a
transfer and a subscription that are left alone lapse, and nothing else changes with them but the content of a domain that was being written, which
ends empty with the objects that tell of it. R84: domain transfers. A begin that a check refuses changes nothing; one that is taken opens a transfer
under a new ID, which the response gives, and, for a write, empties the domain; a segment at or below the content's end enters it, one beyond is
answered OFFSET with that end; the end closes the transfer when length and CRC agree, and a wrong CRC leaves the domain empty; a read answers the
bytes of the copy; the status answers how far the transfer is; an abort closes. -/
def Obligations.SessionsAndTransfers : Prop :=
  (∀ s : State,
     (∀ r : Req, s.Executes r → ∃ t h, exec (.identify r) s = .next t ∧ t.seqRecord (Req.node r) = none ∧ s.RequestOnly t [] ∧
       h.length = 32 ∧ u8At h 5 = 1 ∧ u16At h 8 = r.seq % 65536 ∧ u16At h 14 = Status.ok ∧
       let b := sealPacket (s.requestKey r) h (s.identity (decide (r.iface = .usb)))
       (r.iface = .usb → t.out = s.out ++ [⟨.clp, 2, r.ip * 65536 + r.port, b, some (s.usbHead r b)⟩]) ∧
       (r.iface ≠ .usb → s.LeavesOnPorts t .clp (r.ip * 65536 + r.port) b)) ∧
     (∀ node : BitVec 16, exec (.sequenceRecordExpiry node) s = .next { s with clp := { s.clp with
       seqs := s.clp.seqs.filter fun x => decide (x.source ≠ node.toNat) } }) ∧
     (∀ n : BitVec 8, exec (.subscriptionLapse n) s = .next { s with clp := { s.clp with subs := s.clp.subs.filter fun x => decide (x.number ≠ n.toNat) } }) ∧
     (∀ id : BitVec 16, (s.clp.transfers.all fun x => decide (x.id ≠ id.toNat)) = true → exec (.transferExpiry id) s = .next s) ∧
     (∀ (id : BitVec 16) x, (s.clp.transfers.find? fun x => decide (x.id = id.toNat)) = some x → ∃ t, exec (.transferExpiry id) s = .next t ∧
       (s.transferEnded x).RequestOnly t (if x.write then contentObjects x.addr else []))) ∧
  (∀ (s : State) (r : Req) (addr total crc off len : BitVec 32) (id : BitVec 16) (data : List Byte), s.Executes r →
     let u := s.count Obj.requestsExecuted
     let key := s.requestKey r
     let opened := fun (x : Transfer) (t : State) => { s with clp := { s.clp with transfers := s.clp.transfers ++ [x] }, freeCount := t.freeCount }
     (u.beginCode addr.toNat total.toNat ≠ 0 → ∃ t, exec (.domainWriteBegin r addr total crc) s = .next t ∧
       t.AnswersWith r key (u.beginCode addr.toNat total.toNat) [] ∧ s.RequestOnly t []) ∧
     (u.beginCode addr.toNat total.toNat = 0 → ∃ t n, exec (.domainWriteBegin r addr total crc) s = .next t ∧
       t.AnswersWith r key Status.ok (leBytes 2 n ++ leBytes 2 (s.payloadRoom r - 8)) ∧ (∀ x ∈ s.clp.transfers, x.id ≠ n) ∧ t.domain addr.toNat = ⟨[], 2⟩ ∧
       { opened ⟨n, true, Req.node r, addr.toNat, total.toNat, crc.toNat, []⟩ t with
         domains := Assoc.set s.domains addr.toNat ⟨[], 2⟩
         firmware := { s.firmware with delivered := t.firmware.delivered }
         island := { s.island with pending := t.island.pending } }.RequestOnly t (contentObjects addr.toNat)) ∧
     (u.domainCode addr.toNat ≠ 0 → ∃ t, exec (.domainReadBegin r addr) s = .next t ∧ t.AnswersWith r key (u.domainCode addr.toNat) [] ∧ s.RequestOnly t []) ∧
     (u.domainCode addr.toNat = 0 → 2 ≤ (s.clp.transfers.filter fun x => !x.write).length → ∃ t, exec (.domainReadBegin r addr) s = .next t ∧
       t.AnswersWith r key Status.tooManyTransfers [] ∧ s.RequestOnly t []) ∧
     (u.domainCode addr.toNat = 0 → (s.clp.transfers.filter fun x => !x.write).length < 2 → ∃ t n, exec (.domainReadBegin r addr) s = .next t ∧
       let b := (u.domainNow addr.toNat).content
       t.AnswersWith r key Status.ok (leBytes 2 n ++ [0, 0] ++ leBytes 4 b.length ++ leBytes 4 (crc32c b)) ∧ (∀ x ∈ s.clp.transfers, x.id ≠ n) ∧
       (opened ⟨n, false, Req.node r, addr.toNat, b.length, crc32c b, b⟩ t).RequestOnly t [Obj.talliesDamaged, overflowAddr Obj.talliesDamaged]) ∧
     (s.transferOf r id.toNat = none → ∀ i ∈ [Instr.domainWriteSegment r id off data, .domainWriteEnd r id, .domainReadSegment r id off len, .domainAbort r id,
       .domainStatus r id], ∃ t, exec i s = .next t ∧ t.AnswersWith r key Status.transferUnknown [] ∧ s.RequestOnly t []) ∧
     ∀ x, s.transferOf r id.toNat = some x →
       let d := s.domain x.addr
       let ends := (s.transferEnded x)
       (∃ t, exec (.domainStatus r id) s = .next t ∧ s.RequestOnly t [] ∧
         t.AnswersWith r key Status.ok (leBytes 4 (if x.write then d.content.length else x.content.length))) ∧
       (∃ t, exec (.domainAbort r id) s = .next t ∧ t.AnswersWith r key Status.ok [] ∧ ends.RequestOnly t (if x.write then contentObjects x.addr else [])) ∧
       (x.write = false → ∀ i ∈ [Instr.domainWriteSegment r id off data, .domainWriteEnd r id], ∃ t, exec i s = .next t ∧
         t.AnswersWith r key Status.transferUnknown [] ∧ s.RequestOnly t []) ∧
       (x.write = true →
         (∃ t, exec (.domainReadSegment r id off len) s = .next t ∧ t.AnswersWith r key Status.transferUnknown [] ∧ s.RequestOnly t []) ∧
         (d.content.length < off.toNat → ∃ t, exec (.domainWriteSegment r id off data) s = .next t ∧
           t.AnswersWith r key Status.offset (leBytes 4 d.content.length) ∧ s.RequestOnly t []) ∧
         (off.toNat ≤ d.content.length → x.total < off.toNat + data.length → ∃ t, exec (.domainWriteSegment r id off data) s = .next t ∧
           t.AnswersWith r key Status.range [] ∧ s.RequestOnly t []) ∧
         (off.toNat ≤ d.content.length → off.toNat + data.length ≤ x.total → r.stores = true ∨ warpBankOf x.addr = none →
           ∃ t, exec (.domainWriteSegment r id off data) s = .next t ∧ t.AnswersWith r key Status.ok [] ∧
             { s with domains := Assoc.set s.domains x.addr { d with content := patch d.content off.toNat data } }.RequestOnly t []) ∧
         (d.content.length ≠ x.total ∨ (x.addr = Obj.faceplateUserImage ∧ x.total ≠ 2368) → ∃ t, exec (.domainWriteEnd r id) s = .next t ∧
           t.AnswersWith r key Status.lengthMismatch [] ∧ s.RequestOnly t []) ∧
         (d.content.length = x.total → (x.addr = Obj.faceplateUserImage → x.total = 2368) →
           (crc32c d.content ≠ x.crc → ∃ t, exec (.domainWriteEnd r id) s = .next t ∧ t.AnswersWith r key Status.domainCrc [] ∧
             ends.RequestOnly t (contentObjects x.addr)) ∧
           (crc32c d.content = x.crc → ∃ t, exec (.domainWriteEnd r id) s = .next t ∧ t.AnswersWith r key Status.ok [] ∧
             t.clp.transfers = s.clp.transfers.filter (fun y => decide (y.id ≠ x.id)) ∧ (t.domain x.addr).content = d.content ∧
             (t.domain x.addr).status = (if (warpBankOf x.addr).isSome || (firmwareBankOf x.addr).isSome || decide (x.addr = Obj.safetyParameterSet) then 3 else 1) ∧
             (∀ k, warpBankOf x.addr = some k → t.num (Obj.bankState k) = 2) ∧ (∀ k, firmwareBankOf x.addr = some k → t.num (Obj.firmwareBankState k) = 2) ∧
             (x.addr = Obj.safetyParameterSet → t.num Obj.pendingState = 2 ∧ t.island.pending = d.content) ∧ (∀ a, a ≠ x.addr → t.domain a = s.domain a) ∧
             t.keys = s.keys ∧ t.stored = s.stored ∧ t.mode = s.mode))) ∧
       (x.write = false →
         (x.content.length < off.toNat + len.toNat → ∃ t, exec (.domainReadSegment r id off len) s = .next t ∧ t.AnswersWith r key Status.range [] ∧
           s.RequestOnly t []) ∧
         (off.toNat + len.toNat ≤ x.content.length → s.payloadRoom r < len.toNat → ∃ t, exec (.domainReadSegment r id off len) s = .next t ∧
           t.AnswersWith r key Status.tooLarge [] ∧ s.RequestOnly t []) ∧
         (off.toNat + len.toNat ≤ x.content.length → len.toNat ≤ s.payloadRoom r → ∃ t, exec (.domainReadSegment r id off len) s = .next t ∧
           t.AnswersWith r key Status.ok (slice x.content off.toNat len.toNat) ∧ s.RequestOnly t [])))

/-- R86 to R89, R99, R127: a process-data packet of a layout that meets its conditions waits for the cut-off, and replaces one that waits, counted;
any other is counted and dropped. The packet of a transmitted layout leaves at its planned start with the cut-off of its cycle, unless its peer is
unresolved. R90 to R92: subscriptions. A number that is free, or the source's own, takes the filter and the start; another source's is BUSY;
unsubscribing ends it; an EVENT carries the matching records that have not been sent, and after one that was overwritten unconfirmed the flag LOST and
the oldest record held on; an acknowledgement confirms without an answer; records not confirmed are sent again. -/
def Obligations.ProcessDataAndSubscriptions : Prop :=
  (∀ s : State,
     (∀ (source : BitVec 16) (ip : Nat) (auth : Option Nat) (enc : Bool) (seq : BitVec 16) (payload : List Byte),
       (s.netServes = false → exec (.pd source ip auth enc seq payload) s = .next s) ∧
       (∀ l k, s.netServes = true → ((rxLayouts s.sections).zipIdx.find? fun e => decide (e.1.id = u16At payload 0)) = some (l, k) →
         let good := s.mode.running = true ∧ l.peerNode = source.toNat ∧ l.peerIp = ip ∧ payload.length = 12 + l.bodyLength ∧ layoutAuthOk l auth enc = true ∧
           s.pdSequenceOk l (Assoc.get? s.pd.rx k) seq.toNat = true
         (good → ∃ t, exec (.pd source ip auth enc seq payload) s = .next t ∧
           Assoc.get? t.pd.rx k = some ⟨seq.toNat, s.tick, some (seq.toNat, payload)⟩ ∧ (∀ j, j ≠ k → Assoc.get? t.pd.rx j = Assoc.get? s.pd.rx j) ∧
           (∀ x, Assoc.get? s.pd.rx k = some x → x.waiting.isSome = true → t.num Obj.pdSuperseded = s.counted Obj.pdSuperseded 1) ∧
           t = { s with pd := t.pd, dict := t.dict, tally := t.tally }) ∧
         (¬good → ∃ t, exec (.pd source ip auth enc seq payload) s = .next t ∧ t.num Obj.pdDropped = s.counted Obj.pdDropped 1 ∧
           t = { s with dict := t.dict, tally := t.tally }))) ∧
     (∀ n : BitVec 16, (s.mode.running = false ∨ s.io.fenced = true ∨ s.ownIp = 0 ∨ Assoc.get? s.pd.tx n.toNat = none → exec (.pdTransmit n) s = .next s) ∧
       (∀ l x, (txLayouts s.sections)[n.toNat]? = some l → Assoc.get? s.pd.tx n.toNat = some x → s.mode.running = true → s.io.fenced = false → s.ownIp ≠ 0 →
         (l.auth = 0 → isMulticast l.peerIp = true → ∃ t h, exec (.pdTransmit n) s = .next t ∧ h.length = 32 ∧ u8At h 5 = 0x30 ∧
           u16At h 8 = x.cutoff / lenOfCode l.cls % 65536 ∧
           s.LeavesOnPorts t .pd (l.peerIp * 65536 + netPdPort s.sections) (h ++ (leBytes 2 l.id ++ [byte l.cls, 0] ++ leBytes 8 x.cutoff ++ x.body)) ∧
           t.pd = { s.pd with tx := Assoc.erase s.pd.tx n.toNat } ∧ t.timeNs = max s.timeNs (s.edgeNs s.tick + l.txOffset)) ∧
         (isMulticast l.peerIp = false → Assoc.get? s.clp.arp (s.nextHop l.peerIp) = none → ∃ t, exec (.pdTransmit n) s = .next t ∧ t.out = s.out ∧
           t.num Obj.arpUnresolved = s.counted Obj.arpUnresolved 1 ∧ t.pd = { s.pd with tx := Assoc.erase s.pd.tx n.toNat })))) ∧
  (∀ (s : State) (r : Req) (number : BitVec 8) (first last : BitVec 16) (start highest : BitVec 64),
     let u := s.count Obj.requestsExecuted
     (s.Executes r → r.iface ≠ .usb → 1 ≤ number.toNat → number.toNat ≤ 16 →
       ((s.subOf number.toNat = none ∧ s.clp.subs.length < 16 ∨ ∃ y, s.subOf number.toNat = some y ∧ y.heldBy r = true) →
         ∃ t next, exec (.subscribe r number first last start) s = .next t ∧ t.Answers r 0 ∧
           t.subOf number.toNat = some ⟨number.toNat, r, first.toNat, last.toNat, next, next - 1, [], false⟩ ∧
           next = (if start.toNat = 0 then u.tally.head + 1 else start.toNat) ∧ (∀ k, k ≠ number.toNat → t.subOf k = s.subOf k)) ∧
       (∀ y, s.subOf number.toNat = some y → y.heldBy r = false → ∃ t, exec (.subscribe r number first last start) s = .next t ∧
         t.Answers r Status.busy ∧ s.RequestOnly t [])) ∧
     (s.Executes r → r.iface ≠ .usb →
       (∀ y, s.subOf number.toNat = some y → y.heldBy r = true → ∃ t, exec (.unsubscribe r number) s = .next t ∧ t.Answers r 0 ∧
         t.subOf number.toNat = none) ∧
       (s.subOf number.toNat = none → ∃ t, exec (.unsubscribe r number) s = .next t ∧ t.Answers r Status.noSubscription ∧ s.RequestOnly t [])) ∧
     (∀ x, s.subOf number.toNat = some x → s.Executes r → r.iface ≠ .usb → x.heldBy r = true →
       ∃ t y, exec (.eventAck r number highest) s = .next t ∧ t.subOf number.toNat = some y ∧
         y.awaiting = x.awaiting.filter (fun n => decide (highest.toNat < n) && decide (u.tally.oldest ≤ n)) ∧ y.confirmed = confirmedTo y.awaiting x.next ∧
         y.lost = (x.lost || x.awaiting.any fun n => decide (highest.toNat < n) && decide (n < u.tally.oldest)) ∧
         y = { x with awaiting := y.awaiting, confirmed := y.confirmed, lost := y.lost } ∧
         t.out = s.out ∧ ∃ q, t.seqRecord (Req.node r) = some q ∧ q.newest = r.seq) ∧
     (s.subOf number.toNat = none → exec (.event number) s = .next s ∧ exec (.eventResend number) s = .next s) ∧
     (∀ x, s.subOf number.toNat = some x → s.netServes = true → x.req.auth = none →
       let lost := x.lost || decide (x.confirmed + 1 < s.tally.oldest)
       let start := if lost then s.tally.oldest else x.next
       let ns := (s.matching x start s.tally.head).take ((s.payloadRoom x.req - 4) / 64)
       (ns = [] → ∃ t y, exec (.event number) s = .next t ∧ t = { s with clp := { s.clp with subs := t.clp.subs } } ∧ t.subOf number.toNat = some y ∧
         y.lost = lost) ∧
       (ns ≠ [] → ∃ t h, exec (.event number) s = .next t ∧ h.length = 32 ∧ u8At h 5 = 0x42 ∧
         s.LeavesOnPorts t .event (x.req.ip * 65536 + x.req.port)
           (h ++ ([byte x.number, byte (b2n lost)] ++ leBytes 2 ns.length ++ ns.flatMap fun n => (s.tally.lookup n).1)) ∧
         ∃ y, t.subOf number.toNat = some y ∧ y.lost = false ∧ ∀ n ∈ ns, n < y.next ∧ n ∈ y.awaiting)) ∧
     (∀ x, s.subOf number.toNat = some x → s.netServes = true →
       (x.confirmed + 1 < x.next → exec (.eventResend number) s = exec (.event number) (s.putSub { x with next := x.confirmed + 1 })) ∧
       (x.next ≤ x.confirmed + 1 → exec (.eventResend number) s = .next s)))

/-- R65, R66, R95, R97, R99, R143, R287, R288, R507: ARP, ICMP and IGMP are answered within their limits per port, the USB service port among them,
and what exceeds them is counted; a link that comes up below the warp's slowest rate loses its path with a tally; a path is lost once with its cause,
which for want of frames takes PathTimeout, and recovers on a link of a usable rate on which a frame has been heard within PathTimeout; supervision
frames leave on both ports, and a peer's is kept. -/
def Obligations.NetworkServicesAnswer : Prop :=
  ∀ (s : State) (rx : NetRx),
    let u := (s.prpTake rx).1
    (∀ (sender target : Nat), (s.netServes = false → exec (.arpRequest (.net rx) sender target) s = .next s) ∧
      (s.netServes = true → (s.prpTake rx).2 = true →
        let ts := lastSecond u.localNs u.clp.arpTimes[portIx rx.port]
        (100 ≤ ts.length → ∃ t, exec (.arpRequest (.net rx) sender target) s = .next t ∧ t.num Obj.rateDropped = u.counted Obj.rateDropped 1 ∧ t.out = u.out) ∧
        (ts.length < 100 → u.ownIp = target → target ≠ 0 → ∃ t, exec (.arpRequest (.net rx) sender target) s = .next t ∧
          u.LeavesOnPorts t .arp (sender * 65536) (arpBytes 2 u.moduleMacBytes target (beBytes 6 rx.mac) sender)) ∧
        (ts.length < 100 → u.answersIp target = false → ∃ t, exec (.arpRequest (.net rx) sender target) s = .next t ∧ t.out = u.out ∧
          t = { u with clp := { u.clp with arpTimes := t.clp.arpTimes } }))) ∧
    (∀ (src : Nat) (data : List Byte), s.netServes = true → (s.prpTake rx).2 = true →
      let ts := lastSecond u.localNs u.clp.icmpTimes[portIx rx.port]
      (10 ≤ ts.length → ∃ t, exec (.icmpEcho (.net rx) src u.ownIp data) s = .next t ∧ t.num Obj.rateDropped = u.counted Obj.rateDropped 1 ∧ t.out = u.out) ∧
      (ts.length < 10 → ∃ t, exec (.icmpEcho (.net rx) src u.ownIp data) s = .next t ∧ u.LeavesOnPorts t .icmp (src * 65536) (icmpReply data))) ∧
    (∀ (mac ns : Nat) (data : List Byte),
      let v := s.atOffset ns
      (s.serves = false → exec (.arpRequest (.usb mac ns) usbHostIp usbStationIp) s = .next s ∧ exec (.icmpEcho (.usb mac ns) usbHostIp usbStationIp data) s = .next s) ∧
      (s.serves = true → s.options.inForce.usb = true →
        (100 ≤ (lastSecond v.localNs v.clp.usbArpTimes).length → ∃ t, exec (.arpRequest (.usb mac ns) usbHostIp usbStationIp) s = .next t ∧
          t.num Obj.rateDropped = s.counted Obj.rateDropped 1 ∧ t.out = s.out) ∧
        ((lastSecond v.localNs v.clp.usbArpTimes).length < 100 → ∃ t m, exec (.arpRequest (.usb mac ns) usbHostIp usbStationIp) s = .next t ∧ t.out = s.out ++ [m] ∧
          m.kind = .arp ∧ m.unit = 2 ∧ m.data = arpBytes 2 (fit 6 (s.obj Obj.usbMac)) usbStationIp (beBytes 6 mac) usbHostIp) ∧
        (10 ≤ (lastSecond v.localNs v.clp.usbIcmpTimes).length → ∃ t, exec (.icmpEcho (.usb mac ns) usbHostIp usbStationIp data) s = .next t ∧
          t.num Obj.rateDropped = s.counted Obj.rateDropped 1 ∧ t.out = s.out) ∧
        ((lastSecond v.localNs v.clp.usbIcmpTimes).length < 10 → ∃ t m, exec (.icmpEcho (.usb mac ns) usbHostIp usbStationIp data) s = .next t ∧
          t.out = s.out ++ [m] ∧ m.kind = .icmp ∧ m.unit = 2 ∧ m.data = icmpReply data))) ∧
    (s.netServes = true → (s.prpTake rx).2 = true → ∃ t, exec (.igmpQuery rx) s = .next t ∧ ∀ g ∈ netGroups s.sections, ∀ k < 2, u.portRate k ≠ 0 →
      ∃ m ∈ t.out, m.kind = .igmp ∧ m.unit = k ∧ m.peer = g * 65536 ∧ igmpReport g <+: m.data) ∧
    (∀ (ip : Nat) (mac : Option Nat), s.netServes = true → s.pdHops.contains ip = true → ip ≠ 0 → s.clp.arp.length < 1088 →
      ∃ t, exec (.arpRefresh ip mac) s = .next t ∧ s.LeavesOnPorts t .arp (ip * 65536) (arpBytes 1 s.moduleMacBytes s.ownIp (zeros 6) ip) ∧
        (Assoc.wf s.clp.arp = true → Assoc.get? t.clp.arp ip = mac)) ∧
    (s.mode.answers = true → ∃ t, exec .prpSupervision s = .next t ∧ s.LeavesOnPorts t .prpSupervision 0
      ([0, 1] ++ beBytes 2 s.prp.moduleSeq ++ [20, 6] ++ s.moduleMacBytes ++ [0, 0]) ∧ t.prp = { s.prp with moduleSeq := (s.prp.moduleSeq + 1) % 65536 }) ∧
    (∀ (p : NetPort) (rate : Nat), s.mode.answers = true →
      (s.rateLow rate = true → ∃ t, exec (.portLinkUp p rate) s = .next t ∧ t.prp.rates[portIx p] = rate ∧ t.prp.lost[portIx p] = true ∧
        s.Wrote t 0x060A [portNo p, rate] ∧ t.out = s.out) ∧
      (s.rateLow rate = false → ∃ t, exec (.portLinkUp p rate) s = .next t ∧ t.prp.rates[portIx p] = rate ∧ t.prp.lost = s.prp.lost)) ∧
    (∀ (p : NetPort) (cause : Fin 4), s.mode.answers = true → cause = 1 ∨ (cause = 2 ∧ s.prp.heardAt[portIx p] + s.num Obj.pathTimeout * 1000000 ≤ s.localNs) ∨
      (cause = 3 ∧ s.rateLow (s.portRate (portNo p)) = true) → s.prp.lost[portIx p] = false → ∃ t, exec (.pathLost p cause) s = .next t ∧
      t.prp.lost[portIx p] = true ∧ t.num (Obj.pathLosses (portNo p)) = s.counted (Obj.pathLosses (portNo p)) 1 ∧
      s.Wrote t 0x0608 [portNo p, cause.val] ∧ (cause = 1 → t.prp.rates[portIx p] = 0) ∧ t = { s with prp := t.prp, dict := t.dict, tally := t.tally }) ∧
    (∀ p : NetPort, (s.prp.heardAt[portIx p] + s.num Obj.pathTimeout * 1000000 > s.localNs → exec (.pathLost p 2) s = .next s) ∧
      (s.prp.lost[portIx p] = false ∨ s.portRate (portNo p) = 0 ∨ s.prp.heardAt[portIx p] + s.num Obj.pathTimeout * 1000000 ≤ s.localNs ∨ s.rateLow (s.portRate (portNo p)) = true → exec (.pathRestored p) s = .next s) ∧
      (s.mode.answers = true → s.prp.lost[portIx p] = true → s.portRate (portNo p) ≠ 0 → s.localNs < s.prp.heardAt[portIx p] + s.num Obj.pathTimeout * 1000000 → s.rateLow (s.portRate (portNo p)) = false → ∃ t, exec (.pathRestored p) s = .next t ∧ t.prp.lost[portIx p] = false ∧
        s.Wrote t 0x0609 [portNo p] ∧ t = { s with prp := t.prp, dict := t.dict, tally := t.tally })) ∧
    (∀ d : Datagram, d.rx = rx → d.usb = false → d.kind = .supervision → u.vlanTakes rx.vlan = true → s.mode.answers = true →
      let ts := lastSecond u.localNs u.prp.supervised[portIx rx.port]
      (64 ≤ ts.length → ∃ t, exec (.clpPacketReceive d) s = .next t ∧ t.num Obj.framesDiscarded = u.counted Obj.framesDiscarded 1 ∧ t.prp = u.prp) ∧
      (ts.length < 64 → u.prp.peers.length < 1088 → ∃ t, exec (.clpPacketReceive d) s = .next t ∧ Assoc.get? t.prp.peers rx.mac = some u.localNs ∧
        t = { u with prp := t.prp }))

/-- R3, R4, R55, R58, R116: the tick edge numbers the tick and brings its time; a reset request asserts; the engines hold nothing of the tick before;
in RUN the writes that the cut-off carries leave their queue, and only they; elsewhere the Store keeps what STATE_MAP lists (R147) and all but its
state area. OFF, BOOT and LAYUP have no edges. R112, R171, R172, R193: the execution window starts each lane with its program of the tick: w1 the
ordinal, w2 the tick index, w3 the lane, every other register 0, the lanes of a CANVAS pair's second program waiting; the shuttles are empty, and
nothing starts where no tick is executed. -/
def Obligations.TickWindowsOpen : Prop :=
  (∀ s : State,
     (s.mode = .off ∨ s.mode = .boot ∨ s.mode = .layup → exec .tickEdge s = .next s) ∧
     (s.mode ≠ .off → s.mode ≠ .boot → s.mode ≠ .layup → ∃ t, exec .tickEdge s = .next t ∧ t.tick = s.nextEdge ∧ t.ticking = true ∧
       t.timeNs = max s.timeNs (s.edgeNs s.nextEdge) ∧ t.eng.jobs = [] ∧ t.eng.discard = false ∧ t.eng.mismatches = 0 ∧ t.keys = s.keys ∧
       (∀ l, s.rst.request = some l → t.rst.request = none ∧ bit t.rst.cause 4 = true ∧ ∃ k, (ResetSource.request, k) ∈ t.rst.asserted) ∧
       (s.mode = .run → t.mode = .run ∧ t.weftQueue = s.weftQueue.filter fun w => decide (s.nextEdge % classLen w.cls ≠ 0)) ∧
       (s.mode ≠ .run → s.mode ≠ .standby → s.MemOk → ∀ a, s.keepsByte a = true ∨ inStateArea a = false → Mem.get t.store a = Mem.get s.store a))) ∧
  (∀ s : State,
     (s.executes = false → exec .executionStart s = .next s) ∧
     (s.mode = .run → ∃ t, exec .executionStart s = .next t ∧ t.timeNs = max s.timeNs (s.edgeNs s.tick + 30000) ∧
       (∀ k : Fin 16, t.eng.shuttles[k] = []) ∧ t.eng.passes = [] ∧ t.eng.mismatches = 0 ∧ t.eng.reexecuting = false ∧
       (∀ l : Fin 4, (t.lane l).cycle = 0 ∧ (t.lane l).pc = 0 ∧ (t.lane l).retired = none ∧ (t.lane l).reg 2 = BitVec.ofNat 64 (tickIndex s.tick) ∧
         (t.lane l).reg 3 = BitVec.ofNat 64 l.val ∧ (∀ r : Fin 512, r ≠ 1 → r ≠ 2 → r ≠ 3 → (t.lane l).reg r = 0) ∧
         (∀ r k, runAt (programRuns (sectBody s.sections 10)) (tickIndex s.tick) = some (r, k) → (t.lane l).running = true ∧
           (t.lane l).program = runProgram r l.val ∧ (t.lane l).reg 1 = BitVec.ofNat 64 k ∧ (t.lane l).second = (s.canvas && decide (l.val % 2 = 1)))) ∧
       t.tally.issued = [] ∧ t.tally.captured = s.tally.captured ++ s.tally.issued ∧ t.dram = s.dram ∧ t.weftQueue = s.weftQueue) ∧
     ∀ (x : Lane) (v : Word64), x.reg 0 = 0 ∧ x.setReg 0 v = x)

/-- R29, R189, R220: at staging the tick's records enter a queue of 16384, those that find it full are counted as lost, at most 32 leave it for the
log, and the captures take what the tick staged; a tick whose staging is discarded gives neither. R28, R115, R446, R447: the guard applies the gates
of the next tick where it runs the warp, and in SATIN the clock and supply setting too; otherwise only time passes. Every loop's configuration stands
in the table RAM after it (R228, R238). -/
def Obligations.TickWindowsClose : Prop :=
  (∀ s : State,
     (s.mode.answers = false → exec .outputStaging s = .next s) ∧
     (s.executes = true → s.eng.discard = false → s.tally.headKnown = true →
       let new := s.tally.captured ++ s.tally.issued
       let kept := new.take (16384 - s.tally.queue.length)
       ∃ t, exec .outputStaging s = .next t ∧ t.timeNs = max s.timeNs (s.edgeNs s.tick + 210000) ∧ t.tally.captured = [] ∧ t.tally.issued = [] ∧
         t.tally.queue.length = s.tally.queue.length + kept.length - 32 ∧
         s.tally.head + min 32 (s.tally.queue.length + kept.length) ≤ t.tally.head ∧
         (kept.length < new.length → t.num Obj.alarmTalliesLost = s.counted Obj.alarmTalliesLost (new.length - kept.length)) ∧
         (∀ k : Fin 8, t.captures[k] = { s.captures[k] with records := s.captures[k].records ++ s.captures[k].staged, staged := [] }) ∧
         t.store = s.store ∧ t.eng = s.eng) ∧
     (s.mode.answers = true → s.eng.discard = true → ∃ t, exec .outputStaging s = .next t ∧ t.tally.captured = [] ∧ t.tally.issued = [] ∧
       t.tally.queue = s.tally.queue.drop 32 ∧ (∀ k : Fin 8, t.captures[k] = { s.captures[k] with staged := [] }) ∧ t.store = s.store)) ∧
  (∀ s : State, s.ticking = true →
     (s.mode.answers = false → exec .guard s = .next s) ∧
     (s.mode.answers = true → ∃ t, exec .guard s = .next t ∧ t.timeNs = max s.timeNs (s.edgeNs s.tick + 232000) ∧
       let b := sectBody (s.imageAt s.nextEdge) 9
       let setting := clockAt b (s.profileAt s.nextEdge) (tickIndex s.nextEdge)
       let satin := s.mode.running = true ∧ s.profile = 1 ∧ s.profileAt s.nextEdge = 1
       (s.runsNext = true → s.warp.loaded.isSome = true →
         t.eng.gates = gatesAt b (tickIndex s.nextEdge) ∧
         (satin → t.num Obj.sequencerClock = setting.1 % 65536 ∧ t.num Obj.coreSupply = setting.2 % 65536) ∧ (¬satin → t.dict = s.dict)) ∧
       (s.runsNext = false ∨ s.warp.loaded = none → t.eng = s.eng ∧ t.dict = s.dict) ∧
       (s.tableRam.length = s.loopCount → t.tableRam = s.tableRam) ∧
       (s.tableRam.length ≠ s.loopCount → ∀ j < s.loopCount, (Assoc.get? t.tableRam (s.slotKey j)).isSome = true) ∧
       s.SameObjects t [Obj.sequencerClock, Obj.coreSupply] ∧
       t = { s with tableRam := t.tableRam, dict := t.dict, eng := { s.eng with gates := t.eng.gates }, localNs := t.localNs, timeNs := t.timeNs, rtcNs := t.rtcNs }))

/-- R131 to R133, Table 4-7: the Canary's checks of a tick. Where every measure and count is as the warp and the tick say, nothing changes; where one
is not, the tick's staging is discarded, no commit frame of it stands any more, and in RUN the Canary source asserts; an edge interval out of 249 to
251 us is named in a TICK_FAULT tally. -/
def Obligations.CanaryJudgesTheTick : Prop :=
  ∀ (s : State) (m : CanaryMeasure), s.ticking = true → s.mode.answers = true →
    let record := proofRecord s.sections s.profile (tickIndex s.tick)
    let interval := 249000 ≤ m.interval ∧ m.interval ≤ 251000
    let capture := ∃ n, m.capture = some n ∧ n ≤ 30000 ∧ m.bodyCrc = true
    let retired := ∀ k < 4, s.retirementFault record k = none
    let staging := ∃ n, m.staging = some n ∧ n ≤ 232000
    let setting := m.setting = (if s.executes then clockAt (sectBody s.sections 9) s.profile (tickIndex s.tick)
      else (s.num Obj.sequencerClock, s.num Obj.coreSupply))
    let scan := s.scanFault m.scan = none
    (interval → s.executes = false → setting → scan → exec (.canaryTickCheck m) s = .next s) ∧
    (interval → capture → retired → s.loomFault m.loom = none → staging → setting → scan → exec (.canaryTickCheck m) s = .next s) ∧
    (¬interval → s.time.unjudged = false → ∃ t, exec (.canaryTickCheck m) s = .next t ∧ t.eng.discard = true ∧
      s.Wrote t 0x0301 [1 + 0xFF * 256 + tickIndex s.tick * 65536, 250000, low32 m.interval, low32 s.tick] ∧
      (s.mode = .run → bit t.rst.cause 3 = true ∧ ∃ l, (ResetSource.canary, l) ∈ t.rst.asserted) ∧
      t = { s with dict := t.dict, tally := t.tally, rst := t.rst, io := t.io, eng := { s.eng with discard := true } } ∧ s.CommitsGone t) ∧
    ((s.executes = true ∧ (¬capture ∨ ¬retired ∨ s.loomFault m.loom ≠ none ∨ ¬staging)) ∨ ¬setting ∨ ¬scan →
      ∃ t, exec (.canaryTickCheck m) s = .next t ∧ t.eng.discard = true ∧
        (s.mode = .run → bit t.rst.cause 3 = true ∧ ∃ l, (ResetSource.canary, l) ∈ t.rst.asserted) ∧
        t = { s with dict := t.dict, tally := t.tally, rst := t.rst, io := t.io, eng := { s.eng with discard := true } } ∧ s.CommitsGone t)

/-- R122, R123, R223, R261: a source whose count reaches its tolerance is reported once; a shelve that has expired ends with its record, on a standby
once the weft of the tick is in place; a standby without the complete weft of the tick forms a gap weft, and counts it. -/
def Obligations.StaleSourcesShelvesAndGaps : Prop :=
  ∀ s : State,
    (∀ (entry : BitVec 16) d, s.staleDefs[entry.toNat]? = some d →
      ((s.staleAt entry.toNat).reached = true ∨ (s.staleAt entry.toNat).count < d.tolerance → exec (.sourceStale entry) s = .next s) ∧
      ((s.staleAt entry.toNat).reached = false → d.tolerance ≤ (s.staleAt entry.toNat).count → ∃ t r, exec (.sourceStale entry) s = .next t ∧
        t.staleAt entry.toNat = { s.staleAt entry.toNat with reached := true } ∧ t.num Obj.staleEntries = s.counted Obj.staleEntries 1 ∧
        t.tally.issued = s.tally.issued ++ [r] ∧ r.code = 0x0304 ∧ r.params = [entry.toNat, (s.staleAt entry.toNat).count, 0, low32 s.tick] ∧
        t = { s with dict := t.dict, tally := t.tally, stale := t.stale })) ∧
    (∀ g : BitVec 12, s.mode = .standby → s.executes = true → s.pair.placed ≠ some s.tick →
      exec (.shelveExpiry g) s = .next { s with pair := { s.pair with expiring := s.pair.expiring ++ [g.toNat] } }) ∧
    (∀ g : BitVec 12, s.mode ≠ .standby ∨ s.pair.placed = some s.tick → s.executes = true → g.toNat < s.groups.length →
      let b := groupAt s.sections g.toNat
      (s.storeNat b 1 = 0 ∨ s.tick < s.storeNat (b + 16) 8 → exec (.shelveExpiry g) s = .next s) ∧
      (s.MemOk → s.storeNat b 1 ≠ 0 → s.storeNat (b + 16) 8 ≤ s.tick → ∃ t, exec (.shelveExpiry g) s = .next t ∧
        Mem.get t.store b = 0 ∧ (∀ i < 8, Mem.get t.store (b + 16 + i) = 0) ∧
        (∃ r ∈ t.tally.issued, r.code = 0x0407 ∧ r.params = [g.toNat + 65536, 0, 0, low32 s.tick]) ∧ t.tally.issued.length = s.tally.issued.length + 1 ∧
        (∀ a, (a < b ∨ b + 24 ≤ a) → Mem.get t.store a = Mem.get s.store a) ∧ t = { s with store := t.store, tally := t.tally })) ∧
    (s.mode ≠ .standby ∨ s.executes = false ∨ s.pair.placed = some s.tick ∨ s.mirrorComplete s.tick = true → exec .gapWeft s = .next s) ∧
    (s.mode = .standby → s.executes = true → s.pair.placed ≠ some s.tick → s.mirrorComplete s.tick = false → ∃ t, exec .gapWeft s = .next t ∧
      t.pair.placed = some s.tick ∧ t.pair.gaps = s.pair.gaps + 1 ∧ t.num Obj.gapWefts = s.counted Obj.gapWefts 1 ∧ t.mode = .standby ∧ t.keys = s.keys)

/-- R179: the integer arithmetic of 32 and 64 bits wraps, division truncates toward zero and gives 0 for a zero divisor, with the issue and latency of
Table 6-4; w0 stays 0 (R172) and nothing else of the module changes. R178: moves, constants, fields, logic, shifts, extensions, comparisons and
selections, each with the latency of Table 6-4. -/
def Obligations.LaneIntegersAndLogic : Prop :=
  (∀ (l : Fin 4) (d a b : Fin 512),
     Computes (.laneAdd32 l d a b) l [a, b] 1 1 d (fun x => BitVec.ofNat 64 ((x.u32 a + x.u32 b) % 2 ^ 32)) ∧
     Computes (.laneSub32 l d a b) l [a, b] 1 1 d (fun x => BitVec.ofNat 64 ((2 ^ 32 + x.u32 a - x.u32 b) % 2 ^ 32)) ∧
     Computes (.laneMul32 l d a b) l [a, b] 1 3 d (fun x => BitVec.ofNat 64 (x.u32 a * x.u32 b % 2 ^ 32)) ∧
     Computes (.laneDivs32 l d a b) l [a, b] 18 18 d (fun x => BitVec.ofNat 64 ((x.s32 a).tdiv (x.s32 b) % 2 ^ 32).toNat) ∧
     Computes (.laneDivu32 l d a b) l [a, b] 18 18 d (fun x => BitVec.ofNat 64 (x.u32 a / x.u32 b)) ∧
     Computes (.laneAdd64 l d a b) l [a, b] 1 1 d (fun x => BitVec.ofNat 64 (x.u64 a + x.u64 b)) ∧
     Computes (.laneSub64 l d a b) l [a, b] 1 1 d (fun x => BitVec.ofNat 64 (2 ^ 64 + x.u64 a - x.u64 b)) ∧
     Computes (.laneMul64 l d a b) l [a, b] 1 4 d (fun x => BitVec.ofNat 64 (x.u64 a * x.u64 b)) ∧
     Computes (.laneDivs64 l d a b) l [a, b] 34 34 d (fun x => BitVec.ofInt 64 ((x.s64 a).tdiv (x.s64 b))) ∧
     Computes (.laneDivu64 l d a b) l [a, b] 34 34 d (fun x => BitVec.ofNat 64 (x.u64 a / x.u64 b))) ∧
  (∀ (l : Fin 4) (d a b c : Fin 512) (imm : BitVec 32) (off : BitVec 38) (lsb width1 : BitVec 6),
     Computes (.laneNop l) l [] 1 0 0 (fun _ => 0) ∧
     Computes (.laneConstl l d imm) l [] 1 1 d (fun _ => BitVec.ofNat 64 imm.toNat) ∧
     Computes (.laneConsth l d imm) l [d] 1 1 d (fun x => BitVec.ofNat 64 (imm.toNat * 2 ^ 32 + x.u32 d)) ∧
     Computes (.laneMov l d a) l [a] 1 1 d (fun x => x.reg a) ∧
     Computes (.laneAddi l d a off) l [a] 1 1 d (fun x => BitVec.ofInt 64 (x.s64 a + off.toInt)) ∧
     Computes (.laneExt l d a lsb width1) l [a] 1 1 d
       (fun x => BitVec.ofNat 64 (x.u64 a / 2 ^ lsb.toNat % 2 ^ (width1.toNat + 1))) ∧
     Computes (.laneIns l d a lsb width1) l [a, d] 1 1 d
       (fun x => (x.reg d &&& ~~~(BitVec.ofNat 64 ((2 ^ (width1.toNat + 1) - 1) * 2 ^ lsb.toNat))) |||
         (BitVec.ofNat 64 (x.u64 a % 2 ^ (width1.toNat + 1) * 2 ^ lsb.toNat))) ∧
     Computes (.laneAnd l d a b) l [a, b] 1 1 d (fun x => x.reg a &&& x.reg b) ∧
     Computes (.laneOr l d a b) l [a, b] 1 1 d (fun x => x.reg a ||| x.reg b) ∧
     Computes (.laneXor l d a b) l [a, b] 1 1 d (fun x => x.reg a ^^^ x.reg b) ∧
     Computes (.laneNot l d a) l [a] 1 1 d (fun x => ~~~(x.reg a)) ∧
     Computes (.laneShl l d a b) l [a, b] 1 1 d (fun x => BitVec.ofNat 64 (x.u64 a * 2 ^ (x.u64 b % 64))) ∧
     Computes (.laneShr l d a b) l [a, b] 1 1 d (fun x => BitVec.ofNat 64 (x.u64 a / 2 ^ (x.u64 b % 64))) ∧
     Computes (.laneSar l d a b) l [a, b] 1 1 d (fun x => BitVec.ofInt 64 (x.s64 a / 2 ^ (x.u64 b % 64))) ∧
     Computes (.laneMins l d a b) l [a, b] 1 1 d (fun x => BitVec.ofInt 64 (min (x.s64 a) (x.s64 b))) ∧
     Computes (.laneMaxs l d a b) l [a, b] 1 1 d (fun x => BitVec.ofInt 64 (max (x.s64 a) (x.s64 b))) ∧
     Computes (.laneSx8 l d a) l [a] 1 1 d (fun x => ((x.reg a).truncate 8).signExtend 64) ∧
     Computes (.laneSx16 l d a) l [a] 1 1 d (fun x => ((x.reg a).truncate 16).signExtend 64) ∧
     Computes (.laneSx32 l d a) l [a] 1 1 d (fun x => BitVec.ofInt 64 (x.s32 a)) ∧
     Computes (.laneCeq l d a b) l [a, b] 1 1 d (fun x => if x.u64 a = x.u64 b then 1 else 0) ∧
     Computes (.laneCne l d a b) l [a, b] 1 1 d (fun x => if x.u64 a = x.u64 b then 0 else 1) ∧
     Computes (.laneClts l d a b) l [a, b] 1 1 d (fun x => if x.s64 a < x.s64 b then 1 else 0) ∧
     Computes (.laneCltu l d a b) l [a, b] 1 1 d (fun x => if x.u64 a < x.u64 b then 1 else 0) ∧
     Computes (.laneCles l d a b) l [a, b] 1 1 d (fun x => if x.s64 a ≤ x.s64 b then 1 else 0) ∧
     Computes (.laneCleu l d a b) l [a, b] 1 1 d (fun x => if x.u64 a ≤ x.u64 b then 1 else 0) ∧
     Computes (.laneSel l d a b c) l [a, b, c] 1 1 d (fun x => if x.u64 c = 0 then x.reg b else x.reg a) ∧
     Computes (.laneBsel l d a b c) l [a, b, c] 1 1 d
       (fun x => (x.reg a &&& x.reg c) ||| (x.reg b &&& ~~~(x.reg c))))

/-- R180 to R182: each floating-point operation is one IEEE operation of its format, and each composite primitive its steps in order; a 32-bit result
clears bits [63:32] (R178). R180: the floating-point comparisons order −0 and +0 as equal and answer 0 for a NaN operand; FCUN answers 1 exactly then. -/
def Obligations.LaneFloats : Prop :=
  (∀ (l : Fin 4) (d a b : Fin 512),
     Computes (.laneFadd32 l d a b) l [a, b] 1 3 d (fun x => w32 (fAdd f32 (x.u32 a) (x.u32 b))) ∧
     Computes (.laneFsub32 l d a b) l [a, b] 1 3 d (fun x => w32 (fSub f32 (x.u32 a) (x.u32 b))) ∧
     Computes (.laneFmul32 l d a b) l [a, b] 1 3 d (fun x => w32 (fMul f32 (x.u32 a) (x.u32 b))) ∧
     Computes (.laneFdiv32 l d a b) l [a, b] 12 12 d (fun x => w32 (fDiv f32 (x.u32 a) (x.u32 b))) ∧
     Computes (.laneFsqrt32 l d a) l [a] 14 14 d (fun x => w32 (fSqrt f32 (x.u32 a))) ∧
     Computes (.laneFmin32 l d a b) l [a, b] 1 2 d (fun x => w32 (fMin f32 (x.u32 a) (x.u32 b))) ∧
     Computes (.laneFmax32 l d a b) l [a, b] 1 2 d (fun x => w32 (fMax f32 (x.u32 a) (x.u32 b))) ∧
     Computes (.laneFabs32 l d a) l [a] 1 2 d (fun x => w32 (fAbs f32 (x.u32 a))) ∧
     Computes (.laneFneg32 l d a) l [a] 1 2 d (fun x => w32 (fNeg f32 (x.u32 a))) ∧
     Computes (.laneFadd64 l d a b) l [a, b] 1 4 d (fun x => BitVec.ofNat 64 (fAdd f64 (x.u64 a) (x.u64 b))) ∧
     Computes (.laneFsub64 l d a b) l [a, b] 1 4 d (fun x => BitVec.ofNat 64 (fSub f64 (x.u64 a) (x.u64 b))) ∧
     Computes (.laneFmul64 l d a b) l [a, b] 1 5 d (fun x => BitVec.ofNat 64 (fMul f64 (x.u64 a) (x.u64 b))) ∧
     Computes (.laneFdiv64 l d a b) l [a, b] 22 22 d (fun x => BitVec.ofNat 64 (fDiv f64 (x.u64 a) (x.u64 b))) ∧
     Computes (.laneFsqrt64 l d a) l [a] 26 26 d (fun x => BitVec.ofNat 64 (fSqrt f64 (x.u64 a))) ∧
     Computes (.laneFmin64 l d a b) l [a, b] 1 2 d (fun x => BitVec.ofNat 64 (fMin f64 (x.u64 a) (x.u64 b))) ∧
     Computes (.laneFmax64 l d a b) l [a, b] 1 2 d (fun x => BitVec.ofNat 64 (fMax f64 (x.u64 a) (x.u64 b))) ∧
     Computes (.laneFabs64 l d a) l [a] 1 2 d (fun x => BitVec.ofNat 64 (fAbs f64 (x.u64 a))) ∧
     Computes (.laneFneg64 l d a) l [a] 1 2 d (fun x => BitVec.ofNat 64 (fNeg f64 (x.u64 a))) ∧
     Computes (.laneCvtf32i32 l d a) l [a] 1 3 d (fun x => w32 (fOfInt f32 (x.s32 a))) ∧
     Computes (.laneCvti32f32 l d a) l [a] 1 3 d (fun x => w32 (ofSigned 32 (fToInt f32 (-2 ^ 31) (2 ^ 31 - 1) (x.u32 a)))) ∧
     Computes (.laneCvtf64f32 l d a) l [a] 1 3 d (fun x => BitVec.ofNat 64 (fConvert f32 f64 (x.u32 a))) ∧
     Computes (.laneCvtf32f64 l d a) l [a] 1 3 d (fun x => w32 (fConvert f64 f32 (x.u64 a))) ∧
     Computes (.laneCvtf64i64 l d a) l [a] 1 3 d (fun x => BitVec.ofNat 64 (fOfInt f64 (x.s64 a))) ∧
     Computes (.laneCvti64f64 l d a) l [a] 1 3 d
       (fun x => BitVec.ofInt 64 (fToInt f64 (-2 ^ 63) (2 ^ 63 - 1) (x.u64 a))) ∧
     Computes (.laneScl32 l d a b) l [a, b] 1 6 d
       (fun x => w32 (fAdd f32 (fMul f32 (x.u32 a) (x.u32 b)) (x.u64 b / 2 ^ 32))) ∧
     Computes (.laneClamp32 l d a b) l [a, b] 1 2 d
       (fun x => w32 (fMin f32 (fMax f32 (x.u32 a) (x.u32 b)) (x.u64 b / 2 ^ 32))) ∧
     Computes (.laneFilt32 l d a b) l [a, b, d] 1 9 d
       (fun x => w32 (fAdd f32 (x.u32 d) (fMul f32 (x.u32 b) (fSub f32 (x.u32 a) (x.u32 d))))) ∧
     Computes (.laneRamp32 l d a b) l [a, b, d] 1 8 d
       (fun x => w32 (fAdd f32 (x.u32 d) (fMin f32 (fMax f32 (fSub f32 (x.u32 a) (x.u32 d)) (fNeg f32 (x.u32 b))) (x.u32 b))))) ∧
  (∀ (l : Fin 4) (d a b : Fin 512),
     (let le := fun x : Lane => decide (fCmpKey f32 (x.u32 a) ≤ fCmpKey f32 (x.u32 b))
      let ge := fun x : Lane => decide (fCmpKey f32 (x.u32 b) ≤ fCmpKey f32 (x.u32 a))
      let nan := fun x : Lane => fIsNan f32 (x.u32 a) || fIsNan f32 (x.u32 b)
      Computes (.laneFceq32 l d a b) l [a, b] 1 2 d (fun x => if !nan x && le x && ge x then 1 else 0) ∧
      Computes (.laneFclt32 l d a b) l [a, b] 1 2 d (fun x => if !nan x && !ge x then 1 else 0) ∧
      Computes (.laneFcle32 l d a b) l [a, b] 1 2 d (fun x => if !nan x && le x then 1 else 0) ∧
      Computes (.laneFcun32 l d a b) l [a, b] 1 2 d (fun x => if nan x then 1 else 0)) ∧
     (let le := fun x : Lane => decide (fCmpKey f64 (x.u64 a) ≤ fCmpKey f64 (x.u64 b))
      let ge := fun x : Lane => decide (fCmpKey f64 (x.u64 b) ≤ fCmpKey f64 (x.u64 a))
      let nan := fun x : Lane => fIsNan f64 (x.u64 a) || fIsNan f64 (x.u64 b)
      Computes (.laneFceq64 l d a b) l [a, b] 1 2 d (fun x => if !nan x && le x && ge x then 1 else 0) ∧
      Computes (.laneFclt64 l d a b) l [a, b] 1 2 d (fun x => if !nan x && !ge x then 1 else 0) ∧
      Computes (.laneFcle64 l d a b) l [a, b] 1 2 d (fun x => if !nan x && le x then 1 else 0) ∧
      Computes (.laneFcun64 l d a b) l [a, b] 1 2 d (fun x => if nan x then 1 else 0)) ∧
     -- −0 and +0 have one key, and the keys order the other values as their signs and magnitudes do
     fCmpKey f32 0x80000000 = fCmpKey f32 0 ∧ fCmpKey f64 0x8000000000000000 = fCmpKey f64 0)

/-- R173, R174: the loads read the Store at the effective address, which is taken modulo 2^25 and aligned down; the stores write the low bytes of w[D]
there, into the state area only, and nothing else of memory; any other store is discarded and faults the Canary. R175, Table 6-3, Table 6-4: the
window and port accesses. LDW waits for every register, STW discards register 0, LDP reads the latched tag records and DMA_RELOCATE, and STP writes
DMA_RELOCATE only, with its low five bits ignored. -/
def Obligations.LaneMemoryAndPorts : Prop :=
  (∀ (l : Fin 4) (d a : Fin 512) (imm : BitVec 38) (s : State), (s.lane l).active = true → s.MemOk →
     (∀ p ∈ [(Instr.laneLd8 l d a imm, 1), (Instr.laneLd16 l d a imm, 2), (Instr.laneLd32 l d a imm, 4), (Instr.laneLd64 l d a imm, 8)],
       ∃ t, exec p.1 s = .next t ∧
         LaneComputes s t l ((s.lane l).startOf [a]) 1 (if s.num Obj.activeProfile = 3 then 8 else 6) d
           (BitVec.ofNat 64 (leNat (s.storeRead (((((s.lane l).u64 a : Int) + imm.toInt) % 2 ^ 25).toNat / p.2 * p.2) p.2)))) ∧
     (∀ p ∈ [(Instr.laneSt8 l d a imm, 1), (Instr.laneSt16 l d a imm, 2), (Instr.laneSt32 l d a imm, 4), (Instr.laneSt64 l d a imm, 8)],
       let addr := (s.lane l).storeAddr a imm p.2
       ∃ t, exec p.1 s = .next t ∧ (∀ r, (t.lane l).reg r = (s.lane l).reg r) ∧ (∀ k, k ≠ l → t.lane k = s.lane k) ∧
         (t.lane l).pc = (s.lane l).pc + 1 ∧ (t.lane l).ready = (s.lane l).ready ∧
         (t.lane l).cycle = (s.lane l).startOf [a, d] + 1 ∧
         (t.lane l).drain = max (s.lane l).drain ((s.lane l).startOf [a, d] + if s.num Obj.activeProfile = 3 then 5 else 4) ∧
         t.dram = s.dram ∧ t.window = s.window ∧
         (∀ q, q < addr ∨ addr + p.2 ≤ q → Mem.get t.store q = Mem.get s.store q) ∧
         (inStateArea addr = true → Mem.read t.store addr p.2 = leBytes p.2 ((s.lane l).u64 d) ∧
           t = { s with store := t.store, eng := { s.eng with lanes := t.eng.lanes, undo := t.eng.undo, scratch := t.eng.scratch } }) ∧
         (inStateArea addr = false → t.store = s.store ∧ t.eng.discard = true ∧ t.eng.scratch = s.eng.scratch ∧
           t.num Obj.protectedStores = s.counted Obj.protectedStores 1))) ∧
  (∀ (l : Fin 4) (d a : Fin 512) (imm : BitVec 38) (s : State), (s.lane l).active = true →
     (let x := s.lane l
      let r := Fin.ofNat 512 (((x.u64 a : Int) + imm.toInt) % 512).toNat
      let port := ((((x.u64 a : Int) + imm.toInt) % 2 ^ 64).toNat) / 4 * 4
      (∃ t, exec (.laneLdw l d a imm) s = .next t ∧ LaneComputes s t l x.startAll 1 2 d (x.reg r)) ∧
      (∃ t, exec (.laneStw l d a imm) s = .next t ∧ (t.lane l).reg r = (if r = 0 then 0 else x.reg d) ∧
        (∀ q, q ≠ r → (t.lane l).reg q = x.reg q) ∧
        t.lane l = { x with pc := x.pc + 1, cycle := x.startOf [a, d] + 2, regs := (t.lane l).regs } ∧
        (∀ k, k ≠ l → t.lane k = s.lane k) ∧ t = { s with eng := { s.eng with lanes := t.eng.lanes } }) ∧
      (∃ t, exec (.laneLdp l d a imm) s = .next t ∧
        LaneComputes s t l (x.startOf [a]) 1 (if s.num Obj.activeProfile = 3 then 14 else 10) d
          (w32 (if port = 0x400 then x.relocate else if port < 0x200 then
            (let g := x.latched[Fin.ofNat 32 (port / 16)]
             match port % 16 with | 0 => g.state | 4 => g.error | 8 => g.good | _ => g.address) else 0))) ∧
      (∃ t, exec (.laneStp l d a imm) s = .next t ∧
        t.lane l = { x with pc := x.pc + 1, cycle := x.startOf [a, d] + 1,
                            relocate := if port = 0x400 then x.u32 d / 32 * 32 else x.relocate } ∧
        (∀ k, k ≠ l → t.lane k = s.lane k) ∧ t = { s with eng := { s.eng with lanes := t.eng.lanes } })))

/-- R171, R183, R184, R188: WEFT gives the weft header's address, COMMIT closes the class's buffer after every earlier store, WAIT holds the lane, and
its release latches the records of the tags in the mask and gives their error bits; END retires the program with its count. R185 to R187, R192: SHUT,
TROM and DMAI hand their work to an engine that is not gated, under a tag, planned from the issue slot on. R188: while a WAIT holds a lane, or when
its program has retired, no instruction of that lane changes anything. -/
def Obligations.LaneWaitsAndIssues : Prop :=
  (∀ (l : Fin 4) (d : Fin 512) (mask : BitVec 32) (cls : CClass) (s : State),
     ((s.lane l).active = true →
       (∃ t, exec (.laneWeft l d cls) s = .next t ∧
         LaneComputes s t l (s.lane l).cycle 1 1 d (BitVec.ofNat 64 (s.weftOf (classCode cls)))) ∧
       (∃ t, exec (.laneCommit l cls) s = .next t ∧ t.eng.closed = s.eng.closed ++ [classCode cls] ∧
         t.lane l = { s.lane l with pc := (s.lane l).pc + 1, cycle := max (s.lane l).cycle (s.lane l).drain + 1 } ∧
         (∀ k, k ≠ l → t.lane k = s.lane k) ∧ t = { s with eng := { s.eng with lanes := t.eng.lanes, closed := t.eng.closed } }) ∧
       (∃ t, exec (.laneWait l d mask) s = .next t ∧ (t.lane l).active = false ∧
         t.lane l = { s.lane l with waiting := some (mask.toNat, d.val, (s.lane l).cycle) } ∧
         (∀ k, k ≠ l → t.lane k = s.lane k) ∧ t = { s with eng := { s.eng with lanes := t.eng.lanes } }) ∧
       ((∀ g : Fin 32, (s.lane l).tags[g].open_ = 0) → ∃ t, exec (.laneEnd l) s = .next t ∧
         (t.lane l).running = false ∧ (t.lane l).retired = some (t.lane l).cycle ∧
         (t.lane l).cycle = max (max (s.lane l).startAll (s.lane l).drain)
           (releaseOf s.tickClock ((s.lane l).tags.toList.filter (·.issued))) + 1 ∧
         t.store = s.store ∧ t.mode = s.mode)) ∧
     (∀ start0, (s.lane l).waiting = some (mask.toNat, d.val, start0) → (∀ g : Fin 32, bit mask.toNat g.val = true →
         (s.lane l).tags[g].open_ = 0) →
       ∃ t, exec (.waitRelease l) s = .next t ∧ (t.lane l).waiting = none ∧
         (∀ g : Fin 32, (t.lane l).latched[g] =
           if bit mask.toNat g.val then (s.lane l).tags[g].live else (s.lane l).latched[g]) ∧
         (∀ g : Fin 32, d ≠ 0 → ((t.lane l).reg d).getLsbD g.val =
           (bit mask.toNat g.val && decide ((s.lane l).tags[g].live.state = 2))) ∧
         (t.lane l).u64 d < 2 ^ 32 ∧ (∀ r, r ≠ d → (t.lane l).reg r = (s.lane l).reg r) ∧
         (t.lane l).cycle = max start0 (releaseOf s.tickClock ((s.lane l).maskTags mask.toNat)) + 1 ∧
         (∀ k, k ≠ l → t.lane k = s.lane k) ∧ t = { s with eng := { s.eng with lanes := t.eng.lanes } })) ∧
  (∀ (l : Fin 4) (a : Fin 512) (unit : Fin 16) (tag : Fin 32) (count : BitVec 28) (s : State), (s.lane l).active = true →
     (let x := s.lane l
      let slot := slotOfCycle s.tickClock (x.startOf [a])
      let u := s.shuttleQueue unit
      (count ≠ 0 → bit s.eng.gates (unit.val / 2) = true → ∃ t, exec (.laneShut l a unit tag count) s = .next t ∧
        t.eng.shuttles[u] = s.eng.shuttles[u] ++ [⟨l.val, tag.val, x.u64 a % 4096, count.toNat, 0⟩] ∧
        t.eng.shuttleEnd[u] = max slot s.eng.shuttleEnd[u] + 64 * count.toNat ∧
        (t.lane l).tags[tag].open_ = x.tags[tag].open_ + 1 ∧ (t.lane l).tags[tag].issued = true ∧
        (t.lane l).pc = x.pc + 1 ∧ (t.lane l).cycle = x.startOf [a] + 2 ∧ (∀ r, (t.lane l).reg r = x.reg r) ∧
        (∀ k, k ≠ l → t.lane k = s.lane k) ∧
        t = { s with eng := { s.eng with lanes := t.eng.lanes, shuttles := t.eng.shuttles, shuttleEnd := t.eng.shuttleEnd } }) ∧
      (count ≠ 0 → bit s.eng.gates 8 = true → ∃ t, exec (.laneTrom l a tag count) s = .next t ∧
        t.eng.passes = s.eng.passes ++ [⟨l.val, tag.val, x.u64 a % 262144, count.toNat, 0⟩] ∧
        t.eng.passEnd = max slot s.eng.passEnd + 16 + 4 * count.toNat ∧
        (t.lane l).tags[tag].open_ = x.tags[tag].open_ + 1 ∧ (t.lane l).tags[tag].issued = true ∧
        (t.lane l).pc = x.pc + 1 ∧ (t.lane l).cycle = x.startOf [a] + 2 ∧ (∀ r, (t.lane l).reg r = x.reg r) ∧
        (∀ k, k ≠ l → t.lane k = s.lane k) ∧
        t = { s with eng := { s.eng with lanes := t.eng.lanes, passes := t.eng.passes, passEnd := t.eng.passEnd } }) ∧
      (∀ list planned stuck, s.lists[count.toNat]? = some list →
         (plannedList s.sections s.profile (tickIndex s.tick) l.val x.pc).getD (s.issueSlot x.cycle, false) = (planned, stuck) →
         ∃ t, exec (.laneDmai l tag count) s = .next t ∧
          (t.lane l).relocate = 0 ∧ (t.lane l).pc = x.pc + 1 ∧ (t.lane l).cycle = x.cycle + 2 ∧ (∀ r, (t.lane l).reg r = x.reg r) ∧
          (t.lane l).tags[tag].issued = true ∧ (t.lane l).tags[tag].planned = max x.tags[tag].planned planned ∧
          (∀ g, g ≠ tag → (t.lane l).tags[g] = x.tags[g]) ∧ (∀ k, k ≠ l → t.lane k = s.lane k) ∧
          -- it moves something: the list waits for its slots, with the offset that the issue has taken
          (s.isHalted list.engine list.channel = false → stuck = false → s.slotsLeft list.engine (s.issueSlot x.cycle) = true →
            t.eng.jobs = s.eng.jobs ++
              [{ id := s.eng.jobCount, list := list.list, engine := list.engine, channel := list.channel, trigger := list.trigger
                 lane := some (l.val, tag.val), relocate := x.relocate, started := false, start := s.issueSlot x.cycle, faults := []
                 left := list.descs, beat := 0, slots := [], results := [], written := 0, halted := false, complete := false }] ∧
            t.eng.jobCount = s.eng.jobCount + 1 ∧ (t.lane l).tags[tag].open_ = x.tags[tag].open_ + 1 ∧
            t = { s with eng := { s.eng with lanes := t.eng.lanes, jobs := t.eng.jobs, jobCount := t.eng.jobCount } }) ∧
          -- every slot of it has passed, or goes to the lists before it: it moves nothing, and its operation is over
          (s.isHalted list.engine list.channel = false → (stuck = true ∨ s.slotsLeft list.engine (s.issueSlot x.cycle) = false) →
            (t.lane l).tags[tag].open_ = x.tags[tag].open_ ∧ t = { s with eng := { s.eng with lanes := t.eng.lanes } }) ∧
          -- a halted channel discards it (R464)
          (s.isHalted list.engine list.channel = true →
            t.num Obj.dmaListsDiscarded = s.counted Obj.dmaListsDiscarded 1 ∧ t.eng.jobs = s.eng.jobs ∧
            (t.lane l).tags[tag].open_ = x.tags[tag].open_ ∧ (t.lane l).tags[tag].live.state = 2)))) ∧
  (∀ (i : Instr) (l : Fin 4) (s : State), Sys2Proof.Machine.laneOf i = some l → (s.lane l).active = false → exec i s = .next s)

/-- R205, R206: a forced point resolves to its forced value; an unknown quality code, or a NaN of quality GOOD or UNCERTAIN, is BAD; a stale reference
makes STALE with its count; a BAD or STALE point keeps, substitutes or passes its value as its configuration says. R186, R205, R217: the next point of
the first trommel pass is screened once per cycle of its class: its record takes the resolved value and quality and the number of the cycle, and
outside its records no byte of the Store changes. A second screen in a cycle is counted and changes no byte. R217, Table 7-11: what each event of a
screen makes of each alarm state; every other pair leaves the state, and only an acknowledgement of UNACK or RTN_UNACK writes ALARM_ACKED. R215, R216:
in the screen of the next point of the first pass, a condition whose RAW bit differs and whose count of screens now exceeds its delay takes that bit,
with its count back at 0 and all else that the screen does; short of that the event changes nothing. -/
def Obligations.PointsAndAlarms : Prop :=
  (∀ (type : Nat) (pr cfg : Bytes) (stale : Nat × Nat) (holdover : Bool),
     let r := resolve type pr cfg stale holdover
     let staleNow := u16At cfg 4 ≠ 0xFFFF ∧ stale.2 ≤ stale.1
     (u8At pr 28 ≠ 0 → r = (u64At pr 16, 0x8000)) ∧
     (u8At pr 28 = 0 → staleNow → stale.1 < 256 → r.2 = 0x6000 + stale.1) ∧
     (u8At pr 28 = 0 → ¬staleNow → u16At pr 26 ∉ candidateCodes → r.2 = 0x4000) ∧
     (u8At pr 28 = 0 → ¬staleNow → u16At pr 26 ∈ candidateCodes → isNanOf type (u64At pr 8) = false →
       r.2 = u16At pr 26 ∨ (u16At pr 26 = 0 ∧ holdover = true ∧ r.2 = 0x2300)) ∧
     (u8At pr 28 = 0 → ¬staleNow → isNanOf type (u64At pr 8) = true → qualityMain r.2 = 2) ∧
     (u8At pr 28 = 0 → qualityMain r.2 = 2 ∨ qualityMain r.2 = 3 → stale.1 < 256 →
       r.1 = if field (u32At cfg 0) 26 25 = 1 then u64At pr 0 else if field (u32At cfg 0) 26 25 = 2 then u64At pr 16 else u64At pr 8) ∧
     (u8At pr 28 = 0 → qualityMain r.2 = 0 ∨ qualityMain r.2 = 1 → r.1 = u64At pr 8)) ∧
  (∀ (s : State) (a : Activation) (rest : List Activation), s.eng.passes = a :: rest →
     (∀ p, s.point? (a.first + a.done) = some p → u16At (s.storeRead (pointAt p) 32) 30 ≠ s.cycleMark p.cls + 32768 →
       (∀ r ∈ s.screenRanges p, Apart (pointAt p, 32) r) →
       ∃ t, exec .pointScreen s = .next t ∧ Mem.read t.store (pointAt p) 8 = leBytes 8 (s.resolved p).1 ∧
         Mem.read t.store (pointAt p + 24) 2 = leBytes 2 (s.resolved p).2 ∧
         Mem.read t.store (pointAt p + 30) 2 = leBytes 2 (s.cycleMark p.cls + 32768) ∧
         s.SameObjects t ([Obj.screenSkips, overflowAddr Obj.screenSkips] ++ tallyObjects) ∧
         s.StoreKept t ((pointAt p, 32) :: s.screenRanges p) ∧ t.eng.passes = (if a.advance.2 then rest else a.advance.1 :: rest) ∧
         t = { s with dict := t.dict, tally := t.tally, store := t.store, eng := { s.eng with lanes := t.eng.lanes, passes := t.eng.passes, undo := t.eng.undo } }) ∧
     (∀ p, s.point? (a.first + a.done) = some p → u16At (s.storeRead (pointAt p) 32) 30 = s.cycleMark p.cls + 32768 →
       ∃ t, exec .pointScreen s = .next t ∧ t.num Obj.screenRepeats = s.counted Obj.screenRepeats 1 ∧
         s.SameObjects t ([Obj.screenRepeats, overflowAddr Obj.screenRepeats] ++ tallyObjects) ∧
         t = { s with dict := t.dict, tally := t.tally, eng := { s.eng with lanes := t.eng.lanes, passes := t.eng.passes } })) ∧
  ((∀ st, (alarmNext st .raise).1 = (if st = .shelved then .shelved else .unack)) ∧
   (∀ st, (alarmNext st .shelve).1 = .shelved) ∧
   (∀ st, (alarmNext st .ack).1 = (if st = .unack then .acked else if st = .rtnUnack then .normal else st)) ∧
   (∀ st, (alarmNext st .clearAll).1 = (if st = .unack then .rtnUnack else if st = .acked then .normal else st)) ∧
   (∀ st active, (alarmNext st (.unshelve active)).1 = (if st = .shelved then (if active then .unack else .normal) else st)) ∧
   (∀ st e, (alarmNext st e).2 = true ↔ e = .ack ∧ (st = .unack ∨ st = .rtnUnack))) ∧
  (∀ (s : State) (n : BitVec 18) (k : Fin 7) (p : PointDef) (a : Activation) (rest : List Activation), s.eng.passes = a :: rest →
     a.first + a.done = n.toNat → s.point? n.toNat = some p →
     let at_ := alarmAt s.sections p
     let cfg := s.storeRead (pointCfgAt p) 32
     Apart (at_, 16) (groupAt s.sections (u16At cfg 6) + 24, 8) →
     let raw := bit ((s.screen p).storeNat (at_ + 2) 1) k.val
     let count := u8At (s.storeRead at_ 16) (6 + k.val)
     let delay := if raw then u8At cfg 30 else u8At cfg 31
     (u16At (s.storeRead (pointAt p) 32) 30 ≠ s.cycleMark p.cls + 32768 → raw ≠ bit (s.activeBits p) k.val → delay < count + 1 →
       ∃ t, exec (.alarmDelayExpiry n k) s = .next t ∧ exec .pointScreen s = .next t ∧ bit (t.activeBits p) k.val = raw ∧
         Mem.get t.store (at_ + 6 + k.val) = 0 ∧
         t = { s with dict := t.dict, tally := t.tally, store := t.store
                      eng := { s.eng with lanes := t.eng.lanes, passes := t.eng.passes, undo := t.eng.undo } }) ∧
     (raw = bit (s.activeBits p) k.val ∨ count + 1 ≤ delay → exec (.alarmDelayExpiry n k) s = .next s))

/-- R227, R234, R238: a shuttle evaluates the next loop of its first activation once per cycle of its class. A gated loop is missed: EVAL takes the
number of the cycle, the gate clears and STATUS shows the miss; so is one whose configuration slot is uncorrectable, whose slot is then lost (R228). A
second evaluation in a cycle is counted and changes no byte. -/
def Obligations.LoopEvaluationRunsTheLaw : Prop :=
  ∀ (s : State) (u : Fin 16) (a : Activation) (rest : List Activation),
    let k := s.shuttleQueue u
    let j := a.first + a.done
    let cfg := s.loopCfg j
    let r := s.loopRec j
    let m := s.cycleMark (loopClass cfg)
    let gain := s.storeRead (s.gainAt (u16At cfg 6)) 704
    s.eng.shuttles[k] = a :: rest → j < s.loopCount → (Assoc.get? s.tableRam (s.slotKey j)).isSome = true →
    (if s.canvas then loopShuttle cfg / 2 = k.val / 2 else loopShuttle cfg = k.val) →
    (r.eval = (m + 32767) % 32768 + 32768 → r.gate = 0 → ∃ t, exec (.loopEvaluation u .good) s = .next t ∧
      Mem.read t.store (loopRecAt cfg) 96 = (loopRun cfg gain (s.pairCapture (loopShuttle cfg / 2)).test j { r with eval := m + 32768 } false
        (s.loopsHeld.contains j)).left.bytes ∧
      s.StoreKept t [(loopRecAt cfg, 96)] ∧ t.eng.shuttles[k] = (if a.advance.2 then rest else a.advance.1 :: rest) ∧
      t = { s with dict := t.dict, tally := t.tally, store := t.store, captures := t.captures, loopsMissed := t.loopsMissed
                   loopsHeld := t.loopsHeld
                   eng := { s.eng with lanes := t.eng.lanes, shuttles := t.eng.shuttles, undo := t.eng.undo } }) ∧
    (r.eval ≠ m + 32768 → r.gate ≠ 0 → ∃ t, exec (.loopEvaluation u .good) s = .next t ∧
      Mem.read t.store (loopRecAt cfg) 96 = { r with eval := m + 32768, gate := 0, status := putBit r.status 12 true,
                                                     flags := putBit r.flags 0 true }.bytes ∧
      s.StoreKept t [(loopRecAt cfg, 96)] ∧ j ∈ t.loopsMissed) ∧
    (r.eval = m + 32768 → ∃ t, exec (.loopEvaluation u .good) s = .next t ∧ t.num Obj.loopRepeats = s.counted Obj.loopRepeats 1 ∧
      t.store = s.store) ∧
    (r.eval ≠ m + 32768 → ∃ t, exec (.loopEvaluation u .uncorrectable) s = .next t ∧
      t.num Obj.tableRamUncorrectable = s.counted Obj.tableRamUncorrectable 1 ∧ Assoc.get? t.tableRam (s.slotKey j) = none ∧
      Mem.read t.store (loopRecAt cfg) 96 = { r with eval := m + 32768, gate := 0, status := putBit r.status 12 true,
                                                     flags := putBit r.flags 0 true }.bytes ∧ j ∈ t.loopsMissed)

/-- R234, R235: outside a test, MANUAL puts out the manual value within the output limits with quality GOOD; in AUTO a held loop without the fall-back
ramp keeps its last output with its held quality, and EVAL and the gate stay as the caller set them. R239, R240: a loop whose losses have reached
LOSS_TOLERANCE, or whose measured value has stood still for FREEZE_WINDOW while its output moved beyond the threshold, goes to HOLD with its flags, is
counted and reported; the flags once set, the event changes nothing more. R248: a running test whose index has reached its duration ends DONE: its
signal is 0 from then on, TEST clears, the capture of its pair shows DONE, and LOOP_TEST is issued. -/
def Obligations.LoopLawModes : Prop :=
  (∀ (cfg gain : Bytes) (j : Nat) (r : LoopRec) (skipped wasHeld : Bool),
     let x := loopRun cfg gain none j r skipped wasHeld
     (r.mode ≠ 1 → x.left.out = clampF32 r.manual (u32At cfg 24) (u32At cfg 28) ∧ x.left.outQ = 0 ∧ x.left.u1 = x.left.out) ∧
     (r.mode = 1 → x.judged.hold = true → bit (u8At cfg 4) 3 = false → x.left.out = r.u1 ∧ x.left.u1 = r.u1 ∧ x.left.outQ = 0x2400) ∧
     x.left.eval = r.eval ∧ x.left.gate = r.gate ∧ x.left.mode = r.mode ∧ x.running = none ∧ bit x.left.status 14 = false ∧
     bit x.left.status 5 = x.judged.hold ∧ bit x.left.status 12 = skipped) ∧
  (∀ (s : State) (loop : BitVec 12),
     let j := loop.toNat
     let cfg := s.loopCfg j
     let r := s.loopRec j
     j < s.loopCount →
     (u8At cfg 5 ≤ r.lossCount → 0 < r.lossCount → bit r.status 2 = false → bit r.status 3 = false → ∃ t, exec (.loopLost loop) s = .next t ∧
       Mem.read t.store (loopRecAt cfg) 96 =
         { r with status := putBit (putBit (putBit r.status 2 (qBad r.pvQ)) 3 (qBad r.spQ)) 5 true }.bytes ∧
       t.num (loopObj j 0x31) = s.counted (loopObj j 0x31) 1 ∧
       s.SameObjects t ([loopObj j 0x31, overflowAddr (loopObj j 0x31)] ++ tallyObjects) ∧ s.StoreKept t [(loopRecAt cfg, 96)] ∧
       t = { s with dict := t.dict, tally := t.tally, store := t.store, eng := { s.eng with undo := t.eng.undo } }) ∧
     (u16At cfg 44 ≠ 0 → u16At cfg 44 ≤ r.frzCount → bit r.status 4 = false →
       fLt f32 (u32At cfg 48) (fAbs f32 (fSub f32 r.u1 r.frzOut)) = true → ∃ t, exec (.loopFrozen loop) s = .next t ∧
       Mem.read t.store (loopRecAt cfg) 96 = { r with status := putBit (putBit r.status 4 true) 5 true }.bytes ∧
       t.num (loopObj j 0x32) = s.counted (loopObj j 0x32) 1 ∧
       s.SameObjects t ([loopObj j 0x32, overflowAddr (loopObj j 0x32)] ++ tallyObjects) ∧ s.StoreKept t [(loopRecAt cfg, 96)] ∧
       t = { s with dict := t.dict, tally := t.tally, store := t.store, eng := { s.eng with undo := t.eng.undo } }) ∧
     (bit r.status 2 = true → exec (.loopLost loop) s = .next s) ∧ (bit r.status 4 = true → exec (.loopFrozen loop) s = .next s)) ∧
  (∀ (s : State) (loop : BitVec 12) (test : LoopTest),
     let j := loop.toNat
     let cfg := s.loopCfg j
     let r := s.loopRec j
     (s.pairCapture (loopShuttle cfg / 2)).test = some test → test.loop = j → test.duration ≤ r.testIndex → j < s.loopCount → r.testState = 1 →
     ∃ t d, exec (.testComplete loop) s = .next t ∧
       Mem.read t.store (loopRecAt cfg) 96 = { r with testState := 2, testSignal := 0, status := putBit r.status 14 false }.bytes ∧
       s.StoreKept t [(loopRecAt cfg, 96)] ∧ t.tally.issued = s.tally.issued ++ [d] ∧ d.code = 0x0506 ∧
       t = { s with store := t.store, eng := { s.eng with undo := t.eng.undo }, tally := { s.tally with issued := t.tally.issued }
                    captures := s.captures.set! (loopShuttle cfg / 2) { s.pairCapture (loopShuttle cfg / 2) with status := 2 } })

/-- R194 to R197: in CANVAS the first mismatch of a tick is counted and reported, stops the window with its deferred effects discarded and restores
the undo area, and one re-execution starts; a second one, in the compares of the first execution or of the re-execution, stages nothing and asserts
the escalation source; a third changes nothing. -/
def Obligations.LockstepMismatchReexecutes : Prop :=
  ∀ (s : State) (shuttle : Bool) (pair : Fin 8) (cycle : BitVec 32), s.canvas = true → s.executes = true →
    (s.eng.mismatches = 0 → (∃ l, (s.lane l).running = true) → ∃ t, exec (.lockstepMismatch shuttle pair cycle) s = .next t ∧ t.eng.mismatches = 1 ∧ t.eng.undo = [] ∧
      t.num Obj.lockstepMismatches = s.counted Obj.lockstepMismatches 1 ∧ t.tally.issued = [] ∧ t.rst = s.rst ∧
      (∀ l, (t.lane l).running = false) ∧
      t = { s with dict := t.dict, tally := t.tally, store := t.store, eng := t.eng, loopsMissed := t.loopsMissed, loopsHeld := t.loopsHeld
                   captures := t.captures }) ∧
    (s.eng.mismatches = 1 → s.eng.reexecuting = false ∨ (∃ l, (s.lane l).running = true) → ∃ t, exec (.lockstepMismatch shuttle pair cycle) s = .next t ∧ t.eng.mismatches = 2 ∧ t.eng.discard = true ∧
      bit t.rst.cause 6 = true ∧ t.num Obj.lockstepMismatches = s.counted Obj.lockstepMismatches 1) ∧
    (1 < s.eng.mismatches → exec (.lockstepMismatch shuttle pair cycle) s = .next s) ∧
    (s.eng.mismatches = 1 → s.eng.reexecuting = false → ∃ t, exec .reExecution s = .next t ∧ t.eng.reexecuting = true ∧
      t.eng.mismatches = 1 ∧ t.eng.lanes = s.tickLanes ∧ t.store = s.store ∧ t = { s with eng := t.eng })

/-- R258 to R260, R262, R264, R265, R267: what each kind of seam frame does when it is new and its turn has come: a weft's piece is kept and shown in
the receive window, and of the items that a weft now complete carries those due in its own tick act at once and the others are kept; STATE entries of
the tick before are kept for the comparison; CLOSE gives the heartbeat and the partner's state; DICT gives the object its value, BANK writes the
bank's copy; RESYNC lines count as progress; PERSIST values replace the stored ones; ACK ends what it confirms. A DICT, BANK or PERSIST frame before
its turn waits. A frame with a bad tag is counted, and a repeated one changes nothing. -/
def Obligations.SeamFramesAreTaken : Prop :=
  ∀ (s : State) (wire frame tag : List Byte) (cls : CClass) (i : Instr) (type : Nat), wire = frame ++ tag →
    (i, type) ∈ [(Instr.weftFrame frame cls tag, 2), (Instr.stateFrame wire, 3), (Instr.closeFrameReceive wire, 4), (Instr.dictFrame wire, 5),
      (Instr.bankFrame wire, 6), (Instr.resyncFrame wire, 7), (Instr.persistFrame wire, 8), (Instr.ackFrame wire, 9)] → u8At wire 0 = type →
    let open_ := (s.sendingKey s.partnerSerialOf).bind fun key => openFrame key (s.encrypts type) wire
    (s.seamServes = false → exec i s = .next s) ∧ (s.paired = false → open_.isSome = true → exec i s = .next s) ∧
    (s.seamServes = true → open_ = none → ∃ t, exec i s = .next t ∧ t.num Obj.seamAuthFailures = s.counted Obj.seamAuthFailures 1 ∧
        { s with dict := t.dict, tally := t.tally }.SeamAcks t) ∧
    ∀ h payload, s.SeamOpens wire h payload →
      (s.pair.has (u64At h 8) = true → exec i s = .next s) ∧
      (s.SeamNew type wire h payload → s.SeamQuiet h → type ∈ [5, 6, 8] → (s.seamNoted h).rxNext ≤ u64At h 8 - u32At h 20 →
        ∃ t, exec i s = .next t ∧ (⟨u64At h 8 - u32At h 20, type, h, payload⟩ : SeamHeld) ∈ t.pair.waiting ∧ s.pair.Noted t.pair h ∧
          { s with pair := { s.pair with waiting := t.pair.waiting } }.SeamAcks t) ∧
      (s.SeamNew type wire h payload → s.SeamQuiet h → (type ∈ [5, 6, 8] → u64At h 8 - u32At h 20 < (s.seamNoted h).rxNext) →
        ∃ t, exec i s = .next t ∧ (s.mode ≠ .standby ∧ type ∈ [2, 3, 5, 7, 8] → s.SeamAcks t) ∧ (type ≠ 9 → s.pair.Noted t.pair h) ∧
        (type = 2 → s.mode = .standby → ∃ m ∈ t.pair.wefts, m.tick = u64At payload 0 ∧ m.cls = classCode cls ∧
            (u32At payload 8, payload.drop 12) ∈ m.pieces ∧
            Mem.read t.window (seamRxWindow m.cls + u32At payload 8) (payload.drop 12).length = payload.drop 12 ∧
            (let new := m.complete = true ∧ (s.mirrorOf m.tick m.cls).any (·.complete) = false
             t.pair.items = s.pair.items ++ (if new then (m.items.filter fun i => !itemDue m.tick i).map (m.tick, ·) else []) ∧
             t.command = if new then m.items.foldl (fun c i => match i with
               | .command code b => if b = m.tick then some ⟨code, b, true⟩ else c
               | _ => c) s.command else s.command) ∧
            (t.mirrorComplete m.tick = true → t.pair.weftAck = m.tick) ∧
            (m.complete = false → t = { s with pair := t.pair, out := t.out, window := t.window })) ∧
        (type = 3 → s.mode = .standby → t.pair.words = s.pair.words ++
            (if s.frameTick h - 1 + 1 = s.tick then stateEntriesOf payload.length payload else []) ∧ t.mode = .standby ∧
          ∀ a, s.inStateMap (a / 8 * 8) = false → Mem.get t.store a = Mem.get s.store a) ∧
        (type = 4 → (∀ c, s.pair.heard = some c → c.tick ≤ (closeOf payload).tick) →
          t.pair.heard = some (closeOf payload) ∧ t.pair.gaps = 0 ∧ t.num Obj.partnerState = (closeOf payload).state ∧ t.mode = s.mode ∧
          (s.mode = .run → t.synced = ((closeOf payload).standsBy && (closeOf payload).isSynced))) ∧
        (type = 5 → s.mode = .standby → ∀ a v o, valuesOf payload.length payload = [(a, v)] → s.objRow? a = some o → s.stationScope a = true →
          o.effect ≠ .weft → o.access ≠ .wo → lengthOk o.type v = true → isOption a = false → o.range ≠ .zero → a ∉ derivedObjects →
          t.obj a = v ∧ (o.persistent = true → Assoc.get? t.stored a = some v) ∧ t.mode = s.mode ∧ t.store = s.store) ∧
        (type = 6 → ∀ k, s.bankToWrite = some k →
          (u32At payload 0 = 0 → payload.length = 4 → t.pair.bankRx = some k ∧ t.bankImage k = [] ∧ t.num (Obj.bankState k) = 1 ∧ t.mode = s.mode) ∧
          (s.pair.bankRx = some k → u32At payload 0 ≤ (s.bankImage k).length → 4 < payload.length →
            t.pair.bankRx = some k ∧ t.bankImage k = patch (s.bankImage k) (u32At payload 0) (payload.drop 4) ∧ t.mode = s.mode ∧ t.store = s.store)) ∧
        (type = 7 → s.mode = .standby → s.num Obj.syncState = 2 →
          t.num Obj.syncProgress = (s.num Obj.syncProgress + 32 * (chunks 44 93 payload).length) % 2 ^ 32) ∧
        (type = 8 → s.mode = .standby → ∀ a, ((∃ v, (a, v) ∈ valuesOf payload.length (payload.drop 1)) →
            ∃ v, (a, v) ∈ valuesOf payload.length (payload.drop 1) ∧ Assoc.get? t.stored a = some v) ∧
          ((∀ v, (a, v) ∉ valuesOf payload.length (payload.drop 1)) → Assoc.get? t.stored a =
            if u8At payload 0 = 1 ∧ s.stationScope a = true then none else Assoc.get? s.stored a)) ∧
        (type = 9 → payload.length = 8 → t.pair.sent = s.pair.sent.filter
            (fun e => decide (u64At payload 0 = 2 ^ 64 - 1) || decide (u64At payload 0 < e.seq)) ∧ t = { s with pair := t.pair }))

/-- R252, R257 to R259, R272, R275, R276: the sidebands and the link. An effective FENCE_IN stops links A and B and the CAN channels and asserts the
seam-fence source; its release lets them send again; the link reports UP with a new EPOCH and its HELLO, or REFUSED after a refusal; an undelivered
frame, or the loss of training, takes it down with nothing in flight, and it trains while there is a partner (the model's reading of TRAINING, log
entry 135); a refusal outlives a loss in which the partner stays present (R254). R254, Table 9-2, Table 9-11: a HELLO whose tag fails is refused with
code 1, one that fails a check with the code of the first that fails, each with its tally; one that passes, or comes after a retraining alone, pairs
the modules and records the partner. A module that has refused runs the checks again only for a start: the first HELLO after a retraining is none. By
the model's choice (log entry 22) a second HELLO in one epoch comes from a partner that has started again, and this module's own answers it; and one
of a partner that runs, in the epoch of the pairing, only brings its state up to date. -/
def Obligations.SeamLinkAndHello : Prop :=
  (∀ s : State,
     let rest := if s.pairEnabled = true ∧ s.pair.partnerPresent = true then 1 else 0
     (∃ t, exec .fenceIn s = .next t ∧ t.pair = { s.pair with fenceIn := true } ∧
       let effective := s.pairEnabled && !(s.roleHigh && s.pair.fenceOut)
       t.io = { s.io with fenced := effective } ∧ (effective = true → s.io.fenced = false → s.mode = .run → bit t.rst.cause 7 = true ∧
         (∃ l, (ResetSource.fence, l) ∈ t.rst.asserted) ∧ ∀ k : Fin 8, (t.chan k).tx = []) ∧
       bit (t.num Obj.sidebands) 1 = s.pairEnabled ∧ bit (t.num Obj.sidebands) 2 = effective) ∧
     (∃ t, exec .fenceInRelease s = .next t ∧ t = { s with pair := { s.pair with fenceIn := false }, io := { s.io with fenced := false }, dict := t.dict } ∧
       s.SameObjects t [Obj.sidebands] ∧ bit (t.num Obj.sidebands) 1 = false) ∧
     (∀ on, ∃ t, exec (.partnerPresentChange on) s = .next t ∧ t = { s with pair := { s.pair with partnerPresent := on }, dict := t.dict } ∧
       s.SameObjects t [Obj.sidebands, Obj.seamState] ∧ bit (t.num Obj.sidebands) 0 = (s.pairEnabled && on) ∧
       t.num Obj.seamState = (if s.num Obj.seamState < 2 ∧ s.mode.answers = true then (if s.pairEnabled = true ∧ on = true then 1 else 0)
         else s.num Obj.seamState)) ∧
     (s.pairEnabled = false ∨ s.mode = .off ∨ s.seamUp = true → exec .seamUp s = .next s) ∧
     (s.pairEnabled = true → s.mode ≠ .off → s.seamUp = false → ∃ t, exec .seamUp s = .next t ∧ t.pair.epoch = min (s.pair.epoch + 1) 0xFFFFFFFE ∧
       t.pair.rxNext = 0 ∧ t.pair.rxGot = [] ∧ t.pair.waiting = [] ∧ t.pair.helloEpoch = none ∧ t.num Obj.seamState = (if s.num Obj.seamRefusal = 0 then 2 else 3) ∧
       (s.num Obj.seamRefusal = 0 → s.mode.answers = true → ∀ key, s.seamKeyOf (s.started Obj.seamKeyId) = some key → t.pair.frameSeq = 1 ∧ ∃ b, t.out = s.out ++ [b]) ∧
       t.keys = { s.keys with seamInUse := s.seamKeyOf (s.started Obj.seamKeyId) } ∧
       t = { s with pair := t.pair, dict := t.dict, out := t.out, keys := t.keys }) ∧
     (s.seamUp = false ∨ (∀ e ∈ s.pair.sent, e.sends < 4) → exec .seamRetrain s = .next s) ∧
     (s.seamUp = true → (∃ e ∈ s.pair.sent, 4 ≤ e.sends) → ∃ t, exec .seamRetrain s = .next t ∧ t.num Obj.seamState = rest ∧ t.pair.sent = [] ∧
       t.pair.retrained = true ∧ t.paired = false ∧ t.mode = s.mode) ∧
     (s.num Obj.seamState < 2 → exec .seamLinkDown s = .next s) ∧
     (2 ≤ s.num Obj.seamState → ∃ t, exec .seamLinkDown s = .next t ∧ t.num Obj.seamState = rest ∧
       t.num Obj.seamRefusal = (if s.pair.partnerPresent then s.num Obj.seamRefusal else 0) ∧ t.pair.sent = [] ∧
       t.pair.retrained = s.pair.partnerPresent ∧ t.paired = false ∧ t.mode = s.mode)) ∧
  (∀ (s : State) (wire : List Byte), s.pairEnabled = true → s.mode.answers = true → s.num Obj.seamState = 2 ∨ s.num Obj.seamState = 3 →
     let heard := { s with pair := { s.pair with helloEpoch := some (u32At wire 4) } }
     let again := s.pair.helloEpoch = some (u32At wire 4)
     let answers := fun t : State => again → (s.sendingKey s.ownSerial).isSome = true → ∃ (b : List Byte) (more : List Sent), t.out = s.out ++ ⟨.seam, 0, 0, b, none⟩ :: more ∧ u8At b 0 = 1
     (s.num Obj.seamState = 3 → s.pair.retrained = true → ¬again → exec (.hello wire) s = .next heard) ∧
     (¬(s.num Obj.seamState = 3 ∧ s.pair.retrained = true ∧ ¬again) →
       ((s.sendingKey (slice wire 24 12)).bind (fun key => openFrame key false wire) = none → ∃ t, exec (.hello wire) s = .next t ∧
         t.num Obj.seamAuthFailures = s.counted Obj.seamAuthFailures 1 ∧ t.num Obj.seamState = 3 ∧ t.num Obj.seamRefusal = 1 ∧ t.paired = false ∧
         s.Wrote t 0x0604 [1, 0] ∧ answers t ∧ t.pair.helloEpoch = some (u32At wire 4) ∧
         t = { s with dict := t.dict, tally := t.tally, pair := t.pair, out := t.out } ∧ (¬again → t.out = s.out ∧ t.pair = heard.pair)) ∧
       ∀ h payload, (s.sendingKey (slice wire 24 12)).bind (fun key => openFrame key false wire) = some (h, payload) → u8At h 0 = 1 →
         (s.pair.has (u64At h 8) = true → exec (.hello wire) s = .next heard) ∧
         (s.pair.has (u64At h 8) = false → s.pair.has (u64At h 8 - u32At h 20) = true → ∃ t, exec (.hello wire) s = .next t ∧ t.dict = s.dict ∧
           t.pair.partner = s.pair.partner ∧ t.mode = s.mode) ∧
         (s.pair.has (u64At h 8) = false → s.pair.has (u64At h 8 - u32At h 20) = false →
           (s.refreshes (helloOf payload) (u32At h 4) = true →
             ∃ t, exec (.hello wire) s = .next t ∧ t.pair.partner = some (helloOf payload) ∧ t.paired = true ∧ t.mode = s.mode ∧ t.dict = s.dict) ∧
           (s.refreshes (helloOf payload) (u32At h 4) = false →
             (s.pairRefusal (helloOf payload) ≠ 0 → s.pairedBefore (helloOf payload) = false → ∃ t, exec (.hello wire) s = .next t ∧
               t.num Obj.seamState = 3 ∧ t.num Obj.seamRefusal = s.pairRefusal (helloOf payload) ∧ t.paired = false ∧
               s.Wrote t 0x0604 [s.pairRefusal (helloOf payload), (helloOf payload).moduleNode] ∧ t.pair.partner = s.pair.partner ∧ answers t ∧
               t.mode = s.mode) ∧
             (s.pairRefusal (helloOf payload) = 0 ∨ s.pairedBefore (helloOf payload) = true → s.mode ≠ .standby → ∃ t, exec (.hello wire) s = .next t ∧
               t.num Obj.seamState = 2 ∧ t.num Obj.seamRefusal = 0 ∧ t.paired = true ∧ t.num Obj.partnerNode = (helloOf payload).moduleNode ∧
               Assoc.get? t.stored Obj.partnerSerial = some (helloOf payload).serial ∧ t.pair.partner = some (helloOf payload) ∧
               t.pair.partnerEpoch = u32At h 4 ∧ s.Wrote t 0x0601 [(helloOf payload).moduleNode, u32At h 4] ∧ answers t ∧ t.mode = s.mode)))))

/-- R266, R268, R270, R274, Tables 9-8 and 9-12: at the guard check a tick without the partner's CLOSE is a miss, and the second in a row calls for a
decision, as does each later one on a DEGRADED standby that no longer sees its partner; a standby whose digest agrees has matched the tick, and one
whose digest does not is no longer SYNCED. The decision: a standby that sees its partner is DEGRADED, one that does not takes over if it is SYNCED and
leaves the pair if not; the active loses SYNCED, and fences a partner it does not see. R271, R272, R287, Table 9-7, Table 9-8: the presence frame
leaves on both ports with a new counter and the tag of its first 32 bytes, unless the module is fenced; a valid one gives the partner's state and is
no longer taken twice, and one that shows it not in RUN ends a DEGRADED standby. -/
def Obligations.HeartbeatAndPresence : Prop :=
  (∀ s : State,
     (s.inPair = false → exec .seamGuardCheck s = .next s ∧ exec .seamDecision s = .next s) ∧ (s.pair.deciding = false → exec .seamDecision s = .next s) ∧
     (s.inPair = true → (s.mode = .standby → s.wordsDiffer = none ∨ s.executes = false) →
       (∀ c, s.pair.heard = some c → c.tick ≠ s.tick) → ∃ t, exec .seamGuardCheck s = .next t ∧
       t.num Obj.heartbeatMisses = min 255 (s.num Obj.heartbeatMisses + 1) ∧ t.num Obj.heartbeatsMissed = s.counted Obj.heartbeatsMissed 1 ∧
       t.pair = { s.pair with deciding := decide (s.num Obj.heartbeatMisses = 1 ∨
         (2 ≤ s.num Obj.heartbeatMisses ∧ s.mode = .standby ∧ s.degraded = true ∧ s.visibleAt s.tick = false)) } ∧ t.mode = s.mode ∧ t.store = s.store) ∧
     (∀ c, s.inPair = true → s.pair.heard = some c → c.tick = s.tick → s.mode = .standby → s.executes = true → s.pair.joinAt = none →
       (c.digest = s.pair.digest → s.wordsDiffer = none → ∃ t, exec .seamGuardCheck s = .next t ∧ t.num Obj.heartbeatMisses = 0 ∧
         t.num Obj.lastMatchedTick = (s.tick - 1) % 2 ^ 64 ∧ t.synced = s.synced ∧ t.mode = .standby ∧ t.pair = s.pair) ∧
       (c.digest ≠ s.pair.digest ∨ s.wordsDiffer ≠ none → ∃ t, exec .seamGuardCheck s = .next t ∧ t.num Obj.heartbeatMisses = 0 ∧ t.synced = false ∧
         t.num Obj.digestMismatches = s.counted Obj.digestMismatches 1 ∧
         s.Wrote t 0x0603 [low32 (s.tick - 1), (s.wordsDiffer).getD 0xFFFFFFFF, 0, low32 s.pair.digest])) ∧
     (s.inPair = true → s.pair.deciding = true →
       (s.mode = .standby → s.visibleAt s.tick = true → s.degraded = false ∨ s.num Obj.heartbeatMisses = 2 → ∃ t, exec .seamDecision s = .next t ∧
         t.degraded = true ∧ t.synced = false ∧ t.num Obj.syncState = 0 ∧ t.pair.joinAt = none ∧ t.pair.deciding = false ∧ t.mode = .standby ∧
         s.Wrote t 0x0602 [low32 s.lastHeard, 1, Mode.code .standby, low32 s.tick]) ∧
       (s.mode = .standby → s.visibleAt s.tick = true → s.degraded = true → s.num Obj.heartbeatMisses ≠ 2 →
         exec .seamDecision s = .next { s with pair := { s.pair with deciding := false } }) ∧
       (s.mode = .standby → s.visibleAt s.tick = false → s.synced = true → s.degraded = false → ∃ t, exec .seamDecision s = .next t ∧
         t.pair.takeover = some (s.tick + 1) ∧ t.pair.takeoverH = s.lastHeard ∧ t.pair.fenceOut = true ∧ t.mode = .standby) ∧
       (s.mode = .standby → s.visibleAt s.tick = false → s.synced = false ∨ s.degraded = true → ∃ t, exec .seamDecision s = .next t ∧ t.mode = .ready ∧
         s.Wrote t 0x0606 []) ∧
       (s.mode = .run → ∃ t, exec .seamDecision s = .next t ∧ t.synced = false ∧ t.mode = .run ∧
         t.pair.fenceOut = (s.pair.fenceOut || !s.visibleAt s.tick) ∧
         s.Wrote t 0x0602 [low32 s.lastHeard, b2n (s.visibleAt s.tick), Mode.code .run, low32 s.tick]) ∧
       (s.mode ≠ .run → s.mode ≠ .standby → exec .seamDecision s = .next { s with pair := { s.pair with deciding := false } }))) ∧
  (∀ s : State,
     (s.pairEnabled = false ∨ s.mode.answers = false ∨ s.ticking = false ∨ s.io.fenced = true → exec .presenceFrameSend s = .next s) ∧
     (∀ key, s.pairEnabled = true → s.mode.answers = true → s.ticking = true → s.io.fenced = false → s.sendingKey s.ownSerial = some key →
       let counter := s.clp.startCount * 2 ^ 40 + s.pair.presenceSent + 1
       let body := s.presenceBody counter
       ∃ t, exec .presenceFrameSend s = .next t ∧ t.pair = { s.pair with presenceSent := s.pair.presenceSent + 1 } ∧
         t.prp = { s.prp with moduleSeq := (s.prp.moduleSeq + 1) % 65536 } ∧ (∃ more, t.out = s.out ++ more ∧ ∀ k < 2, s.portRate k ≠ 0 →
           (⟨.presence, k, 0, body ++ gcmTag key (presenceNonce counter) body [] ++
             rctBytes s.prp.moduleSeq k ((body ++ gcmTag key (presenceNonce counter) body []).length + 6),
             some (s.ethHead .presence false (some s.presenceMac) 0x88B5)⟩ : Sent) ∈ more) ∧
         t.mode = s.mode ∧ t.store = s.store) ∧
     (∀ (rx : NetRx) (payload : List Byte), (s.pairEnabled = false ∨ s.mode.answers = false → exec (.presenceFrameReceive rx payload) s = .next s) ∧
       (s.pairEnabled = true → s.mode.answers = true → ¬s.PresenceValid payload ∨ (s.prpTake rx).2 = false →
         exec (.presenceFrameReceive rx payload) s = .next (s.prpTake rx).1) ∧
       (s.pairEnabled = true → s.mode.answers = true → s.PresenceValid payload → (s.prpTake rx).2 = true →
         ∃ t, exec (.presenceFrameReceive rx payload) s = .next t ∧ t.pair.presenceSeen = u64At payload 16 ∧ t.pair.presenceTick = u64At payload 8 ∧
           t.num Obj.partnerState = u8At payload 24 ∧
           t.mode = (if s.mode = .standby ∧ s.degraded = true ∧ u8At payload 24 ≠ Mode.code .run then .ready else s.mode))))

/-- R278, R280, R284, R286: at its edge the standby takes the station over, its outputs at AO hold and its PRP sequence 4096 ahead, unless FENCE_IN is
effective; AO hold ends with the silence time of link B; a HANDOVER exchanges the roles of a SYNCED pair, and one without a SYNCED pair fails. One
that reaches the standby only with the weft of its boundary finds that tick without a weft of its own (the model's choice, log entry 137). -/
def Obligations.RolesChange : Prop :=
  ∀ s : State,
    (s.mode ≠ .standby ∨ s.pair.takeover ≠ some s.nextEdge ∨ s.fenceEffective = true → exec .takeover s = .next s) ∧
    (s.mode = .standby → s.pair.takeover = some s.nextEdge → s.fenceEffective = false → ∃ t, exec .takeover s = .next t ∧ t.mode = .run ∧
      t.roleActive = true ∧ t.synced = false ∧ t.pair.takeover = none ∧ t.io = { s.io with aoHold := true } ∧ t.pair.late = lateCycles s.pair.takeoverH ∧
      (∀ c, s.pair.heard = some c → ∃ n, t.prp.stationSeq = (c.prpSeq + 4096 + n) % 65536 ∧ n ≤ 1) ∧ t.store = s.store ∧
      t.num Obj.lastTakeoverTick = (s.pair.takeoverH + 3) % 2 ^ 64 ∧ t.num Obj.takeovers = s.counted Obj.takeovers 1 ∧
      s.Wrote t 0x0607 [low32 s.pair.takeoverH, low32 (s.pair.takeoverH + 3), s.pair.gaps, low32 (s.num Obj.lastMatchedTick)]) ∧
    (let ends := s.pair.takeoverH * 250000 + 406250 + 1000 * s.num (Obj.silenceTimeout 1) ≤ s.nextEdge * 250000;
      (s.io.aoHold = true → ends → exec .aoHoldEnd s = .next { s with io := { s.io with aoHold := false } }) ∧
      (s.io.aoHold = false ∨ ¬ends → exec .aoHoldEnd s = .next s)) ∧
    (∀ c : PendingCommand, s.command = some c →
      (c.code ≠ 5 ∨ s.due c.tick = false → exec .handoverBoundary s = .next s) ∧
      (c.code = 5 → s.due c.tick = true → s.mode = .run → s.synced = true → ∃ t, exec .handoverBoundary s = .next t ∧ t.mode = .standby ∧
        t.roleActive = false ∧ t.synced = true ∧ t.num Obj.syncState = 4 ∧ t.command = none ∧ t.store = s.store ∧ t.pair.fenceOut = false ∧
        t.pair.parting = s.pair.outgoing ∧ t.pair.outgoing = [] ∧
        (c.mirrored = false → t.num Obj.commandResult = 2)) ∧
      (c.code = 5 → s.due c.tick = true → s.mode = .standby → s.synced = true → s.pair.takeover = none → ∃ t, exec .handoverBoundary s = .next t ∧
        t.mode = .run ∧ t.roleActive = true ∧ t.synced = true ∧ t.command = none ∧ t.pair.commitFrom = c.tick + 1 ∧
        (c.tick ≠ s.tick ∨ s.ticking = false ∨ s.pair.placed = some s.tick → t.store = s.store)) ∧
      (c.code = 5 → s.due c.tick = true → ¬(s.mode = .run ∧ s.synced = true) →
        ¬(s.mode = .standby ∧ s.synced = true ∧ s.pair.takeover = none) → ∃ t, exec .handoverBoundary s = .next t ∧ t.mode = s.mode ∧
        t.command = none ∧ (c.mirrored = false → t.num Obj.commandResult = 3) ∧ t = { s with command := none, dict := t.dict }))

/-- R67, R292, R507, Table 10-1: a PTP message is ignored while PTP is not served, counted and dropped beyond 256 in a second, by another transport or
of another domain, and so is one of the delay mechanism that is not configured; one of another VLAN is discarded. R294, R295, R297, R302, Table 10-2:
an Announce enters its port's masters, and the first one, if better than the clock's own data set, makes its port SLAVE and its sender the grandmaster
and parent; when a port's Announces stop, its masters are forgotten, and without any the ports listen, or a master-capable clock that never had a
parent is the grandmaster. R101, R102, R297, R298, R300, R301: the judgement of the time port's offset. The first one is a step condition, held while
a warp runs; one beyond the threshold is refused, or permitted once where the re-step is armed; the 16th in a row below 1 us locks; a larger one
begins the count again. A two-step Sync waits for its Follow_Up. -/
def Obligations.PtpMessagesAreTaken : Prop :=
  (∀ (s : State) (p : NetPort) (m : PtpMsg) (a : PtpAnnounce) (tx : Nat) (i : Instr),
     i ∈ [Instr.sync p m, .followUp p m, .delayResp p m, .delayReq p m, .pdelayReq p m tx, .pdelayResp p m, .pdelayRespFollowUp p m, .announce p a] →
     (s.ptpOn = false → exec i s = .next s) ∧
     (s.ptpOn = true → s.vlanTakes m.vlan = false → s.vlanTakes a.vlan = false → ∃ t, exec i s = .next t ∧
       t.num Obj.framesDiscarded = s.counted Obj.framesDiscarded 1 ∧ t = { s with dict := t.dict, tally := t.tally, prp := t.prp }) ∧
     (s.ptpOn = true → s.vlanTakes m.vlan = true → s.vlanTakes a.vlan = true →
       256 ≤ (lastSecond s.localNs (s.ptpPort p).arrivals).length ∨ (m.udp ≠ s.ptpUdp ∧ a.udp ≠ s.ptpUdp) → ∃ t, exec i s = .next t ∧
       t.num Obj.ptpDiscarded = s.counted Obj.ptpDiscarded 1 ∧ t = { s with dict := t.dict, tally := t.tally, prp := t.prp }) ∧
     (s.PtpTakes p m.vlan m.udp → s.PtpTakes p a.vlan a.udp →
       (m.domain ≠ s.started Obj.ptpDomain → a.domain ≠ s.started Obj.ptpDomain → ∃ t, exec i s = .next t ∧
         t.num Obj.ptpDiscarded = s.counted Obj.ptpDiscarded 1 ∧ (t.ptpPort p).masters = (s.ptpPort p).masters ∧ t.timeNs = s.timeNs) ∧
       ((s.started Obj.ptpDelayMechanism = 1 ∧ i ∈ [Instr.pdelayReq p m tx, .pdelayResp p m, .pdelayRespFollowUp p m]) ∨
         (s.started Obj.ptpDelayMechanism ≠ 1 ∧ i ∈ [Instr.delayResp p m, .delayReq p m]) → ∃ t, exec i s = .next t ∧
           t.num Obj.ptpDiscarded = s.counted Obj.ptpDiscarded 1 ∧ t.out = s.out))) ∧
  (∀ (s : State) (p : NetPort) (m : PtpAnnounce),
     (s.PtpTakes p m.vlan m.udp → m.domain = s.started Obj.ptpDomain → m.timescale = true → ∃ t, exec (.announce p m) s = .next t ∧
       (t.ptpPort p).masters = (s.ptpPort p).masters.filter (fun y => y.source ≠ m.source) ++ [m] ∧
       (s.masterCapable = false → lexLt s.ownKey (announceKey m) = false → (s.ptpPort p).masters = [] → (s.ptpPort (otherPort p)).masters = [] →
         t.num (Obj.portState (portNo p)) = 9 ∧ t.num (Obj.portState (portNo (otherPort p))) = 4 ∧ t.obj Obj.grandmasterIdentity = beBytes 8 m.grandmaster.toNat ∧
         t.obj Obj.parentIdentity = beBytes 10 m.source.toNat ∧ t.num Obj.utcOffset = m.utcOffset.toNat ∧
         (s.shadowTime = false → s.timeStateIs .noParent = true → t.timeStateIs .locking = true))) ∧
     (s.ptpOn = false → exec (.announceTimeout p) s = .next s) ∧
     (s.ptpOn = true → ∃ t, exec (.announceTimeout p) s = .next t ∧ (t.ptpPort p).masters = [] ∧
       t.num (Obj.announceTimeouts (portNo p)) = s.counted (Obj.announceTimeouts (portNo p)) 1 ∧
       ((s.ptpPort (otherPort p)).masters = [] → s.masterCapable = false → s.num Obj.tickSource = 3 → s.shadowTime = false →
         s.timeStateIs .grandmaster = false → t.num (Obj.portState 0) = 4 ∧ t.num (Obj.portState 1) = 4 ∧ t.timeStateIs .noParent = true) ∧
       ((s.ptpPort (otherPort p)).masters = [] → s.masterCapable = true → s.time.hadParent = false → s.timeStateIs .grandmaster = false →
         t.num (Obj.portState 0) = 6 ∧ t.num (Obj.portState 1) = 6 ∧ t.obj Obj.grandmasterIdentity = beBytes 8 s.clockIdentity ∧
         t.num Obj.tickSource = 0 ∧ t.timeStateIs .grandmaster = true))) ∧
  (∀ (s : State) (p : NetPort) (m : PtpMsg),
     (s.JudgesSync p m →
       let off := s.syncOffset p m
       ∃ t, exec (.sync p m) s = .next t ∧ t.num (Obj.syncReceived (portNo p)) = s.counted (Obj.syncReceived (portNo p)) 1 ∧
         t.num (Obj.portOffset (portNo p)) = ofSigned 64 off ∧ t.num Obj.offsetFromMaster = ofSigned 64 off ∧ t.timeNs = s.timeNs ∧
         (s.time.firstDone = false → t.time.step = some (.first, -off) ∧ (s.mode.running = true → t.flag Obj.stepHeld = true)) ∧
         (s.time.firstDone = true → s.time.step = none → s.num Obj.jumpThreshold < off.natAbs →
           (s.flag Obj.reStepArmed = true → t.time.step = some (.permit, -off) ∧ t.flag Obj.reStepArmed = false) ∧
           (s.flag Obj.reStepArmed = false → t.num Obj.refusedOffset = ofSigned 64 off ∧ t.timeStateIs .jumpRefused = true ∧ t.time.step = none ∧
             (s.timeStateIs .jumpRefused = false → t.num Obj.jumpsRefused = s.counted Obj.jumpsRefused 1 ∧ s.Wrote t 0x0804 []))) ∧
         (s.time.firstDone = true → s.time.step = none → off.natAbs ≤ s.num Obj.jumpThreshold → t.time.step = none ∧
           (1000 ≤ off.natAbs → t.time.below = 0 ∧ t.num Obj.tickSource = s.num Obj.tickSource) ∧
           (off.natAbs < 1000 → t.time.below = s.time.below + 1 ∧ (15 ≤ s.time.below → t.num Obj.tickSource = 0 ∧
             (s.num Obj.tickSource ≠ 0 → t.timeStateIs .locked = true ∧ s.Wrote t 0x0802 []))))) ∧
     (s.PtpTakes p m.vlan m.udp → s.wrongDomain m = false → s.fromParent p m = true → m.twoStep = true → ∃ t, exec (.sync p m) s = .next t ∧
       (t.ptpPort p).sync = some (m.seq.toNat, m.rxNs, m.corr) ∧ t.num (Obj.portOffset (portNo p)) = s.num (Obj.portOffset (portNo p))) ∧
     (∀ rx corr, s.PtpTakes p m.vlan m.udp → s.wrongDomain m = false → s.fromParent p m = true → (s.ptpPort p).sync = some (m.seq.toNat, rx, corr) →
       ∃ t, exec (.followUp p m) s = .next t ∧ (t.ptpPort p).sync = none ∧ t.num (Obj.portOffset (portNo p)) =
         ofSigned 64 ((rx : Int) - ptpStampNs m - corrNs (corr + m.corr) - s.pathDelay p - s.asymmetry p)))

/-- R293, R295, Table 10-1: the path delay of each mechanism, from the four stamps of its exchange; a negative one reads 0; and it is the clock's
where the port is the time port. R292, R293, Table 10-1: what the clock sends, on Layer 2 or over UDP, to the group of its delay mechanism. A master
answers delay requests and sends Sync with Follow_Up and Announce with numbers in sequence; a slave, or with peer delay any port, asks for the delay;
nothing else changes but PRP numbers and counters. -/
def Obligations.PtpDelaysAndMessages : Prop :=
  (∀ (s : State) (p : NetPort) (m : PtpMsg) (sent : Nat), s.PtpTakes p m.vlan m.udp → s.wrongDomain m = false → m.requesting.toNat = s.portIdentity p →
     (s.ptpPort p).request = some (m.seq.toNat, sent) →
     (∀ delta : Int, s.endToEnd = true → s.fromParent p m = true → (s.ptpPort p).syncDelta = some delta → ∃ t, exec (.delayResp p m) s = .next t ∧
       t.num (Obj.portPathDelay (portNo p)) = ((delta + ((ptpStampNs m : Int) - sent - corrNs m.corr)) / 2).toNat % 2 ^ 32 ∧ (t.ptpPort p).request = none ∧
       (s.num Obj.timePort = portNo p → t.num Obj.meanPathDelay = t.num (Obj.portPathDelay (portNo p)))) ∧
     (s.endToEnd = false → m.twoStep = false → ∃ t, exec (.pdelayResp p m) s = .next t ∧
       t.num (Obj.portPathDelay (portNo p)) = (((m.rxNs : Int) - sent - corrNs m.corr) / 2).toNat % 2 ^ 32 ∧ (t.ptpPort p).request = none ∧
       (s.num Obj.timePort = portNo p → t.num Obj.meanPathDelay = t.num (Obj.portPathDelay (portNo p)))) ∧
     (s.endToEnd = false → m.twoStep = true → ∃ t, exec (.pdelayResp p m) s = .next t ∧ (t.ptpPort p).peer = some (ptpStampNs m, m.rxNs, m.corr) ∧
       t.num (Obj.portPathDelay (portNo p)) = s.num (Obj.portPathDelay (portNo p))) ∧
     (∀ (taken back : Nat) (corr : Int), s.endToEnd = false → (s.ptpPort p).peer = some (taken, back, corr) → ∃ t, exec (.pdelayRespFollowUp p m) s = .next t ∧
       t.num (Obj.portPathDelay (portNo p)) =
         ((((back : Int) - sent) - ((ptpStampNs m : Int) - taken) - corrNs (corr + m.corr)) / 2).toNat % 2 ^ 32 ∧ (t.ptpPort p).request = none)) ∧
  (∀ (s : State) (p : NetPort) (m : PtpMsg) (tx : Nat), s.ptpOn = true →
     (s.portIs p portMaster = false → exec (.ptpTransmit p .sync tx) s = .next s ∧ exec (.ptpTransmit p .announce tx) s = .next s) ∧
     (s.endToEnd = true → s.portIs p portSlave = false → exec (.ptpTransmit p .delay tx) s = .next s) ∧
     (s.portRate (portNo p) ≠ 0 →
       (s.portIs p portMaster = true →
         (∃ t a b, exec (.ptpTransmit p .sync tx) s = .next t ∧ t.out = s.out ++ [a, b] ∧ s.PtpLeft p true 0 a ∧ s.PtpLeft p false 8 b ∧
           slice b.data 34 10 = ptpStamp tx ∧ (t.ptpPort p).nextSync = ((s.ptpPort p).nextSync + 1) % 65536 ∧ s.PtpOnly t) ∧
         (∃ t a, exec (.ptpTransmit p .announce tx) s = .next t ∧ t.out = s.out ++ [a] ∧ s.PtpLeft p false 0x0B a ∧
           slice a.data 53 8 = beBytes 8 s.clockIdentity ∧ (t.ptpPort p).nextAnnounce = ((s.ptpPort p).nextAnnounce + 1) % 65536 ∧ s.PtpOnly t) ∧
         (s.PtpTakes p m.vlan m.udp → s.wrongDomain m = false → s.endToEnd = true → ∃ t a, exec (.delayReq p m) s = .next t ∧ t.out = s.out ++ [a] ∧
           s.PtpLeft p false 9 a ∧ slice a.data 34 10 = ptpStamp m.rxNs ∧ slice a.data 44 10 = beBytes 10 m.source.toNat ∧ s.PtpOnly t)) ∧
       (s.endToEnd = false ∨ s.portIs p portSlave = true → ∃ t a, exec (.ptpTransmit p .delay tx) s = .next t ∧ t.out = s.out ++ [a] ∧
         s.PtpLeft p true (if s.endToEnd = true then 1 else 2) a ∧ (t.ptpPort p).request = some ((s.ptpPort p).nextRequest, tx) ∧
         (t.ptpPort p).nextRequest = ((s.ptpPort p).nextRequest + 1) % 65536 ∧ s.PtpOnly t) ∧
       (s.PtpTakes p m.vlan m.udp → s.wrongDomain m = false → s.endToEnd = false → ∃ t a b, exec (.pdelayReq p m tx) s = .next t ∧
         t.out = s.out ++ [a, b] ∧ s.PtpLeft p true 3 a ∧ s.PtpLeft p false 0x0A b ∧ slice a.data 34 10 = ptpStamp m.rxNs ∧
         slice b.data 34 10 = ptpStamp tx ∧ s.PtpOnly t)))

/-- R102, R130, R296, R297, R299, R308, R310, R311, Table 10-3: holdover begins without valid offsets; the time port changes to the other port of the
same grandmaster; a step moves time, the real-time counter and the numbering, or is held in RUN and STANDBY, and in a HOLD entered with it; while
locked the real-time counter takes the time; PPS edges are stamped. -/
def Obligations.TimeUnitActs : Prop :=
  ∀ (s : State) (p : NetPort) (ns : Nat),
    (s.shadowTime = true ∨ s.num Obj.tickSource ≠ 0 ∨ s.timeStateIs .grandmaster = true ∨ (∃ q, s.offsetSilent q (s.num Obj.holdoverEntry * 1000000) = false) → exec .holdoverEntry s = .next s) ∧
    (s.shadowTime = false → s.num Obj.tickSource = 0 → s.timeStateIs .grandmaster = false →
      (∀ q, s.offsetSilent q (s.num Obj.holdoverEntry * 1000000) = true) → ∃ t, exec .holdoverEntry s = .next t ∧
      t.num Obj.tickSource = s.localSource ∧ t.holdover = true ∧ t.timeStateIs .holdover = true ∧ t.obj Obj.holdoverSince = time96 s.timeNs ∧
      t.num Obj.holdoverEntries = s.counted Obj.holdoverEntries 1 ∧ s.Wrote t 0x0801 [] ∧ t.mode = s.mode) ∧
    (s.shadowTime = true ∨ s.num Obj.timePort = 0xFF ∨ (s.num Obj.timePort = portNo p ∧ s.offsetSilent p (s.threeSyncs p) = false) →
      exec .timePortSwitch s = .next s) ∧
    (∀ g, s.shadowTime = false → s.num Obj.timePort = portNo p → s.offsetSilent p (s.threeSyncs p) = true → s.portIs (otherPort p) portSlave = true →
      bestMaster (s.ptpPort (otherPort p)).masters = some g → g.grandmaster.toNat = beNat (s.obj Obj.grandmasterIdentity) →
      ∃ t, exec .timePortSwitch s = .next t ∧ t.num Obj.timePort = portNo (otherPort p) ∧
        t.num Obj.offsetFromMaster = ofSigned 64 (toSigned 64 (s.num (Obj.portOffset (portNo (otherPort p))))) ∧
        (s.time.firstDone = false → t = { s with dict := t.dict })) ∧
    (s.time.step = none → exec .timeStepped s = .next s) ∧
    (∀ k d, s.time.step = some (k, d) →
      (s.mode.running = true ∨ (s.mode = .hold ∧ s.flag Obj.stepHeld = true) → ∃ t, exec .timeStepped s = .next t ∧ t.flag Obj.stepHeld = true ∧ t = { s with dict := t.dict }) ∧
      (s.mode.running = false → (s.mode = .hold → s.flag Obj.stepHeld = false) → ∃ t, exec .timeStepped s = .next t ∧ t.timeNs = ((s.timeNs : Int) + d).toNat ∧ t.rtcNs = t.timeNs ∧ t.time.step = none ∧
        t.nextEdge = s.edgeAfter t.timeNs ∧ t.flag Obj.stepHeld = false ∧ t.num Obj.steps = s.counted Obj.steps 1 ∧ (k = .first → t.time.firstDone = true) ∧
        s.Wrote t 0x0803 [low32 s.tick, low32 t.nextEdge, satI32 (Int.tdiv d 1000)] ∧ t.mode = s.mode ∧ t.localNs = s.localNs)) ∧
    (s.num Obj.tickSource = 0 → exec .rtcUpdate s = .next { s with rtcNs := s.timeNs }) ∧ (s.num Obj.tickSource ≠ 0 → exec .rtcUpdate s = .next s) ∧
    (s.flag Obj.ppsInEnable = false → exec (.ppsInEdge ns) s = .next s) ∧
    (∀ t0, s.flag Obj.ppsInEnable = true → s.time.ppsInAt = some t0 → ns < t0 + 900000000 → ∃ t, exec (.ppsInEdge ns) s = .next t ∧
      t.num Obj.ppsInGlitches = s.counted Obj.ppsInGlitches 1 ∧ t.obj Obj.ppsInLast = s.obj Obj.ppsInLast) ∧
    (s.flag Obj.ppsInEnable = true → (∀ t0, s.time.ppsInAt = some t0 → t0 + 900000000 ≤ ns) → ∃ t, exec (.ppsInEdge ns) s = .next t ∧
      t.obj Obj.ppsInLast = s.stampRecord ns 1 ∧ t.num Obj.ppsInOffset =
        ofSigned 32 (if ns % 1000000000 < 500000000 then (ns % 1000000000 : Nat) else ((ns % 1000000000 : Nat) : Int) - 1000000000) ∧
      s.SameObjects t [Obj.ppsInLast, Obj.ppsInOffset]) ∧
    (exec .ppsOutEnd s = .next (if s.time.ppsOut then { s with time := { s.time with ppsOut := false }, out := s.out ++ [⟨.pps, 0, 0, [0], none⟩] } else s))

/-- R322, R323, R325, R331: a receiving channel counts a frame; the entry with the lowest buffer whose identifier matches, and whose DLC agrees, takes
it: its slot, and its buffer with NEW set, or the shadow while the buffer is locked. A frame that no entry and no host filter names is counted
UNMATCHED; an error counts; a remote frame and a protocol exception store nothing. The error counter moves as ISO 11898-1 has it (PRESUMED, log entry
49). R325: a host read of a buffer's first word locks it, and one of its last word releases it; a lock of 100 µs is released by the block and counted;
a shadow moves in with NEW set at the release. R332: during detection the eighth consecutive good frame declares the rates in position, while a
channel that receives takes its frames like any other (R322), an error moves on to the next rates, 1 s without a valid frame to the next nominal rate,
and 60 s without a declaration end it with no result. -/
def Obligations.CanReception : Prop :=
  (∀ (s : State) (k : Fin 8) (f : CanFrame), (s.chan k).detect = none → s.canReceives k.val = true →
     let named := (s.channelRx k.val).filter fun e => identMatches e.ident e.mask f.ident.toNat
     let errors := s.num (Obj.rxErrorCount k.val)
     let relieved := fun t : State => (errors ≤ 127 → t.num (Obj.rxErrorCount k.val) = errors - 1) ∧
       (127 < errors → 119 ≤ t.num (Obj.rxErrorCount k.val) ∧ t.num (Obj.rxErrorCount k.val) ≤ 127)
     (∀ e, named.find? (fun e => decide (e.dlc = f.dlc.val)) = some e → ∃ t, exec (.canFrameReceive k (.frame f)) s = .next t ∧
       t.num (Obj.rxFramesCan k.val) = s.counted (Obj.rxFramesCan k.val) 1 ∧
       Assoc.get? t.can.slots e.number = some ⟨f, true⟩ ∧
       (let old := Assoc.getD (s.chan k).rx e.buffer blankCanBuffer
        Assoc.getD (t.chan k).rx e.buffer blankCanBuffer =
          if old.locked then { old with shadow := some f } else { old with frame := some f, isNew := true }) ∧
       relieved t ∧ (∀ j, j ≠ k → t.chan j = s.chan j) ∧ t = { s with dict := t.dict, tally := t.tally, can := t.can, freeCount := t.freeCount }) ∧
     (named = [] → (∀ b < 64, s.obj (Obj.canHostFilter k.val b) = zeros 8) → ∃ t, exec (.canFrameReceive k (.frame f)) s = .next t ∧
       t.num (Obj.unmatched k.val) = s.counted (Obj.unmatched k.val) 1 ∧ t.can = s.can ∧ relieved t ∧
       t = { s with dict := t.dict, tally := t.tally, freeCount := t.freeCount }) ∧
     (named ≠ [] → named.find? (fun e => decide (e.dlc = f.dlc.val)) = none → ∃ t, exec (.canFrameReceive k (.frame f)) s = .next t ∧
       t.num (Obj.dlcMismatch k.val) = s.counted (Obj.dlcMismatch k.val) 1 ∧ t.can = s.can ∧ relieved t) ∧
     (∀ data dominant, ∃ t, exec (.canFrameReceive k (.error data dominant)) s = .next t ∧
       t.num (Obj.errorFrames k.val) = s.counted (Obj.errorFrames k.val) 1 ∧
       t.num (Obj.rxErrorCount k.val) = min 255 (errors + if dominant then 9 else 1) ∧ t = { s with dict := t.dict, tally := t.tally }) ∧
     (∃ t, exec (.canFrameReceive k .flagError) s = .next t ∧ t.num (Obj.rxErrorCount k.val) = min 255 (errors + 8) ∧ t = { s with dict := t.dict }) ∧
     (∃ t, exec (.canFrameReceive k .remote) s = .next t ∧ relieved t ∧ t = { s with dict := t.dict, freeCount := t.freeCount }) ∧
     exec (.canFrameReceive k .protocolException) s = .next s) ∧
  (∀ (s : State) (k : Fin 8) (b : Fin 64) (x : CanBuffer), Assoc.get? (s.chan k).rx b.val = some x →
     (∃ t, exec (.canRxBufferRead k b 0) s = .next t ∧ Assoc.get? (t.chan k).rx b.val = some { x with locked := true } ∧
       (∀ j, j ≠ k → t.chan j = s.chan j) ∧ t = { s with can := t.can }) ∧
     (x.locked = true →
       (∃ t, exec (.canRxBufferRead k b 19) s = .next t ∧ Assoc.get? (t.chan k).rx b.val =
         some (match x.shadow with | some f => ⟨some f, true, false, none⟩ | none => { x with locked := false, isNew := false }) ∧
         t = { s with can := t.can }) ∧
       ∃ t, exec (.lockExpiry k b) s = .next t ∧ Assoc.get? (t.chan k).rx b.val =
         some (match x.shadow with | some f => ⟨some f, true, false, none⟩ | none => { x with locked := false }) ∧
         t.num (Obj.lockExpired k.val) = s.counted (Obj.lockExpired k.val) 1 ∧ t = { s with dict := t.dict, tally := t.tally, can := t.can }) ∧
     (∀ w : Fin 20, w ≠ 0 → w ≠ 19 → exec (.canRxBufferRead k b w) s = .next s)) ∧
  (∀ (s : State) (k : Fin 8) (d : CanDetect) (f : CanFrame), (s.chan k).detect = some d → d.nominal < 4 → d.data < 3 →
     (7 ≤ d.good → ∃ t, exec (.canFrameReceive k (.frame f)) s = .next t ∧ (t.chan k).detect = none ∧ t.num (Obj.detectResult k.val) = 2 ∧
       t.num (Obj.detectedNominal k.val) = (detectNominalRates[d.nominal]?).getD 0 ∧
       t.num (Obj.detectedData k.val) = (if d.brs = true ∨ bit f.ident.toNat 31 = true then (detectDataRates[d.data]?).getD 0 else 0) ∧
       t.num (Obj.rxFramesCan k.val) = (if s.canReceives k.val then s.counted (Obj.rxFramesCan k.val) 1 else s.num (Obj.rxFramesCan k.val)) ∧
       t = { s with dict := t.dict, tally := t.tally, can := t.can }) ∧
     (d.good < 7 → ∃ t, exec (.canFrameReceive k (.frame f)) s = .next t ∧
       (t.chan k).detect = some { d with good := d.good + 1, brs := d.brs || bit f.ident.toNat 31 } ∧
       t.num (Obj.rxFramesCan k.val) = (if s.canReceives k.val then s.counted (Obj.rxFramesCan k.val) 1 else s.num (Obj.rxFramesCan k.val)) ∧
       t = { s with dict := t.dict, tally := t.tally, can := t.can }) ∧
     (∀ dominant, ∃ t, exec (.canFrameReceive k (.error false dominant)) s = .next t ∧ (t.chan k).detect = some ⟨(d.nominal + 1) % 4, 0, 0, false⟩ ∧ t = { s with can := t.can }) ∧
     (∃ t, exec (.detectTimeout k false) s = .next t ∧ (t.chan k).detect = some ⟨(d.nominal + 1) % 4, 0, 0, false⟩ ∧ t = { s with can := t.can }) ∧
     ∃ t, exec (.detectTimeout k true) s = .next t ∧ (t.chan k).detect = none ∧ t.num (Obj.detectResult k.val) = 3 ∧ t = { s with dict := t.dict, can := t.can })

/-- R326 to R328: a channel that may transmit offers the frame that wins arbitration, of equal ones the lower buffer's; a buffer that has sent its
frame takes the content that waits; one that lost arbitration or met an error is sent again with the newest content, but outside RUN (log entry 51)
not at all, and the error counter moves as ISO 11898-1 has it (PRESUMED, log entry 49); a channel that may not transmit starts nothing. R329: a
channel that takes part reaches bus-off with its count and tally, nothing of it on the bus any more and its waiting buffers kept; its recovery, asked
for by AutoRecover or a write to Recover, ends error-active with both error counters 0, and without being asked for nothing changes. -/
def Obligations.CanTransmission : Prop :=
  (∀ (s : State) (k : Fin 8) (b : Fin 32) (x : CanTxBuffer) (f : CanFrame), Assoc.get? (s.chan k).tx b.val = some x → x.frame = some f →
     let again := if s.mode = .run then some (x.waiting.getD f) else none
     let spared := fun why : TxFailure => why = .arbitrationStuff ∨ (why = .noAck ∧ s.num (Obj.canState k.val) = canErrorPassive)
     (∀ best, (s.chan k).offered = some best → ∀ e ∈ (s.chan k).tx, e.2.started = false ∧ ∀ g, e.2.frame = some g →
       ∃ y h, (best, y) ∈ (s.chan k).tx ∧ y.frame = some h ∧ (arbitration h.ident.toNat < arbitration g.ident.toNat ∨
         (arbitration h.ident.toNat = arbitration g.ident.toNat ∧ best ≤ e.1))) ∧
     (∀ sof, (s.chan k).offered = some b.val → s.canTransmits k.val = true → ∃ t, exec (.canFrameTransmitted k b (.started sof)) s = .next t ∧
       Assoc.get? (t.chan k).tx b.val = some { x with
         started := true
         frame := some { f with esi := bit f.ident.toNat 30 && decide (s.num (Obj.canState k.val) = canErrorPassive) } } ∧
       (∀ j, j ≠ k → t.chan j = s.chan j) ∧ t = { s with can := t.can }) ∧
     (∀ sof, s.canTransmits k.val = false ∨ (s.chan k).offered ≠ some b.val → exec (.canFrameTransmitted k b (.started sof)) s = .next s) ∧
     (s.mode ≠ .run ∨ s.io.fenced = true → s.canTransmits k.val = false) ∧
     (x.started = true →
       (∃ t, exec (.canFrameTransmitted k b .sent) s = .next t ∧ Assoc.get? (t.chan k).tx b.val = some ⟨x.waiting, false, none⟩ ∧
         t.num (Obj.txFramesCan k.val) = s.counted (Obj.txFramesCan k.val) 1 ∧ t.out = s.out ++ [⟨.can, k.val + 1, 0, canWire f, none⟩] ∧
         t = { s with dict := t.dict, tally := t.tally, can := t.can, out := t.out }) ∧
       (∃ t, exec (.canFrameTransmitted k b .lost) s = .next t ∧ Assoc.get? (t.chan k).tx b.val = some ⟨again, false, none⟩ ∧ t = { s with can := t.can }) ∧
       ∀ why, ∃ t, exec (.canFrameTransmitted k b (.failed why)) s = .next t ∧ Assoc.get? (t.chan k).tx b.val = some ⟨again, false, none⟩ ∧
         t.num (Obj.errorFrames k.val) = s.counted (Obj.errorFrames k.val) 1 ∧
         t.num (Obj.txErrorCount k.val) = (if spared why then s.num (Obj.txErrorCount k.val)
           else min 255 (s.num (Obj.txErrorCount k.val) + 8)) ∧
         (¬spared why → 255 < s.num (Obj.txErrorCount k.val) + 8 →
           (t.chan k).busOff = true ∧ t.num (Obj.canState k.val) = canBusOffState ∧ s.Wrote t 0x0902 [k.val + 1]) ∧
         t = { s with dict := t.dict, tally := t.tally, can := t.can }) ∧
     (s.canTakesPart k.val = false → exec (.canFrameTransmitted k b .flagError) s = .next s) ∧
     (s.canTakesPart k.val = true → s.num (Obj.txErrorCount k.val) < 248 → ∃ t, exec (.canFrameTransmitted k b .flagError) s = .next t ∧
       t.num (Obj.txErrorCount k.val) = s.num (Obj.txErrorCount k.val) + 8 ∧ t = { s with dict := t.dict })) ∧
  (∀ (s : State) (k : Fin 8),
     (s.num (Obj.canState k.val) = canErrorActive ∨ s.num (Obj.canState k.val) = canErrorPassive → ∃ t, exec (.canBusOff k) s = .next t ∧
       t.num (Obj.canState k.val) = canBusOffState ∧ t.num (Obj.busOffEntries k.val) = s.counted (Obj.busOffEntries k.val) 1 ∧
       s.Wrote t 0x0902 [k.val + 1] ∧ t.num (Obj.txErrorCount k.val) = 255 ∧
       s.SameObjects t ([Obj.canState k.val, Obj.txErrorCount k.val, Obj.busOffEntries k.val, overflowAddr (Obj.busOffEntries k.val)] ++ tallyObjects) ∧
       (t.chan k).busOff = true ∧ (∀ e ∈ (t.chan k).tx, e.2.started = false) ∧
       (∀ b x, Assoc.get? (s.chan k).tx b = some x → x.started = false → Assoc.get? (t.chan k).tx b = some x) ∧
       (∀ j, j ≠ k → t.chan j = s.chan j) ∧ t = { s with dict := t.dict, tally := t.tally, can := t.can }) ∧
     (s.num (Obj.canState k.val) = canBusOffState → s.canRecovering k.val = true → ∃ t, exec (.canBusOn k) s = .next t ∧
       t.num (Obj.txErrorCount k.val) = 0 ∧ t.num (Obj.rxErrorCount k.val) = 0 ∧ t.num (Obj.recover k.val) = 0 ∧ s.Wrote t 0x0903 [k.val + 1] ∧
       (s.mode = .run → u8At (s.obj Obj.domainSources) 4 = 0 → s.flag (Obj.canEnable k.val) = true → (s.chan k).mismatch = false →
         t.num (Obj.canState k.val) = canErrorActive) ∧ (t.chan k).busOff = false ∧ (∀ j, j ≠ k → t.chan j = s.chan j) ∧
       t = { s with dict := t.dict, tally := t.tally, can := t.can }) ∧
     (s.canRecovering k.val = false → exec (.canBusOn k) s = .next s))

/-- R113, R336, R338 to R341, R276: while the links send, the logic side sends a frame of group A or B in its slot: with the tick's number, in slot 3
of the next edge, its MODE, the image and up to 16 configuration objects, and a CRC; no other group's link changes. A discarded staging sends no
commit frame (R133), and link B without its clock sends nothing (R442). The island's frames count its own periods (R381). -/
def Obligations.BarrierFrameLeaves : Prop :=
  ∀ (s : State) (g : Group) (slot : Fin 4) (room : Nat),
    (g ≠ .c → s.linksSend = true → s.linkStands g = false → (slot = 3 → s.eng.discard = false) → ∃ t b as,
      exec (.barrierFrameSend g slot room) s = .next t ∧ as.length ≤ 16 ∧
      b = barrierFrame (s.link g).txSeq (slot.val + 4 * s.outputMode (slot = 3) + (if slot = 3 then 16 else 0))
        ((if slot = 3 then s.nextEdge else s.tick) % 65536) 0
        ((if slot = 3 then s.stagedImage g else fit (imageSize g) (s.link g).image) ++ s.configBlock as) ∧
      barrierCrcOk b = true ∧ Assoc.get? (t.link g).sent slot.val = some b ∧ (t.link g).txSeq = ((s.link g).txSeq + 1) % 256 ∧
      (slot = 3 → (t.link g).image = s.stagedImage g) ∧ (∀ h, h ≠ g → t.link h = s.link h) ∧ (s.out ++ [⟨.barrier, groupIx g, 0, b, none⟩]) <+: t.out ∧
      (g = .a ∨ s.seamServes = false ∨ s.paired = false →
        t = { s with out := s.out ++ [⟨.barrier, groupIx g, 0, b, none⟩], io := { s.io with links := t.io.links } })) ∧
    (g ≠ .c → s.eng.discard = true → s.mode ≠ .run → exec (.barrierFrameSend g 3 room) s = .next s) ∧
    (s.linkStands g = true → s.seamServes = false → exec (.barrierFrameSend g slot room) s = .next s) ∧
    (s.island.linkStopped = true → exec (.barrierFrameSend .c slot room) s = .next s) ∧
    (s.island.linkStopped = false → ∃ t b, exec (.barrierFrameSend .c slot room) s = .next t ∧ bit (u8At b 1) 4 = decide (slot = 3) ∧
      t.island.frame = s.island.frame + (if slot = 3 then 1 else 0) ∧ u16At b 2 = t.island.frame % 65536 ∧ barrierCrcOk b = true ∧
      t = { s with out := s.out ++ [⟨.barrier, 2, 0, b, none⟩], io := { s.io with links := t.io.links }, island := { s.island with frame := t.island.frame } })

/-- R338: a frame that reaches a running field side of group A or B with a bad CRC is counted and dropped, and so, uncounted, is one whose SEQ is not
newer than the last accepted; an accepted one, as the first after a restart is, sets the SEQ, and the frames that it skipped are counted. R338, R343,
R344, R353: a field-to-logic frame with a bad CRC is counted and dropped, one whose SEQ is not newer is dropped, an accepted one, as the first of a
restarted side is, sets the SEQ, and the slot-0 frame of the coming edge delivers its snapshot with the supply, epoch and link state that it reports.
The island takes the frames of link C too (R381). R309, R340, R343: at an edge a running field side applies the commit frame that names the edge;
without it the outputs keep their state, and the next slot-0 frame says COMMIT_MISSED; while frames are held, nothing is applied, and an edge that no
commit frame names is missed too. Nothing that was stored is kept for a later edge. -/
def Obligations.BarrierFramesAreTaken : Prop :=
  (∀ (s : State) (g : Group) (slot : Fin 4) (b : Bytes), g ≠ .c → (s.side g).running = true →
     (barrierCrcOk b = false → ∃ t, exec (.barrierFrameReceive true g slot (some b)) s = .next t ∧ (t.side g).good = 0 ∧
       t.num (Obj.crcErrors (groupIx g)) = s.counted (Obj.crcErrors (groupIx g)) 1 ∧ (t.side g).rxSeq = (s.side g).rxSeq) ∧
     (∀ q, barrierCrcOk b = true → (s.side g).rxSeq = some q → newerBits 8 (u8At b 0) q = false →
       exec (.barrierFrameReceive true g slot (some b)) s = .next s) ∧
     (barrierCrcOk b = true → (∀ q, (s.side g).rxSeq = some q → newerBits 8 (u8At b 0) q = true) →
       ∃ t, exec (.barrierFrameReceive true g slot (some b)) s = .next t ∧ t.side g = (s.side g).take g b ∧ (t.side g).rxSeq = some (u8At b 0) ∧
         (∀ q, (s.side g).rxSeq = some q → 1 < (u8At b 0 + 256 - q) % 256 →
           t.num (Obj.sequenceGaps (groupIx g)) = s.counted (Obj.sequenceGaps (groupIx g)) ((u8At b 0 + 256 - q) % 256 - 1)) ∧
         (∀ h, h ≠ g → t.side h = s.side h) ∧
         t = { s with dict := t.dict, tally := t.tally, io := { s.io with sides := t.io.sides, a := t.io.a, b := t.io.b } })) ∧
  (∀ (s : State) (g : Group) (slot : Fin 4) (b : Bytes),
     let islandOnly := fun t : State => t = { s with island := { s.island with rxSeq := t.island.rxSeq } } ∧ (g ≠ .c → t = s)
     let restarted := bit (u8At b 4) 3 = true ∧ (s.link g).epoch ≠ some (u32At (framePayload b) 0)
     (s.mode = .off ∨ s.linkStands g = true → ∃ t, exec (.barrierFrameReceive false g slot (some b)) s = .next t ∧ islandOnly t) ∧
     ((s.side g).running = true → exec (.barrierFrameReceive false g slot none) s = exec (.barrierFrameReceive false g slot (some (s.fieldFrame g slot))) s) ∧
     (s.mode ≠ .off → s.linkStands g = false →
       (barrierCrcOk b = false → ∃ t, exec (.barrierFrameReceive false g slot (some b)) s = .next t ∧
         (g ≠ .c → t.num (Obj.crcErrors (groupIx g)) = s.counted (Obj.crcErrors (groupIx g)) 1) ∧ t = { s with dict := t.dict, tally := t.tally }) ∧
       (∀ q, barrierCrcOk b = true → (s.link g).rxSeq = some q → ¬restarted → newerBits 8 (u8At b 0) q = false →
         ∃ t, exec (.barrierFrameReceive false g slot (some b)) s = .next t ∧ islandOnly t) ∧
       (barrierCrcOk b = true → restarted ∨ (∀ q, (s.link g).rxSeq = some q → newerBits 8 (u8At b 0) q = true) →
         ∃ t, exec (.barrierFrameReceive false g slot (some b)) s = .next t ∧ (t.link g).rxSeq = some (u8At b 0) ∧
           (slot ≠ 0 → (t.link g).valid = (s.link g).valid ∧ t.io.a = s.io.a ∧ t.io.b = s.io.b) ∧
           (g = .c → s.island.works = true → bit (u8At b 4) 3 = true ∨ (∀ q, s.island.rxSeq = some q → newerBits 8 (u8At b 0) q = true) →
             t.island.rxSeq = some (u8At b 0)) ∧
           (slot = 0 → u8At b 1 % 4 = 0 → u16At b 2 = s.nextEdge % 65536 → (t.link g).valid = true ∧
             (t.link g).snapshot = fit (snapshotSize g) (framePayload b) ∧ (g ≠ .c → t.num (Obj.supplyVoltage (groupIx g)) = u16At (t.link g).snapshot 4 ∧
               t.num (Obj.fieldEpoch (groupIx g)) = u32At (t.link g).snapshot 0 ∧
               t.num (Obj.linkState (groupIx g)) = if bit (u8At b 4) 1 then 2 else 1))))) ∧
  (∀ (s : State) (g : Group) (m : FieldMeasure), g ≠ .c → (s.side g).running = true → (s.side g).returning = false →
     (∀ k, (s.side g).held = false → (s.side g).commit = some k → (s.side g).named = some k.edge →
         k.edge = s.nextEdge % 65536 → k.mode = modeCommand →
       ∃ t, exec (.fieldEdgeApply g m) s = .next t ∧ (t.side g).committed = true ∧ (t.side g).missed = false ∧ (t.side g).commit = none ∧ (t.side g).named = none ∧
         (g = .a → t.io.a.want = s.doImage k.image ∧ t.io.a.last = s.doImage k.image) ∧
         (g = .b → ∀ n : Fin 8, t.io.b.ao[n].want = (s.aoCommand n.val k.image).1) ∧ t = { s with io := t.io }) ∧
     ((s.side g).held = false → (s.side g).commit = none → (s.side g).named ≠ some (s.nextEdge % 65536) →
       ∃ t, exec (.fieldEdgeApply g m) s = .next t ∧ (t.side g).missed = true ∧ t.io.a.want = s.io.a.want ∧
         (∀ n : Fin 8, t.io.b.ao[n].want = s.io.b.ao[n].want) ∧ t = { s with io := t.io }) ∧
     (∀ k, (s.side g).commit = some k → k.edge ≠ s.nextEdge % 65536 → ∃ t, exec (.fieldEdgeApply g m) s = .next t ∧ (t.side g).commit = none ∧
       t.io.a.want = s.io.a.want ∧ (∀ n : Fin 8, t.io.b.ao[n].want = s.io.b.ao[n].want) ∧ t = { s with io := t.io }) ∧
     ((s.side g).held = true → ∃ t, exec (.fieldEdgeApply g m) s = .next t ∧ t.io.a.want = s.io.a.want ∧
       (∀ n : Fin 8, t.io.b.ao[n].want = s.io.b.ao[n].want) ∧
       (t.side g).missed = decide ((s.side g).named ≠ some (s.nextEdge % 65536)) ∧ t = { s with io := t.io }))

/-- R342, R343, R283, R357: silence on a link, a renewed one too, holds its frames until four valid ones follow; after the first commit the outputs go
to the pair safe state in a module with a partner, and to their programmed safe states in one without, HOLD keeping what stood before a trip until its
outputs are back. No commit from before a silence is applied. R353, Table 12-5: the states of a running field side's supply: warning, tripped,
restoring and returning; below 12.0 V the side stops with every output off, and it starts again with a new FIELD_EPOCH, but not while the die is off
or a reset episode that holds it is open. -/
def Obligations.FieldSilenceAndSupply : Prop :=
  (∀ s : State, (∀ g, (s.side g).running = true →
       ∃ t, exec (.silenceTimeout g) s = .next t ∧ (t.side g).held = true ∧ (t.side g).good = 0 ∧ (t.side g).silenced = true ∧
         (¬((s.side g).silenced = true ∧ (s.side g).held = true) → (t.side g).commit = none) ∧ t = { s with io := t.io, island := t.island }) ∧
     ((s.side .a).running = true → ¬((s.side .a).silenced = true ∧ (s.side .a).held = true) → (s.side .a).epochNew = false →
       ∃ t, exec (.silenceTimeout .a) s = .next t ∧ (s.pairEnabled = true → t.io.a.want = 0) ∧
         (s.pairEnabled = false → t.io.a.want = s.doSafe (if (s.side .a).off then s.io.a.beforeTrip else s.io.a.want)))) ∧
  (∀ (s : State) (g : Group) (ns : Nat),
     ((s.side g).running = true →
       (∀ low, ∃ t, exec (.fieldSupplyWarning g low) s = .next t ∧ t.side g = { s.side g with warning := low } ∧
         (∀ h, h ≠ g → t.side h = s.side h) ∧ t = { s with io := { s.io with sides := t.io.sides } }) ∧
       ((s.side g).tripped = false → ∃ t, exec (.fieldSupplyTrip ⟨g, ns⟩) s = .next t ∧ (t.side g).tripped = true ∧ (t.side g).off = true ∧
         (∀ h, h ≠ g → t.side h = s.side h) ∧ t = { s with io := t.io, island := t.island }) ∧
       (∀ above, (s.side g).tripped = true → (s.side g).restoring ≠ above → ∃ t, exec (.supplyRestoring g above) s = .next t ∧
         t.side g = { s.side g with restoring := above } ∧ t = { s with io := { s.io with sides := t.io.sides } }) ∧
       ((s.side g).restoring = true → ∃ t, exec (.fieldSupplyRestored ⟨g, ns⟩) s = .next t ∧ (t.side g).tripped = false ∧
         (t.side g).restoring = false ∧ (t.side g).returning = true ∧ (g ≠ .c → t.island = s.island) ∧
         t = { s with io := t.io, island := t.island }) ∧
       ∃ t, exec (.fieldSideStop g) s = .next t ∧ (t.side g).running = false ∧ (t.side g).present = false ∧ (g = .a → t.io.a.want = 0) ∧
         (∀ h, h ≠ g → t.side h = s.side h) ∧ t = { s with io := t.io, island := t.island }) ∧
     ((s.side g).running = false →
       (∃ t, exec (.fieldSideStop g) s = .next t ∧ t.side g = { s.side g with present := false } ∧ t = { s with io := { s.io with sides := t.io.sides } }) ∧
       (let holds := ∃ e, s.rst.episode = some e ∧ (if g = .c then 4 else 3) ≤ levelCode e.widest
        (s.mode = .off ∨ holds → ∃ t, exec (.fieldSideRestart g) s = .next t ∧ t.side g = { s.side g with present := true } ∧
           t = { s with io := { s.io with sides := t.io.sides } }) ∧
        (s.mode ≠ .off → ¬holds → ∃ t, exec (.fieldSideRestart g) s = .next t ∧ (t.side g).running = true ∧
           (t.side g).epochNew = true ∧ (t.side g).held = true ∧ (t.side g).tripped = false ∧ (t.side g).present = true ∧ (g = .a → t.io.a.want = 0) ∧
           (t.side g).epoch = (Config.freeValue s.freeCount).toNat % 2 ^ 32 ∧ t.freeCount = s.freeCount + 1))))

/-- R346, R347, R349, Table 12-4: a new band of a digital input on a running field side is taken: a definite band sets its state, an indefinite one
keeps it, and so does any band during a trip or an overload of its sensor supply; each transition to closed counts. R350 to R352: a conducting output
that stays in current limit is switched off in OVERLOAD, all four switches of a parallel group together; a retry switches it on again, except while
the group's supply is off. -/
def Obligations.DigitalChannels : Prop :=
  (∀ (s : State) (n : Fin 48) (mv ua : BitVec 16) (ns : Nat), (s.side .a).running = true →
     ∃ t, exec (.diBandChange n mv ua ns) s = .next t ∧
       (let band := diBand (decide (s.sideCfg 0 (Obj.diMode n.val) = 1)) mv.toNat ua.toNat
        let seen := band.1.getD s.io.a.di[n].seen
        t.io.a.di[n].seen = seen ∧ t.io.a.di[n].closed = (if s.diHeld n then s.io.a.di[n].closed else seen) ∧ t.io.a.di[n].quality = band.2 ∧
        t.io.a.di[n].count = (if t.io.a.di[n].closed = true ∧ s.io.a.di[n].closed = false then (s.io.a.di[n].count + 1) % 2 ^ 32
         else s.io.a.di[n].count)) ∧
       (∀ k : Fin 48, k ≠ n → t.io.a.di[k] = s.io.a.di[k]) ∧ t.io.a.want = s.io.a.want ∧ t = { s with io := { s.io with a := t.io.a } }) ∧
  (∀ (s : State) (n : Fin 24) (k : Fin 4) (ns : Nat),
     (s.doOn n.val = true → ∃ t, exec (.outputOverload ⟨.dout n, ns⟩) s = .next t ∧ bit t.io.a.overloads n.val = true ∧ t.doOn n.val = false ∧
       (s.doParallelOn n.val = true → ∀ i : Fin 4, bit t.io.a.overloads (n.val / 4 * 4 + i.val) = true) ∧
       t = { s with io := { s.io with a := { s.io.a with overloads := t.io.a.overloads } } }) ∧
     (s.vsStatus k.val = 0 → ∃ t, exec (.outputOverload ⟨.vs k, ns⟩) s = .next t ∧ t.vsStatus k.val = 2 ∧ t = { s with io := { s.io with a := t.io.a } }) ∧
     ((s.side .a).off = false → (∃ t, exec (.overloadRetry ⟨.dout n, ns⟩) s = .next t ∧ bit t.io.a.overloads n.val = false ∧
         t = { s with io := { s.io with a := { s.io.a with overloads := t.io.a.overloads } } }) ∧
       ∃ t, exec (.overloadRetry ⟨.vs k, ns⟩) s = .next t ∧ bit t.io.a.vsOver k.val = false ∧ t = { s with io := { s.io with a := t.io.a } }) ∧
     ((s.side .a).off = true → exec (.overloadRetry ⟨.dout n, ns⟩) s = .next s))

/-- R365, R366, Table 13-3: what 10 ms of shortfall, of an open loop or of a cleared condition make of an output that is judged, each with its tally;
a group whose outputs are off by hardware is not judged. COMPLIANCE takes a shortfall above 0.2 mA at 26 V, and is over at 0.1 mA or below 26 V. R366,
R370: thermal limiting clears without a tally; ENVELOPE of a running channel that sets or clears, as the temperature calls for, is reported with its
channel, and no other channel changes. -/
def Obligations.AnalogOutputsAreJudged : Prop :=
  (∀ (s : State) (k : Fin 8) (current : BitVec 32) (atLimit : Bool),
     (s.aoJudged = true →
       (s.io.b.ao[k].delivery = .normal → fLe f32 ma0_5 current.toNat = true → 26000 ≤ s.io.b.ao[k].supplyMv →
         fLt f32 ma0_2 (fSub f32 s.io.b.ao[k].want current.toNat) = true → ∃ t, exec (.aoCompliance k current) s = .next t ∧
         t.io.b.ao[k] = { s.io.b.ao[k] with delivery := .compliance } ∧ (∀ j, j ≠ k → t.io.b.ao[j] = s.io.b.ao[j]) ∧
         s.Wrote t 0x0A05 [k.val + 1, s.io.b.ao[k].want, current.toNat, 0] ∧ s.SameObjects t tallyObjects ∧
         t = { s with dict := t.dict, tally := t.tally, io := { s.io with b := t.io.b } }) ∧
       (s.io.b.ao[k].delivery ≠ .opened → fLt f32 current.toNat ma0_5 = true → fLe f32 ma1_0 s.io.b.ao[k].want = true →
         ∃ t, exec (.aoOpen k current) s = .next t ∧ t.io.b.ao[k] = { s.io.b.ao[k] with delivery := .opened } ∧
           (∀ j, j ≠ k → t.io.b.ao[j] = s.io.b.ao[j]) ∧ s.Wrote t 0x0A06 [k.val + 1, s.io.b.ao[k].want, current.toNat, 0] ∧
           s.SameObjects t tallyObjects ∧ t = { s with dict := t.dict, tally := t.tally, io := { s.io with b := t.io.b } }) ∧
       (s.io.b.ao[k].delivery ≠ .normal → (s.io.b.ao[k].delivery = .opened → fLt f32 current.toNat ma0_5 = false) →
         (s.io.b.ao[k].delivery = .compliance → atLimit = false ∨ fLt f32 ma0_1 (fSub f32 s.io.b.ao[k].want current.toNat) = false) →
         ∃ t, exec (.aoRestored k current atLimit) s = .next t ∧
         (t.io.b.ao[k]).delivery = (if s.io.b.ao[k].delivery = .opened ∧ atLimit = true ∧
           fLt f32 ma0_2 (fSub f32 s.io.b.ao[k].want current.toNat) = true then .compliance else .normal) ∧
         s.Wrote t 0x0A07 [k.val + 1, s.io.b.ao[k].want, current.toNat, 0] ∧ s.SameObjects t tallyObjects ∧
         t = { s with dict := t.dict, tally := t.tally, io := { s.io with b := t.io.b } }) ∧
       (s.io.b.ao[k].thermal = false → ∃ t, exec (.aoThermal k current) s = .next t ∧
         t.io.b.ao[k] = { s.io.b.ao[k] with thermal := true } ∧ s.Wrote t 0x0A08 [k.val + 1, s.io.b.ao[k].want, current.toNat, 0] ∧
         s.SameObjects t tallyObjects ∧ t = { s with dict := t.dict, tally := t.tally, io := { s.io with b := t.io.b } })) ∧
     (s.aoJudged = false → exec (.aoCompliance k current) s = .next s ∧ exec (.aoOpen k current) s = .next s ∧
       exec (.aoRestored k current atLimit) s = .next s ∧ exec (.aoThermal k current) s = .next s)) ∧
  (∀ (s : State) (k : Fin 8) (set : Bool),
     (s.io.b.ao[k].thermal = true → ∃ t, exec (.aoThermalClear k) s = .next t ∧ t.io.b.ao[k] = { s.io.b.ao[k] with thermal := false } ∧
       (∀ j, j ≠ k → t.io.b.ao[j] = s.io.b.ao[j]) ∧ t = { s with io := { s.io with b := t.io.b } }) ∧
     (envelopeCalls s.io.b.temperature set = false → exec (.analogEnvelope true k set) s = .next s ∧ exec (.analogEnvelope false k set) s = .next s) ∧
     ((s.side .b).running = true → envelopeCalls s.io.b.temperature set = true →
       (s.io.b.ao[k].envelope ≠ set → ∃ t, exec (.analogEnvelope true k set) s = .next t ∧
         t.io.b.ao[k] = { s.io.b.ao[k] with envelope := set } ∧ t.io.b.ai = s.io.b.ai ∧
         s.Wrote t 0x0A09 [k.val + 1 + 256 + (if set then 65536 else 0)] ∧ s.SameObjects t tallyObjects ∧
         t = { s with dict := t.dict, tally := t.tally, io := { s.io with b := t.io.b } }) ∧
       (s.io.b.ai[k].envelope ≠ set → ∃ t, exec (.analogEnvelope false k set) s = .next t ∧
         t.io.b.ai[k] = { s.io.b.ai[k] with envelope := set } ∧ t.io.b.ao = s.io.b.ao ∧
         s.Wrote t 0x0A09 [k.val + 1 + (if set then 65536 else 0)] ∧ s.SameObjects t tallyObjects ∧
         t = { s with dict := t.dict, tally := t.tally, io := { s.io with b := t.io.b } })))

/-- R372, R373: as master, the module sends Command 0 on an enabled channel that searches or is lost, and on a connected one Command 3, or the queued
pass-through in its place; each transaction counts. A module that is no master sends nothing. R373 to R375: the awaited response to Command 0 connects
a searching channel, with its identity and HART_CONNECTED; a Command 3 response of a connected channel takes its four variables; a burst of another
command is counted and ignored. A modem without its clock decodes nothing (R442). R373, R375: a transaction without a valid response is counted, and
the third in a row loses a connected channel with its tally; a module that only receives keeps the connection state so too, with the transactions of
the loop's master. -/
def Obligations.HartExchanges : Prop :=
  (∀ (s : State) (c : Fin 16),
     (s.hartMaster = true → s.hartEnabled c.val = true →
       (s.hartIs c hartSearching = true ∨ s.hartIs c hartLost = true → ∃ t, exec (.hartSearch c) s = .next t ∧
         t.io.hart[c] = { s.io.hart[c] with inFlight := some 0, passing := false } ∧ t.out = s.out ++ [⟨.hart, c.val + 1, 0, [0], none⟩] ∧
         t.num (Obj.hartTransactions c.val) = s.counted (Obj.hartTransactions c.val) 1 ∧
         t = { s with dict := t.dict, tally := t.tally, out := t.out, io := { s.io with hart := t.io.hart } }) ∧
       (s.hartIs c hartConnected = true → ∃ t cmd, exec (.hartPoll c) s = .next t ∧
         (s.io.hart[c].queued = none → cmd = 3) ∧ (∀ p, s.io.hart[c].queued = some p → cmd = u8At p 0) ∧
         t.io.hart[c] = { s.io.hart[c] with inFlight := some cmd, passing := s.io.hart[c].queued.isSome } ∧
         t.num (Obj.hartTransactions c.val) = s.counted (Obj.hartTransactions c.val) 1 ∧
         t = { s with dict := t.dict, tally := t.tally, out := t.out, io := { s.io with hart := t.io.hart } })) ∧
     (s.hartMaster = false → exec (.hartSearch c) s = .next s ∧ exec (.hartPoll c) s = .next s)) ∧
  (∀ (s : State) (c : Fin 16) (r : HartReply),
     (s.hartEnabled c.val = false ∨ s.noClock 6 = true → exec (.hartResponse c r) s = .next s) ∧
     (s.hartEnabled c.val = true → s.noClock 6 = false →
     (r.burst = false → r.command = 0 → s.hartIs c hartConnected = false → (s.hartMaster = true → s.io.hart[c].inFlight = some 0) →
       ∃ t, exec (.hartResponse c r) s = .next t ∧ t.num (Obj.hartState c.val) = 2 ∧ t.obj (Obj.hartIdentity c.val) = hartIdentityOf r.data ∧
         t.io.hart[c] = { s.io.hart[c] with inFlight := none, failures := 0 } ∧ s.Wrote t 0x0A0B [c.val + 1, first4 (hartIdentityOf r.data)] ∧
         s.SameObjects t ([Obj.hartState c.val, Obj.hartIdentity c.val] ++ tallyObjects) ∧
         t = { s with dict := t.dict, tally := t.tally, io := { s.io with hart := t.io.hart } }) ∧
     (r.burst = false → r.command = 3 → s.hartIs c hartConnected = true → s.io.hart[c].passing = false →
       (s.hartMaster = true → s.io.hart[c].inFlight = some 3) → ∃ t, exec (.hartResponse c r) s = .next t ∧
         (t.io.hart[c]).vars = (List.range 4).map (hartVar r.data) ∧ (t.io.hart[c]).updatedNs = some s.localNs ∧
         (t.io.hart[c]).failures = 0 ∧ (t.io.hart[c]).inFlight = none ∧ t = { s with io := { s.io with hart := t.io.hart } }) ∧
     (r.burst = true → r.command ≠ 3 → ∃ t, exec (.hartResponse c r) s = .next t ∧
       t.num (Obj.hartBurstIgnored c.val) = s.counted (Obj.hartBurstIgnored c.val) 1 ∧ t = { s with dict := t.dict, tally := t.tally }))) ∧
  (∀ (s : State) (c : Fin 16),
     (s.io.hart[c].inFlight = none → s.hartMaster = true ∨ s.hartEnabled c.val = false → exec (.hartTransactionFailure c) s = .next s) ∧
     (s.io.hart[c].inFlight.isSome = true ∨ (s.hartMaster = false ∧ s.hartEnabled c.val = true) →
       ∃ t, exec (.hartTransactionFailure c) s = .next t ∧ (t.io.hart[c]).inFlight = none ∧
         (t.io.hart[c]).failures = s.io.hart[c].failures + 1 ∧
         (s.io.hart[c].inFlight.isSome = true → t.num (Obj.hartFailures c.val) = s.counted (Obj.hartFailures c.val) 1) ∧
         (s.hartIs c hartConnected = true → 2 ≤ s.io.hart[c].failures → t.num (Obj.hartState c.val) = 3 ∧
           s.Wrote t 0x0A0C [c.val + 1, first4 (s.obj (Obj.hartIdentity c.val))]) ∧
         (s.io.hart[c].failures < 2 → t.num (Obj.hartState c.val) = s.num (Obj.hartState c.val)) ∧
         t = { s with dict := t.dict, tally := t.tally, io := { s.io with hart := t.io.hart } }))

/-- R392, Table 14-5: what one scan makes of an effect: an output fault comes first; demand trips at once or after TRIP_DELAY; a tripped effect whose
demand has ended comes back at once, or with LATCH set waits for a reset, which does not take while demand or a latched input fault stands. R391 to
R393, R401: a scan of an operating island sets each cause from its combination and ON_DELAY and steps each effect once, by the demand of its active
causes; one with a confirmed set takes it into force instead, stored twice with its CRC, with every used effect in RESTART_REQUIRED and every switch
open, and SafetySetDigest shows its digest; under a tripped L+C every used effect is in RESTART_REQUIRED too (R399). The mirror shows the state after
the scan (R402). In no other state does a scan change anything. -/
def Obligations.SafetyMatrix : Prop :=
  (∀ (old : SafetyEffect) (demand fires inputFault outFault latch : Bool) (delay : Nat),
     let new := (effectStep old demand fires inputFault outFault latch delay).state
     (old.state = .unused → new = .unused) ∧
     (old.state ≠ .unused → outFault = true → new = .fault ∨ old.state = .fault) ∧
     (outFault = false →
       (old.state = .on → new = (if demand then (if delay = 0 then .tripped else .tripDelaying) else .on)) ∧
       (old.state = .tripDelaying → new = (if delay ≤ old.timer + 1 then .tripped else .tripDelaying)) ∧
       (old.state = .tripped → new = (if demand then .tripped else if latch then .restartRequired else .on)) ∧
       (old.state = .restartRequired → new = (if fires = true ∧ demand = false ∧ inputFault = false then .on else .restartRequired)) ∧
       (old.state = .fault → new = (if fires = true ∧ demand = false then .on else .fault))) ∧
     (new = .on → old.state = .on ∨ demand = false)) ∧
  (∀ (s : State) (currents : List (BitVec 16)),
     (s.island.mode = .operating → s.island.next = none → (s.side .c).tripped = false → ∃ t, exec (.islandScan currents) s = .next t ∧
       (∀ c : Fin 32, t.island.causes[c] = s.island.causeStep c) ∧ t.island.fired = [] ∧ t.island.mode = .operating ∧
       (∀ e : Fin 8, t.island.effects[e] = effectStep s.island.effects[e] (t.island.demands e.val) (s.island.fired.contains (effReset s.island.setBytes e.val))
         (s.island.inputFaulted e.val) (s.island.outputFaulted e.val) (bit (effFlags s.island.setBytes e.val) 0) (effTripDelay s.island.setBytes e.val)) ∧
       (∀ e : Fin 8, s.island.effects[e].state = .restartRequired → s.island.fired = [] →
         t.island.effects[e].state = .restartRequired ∨ t.island.effects[e].state = .fault) ∧ t.island.afterScan = t.island ∧
       t = { s with island := t.island }) ∧
     (∀ b, s.island.mode = .operating → s.island.next = none → (s.side .c).tripped = true → s.island.set = some b → ∃ t, exec (.islandScan currents) s = .next t ∧
       (∀ e : Fin 8, t.island.effects[e].state = (if effUsed b e.val = 1 then .restartRequired else .unused)) ∧
       (∀ o : Fin 4, t.island.outputs[o].high = false ∧ t.island.outputs[o].low = false) ∧ t = { s with island := t.island }) ∧
     (∀ b, s.island.mode = .operating ∨ s.island.mode = .noSet → s.island.next = some b → ∃ t, exec (.islandScan currents) s = .next t ∧
       t.island.set = some b ∧ t.island.copyA = b ++ leBytes 4 (crc32c b) ∧ t.island.copyB = b ++ leBytes 4 (crc32c b) ∧ t.island.next = none ∧ t.island.mode = .operating ∧
       (∀ e : Fin 8, t.island.effects[e].state = (if effUsed b e.val = 1 then .restartRequired else .unused)) ∧
       (∀ o : Fin 4, t.island.outputs[o].high = false ∧ t.island.outputs[o].low = false) ∧ t.obj Obj.safetySetDigest = setDigest b ∧
       s.SameObjects t [Obj.safetySetDigest] ∧ t = { s with dict := t.dict, island := t.island }) ∧
     (s.island.mode = .noSet → s.island.next = none → ∃ t, exec (.islandScan currents) s = .next t ∧ t.island.fired = [] ∧ t.island.mode = .noSet ∧
       t.island.effects = s.island.effects ∧ t = { s with island := t.island }) ∧
     (s.island.mode ≠ .operating → s.island.mode ≠ .noSet → exec (.islandScan currents) s = .next s))

/-- R384, R387: an input of a working island takes the level that its samples have read for FILTER, 11 V and more being high; one in RESET mode that
falls fires its elements after a high phase between RESET_MIN and RESET_MAX without fault, and only then. R383, R385, R386, Tables 14-2 and 14-3: at
the end of a test-pulse frame a TP output whose readback was not low in its pulse or not high outside it is faulty; an input in TP mode that stayed
high through its own pulse shows SHORT_24V, and latches its fault at its second anomaly in a row; a pair whose channel values have differed beyond
DISCREPANCY latches the fault on both inputs, which then read 0. How samples at the end of a pulse count, and the order of several findings, is the
model's choice (log entries 50 and 132). -/
def Obligations.SafetyInputs : Prop :=
  (∀ (s : State) (i : Fin 8) (startUs : Nat) (samples : List (BitVec 16)) (high : Bool), s.island.works = true →
     let b := s.island.setBytes
     let us := startUs + 50 * samples.length
     (inMode b i.val ≠ 1 → samples ≠ [] → inFilter b i.val ≤ 50 * samples.length → (∀ v ∈ samples, decide (11000 ≤ v.toNat) = high) →
       filteredLevel b i.val startUs samples = some high) ∧
     (filteredLevel b i.val startUs samples = none → exec (.inputFilterExpiry i startUs samples) s = .next s) ∧
     (s.island.inputs[i].level ≠ high → filteredLevel b i.val startUs samples = some high →
       ∃ t, exec (.inputFilterExpiry i startUs samples) s = .next t ∧ t.island.inputs[i].level = high ∧
         (∀ j, j ≠ i → t.island.inputs[j] = s.island.inputs[j]) ∧ t.island.effects = s.island.effects ∧ t.island.outputs = s.island.outputs ∧
         (inMode b i.val ≠ 3 ∨ high = true → t.island.fired = s.island.fired) ∧
         (∀ t0, inMode b i.val = 3 → high = false → s.island.inputs[i].highUs = some t0 →
           (us - t0 < 1000 * resetMin b ∨ 1000 * resetMax b < us - t0 ∨ s.island.inputs[i].code ≠ 0 → t.island.fired = s.island.fired) ∧
           (1000 * resetMin b ≤ us - t0 → us - t0 ≤ 1000 * resetMax b → s.island.inputs[i].code = 0 →
             (∀ k : Fin 4, s.island.tpBad[k] = false) → t.island.fired = s.island.fired ++ s.island.elementsOn i.val)) ∧
         t = { s with island := t.island })) ∧
  (∀ (s : State) (inputs readback : List (BitVec 400)) (p : Fin 4) (a b : Fin 8), s.island.works = true →
     (∃ t, exec (.tpFrame inputs readback) s = .next t ∧
       (∀ k : Fin 4, (t.island.tpBad[k] = false ↔ ∀ j < 400,
           (5000 * k.val < 50 * j → 50 * j < 5000 * k.val + 400 → ((readback[k.val]?).getD 0).getLsbD j = false) ∧
           (50 * j < 5000 * k.val ∨ 5000 * k.val + 400 < 50 * j → ((readback[k.val]?).getD 0).getLsbD j = true)) ∧
         t.island.tpFault[k] = (s.island.tpFault[k] || t.island.tpBad[k])) ∧
       (∀ i : Fin 8, inMode s.island.setBytes i.val ≠ 1 → t.island.inputs[i] = s.island.inputs[i]) ∧
       (∀ i : Fin 8, s.island.inputs[i].anomalies = 0 ∨ s.island.inputs[i].fault ≠ 0 → t.island.inputs[i].fault = s.island.inputs[i].fault) ∧
       (∀ (i : Fin 8) (k : Fin 4), inMode s.island.setBytes i.val = 1 → inTp s.island.setBytes i.val = k.val + 1 →
         let w := (inputs[i.val]?).getD 0
         let code := if t.island.tpBad[k] = true then 3 else observationCode (k.val + 1) w
         ((∀ j < 400, 5000 * k.val < 50 * j → 50 * j < 5000 * k.val + 400 → w.getLsbD j = true) → observationCode (k.val + 1) w = 1) ∧
         t.island.inputs[i].anomalies = (if code = 0 then 0 else if s.island.inputs[i].anomalies = 0 then 1 else 2) ∧
         (code ≠ 0 → s.island.inputs[i].anomalies ≠ 0 → s.island.inputs[i].fault = 0 →
           t.island.inputs[i].fault = code ∧ t.island.inputValue i = false)) ∧
       t.island.effects = s.island.effects ∧ t = { s with dict := t.dict, tally := t.tally, island := t.island }) ∧
     (a.val = 2 * p.val → b.val = 2 * p.val + 1 → inPair s.island.setBytes a.val = 1 → s.island.channelValue a ≠ s.island.channelValue b →
       ∃ t, exec (.discrepancy p) s = .next t ∧
         (∀ i, i = a ∨ i = b → t.island.inputs[i] = { s.island.inputs[i] with disc := true, phase := 0 } ∧ t.island.inputs[i].code = 4 ∧
           t.island.inputValue i = false) ∧
         (∀ i, i ≠ a → i ≠ b → t.island.inputs[i] = s.island.inputs[i]) ∧ t = { s with island := t.island }))

/-- R391, R392: a cause whose combination has held for ON_DELAY is active; an effect whose TRIP_DELAY has elapsed trips whatever demand does, and its
switches open. R388 to R390, Table 14-4: 1 ms after its high-side switch an output closes its low-side switch if the sense agrees; a check, a dark
test or a reported fault that fails opens both switches and takes the effect to FAULT, and no other output changes; OPEN_LOAD only warns. SHORT_H and
EXTERNAL_FEED are findings on an output that is off. The field side takes its switches from each link C frame, but after a silence or a trip only once
the island has commanded them off (R399; log entry 129). -/
def Obligations.SafetyOutputs : Prop :=
  (∀ (s : State) (c : Fin 32) (e : Fin 8), s.island.mode = .operating →
     (s.island.causes[c].holds = true → s.island.causes[c].active = false → ∃ t, exec (.onDelayExpiry c) s = .next t ∧
       t.island.causes[c].active = true ∧ (∀ k, k ≠ c → t.island.causes[k] = s.island.causes[k]) ∧ t.island.effects = s.island.effects ∧
       t = { s with island := t.island }) ∧
     (s.island.effects[e].state = .tripDelaying → ∃ t, exec (.tripDelayExpiry e) s = .next t ∧ t.island.effects[e].state = .tripped ∧
       (∀ k, k ≠ e → t.island.effects[k] = s.island.effects[k]) ∧
       (∀ o : Fin 4, o.val = e.val → t.island.outputs[o].high = false ∧ t.island.outputs[o].low = false) ∧
       (∀ o : Fin 4, o.val ≠ e.val → t.island.outputs[o] = s.island.outputs[o]) ∧ t = { s with island := t.island })) ∧
  (∀ (s : State) (o : Fin 4) (read supply : Nat) (code : Fin 8), s.island.works = true →
     let latched (t : State) (code : Nat) := t.island.outputs[o].high = false ∧ t.island.outputs[o].low = false ∧ t.island.outputs[o].fault = code ∧
       (∀ e : Fin 8, e.val = o.val → s.island.effects[e].state ≠ .unused → t.island.effects[e].state = .fault) ∧ (∀ q, q ≠ o → t.island.outputs[q] = s.island.outputs[q])
     (s.island.outputs[o].high = true → s.island.outputs[o].low = false → ∃ t, exec (.switchOnCheck o read supply) s = .next t ∧
       (supply ≤ read + 5000 → t.island.outputs[o] = { s.island.outputs[o] with low := true } ∧ t.island.effects = s.island.effects) ∧
       (read + 5000 < supply → latched t 4) ∧ t = { s with island := t.island }) ∧
     (s.island.outputOn o = true →
       (if s.island.outputs[o].testHigh then read ≤ 5000 else supply ≤ read + 5000) → ∃ t, exec (.darkTest o read supply) s = .next t ∧
         t.island.outputs[o] = { s.island.outputs[o] with testHigh := !s.island.outputs[o].testHigh } ∧ t.island.effects = s.island.effects ∧
         t = { s with island := t.island }) ∧
     (s.island.outputOn o = true →
       ¬(if s.island.outputs[o].testHigh then read ≤ 5000 else supply ≤ read + 5000) → ∃ t, exec (.darkTest o read supply) s = .next t ∧
         latched t (if s.island.outputs[o].testHigh then 2 else 3) ∧ t.num Obj.darkTestFailures = s.counted Obj.darkTestFailures 1 ∧
         t = { s with dict := t.dict, tally := t.tally, island := t.island }) ∧
     (code = 1 ∧ (s.island.applied[o] ≠ (false, false)) ∨ (code = 5 ∨ code = 6) ∧ s.island.outputOff o = true →
       ∃ t, exec (.safetyOutputFault o code) s = .next t ∧ latched t code.val ∧ t = { s with island := t.island }) ∧
     (code = 2 ∨ code = 3 ∨ code = 4 ∨ code = 1 ∧ s.island.applied[o] = (false, false) ∨ (code = 5 ∨ code = 6) ∧ s.island.outputOff o = false →
       exec (.safetyOutputFault o code) s = .next s) ∧
     (s.island.outputs[o].fault = 7 → ∃ t, exec (.safetyOutputFault o 0) s = .next t ∧ t.island.outputs[o] = { s.island.outputs[o] with fault := 0 } ∧
       t.island.effects = s.island.effects ∧ t = { s with island := t.island }) ∧
     (∀ slot frame, (s.side .c).running = true → barrierCrcOk frame = true → (∀ q, (s.side .c).rxSeq = some q → newerBits 8 (u8At frame 0) q = true) →
       ((s.side .c).take .c frame).held = false → ∃ t, exec (.barrierFrameReceive true .c slot (some frame)) s = .next t ∧
         ∀ q : Fin 4, let high := bit (u8At (framePayload frame) 0) q.val
           let low := bit (u8At (framePayload frame) 0) (4 + q.val)
           t.island.applied[q] = if s.island.barred[q] = true ∧ (high = true ∨ low = true) then (false, false) else (high, low)) ∧
     (bit (effFlags s.island.setBytes o.val) 1 = true → s.island.outputOn o = true → ∃ t, exec (.safetyOutputFault o 7) s = .next t ∧
       t.island.outputs[o] = { s.island.outputs[o] with fault := 7 } ∧ t.island.effects = s.island.effects ∧ t = { s with island := t.island }))

/-- R396 to R398, R380: the island starts, works, and stops at a Canary check that fails, with its code (Table 14-10) and link C with it; the third
reset within 600 s locks it; 100 ms after a SAFE_FAULT it is reset with every output off, counted; the self-test leads to OPERATING with a set and to
NO_SET without one. R394, R400, R403: a pending set is verified to VALID with its digest, or refused with the first failing code of Table 14-7; a
proof test whose interval since the last one has elapsed is reported once. -/
def Obligations.IslandLife : Prop :=
  (∀ s : State,
     (s.island.mode = .starting → ∃ t, exec .islandSelfTestDone s = .next t ∧
       t.island.mode = (if s.island.set.isSome then .operating else .noSet) ∧
       (∀ b, s.island.set = some b → ∀ e : Fin 8, t.island.effects[e].state = (if effUsed b e.val = 1 then .restartRequired else .unused)) ∧
       t = { s with island := t.island }) ∧
     (∀ check, s.island.works = false ∨ s.island.checkPasses check = true → exec (.canaryIslandFault check) s = .next s) ∧
     (∀ ns, s.island.checkPasses (.scanPeriod ns) = true ↔ 980000 ≤ ns ∧ ns ≤ 1020000) ∧
     (∀ good ms, s.island.checkPasses (.memory good ms) = true ↔ good = true ∧ ms ≤ 8000) ∧
     (∀ a b, s.island.checkPasses (.clock a b) = true ↔ 98 * b ≤ 100 * a ∧ 100 * a ≤ 102 * b) ∧
     (∀ d, s.island.checkPasses (.setDigest d) = true ↔ ∀ b, s.island.set = some b → setDigest b = d) ∧
     (∀ o high low, s.island.checkPasses (.readback o high low) = true ↔ high = s.island.outputs[o].high ∧ low = s.island.outputs[o].low) ∧
     (∀ check, s.island.works = true → s.island.checkPasses check = false → ∃ t, exec (.canaryIslandFault check) s = .next t ∧ t.island.linkStopped = true ∧
       t.island.fault = (match check with
         | .scanPeriod _ => 0x0101
         | .programFlow _ => 0x0102
         | .clock _ _ => 0x0103
         | .linkC _ _ => 0x0104
         | .readback _ _ _ => 0x0105
         | .setDigest _ => 0x0106
         | .memory _ _ => 0x0107) ∧
       t.island.mode = (if 2 ≤ (recentResets s.island.resets s.localNs).length then .locked else .safeFault) ∧ t = { s with island := t.island }) ∧
     (s.island.mode = .safeFault → ∃ t, exec .islandReset s = .next t ∧ t.island.mode = .starting ∧
       t.num Obj.islandResets = s.counted Obj.islandResets 1 ∧ t.island.resets = recentResets s.island.resets s.localNs ++ [s.localNs] ∧
       (∀ o : Fin 4, t.island.outputs[o].high = false ∧ t.island.outputs[o].low = false) ∧ ((s.side .c).present = true → (t.side .c).running = true) ∧
       t = { s with dict := t.dict, tally := t.tally, island := t.island, io := { s.io with sides := t.io.sides }, freeCount := t.freeCount }) ∧
     (s.island.mode = .locked → exec .islandReset s = .next s)) ∧
  (∀ s : State,
     (s.num Obj.pendingState = 2 → ∃ t, exec .safetySetVerified s = .next t ∧
       (s.setRefusal s.island.pending = 0 → t.num Obj.pendingState = 3 ∧ t.num Obj.pendingRefusal = 0 ∧
         t.obj Obj.pendingDigest = setDigest s.island.pending) ∧
       (s.setRefusal s.island.pending ≠ 0 → t.num Obj.pendingState = 4 ∧ t.num Obj.pendingRefusal = s.setRefusal s.island.pending) ∧
       (∀ d, Assoc.get? s.domains Obj.safetyParameterSet = some d → Assoc.get? t.domains Obj.safetyParameterSet =
         some { d with status := if s.setRefusal s.island.pending = 0 then 1 else 4 }) ∧
       t.island = s.island ∧ s.SameObjects t [Obj.pendingState, Obj.pendingRefusal, Obj.pendingDigest] ∧
       t = { s with dict := t.dict, domains := t.domains }) ∧
     (let elapsed := time96Ns (s.obj Obj.lastProofTest) + s.num Obj.proofTestInterval * 86400000000000 ≤ s.timeNs
      (s.island.proofDue = false → elapsed → ∃ t, exec .proofTestDue s = .next t ∧ s.Wrote t 0x0108 [] ∧ s.SameObjects t tallyObjects ∧
         t = { s with dict := t.dict, tally := t.tally, island := { s.island with proofDue := true } }) ∧
      (s.island.proofDue = true ∨ ¬elapsed → exec .proofTestDue s = .next s)))

/-- R409, R410, R416, Tables 15-2 and 15-3: an external source that asserts while a pulse runs sets its bit of ResetCause and is held back, with the
level that its state maps; nothing else changes. The levels: P for the supply, S for RESET_N, and for the watchdog S in BOOT and HOLD, C in SERVICE
and W while a warp may run. R411 to R413, R415: the supervisor releases P and the module leaves OFF; RESET_N and an internal source other than a clock
failure release by their own events, and nothing else changes. A clock failure releases once the IRC is judged stable, with the gated root and
sequencer on the IRC; until then it stays, and the episode is marked CLOCK_HELD. -/
def Obligations.ResetSourcesActAndRelease : Prop :=
  (∀ (s : State) (level : ResetLevel),
     (∀ e ∈ s.rst.asserted, e.1 ≠ .por ∧ e.1 ≠ .pin ∧ e.1 ≠ .watchdog ∧ e.1 ≠ .debug) → s.mode ≠ .off →
     (∃ t, exec (.logicSupplyLoss true) s = .next t ∧ bit t.rst.cause 0 = true ∧ t.rst.asserted = s.rst.asserted ++ [(.por, .p)] ∧
       t.rst.holding = s.rst.holding ∧ t = { s with rst := t.rst }) ∧
     (s.options.inForce.resetPin = true → ∀ bad, ∃ t, exec (.resetPinAssert ⟨true, bad⟩) s = .next t ∧ bit t.rst.cause 1 = true ∧
       t.rst.asserted = s.rst.asserted ++ [(.pin, .s)] ∧ t.rst.holding = s.rst.holding ∧ t = { s with rst := t.rst }) ∧
     (s.mode ≠ .layup → ∃ t, exec (.watchdogExpiry true) s = .next t ∧ bit t.rst.cause 2 = true ∧
       t.rst.asserted = s.rst.asserted ++ [(.watchdog,
         match s.mode with | .boot => .s | .hold => .s | .service => .c | _ => .w)] ∧
       t.rst.holding = s.rst.holding ∧ t = { s with rst := t.rst }) ∧
     (∀ port : DebugPins, s.keys.locked = true ∨ s.options.inForce.debugPort = false ∨ port.enabled = false → exec (.debugReset port level true) s = .next s) ∧
     (∀ pin, s.keys.locked = false → s.options.inForce.debugPort = true → (s.mode = .boot ∨ s.mode = .service) → (level = .s ∨ level = .c) →
       ∃ t, exec (.debugReset ⟨true, pin⟩ level true) s = .next t ∧ bit t.rst.cause 8 = true ∧
         t.rst.asserted = s.rst.asserted ++ [(.debug, if pin then .s else level)] ∧ t.rst.holding = s.rst.holding ∧ t = { s with rst := t.rst })) ∧
  (∀ s : State,
     (s.rst.asserted.any (fun e => e.1 == .por) = true → ∃ t, exec .logicSupplyRise s = .next t ∧
       (∀ e, e ∈ t.rst.asserted ↔ e ∈ s.rst.asserted ∧ e.1 ≠ .por) ∧ t.mode = (if s.mode = .off then .boot else s.mode) ∧
       t = { s with mode := t.mode, rst := { s.rst with asserted := t.rst.asserted, holding := t.rst.holding } }) ∧
     (∃ t, exec .resetPinRelease s = .next t ∧ (∀ e, e ∈ t.rst.asserted ↔ e ∈ s.rst.asserted ∧ e.1 ≠ .pin) ∧
       (∀ x, x ∈ t.rst.holding ↔ x ∈ s.rst.holding ∧ x ≠ .pin) ∧
       t = { s with rst := { s.rst with asserted := t.rst.asserted, holding := t.rst.holding } }) ∧
     (∀ src, src ≠ .por → src ≠ .pin → src ≠ .clkFail → src ∈ s.rst.holding → ∃ t, exec (.internalSourceRelease src) s = .next t ∧
       (∀ e, e ∈ t.rst.asserted ↔ e ∈ s.rst.asserted ∧ e.1 ≠ src) ∧ (∀ x, x ∈ t.rst.holding ↔ x ∈ s.rst.holding ∧ x ≠ src) ∧
       t = { s with rst := { s.rst with asserted := t.rst.asserted, holding := t.rst.holding } }) ∧
     (.clkFail ∈ s.rst.holding → s.source srcIrc = true → ∃ t, exec (.internalSourceRelease .clkFail) s = .next t ∧
       (∀ e, e ∈ t.rst.asserted ↔ e ∈ s.rst.asserted ∧ e.1 ≠ .clkFail) ∧ (∀ x, x ∈ t.rst.holding ↔ x ∈ s.rst.holding ∧ x ≠ .clkFail) ∧
       (∀ d < 7, u8At (t.obj Obj.domainSources) d = (if d < 2 ∧ s.noClock d = true then 1 else u8At (s.obj Obj.domainSources) d)) ∧
       t = { s with dict := t.dict, rst := { s.rst with asserted := t.rst.asserted, holding := t.rst.holding } }) ∧
     (.clkFail ∈ s.rst.holding → s.source srcIrc = false → exec (.internalSourceRelease .clkFail) s = .next
       { s with rst := { s.rst with episode := s.rst.episode.map fun e => { e with flags := putBit e.flags 1 true } } }))

/-- R407, R416 to R419, R421, Table 15-1: an asserted source that takes hold with no episode open opens one at its level, counts it, and marks it
PULSE_DELAYED if a pulse held it back and BOOT_INTERRUPTED if an exit sequence ran; into an open one it comes with its bit and its level. Level C
leaves the lifecycle state, the memories and the pending commands, ends transfers, subscriptions and sequence records, and resets the lanes; W enters
BOOT and empties the Store, S stops the XO and the PLLs too and empties LPDDR4X, and P leaves the module OFF with POR alone in ResetCause and no clock
judged. From W on RESET_OUT_N is asserted and the OK contact open, and at P the contacts of the ports, the seam, the DOs and the SOs stand as in OFF.
A second pulse that a source has stopped is not written; a source that is not asserted changes nothing. Table 15-9: a reset request that waits for its
edge joins the episode that another source opens, at the level that the state maps; both bits stand. R417, R418, R420, R422, R430, Tables 15-4 and
15-7: once no source is asserted the episode closes with its record in the slot of its count, and the exit sequence of its widest level begins, in the
same lifecycle state; a C-level episode that interrupted a wider exit sequence is followed by that one from its first step (the model's reading, log
entry 125). At level C alone, without a clock failure and with backup RAM read as written, nothing but the reset area and the clocks' times moves. A
P-level exit that finds the LRC's stop flag clears the reset area, counts the episode as 1 and sets BackupLost. An asserted source, or no episode,
leaves everything as it is. -/
def Obligations.EpisodesOpenAndClose : Prop :=
  (∀ (s : State) (src : ResetSource) (how : HoldFacts),
     (s.rst.asserted.any (fun e => e.1 == src) = false → exec (.sourceTakesHold src how) s = .next s) ∧
     (s.rst.asserted.any (fun e => e.1 == src) = true → ∀ op, how.stopped = some op →
       exec (.sourceTakesHold src how) s = exec (.sourceTakesHold src { how with stopped := none }) (match op with
         | .tally => { s with tally := { s.tally with sealA := s.tally.sealsBefore.1, sealB := s.tally.sealsBefore.2 } }
         | .option => { s with options := { s.options with copyA := s.options.before.1, copyB := s.options.before.2 } })) ∧
     (∀ level e0, (s.rst.asserted.find? fun e => e.1 == src) = some (src, level) → s.rst.episode = some e0 → how.stopped = none →
       ∃ t e, exec (.sourceTakesHold src how) s = .next t ∧ t.rst.episode = some e ∧ e.widest = widerLevel e0.widest level ∧ e.first = e0.first ∧
         bit e.causes (sourceBit src) = true ∧ src ∈ t.rst.holding ∧ t.rst.count = s.rst.count) ∧
     (∀ level, (s.rst.asserted.find? fun e => e.1 == src) = some (src, level) → s.rst.episode = none → s.rst.request = none → s.rst.count < 0xFFFFFFFF →
       how.stopped = none →
       ∃ t e, exec (.sourceTakesHold src how) s = .next t ∧ t.rst.episode = some e ∧ e.widest = level ∧ e.first = level ∧
         bit e.causes (sourceBit src) = true ∧ bit e.flags 0 = how.delayed ∧ bit e.flags 2 = s.rst.exiting.isSome ∧
         src ∈ t.rst.holding ∧ t.rst.count = s.rst.count + 1 ∧
         t.mode = (match level with | .c => s.mode | .w => .boot | .s => .boot | .p => .off) ∧
         (level = .c → t.store = s.store ∧ t.dram = s.dram ∧ t.command = s.command ∧ t.warp.activation = s.warp.activation ∧
           t.clp.transfers = [] ∧ t.clp.subs = [] ∧ t.clp.seqs = [] ∧ t.eng.lanes = State.reset.eng.lanes ∧ t.rst.resetOut = s.rst.resetOut) ∧
         (level = .w → t.store = [] ∧ t.dram = s.dram) ∧
         (level = .s ∨ level = .p → t.store = [] ∧ t.dram = [] ∧ t.keys.locked = s.keys.lockFuse ∧ t.source srcXo = false ∧
           ∀ p, t.source (pllBit p) = false) ∧
         (level = .p → t.rst.cause = 1 ∧ t.num Obj.clockSources = 0 ∧
           (∀ k l, t.contact (.portA k l) = .unpowered ∧ t.contact (.portB k l) = .unpowered ∧ t.contact (.seamTx k l) = .highImpedance) ∧
           (∀ n, t.contact (.dout n) = .switchedOff ∧ t.contact (.soH n) = .contactOpen ∧ t.contact (.soL n) = .contactOpen)) ∧
         (level ≠ .c → t.rst.resetOut = true ∧ t.rst.okContact = false ∧ t.command = none ∧ t.weftQueue = [] ∧
           t.contact .resetOutN = .asserted ∧ t.contact .okA = .contactOpen ∧ t.contact .okB = .contactOpen))) ∧
  (∀ (s : State) (src : ResetSource) (delayed : Bool) (level lr asked : ResetLevel),
     (s.rst.asserted.find? fun e => e.1 == src) = some (src, level) → (∀ e ∈ s.rst.asserted, e.1 ≠ .request) → s.rst.episode = none →
     s.rst.request = some asked → sourceLevel .request s.mode asked (decide (s.num Obj.activeProfile = 3)) = some lr → s.rst.count < 0xFFFFFFFF →
     ∃ t e, exec (.sourceTakesHold src ⟨delayed, none⟩) s = .next t ∧ t.rst.episode = some e ∧ e.first = level ∧ e.widest = widerLevel level lr ∧
       bit e.causes (sourceBit src) = true ∧ bit e.causes 4 = true ∧ t.rst.count = s.rst.count + 1 ∧ t.rst.request = none ∧
       src ∈ t.rst.holding ∧ .request ∈ t.rst.holding) ∧
  (∀ (s : State) (f : ExitFacts),
     (s.rst.episode = none ∨ s.rst.asserted ≠ [] ∨ s.mode = .off → exec (.episodeClose f) s = .next s) ∧
     ∀ e : Episode, s.rst.episode = some e → s.rst.asserted = [] → s.mode ≠ .off →
       let level := if e.widest = .c then s.rst.interrupted.getD .c else e.widest
       (∃ t, exec (.episodeClose f) s = .next t ∧ t.rst.episode = none ∧ t.rst.holding = [] ∧ t.rst.exiting = some level ∧ t.rst.interrupted = none ∧
         t.rst.closeNs = s.localNs + f.ns ∧ t.mode = s.mode ∧
         (f.backup = [] → (level = .p → f.lrcStopped = false) → t.rst.count = s.rst.count ∧
           Assoc.get? t.rst.records (s.rst.count % 4) = some (e.record s.rst.count ((s.localNs + f.ns - e.holdNs) / 1000))) ∧
         (level = .p → f.lrcStopped = true → t.rst.count = 1 ∧ t.rst.records = [] ∧ t.flag Obj.backupLost = true ∧ t.clocks.trimStored = none)) ∧
       (level = .c → f.backup = [] → bit e.causes (sourceBit .clkFail) = false → ∃ t, exec (.episodeClose f) s = .next t ∧
         t = { s with rst := t.rst, localNs := s.localNs + f.ns, timeNs := s.timeNs + f.ns, rtcNs := s.rtcNs + f.ns }))

/-- R21, R49, R422, R432, Tables 1-7 and 15-4: boot complete ends the exit sequence or the wake in SERVICE, READY or HOLD, releases RESET_OUT_N, and
closes the OK contact unless the module is in HOLD. A boot with OPT_FALLBACK set, or with StartMode 0 and no damaged value, stops in SERVICE, as does
a wake that does not resume READY; READY has the selected bank loaded and is armed for the automatic start only with StartMode 2; a HOLD cause found
in the exit ends in HOLD, and a module that a self-test has put there stays. After a C-level episode outside BOOT service resumes and nothing else
moves (the model's choice of the row, log entry 126). With no exit and no wake, with an episode open, or without firmware, nothing happens. R523, R21,
Tables 1-7 and 1-8: a HOLD cause, or an over-temperature, takes every state but OFF, LAYUP and HOLD to HOLD with its code in HoldCause and its tally,
the OK contact open, no command pending and no automatic start, and from RUN or STANDBY out of the pair's roles; in those three states, and with a
code that the table lacks, nothing happens. R23, R333, R412, R422, Table 15-8: an enabled wake source takes LAYUP to BOOT without an episode: LPDDR4X,
ResetCount, ResetCause and the episode records stay, and the state recorded at LAYUP is taken if its record is good. CAN wakes on what its channel
judges, and RESET_N with OptResetPin false; a source that is not enabled, an alarm that is not set, and every other state change nothing. -/
def Obligations.BootHoldAndWake : Prop :=
  (∀ (s : State) (f : BootFacts),
     (s.rst.episode.isSome = true ∨ (s.rst.exiting = none ∧ s.rst.waking = false) ∨ s.firmware.running = none → exec (.bootComplete f) s = .next s) ∧
     (s.rst.episode = none → s.firmware.running.isSome = true → s.mode ≠ .boot → s.rst.exiting = some .c → exec (.bootComplete f) s = .next
       { s with localNs := s.localNs + f.ns, timeNs := s.timeNs + f.ns, rtcNs := s.rtcNs + f.ns, rst := { s.rst with exiting := none } }) ∧
     (s.rst.episode = none → s.firmware.running.isSome = true → s.mode = .boot → s.rst.exiting.isSome = true ∨ s.rst.waking = true →
       ∃ t, exec (.bootComplete f) s = .next t ∧ (t.mode = .service ∨ t.mode = .ready ∨ t.mode = .hold) ∧ t.rst.exiting = none ∧ t.rst.waking = false ∧
         t.rst.resetOut = false ∧ t.rst.okContact = decide (t.mode ≠ .hold) ∧ t.rst.layup = none ∧
         (t.mode = .hold ↔ s.rst.holdAtExit ≠ 0) ∧ (t.mode = .hold → t.num Obj.holdCause = s.rst.holdAtExit % 256 ^ objSize Obj.holdCause) ∧
         (s.rst.waking = false → t.optFallback = true ∨ (t.num Obj.startMode = 0 ∧ t.num Obj.damagedRecords = 0) → t.mode ≠ .ready) ∧
         (s.rst.waking = true → s.rst.layup ≠ some .ready → t.mode ≠ .ready) ∧
         (t.mode = .ready → ∃ l, t.warp.loaded = some l ∧ l.bank = t.num Obj.selectedBank) ∧
         t.rst.autoArmed = (decide (t.mode = .ready) && !s.rst.waking && decide (t.num Obj.startMode = 2) && decide (t.num Obj.damagedRecords = 0))) ∧
     (s.rst.episode = none → s.firmware.running.isSome = true → s.mode = .hold → s.rst.exiting.isSome = true → s.rst.exiting ≠ some .c →
       ∃ t, exec (.bootComplete f) s = .next t ∧ t.mode = .hold ∧ t.rst.exiting = none ∧ t.rst.resetOut = false ∧ t.rst.okContact = false)) ∧
  (∀ (s : State) (cause : BitVec 16),
     (s.mode = .off ∨ s.mode = .layup ∨ s.mode = .hold → exec (.holdEntered cause) s = .next s ∧ exec .overtemp s = .next s) ∧
     (cause.toNat < 1 ∨ 6 < cause.toNat → exec (.holdEntered cause) s = .next s) ∧
     (s.mode ≠ .off → s.mode ≠ .layup → s.mode ≠ .hold →
       (1 ≤ cause.toNat → cause.toNat ≤ 6 → ∃ t, exec (.holdEntered cause) s = .next t ∧ t.mode = .hold ∧
         t.num Obj.holdCause = cause.toNat ∧ s.Wrote t 0x0106 [cause.toNat] ∧ t.rst.okContact = false ∧ t.command = none ∧ t.rst.autoArmed = false ∧
         t.rst.autoAt = none ∧ t.roleActive = false ∧ t.profileChange = none ∧ t.store = s.store) ∧
       ∃ t, exec .overtemp s = .next t ∧ t.mode = .hold ∧ t.num Obj.holdCause = 5 ∧ s.Wrote t 0x0106 [5] ∧ t.rst.okContact = false ∧
         t.command = none ∧ t.rst.autoArmed = false ∧ t.rst.autoAt = none ∧ t.roleActive = false ∧ t.profileChange = none ∧ t.store = s.store)) ∧
  (∀ (s : State) (src : WakeSource) (bad : Bool) (ch : Fin 8) (ev : CanWakeEvent),
     let enabled := bit (s.num Obj.layupWake) (match src with | .usbVbus => 1 | .door => 2 | .rtcAlarm => 3) = true ∧
       (src = .rtcAlarm → time96Ns (s.obj Obj.layupAlarm) ≠ 0)
     let woken := fun t : State => t.mode = .boot ∧ t.rst.waking = true ∧ t.rst.episode = s.rst.episode ∧ t.rst.count = s.rst.count ∧
       t.rst.cause = s.rst.cause ∧ t.rst.records = s.rst.records ∧ t.dram = s.dram ∧ t.store = [] ∧ t.rst.okContact = false ∧
       t.rst.layup = (if bad then none else s.rst.layup)
     (s.mode = .layup → enabled → ∃ t, exec (.wake src bad) s = .next t ∧ woken t) ∧
     (s.mode ≠ .layup ∨ ¬ enabled → exec (.wake src bad) s = .next s) ∧
     (s.mode = .layup → bit (s.num Obj.layupWake) 0 = true → ∀ c, (s.canWakeJudge ch ev).1 = some c →
       ∃ t, exec (.canWake ch ⟨ev, bad⟩) s = .next t ∧ woken t ∧ t.can.woke = some (ch.val + 1, c)) ∧
     (s.mode = .layup → bit (s.num Obj.layupWake) 0 = true → (s.canWakeJudge ch ev).1 = none →
       ∃ t, exec (.canWake ch ⟨ev, bad⟩) s = .next t ∧ t = { s with can := t.can }) ∧
     (s.mode ≠ .layup ∨ bit (s.num Obj.layupWake) 0 = false → exec (.canWake ch ⟨ev, bad⟩) s = .next s) ∧
     (s.options.inForce.resetPin = false → ∀ pulse,
       (s.mode = .layup → ∃ t, exec (.resetPinAssert ⟨pulse, bad⟩) s = .next t ∧ woken t) ∧
       (s.mode ≠ .layup → exec (.resetPinAssert ⟨pulse, bad⟩) s = .next s)))

/-- R415, R439, R442, R443, Table 16-2: a check of the clock monitor that is not armed does nothing; a trip is counted. On the XO, the root clock or a
PLL other than CONV it asserts the clock-failure source and gates the root clock; where the failed clock feeds the LPDDR4X controller (the XO, the
root and SYS: the model's reading, log entry 123) and a warp may run, the LPDDR4X goes into self-refresh. A trip on the XO sets XoFailed with its
tally. A trip on the CONV PLL asserts no reset; its domains run on their fall-back, but those whose multiplexer hangs have no clock. R436, R438, R441,
R443: a locked PLL is judged locked, and its reference is the IRC ÷ 4 where the XO is not judged stable; its domains run on it, but a switch away from
a clock that stands still is refused and counted, twice for SYS, whose root and sequencer keep their sources, once for CONV. A stable XO is judged
stable, and clears XoFailed, only where step 5 of an exit sequence or of a wake tries it. R442: a multiplexer that hangs is counted and reported with
its domain, which runs on IRC ÷ 4 until the CONV PLL, now restarted, has locked again; OFF and LAYUP have no such report. -/
def Obligations.ClockSourcesAreJudged : Prop :=
  (∀ s : State, s.mode ≠ .off →
     let fails := fun t : State => t.num Obj.monitorTrips = s.counted Obj.monitorTrips 1 ∧ bit t.rst.cause 5 = true ∧ (∃ l, (.clkFail, l) ∈ t.rst.asserted) ∧
       u8At (t.obj Obj.domainSources) 0 = 2
     let refreshes := fun t : State => t.clocks = { s.clocks with selfRefresh := t.clocks.selfRefresh } ∧ ((∀ e ∈ s.rst.asserted, e.1 ≠ .clkFail) →
       t.clocks.selfRefresh = (s.clocks.selfRefresh || decide (s.mode = .ready ∨ s.mode = .run ∨ s.mode = .standby)))
     (∀ w, s.armed w = false → exec (.clockMonitorTrip w) s = .next s) ∧
     (∀ w, w = .xoStop ∨ w = .xoFrequency → s.armed w = true → ∃ t, exec (.clockMonitorTrip w) s = .next t ∧ fails t ∧ refreshes t ∧
       t.flag Obj.xoFailed = true ∧ t.source srcXo = false ∧ s.Wrote t 0x0C06 [] ∧
       s.SameObjects t ([Obj.monitorTrips, overflowAddr Obj.monitorTrips, Obj.clockSources, Obj.xoFailed, Obj.domainSources] ++ tallyObjects) ∧
       t = { s with dict := t.dict, tally := t.tally, rst := t.rst, clocks := t.clocks }) ∧
     (∀ w, w = .root ∨ (∃ p, p ≠ .conv ∧ w = .pll p) → s.armed w = true → ∃ t, exec (.clockMonitorTrip w) s = .next t ∧ fails t ∧
       (w = .root ∨ w = .pll .sys → refreshes t) ∧ (w = .pll .net ∨ w = .pll .seam → t.clocks = s.clocks) ∧
       (∀ p, w = .pll p → t.source (pllBit p) = false ∧ ∀ d ∈ pllDomains p, u8At (t.obj Obj.domainSources) d = 2) ∧
       s.SameObjects t ([Obj.monitorTrips, overflowAddr Obj.monitorTrips, Obj.clockSources, Obj.domainSources] ++ tallyObjects) ∧
       t = { s with dict := t.dict, tally := t.tally, rst := t.rst, clocks := t.clocks }) ∧
     (s.source 6 = true → ∀ w c h, (w = .pll .conv ∧ c = false ∧ h = false) ∨ w = .convHang c h → ∃ t, exec (.clockMonitorTrip w) s = .next t ∧
       t.num Obj.monitorTrips = s.counted Obj.monitorTrips 1 ∧ t.source 6 = false ∧ u8At (t.obj Obj.domainSources) 4 = 1 ∧
       u8At (t.obj Obj.domainSources) 5 = (if c then 2 else 1) ∧ u8At (t.obj Obj.domainSources) 6 = (if h then 2 else 1) ∧
       s.SameObjects t ([Obj.clockSources, Obj.domainSources, Obj.monitorTrips, overflowAddr Obj.monitorTrips] ++ (List.range 8).map Obj.canState ++ tallyObjects) ∧
       t = { s with dict := t.dict, tally := t.tally, can := t.can })) ∧
  (∀ s : State, s.mode ≠ .off → s.mode ≠ .layup →
     (∀ p stopped, ∃ t, exec (.pllLock (.pll p stopped)) s = .next t ∧ t.source (pllBit p) = true ∧ (∀ i < 8, i ≠ pllBit p → t.source i = s.source i) ∧
       t.clocks = { s.clocks with refIrc := s.clocks.refIrc || !s.source srcXo } ∧
       (p = .net ∨ p = .seam ∨ (stopped = false ∧ (p = .sys → s.noClock 0 = false)) → (∀ d ∈ pllDomains p, u8At (t.obj Obj.domainSources) d = 0) ∧
         (∀ d < 7, d ∉ pllDomains p → u8At (t.obj Obj.domainSources) d = u8At (s.obj Obj.domainSources) d) ∧ t.num Obj.switchRefusals = s.num Obj.switchRefusals) ∧
       (p = .sys → stopped = true ∨ s.noClock 0 = true → t.obj Obj.domainSources = s.obj Obj.domainSources ∧
         t.num Obj.switchRefusals = s.counted Obj.switchRefusals 2) ∧
       (p = .conv → stopped = true → t.obj Obj.domainSources = s.obj Obj.domainSources ∧ t.num Obj.switchRefusals = s.counted Obj.switchRefusals 1) ∧
       s.SameObjects t ([Obj.clockSources, Obj.domainSources, Obj.switchRefusals, overflowAddr Obj.switchRefusals] ++ (List.range 8).map Obj.canState ++ tallyObjects) ∧
       t = { s with dict := t.dict, tally := t.tally, clocks := t.clocks }) ∧
     (s.tryingXo = true → ∃ t, exec (.pllLock .xo) s = .next t ∧ t.source srcXo = true ∧
       t.flag Obj.xoFailed = false ∧ (∀ i < 8, i ≠ srcXo → t.source i = s.source i) ∧
       s.SameObjects t [Obj.clockSources, Obj.xoFailed] ∧ t = { s with dict := t.dict }) ∧
     (s.tryingXo = false → exec (.pllLock .xo) s = .next s)) ∧
  (∀ (s : State) (hart : Bool),
     (s.mode = .off ∨ s.mode = .layup → exec (.clkMuxHang hart) s = .next s) ∧
     (s.mode ≠ .off → s.mode ≠ .layup → ∃ t, exec (.clkMuxHang hart) s = .next t ∧ t.num Obj.muxHangs = s.counted Obj.muxHangs 1 ∧ t.source 6 = false ∧
       u8At (t.obj Obj.domainSources) (if hart then 6 else 5) = 1 ∧ s.Wrote t 0x0C07 [if hart then 6 else 5] ∧
       s.SameObjects t ([Obj.clockSources, Obj.domainSources, Obj.muxHangs, overflowAddr Obj.muxHangs] ++ (List.range 8).map Obj.canState ++ tallyObjects) ∧
       t = { s with dict := t.dict, tally := t.tally, can := t.can }))

/-- R415, R437, R439, R440, Table 16-2: the IRC and the LRC are judged unstable by one window outside ±8 % of 97,656.25 cycles, and stable by two
windows in a row within it that agree to 0.5 %; a root or sequencer clock that stands still then goes to the IRC, unless a clock failure still holds
it. A trip counts; while the root clock is SYS it asserts no reset, sets IRC_FAILED with its tally, and stops the trimming, once. R444, R445, Table
16-4: a trim window moves the code by half the measured error against its reference, 100,000 counts of the XO, 100,000,000 of the tick edges, or the
master time between CAN reference messages, at most 10,000 steps of 0.1 ppm and within its 20 bits, and reports the error in ppb; an interrupted
window, or one without a reference, is discarded; the code in force is stored in backup RAM. -/
def Obligations.IrcIsJudgedAndTrimmed : Prop :=
  (∀ (s : State) (count : Nat), s.mode ≠ .off →
     (4 * count < 359375 ∨ 421875 < 4 * count → ∃ t, exec (.ircJudgementWindow count) s = .next t ∧ t.source srcIrc = false ∧
       t.source srcLrc = false ∧ (∀ i < 8, i ≠ srcIrc → i ≠ srcLrc → t.source i = s.source i) ∧
       t.num Obj.monitorTrips = (if s.source srcIrc = true ∧ s.rootIsSys = false then s.counted Obj.monitorTrips 1 else s.num Obj.monitorTrips) ∧
       s.SameObjects t ([Obj.clockSources, Obj.monitorTrips, overflowAddr Obj.monitorTrips] ++ tallyObjects) ∧
       t = { s with dict := t.dict, tally := t.tally, clocks := { s.clocks with lastCount := some count } }) ∧
     (359375 ≤ 4 * count → 4 * count ≤ 421875 → ∃ t, exec (.ircJudgementWindow count) s = .next t ∧
       (∀ old, s.clocks.lastCount = some old → 359375 ≤ 4 * old → 4 * old ≤ 421875 → 200 * (max old count - min old count) ≤ max old count →
         t.source srcIrc = true ∧ t.source srcLrc = true ∧ t.source srcIrcFailed = false ∧
         ∀ d < 7, u8At (t.obj Obj.domainSources) d =
           (if d < 2 ∧ s.noClock d = true ∧ ∀ e ∈ s.rst.asserted, e.1 ≠ .clkFail then 1 else u8At (s.obj Obj.domainSources) d)) ∧
       (s.clocks.lastCount = none ∨ (∃ old, s.clocks.lastCount = some old ∧
           (4 * old < 359375 ∨ 421875 < 4 * old ∨ max old count < 200 * (max old count - min old count))) → s.SameObjects t []) ∧
       s.SameObjects t [Obj.clockSources, Obj.domainSources] ∧ t = { s with dict := t.dict, clocks := { s.clocks with lastCount := some count } }) ∧
     (s.rootIsSys = true → s.source srcIrcFailed = false → ∃ t, exec .clkIrcFailed s = .next t ∧ t.source srcIrcFailed = true ∧
       t.source srcIrc = false ∧ t.source srcLrc = false ∧ t.num Obj.ircTrimSource = 0 ∧ t.num Obj.monitorTrips = s.counted Obj.monitorTrips 1 ∧
       s.Wrote t 0x0C05 [] ∧ s.SameObjects t ([Obj.clockSources, Obj.ircTrimSource, Obj.monitorTrips, overflowAddr Obj.monitorTrips] ++ tallyObjects) ∧
       t = { s with dict := t.dict, tally := t.tally }) ∧
     (s.rootIsSys = false ∨ s.source srcIrcFailed = true → exec .clkIrcFailed s = .next s)) ∧
  (∀ (s : State) (count expected : Nat), s.mode ≠ .off → s.mode ≠ .layup →
     expected = (match s.trimReference with | 1 => 100000 | 2 => 100000000 | _ => s.masterWindow / 10) →
     (s.trimReference ≠ 0 → 0 < expected → ∃ t code, exec (.trimWindow count false false) s = .next t ∧
       code = (s.trimCode : Int) - clampInt (-10000) 10000 (Int.tdiv (((count : Int) - expected) * 10000000) (2 * expected)) ∧
       (t.num Obj.ircTrim : Int) = max 0 (min 0xFFFFF code) ∧ t.num Obj.ircTrimSource = s.trimReference ∧
       t.num Obj.ircError = ofSigned 32 (Int.tdiv (((count : Int) - expected) * 1000000000) expected) ∧
       (s.trimReference ≠ 3 → t.can = s.can) ∧ (∀ k, s.trimReference = 3 → s.trimChannel = some k → (t.chan k).masters = (s.chan k).masters.take 1) ∧
       s.SameObjects t [Obj.ircTrim, Obj.ircTrimSource, Obj.ircError] ∧ t = { s with dict := t.dict, can := t.can }) ∧
     (∀ stepped changed, stepped = true ∨ changed = true ∨ s.trimReference = 0 ∨ expected = 0 → ∃ t, exec (.trimWindow count stepped changed) s = .next t ∧
       t.num Obj.ircTrimSource = s.trimReference ∧ s.SameObjects t [Obj.ircTrimSource] ∧ t = { s with dict := t.dict, can := t.can }) ∧
     exec .trimStore s = .next { s with clocks := { s.clocks with trimStored := some s.trimCode } })

/-- R447, R459, R464, R133, R197: a scheduled list whose run covers the tick takes its place on its channel from the first slot that the plan gives
its kind, with all its descriptors to run, and on an engine that has nothing else to move nothing moves yet; a lane's list starts as the oldest issue
of it. On a halted channel either is discarded and counted, a lane's tag completing with HALTED. A module that does not execute, an engine without
clock, a list that is not due, and a staging list of a tick whose staging is discarded start nothing. R455, R459 to R464, Tables 17-6 and 17-7: as a
list completes, its beats that are left move in their slots. The last beat of the last descriptor copies its bytes from source to destination and
leaves DONE with all the bytes of the descriptor; a beat that fails moves nothing and leaves ERR with the error, the bytes before it and its address,
is counted and reported, and without CONTINUE_ON_ERROR ends the list and halts its channel. (A source in LPDDR4X lands its beats 160 slots later,
which is not stated here.) -/
def Obligations.DmaListsStart : Prop :=
  (∀ (s : State) (list : BitVec 16) (faults : List DmaFault),
     let quiet := fun (e id : Nat) => ∀ x ∈ s.eng.jobs, x.engine = e → x.over = true ∨ x.id = id
     (s.lists[list.toNat]? = none ∨ s.executes = false → exec (.dmaListStart list faults) s = .next s) ∧
     ∀ l : DmaList, s.lists[list.toNat]? = some l → s.executes = true →
       (bit s.eng.gates (9 + l.engine) = false → exec (.dmaListStart list faults) s = .next s) ∧
       (l.trigger = 2 → s.eng.discard = true → exec (.dmaListStart list faults) s = .next s) ∧
       (l.trigger ≠ 0 → s.scheduledNow l = false → exec (.dmaListStart list faults) s = .next s) ∧
       (bit s.eng.gates (9 + l.engine) = true → s.scheduledNow l = true → (l.trigger = 2 → s.eng.discard = false) →
         ∀ r, (s.engineSlots l.engine (triggerKind l.trigger)).head? = some r →
         (s.isHalted l.engine l.channel = false → (∀ x ∈ s.eng.jobs, x.engine = l.engine → x.over = true) → ∃ t, exec (.dmaListStart list faults) s = .next t ∧
           t.eng.jobs = s.eng.jobs ++ [{ id := s.eng.jobCount, list := l.list, engine := l.engine, channel := l.channel, trigger := l.trigger, lane := none, relocate := 0,
                                         started := true, start := r.1, faults := faults, left := l.descs, beat := 0, slots := [], results := [], written := 0,
                                         halted := false, complete := false }] ∧
           t = { s with eng := { s.eng with jobs := t.eng.jobs, jobCount := s.eng.jobCount + 1, passed := t.eng.passed, hostBurst := t.eng.hostBurst } }) ∧
         (s.isHalted l.engine l.channel = true → ∃ t, exec (.dmaListStart list faults) s = .next t ∧ t.num Obj.dmaListsDiscarded = s.counted Obj.dmaListsDiscarded 1 ∧
           (∃ j ∈ t.eng.jobs, j.id = s.eng.jobCount ∧ j.list = l.list ∧ j.complete = true) ∧
           t = { s with dict := t.dict, tally := t.tally, eng := { s.eng with jobs := t.eng.jobs, jobCount := s.eng.jobCount + 1 } })) ∧
       (bit s.eng.gates (9 + l.engine) = true → l.trigger = 0 → ∀ j, s.eng.jobs.find? (fun j => decide (j.list = l.list) && !j.started && j.lane.isSome) = some j →
         (s.isHalted j.engine j.channel = false → quiet j.engine j.id → ∃ t, exec (.dmaListStart list faults) s = .next t ∧
           t.eng.jobs = s.eng.jobs.map (fun x => if x.id = j.id then { j with started := true, faults := faults } else x) ∧
           t = { s with eng := { s.eng with jobs := t.eng.jobs, passed := t.eng.passed, hostBurst := t.eng.hostBurst } }) ∧
         (s.isHalted j.engine j.channel = true → ∃ t, exec (.dmaListStart list faults) s = .next t ∧ t.num Obj.dmaListsDiscarded = s.counted Obj.dmaListsDiscarded 1 ∧
           t.eng.jobs = s.eng.jobs.map (fun x => if x.id = j.id then { j with started := true, complete := true } else x) ∧
           (∀ (x : Fin 4) (k : Fin 32), j.lane = some (x.val, k.val) → t.eng.lanes[x].tags[k] = s.eng.lanes[x].tags[k].complete 6 0 0) ∧
           t = { s with dict := t.dict, tally := t.tally, eng := { s.eng with jobs := t.eng.jobs, lanes := t.eng.lanes } }))) ∧
  (∀ (s : State) (list : BitVec 16) (j : DmaJob) (d : Descriptor) (slot : Nat),
     s.eng.jobs.find? (fun j => decide (j.list = list.toNat) && j.started && !j.complete) = some j → s.job? j.id = some j → j.left = [d] → j.beat < beatsOf d →
     s.nextBeat j.engine = some (slot, j) → slot < 200000 → j.faults = [] → s.eng.landing = [] →
     let rel := if j.lane.isSome then j.relocate else 0
     let a := relocated rel d.src + 32 * j.beat
     let b := relocated rel d.dst + 32 * j.beat
     let n := min 32 (d.length - 32 * j.beat)
     let seq := j.list * 65536 + j.results.length
     (s.beatError j.trigger a b false = none → j.beat + 1 = beatsOf d → dmaSpace a ≠ 2 → s.standbyWeft a b = false → s.stagingHeld j.list = false →
       ∃ t j', exec (.dmaListComplete list) s = .next t ∧ t.job? j.id = some j' ∧ j'.complete = true ∧ j'.halted = false ∧
         j'.results = j.results ++ [⟨1, 0, b2n (bit d.flags 0) + 2 * b2n (bit d.flags 1), seq, d.length, 0⟩] ∧
         (dmaSpace b = 1 → Mem.read t.window (b % 2 ^ 28) n = s.dmaRead a n) ∧ (dmaSpace b = 2 → Mem.read t.dram (b % 2 ^ 28) n = s.dmaRead a n) ∧
         (dmaSpace b = 0 → ∀ i < n, ¬s.queueHolds j.engine j.channel (b % 2 ^ 28 + i) → (s.dmaRead a n)[i]? = some (Mem.get t.store (b % 2 ^ 28 + i))) ∧
         t = { s with store := t.store, dram := t.dram, window := t.window, eng := t.eng }) ∧
     (∀ e f, s.beatError j.trigger a b false = some (e, f) → bit d.flags 1 = false →
       ∃ t j', exec (.dmaListComplete list) s = .next t ∧ t.job? j.id = some j' ∧ j'.complete = true ∧ j'.halted = true ∧
         j'.results = j.results ++ [⟨2, e, b2n (bit d.flags 0) + 4, seq, 32 * j.beat, f⟩] ∧ t.isHalted j.engine j.channel = true ∧
         t.num Obj.dmaErrors = s.counted Obj.dmaErrors 1 ∧ t.num Obj.dmaHalts = s.counted Obj.dmaHalts 1 ∧ t.dram = s.dram ∧ t.window = s.window ∧
         (∃ r ∈ t.tally.issued, r.code = 0x0303 ∧ r.params = [seq, e + j.engine * 256 + j.channel * 1024, f, low32 s.tick]) ∧
         (∀ x, ¬s.queueHolds j.engine j.channel x → Mem.get t.store x = Mem.get s.store x)))

/-- R187, R461, R463, R465: a started list with nothing left, or for which the tick has no slot left, completes with its last records written to its
channel's queue, and a lane's tag with the bytes of all of them; an error response to a beat of a descriptor that wrote DONE without BARRIER writes
LATE_ERR to the second half of the same line, counts, and halts the channel unless CONTINUE_ON_ERROR. A list that has not started, and a descriptor
without an open line, change nothing. R447, R466, R468: a device's request on a free host channel reserves its burst, which no other request replaces,
and a withdrawal takes back only a burst of its own device of which nothing has moved; an engine without clock counts a gated access. A pass of the
LPDDR4X scrubber counts itself, what a pass or a host core's read met is counted, and the newest address of an uncorrectable error is kept; no other
object changes. R133, R467, R529: the loss of one feed is counted; a pass of the Store scrubber reports its length and counts what it corrected, as
another reader's error does; an uncorrectable error is counted with its address, and is a Canary die fault: the tick's outputs are discarded,
TICK_FAULT names the check, and the Canary asserts at the level of the state. It takes the station to HOLD when its address failed before the last
reset of level W. -/
def Obligations.DmaCompletionAndReports : Prop :=
  (∀ (s : State) (list : BitVec 16),
     (s.eng.jobs.find? (fun j => decide (j.list = list.toNat) && j.started && !j.complete) = none → exec (.dmaListComplete list) s = .next s) ∧
     (∀ j, s.eng.jobs.find? (fun j => decide (j.list = list.toNat) && j.started && !j.complete) = some j → s.job? j.id = some j →
       j.over = true ∨ (s.nextBeat j.engine = none ∧ s.jobSlot j = none) → (∀ x ∈ s.eng.landing, x.job ≠ j.id) →
       ∃ t, exec (.dmaListComplete list) s = .next t ∧
         t.eng.jobs = s.eng.jobs.map (fun x => if x.id = j.id then { j with written := j.results.length, complete := true } else x) ∧
         (∀ (x : Fin 4) (k : Fin 32), j.lane = some (x.val, k.val) →
           t.eng.lanes[x].tags[k] = s.eng.lanes[x].tags[k].complete 0 (j.results.foldl (fun n r => n + r.good) 0) 0) ∧
         (j.lane = none → t.eng.lanes = s.eng.lanes ∧ t.eng.undo = s.eng.undo) ∧
         (∀ a, ¬s.queueHolds j.engine j.channel a → Mem.get t.store a = Mem.get s.store a) ∧
         t = { s with store := t.store, eng := { s.eng with jobs := t.eng.jobs, lines := t.eng.lines, lanes := t.eng.lanes, undo := t.eng.undo } }) ∧
     ∀ (desc : BitVec 16) (beat : BitVec 20),
       (s.eng.lines.reverse.find? (fun e => decide (e.2.1 = desc.toNat) && (s.job? e.1).any fun j => decide (j.list = list.toNat)) = none →
         exec (.dmaResponseError list desc beat) s = .next s) ∧
       ∀ (line : Nat) (l : DmaList) (j : DmaJob) (d : Descriptor),
         s.eng.lines.reverse.find? (fun e => decide (e.2.1 = desc.toNat) && (s.job? e.1).any fun j => decide (j.list = list.toNat)) = some (j.id, desc.toNat, line) →
         s.job? j.id = some j → s.lists[list.toNat]? = some l → l.descs[desc.toNat]? = some d → beat.toNat < beatsOf d →
         (∀ x ∈ s.eng.jobs, x.engine = j.engine → x.over = true) →
         ∃ t, exec (.dmaResponseError list desc beat) s = .next t ∧ t.num Obj.dmaLateErrors = s.counted Obj.dmaLateErrors 1 ∧
           Mem.read t.store (line + 16) 2 = [3, 5] ∧ (bit d.flags 1 = false → t.isHalted j.engine j.channel = true) ∧ (bit d.flags 1 = true → t.eng.halted = s.eng.halted) ∧
           (∀ a, a < line + 16 ∨ line + 32 ≤ a → Mem.get t.store a = Mem.get s.store a) ∧ (j.lane = none → t.eng.lanes = s.eng.lanes) ∧
           t = { s with store := t.store, dict := t.dict, tally := t.tally,
                        eng := { s.eng with jobs := t.eng.jobs, lines := t.eng.lines, halted := t.eng.halted, lanes := t.eng.lanes, undo := t.eng.undo,
                                            passed := t.eng.passed, hostBurst := t.eng.hostBurst } }) ∧
  (∀ (s : State) (line : HostLine) (beats : Fin 16) (found : DramErrors) (bad : BitVec 32) (last : Option (BitVec 32)),
     (s.eng.hostBurst[line.engine] = none →
       exec (.deviceRequest line beats true) s = .next s ∧
       (bit s.eng.gates (9 + line.engine.val) = true → exec (.deviceRequest line beats false) s = .next
         { s with eng := { s.eng with hostBurst := s.eng.hostBurst.set line.engine (some ⟨line.device, beats.val + 1, 0⟩) } }) ∧
       (bit s.eng.gates (9 + line.engine.val) = false → ∃ t, exec (.deviceRequest line beats false) s = .next t ∧
         t.num Obj.gatedAccesses = s.counted Obj.gatedAccesses 1 ∧ t = { s with dict := t.dict, tally := t.tally })) ∧
     (∀ b, s.eng.hostBurst[line.engine] = some b →
       exec (.deviceRequest line beats false) s = .next s ∧
       (b.device = line.device → b.moved = 0 → exec (.deviceRequest line beats true) s = .next
         { s with eng := { s.eng with hostBurst := s.eng.hostBurst.set line.engine none } }) ∧
       (b.device ≠ line.device ∨ b.moved ≠ 0 → exec (.deviceRequest line beats true) s = .next s)) ∧
     ∃ t, exec (.dramScrubPass found bad last) s = .next t ∧
       t.num Obj.dramScrubPasses = (if found.pass then s.counted Obj.dramScrubPasses 1 else s.num Obj.dramScrubPasses) ∧
       t.num Obj.dramCorrected = s.counted Obj.dramCorrected found.corrected.toNat ∧
       t.num Obj.dramUncorrectable = s.counted Obj.dramUncorrectable bad.toNat ∧
       t.num Obj.dramLastFault = (match last with | some a => if bad = 0 then s.num Obj.dramLastFault else a.toNat | none => s.num Obj.dramLastFault) ∧
       s.SameObjects t ([Obj.dramScrubPasses, Obj.dramCorrected, Obj.dramUncorrectable, Obj.dramLastFault, overflowAddr Obj.dramCorrected] ++ tallyObjects) ∧
       t = { s with dict := t.dict, tally := t.tally }) ∧
  (∀ (s : State) (ticks : Option (BitVec 32)) (corrected a syndrome : BitVec 32),
     (s.mode = .off → exec .feedLoss s = .next s) ∧
     (s.mode ≠ .off → ∃ t, exec .feedLoss s = .next t ∧ t.num Obj.feedLosses = s.counted Obj.feedLosses 1 ∧
       t = { s with dict := t.dict, tally := t.tally }) ∧
     (s.mode = .off ∨ s.mode = .layup → ∀ u, exec (.scrubPass ticks corrected u) s = .next s) ∧
     (s.mode ≠ .off → s.mode ≠ .layup →
       (∃ t, exec (.scrubPass ticks corrected none) s = .next t ∧
         t.num Obj.scrubPassTicks = (match ticks with | some n => n.toNat | none => s.num Obj.scrubPassTicks) ∧
         t.num Obj.storeCorrected = s.counted Obj.storeCorrected corrected.toNat ∧ t = { s with dict := t.dict, tally := t.tally }) ∧
       (∃ t, exec (.scrubPass ticks corrected (some (a, syndrome))) s = .next t ∧ t.num Obj.storeLastFault = a.toNat ∧
         t.num Obj.storeUncorrectable = s.counted Obj.storeUncorrectable 1 ∧ t.eng.discard = true ∧
         s.Wrote t 0x0301 [9 + 0xFF * 256 + tickIndex s.tick * 65536, a.toNat, syndrome.toNat, low32 s.tick] ∧
         (s.mode ≠ .hold → s.storeFault = some (a.toNat, true) → t.mode = .hold ∧ t.num Obj.holdCause = 2) ∧
         (s.storeFault ≠ some (a.toNat, true) → t.mode = s.mode ∧ t.storeFault = some (a.toNat, false) ∧
           ∀ l, sourceLevel .canary s.mode .s false = some l → (∀ e ∈ s.rst.asserted, e.1 ≠ .canary) → (.canary, l) ∈ t.rst.asserted))))

/-- R474, R477 to R480: a record of a defined code takes the next sequence and its slot, and moves the head, or waits until the head is known; an
operating minute counts, and saturates with one tally; a module without supply writes nothing. R484, R485, R487 to R491: a region's redraw is queued,
or held while the identity page stands, which ends after its time, and in ON_CHANGE the time in region 2 alone calls for none; an update starts once
the interval of FaceplateRate has passed since the last start, below 0 °C that of ON_CHANGE, and writes the journal with the frame before and its
target; each phase goes into the header, and the 24th ends the update, counted. -/
def Obligations.TallyLogAndFaceplate : Prop :=
  (∀ (s : State) (code : BitVec 16) (params : List (BitVec 32)),
     (s.mode = .off ∨ tallyCodeOk code.toNat = false → exec (.tallyWrite code params) s = .next s) ∧
     (s.mode ≠ .off → tallyCodeOk code.toNat = true → ∃ t, exec (.tallyWrite code params) s = .next t ∧ s.Wrote t code.toNat (params.map (·.toNat)) ∧
       s.SameObjects t tallyObjects ∧ t = { s with dict := t.dict, tally := t.tally } ∧
       (s.tally.headKnown = true → s.num Obj.talliesWritten < 0xFFFFFFFF → t.tally.head = s.tally.head + 1 ∧
         t.num Obj.talliesWritten = s.num Obj.talliesWritten + 1 ∧
         (∀ n, n % 131072 ≠ (s.tally.head + 1) % 131072 → Assoc.get? t.tally.slots (n % 131072) = Assoc.get? s.tally.slots (n % 131072)) ∧
         (if t.tally.head % 2 = 0 then t.tally.sealA = sealBytes t.tally.head ∧ t.tally.sealB = s.tally.sealB
           else t.tally.sealB = sealBytes t.tally.head ∧ t.tally.sealA = s.tally.sealA))) ∧
     (s.mode = .off → exec .operatingMinute s = .next s) ∧
     (s.mode ≠ .off → s.tally.minutes < 0xFFFFFFFF → exec .operatingMinute s = .next { s with tally := { s.tally with minutes := s.tally.minutes + 1 } }) ∧
     (s.mode ≠ .off → 0xFFFFFFFF ≤ s.tally.minutes → ∃ t, exec .operatingMinute s = .next t ∧ t.tally.minutes = s.tally.minutes ∧
       t = { s with dict := t.dict, tally := t.tally })) ∧
  (∀ (s : State) (drawn : FaceDrawing),
     let early := ∃ t0, s.face.lastStart = some t0 ∧ s.localNs < t0 + (if drawn.cold = false ∧ s.num Obj.faceplateRate = 0 then 250000000 else 1000000000)
     (∀ call : RedrawCall,
       let timeAlone := call.region = 1 ∧ call.timeOnly = true ∧ (call.cold = true ∨ s.num Obj.faceplateRate = 2)
       (s.mode = .off ∨ timeAlone → exec (.faceplateRequest call) s = .next s) ∧
       (s.mode ≠ .off → ¬timeAlone → exec (.faceplateRequest call) s = .next { s with face := if s.face.page
         then { s.face with heldRegions := s.face.heldRegions.filter (fun x => decide (x ≠ faceRegion call.region)) ++ [faceRegion call.region] }
         else { s.face with queue := queueRequest s.face.queue (faceRegion call.region) } })) ∧
     (s.face.page = false → exec .pageTimeout s = .next s) ∧
     (s.face.page = true → ∃ t, exec .pageTimeout s = .next t ∧ t.num Obj.faceplatePage = 0 ∧ s.SameObjects t [Obj.faceplatePage] ∧
       t.face = { s.face with page := false, heldRegions := [], queue := queueRequest s.face.queue panel } ∧ t = { s with face := t.face, dict := t.dict }) ∧
     (s.mode = .off ∨ headerRunning s.face.header = true ∨ s.face.queue = [] ∨ early → exec (.updateStart drawn) s = .next s) ∧
     (∀ r rest, s.mode ≠ .off → headerRunning s.face.header = false → s.face.queue = r :: rest → ¬early → ∃ t, exec (.updateStart drawn) s = .next t ∧
       headerRunning t.face.header = true ∧ headerPhase t.face.header = 0 ∧ headerOk t.face.header = true ∧
       t.face.frame = t.face.targetFrame ∧ t.face.frameCrc = crc32c t.face.targetFrame ∧ t.face.updateSeq = (s.face.updateSeq + 1) % 2 ^ 32 ∧
       t.face.ledger = s.face.ledger ∧ t.face.lastStart = some s.localNs ∧
       (drawn.upset = false → crc32c s.face.frame = s.face.frameCrc → t.face.queue = rest ∧ t.face.oldFrame = fit frameLen s.face.frame ∧
         t.face.targetFrame = fit frameLen (mixRows (fit frameLen s.face.frame) (fit frameLen drawn.content) r) ∧
         t = { s with face := t.face }) ∧
       (drawn.upset = true ∨ crc32c s.face.frame ≠ s.face.frameCrc → t.face.queue = [] ∧ t.num Obj.frameCrcFaults = s.counted Obj.frameCrcFaults 1 ∧
         s.Wrote t 0x0D03 [] ∧ t.face.oldFrame = fit frameLen drawn.content ∧ t.face.targetFrame = fit frameLen drawn.content)) ∧
     (s.mode = .off ∨ headerRunning s.face.header = false → exec .updatePhase s = .next s) ∧
     (s.mode ≠ .off → headerRunning s.face.header = true → s.face.header.length = 64 → ∃ t, exec .updatePhase s = .next t ∧
       t.face.ledger = ledgerPhase s.face.ledger s.face.oldFrame s.face.targetFrame (headerRegion s.face.header) (headerPhase s.face.header) ∧
       t.face.targetFrame = s.face.targetFrame ∧ t.face.queue = s.face.queue ∧
       (headerPhase s.face.header < 23 → headerRunning t.face.header = true ∧ headerPhase t.face.header = headerPhase s.face.header + 1 ∧
         t = { s with face := t.face }) ∧
       (23 ≤ headerPhase s.face.header → headerRunning t.face.header = false ∧ t.num Obj.updatesDone = s.counted Obj.updatesDone 1)))

/-- R24, R503, R504, R506: the verification of a firmware bank ends VALID or REFUSED with its code, each with its tally; a recovery frame with a good
CRC enters bank A at an offset up to the received length; the loaded bank is verified, and runs if it is valid. -/
def Obligations.FirmwareIsVerified : Prop :=
  ∀ (s : State) (bank : Fin 2),
    (s.num (Obj.firmwareBankState bank.val) ≠ 2 → exec (.firmwareVerified bank) s = .next s) ∧
    (s.num (Obj.firmwareBankState bank.val) = 2 → s.firmwareEmpty bank = false →
      ∃ t, exec (.firmwareVerified bank) s = .next t ∧ t.keys = s.keys ∧ t.firmware = s.firmware ∧
        t.num (Obj.firmwareRefusal bank.val) = s.firmwareRefusalOf bank ∧
        (s.firmwareRefusalOf bank = 0 → t.num (Obj.firmwareBankState bank.val) = 3 ∧ (t.domain (firmwareDomain bank.val)).status = 1 ∧
          s.Wrote t 0x0703 (s.firmwareParams bank)) ∧
        (s.firmwareRefusalOf bank ≠ 0 → t.num (Obj.firmwareBankState bank.val) = 4 ∧ (t.domain (firmwareDomain bank.val)).status = 4 ∧
          s.Wrote t 0x0704 [bank.val, s.firmwareRefusalOf bank])) ∧
    (∀ (offset crc : BitVec 32) (data : List Byte),
      (s.recovering = false ∨ recoveryCrc offset.toNat data ≠ crc.toNat ∨ s.firmware.received < offset.toNat →
        exec (.recoveryFrame offset crc data) s = .next s) ∧
      (s.recovering = true → data ≠ [] → data.length ≤ 4096 → recoveryCrc offset.toNat data = crc.toNat → offset.toNat ≤ s.firmware.received →
        offset.toNat + data.length ≤ 16777216 → ∃ t, exec (.recoveryFrame offset crc data) s = .next t ∧
          t.domain Obj.firmwareBankA = ⟨patch (if s.firmware.received = 0 then [] else (s.domain Obj.firmwareBankA).content) offset.toNat data, 2⟩ ∧
          t.firmware.received = (t.domain Obj.firmwareBankA).content.length ∧ t.num (Obj.firmwareBankState 0) = 1 ∧
          t = { s with domains := t.domains, dict := t.dict, firmware := t.firmware })) ∧
    (s.recovering = false ∨ s.firmware.received = 0 → exec .recoveryLoaded s = .next s) ∧
    (s.recovering = true → s.firmware.received ≠ 0 →
      ∃ t, exec .recoveryLoaded s = .next t ∧ t.mode = .boot ∧ t.keys = s.keys ∧
        (s.firmwareValid 0 = true → (∃ k v sec sig, t.firmware.running = some (k, v, sec, sig)) ∧ s.Wrote t 0x0708 (s.firmwareParams 0) ∧
          t.face.noFirmware = false) ∧
        (s.firmwareValid 0 = false → t.firmware = { s.firmware with received := 0 }))

end
end

