-- ==== Sys2Proof/Laws/Objects.lean ====
section
/-! SUPPORT. Objects, counters and tallies: reading back what was written, and what each operation leaves. -/

namespace Sys2Proof.Machine

/-! ### Sparse data -/

theorem assoc_get_set_self {α : Type} (m : Assoc α) (k : Nat) (v : α) : Assoc.get? (Assoc.set m k v) k = some v := by
  induction m with
  | nil => simp [Assoc.set, Assoc.get?]
  | cons e r ih =>
    obtain ⟨j, w⟩ := e
    simp only [Assoc.set]
    split
    · rename_i h; simp only [Assoc.get?, if_neg (Nat.ne_of_lt h)]; exact ih
    · split <;> simp [Assoc.get?]

theorem assoc_get_set_ne {α : Type} (m : Assoc α) {k q : Nat} (v : α) (h : q ≠ k) : Assoc.get? (Assoc.set m k v) q = Assoc.get? m q := by
  induction m with
  | nil => simp [Assoc.set, Assoc.get?, Ne.symm h]
  | cons e r ih =>
    obtain ⟨j, w⟩ := e
    simp only [Assoc.set]
    split
    · simp only [Assoc.get?, ih]
    · split
      · rename_i e; subst e; simp [Assoc.get?, Ne.symm h]
      · simp [Assoc.get?, Ne.symm h]

theorem assoc_get_set {α : Type} (m : Assoc α) (k q : Nat) (v : α) :
    Assoc.get? (Assoc.set m k v) q = if q = k then some v else Assoc.get? m q := by
  split
  · rename_i h; subst h; exact assoc_get_set_self ..
  · rename_i h; exact assoc_get_set_ne _ _ h

/-! ### Numbers in bytes -/

theorem leBytes_length (n v : Nat) : (leBytes n v).length = n := by
  induction n generalizing v with
  | zero => rfl
  | succ n ih => simp [leBytes, ih]

theorem leNat_leBytes (n v : Nat) : leNat (leBytes n v) = v % 256 ^ n := by
  induction n generalizing v with
  | zero => simp [leBytes, leNat, Nat.mod_one]
  | succ n ih =>
    simp only [leBytes, leNat, ih, BitVec.toNat_ofNat]
    rw [show 256 ^ (n + 1) = 256 * 256 ^ n from Nat.pow_succ', Nat.mod_mul]

theorem putBit_eq (v i : Nat) (b : Bool) : putBit v i b = 2 ^ i * (v / 2 ^ i / 2 * 2 + b2n b) + v % 2 ^ i := by
  have h := Nat.div_add_mod v (2 ^ i)
  have hq := Nat.div_add_mod (v / 2 ^ i) 2
  have ht : v.testBit i = decide (v / 2 ^ i % 2 = 1) := by rw [Nat.testBit_eq_decide_div_mod_eq]
  have hm := Nat.mod_two_eq_zero_or_one (v / 2 ^ i)
  generalize v / 2 ^ i = q at *
  generalize v % 2 ^ i = r at *
  have e0 : q % 2 = 0 → q = q / 2 * 2 := by omega
  have e1 : q % 2 = 1 → q = q / 2 * 2 + 1 := by omega
  unfold putBit
  rw [ht]
  generalize q / 2 = p at *
  rcases hm with hm | hm
  · cases b
    · simp [hm, b2n]; rw [← e0 hm]; exact h.symm
    · simp [hm, b2n, Nat.mul_add]; rw [e0 hm] at h; omega
  · cases b
    · simp [hm, b2n]; rw [e1 hm, Nat.mul_add] at h; omega
    · simp [hm, b2n]; rw [← e1 hm]; exact h.symm

theorem bit_putBit (v i j : Nat) (b : Bool) : bit (putBit v i b) j = if j = i then b else bit v j := by
  have hr : v % 2 ^ i < 2 ^ i := Nat.mod_lt _ (Nat.two_pow_pos i)
  unfold bit
  rw [putBit_eq, Nat.testBit_two_pow_mul_add _ hr]
  conv => rhs; rw [← Nat.div_add_mod v (2 ^ i), Nat.testBit_two_pow_mul_add _ hr]
  by_cases h : j < i
  · simp [h, Nat.ne_of_lt h]
  · by_cases e : j = i
    · subst e; cases b <;> simp [b2n, Nat.testBit_zero]
    · obtain ⟨k, hk⟩ : ∃ k, j - i = k + 1 := ⟨j - i - 1, by omega⟩
      simp only [h, e, if_false, hk, Nat.testBit_succ]
      congr 1
      cases b <;> simp [b2n] <;> omega

theorem putBit_lt {v i n : Nat} (b : Bool) (hv : v < 2 ^ n) (hi : i < n) : putBit v i b < 2 ^ n := by
  apply Nat.lt_pow_two_of_testBit
  intro j hj
  have := bit_putBit v i j b
  unfold bit at this
  rw [this, if_neg (by omega)]
  exact Nat.testBit_lt_two_pow (Nat.lt_of_lt_of_le hv (Nat.pow_le_pow_right (by decide) hj))

/-! ### Objects -/

theorem obj_setObj_self (s : State) (a : Nat) (v : Bytes) : (s.setObj a v).obj a = v := by
  simp [State.obj, State.setObj, assoc_get_set_self]

theorem obj_setObj_ne (s : State) {a q : Nat} (v : Bytes) (h : q ≠ a) : (s.setObj a v).obj q = s.obj q := by
  simp [State.obj, State.setObj, assoc_get_set_ne _ _ h]

theorem obj_setNum_ne (s : State) {a q : Nat} (v : Nat) (h : q ≠ a) : (s.setNum a v).obj q = s.obj q := obj_setObj_ne _ _ h
theorem obj_setFlag_ne (s : State) {a q : Nat} (b : Bool) (h : q ≠ a) : (s.setFlag a b).obj q = s.obj q := obj_setObj_ne _ _ h
theorem num_setObj_ne (s : State) {a q : Nat} (v : Bytes) (h : q ≠ a) : (s.setObj a v).num q = s.num q := by
  simp [State.num, obj_setObj_ne s v h]
theorem num_setNum_ne (s : State) {a q : Nat} (v : Nat) (h : q ≠ a) : (s.setNum a v).num q = s.num q := num_setObj_ne _ _ h
theorem num_setFlag_ne (s : State) {a q : Nat} (b : Bool) (h : q ≠ a) : (s.setFlag a b).num q = s.num q := num_setObj_ne _ _ h
theorem flag_setObj_ne (s : State) {a q : Nat} (v : Bytes) (h : q ≠ a) : (s.setObj a v).flag q = s.flag q := by
  simp [State.flag, num_setObj_ne s v h]
theorem flag_setNum_ne (s : State) {a q : Nat} (v : Nat) (h : q ≠ a) : (s.setNum a v).flag q = s.flag q := flag_setObj_ne _ _ h
theorem flag_setFlag_ne (s : State) {a q : Nat} (b : Bool) (h : q ≠ a) : (s.setFlag a b).flag q = s.flag q := flag_setObj_ne _ _ h

theorem num_setNum_self (s : State) (a v : Nat) : (s.setNum a v).num a = v % 256 ^ objSize a := by
  simp [State.num, State.setNum, obj_setObj_self, leNat_leBytes]

theorem flag_setFlag_self (s : State) {a : Nat} (b : Bool) (h : 0 < objSize a) : (s.setFlag a b).flag a = b := by
  have h2 : 1 < 256 ^ objSize a := Nat.one_lt_pow (by omega) (by decide)
  unfold State.setFlag State.flag
  rw [num_setNum_self]
  cases b <;> simp [b2n, Nat.mod_eq_of_lt h2]

/-! ### Saturating counters and tallies -/

theorem bump_num (s : State) {a : Nat} (n : Nat) (h : a ≠ overflowAddr a) : (s.bump a n).1.num a = s.counted a n := by
  have hp : 0 < 256 ^ objSize a := Nat.pow_pos (by decide)
  have hm : ∀ v, v ≤ 256 ^ objSize a - 1 → v % 256 ^ objSize a = v := fun v hv => Nat.mod_eq_of_lt (by omega)
  unfold State.bump State.counted
  dsimp only
  split
  · rw [num_setNum_self, hm _ (by assumption)]; omega
  · split
    · rw [num_setNum_self, hm _ (Nat.le_refl _)]; omega
    · rw [num_setObj_ne _ _ h, num_setNum_self, hm _ (Nat.le_refl _)]; omega

theorem bump_obj_ne (s : State) {a q : Nat} (n : Nat) (h : q ≠ a) (h2 : q ≠ overflowAddr a) : (s.bump a n).1.obj q = s.obj q := by
  unfold State.bump; dsimp only
  split
  · exact obj_setNum_ne _ _ h
  · split
    · exact obj_setNum_ne _ _ h
    · rw [obj_setObj_ne _ _ h2, obj_setNum_ne _ _ h]

theorem bump_rest (s : State) (a n : Nat) : (s.bump a n).1 = { s with dict := (s.bump a n).1.dict } := by
  unfold State.bump; dsimp only; (repeat' split) <;> rfl

theorem logDraft_rest (s : State) (d : TallyDraft) :
    s.logDraft d = { s with dict := (s.logDraft d).dict, tally := (s.logDraft d).tally } := by
  unfold State.logDraft
  split
  · dsimp only
    rw [bump_rest]
    split <;> rfl
  · rfl

theorem logDraft_obj (s : State) (d : TallyDraft) {a : Nat} (h : a ∉ tallyObjects) : (s.logDraft d).obj a = s.obj a := by
  simp [tallyObjects] at h
  unfold State.logDraft
  split
  · dsimp only
    split
    · exact bump_obj_ne _ _ h.1 h.2
    · exact bump_obj_ne _ _ h.1 h.2
  · rfl

theorem logTally_rest (s : State) (c : Nat) (p : List Nat) :
    s.logTally c p = { s with dict := (s.logTally c p).dict, tally := (s.logTally c p).tally } := logDraft_rest ..
theorem logTally_obj (s : State) (c : Nat) (p : List Nat) {a : Nat} (h : a ∉ tallyObjects) : (s.logTally c p).obj a = s.obj a :=
  logDraft_obj _ _ h
theorem logTally_num (s : State) (c : Nat) (p : List Nat) {a : Nat} (h : a ∉ tallyObjects) : (s.logTally c p).num a = s.num a := by
  simp [State.num, logTally_obj s c p h]
theorem logTally_flag (s : State) (c : Nat) (p : List Nat) {a : Nat} (h : a ∉ tallyObjects) : (s.logTally c p).flag a = s.flag a := by
  simp [State.flag, logTally_num s c p h]

theorem count_rest (s : State) (a n : Nat) : s.count a n = { s with dict := (s.count a n).dict, tally := (s.count a n).tally } := by
  unfold State.count; dsimp only
  split
  · rw [logTally_rest, bump_rest]
  · rw [bump_rest]

theorem count_num (s : State) {a : Nat} (n : Nat) (h : a ≠ overflowAddr a) (h2 : a ∉ tallyObjects) :
    (s.count a n).num a = s.counted a n := by
  unfold State.count; dsimp only
  split
  · rw [logTally_num _ _ _ h2, bump_num _ _ h]
  · exact bump_num _ _ h

theorem count_obj (s : State) {a q : Nat} (n : Nat) (h : q ≠ a) (h2 : q ≠ overflowAddr a) (h3 : q ∉ tallyObjects) :
    (s.count a n).obj q = s.obj q := by
  unfold State.count; dsimp only
  split
  · rw [logTally_obj _ _ _ h3, bump_obj_ne _ _ h h2]
  · exact bump_obj_ne _ _ h h2

/-- Both operations change nothing beside the objects and the log: the forms in which proofs rewrite with them. -/
theorem logTally_form (s : State) (c : Nat) (p : List Nat) : ∃ d l, s.logTally c p = { s with dict := d, tally := l } :=
  ⟨_, _, logTally_rest s c p⟩
theorem count_form (s : State) (a n : Nat) : ∃ d l, s.count a n = { s with dict := d, tally := l } := ⟨_, _, count_rest s a n⟩

/-! ### What writing a tally leaves of the log -/

/-- The log `t` carries the log `s` on: no record is taken back. -/
structure TallyLog.Extends (s t : TallyLog) : Prop where
  known : t.headKnown = s.headKnown
  head : s.head ≤ t.head
  minutes : t.minutes = s.minutes
  cycles : t.powerCycles = s.powerCycles
  waiting : ∃ more, t.waiting = s.waiting ++ more

theorem TallyLog.extends_refl (s : TallyLog) : s.Extends s := ⟨rfl, Nat.le_refl _, rfl, rfl, [], by simp⟩

theorem TallyLog.extends_trans {a b c : TallyLog} (h : a.Extends b) (k : b.Extends c) : a.Extends c := by
  obtain ⟨m, hm⟩ := h.waiting
  obtain ⟨n, hn⟩ := k.waiting
  exact ⟨k.known.trans h.known, Nat.le_trans h.head k.head, k.minutes.trans h.minutes, k.cycles.trans h.cycles, m ++ n, by
    rw [hn, hm, List.append_assoc]⟩

theorem TallyLog.extends_write (t : TallyLog) (d : TallyDraft) : t.Extends (t.write d) := by
  unfold TallyLog.write TallyLog.seal; dsimp only
  split <;> exact ⟨rfl, Nat.le_succ _, rfl, rfl, [], by simp⟩

theorem bump_tally (s : State) (a n : Nat) : (s.bump a n).1.tally = s.tally := by rw [bump_rest]

theorem logDraft_extends (s : State) (d : TallyDraft) : s.tally.Extends (s.logDraft d).tally := by
  unfold State.logDraft
  split
  · dsimp only
    split
    · refine TallyLog.extends_trans ?_ (TallyLog.extends_write _ _)
      rw [bump_tally]; exact TallyLog.extends_write _ _
    · rw [bump_tally]; exact TallyLog.extends_write _ _
  · exact ⟨rfl, Nat.le_refl _, rfl, rfl, [d], rfl⟩

theorem count_extends (s : State) (a n : Nat) : s.tally.Extends (s.count a n).tally := by
  unfold State.count; dsimp only
  split
  · have := logDraft_extends (s.bump a n).1 ((s.bump a n).1.draft tCounterOverflow [a])
    rw [bump_tally] at this; exact this
  · rw [bump_tally]; exact TallyLog.extends_refl _

theorem TallyLog.write_slot (t : TallyLog) (d : TallyDraft) :
    Assoc.get? (t.write d).slots ((t.head + 1) % tallySlots) = some (recordBytes d (t.head + 1) t.minutes t.powerCycles) := by
  unfold TallyLog.write TallyLog.seal; dsimp only
  split <;> exact assoc_get_set_self ..

theorem TallyLog.write_head (t : TallyLog) (d : TallyDraft) : (t.write d).head = t.head + 1 := by
  unfold TallyLog.write TallyLog.seal; dsimp only; split <;> rfl

theorem TallyLog.write_slot_ne (t : TallyLog) (d : TallyDraft) {n : Nat} (h : n % tallySlots ≠ (t.head + 1) % tallySlots) :
    Assoc.get? (t.write d).slots (n % tallySlots) = Assoc.get? t.slots (n % tallySlots) := by
  unfold TallyLog.write TallyLog.seal; dsimp only
  split <;> exact assoc_get_set_ne _ _ h

/-- A firmware record formed and logged is written (R477, R480), in any state that agrees on who writes it and when. -/
theorem wrote_logTally {s t u : State} {c : Nat} {p : List Nat} (hs : s.tally.Extends u.tally) (ht : t.tally = (State.logTally u c p).tally)
    (hn : t.num Obj.moduleNode = u.num Obj.moduleNode) (htime : t.timeNs = u.timeNs) : s.Wrote t c p := by
  refine ⟨u.draft c p, rfl, rfl, hn.symm, htime.symm, ?_⟩
  rw [ht, ← hs.known, ← hs.minutes, ← hs.cycles]
  have hk := hs.head
  obtain ⟨m, hm⟩ := hs.waiting
  unfold State.logTally State.logDraft
  by_cases h : u.tally.headKnown = true
  · rw [if_pos h, if_pos h]
    refine ⟨u.tally.head + 1, by omega, ?_⟩
    dsimp only
    split
    · simp only [bump_tally, TallyLog.write_head]
      refine ⟨by omega, ?_⟩
      rw [TallyLog.write_slot_ne, TallyLog.write_slot]
      rw [TallyLog.write_head]; simp only [tallySlots]; omega
    · simp only [bump_tally, TallyLog.write_head]
      exact ⟨Nat.le_refl _, TallyLog.write_slot _ _⟩
  · rw [if_neg h, if_neg h]
    refine ⟨u.tally.waiting.length, by rw [hm]; simp, by simp⟩

end Sys2Proof.Machine
end

