-- ==== Sys2Proof/Laws/Clocks.lean ====
section
/-! SUPPORT. Clocks: reading back ClockSources and DomainSources. -/

namespace Sys2Proof.Machine

theorem source_setSource (s : State) {i j : Nat} (b : Bool) (h : j < 8) :
    (s.setSource i b).source j = if j = i then b else s.source j := by
  have hs : objSize Obj.clockSources = 1 := by decide
  unfold State.setSource State.source
  rw [num_setNum_self, hs, ← bit_putBit]
  show (putBit _ i b % 2 ^ 8).testBit j = _
  rw [Nat.testBit_mod_two_pow]
  simp [bit, h]

theorem source_congr {s t : State} (h : t.obj Obj.clockSources = s.obj Obj.clockSources) (i : Nat) : t.source i = s.source i := by
  simp [State.source, State.num, h]

theorem setSource_obj (s : State) (i : Nat) (b : Bool) {a : Nat} (h : a ≠ Obj.clockSources) : (s.setSource i b).obj a = s.obj a :=
  obj_setNum_ne _ _ h

theorem setDomains_obj (s : State) (ds : List Nat) (v : Nat) {a : Nat} (h : a ≠ Obj.domainSources) :
    (s.setDomains ds v).obj a = s.obj a := obj_setObj_ne _ _ h

theorem dropPll_rest (s : State) (p : Pll) : s.dropPll p = { s with dict := (s.dropPll p).dict } := by cases p <;> rfl

theorem dropPll_obj (s : State) (p : Pll) {a : Nat} (h : a ≠ Obj.clockSources) (h2 : a ≠ Obj.domainSources) :
    (s.dropPll p).obj a = s.obj a := by
  cases p <;> simp [State.dropPll, pllDomains, setDomains_obj _ _ _ h2, setSource_obj _ _ _ h]

theorem dropPll_source (s : State) (p : Pll) {i : Nat} (h : i < 8) :
    (s.dropPll p).source i = if i = pllBit p then false else s.source i := by
  rw [← source_setSource _ _ h]
  have hne : Obj.clockSources ≠ Obj.domainSources := by decide
  apply source_congr
  cases p <;> simp [State.dropPll, pllDomains, setDomains_obj _ _ _ hne]

theorem setDomains_get (s : State) (ds : List Nat) (v : Nat) (hds : ∀ d ∈ ds, d < 7) (hv : v < 256) {d : Nat} (h : d ∈ ds) :
    u8At ((s.setDomains ds v).obj Obj.domainSources) d = v := by
  unfold State.setDomains
  rw [obj_setObj_self]
  have len : ∀ (l : List Nat) (b : Bytes), (∀ d ∈ l, d < 7) → b.length = 7 →
      (l.foldl (fun (b : Bytes) d => patch b d [byte v]) b).length = 7 := by
    intro l
    induction l with
    | nil => intro b _ hb; exact hb
    | cons x l ih =>
      intro b hl hb
      have hx : x < 7 := hl x (by simp)
      refine ih _ (fun d hd => hl d (by simp [hd])) ?_
      simp [patch, zeros, hb]; omega
  have get : ∀ (b : Bytes) (x : Nat), x < 7 → b.length = 7 → ∀ y, (patch b x [byte v])[y]? = if y = x then some (byte v) else b[y]? := by
    intro b x hx hb y
    have e : patch b x [byte v] = b.take x ++ [byte v] ++ b.drop (x + 1) := by
      simp [patch, zeros, hb, show x - 7 = 0 by omega]
    rw [e, List.getElem?_append, List.getElem?_append]
    simp only [List.length_append, List.length_take, hb, List.length_singleton]
    by_cases h1 : y < x
    · simp [h1, show y < min x 7 by omega, show y < min x 7 + 1 by omega, show y ≠ x by omega]
    · by_cases h2 : y = x
      · subst h2; simp [show min y 7 = y by omega]
      · simp [show ¬ y < min x 7 + 1 by omega, h2, show x + 1 + (y - (min x 7 + 1)) = y by omega]
  have main : ∀ (l : List Nat) (b : Bytes), (∀ d ∈ l, d < 7) → b.length = 7 → (d ∈ l ∨ b[d]? = some (byte v)) →
      (l.foldl (fun (b : Bytes) d => patch b d [byte v]) b)[d]? = some (byte v) := by
    intro l
    induction l with
    | nil => intro b _ _ hb; simpa using hb
    | cons x l ih =>
      intro b hl hb hd
      have hx : x < 7 := hl x (by simp)
      refine ih _ (fun d hd => hl d (by simp [hd])) (len [x] b (by simpa using hx) hb) ?_
      rw [get b x hx hb]
      rcases hd with hd | hd
      · rcases List.mem_cons.1 hd with e | e
        · right; simp [e]
        · exact .inl e
      · right; split
        · rfl
        · exact hd
  have hm := main ds (fit 7 (s.obj Obj.domainSources)) hds (by simp [fit, zeros]; omega) (.inl h)
  generalize List.foldl _ _ _ = r at hm ⊢
  unfold u8At slice
  obtain ⟨hlt, he⟩ := List.getElem?_eq_some_iff.1 hm
  rw [List.drop_eq_getElem_cons hlt, he]
  simp [leNat, byte, Nat.mod_eq_of_lt hv]

end Sys2Proof.Machine
end

