-- ==== Sys2Proof/Laws/State.lean ====
section
/-! SUPPORT. What each plain update of the state leaves in each field: one lemma per field per update, so that no proof unfolds a record
update. The last part says the same of the operations that count, report and store. -/

namespace Sys2Proof.Machine

/-! ### setObj -/

@[simp] theorem State.setObj_mode (s : State) (a : Nat) (v : Bytes) : (s.setObj a v).mode = s.mode := rfl
@[simp] theorem State.setObj_dict (s : State) (a : Nat) (v : Bytes) : (s.setObj a v).dict = Assoc.set s.dict a v := rfl
@[simp] theorem State.setObj_inForce (s : State) (a : Nat) (v : Bytes) : (s.setObj a v).inForce = s.inForce := rfl
@[simp] theorem State.setObj_stored (s : State) (a : Nat) (v : Bytes) : (s.setObj a v).stored = s.stored := rfl
@[simp] theorem State.setObj_storedLayout (s : State) (a : Nat) (v : Bytes) : (s.setObj a v).storedLayout = s.storedLayout := rfl
@[simp] theorem State.setObj_weftQueue (s : State) (a : Nat) (v : Bytes) : (s.setObj a v).weftQueue = s.weftQueue := rfl
@[simp] theorem State.setObj_ended (s : State) (a : Nat) (v : Bytes) : (s.setObj a v).ended = s.ended := rfl
@[simp] theorem State.setObj_shown (s : State) (a : Nat) (v : Bytes) : (s.setObj a v).shown = s.shown := rfl
@[simp] theorem State.setObj_keys (s : State) (a : Nat) (v : Bytes) : (s.setObj a v).keys = s.keys := rfl
@[simp] theorem State.setObj_domains (s : State) (a : Nat) (v : Bytes) : (s.setObj a v).domains = s.domains := rfl
@[simp] theorem State.setObj_command (s : State) (a : Nat) (v : Bytes) : (s.setObj a v).command = s.command := rfl
@[simp] theorem State.setObj_profileChange (s : State) (a : Nat) (v : Bytes) : (s.setObj a v).profileChange = s.profileChange := rfl
@[simp] theorem State.setObj_restore (s : State) (a : Nat) (v : Bytes) : (s.setObj a v).restore = s.restore := rfl
@[simp] theorem State.setObj_rst (s : State) (a : Nat) (v : Bytes) : (s.setObj a v).rst = s.rst := rfl
@[simp] theorem State.setObj_options (s : State) (a : Nat) (v : Bytes) : (s.setObj a v).options = s.options := rfl
@[simp] theorem State.setObj_tally (s : State) (a : Nat) (v : Bytes) : (s.setObj a v).tally = s.tally := rfl
@[simp] theorem State.setObj_face (s : State) (a : Nat) (v : Bytes) : (s.setObj a v).face = s.face := rfl
@[simp] theorem State.setObj_clp (s : State) (a : Nat) (v : Bytes) : (s.setObj a v).clp = s.clp := rfl
@[simp] theorem State.setObj_eng (s : State) (a : Nat) (v : Bytes) : (s.setObj a v).eng = s.eng := rfl
@[simp] theorem State.setObj_warp (s : State) (a : Nat) (v : Bytes) : (s.setObj a v).warp = s.warp := rfl
@[simp] theorem State.setObj_time (s : State) (a : Nat) (v : Bytes) : (s.setObj a v).time = s.time := rfl
@[simp] theorem State.setObj_can (s : State) (a : Nat) (v : Bytes) : (s.setObj a v).can = s.can := rfl
@[simp] theorem State.setObj_island (s : State) (a : Nat) (v : Bytes) : (s.setObj a v).island = s.island := rfl
@[simp] theorem State.setObj_io (s : State) (a : Nat) (v : Bytes) : (s.setObj a v).io = s.io := rfl
@[simp] theorem State.setObj_clocks (s : State) (a : Nat) (v : Bytes) : (s.setObj a v).clocks = s.clocks := rfl
@[simp] theorem State.setObj_pd (s : State) (a : Nat) (v : Bytes) : (s.setObj a v).pd = s.pd := rfl
@[simp] theorem State.setObj_stale (s : State) (a : Nat) (v : Bytes) : (s.setObj a v).stale = s.stale := rfl
@[simp] theorem State.setObj_pair (s : State) (a : Nat) (v : Bytes) : (s.setObj a v).pair = s.pair := rfl
@[simp] theorem State.setObj_prp (s : State) (a : Nat) (v : Bytes) : (s.setObj a v).prp = s.prp := rfl
@[simp] theorem State.setObj_firmware (s : State) (a : Nat) (v : Bytes) : (s.setObj a v).firmware = s.firmware := rfl
@[simp] theorem State.setObj_storeFault (s : State) (a : Nat) (v : Bytes) : (s.setObj a v).storeFault = s.storeFault := rfl
@[simp] theorem State.setObj_startTick (s : State) (a : Nat) (v : Bytes) : (s.setObj a v).startTick = s.startTick := rfl
@[simp] theorem State.setObj_captures (s : State) (a : Nat) (v : Bytes) : (s.setObj a v).captures = s.captures := rfl
@[simp] theorem State.setObj_loopsMissed (s : State) (a : Nat) (v : Bytes) : (s.setObj a v).loopsMissed = s.loopsMissed := rfl
@[simp] theorem State.setObj_loopsHeld (s : State) (a : Nat) (v : Bytes) : (s.setObj a v).loopsHeld = s.loopsHeld := rfl
@[simp] theorem State.setObj_tableRam (s : State) (a : Nat) (v : Bytes) : (s.setObj a v).tableRam = s.tableRam := rfl
@[simp] theorem State.setObj_store (s : State) (a : Nat) (v : Bytes) : (s.setObj a v).store = s.store := rfl
@[simp] theorem State.setObj_dram (s : State) (a : Nat) (v : Bytes) : (s.setObj a v).dram = s.dram := rfl
@[simp] theorem State.setObj_window (s : State) (a : Nat) (v : Bytes) : (s.setObj a v).window = s.window := rfl
@[simp] theorem State.setObj_tick (s : State) (a : Nat) (v : Bytes) : (s.setObj a v).tick = s.tick := rfl
@[simp] theorem State.setObj_ticking (s : State) (a : Nat) (v : Bytes) : (s.setObj a v).ticking = s.ticking := rfl
@[simp] theorem State.setObj_timeNs (s : State) (a : Nat) (v : Bytes) : (s.setObj a v).timeNs = s.timeNs := rfl
@[simp] theorem State.setObj_localNs (s : State) (a : Nat) (v : Bytes) : (s.setObj a v).localNs = s.localNs := rfl
@[simp] theorem State.setObj_rtcNs (s : State) (a : Nat) (v : Bytes) : (s.setObj a v).rtcNs = s.rtcNs := rfl
@[simp] theorem State.setObj_tickFlags (s : State) (a : Nat) (v : Bytes) : (s.setObj a v).tickFlags = s.tickFlags := rfl
@[simp] theorem State.setObj_freeCount (s : State) (a : Nat) (v : Bytes) : (s.setObj a v).freeCount = s.freeCount := rfl
@[simp] theorem State.setObj_out (s : State) (a : Nat) (v : Bytes) : (s.setObj a v).out = s.out := rfl
@[simp] theorem State.setObj_pending (s : State) (a : Nat) (v : Bytes) : (s.setObj a v).pending = s.pending := rfl

/-! ### setNum -/

@[simp] theorem State.setNum_mode (s : State) (a v : Nat) : (s.setNum a v).mode = s.mode := rfl
@[simp] theorem State.setNum_dict (s : State) (a v : Nat) : (s.setNum a v).dict = Assoc.set s.dict a (leBytes (objSize a) v) := rfl
@[simp] theorem State.setNum_inForce (s : State) (a v : Nat) : (s.setNum a v).inForce = s.inForce := rfl
@[simp] theorem State.setNum_stored (s : State) (a v : Nat) : (s.setNum a v).stored = s.stored := rfl
@[simp] theorem State.setNum_storedLayout (s : State) (a v : Nat) : (s.setNum a v).storedLayout = s.storedLayout := rfl
@[simp] theorem State.setNum_weftQueue (s : State) (a v : Nat) : (s.setNum a v).weftQueue = s.weftQueue := rfl
@[simp] theorem State.setNum_ended (s : State) (a v : Nat) : (s.setNum a v).ended = s.ended := rfl
@[simp] theorem State.setNum_shown (s : State) (a v : Nat) : (s.setNum a v).shown = s.shown := rfl
@[simp] theorem State.setNum_keys (s : State) (a v : Nat) : (s.setNum a v).keys = s.keys := rfl
@[simp] theorem State.setNum_domains (s : State) (a v : Nat) : (s.setNum a v).domains = s.domains := rfl
@[simp] theorem State.setNum_command (s : State) (a v : Nat) : (s.setNum a v).command = s.command := rfl
@[simp] theorem State.setNum_profileChange (s : State) (a v : Nat) : (s.setNum a v).profileChange = s.profileChange := rfl
@[simp] theorem State.setNum_restore (s : State) (a v : Nat) : (s.setNum a v).restore = s.restore := rfl
@[simp] theorem State.setNum_rst (s : State) (a v : Nat) : (s.setNum a v).rst = s.rst := rfl
@[simp] theorem State.setNum_options (s : State) (a v : Nat) : (s.setNum a v).options = s.options := rfl
@[simp] theorem State.setNum_tally (s : State) (a v : Nat) : (s.setNum a v).tally = s.tally := rfl
@[simp] theorem State.setNum_face (s : State) (a v : Nat) : (s.setNum a v).face = s.face := rfl
@[simp] theorem State.setNum_clp (s : State) (a v : Nat) : (s.setNum a v).clp = s.clp := rfl
@[simp] theorem State.setNum_eng (s : State) (a v : Nat) : (s.setNum a v).eng = s.eng := rfl
@[simp] theorem State.setNum_warp (s : State) (a v : Nat) : (s.setNum a v).warp = s.warp := rfl
@[simp] theorem State.setNum_time (s : State) (a v : Nat) : (s.setNum a v).time = s.time := rfl
@[simp] theorem State.setNum_can (s : State) (a v : Nat) : (s.setNum a v).can = s.can := rfl
@[simp] theorem State.setNum_island (s : State) (a v : Nat) : (s.setNum a v).island = s.island := rfl
@[simp] theorem State.setNum_io (s : State) (a v : Nat) : (s.setNum a v).io = s.io := rfl
@[simp] theorem State.setNum_clocks (s : State) (a v : Nat) : (s.setNum a v).clocks = s.clocks := rfl
@[simp] theorem State.setNum_pd (s : State) (a v : Nat) : (s.setNum a v).pd = s.pd := rfl
@[simp] theorem State.setNum_stale (s : State) (a v : Nat) : (s.setNum a v).stale = s.stale := rfl
@[simp] theorem State.setNum_pair (s : State) (a v : Nat) : (s.setNum a v).pair = s.pair := rfl
@[simp] theorem State.setNum_prp (s : State) (a v : Nat) : (s.setNum a v).prp = s.prp := rfl
@[simp] theorem State.setNum_firmware (s : State) (a v : Nat) : (s.setNum a v).firmware = s.firmware := rfl
@[simp] theorem State.setNum_storeFault (s : State) (a v : Nat) : (s.setNum a v).storeFault = s.storeFault := rfl
@[simp] theorem State.setNum_startTick (s : State) (a v : Nat) : (s.setNum a v).startTick = s.startTick := rfl
@[simp] theorem State.setNum_captures (s : State) (a v : Nat) : (s.setNum a v).captures = s.captures := rfl
@[simp] theorem State.setNum_loopsMissed (s : State) (a v : Nat) : (s.setNum a v).loopsMissed = s.loopsMissed := rfl
@[simp] theorem State.setNum_loopsHeld (s : State) (a v : Nat) : (s.setNum a v).loopsHeld = s.loopsHeld := rfl
@[simp] theorem State.setNum_tableRam (s : State) (a v : Nat) : (s.setNum a v).tableRam = s.tableRam := rfl
@[simp] theorem State.setNum_store (s : State) (a v : Nat) : (s.setNum a v).store = s.store := rfl
@[simp] theorem State.setNum_dram (s : State) (a v : Nat) : (s.setNum a v).dram = s.dram := rfl
@[simp] theorem State.setNum_window (s : State) (a v : Nat) : (s.setNum a v).window = s.window := rfl
@[simp] theorem State.setNum_tick (s : State) (a v : Nat) : (s.setNum a v).tick = s.tick := rfl
@[simp] theorem State.setNum_ticking (s : State) (a v : Nat) : (s.setNum a v).ticking = s.ticking := rfl
@[simp] theorem State.setNum_timeNs (s : State) (a v : Nat) : (s.setNum a v).timeNs = s.timeNs := rfl
@[simp] theorem State.setNum_localNs (s : State) (a v : Nat) : (s.setNum a v).localNs = s.localNs := rfl
@[simp] theorem State.setNum_rtcNs (s : State) (a v : Nat) : (s.setNum a v).rtcNs = s.rtcNs := rfl
@[simp] theorem State.setNum_tickFlags (s : State) (a v : Nat) : (s.setNum a v).tickFlags = s.tickFlags := rfl
@[simp] theorem State.setNum_freeCount (s : State) (a v : Nat) : (s.setNum a v).freeCount = s.freeCount := rfl
@[simp] theorem State.setNum_out (s : State) (a v : Nat) : (s.setNum a v).out = s.out := rfl
@[simp] theorem State.setNum_pending (s : State) (a v : Nat) : (s.setNum a v).pending = s.pending := rfl

/-! ### setFlag -/

@[simp] theorem State.setFlag_mode (s : State) (a : Nat) (b : Bool) : (s.setFlag a b).mode = s.mode := rfl
@[simp] theorem State.setFlag_dict (s : State) (a : Nat) (b : Bool) : (s.setFlag a b).dict = Assoc.set s.dict a (leBytes (objSize a) (b2n b)) := rfl
@[simp] theorem State.setFlag_inForce (s : State) (a : Nat) (b : Bool) : (s.setFlag a b).inForce = s.inForce := rfl
@[simp] theorem State.setFlag_stored (s : State) (a : Nat) (b : Bool) : (s.setFlag a b).stored = s.stored := rfl
@[simp] theorem State.setFlag_storedLayout (s : State) (a : Nat) (b : Bool) : (s.setFlag a b).storedLayout = s.storedLayout := rfl
@[simp] theorem State.setFlag_weftQueue (s : State) (a : Nat) (b : Bool) : (s.setFlag a b).weftQueue = s.weftQueue := rfl
@[simp] theorem State.setFlag_ended (s : State) (a : Nat) (b : Bool) : (s.setFlag a b).ended = s.ended := rfl
@[simp] theorem State.setFlag_shown (s : State) (a : Nat) (b : Bool) : (s.setFlag a b).shown = s.shown := rfl
@[simp] theorem State.setFlag_keys (s : State) (a : Nat) (b : Bool) : (s.setFlag a b).keys = s.keys := rfl
@[simp] theorem State.setFlag_domains (s : State) (a : Nat) (b : Bool) : (s.setFlag a b).domains = s.domains := rfl
@[simp] theorem State.setFlag_command (s : State) (a : Nat) (b : Bool) : (s.setFlag a b).command = s.command := rfl
@[simp] theorem State.setFlag_profileChange (s : State) (a : Nat) (b : Bool) : (s.setFlag a b).profileChange = s.profileChange := rfl
@[simp] theorem State.setFlag_restore (s : State) (a : Nat) (b : Bool) : (s.setFlag a b).restore = s.restore := rfl
@[simp] theorem State.setFlag_rst (s : State) (a : Nat) (b : Bool) : (s.setFlag a b).rst = s.rst := rfl
@[simp] theorem State.setFlag_options (s : State) (a : Nat) (b : Bool) : (s.setFlag a b).options = s.options := rfl
@[simp] theorem State.setFlag_tally (s : State) (a : Nat) (b : Bool) : (s.setFlag a b).tally = s.tally := rfl
@[simp] theorem State.setFlag_face (s : State) (a : Nat) (b : Bool) : (s.setFlag a b).face = s.face := rfl
@[simp] theorem State.setFlag_clp (s : State) (a : Nat) (b : Bool) : (s.setFlag a b).clp = s.clp := rfl
@[simp] theorem State.setFlag_eng (s : State) (a : Nat) (b : Bool) : (s.setFlag a b).eng = s.eng := rfl
@[simp] theorem State.setFlag_warp (s : State) (a : Nat) (b : Bool) : (s.setFlag a b).warp = s.warp := rfl
@[simp] theorem State.setFlag_time (s : State) (a : Nat) (b : Bool) : (s.setFlag a b).time = s.time := rfl
@[simp] theorem State.setFlag_can (s : State) (a : Nat) (b : Bool) : (s.setFlag a b).can = s.can := rfl
@[simp] theorem State.setFlag_island (s : State) (a : Nat) (b : Bool) : (s.setFlag a b).island = s.island := rfl
@[simp] theorem State.setFlag_io (s : State) (a : Nat) (b : Bool) : (s.setFlag a b).io = s.io := rfl
@[simp] theorem State.setFlag_clocks (s : State) (a : Nat) (b : Bool) : (s.setFlag a b).clocks = s.clocks := rfl
@[simp] theorem State.setFlag_pd (s : State) (a : Nat) (b : Bool) : (s.setFlag a b).pd = s.pd := rfl
@[simp] theorem State.setFlag_stale (s : State) (a : Nat) (b : Bool) : (s.setFlag a b).stale = s.stale := rfl
@[simp] theorem State.setFlag_pair (s : State) (a : Nat) (b : Bool) : (s.setFlag a b).pair = s.pair := rfl
@[simp] theorem State.setFlag_prp (s : State) (a : Nat) (b : Bool) : (s.setFlag a b).prp = s.prp := rfl
@[simp] theorem State.setFlag_firmware (s : State) (a : Nat) (b : Bool) : (s.setFlag a b).firmware = s.firmware := rfl
@[simp] theorem State.setFlag_storeFault (s : State) (a : Nat) (b : Bool) : (s.setFlag a b).storeFault = s.storeFault := rfl
@[simp] theorem State.setFlag_startTick (s : State) (a : Nat) (b : Bool) : (s.setFlag a b).startTick = s.startTick := rfl
@[simp] theorem State.setFlag_captures (s : State) (a : Nat) (b : Bool) : (s.setFlag a b).captures = s.captures := rfl
@[simp] theorem State.setFlag_loopsMissed (s : State) (a : Nat) (b : Bool) : (s.setFlag a b).loopsMissed = s.loopsMissed := rfl
@[simp] theorem State.setFlag_loopsHeld (s : State) (a : Nat) (b : Bool) : (s.setFlag a b).loopsHeld = s.loopsHeld := rfl
@[simp] theorem State.setFlag_tableRam (s : State) (a : Nat) (b : Bool) : (s.setFlag a b).tableRam = s.tableRam := rfl
@[simp] theorem State.setFlag_store (s : State) (a : Nat) (b : Bool) : (s.setFlag a b).store = s.store := rfl
@[simp] theorem State.setFlag_dram (s : State) (a : Nat) (b : Bool) : (s.setFlag a b).dram = s.dram := rfl
@[simp] theorem State.setFlag_window (s : State) (a : Nat) (b : Bool) : (s.setFlag a b).window = s.window := rfl
@[simp] theorem State.setFlag_tick (s : State) (a : Nat) (b : Bool) : (s.setFlag a b).tick = s.tick := rfl
@[simp] theorem State.setFlag_ticking (s : State) (a : Nat) (b : Bool) : (s.setFlag a b).ticking = s.ticking := rfl
@[simp] theorem State.setFlag_timeNs (s : State) (a : Nat) (b : Bool) : (s.setFlag a b).timeNs = s.timeNs := rfl
@[simp] theorem State.setFlag_localNs (s : State) (a : Nat) (b : Bool) : (s.setFlag a b).localNs = s.localNs := rfl
@[simp] theorem State.setFlag_rtcNs (s : State) (a : Nat) (b : Bool) : (s.setFlag a b).rtcNs = s.rtcNs := rfl
@[simp] theorem State.setFlag_tickFlags (s : State) (a : Nat) (b : Bool) : (s.setFlag a b).tickFlags = s.tickFlags := rfl
@[simp] theorem State.setFlag_freeCount (s : State) (a : Nat) (b : Bool) : (s.setFlag a b).freeCount = s.freeCount := rfl
@[simp] theorem State.setFlag_out (s : State) (a : Nat) (b : Bool) : (s.setFlag a b).out = s.out := rfl
@[simp] theorem State.setFlag_pending (s : State) (a : Nat) (b : Bool) : (s.setFlag a b).pending = s.pending := rfl

/-! ### setDetail -/

@[simp] theorem State.setDetail_mode (s : State) (i : Nat) (b : Bool) : (s.setDetail i b).mode = s.mode := rfl
@[simp] theorem State.setDetail_inForce (s : State) (i : Nat) (b : Bool) : (s.setDetail i b).inForce = s.inForce := rfl
@[simp] theorem State.setDetail_stored (s : State) (i : Nat) (b : Bool) : (s.setDetail i b).stored = s.stored := rfl
@[simp] theorem State.setDetail_storedLayout (s : State) (i : Nat) (b : Bool) : (s.setDetail i b).storedLayout = s.storedLayout := rfl
@[simp] theorem State.setDetail_weftQueue (s : State) (i : Nat) (b : Bool) : (s.setDetail i b).weftQueue = s.weftQueue := rfl
@[simp] theorem State.setDetail_ended (s : State) (i : Nat) (b : Bool) : (s.setDetail i b).ended = s.ended := rfl
@[simp] theorem State.setDetail_shown (s : State) (i : Nat) (b : Bool) : (s.setDetail i b).shown = s.shown := rfl
@[simp] theorem State.setDetail_keys (s : State) (i : Nat) (b : Bool) : (s.setDetail i b).keys = s.keys := rfl
@[simp] theorem State.setDetail_domains (s : State) (i : Nat) (b : Bool) : (s.setDetail i b).domains = s.domains := rfl
@[simp] theorem State.setDetail_command (s : State) (i : Nat) (b : Bool) : (s.setDetail i b).command = s.command := rfl
@[simp] theorem State.setDetail_profileChange (s : State) (i : Nat) (b : Bool) : (s.setDetail i b).profileChange = s.profileChange := rfl
@[simp] theorem State.setDetail_restore (s : State) (i : Nat) (b : Bool) : (s.setDetail i b).restore = s.restore := rfl
@[simp] theorem State.setDetail_rst (s : State) (i : Nat) (b : Bool) : (s.setDetail i b).rst = s.rst := rfl
@[simp] theorem State.setDetail_options (s : State) (i : Nat) (b : Bool) : (s.setDetail i b).options = s.options := rfl
@[simp] theorem State.setDetail_tally (s : State) (i : Nat) (b : Bool) : (s.setDetail i b).tally = s.tally := rfl
@[simp] theorem State.setDetail_face (s : State) (i : Nat) (b : Bool) : (s.setDetail i b).face = s.face := rfl
@[simp] theorem State.setDetail_clp (s : State) (i : Nat) (b : Bool) : (s.setDetail i b).clp = s.clp := rfl
@[simp] theorem State.setDetail_eng (s : State) (i : Nat) (b : Bool) : (s.setDetail i b).eng = s.eng := rfl
@[simp] theorem State.setDetail_warp (s : State) (i : Nat) (b : Bool) : (s.setDetail i b).warp = s.warp := rfl
@[simp] theorem State.setDetail_time (s : State) (i : Nat) (b : Bool) : (s.setDetail i b).time = s.time := rfl
@[simp] theorem State.setDetail_can (s : State) (i : Nat) (b : Bool) : (s.setDetail i b).can = s.can := rfl
@[simp] theorem State.setDetail_island (s : State) (i : Nat) (b : Bool) : (s.setDetail i b).island = s.island := rfl
@[simp] theorem State.setDetail_io (s : State) (i : Nat) (b : Bool) : (s.setDetail i b).io = s.io := rfl
@[simp] theorem State.setDetail_clocks (s : State) (i : Nat) (b : Bool) : (s.setDetail i b).clocks = s.clocks := rfl
@[simp] theorem State.setDetail_pd (s : State) (i : Nat) (b : Bool) : (s.setDetail i b).pd = s.pd := rfl
@[simp] theorem State.setDetail_stale (s : State) (i : Nat) (b : Bool) : (s.setDetail i b).stale = s.stale := rfl
@[simp] theorem State.setDetail_pair (s : State) (i : Nat) (b : Bool) : (s.setDetail i b).pair = s.pair := rfl
@[simp] theorem State.setDetail_prp (s : State) (i : Nat) (b : Bool) : (s.setDetail i b).prp = s.prp := rfl
@[simp] theorem State.setDetail_firmware (s : State) (i : Nat) (b : Bool) : (s.setDetail i b).firmware = s.firmware := rfl
@[simp] theorem State.setDetail_storeFault (s : State) (i : Nat) (b : Bool) : (s.setDetail i b).storeFault = s.storeFault := rfl
@[simp] theorem State.setDetail_startTick (s : State) (i : Nat) (b : Bool) : (s.setDetail i b).startTick = s.startTick := rfl
@[simp] theorem State.setDetail_captures (s : State) (i : Nat) (b : Bool) : (s.setDetail i b).captures = s.captures := rfl
@[simp] theorem State.setDetail_loopsMissed (s : State) (i : Nat) (b : Bool) : (s.setDetail i b).loopsMissed = s.loopsMissed := rfl
@[simp] theorem State.setDetail_loopsHeld (s : State) (i : Nat) (b : Bool) : (s.setDetail i b).loopsHeld = s.loopsHeld := rfl
@[simp] theorem State.setDetail_tableRam (s : State) (i : Nat) (b : Bool) : (s.setDetail i b).tableRam = s.tableRam := rfl
@[simp] theorem State.setDetail_store (s : State) (i : Nat) (b : Bool) : (s.setDetail i b).store = s.store := rfl
@[simp] theorem State.setDetail_dram (s : State) (i : Nat) (b : Bool) : (s.setDetail i b).dram = s.dram := rfl
@[simp] theorem State.setDetail_window (s : State) (i : Nat) (b : Bool) : (s.setDetail i b).window = s.window := rfl
@[simp] theorem State.setDetail_tick (s : State) (i : Nat) (b : Bool) : (s.setDetail i b).tick = s.tick := rfl
@[simp] theorem State.setDetail_ticking (s : State) (i : Nat) (b : Bool) : (s.setDetail i b).ticking = s.ticking := rfl
@[simp] theorem State.setDetail_timeNs (s : State) (i : Nat) (b : Bool) : (s.setDetail i b).timeNs = s.timeNs := rfl
@[simp] theorem State.setDetail_localNs (s : State) (i : Nat) (b : Bool) : (s.setDetail i b).localNs = s.localNs := rfl
@[simp] theorem State.setDetail_rtcNs (s : State) (i : Nat) (b : Bool) : (s.setDetail i b).rtcNs = s.rtcNs := rfl
@[simp] theorem State.setDetail_tickFlags (s : State) (i : Nat) (b : Bool) : (s.setDetail i b).tickFlags = s.tickFlags := rfl
@[simp] theorem State.setDetail_freeCount (s : State) (i : Nat) (b : Bool) : (s.setDetail i b).freeCount = s.freeCount := rfl
@[simp] theorem State.setDetail_out (s : State) (i : Nat) (b : Bool) : (s.setDetail i b).out = s.out := rfl
@[simp] theorem State.setDetail_pending (s : State) (i : Nat) (b : Bool) : (s.setDetail i b).pending = s.pending := rfl

/-! ### setStored -/

@[simp] theorem State.setStored_mode (s : State) (a : Nat) (v : Bytes) : (s.setStored a v).mode = s.mode := rfl
@[simp] theorem State.setStored_dict (s : State) (a : Nat) (v : Bytes) : (s.setStored a v).dict = Assoc.set s.dict a v := rfl
@[simp] theorem State.setStored_inForce (s : State) (a : Nat) (v : Bytes) : (s.setStored a v).inForce = s.inForce := rfl
@[simp] theorem State.setStored_stored (s : State) (a : Nat) (v : Bytes) : (s.setStored a v).stored = Assoc.set s.stored a v := rfl
@[simp] theorem State.setStored_storedLayout (s : State) (a : Nat) (v : Bytes) : (s.setStored a v).storedLayout = s.storedLayout := rfl
@[simp] theorem State.setStored_weftQueue (s : State) (a : Nat) (v : Bytes) : (s.setStored a v).weftQueue = s.weftQueue := rfl
@[simp] theorem State.setStored_ended (s : State) (a : Nat) (v : Bytes) : (s.setStored a v).ended = s.ended := rfl
@[simp] theorem State.setStored_shown (s : State) (a : Nat) (v : Bytes) : (s.setStored a v).shown = s.shown := rfl
@[simp] theorem State.setStored_keys (s : State) (a : Nat) (v : Bytes) : (s.setStored a v).keys = s.keys := rfl
@[simp] theorem State.setStored_domains (s : State) (a : Nat) (v : Bytes) : (s.setStored a v).domains = s.domains := rfl
@[simp] theorem State.setStored_command (s : State) (a : Nat) (v : Bytes) : (s.setStored a v).command = s.command := rfl
@[simp] theorem State.setStored_profileChange (s : State) (a : Nat) (v : Bytes) : (s.setStored a v).profileChange = s.profileChange := rfl
@[simp] theorem State.setStored_restore (s : State) (a : Nat) (v : Bytes) : (s.setStored a v).restore = s.restore := rfl
@[simp] theorem State.setStored_rst (s : State) (a : Nat) (v : Bytes) : (s.setStored a v).rst = s.rst := rfl
@[simp] theorem State.setStored_options (s : State) (a : Nat) (v : Bytes) : (s.setStored a v).options = s.options := rfl
@[simp] theorem State.setStored_tally (s : State) (a : Nat) (v : Bytes) : (s.setStored a v).tally = s.tally := rfl
@[simp] theorem State.setStored_face (s : State) (a : Nat) (v : Bytes) : (s.setStored a v).face = s.face := rfl
@[simp] theorem State.setStored_clp (s : State) (a : Nat) (v : Bytes) : (s.setStored a v).clp = s.clp := rfl
@[simp] theorem State.setStored_eng (s : State) (a : Nat) (v : Bytes) : (s.setStored a v).eng = s.eng := rfl
@[simp] theorem State.setStored_warp (s : State) (a : Nat) (v : Bytes) : (s.setStored a v).warp = s.warp := rfl
@[simp] theorem State.setStored_time (s : State) (a : Nat) (v : Bytes) : (s.setStored a v).time = s.time := rfl
@[simp] theorem State.setStored_can (s : State) (a : Nat) (v : Bytes) : (s.setStored a v).can = s.can := rfl
@[simp] theorem State.setStored_island (s : State) (a : Nat) (v : Bytes) : (s.setStored a v).island = s.island := rfl
@[simp] theorem State.setStored_io (s : State) (a : Nat) (v : Bytes) : (s.setStored a v).io = s.io := rfl
@[simp] theorem State.setStored_clocks (s : State) (a : Nat) (v : Bytes) : (s.setStored a v).clocks = s.clocks := rfl
@[simp] theorem State.setStored_pd (s : State) (a : Nat) (v : Bytes) : (s.setStored a v).pd = s.pd := rfl
@[simp] theorem State.setStored_stale (s : State) (a : Nat) (v : Bytes) : (s.setStored a v).stale = s.stale := rfl
@[simp] theorem State.setStored_pair (s : State) (a : Nat) (v : Bytes) : (s.setStored a v).pair = s.pair := rfl
@[simp] theorem State.setStored_prp (s : State) (a : Nat) (v : Bytes) : (s.setStored a v).prp = s.prp := rfl
@[simp] theorem State.setStored_firmware (s : State) (a : Nat) (v : Bytes) : (s.setStored a v).firmware = s.firmware := rfl
@[simp] theorem State.setStored_storeFault (s : State) (a : Nat) (v : Bytes) : (s.setStored a v).storeFault = s.storeFault := rfl
@[simp] theorem State.setStored_startTick (s : State) (a : Nat) (v : Bytes) : (s.setStored a v).startTick = s.startTick := rfl
@[simp] theorem State.setStored_captures (s : State) (a : Nat) (v : Bytes) : (s.setStored a v).captures = s.captures := rfl
@[simp] theorem State.setStored_loopsMissed (s : State) (a : Nat) (v : Bytes) : (s.setStored a v).loopsMissed = s.loopsMissed := rfl
@[simp] theorem State.setStored_loopsHeld (s : State) (a : Nat) (v : Bytes) : (s.setStored a v).loopsHeld = s.loopsHeld := rfl
@[simp] theorem State.setStored_tableRam (s : State) (a : Nat) (v : Bytes) : (s.setStored a v).tableRam = s.tableRam := rfl
@[simp] theorem State.setStored_store (s : State) (a : Nat) (v : Bytes) : (s.setStored a v).store = s.store := rfl
@[simp] theorem State.setStored_dram (s : State) (a : Nat) (v : Bytes) : (s.setStored a v).dram = s.dram := rfl
@[simp] theorem State.setStored_window (s : State) (a : Nat) (v : Bytes) : (s.setStored a v).window = s.window := rfl
@[simp] theorem State.setStored_tick (s : State) (a : Nat) (v : Bytes) : (s.setStored a v).tick = s.tick := rfl
@[simp] theorem State.setStored_ticking (s : State) (a : Nat) (v : Bytes) : (s.setStored a v).ticking = s.ticking := rfl
@[simp] theorem State.setStored_timeNs (s : State) (a : Nat) (v : Bytes) : (s.setStored a v).timeNs = s.timeNs := rfl
@[simp] theorem State.setStored_localNs (s : State) (a : Nat) (v : Bytes) : (s.setStored a v).localNs = s.localNs := rfl
@[simp] theorem State.setStored_rtcNs (s : State) (a : Nat) (v : Bytes) : (s.setStored a v).rtcNs = s.rtcNs := rfl
@[simp] theorem State.setStored_tickFlags (s : State) (a : Nat) (v : Bytes) : (s.setStored a v).tickFlags = s.tickFlags := rfl
@[simp] theorem State.setStored_freeCount (s : State) (a : Nat) (v : Bytes) : (s.setStored a v).freeCount = s.freeCount := rfl
@[simp] theorem State.setStored_out (s : State) (a : Nat) (v : Bytes) : (s.setStored a v).out = s.out := rfl
@[simp] theorem State.setStored_pending (s : State) (a : Nat) (v : Bytes) : (s.setStored a v).pending = s.pending := rfl

/-! ### setDomain -/

@[simp] theorem State.setDomain_mode (s : State) (a : Nat) (d : Domain) : (s.setDomain a d).mode = s.mode := rfl
@[simp] theorem State.setDomain_dict (s : State) (a : Nat) (d : Domain) : (s.setDomain a d).dict = s.dict := rfl
@[simp] theorem State.setDomain_inForce (s : State) (a : Nat) (d : Domain) : (s.setDomain a d).inForce = s.inForce := rfl
@[simp] theorem State.setDomain_stored (s : State) (a : Nat) (d : Domain) : (s.setDomain a d).stored = s.stored := rfl
@[simp] theorem State.setDomain_storedLayout (s : State) (a : Nat) (d : Domain) : (s.setDomain a d).storedLayout = s.storedLayout := rfl
@[simp] theorem State.setDomain_weftQueue (s : State) (a : Nat) (d : Domain) : (s.setDomain a d).weftQueue = s.weftQueue := rfl
@[simp] theorem State.setDomain_ended (s : State) (a : Nat) (d : Domain) : (s.setDomain a d).ended = s.ended := rfl
@[simp] theorem State.setDomain_shown (s : State) (a : Nat) (d : Domain) : (s.setDomain a d).shown = s.shown := rfl
@[simp] theorem State.setDomain_keys (s : State) (a : Nat) (d : Domain) : (s.setDomain a d).keys = s.keys := rfl
@[simp] theorem State.setDomain_domains (s : State) (a : Nat) (d : Domain) : (s.setDomain a d).domains = Assoc.set s.domains a d := rfl
@[simp] theorem State.setDomain_command (s : State) (a : Nat) (d : Domain) : (s.setDomain a d).command = s.command := rfl
@[simp] theorem State.setDomain_profileChange (s : State) (a : Nat) (d : Domain) : (s.setDomain a d).profileChange = s.profileChange := rfl
@[simp] theorem State.setDomain_restore (s : State) (a : Nat) (d : Domain) : (s.setDomain a d).restore = s.restore := rfl
@[simp] theorem State.setDomain_rst (s : State) (a : Nat) (d : Domain) : (s.setDomain a d).rst = s.rst := rfl
@[simp] theorem State.setDomain_options (s : State) (a : Nat) (d : Domain) : (s.setDomain a d).options = s.options := rfl
@[simp] theorem State.setDomain_tally (s : State) (a : Nat) (d : Domain) : (s.setDomain a d).tally = s.tally := rfl
@[simp] theorem State.setDomain_face (s : State) (a : Nat) (d : Domain) : (s.setDomain a d).face = s.face := rfl
@[simp] theorem State.setDomain_clp (s : State) (a : Nat) (d : Domain) : (s.setDomain a d).clp = s.clp := rfl
@[simp] theorem State.setDomain_eng (s : State) (a : Nat) (d : Domain) : (s.setDomain a d).eng = s.eng := rfl
@[simp] theorem State.setDomain_warp (s : State) (a : Nat) (d : Domain) : (s.setDomain a d).warp = s.warp := rfl
@[simp] theorem State.setDomain_time (s : State) (a : Nat) (d : Domain) : (s.setDomain a d).time = s.time := rfl
@[simp] theorem State.setDomain_can (s : State) (a : Nat) (d : Domain) : (s.setDomain a d).can = s.can := rfl
@[simp] theorem State.setDomain_island (s : State) (a : Nat) (d : Domain) : (s.setDomain a d).island = s.island := rfl
@[simp] theorem State.setDomain_io (s : State) (a : Nat) (d : Domain) : (s.setDomain a d).io = s.io := rfl
@[simp] theorem State.setDomain_clocks (s : State) (a : Nat) (d : Domain) : (s.setDomain a d).clocks = s.clocks := rfl
@[simp] theorem State.setDomain_pd (s : State) (a : Nat) (d : Domain) : (s.setDomain a d).pd = s.pd := rfl
@[simp] theorem State.setDomain_stale (s : State) (a : Nat) (d : Domain) : (s.setDomain a d).stale = s.stale := rfl
@[simp] theorem State.setDomain_pair (s : State) (a : Nat) (d : Domain) : (s.setDomain a d).pair = s.pair := rfl
@[simp] theorem State.setDomain_prp (s : State) (a : Nat) (d : Domain) : (s.setDomain a d).prp = s.prp := rfl
@[simp] theorem State.setDomain_firmware (s : State) (a : Nat) (d : Domain) : (s.setDomain a d).firmware = s.firmware := rfl
@[simp] theorem State.setDomain_storeFault (s : State) (a : Nat) (d : Domain) : (s.setDomain a d).storeFault = s.storeFault := rfl
@[simp] theorem State.setDomain_startTick (s : State) (a : Nat) (d : Domain) : (s.setDomain a d).startTick = s.startTick := rfl
@[simp] theorem State.setDomain_captures (s : State) (a : Nat) (d : Domain) : (s.setDomain a d).captures = s.captures := rfl
@[simp] theorem State.setDomain_loopsMissed (s : State) (a : Nat) (d : Domain) : (s.setDomain a d).loopsMissed = s.loopsMissed := rfl
@[simp] theorem State.setDomain_loopsHeld (s : State) (a : Nat) (d : Domain) : (s.setDomain a d).loopsHeld = s.loopsHeld := rfl
@[simp] theorem State.setDomain_tableRam (s : State) (a : Nat) (d : Domain) : (s.setDomain a d).tableRam = s.tableRam := rfl
@[simp] theorem State.setDomain_store (s : State) (a : Nat) (d : Domain) : (s.setDomain a d).store = s.store := rfl
@[simp] theorem State.setDomain_dram (s : State) (a : Nat) (d : Domain) : (s.setDomain a d).dram = s.dram := rfl
@[simp] theorem State.setDomain_window (s : State) (a : Nat) (d : Domain) : (s.setDomain a d).window = s.window := rfl
@[simp] theorem State.setDomain_tick (s : State) (a : Nat) (d : Domain) : (s.setDomain a d).tick = s.tick := rfl
@[simp] theorem State.setDomain_ticking (s : State) (a : Nat) (d : Domain) : (s.setDomain a d).ticking = s.ticking := rfl
@[simp] theorem State.setDomain_timeNs (s : State) (a : Nat) (d : Domain) : (s.setDomain a d).timeNs = s.timeNs := rfl
@[simp] theorem State.setDomain_localNs (s : State) (a : Nat) (d : Domain) : (s.setDomain a d).localNs = s.localNs := rfl
@[simp] theorem State.setDomain_rtcNs (s : State) (a : Nat) (d : Domain) : (s.setDomain a d).rtcNs = s.rtcNs := rfl
@[simp] theorem State.setDomain_tickFlags (s : State) (a : Nat) (d : Domain) : (s.setDomain a d).tickFlags = s.tickFlags := rfl
@[simp] theorem State.setDomain_freeCount (s : State) (a : Nat) (d : Domain) : (s.setDomain a d).freeCount = s.freeCount := rfl
@[simp] theorem State.setDomain_out (s : State) (a : Nat) (d : Domain) : (s.setDomain a d).out = s.out := rfl
@[simp] theorem State.setDomain_pending (s : State) (a : Nat) (d : Domain) : (s.setDomain a d).pending = s.pending := rfl

/-! ### issueTally -/

@[simp] theorem State.issueTally_mode (s : State) (code : Nat) (params : List Nat) : (s.issueTally code params).mode = s.mode := rfl
@[simp] theorem State.issueTally_dict (s : State) (code : Nat) (params : List Nat) : (s.issueTally code params).dict = s.dict := rfl
@[simp] theorem State.issueTally_inForce (s : State) (code : Nat) (params : List Nat) : (s.issueTally code params).inForce = s.inForce := rfl
@[simp] theorem State.issueTally_stored (s : State) (code : Nat) (params : List Nat) : (s.issueTally code params).stored = s.stored := rfl
@[simp] theorem State.issueTally_storedLayout (s : State) (code : Nat) (params : List Nat) : (s.issueTally code params).storedLayout = s.storedLayout := rfl
@[simp] theorem State.issueTally_weftQueue (s : State) (code : Nat) (params : List Nat) : (s.issueTally code params).weftQueue = s.weftQueue := rfl
@[simp] theorem State.issueTally_ended (s : State) (code : Nat) (params : List Nat) : (s.issueTally code params).ended = s.ended := rfl
@[simp] theorem State.issueTally_shown (s : State) (code : Nat) (params : List Nat) : (s.issueTally code params).shown = s.shown := rfl
@[simp] theorem State.issueTally_keys (s : State) (code : Nat) (params : List Nat) : (s.issueTally code params).keys = s.keys := rfl
@[simp] theorem State.issueTally_domains (s : State) (code : Nat) (params : List Nat) : (s.issueTally code params).domains = s.domains := rfl
@[simp] theorem State.issueTally_command (s : State) (code : Nat) (params : List Nat) : (s.issueTally code params).command = s.command := rfl
@[simp] theorem State.issueTally_profileChange (s : State) (code : Nat) (params : List Nat) : (s.issueTally code params).profileChange = s.profileChange := rfl
@[simp] theorem State.issueTally_restore (s : State) (code : Nat) (params : List Nat) : (s.issueTally code params).restore = s.restore := rfl
@[simp] theorem State.issueTally_rst (s : State) (code : Nat) (params : List Nat) : (s.issueTally code params).rst = s.rst := rfl
@[simp] theorem State.issueTally_options (s : State) (code : Nat) (params : List Nat) : (s.issueTally code params).options = s.options := rfl
@[simp] theorem State.issueTally_face (s : State) (code : Nat) (params : List Nat) : (s.issueTally code params).face = s.face := rfl
@[simp] theorem State.issueTally_clp (s : State) (code : Nat) (params : List Nat) : (s.issueTally code params).clp = s.clp := rfl
@[simp] theorem State.issueTally_eng (s : State) (code : Nat) (params : List Nat) : (s.issueTally code params).eng = s.eng := rfl
@[simp] theorem State.issueTally_warp (s : State) (code : Nat) (params : List Nat) : (s.issueTally code params).warp = s.warp := rfl
@[simp] theorem State.issueTally_time (s : State) (code : Nat) (params : List Nat) : (s.issueTally code params).time = s.time := rfl
@[simp] theorem State.issueTally_can (s : State) (code : Nat) (params : List Nat) : (s.issueTally code params).can = s.can := rfl
@[simp] theorem State.issueTally_island (s : State) (code : Nat) (params : List Nat) : (s.issueTally code params).island = s.island := rfl
@[simp] theorem State.issueTally_io (s : State) (code : Nat) (params : List Nat) : (s.issueTally code params).io = s.io := rfl
@[simp] theorem State.issueTally_clocks (s : State) (code : Nat) (params : List Nat) : (s.issueTally code params).clocks = s.clocks := rfl
@[simp] theorem State.issueTally_pd (s : State) (code : Nat) (params : List Nat) : (s.issueTally code params).pd = s.pd := rfl
@[simp] theorem State.issueTally_stale (s : State) (code : Nat) (params : List Nat) : (s.issueTally code params).stale = s.stale := rfl
@[simp] theorem State.issueTally_pair (s : State) (code : Nat) (params : List Nat) : (s.issueTally code params).pair = s.pair := rfl
@[simp] theorem State.issueTally_prp (s : State) (code : Nat) (params : List Nat) : (s.issueTally code params).prp = s.prp := rfl
@[simp] theorem State.issueTally_firmware (s : State) (code : Nat) (params : List Nat) : (s.issueTally code params).firmware = s.firmware := rfl
@[simp] theorem State.issueTally_storeFault (s : State) (code : Nat) (params : List Nat) : (s.issueTally code params).storeFault = s.storeFault := rfl
@[simp] theorem State.issueTally_startTick (s : State) (code : Nat) (params : List Nat) : (s.issueTally code params).startTick = s.startTick := rfl
@[simp] theorem State.issueTally_captures (s : State) (code : Nat) (params : List Nat) : (s.issueTally code params).captures = s.captures := rfl
@[simp] theorem State.issueTally_loopsMissed (s : State) (code : Nat) (params : List Nat) : (s.issueTally code params).loopsMissed = s.loopsMissed := rfl
@[simp] theorem State.issueTally_loopsHeld (s : State) (code : Nat) (params : List Nat) : (s.issueTally code params).loopsHeld = s.loopsHeld := rfl
@[simp] theorem State.issueTally_tableRam (s : State) (code : Nat) (params : List Nat) : (s.issueTally code params).tableRam = s.tableRam := rfl
@[simp] theorem State.issueTally_store (s : State) (code : Nat) (params : List Nat) : (s.issueTally code params).store = s.store := rfl
@[simp] theorem State.issueTally_dram (s : State) (code : Nat) (params : List Nat) : (s.issueTally code params).dram = s.dram := rfl
@[simp] theorem State.issueTally_window (s : State) (code : Nat) (params : List Nat) : (s.issueTally code params).window = s.window := rfl
@[simp] theorem State.issueTally_tick (s : State) (code : Nat) (params : List Nat) : (s.issueTally code params).tick = s.tick := rfl
@[simp] theorem State.issueTally_ticking (s : State) (code : Nat) (params : List Nat) : (s.issueTally code params).ticking = s.ticking := rfl
@[simp] theorem State.issueTally_timeNs (s : State) (code : Nat) (params : List Nat) : (s.issueTally code params).timeNs = s.timeNs := rfl
@[simp] theorem State.issueTally_localNs (s : State) (code : Nat) (params : List Nat) : (s.issueTally code params).localNs = s.localNs := rfl
@[simp] theorem State.issueTally_rtcNs (s : State) (code : Nat) (params : List Nat) : (s.issueTally code params).rtcNs = s.rtcNs := rfl
@[simp] theorem State.issueTally_tickFlags (s : State) (code : Nat) (params : List Nat) : (s.issueTally code params).tickFlags = s.tickFlags := rfl
@[simp] theorem State.issueTally_freeCount (s : State) (code : Nat) (params : List Nat) : (s.issueTally code params).freeCount = s.freeCount := rfl
@[simp] theorem State.issueTally_out (s : State) (code : Nat) (params : List Nat) : (s.issueTally code params).out = s.out := rfl
@[simp] theorem State.issueTally_pending (s : State) (code : Nat) (params : List Nat) : (s.issueTally code params).pending = s.pending := rfl

/-! ### issueStationTally -/

@[simp] theorem State.issueStationTally_mode (s : State) (code : Nat) (params : List Nat) : (s.issueStationTally code params).mode = s.mode := rfl
@[simp] theorem State.issueStationTally_dict (s : State) (code : Nat) (params : List Nat) : (s.issueStationTally code params).dict = s.dict := rfl
@[simp] theorem State.issueStationTally_inForce (s : State) (code : Nat) (params : List Nat) : (s.issueStationTally code params).inForce = s.inForce := rfl
@[simp] theorem State.issueStationTally_stored (s : State) (code : Nat) (params : List Nat) : (s.issueStationTally code params).stored = s.stored := rfl
@[simp] theorem State.issueStationTally_storedLayout (s : State) (code : Nat) (params : List Nat) : (s.issueStationTally code params).storedLayout = s.storedLayout := rfl
@[simp] theorem State.issueStationTally_weftQueue (s : State) (code : Nat) (params : List Nat) : (s.issueStationTally code params).weftQueue = s.weftQueue := rfl
@[simp] theorem State.issueStationTally_ended (s : State) (code : Nat) (params : List Nat) : (s.issueStationTally code params).ended = s.ended := rfl
@[simp] theorem State.issueStationTally_shown (s : State) (code : Nat) (params : List Nat) : (s.issueStationTally code params).shown = s.shown := rfl
@[simp] theorem State.issueStationTally_keys (s : State) (code : Nat) (params : List Nat) : (s.issueStationTally code params).keys = s.keys := rfl
@[simp] theorem State.issueStationTally_domains (s : State) (code : Nat) (params : List Nat) : (s.issueStationTally code params).domains = s.domains := rfl
@[simp] theorem State.issueStationTally_command (s : State) (code : Nat) (params : List Nat) : (s.issueStationTally code params).command = s.command := rfl
@[simp] theorem State.issueStationTally_profileChange (s : State) (code : Nat) (params : List Nat) : (s.issueStationTally code params).profileChange = s.profileChange := rfl
@[simp] theorem State.issueStationTally_restore (s : State) (code : Nat) (params : List Nat) : (s.issueStationTally code params).restore = s.restore := rfl
@[simp] theorem State.issueStationTally_rst (s : State) (code : Nat) (params : List Nat) : (s.issueStationTally code params).rst = s.rst := rfl
@[simp] theorem State.issueStationTally_options (s : State) (code : Nat) (params : List Nat) : (s.issueStationTally code params).options = s.options := rfl
@[simp] theorem State.issueStationTally_face (s : State) (code : Nat) (params : List Nat) : (s.issueStationTally code params).face = s.face := rfl
@[simp] theorem State.issueStationTally_clp (s : State) (code : Nat) (params : List Nat) : (s.issueStationTally code params).clp = s.clp := rfl
@[simp] theorem State.issueStationTally_eng (s : State) (code : Nat) (params : List Nat) : (s.issueStationTally code params).eng = s.eng := rfl
@[simp] theorem State.issueStationTally_warp (s : State) (code : Nat) (params : List Nat) : (s.issueStationTally code params).warp = s.warp := rfl
@[simp] theorem State.issueStationTally_time (s : State) (code : Nat) (params : List Nat) : (s.issueStationTally code params).time = s.time := rfl
@[simp] theorem State.issueStationTally_can (s : State) (code : Nat) (params : List Nat) : (s.issueStationTally code params).can = s.can := rfl
@[simp] theorem State.issueStationTally_island (s : State) (code : Nat) (params : List Nat) : (s.issueStationTally code params).island = s.island := rfl
@[simp] theorem State.issueStationTally_io (s : State) (code : Nat) (params : List Nat) : (s.issueStationTally code params).io = s.io := rfl
@[simp] theorem State.issueStationTally_clocks (s : State) (code : Nat) (params : List Nat) : (s.issueStationTally code params).clocks = s.clocks := rfl
@[simp] theorem State.issueStationTally_pd (s : State) (code : Nat) (params : List Nat) : (s.issueStationTally code params).pd = s.pd := rfl
@[simp] theorem State.issueStationTally_stale (s : State) (code : Nat) (params : List Nat) : (s.issueStationTally code params).stale = s.stale := rfl
@[simp] theorem State.issueStationTally_pair (s : State) (code : Nat) (params : List Nat) : (s.issueStationTally code params).pair = s.pair := rfl
@[simp] theorem State.issueStationTally_prp (s : State) (code : Nat) (params : List Nat) : (s.issueStationTally code params).prp = s.prp := rfl
@[simp] theorem State.issueStationTally_firmware (s : State) (code : Nat) (params : List Nat) : (s.issueStationTally code params).firmware = s.firmware := rfl
@[simp] theorem State.issueStationTally_storeFault (s : State) (code : Nat) (params : List Nat) : (s.issueStationTally code params).storeFault = s.storeFault := rfl
@[simp] theorem State.issueStationTally_startTick (s : State) (code : Nat) (params : List Nat) : (s.issueStationTally code params).startTick = s.startTick := rfl
@[simp] theorem State.issueStationTally_captures (s : State) (code : Nat) (params : List Nat) : (s.issueStationTally code params).captures = s.captures := rfl
@[simp] theorem State.issueStationTally_loopsMissed (s : State) (code : Nat) (params : List Nat) : (s.issueStationTally code params).loopsMissed = s.loopsMissed := rfl
@[simp] theorem State.issueStationTally_loopsHeld (s : State) (code : Nat) (params : List Nat) : (s.issueStationTally code params).loopsHeld = s.loopsHeld := rfl
@[simp] theorem State.issueStationTally_tableRam (s : State) (code : Nat) (params : List Nat) : (s.issueStationTally code params).tableRam = s.tableRam := rfl
@[simp] theorem State.issueStationTally_store (s : State) (code : Nat) (params : List Nat) : (s.issueStationTally code params).store = s.store := rfl
@[simp] theorem State.issueStationTally_dram (s : State) (code : Nat) (params : List Nat) : (s.issueStationTally code params).dram = s.dram := rfl
@[simp] theorem State.issueStationTally_window (s : State) (code : Nat) (params : List Nat) : (s.issueStationTally code params).window = s.window := rfl
@[simp] theorem State.issueStationTally_tick (s : State) (code : Nat) (params : List Nat) : (s.issueStationTally code params).tick = s.tick := rfl
@[simp] theorem State.issueStationTally_ticking (s : State) (code : Nat) (params : List Nat) : (s.issueStationTally code params).ticking = s.ticking := rfl
@[simp] theorem State.issueStationTally_timeNs (s : State) (code : Nat) (params : List Nat) : (s.issueStationTally code params).timeNs = s.timeNs := rfl
@[simp] theorem State.issueStationTally_localNs (s : State) (code : Nat) (params : List Nat) : (s.issueStationTally code params).localNs = s.localNs := rfl
@[simp] theorem State.issueStationTally_rtcNs (s : State) (code : Nat) (params : List Nat) : (s.issueStationTally code params).rtcNs = s.rtcNs := rfl
@[simp] theorem State.issueStationTally_tickFlags (s : State) (code : Nat) (params : List Nat) : (s.issueStationTally code params).tickFlags = s.tickFlags := rfl
@[simp] theorem State.issueStationTally_freeCount (s : State) (code : Nat) (params : List Nat) : (s.issueStationTally code params).freeCount = s.freeCount := rfl
@[simp] theorem State.issueStationTally_out (s : State) (code : Nat) (params : List Nat) : (s.issueStationTally code params).out = s.out := rfl
@[simp] theorem State.issueStationTally_pending (s : State) (code : Nat) (params : List Nat) : (s.issueStationTally code params).pending = s.pending := rfl

/-! ### send -/

@[simp] theorem State.send_mode (s : State) (kind : SentKind) (unit peer : Nat) (data : Bytes) : (s.send kind unit peer data).mode = s.mode := rfl
@[simp] theorem State.send_dict (s : State) (kind : SentKind) (unit peer : Nat) (data : Bytes) : (s.send kind unit peer data).dict = s.dict := rfl
@[simp] theorem State.send_inForce (s : State) (kind : SentKind) (unit peer : Nat) (data : Bytes) : (s.send kind unit peer data).inForce = s.inForce := rfl
@[simp] theorem State.send_stored (s : State) (kind : SentKind) (unit peer : Nat) (data : Bytes) : (s.send kind unit peer data).stored = s.stored := rfl
@[simp] theorem State.send_storedLayout (s : State) (kind : SentKind) (unit peer : Nat) (data : Bytes) : (s.send kind unit peer data).storedLayout = s.storedLayout := rfl
@[simp] theorem State.send_weftQueue (s : State) (kind : SentKind) (unit peer : Nat) (data : Bytes) : (s.send kind unit peer data).weftQueue = s.weftQueue := rfl
@[simp] theorem State.send_ended (s : State) (kind : SentKind) (unit peer : Nat) (data : Bytes) : (s.send kind unit peer data).ended = s.ended := rfl
@[simp] theorem State.send_shown (s : State) (kind : SentKind) (unit peer : Nat) (data : Bytes) : (s.send kind unit peer data).shown = s.shown := rfl
@[simp] theorem State.send_keys (s : State) (kind : SentKind) (unit peer : Nat) (data : Bytes) : (s.send kind unit peer data).keys = s.keys := rfl
@[simp] theorem State.send_domains (s : State) (kind : SentKind) (unit peer : Nat) (data : Bytes) : (s.send kind unit peer data).domains = s.domains := rfl
@[simp] theorem State.send_command (s : State) (kind : SentKind) (unit peer : Nat) (data : Bytes) : (s.send kind unit peer data).command = s.command := rfl
@[simp] theorem State.send_profileChange (s : State) (kind : SentKind) (unit peer : Nat) (data : Bytes) : (s.send kind unit peer data).profileChange = s.profileChange := rfl
@[simp] theorem State.send_restore (s : State) (kind : SentKind) (unit peer : Nat) (data : Bytes) : (s.send kind unit peer data).restore = s.restore := rfl
@[simp] theorem State.send_rst (s : State) (kind : SentKind) (unit peer : Nat) (data : Bytes) : (s.send kind unit peer data).rst = s.rst := rfl
@[simp] theorem State.send_options (s : State) (kind : SentKind) (unit peer : Nat) (data : Bytes) : (s.send kind unit peer data).options = s.options := rfl
@[simp] theorem State.send_tally (s : State) (kind : SentKind) (unit peer : Nat) (data : Bytes) : (s.send kind unit peer data).tally = s.tally := rfl
@[simp] theorem State.send_face (s : State) (kind : SentKind) (unit peer : Nat) (data : Bytes) : (s.send kind unit peer data).face = s.face := rfl
@[simp] theorem State.send_clp (s : State) (kind : SentKind) (unit peer : Nat) (data : Bytes) : (s.send kind unit peer data).clp = s.clp := rfl
@[simp] theorem State.send_eng (s : State) (kind : SentKind) (unit peer : Nat) (data : Bytes) : (s.send kind unit peer data).eng = s.eng := rfl
@[simp] theorem State.send_warp (s : State) (kind : SentKind) (unit peer : Nat) (data : Bytes) : (s.send kind unit peer data).warp = s.warp := rfl
@[simp] theorem State.send_time (s : State) (kind : SentKind) (unit peer : Nat) (data : Bytes) : (s.send kind unit peer data).time = s.time := rfl
@[simp] theorem State.send_can (s : State) (kind : SentKind) (unit peer : Nat) (data : Bytes) : (s.send kind unit peer data).can = s.can := rfl
@[simp] theorem State.send_island (s : State) (kind : SentKind) (unit peer : Nat) (data : Bytes) : (s.send kind unit peer data).island = s.island := rfl
@[simp] theorem State.send_io (s : State) (kind : SentKind) (unit peer : Nat) (data : Bytes) : (s.send kind unit peer data).io = s.io := rfl
@[simp] theorem State.send_clocks (s : State) (kind : SentKind) (unit peer : Nat) (data : Bytes) : (s.send kind unit peer data).clocks = s.clocks := rfl
@[simp] theorem State.send_pd (s : State) (kind : SentKind) (unit peer : Nat) (data : Bytes) : (s.send kind unit peer data).pd = s.pd := rfl
@[simp] theorem State.send_stale (s : State) (kind : SentKind) (unit peer : Nat) (data : Bytes) : (s.send kind unit peer data).stale = s.stale := rfl
@[simp] theorem State.send_pair (s : State) (kind : SentKind) (unit peer : Nat) (data : Bytes) : (s.send kind unit peer data).pair = s.pair := rfl
@[simp] theorem State.send_prp (s : State) (kind : SentKind) (unit peer : Nat) (data : Bytes) : (s.send kind unit peer data).prp = s.prp := rfl
@[simp] theorem State.send_firmware (s : State) (kind : SentKind) (unit peer : Nat) (data : Bytes) : (s.send kind unit peer data).firmware = s.firmware := rfl
@[simp] theorem State.send_storeFault (s : State) (kind : SentKind) (unit peer : Nat) (data : Bytes) : (s.send kind unit peer data).storeFault = s.storeFault := rfl
@[simp] theorem State.send_startTick (s : State) (kind : SentKind) (unit peer : Nat) (data : Bytes) : (s.send kind unit peer data).startTick = s.startTick := rfl
@[simp] theorem State.send_captures (s : State) (kind : SentKind) (unit peer : Nat) (data : Bytes) : (s.send kind unit peer data).captures = s.captures := rfl
@[simp] theorem State.send_loopsMissed (s : State) (kind : SentKind) (unit peer : Nat) (data : Bytes) : (s.send kind unit peer data).loopsMissed = s.loopsMissed := rfl
@[simp] theorem State.send_loopsHeld (s : State) (kind : SentKind) (unit peer : Nat) (data : Bytes) : (s.send kind unit peer data).loopsHeld = s.loopsHeld := rfl
@[simp] theorem State.send_tableRam (s : State) (kind : SentKind) (unit peer : Nat) (data : Bytes) : (s.send kind unit peer data).tableRam = s.tableRam := rfl
@[simp] theorem State.send_store (s : State) (kind : SentKind) (unit peer : Nat) (data : Bytes) : (s.send kind unit peer data).store = s.store := rfl
@[simp] theorem State.send_dram (s : State) (kind : SentKind) (unit peer : Nat) (data : Bytes) : (s.send kind unit peer data).dram = s.dram := rfl
@[simp] theorem State.send_window (s : State) (kind : SentKind) (unit peer : Nat) (data : Bytes) : (s.send kind unit peer data).window = s.window := rfl
@[simp] theorem State.send_tick (s : State) (kind : SentKind) (unit peer : Nat) (data : Bytes) : (s.send kind unit peer data).tick = s.tick := rfl
@[simp] theorem State.send_ticking (s : State) (kind : SentKind) (unit peer : Nat) (data : Bytes) : (s.send kind unit peer data).ticking = s.ticking := rfl
@[simp] theorem State.send_timeNs (s : State) (kind : SentKind) (unit peer : Nat) (data : Bytes) : (s.send kind unit peer data).timeNs = s.timeNs := rfl
@[simp] theorem State.send_localNs (s : State) (kind : SentKind) (unit peer : Nat) (data : Bytes) : (s.send kind unit peer data).localNs = s.localNs := rfl
@[simp] theorem State.send_rtcNs (s : State) (kind : SentKind) (unit peer : Nat) (data : Bytes) : (s.send kind unit peer data).rtcNs = s.rtcNs := rfl
@[simp] theorem State.send_tickFlags (s : State) (kind : SentKind) (unit peer : Nat) (data : Bytes) : (s.send kind unit peer data).tickFlags = s.tickFlags := rfl
@[simp] theorem State.send_freeCount (s : State) (kind : SentKind) (unit peer : Nat) (data : Bytes) : (s.send kind unit peer data).freeCount = s.freeCount := rfl
@[simp] theorem State.send_out (s : State) (kind : SentKind) (unit peer : Nat) (data : Bytes) : (s.send kind unit peer data).out = s.out ++ [⟨kind, unit, peer, data, none⟩] := rfl
@[simp] theorem State.send_pending (s : State) (kind : SentKind) (unit peer : Nat) (data : Bytes) : (s.send kind unit peer data).pending = s.pending := rfl

/-! ### advance -/

@[simp] theorem State.advance_mode (s : State) (ns : Nat) : (s.advance ns).mode = s.mode := rfl
@[simp] theorem State.advance_dict (s : State) (ns : Nat) : (s.advance ns).dict = s.dict := rfl
@[simp] theorem State.advance_inForce (s : State) (ns : Nat) : (s.advance ns).inForce = s.inForce := rfl
@[simp] theorem State.advance_stored (s : State) (ns : Nat) : (s.advance ns).stored = s.stored := rfl
@[simp] theorem State.advance_storedLayout (s : State) (ns : Nat) : (s.advance ns).storedLayout = s.storedLayout := rfl
@[simp] theorem State.advance_weftQueue (s : State) (ns : Nat) : (s.advance ns).weftQueue = s.weftQueue := rfl
@[simp] theorem State.advance_ended (s : State) (ns : Nat) : (s.advance ns).ended = s.ended := rfl
@[simp] theorem State.advance_shown (s : State) (ns : Nat) : (s.advance ns).shown = s.shown := rfl
@[simp] theorem State.advance_keys (s : State) (ns : Nat) : (s.advance ns).keys = s.keys := rfl
@[simp] theorem State.advance_domains (s : State) (ns : Nat) : (s.advance ns).domains = s.domains := rfl
@[simp] theorem State.advance_command (s : State) (ns : Nat) : (s.advance ns).command = s.command := rfl
@[simp] theorem State.advance_profileChange (s : State) (ns : Nat) : (s.advance ns).profileChange = s.profileChange := rfl
@[simp] theorem State.advance_restore (s : State) (ns : Nat) : (s.advance ns).restore = s.restore := rfl
@[simp] theorem State.advance_rst (s : State) (ns : Nat) : (s.advance ns).rst = s.rst := rfl
@[simp] theorem State.advance_options (s : State) (ns : Nat) : (s.advance ns).options = s.options := rfl
@[simp] theorem State.advance_tally (s : State) (ns : Nat) : (s.advance ns).tally = s.tally := rfl
@[simp] theorem State.advance_face (s : State) (ns : Nat) : (s.advance ns).face = s.face := rfl
@[simp] theorem State.advance_clp (s : State) (ns : Nat) : (s.advance ns).clp = s.clp := rfl
@[simp] theorem State.advance_eng (s : State) (ns : Nat) : (s.advance ns).eng = s.eng := rfl
@[simp] theorem State.advance_warp (s : State) (ns : Nat) : (s.advance ns).warp = s.warp := rfl
@[simp] theorem State.advance_time (s : State) (ns : Nat) : (s.advance ns).time = s.time := rfl
@[simp] theorem State.advance_can (s : State) (ns : Nat) : (s.advance ns).can = s.can := rfl
@[simp] theorem State.advance_island (s : State) (ns : Nat) : (s.advance ns).island = s.island := rfl
@[simp] theorem State.advance_io (s : State) (ns : Nat) : (s.advance ns).io = s.io := rfl
@[simp] theorem State.advance_clocks (s : State) (ns : Nat) : (s.advance ns).clocks = s.clocks := rfl
@[simp] theorem State.advance_pd (s : State) (ns : Nat) : (s.advance ns).pd = s.pd := rfl
@[simp] theorem State.advance_stale (s : State) (ns : Nat) : (s.advance ns).stale = s.stale := rfl
@[simp] theorem State.advance_pair (s : State) (ns : Nat) : (s.advance ns).pair = s.pair := rfl
@[simp] theorem State.advance_prp (s : State) (ns : Nat) : (s.advance ns).prp = s.prp := rfl
@[simp] theorem State.advance_firmware (s : State) (ns : Nat) : (s.advance ns).firmware = s.firmware := rfl
@[simp] theorem State.advance_storeFault (s : State) (ns : Nat) : (s.advance ns).storeFault = s.storeFault := rfl
@[simp] theorem State.advance_startTick (s : State) (ns : Nat) : (s.advance ns).startTick = s.startTick := rfl
@[simp] theorem State.advance_captures (s : State) (ns : Nat) : (s.advance ns).captures = s.captures := rfl
@[simp] theorem State.advance_loopsMissed (s : State) (ns : Nat) : (s.advance ns).loopsMissed = s.loopsMissed := rfl
@[simp] theorem State.advance_loopsHeld (s : State) (ns : Nat) : (s.advance ns).loopsHeld = s.loopsHeld := rfl
@[simp] theorem State.advance_tableRam (s : State) (ns : Nat) : (s.advance ns).tableRam = s.tableRam := rfl
@[simp] theorem State.advance_store (s : State) (ns : Nat) : (s.advance ns).store = s.store := rfl
@[simp] theorem State.advance_dram (s : State) (ns : Nat) : (s.advance ns).dram = s.dram := rfl
@[simp] theorem State.advance_window (s : State) (ns : Nat) : (s.advance ns).window = s.window := rfl
@[simp] theorem State.advance_tick (s : State) (ns : Nat) : (s.advance ns).tick = s.tick := rfl
@[simp] theorem State.advance_ticking (s : State) (ns : Nat) : (s.advance ns).ticking = s.ticking := rfl
@[simp] theorem State.advance_timeNs (s : State) (ns : Nat) : (s.advance ns).timeNs = s.timeNs + ns := rfl
@[simp] theorem State.advance_localNs (s : State) (ns : Nat) : (s.advance ns).localNs = s.localNs + ns := rfl
@[simp] theorem State.advance_rtcNs (s : State) (ns : Nat) : (s.advance ns).rtcNs = s.rtcNs + ns := rfl
@[simp] theorem State.advance_tickFlags (s : State) (ns : Nat) : (s.advance ns).tickFlags = s.tickFlags := rfl
@[simp] theorem State.advance_freeCount (s : State) (ns : Nat) : (s.advance ns).freeCount = s.freeCount := rfl
@[simp] theorem State.advance_out (s : State) (ns : Nat) : (s.advance ns).out = s.out := rfl
@[simp] theorem State.advance_pending (s : State) (ns : Nat) : (s.advance ns).pending = s.pending := rfl

/-! ### atOffset -/

@[simp] theorem State.atOffset_mode (s : State) (ns : Nat) : (s.atOffset ns).mode = s.mode := State.advance_mode s _
@[simp] theorem State.atOffset_dict (s : State) (ns : Nat) : (s.atOffset ns).dict = s.dict := State.advance_dict s _
@[simp] theorem State.atOffset_inForce (s : State) (ns : Nat) : (s.atOffset ns).inForce = s.inForce := State.advance_inForce s _
@[simp] theorem State.atOffset_stored (s : State) (ns : Nat) : (s.atOffset ns).stored = s.stored := State.advance_stored s _
@[simp] theorem State.atOffset_storedLayout (s : State) (ns : Nat) : (s.atOffset ns).storedLayout = s.storedLayout := State.advance_storedLayout s _
@[simp] theorem State.atOffset_weftQueue (s : State) (ns : Nat) : (s.atOffset ns).weftQueue = s.weftQueue := State.advance_weftQueue s _
@[simp] theorem State.atOffset_ended (s : State) (ns : Nat) : (s.atOffset ns).ended = s.ended := State.advance_ended s _
@[simp] theorem State.atOffset_shown (s : State) (ns : Nat) : (s.atOffset ns).shown = s.shown := State.advance_shown s _
@[simp] theorem State.atOffset_keys (s : State) (ns : Nat) : (s.atOffset ns).keys = s.keys := State.advance_keys s _
@[simp] theorem State.atOffset_domains (s : State) (ns : Nat) : (s.atOffset ns).domains = s.domains := State.advance_domains s _
@[simp] theorem State.atOffset_command (s : State) (ns : Nat) : (s.atOffset ns).command = s.command := State.advance_command s _
@[simp] theorem State.atOffset_profileChange (s : State) (ns : Nat) : (s.atOffset ns).profileChange = s.profileChange := State.advance_profileChange s _
@[simp] theorem State.atOffset_restore (s : State) (ns : Nat) : (s.atOffset ns).restore = s.restore := State.advance_restore s _
@[simp] theorem State.atOffset_rst (s : State) (ns : Nat) : (s.atOffset ns).rst = s.rst := State.advance_rst s _
@[simp] theorem State.atOffset_options (s : State) (ns : Nat) : (s.atOffset ns).options = s.options := State.advance_options s _
@[simp] theorem State.atOffset_tally (s : State) (ns : Nat) : (s.atOffset ns).tally = s.tally := State.advance_tally s _
@[simp] theorem State.atOffset_face (s : State) (ns : Nat) : (s.atOffset ns).face = s.face := State.advance_face s _
@[simp] theorem State.atOffset_clp (s : State) (ns : Nat) : (s.atOffset ns).clp = s.clp := State.advance_clp s _
@[simp] theorem State.atOffset_eng (s : State) (ns : Nat) : (s.atOffset ns).eng = s.eng := State.advance_eng s _
@[simp] theorem State.atOffset_warp (s : State) (ns : Nat) : (s.atOffset ns).warp = s.warp := State.advance_warp s _
@[simp] theorem State.atOffset_time (s : State) (ns : Nat) : (s.atOffset ns).time = s.time := State.advance_time s _
@[simp] theorem State.atOffset_can (s : State) (ns : Nat) : (s.atOffset ns).can = s.can := State.advance_can s _
@[simp] theorem State.atOffset_island (s : State) (ns : Nat) : (s.atOffset ns).island = s.island := State.advance_island s _
@[simp] theorem State.atOffset_io (s : State) (ns : Nat) : (s.atOffset ns).io = s.io := State.advance_io s _
@[simp] theorem State.atOffset_clocks (s : State) (ns : Nat) : (s.atOffset ns).clocks = s.clocks := State.advance_clocks s _
@[simp] theorem State.atOffset_pd (s : State) (ns : Nat) : (s.atOffset ns).pd = s.pd := State.advance_pd s _
@[simp] theorem State.atOffset_stale (s : State) (ns : Nat) : (s.atOffset ns).stale = s.stale := State.advance_stale s _
@[simp] theorem State.atOffset_pair (s : State) (ns : Nat) : (s.atOffset ns).pair = s.pair := State.advance_pair s _
@[simp] theorem State.atOffset_prp (s : State) (ns : Nat) : (s.atOffset ns).prp = s.prp := State.advance_prp s _
@[simp] theorem State.atOffset_firmware (s : State) (ns : Nat) : (s.atOffset ns).firmware = s.firmware := State.advance_firmware s _
@[simp] theorem State.atOffset_storeFault (s : State) (ns : Nat) : (s.atOffset ns).storeFault = s.storeFault := State.advance_storeFault s _
@[simp] theorem State.atOffset_startTick (s : State) (ns : Nat) : (s.atOffset ns).startTick = s.startTick := State.advance_startTick s _
@[simp] theorem State.atOffset_captures (s : State) (ns : Nat) : (s.atOffset ns).captures = s.captures := State.advance_captures s _
@[simp] theorem State.atOffset_loopsMissed (s : State) (ns : Nat) : (s.atOffset ns).loopsMissed = s.loopsMissed := State.advance_loopsMissed s _
@[simp] theorem State.atOffset_loopsHeld (s : State) (ns : Nat) : (s.atOffset ns).loopsHeld = s.loopsHeld := State.advance_loopsHeld s _
@[simp] theorem State.atOffset_tableRam (s : State) (ns : Nat) : (s.atOffset ns).tableRam = s.tableRam := State.advance_tableRam s _
@[simp] theorem State.atOffset_store (s : State) (ns : Nat) : (s.atOffset ns).store = s.store := State.advance_store s _
@[simp] theorem State.atOffset_dram (s : State) (ns : Nat) : (s.atOffset ns).dram = s.dram := State.advance_dram s _
@[simp] theorem State.atOffset_window (s : State) (ns : Nat) : (s.atOffset ns).window = s.window := State.advance_window s _
@[simp] theorem State.atOffset_tick (s : State) (ns : Nat) : (s.atOffset ns).tick = s.tick := State.advance_tick s _
@[simp] theorem State.atOffset_ticking (s : State) (ns : Nat) : (s.atOffset ns).ticking = s.ticking := State.advance_ticking s _
@[simp] theorem State.atOffset_tickFlags (s : State) (ns : Nat) : (s.atOffset ns).tickFlags = s.tickFlags := State.advance_tickFlags s _
@[simp] theorem State.atOffset_freeCount (s : State) (ns : Nat) : (s.atOffset ns).freeCount = s.freeCount := State.advance_freeCount s _
@[simp] theorem State.atOffset_out (s : State) (ns : Nat) : (s.atOffset ns).out = s.out := State.advance_out s _
@[simp] theorem State.atOffset_pending (s : State) (ns : Nat) : (s.atOffset ns).pending = s.pending := State.advance_pending s _

/-! ### storePut -/

@[simp] theorem State.storePut_mode (s : State) (a : Nat) (bs : Bytes) : (s.storePut a bs).mode = s.mode := rfl
@[simp] theorem State.storePut_dict (s : State) (a : Nat) (bs : Bytes) : (s.storePut a bs).dict = s.dict := rfl
@[simp] theorem State.storePut_inForce (s : State) (a : Nat) (bs : Bytes) : (s.storePut a bs).inForce = s.inForce := rfl
@[simp] theorem State.storePut_stored (s : State) (a : Nat) (bs : Bytes) : (s.storePut a bs).stored = s.stored := rfl
@[simp] theorem State.storePut_storedLayout (s : State) (a : Nat) (bs : Bytes) : (s.storePut a bs).storedLayout = s.storedLayout := rfl
@[simp] theorem State.storePut_weftQueue (s : State) (a : Nat) (bs : Bytes) : (s.storePut a bs).weftQueue = s.weftQueue := rfl
@[simp] theorem State.storePut_ended (s : State) (a : Nat) (bs : Bytes) : (s.storePut a bs).ended = s.ended := rfl
@[simp] theorem State.storePut_shown (s : State) (a : Nat) (bs : Bytes) : (s.storePut a bs).shown = s.shown := rfl
@[simp] theorem State.storePut_keys (s : State) (a : Nat) (bs : Bytes) : (s.storePut a bs).keys = s.keys := rfl
@[simp] theorem State.storePut_domains (s : State) (a : Nat) (bs : Bytes) : (s.storePut a bs).domains = s.domains := rfl
@[simp] theorem State.storePut_command (s : State) (a : Nat) (bs : Bytes) : (s.storePut a bs).command = s.command := rfl
@[simp] theorem State.storePut_profileChange (s : State) (a : Nat) (bs : Bytes) : (s.storePut a bs).profileChange = s.profileChange := rfl
@[simp] theorem State.storePut_restore (s : State) (a : Nat) (bs : Bytes) : (s.storePut a bs).restore = s.restore := rfl
@[simp] theorem State.storePut_rst (s : State) (a : Nat) (bs : Bytes) : (s.storePut a bs).rst = s.rst := rfl
@[simp] theorem State.storePut_options (s : State) (a : Nat) (bs : Bytes) : (s.storePut a bs).options = s.options := rfl
@[simp] theorem State.storePut_tally (s : State) (a : Nat) (bs : Bytes) : (s.storePut a bs).tally = s.tally := rfl
@[simp] theorem State.storePut_face (s : State) (a : Nat) (bs : Bytes) : (s.storePut a bs).face = s.face := rfl
@[simp] theorem State.storePut_clp (s : State) (a : Nat) (bs : Bytes) : (s.storePut a bs).clp = s.clp := rfl
@[simp] theorem State.storePut_eng (s : State) (a : Nat) (bs : Bytes) : (s.storePut a bs).eng = s.eng := rfl
@[simp] theorem State.storePut_warp (s : State) (a : Nat) (bs : Bytes) : (s.storePut a bs).warp = s.warp := rfl
@[simp] theorem State.storePut_time (s : State) (a : Nat) (bs : Bytes) : (s.storePut a bs).time = s.time := rfl
@[simp] theorem State.storePut_can (s : State) (a : Nat) (bs : Bytes) : (s.storePut a bs).can = s.can := rfl
@[simp] theorem State.storePut_island (s : State) (a : Nat) (bs : Bytes) : (s.storePut a bs).island = s.island := rfl
@[simp] theorem State.storePut_io (s : State) (a : Nat) (bs : Bytes) : (s.storePut a bs).io = s.io := rfl
@[simp] theorem State.storePut_clocks (s : State) (a : Nat) (bs : Bytes) : (s.storePut a bs).clocks = s.clocks := rfl
@[simp] theorem State.storePut_pd (s : State) (a : Nat) (bs : Bytes) : (s.storePut a bs).pd = s.pd := rfl
@[simp] theorem State.storePut_stale (s : State) (a : Nat) (bs : Bytes) : (s.storePut a bs).stale = s.stale := rfl
@[simp] theorem State.storePut_pair (s : State) (a : Nat) (bs : Bytes) : (s.storePut a bs).pair = s.pair := rfl
@[simp] theorem State.storePut_prp (s : State) (a : Nat) (bs : Bytes) : (s.storePut a bs).prp = s.prp := rfl
@[simp] theorem State.storePut_firmware (s : State) (a : Nat) (bs : Bytes) : (s.storePut a bs).firmware = s.firmware := rfl
@[simp] theorem State.storePut_storeFault (s : State) (a : Nat) (bs : Bytes) : (s.storePut a bs).storeFault = s.storeFault := rfl
@[simp] theorem State.storePut_startTick (s : State) (a : Nat) (bs : Bytes) : (s.storePut a bs).startTick = s.startTick := rfl
@[simp] theorem State.storePut_captures (s : State) (a : Nat) (bs : Bytes) : (s.storePut a bs).captures = s.captures := rfl
@[simp] theorem State.storePut_loopsMissed (s : State) (a : Nat) (bs : Bytes) : (s.storePut a bs).loopsMissed = s.loopsMissed := rfl
@[simp] theorem State.storePut_loopsHeld (s : State) (a : Nat) (bs : Bytes) : (s.storePut a bs).loopsHeld = s.loopsHeld := rfl
@[simp] theorem State.storePut_tableRam (s : State) (a : Nat) (bs : Bytes) : (s.storePut a bs).tableRam = s.tableRam := rfl
@[simp] theorem State.storePut_store (s : State) (a : Nat) (bs : Bytes) : (s.storePut a bs).store = Mem.write s.store a bs := rfl
@[simp] theorem State.storePut_dram (s : State) (a : Nat) (bs : Bytes) : (s.storePut a bs).dram = s.dram := rfl
@[simp] theorem State.storePut_window (s : State) (a : Nat) (bs : Bytes) : (s.storePut a bs).window = s.window := rfl
@[simp] theorem State.storePut_tick (s : State) (a : Nat) (bs : Bytes) : (s.storePut a bs).tick = s.tick := rfl
@[simp] theorem State.storePut_ticking (s : State) (a : Nat) (bs : Bytes) : (s.storePut a bs).ticking = s.ticking := rfl
@[simp] theorem State.storePut_timeNs (s : State) (a : Nat) (bs : Bytes) : (s.storePut a bs).timeNs = s.timeNs := rfl
@[simp] theorem State.storePut_localNs (s : State) (a : Nat) (bs : Bytes) : (s.storePut a bs).localNs = s.localNs := rfl
@[simp] theorem State.storePut_rtcNs (s : State) (a : Nat) (bs : Bytes) : (s.storePut a bs).rtcNs = s.rtcNs := rfl
@[simp] theorem State.storePut_tickFlags (s : State) (a : Nat) (bs : Bytes) : (s.storePut a bs).tickFlags = s.tickFlags := rfl
@[simp] theorem State.storePut_freeCount (s : State) (a : Nat) (bs : Bytes) : (s.storePut a bs).freeCount = s.freeCount := rfl
@[simp] theorem State.storePut_out (s : State) (a : Nat) (bs : Bytes) : (s.storePut a bs).out = s.out := rfl
@[simp] theorem State.storePut_pending (s : State) (a : Nat) (bs : Bytes) : (s.storePut a bs).pending = s.pending := rfl

/-! ### storePutNat -/

@[simp] theorem State.storePutNat_mode (s : State) (a n v : Nat) : (s.storePutNat a n v).mode = s.mode := rfl
@[simp] theorem State.storePutNat_dict (s : State) (a n v : Nat) : (s.storePutNat a n v).dict = s.dict := rfl
@[simp] theorem State.storePutNat_inForce (s : State) (a n v : Nat) : (s.storePutNat a n v).inForce = s.inForce := rfl
@[simp] theorem State.storePutNat_stored (s : State) (a n v : Nat) : (s.storePutNat a n v).stored = s.stored := rfl
@[simp] theorem State.storePutNat_storedLayout (s : State) (a n v : Nat) : (s.storePutNat a n v).storedLayout = s.storedLayout := rfl
@[simp] theorem State.storePutNat_weftQueue (s : State) (a n v : Nat) : (s.storePutNat a n v).weftQueue = s.weftQueue := rfl
@[simp] theorem State.storePutNat_ended (s : State) (a n v : Nat) : (s.storePutNat a n v).ended = s.ended := rfl
@[simp] theorem State.storePutNat_shown (s : State) (a n v : Nat) : (s.storePutNat a n v).shown = s.shown := rfl
@[simp] theorem State.storePutNat_keys (s : State) (a n v : Nat) : (s.storePutNat a n v).keys = s.keys := rfl
@[simp] theorem State.storePutNat_domains (s : State) (a n v : Nat) : (s.storePutNat a n v).domains = s.domains := rfl
@[simp] theorem State.storePutNat_command (s : State) (a n v : Nat) : (s.storePutNat a n v).command = s.command := rfl
@[simp] theorem State.storePutNat_profileChange (s : State) (a n v : Nat) : (s.storePutNat a n v).profileChange = s.profileChange := rfl
@[simp] theorem State.storePutNat_restore (s : State) (a n v : Nat) : (s.storePutNat a n v).restore = s.restore := rfl
@[simp] theorem State.storePutNat_rst (s : State) (a n v : Nat) : (s.storePutNat a n v).rst = s.rst := rfl
@[simp] theorem State.storePutNat_options (s : State) (a n v : Nat) : (s.storePutNat a n v).options = s.options := rfl
@[simp] theorem State.storePutNat_tally (s : State) (a n v : Nat) : (s.storePutNat a n v).tally = s.tally := rfl
@[simp] theorem State.storePutNat_face (s : State) (a n v : Nat) : (s.storePutNat a n v).face = s.face := rfl
@[simp] theorem State.storePutNat_clp (s : State) (a n v : Nat) : (s.storePutNat a n v).clp = s.clp := rfl
@[simp] theorem State.storePutNat_eng (s : State) (a n v : Nat) : (s.storePutNat a n v).eng = s.eng := rfl
@[simp] theorem State.storePutNat_warp (s : State) (a n v : Nat) : (s.storePutNat a n v).warp = s.warp := rfl
@[simp] theorem State.storePutNat_time (s : State) (a n v : Nat) : (s.storePutNat a n v).time = s.time := rfl
@[simp] theorem State.storePutNat_can (s : State) (a n v : Nat) : (s.storePutNat a n v).can = s.can := rfl
@[simp] theorem State.storePutNat_island (s : State) (a n v : Nat) : (s.storePutNat a n v).island = s.island := rfl
@[simp] theorem State.storePutNat_io (s : State) (a n v : Nat) : (s.storePutNat a n v).io = s.io := rfl
@[simp] theorem State.storePutNat_clocks (s : State) (a n v : Nat) : (s.storePutNat a n v).clocks = s.clocks := rfl
@[simp] theorem State.storePutNat_pd (s : State) (a n v : Nat) : (s.storePutNat a n v).pd = s.pd := rfl
@[simp] theorem State.storePutNat_stale (s : State) (a n v : Nat) : (s.storePutNat a n v).stale = s.stale := rfl
@[simp] theorem State.storePutNat_pair (s : State) (a n v : Nat) : (s.storePutNat a n v).pair = s.pair := rfl
@[simp] theorem State.storePutNat_prp (s : State) (a n v : Nat) : (s.storePutNat a n v).prp = s.prp := rfl
@[simp] theorem State.storePutNat_firmware (s : State) (a n v : Nat) : (s.storePutNat a n v).firmware = s.firmware := rfl
@[simp] theorem State.storePutNat_storeFault (s : State) (a n v : Nat) : (s.storePutNat a n v).storeFault = s.storeFault := rfl
@[simp] theorem State.storePutNat_startTick (s : State) (a n v : Nat) : (s.storePutNat a n v).startTick = s.startTick := rfl
@[simp] theorem State.storePutNat_captures (s : State) (a n v : Nat) : (s.storePutNat a n v).captures = s.captures := rfl
@[simp] theorem State.storePutNat_loopsMissed (s : State) (a n v : Nat) : (s.storePutNat a n v).loopsMissed = s.loopsMissed := rfl
@[simp] theorem State.storePutNat_loopsHeld (s : State) (a n v : Nat) : (s.storePutNat a n v).loopsHeld = s.loopsHeld := rfl
@[simp] theorem State.storePutNat_tableRam (s : State) (a n v : Nat) : (s.storePutNat a n v).tableRam = s.tableRam := rfl
@[simp] theorem State.storePutNat_store (s : State) (a n v : Nat) : (s.storePutNat a n v).store = Mem.write s.store a (leBytes n v) := rfl
@[simp] theorem State.storePutNat_dram (s : State) (a n v : Nat) : (s.storePutNat a n v).dram = s.dram := rfl
@[simp] theorem State.storePutNat_window (s : State) (a n v : Nat) : (s.storePutNat a n v).window = s.window := rfl
@[simp] theorem State.storePutNat_tick (s : State) (a n v : Nat) : (s.storePutNat a n v).tick = s.tick := rfl
@[simp] theorem State.storePutNat_ticking (s : State) (a n v : Nat) : (s.storePutNat a n v).ticking = s.ticking := rfl
@[simp] theorem State.storePutNat_timeNs (s : State) (a n v : Nat) : (s.storePutNat a n v).timeNs = s.timeNs := rfl
@[simp] theorem State.storePutNat_localNs (s : State) (a n v : Nat) : (s.storePutNat a n v).localNs = s.localNs := rfl
@[simp] theorem State.storePutNat_rtcNs (s : State) (a n v : Nat) : (s.storePutNat a n v).rtcNs = s.rtcNs := rfl
@[simp] theorem State.storePutNat_tickFlags (s : State) (a n v : Nat) : (s.storePutNat a n v).tickFlags = s.tickFlags := rfl
@[simp] theorem State.storePutNat_freeCount (s : State) (a n v : Nat) : (s.storePutNat a n v).freeCount = s.freeCount := rfl
@[simp] theorem State.storePutNat_out (s : State) (a n v : Nat) : (s.storePutNat a n v).out = s.out := rfl
@[simp] theorem State.storePutNat_pending (s : State) (a n v : Nat) : (s.storePutNat a n v).pending = s.pending := rfl

/-! ### setLane -/

@[simp] theorem State.setLane_mode (s : State) (l : Fin 4) (x : Lane) : (s.setLane l x).mode = s.mode := rfl
@[simp] theorem State.setLane_dict (s : State) (l : Fin 4) (x : Lane) : (s.setLane l x).dict = s.dict := rfl
@[simp] theorem State.setLane_inForce (s : State) (l : Fin 4) (x : Lane) : (s.setLane l x).inForce = s.inForce := rfl
@[simp] theorem State.setLane_stored (s : State) (l : Fin 4) (x : Lane) : (s.setLane l x).stored = s.stored := rfl
@[simp] theorem State.setLane_storedLayout (s : State) (l : Fin 4) (x : Lane) : (s.setLane l x).storedLayout = s.storedLayout := rfl
@[simp] theorem State.setLane_weftQueue (s : State) (l : Fin 4) (x : Lane) : (s.setLane l x).weftQueue = s.weftQueue := rfl
@[simp] theorem State.setLane_ended (s : State) (l : Fin 4) (x : Lane) : (s.setLane l x).ended = s.ended := rfl
@[simp] theorem State.setLane_shown (s : State) (l : Fin 4) (x : Lane) : (s.setLane l x).shown = s.shown := rfl
@[simp] theorem State.setLane_keys (s : State) (l : Fin 4) (x : Lane) : (s.setLane l x).keys = s.keys := rfl
@[simp] theorem State.setLane_domains (s : State) (l : Fin 4) (x : Lane) : (s.setLane l x).domains = s.domains := rfl
@[simp] theorem State.setLane_command (s : State) (l : Fin 4) (x : Lane) : (s.setLane l x).command = s.command := rfl
@[simp] theorem State.setLane_profileChange (s : State) (l : Fin 4) (x : Lane) : (s.setLane l x).profileChange = s.profileChange := rfl
@[simp] theorem State.setLane_restore (s : State) (l : Fin 4) (x : Lane) : (s.setLane l x).restore = s.restore := rfl
@[simp] theorem State.setLane_rst (s : State) (l : Fin 4) (x : Lane) : (s.setLane l x).rst = s.rst := rfl
@[simp] theorem State.setLane_options (s : State) (l : Fin 4) (x : Lane) : (s.setLane l x).options = s.options := rfl
@[simp] theorem State.setLane_tally (s : State) (l : Fin 4) (x : Lane) : (s.setLane l x).tally = s.tally := rfl
@[simp] theorem State.setLane_face (s : State) (l : Fin 4) (x : Lane) : (s.setLane l x).face = s.face := rfl
@[simp] theorem State.setLane_clp (s : State) (l : Fin 4) (x : Lane) : (s.setLane l x).clp = s.clp := rfl
@[simp] theorem State.setLane_eng (s : State) (l : Fin 4) (x : Lane) : (s.setLane l x).eng = { s.eng with lanes := s.eng.lanes.set l x } := rfl
@[simp] theorem State.setLane_warp (s : State) (l : Fin 4) (x : Lane) : (s.setLane l x).warp = s.warp := rfl
@[simp] theorem State.setLane_time (s : State) (l : Fin 4) (x : Lane) : (s.setLane l x).time = s.time := rfl
@[simp] theorem State.setLane_can (s : State) (l : Fin 4) (x : Lane) : (s.setLane l x).can = s.can := rfl
@[simp] theorem State.setLane_island (s : State) (l : Fin 4) (x : Lane) : (s.setLane l x).island = s.island := rfl
@[simp] theorem State.setLane_io (s : State) (l : Fin 4) (x : Lane) : (s.setLane l x).io = s.io := rfl
@[simp] theorem State.setLane_clocks (s : State) (l : Fin 4) (x : Lane) : (s.setLane l x).clocks = s.clocks := rfl
@[simp] theorem State.setLane_pd (s : State) (l : Fin 4) (x : Lane) : (s.setLane l x).pd = s.pd := rfl
@[simp] theorem State.setLane_stale (s : State) (l : Fin 4) (x : Lane) : (s.setLane l x).stale = s.stale := rfl
@[simp] theorem State.setLane_pair (s : State) (l : Fin 4) (x : Lane) : (s.setLane l x).pair = s.pair := rfl
@[simp] theorem State.setLane_prp (s : State) (l : Fin 4) (x : Lane) : (s.setLane l x).prp = s.prp := rfl
@[simp] theorem State.setLane_firmware (s : State) (l : Fin 4) (x : Lane) : (s.setLane l x).firmware = s.firmware := rfl
@[simp] theorem State.setLane_storeFault (s : State) (l : Fin 4) (x : Lane) : (s.setLane l x).storeFault = s.storeFault := rfl
@[simp] theorem State.setLane_startTick (s : State) (l : Fin 4) (x : Lane) : (s.setLane l x).startTick = s.startTick := rfl
@[simp] theorem State.setLane_captures (s : State) (l : Fin 4) (x : Lane) : (s.setLane l x).captures = s.captures := rfl
@[simp] theorem State.setLane_loopsMissed (s : State) (l : Fin 4) (x : Lane) : (s.setLane l x).loopsMissed = s.loopsMissed := rfl
@[simp] theorem State.setLane_loopsHeld (s : State) (l : Fin 4) (x : Lane) : (s.setLane l x).loopsHeld = s.loopsHeld := rfl
@[simp] theorem State.setLane_tableRam (s : State) (l : Fin 4) (x : Lane) : (s.setLane l x).tableRam = s.tableRam := rfl
@[simp] theorem State.setLane_store (s : State) (l : Fin 4) (x : Lane) : (s.setLane l x).store = s.store := rfl
@[simp] theorem State.setLane_dram (s : State) (l : Fin 4) (x : Lane) : (s.setLane l x).dram = s.dram := rfl
@[simp] theorem State.setLane_window (s : State) (l : Fin 4) (x : Lane) : (s.setLane l x).window = s.window := rfl
@[simp] theorem State.setLane_tick (s : State) (l : Fin 4) (x : Lane) : (s.setLane l x).tick = s.tick := rfl
@[simp] theorem State.setLane_ticking (s : State) (l : Fin 4) (x : Lane) : (s.setLane l x).ticking = s.ticking := rfl
@[simp] theorem State.setLane_timeNs (s : State) (l : Fin 4) (x : Lane) : (s.setLane l x).timeNs = s.timeNs := rfl
@[simp] theorem State.setLane_localNs (s : State) (l : Fin 4) (x : Lane) : (s.setLane l x).localNs = s.localNs := rfl
@[simp] theorem State.setLane_rtcNs (s : State) (l : Fin 4) (x : Lane) : (s.setLane l x).rtcNs = s.rtcNs := rfl
@[simp] theorem State.setLane_tickFlags (s : State) (l : Fin 4) (x : Lane) : (s.setLane l x).tickFlags = s.tickFlags := rfl
@[simp] theorem State.setLane_freeCount (s : State) (l : Fin 4) (x : Lane) : (s.setLane l x).freeCount = s.freeCount := rfl
@[simp] theorem State.setLane_out (s : State) (l : Fin 4) (x : Lane) : (s.setLane l x).out = s.out := rfl
@[simp] theorem State.setLane_pending (s : State) (l : Fin 4) (x : Lane) : (s.setLane l x).pending = s.pending := rfl

/-! ### setSide -/

@[simp] theorem State.setSide_mode (s : State) (g : Fin 3) (x : FieldSide) : (s.setSide g x).mode = s.mode := rfl
@[simp] theorem State.setSide_dict (s : State) (g : Fin 3) (x : FieldSide) : (s.setSide g x).dict = s.dict := rfl
@[simp] theorem State.setSide_inForce (s : State) (g : Fin 3) (x : FieldSide) : (s.setSide g x).inForce = s.inForce := rfl
@[simp] theorem State.setSide_stored (s : State) (g : Fin 3) (x : FieldSide) : (s.setSide g x).stored = s.stored := rfl
@[simp] theorem State.setSide_storedLayout (s : State) (g : Fin 3) (x : FieldSide) : (s.setSide g x).storedLayout = s.storedLayout := rfl
@[simp] theorem State.setSide_weftQueue (s : State) (g : Fin 3) (x : FieldSide) : (s.setSide g x).weftQueue = s.weftQueue := rfl
@[simp] theorem State.setSide_ended (s : State) (g : Fin 3) (x : FieldSide) : (s.setSide g x).ended = s.ended := rfl
@[simp] theorem State.setSide_shown (s : State) (g : Fin 3) (x : FieldSide) : (s.setSide g x).shown = s.shown := rfl
@[simp] theorem State.setSide_keys (s : State) (g : Fin 3) (x : FieldSide) : (s.setSide g x).keys = s.keys := rfl
@[simp] theorem State.setSide_domains (s : State) (g : Fin 3) (x : FieldSide) : (s.setSide g x).domains = s.domains := rfl
@[simp] theorem State.setSide_command (s : State) (g : Fin 3) (x : FieldSide) : (s.setSide g x).command = s.command := rfl
@[simp] theorem State.setSide_profileChange (s : State) (g : Fin 3) (x : FieldSide) : (s.setSide g x).profileChange = s.profileChange := rfl
@[simp] theorem State.setSide_restore (s : State) (g : Fin 3) (x : FieldSide) : (s.setSide g x).restore = s.restore := rfl
@[simp] theorem State.setSide_rst (s : State) (g : Fin 3) (x : FieldSide) : (s.setSide g x).rst = s.rst := rfl
@[simp] theorem State.setSide_options (s : State) (g : Fin 3) (x : FieldSide) : (s.setSide g x).options = s.options := rfl
@[simp] theorem State.setSide_tally (s : State) (g : Fin 3) (x : FieldSide) : (s.setSide g x).tally = s.tally := rfl
@[simp] theorem State.setSide_face (s : State) (g : Fin 3) (x : FieldSide) : (s.setSide g x).face = s.face := rfl
@[simp] theorem State.setSide_clp (s : State) (g : Fin 3) (x : FieldSide) : (s.setSide g x).clp = s.clp := rfl
@[simp] theorem State.setSide_eng (s : State) (g : Fin 3) (x : FieldSide) : (s.setSide g x).eng = s.eng := rfl
@[simp] theorem State.setSide_warp (s : State) (g : Fin 3) (x : FieldSide) : (s.setSide g x).warp = s.warp := rfl
@[simp] theorem State.setSide_time (s : State) (g : Fin 3) (x : FieldSide) : (s.setSide g x).time = s.time := rfl
@[simp] theorem State.setSide_can (s : State) (g : Fin 3) (x : FieldSide) : (s.setSide g x).can = s.can := rfl
@[simp] theorem State.setSide_island (s : State) (g : Fin 3) (x : FieldSide) : (s.setSide g x).island = s.island := rfl
@[simp] theorem State.setSide_io (s : State) (g : Fin 3) (x : FieldSide) : (s.setSide g x).io = { s.io with sides := s.io.sides.set g x } := rfl
@[simp] theorem State.setSide_clocks (s : State) (g : Fin 3) (x : FieldSide) : (s.setSide g x).clocks = s.clocks := rfl
@[simp] theorem State.setSide_pd (s : State) (g : Fin 3) (x : FieldSide) : (s.setSide g x).pd = s.pd := rfl
@[simp] theorem State.setSide_stale (s : State) (g : Fin 3) (x : FieldSide) : (s.setSide g x).stale = s.stale := rfl
@[simp] theorem State.setSide_pair (s : State) (g : Fin 3) (x : FieldSide) : (s.setSide g x).pair = s.pair := rfl
@[simp] theorem State.setSide_prp (s : State) (g : Fin 3) (x : FieldSide) : (s.setSide g x).prp = s.prp := rfl
@[simp] theorem State.setSide_firmware (s : State) (g : Fin 3) (x : FieldSide) : (s.setSide g x).firmware = s.firmware := rfl
@[simp] theorem State.setSide_storeFault (s : State) (g : Fin 3) (x : FieldSide) : (s.setSide g x).storeFault = s.storeFault := rfl
@[simp] theorem State.setSide_startTick (s : State) (g : Fin 3) (x : FieldSide) : (s.setSide g x).startTick = s.startTick := rfl
@[simp] theorem State.setSide_captures (s : State) (g : Fin 3) (x : FieldSide) : (s.setSide g x).captures = s.captures := rfl
@[simp] theorem State.setSide_loopsMissed (s : State) (g : Fin 3) (x : FieldSide) : (s.setSide g x).loopsMissed = s.loopsMissed := rfl
@[simp] theorem State.setSide_loopsHeld (s : State) (g : Fin 3) (x : FieldSide) : (s.setSide g x).loopsHeld = s.loopsHeld := rfl
@[simp] theorem State.setSide_tableRam (s : State) (g : Fin 3) (x : FieldSide) : (s.setSide g x).tableRam = s.tableRam := rfl
@[simp] theorem State.setSide_store (s : State) (g : Fin 3) (x : FieldSide) : (s.setSide g x).store = s.store := rfl
@[simp] theorem State.setSide_dram (s : State) (g : Fin 3) (x : FieldSide) : (s.setSide g x).dram = s.dram := rfl
@[simp] theorem State.setSide_window (s : State) (g : Fin 3) (x : FieldSide) : (s.setSide g x).window = s.window := rfl
@[simp] theorem State.setSide_tick (s : State) (g : Fin 3) (x : FieldSide) : (s.setSide g x).tick = s.tick := rfl
@[simp] theorem State.setSide_ticking (s : State) (g : Fin 3) (x : FieldSide) : (s.setSide g x).ticking = s.ticking := rfl
@[simp] theorem State.setSide_timeNs (s : State) (g : Fin 3) (x : FieldSide) : (s.setSide g x).timeNs = s.timeNs := rfl
@[simp] theorem State.setSide_localNs (s : State) (g : Fin 3) (x : FieldSide) : (s.setSide g x).localNs = s.localNs := rfl
@[simp] theorem State.setSide_rtcNs (s : State) (g : Fin 3) (x : FieldSide) : (s.setSide g x).rtcNs = s.rtcNs := rfl
@[simp] theorem State.setSide_tickFlags (s : State) (g : Fin 3) (x : FieldSide) : (s.setSide g x).tickFlags = s.tickFlags := rfl
@[simp] theorem State.setSide_freeCount (s : State) (g : Fin 3) (x : FieldSide) : (s.setSide g x).freeCount = s.freeCount := rfl
@[simp] theorem State.setSide_out (s : State) (g : Fin 3) (x : FieldSide) : (s.setSide g x).out = s.out := rfl
@[simp] theorem State.setSide_pending (s : State) (g : Fin 3) (x : FieldSide) : (s.setSide g x).pending = s.pending := rfl

/-! ### putSide -/

@[simp] theorem State.putSide_mode (s : State) (g : Group) (x : FieldSide) : (s.putSide g x).mode = s.mode := rfl
@[simp] theorem State.putSide_dict (s : State) (g : Group) (x : FieldSide) : (s.putSide g x).dict = s.dict := rfl
@[simp] theorem State.putSide_inForce (s : State) (g : Group) (x : FieldSide) : (s.putSide g x).inForce = s.inForce := rfl
@[simp] theorem State.putSide_stored (s : State) (g : Group) (x : FieldSide) : (s.putSide g x).stored = s.stored := rfl
@[simp] theorem State.putSide_storedLayout (s : State) (g : Group) (x : FieldSide) : (s.putSide g x).storedLayout = s.storedLayout := rfl
@[simp] theorem State.putSide_weftQueue (s : State) (g : Group) (x : FieldSide) : (s.putSide g x).weftQueue = s.weftQueue := rfl
@[simp] theorem State.putSide_ended (s : State) (g : Group) (x : FieldSide) : (s.putSide g x).ended = s.ended := rfl
@[simp] theorem State.putSide_shown (s : State) (g : Group) (x : FieldSide) : (s.putSide g x).shown = s.shown := rfl
@[simp] theorem State.putSide_keys (s : State) (g : Group) (x : FieldSide) : (s.putSide g x).keys = s.keys := rfl
@[simp] theorem State.putSide_domains (s : State) (g : Group) (x : FieldSide) : (s.putSide g x).domains = s.domains := rfl
@[simp] theorem State.putSide_command (s : State) (g : Group) (x : FieldSide) : (s.putSide g x).command = s.command := rfl
@[simp] theorem State.putSide_profileChange (s : State) (g : Group) (x : FieldSide) : (s.putSide g x).profileChange = s.profileChange := rfl
@[simp] theorem State.putSide_restore (s : State) (g : Group) (x : FieldSide) : (s.putSide g x).restore = s.restore := rfl
@[simp] theorem State.putSide_rst (s : State) (g : Group) (x : FieldSide) : (s.putSide g x).rst = s.rst := rfl
@[simp] theorem State.putSide_options (s : State) (g : Group) (x : FieldSide) : (s.putSide g x).options = s.options := rfl
@[simp] theorem State.putSide_tally (s : State) (g : Group) (x : FieldSide) : (s.putSide g x).tally = s.tally := rfl
@[simp] theorem State.putSide_face (s : State) (g : Group) (x : FieldSide) : (s.putSide g x).face = s.face := rfl
@[simp] theorem State.putSide_clp (s : State) (g : Group) (x : FieldSide) : (s.putSide g x).clp = s.clp := rfl
@[simp] theorem State.putSide_eng (s : State) (g : Group) (x : FieldSide) : (s.putSide g x).eng = s.eng := rfl
@[simp] theorem State.putSide_warp (s : State) (g : Group) (x : FieldSide) : (s.putSide g x).warp = s.warp := rfl
@[simp] theorem State.putSide_time (s : State) (g : Group) (x : FieldSide) : (s.putSide g x).time = s.time := rfl
@[simp] theorem State.putSide_can (s : State) (g : Group) (x : FieldSide) : (s.putSide g x).can = s.can := rfl
@[simp] theorem State.putSide_island (s : State) (g : Group) (x : FieldSide) : (s.putSide g x).island = s.island := rfl
@[simp] theorem State.putSide_io (s : State) (g : Group) (x : FieldSide) : (s.putSide g x).io = { s.io with sides := s.io.sides.set (groupFin g) x } := rfl
@[simp] theorem State.putSide_clocks (s : State) (g : Group) (x : FieldSide) : (s.putSide g x).clocks = s.clocks := rfl
@[simp] theorem State.putSide_pd (s : State) (g : Group) (x : FieldSide) : (s.putSide g x).pd = s.pd := rfl
@[simp] theorem State.putSide_stale (s : State) (g : Group) (x : FieldSide) : (s.putSide g x).stale = s.stale := rfl
@[simp] theorem State.putSide_pair (s : State) (g : Group) (x : FieldSide) : (s.putSide g x).pair = s.pair := rfl
@[simp] theorem State.putSide_prp (s : State) (g : Group) (x : FieldSide) : (s.putSide g x).prp = s.prp := rfl
@[simp] theorem State.putSide_firmware (s : State) (g : Group) (x : FieldSide) : (s.putSide g x).firmware = s.firmware := rfl
@[simp] theorem State.putSide_storeFault (s : State) (g : Group) (x : FieldSide) : (s.putSide g x).storeFault = s.storeFault := rfl
@[simp] theorem State.putSide_startTick (s : State) (g : Group) (x : FieldSide) : (s.putSide g x).startTick = s.startTick := rfl
@[simp] theorem State.putSide_captures (s : State) (g : Group) (x : FieldSide) : (s.putSide g x).captures = s.captures := rfl
@[simp] theorem State.putSide_loopsMissed (s : State) (g : Group) (x : FieldSide) : (s.putSide g x).loopsMissed = s.loopsMissed := rfl
@[simp] theorem State.putSide_loopsHeld (s : State) (g : Group) (x : FieldSide) : (s.putSide g x).loopsHeld = s.loopsHeld := rfl
@[simp] theorem State.putSide_tableRam (s : State) (g : Group) (x : FieldSide) : (s.putSide g x).tableRam = s.tableRam := rfl
@[simp] theorem State.putSide_store (s : State) (g : Group) (x : FieldSide) : (s.putSide g x).store = s.store := rfl
@[simp] theorem State.putSide_dram (s : State) (g : Group) (x : FieldSide) : (s.putSide g x).dram = s.dram := rfl
@[simp] theorem State.putSide_window (s : State) (g : Group) (x : FieldSide) : (s.putSide g x).window = s.window := rfl
@[simp] theorem State.putSide_tick (s : State) (g : Group) (x : FieldSide) : (s.putSide g x).tick = s.tick := rfl
@[simp] theorem State.putSide_ticking (s : State) (g : Group) (x : FieldSide) : (s.putSide g x).ticking = s.ticking := rfl
@[simp] theorem State.putSide_timeNs (s : State) (g : Group) (x : FieldSide) : (s.putSide g x).timeNs = s.timeNs := rfl
@[simp] theorem State.putSide_localNs (s : State) (g : Group) (x : FieldSide) : (s.putSide g x).localNs = s.localNs := rfl
@[simp] theorem State.putSide_rtcNs (s : State) (g : Group) (x : FieldSide) : (s.putSide g x).rtcNs = s.rtcNs := rfl
@[simp] theorem State.putSide_tickFlags (s : State) (g : Group) (x : FieldSide) : (s.putSide g x).tickFlags = s.tickFlags := rfl
@[simp] theorem State.putSide_freeCount (s : State) (g : Group) (x : FieldSide) : (s.putSide g x).freeCount = s.freeCount := rfl
@[simp] theorem State.putSide_out (s : State) (g : Group) (x : FieldSide) : (s.putSide g x).out = s.out := rfl
@[simp] theorem State.putSide_pending (s : State) (g : Group) (x : FieldSide) : (s.putSide g x).pending = s.pending := rfl

/-! ### putLink -/

@[simp] theorem State.putLink_mode (s : State) (g : Group) (x : LogicLink) : (s.putLink g x).mode = s.mode := rfl
@[simp] theorem State.putLink_dict (s : State) (g : Group) (x : LogicLink) : (s.putLink g x).dict = s.dict := rfl
@[simp] theorem State.putLink_inForce (s : State) (g : Group) (x : LogicLink) : (s.putLink g x).inForce = s.inForce := rfl
@[simp] theorem State.putLink_stored (s : State) (g : Group) (x : LogicLink) : (s.putLink g x).stored = s.stored := rfl
@[simp] theorem State.putLink_storedLayout (s : State) (g : Group) (x : LogicLink) : (s.putLink g x).storedLayout = s.storedLayout := rfl
@[simp] theorem State.putLink_weftQueue (s : State) (g : Group) (x : LogicLink) : (s.putLink g x).weftQueue = s.weftQueue := rfl
@[simp] theorem State.putLink_ended (s : State) (g : Group) (x : LogicLink) : (s.putLink g x).ended = s.ended := rfl
@[simp] theorem State.putLink_shown (s : State) (g : Group) (x : LogicLink) : (s.putLink g x).shown = s.shown := rfl
@[simp] theorem State.putLink_keys (s : State) (g : Group) (x : LogicLink) : (s.putLink g x).keys = s.keys := rfl
@[simp] theorem State.putLink_domains (s : State) (g : Group) (x : LogicLink) : (s.putLink g x).domains = s.domains := rfl
@[simp] theorem State.putLink_command (s : State) (g : Group) (x : LogicLink) : (s.putLink g x).command = s.command := rfl
@[simp] theorem State.putLink_profileChange (s : State) (g : Group) (x : LogicLink) : (s.putLink g x).profileChange = s.profileChange := rfl
@[simp] theorem State.putLink_restore (s : State) (g : Group) (x : LogicLink) : (s.putLink g x).restore = s.restore := rfl
@[simp] theorem State.putLink_rst (s : State) (g : Group) (x : LogicLink) : (s.putLink g x).rst = s.rst := rfl
@[simp] theorem State.putLink_options (s : State) (g : Group) (x : LogicLink) : (s.putLink g x).options = s.options := rfl
@[simp] theorem State.putLink_tally (s : State) (g : Group) (x : LogicLink) : (s.putLink g x).tally = s.tally := rfl
@[simp] theorem State.putLink_face (s : State) (g : Group) (x : LogicLink) : (s.putLink g x).face = s.face := rfl
@[simp] theorem State.putLink_clp (s : State) (g : Group) (x : LogicLink) : (s.putLink g x).clp = s.clp := rfl
@[simp] theorem State.putLink_eng (s : State) (g : Group) (x : LogicLink) : (s.putLink g x).eng = s.eng := rfl
@[simp] theorem State.putLink_warp (s : State) (g : Group) (x : LogicLink) : (s.putLink g x).warp = s.warp := rfl
@[simp] theorem State.putLink_time (s : State) (g : Group) (x : LogicLink) : (s.putLink g x).time = s.time := rfl
@[simp] theorem State.putLink_can (s : State) (g : Group) (x : LogicLink) : (s.putLink g x).can = s.can := rfl
@[simp] theorem State.putLink_island (s : State) (g : Group) (x : LogicLink) : (s.putLink g x).island = s.island := rfl
@[simp] theorem State.putLink_io (s : State) (g : Group) (x : LogicLink) : (s.putLink g x).io = { s.io with links := s.io.links.set (groupFin g) x } := rfl
@[simp] theorem State.putLink_clocks (s : State) (g : Group) (x : LogicLink) : (s.putLink g x).clocks = s.clocks := rfl
@[simp] theorem State.putLink_pd (s : State) (g : Group) (x : LogicLink) : (s.putLink g x).pd = s.pd := rfl
@[simp] theorem State.putLink_stale (s : State) (g : Group) (x : LogicLink) : (s.putLink g x).stale = s.stale := rfl
@[simp] theorem State.putLink_pair (s : State) (g : Group) (x : LogicLink) : (s.putLink g x).pair = s.pair := rfl
@[simp] theorem State.putLink_prp (s : State) (g : Group) (x : LogicLink) : (s.putLink g x).prp = s.prp := rfl
@[simp] theorem State.putLink_firmware (s : State) (g : Group) (x : LogicLink) : (s.putLink g x).firmware = s.firmware := rfl
@[simp] theorem State.putLink_storeFault (s : State) (g : Group) (x : LogicLink) : (s.putLink g x).storeFault = s.storeFault := rfl
@[simp] theorem State.putLink_startTick (s : State) (g : Group) (x : LogicLink) : (s.putLink g x).startTick = s.startTick := rfl
@[simp] theorem State.putLink_captures (s : State) (g : Group) (x : LogicLink) : (s.putLink g x).captures = s.captures := rfl
@[simp] theorem State.putLink_loopsMissed (s : State) (g : Group) (x : LogicLink) : (s.putLink g x).loopsMissed = s.loopsMissed := rfl
@[simp] theorem State.putLink_loopsHeld (s : State) (g : Group) (x : LogicLink) : (s.putLink g x).loopsHeld = s.loopsHeld := rfl
@[simp] theorem State.putLink_tableRam (s : State) (g : Group) (x : LogicLink) : (s.putLink g x).tableRam = s.tableRam := rfl
@[simp] theorem State.putLink_store (s : State) (g : Group) (x : LogicLink) : (s.putLink g x).store = s.store := rfl
@[simp] theorem State.putLink_dram (s : State) (g : Group) (x : LogicLink) : (s.putLink g x).dram = s.dram := rfl
@[simp] theorem State.putLink_window (s : State) (g : Group) (x : LogicLink) : (s.putLink g x).window = s.window := rfl
@[simp] theorem State.putLink_tick (s : State) (g : Group) (x : LogicLink) : (s.putLink g x).tick = s.tick := rfl
@[simp] theorem State.putLink_ticking (s : State) (g : Group) (x : LogicLink) : (s.putLink g x).ticking = s.ticking := rfl
@[simp] theorem State.putLink_timeNs (s : State) (g : Group) (x : LogicLink) : (s.putLink g x).timeNs = s.timeNs := rfl
@[simp] theorem State.putLink_localNs (s : State) (g : Group) (x : LogicLink) : (s.putLink g x).localNs = s.localNs := rfl
@[simp] theorem State.putLink_rtcNs (s : State) (g : Group) (x : LogicLink) : (s.putLink g x).rtcNs = s.rtcNs := rfl
@[simp] theorem State.putLink_tickFlags (s : State) (g : Group) (x : LogicLink) : (s.putLink g x).tickFlags = s.tickFlags := rfl
@[simp] theorem State.putLink_freeCount (s : State) (g : Group) (x : LogicLink) : (s.putLink g x).freeCount = s.freeCount := rfl
@[simp] theorem State.putLink_out (s : State) (g : Group) (x : LogicLink) : (s.putLink g x).out = s.out := rfl
@[simp] theorem State.putLink_pending (s : State) (g : Group) (x : LogicLink) : (s.putLink g x).pending = s.pending := rfl

/-! ### setGroupA -/

@[simp] theorem State.setGroupA_mode (s : State) (x : GroupA) : (s.setGroupA x).mode = s.mode := rfl
@[simp] theorem State.setGroupA_dict (s : State) (x : GroupA) : (s.setGroupA x).dict = s.dict := rfl
@[simp] theorem State.setGroupA_inForce (s : State) (x : GroupA) : (s.setGroupA x).inForce = s.inForce := rfl
@[simp] theorem State.setGroupA_stored (s : State) (x : GroupA) : (s.setGroupA x).stored = s.stored := rfl
@[simp] theorem State.setGroupA_storedLayout (s : State) (x : GroupA) : (s.setGroupA x).storedLayout = s.storedLayout := rfl
@[simp] theorem State.setGroupA_weftQueue (s : State) (x : GroupA) : (s.setGroupA x).weftQueue = s.weftQueue := rfl
@[simp] theorem State.setGroupA_ended (s : State) (x : GroupA) : (s.setGroupA x).ended = s.ended := rfl
@[simp] theorem State.setGroupA_shown (s : State) (x : GroupA) : (s.setGroupA x).shown = s.shown := rfl
@[simp] theorem State.setGroupA_keys (s : State) (x : GroupA) : (s.setGroupA x).keys = s.keys := rfl
@[simp] theorem State.setGroupA_domains (s : State) (x : GroupA) : (s.setGroupA x).domains = s.domains := rfl
@[simp] theorem State.setGroupA_command (s : State) (x : GroupA) : (s.setGroupA x).command = s.command := rfl
@[simp] theorem State.setGroupA_profileChange (s : State) (x : GroupA) : (s.setGroupA x).profileChange = s.profileChange := rfl
@[simp] theorem State.setGroupA_restore (s : State) (x : GroupA) : (s.setGroupA x).restore = s.restore := rfl
@[simp] theorem State.setGroupA_rst (s : State) (x : GroupA) : (s.setGroupA x).rst = s.rst := rfl
@[simp] theorem State.setGroupA_options (s : State) (x : GroupA) : (s.setGroupA x).options = s.options := rfl
@[simp] theorem State.setGroupA_tally (s : State) (x : GroupA) : (s.setGroupA x).tally = s.tally := rfl
@[simp] theorem State.setGroupA_face (s : State) (x : GroupA) : (s.setGroupA x).face = s.face := rfl
@[simp] theorem State.setGroupA_clp (s : State) (x : GroupA) : (s.setGroupA x).clp = s.clp := rfl
@[simp] theorem State.setGroupA_eng (s : State) (x : GroupA) : (s.setGroupA x).eng = s.eng := rfl
@[simp] theorem State.setGroupA_warp (s : State) (x : GroupA) : (s.setGroupA x).warp = s.warp := rfl
@[simp] theorem State.setGroupA_time (s : State) (x : GroupA) : (s.setGroupA x).time = s.time := rfl
@[simp] theorem State.setGroupA_can (s : State) (x : GroupA) : (s.setGroupA x).can = s.can := rfl
@[simp] theorem State.setGroupA_island (s : State) (x : GroupA) : (s.setGroupA x).island = s.island := rfl
@[simp] theorem State.setGroupA_io (s : State) (x : GroupA) : (s.setGroupA x).io = { s.io with a := x } := rfl
@[simp] theorem State.setGroupA_clocks (s : State) (x : GroupA) : (s.setGroupA x).clocks = s.clocks := rfl
@[simp] theorem State.setGroupA_pd (s : State) (x : GroupA) : (s.setGroupA x).pd = s.pd := rfl
@[simp] theorem State.setGroupA_stale (s : State) (x : GroupA) : (s.setGroupA x).stale = s.stale := rfl
@[simp] theorem State.setGroupA_pair (s : State) (x : GroupA) : (s.setGroupA x).pair = s.pair := rfl
@[simp] theorem State.setGroupA_prp (s : State) (x : GroupA) : (s.setGroupA x).prp = s.prp := rfl
@[simp] theorem State.setGroupA_firmware (s : State) (x : GroupA) : (s.setGroupA x).firmware = s.firmware := rfl
@[simp] theorem State.setGroupA_storeFault (s : State) (x : GroupA) : (s.setGroupA x).storeFault = s.storeFault := rfl
@[simp] theorem State.setGroupA_startTick (s : State) (x : GroupA) : (s.setGroupA x).startTick = s.startTick := rfl
@[simp] theorem State.setGroupA_captures (s : State) (x : GroupA) : (s.setGroupA x).captures = s.captures := rfl
@[simp] theorem State.setGroupA_loopsMissed (s : State) (x : GroupA) : (s.setGroupA x).loopsMissed = s.loopsMissed := rfl
@[simp] theorem State.setGroupA_loopsHeld (s : State) (x : GroupA) : (s.setGroupA x).loopsHeld = s.loopsHeld := rfl
@[simp] theorem State.setGroupA_tableRam (s : State) (x : GroupA) : (s.setGroupA x).tableRam = s.tableRam := rfl
@[simp] theorem State.setGroupA_store (s : State) (x : GroupA) : (s.setGroupA x).store = s.store := rfl
@[simp] theorem State.setGroupA_dram (s : State) (x : GroupA) : (s.setGroupA x).dram = s.dram := rfl
@[simp] theorem State.setGroupA_window (s : State) (x : GroupA) : (s.setGroupA x).window = s.window := rfl
@[simp] theorem State.setGroupA_tick (s : State) (x : GroupA) : (s.setGroupA x).tick = s.tick := rfl
@[simp] theorem State.setGroupA_ticking (s : State) (x : GroupA) : (s.setGroupA x).ticking = s.ticking := rfl
@[simp] theorem State.setGroupA_timeNs (s : State) (x : GroupA) : (s.setGroupA x).timeNs = s.timeNs := rfl
@[simp] theorem State.setGroupA_localNs (s : State) (x : GroupA) : (s.setGroupA x).localNs = s.localNs := rfl
@[simp] theorem State.setGroupA_rtcNs (s : State) (x : GroupA) : (s.setGroupA x).rtcNs = s.rtcNs := rfl
@[simp] theorem State.setGroupA_tickFlags (s : State) (x : GroupA) : (s.setGroupA x).tickFlags = s.tickFlags := rfl
@[simp] theorem State.setGroupA_freeCount (s : State) (x : GroupA) : (s.setGroupA x).freeCount = s.freeCount := rfl
@[simp] theorem State.setGroupA_out (s : State) (x : GroupA) : (s.setGroupA x).out = s.out := rfl
@[simp] theorem State.setGroupA_pending (s : State) (x : GroupA) : (s.setGroupA x).pending = s.pending := rfl

/-! ### setGroupB -/

@[simp] theorem State.setGroupB_mode (s : State) (x : GroupB) : (s.setGroupB x).mode = s.mode := rfl
@[simp] theorem State.setGroupB_dict (s : State) (x : GroupB) : (s.setGroupB x).dict = s.dict := rfl
@[simp] theorem State.setGroupB_inForce (s : State) (x : GroupB) : (s.setGroupB x).inForce = s.inForce := rfl
@[simp] theorem State.setGroupB_stored (s : State) (x : GroupB) : (s.setGroupB x).stored = s.stored := rfl
@[simp] theorem State.setGroupB_storedLayout (s : State) (x : GroupB) : (s.setGroupB x).storedLayout = s.storedLayout := rfl
@[simp] theorem State.setGroupB_weftQueue (s : State) (x : GroupB) : (s.setGroupB x).weftQueue = s.weftQueue := rfl
@[simp] theorem State.setGroupB_ended (s : State) (x : GroupB) : (s.setGroupB x).ended = s.ended := rfl
@[simp] theorem State.setGroupB_shown (s : State) (x : GroupB) : (s.setGroupB x).shown = s.shown := rfl
@[simp] theorem State.setGroupB_keys (s : State) (x : GroupB) : (s.setGroupB x).keys = s.keys := rfl
@[simp] theorem State.setGroupB_domains (s : State) (x : GroupB) : (s.setGroupB x).domains = s.domains := rfl
@[simp] theorem State.setGroupB_command (s : State) (x : GroupB) : (s.setGroupB x).command = s.command := rfl
@[simp] theorem State.setGroupB_profileChange (s : State) (x : GroupB) : (s.setGroupB x).profileChange = s.profileChange := rfl
@[simp] theorem State.setGroupB_restore (s : State) (x : GroupB) : (s.setGroupB x).restore = s.restore := rfl
@[simp] theorem State.setGroupB_rst (s : State) (x : GroupB) : (s.setGroupB x).rst = s.rst := rfl
@[simp] theorem State.setGroupB_options (s : State) (x : GroupB) : (s.setGroupB x).options = s.options := rfl
@[simp] theorem State.setGroupB_tally (s : State) (x : GroupB) : (s.setGroupB x).tally = s.tally := rfl
@[simp] theorem State.setGroupB_face (s : State) (x : GroupB) : (s.setGroupB x).face = s.face := rfl
@[simp] theorem State.setGroupB_clp (s : State) (x : GroupB) : (s.setGroupB x).clp = s.clp := rfl
@[simp] theorem State.setGroupB_eng (s : State) (x : GroupB) : (s.setGroupB x).eng = s.eng := rfl
@[simp] theorem State.setGroupB_warp (s : State) (x : GroupB) : (s.setGroupB x).warp = s.warp := rfl
@[simp] theorem State.setGroupB_time (s : State) (x : GroupB) : (s.setGroupB x).time = s.time := rfl
@[simp] theorem State.setGroupB_can (s : State) (x : GroupB) : (s.setGroupB x).can = s.can := rfl
@[simp] theorem State.setGroupB_island (s : State) (x : GroupB) : (s.setGroupB x).island = s.island := rfl
@[simp] theorem State.setGroupB_io (s : State) (x : GroupB) : (s.setGroupB x).io = { s.io with b := x } := rfl
@[simp] theorem State.setGroupB_clocks (s : State) (x : GroupB) : (s.setGroupB x).clocks = s.clocks := rfl
@[simp] theorem State.setGroupB_pd (s : State) (x : GroupB) : (s.setGroupB x).pd = s.pd := rfl
@[simp] theorem State.setGroupB_stale (s : State) (x : GroupB) : (s.setGroupB x).stale = s.stale := rfl
@[simp] theorem State.setGroupB_pair (s : State) (x : GroupB) : (s.setGroupB x).pair = s.pair := rfl
@[simp] theorem State.setGroupB_prp (s : State) (x : GroupB) : (s.setGroupB x).prp = s.prp := rfl
@[simp] theorem State.setGroupB_firmware (s : State) (x : GroupB) : (s.setGroupB x).firmware = s.firmware := rfl
@[simp] theorem State.setGroupB_storeFault (s : State) (x : GroupB) : (s.setGroupB x).storeFault = s.storeFault := rfl
@[simp] theorem State.setGroupB_startTick (s : State) (x : GroupB) : (s.setGroupB x).startTick = s.startTick := rfl
@[simp] theorem State.setGroupB_captures (s : State) (x : GroupB) : (s.setGroupB x).captures = s.captures := rfl
@[simp] theorem State.setGroupB_loopsMissed (s : State) (x : GroupB) : (s.setGroupB x).loopsMissed = s.loopsMissed := rfl
@[simp] theorem State.setGroupB_loopsHeld (s : State) (x : GroupB) : (s.setGroupB x).loopsHeld = s.loopsHeld := rfl
@[simp] theorem State.setGroupB_tableRam (s : State) (x : GroupB) : (s.setGroupB x).tableRam = s.tableRam := rfl
@[simp] theorem State.setGroupB_store (s : State) (x : GroupB) : (s.setGroupB x).store = s.store := rfl
@[simp] theorem State.setGroupB_dram (s : State) (x : GroupB) : (s.setGroupB x).dram = s.dram := rfl
@[simp] theorem State.setGroupB_window (s : State) (x : GroupB) : (s.setGroupB x).window = s.window := rfl
@[simp] theorem State.setGroupB_tick (s : State) (x : GroupB) : (s.setGroupB x).tick = s.tick := rfl
@[simp] theorem State.setGroupB_ticking (s : State) (x : GroupB) : (s.setGroupB x).ticking = s.ticking := rfl
@[simp] theorem State.setGroupB_timeNs (s : State) (x : GroupB) : (s.setGroupB x).timeNs = s.timeNs := rfl
@[simp] theorem State.setGroupB_localNs (s : State) (x : GroupB) : (s.setGroupB x).localNs = s.localNs := rfl
@[simp] theorem State.setGroupB_rtcNs (s : State) (x : GroupB) : (s.setGroupB x).rtcNs = s.rtcNs := rfl
@[simp] theorem State.setGroupB_tickFlags (s : State) (x : GroupB) : (s.setGroupB x).tickFlags = s.tickFlags := rfl
@[simp] theorem State.setGroupB_freeCount (s : State) (x : GroupB) : (s.setGroupB x).freeCount = s.freeCount := rfl
@[simp] theorem State.setGroupB_out (s : State) (x : GroupB) : (s.setGroupB x).out = s.out := rfl
@[simp] theorem State.setGroupB_pending (s : State) (x : GroupB) : (s.setGroupB x).pending = s.pending := rfl

/-! ### setAo -/

@[simp] theorem State.setAo_mode (s : State) (k : Fin 8) (x : AoChannel) : (s.setAo k x).mode = s.mode := rfl
@[simp] theorem State.setAo_dict (s : State) (k : Fin 8) (x : AoChannel) : (s.setAo k x).dict = s.dict := rfl
@[simp] theorem State.setAo_inForce (s : State) (k : Fin 8) (x : AoChannel) : (s.setAo k x).inForce = s.inForce := rfl
@[simp] theorem State.setAo_stored (s : State) (k : Fin 8) (x : AoChannel) : (s.setAo k x).stored = s.stored := rfl
@[simp] theorem State.setAo_storedLayout (s : State) (k : Fin 8) (x : AoChannel) : (s.setAo k x).storedLayout = s.storedLayout := rfl
@[simp] theorem State.setAo_weftQueue (s : State) (k : Fin 8) (x : AoChannel) : (s.setAo k x).weftQueue = s.weftQueue := rfl
@[simp] theorem State.setAo_ended (s : State) (k : Fin 8) (x : AoChannel) : (s.setAo k x).ended = s.ended := rfl
@[simp] theorem State.setAo_shown (s : State) (k : Fin 8) (x : AoChannel) : (s.setAo k x).shown = s.shown := rfl
@[simp] theorem State.setAo_keys (s : State) (k : Fin 8) (x : AoChannel) : (s.setAo k x).keys = s.keys := rfl
@[simp] theorem State.setAo_domains (s : State) (k : Fin 8) (x : AoChannel) : (s.setAo k x).domains = s.domains := rfl
@[simp] theorem State.setAo_command (s : State) (k : Fin 8) (x : AoChannel) : (s.setAo k x).command = s.command := rfl
@[simp] theorem State.setAo_profileChange (s : State) (k : Fin 8) (x : AoChannel) : (s.setAo k x).profileChange = s.profileChange := rfl
@[simp] theorem State.setAo_restore (s : State) (k : Fin 8) (x : AoChannel) : (s.setAo k x).restore = s.restore := rfl
@[simp] theorem State.setAo_rst (s : State) (k : Fin 8) (x : AoChannel) : (s.setAo k x).rst = s.rst := rfl
@[simp] theorem State.setAo_options (s : State) (k : Fin 8) (x : AoChannel) : (s.setAo k x).options = s.options := rfl
@[simp] theorem State.setAo_tally (s : State) (k : Fin 8) (x : AoChannel) : (s.setAo k x).tally = s.tally := rfl
@[simp] theorem State.setAo_face (s : State) (k : Fin 8) (x : AoChannel) : (s.setAo k x).face = s.face := rfl
@[simp] theorem State.setAo_clp (s : State) (k : Fin 8) (x : AoChannel) : (s.setAo k x).clp = s.clp := rfl
@[simp] theorem State.setAo_eng (s : State) (k : Fin 8) (x : AoChannel) : (s.setAo k x).eng = s.eng := rfl
@[simp] theorem State.setAo_warp (s : State) (k : Fin 8) (x : AoChannel) : (s.setAo k x).warp = s.warp := rfl
@[simp] theorem State.setAo_time (s : State) (k : Fin 8) (x : AoChannel) : (s.setAo k x).time = s.time := rfl
@[simp] theorem State.setAo_can (s : State) (k : Fin 8) (x : AoChannel) : (s.setAo k x).can = s.can := rfl
@[simp] theorem State.setAo_island (s : State) (k : Fin 8) (x : AoChannel) : (s.setAo k x).island = s.island := rfl
@[simp] theorem State.setAo_io (s : State) (k : Fin 8) (x : AoChannel) : (s.setAo k x).io = { s.io with b := { s.io.b with ao := s.io.b.ao.set k x } } := rfl
@[simp] theorem State.setAo_clocks (s : State) (k : Fin 8) (x : AoChannel) : (s.setAo k x).clocks = s.clocks := rfl
@[simp] theorem State.setAo_pd (s : State) (k : Fin 8) (x : AoChannel) : (s.setAo k x).pd = s.pd := rfl
@[simp] theorem State.setAo_stale (s : State) (k : Fin 8) (x : AoChannel) : (s.setAo k x).stale = s.stale := rfl
@[simp] theorem State.setAo_pair (s : State) (k : Fin 8) (x : AoChannel) : (s.setAo k x).pair = s.pair := rfl
@[simp] theorem State.setAo_prp (s : State) (k : Fin 8) (x : AoChannel) : (s.setAo k x).prp = s.prp := rfl
@[simp] theorem State.setAo_firmware (s : State) (k : Fin 8) (x : AoChannel) : (s.setAo k x).firmware = s.firmware := rfl
@[simp] theorem State.setAo_storeFault (s : State) (k : Fin 8) (x : AoChannel) : (s.setAo k x).storeFault = s.storeFault := rfl
@[simp] theorem State.setAo_startTick (s : State) (k : Fin 8) (x : AoChannel) : (s.setAo k x).startTick = s.startTick := rfl
@[simp] theorem State.setAo_captures (s : State) (k : Fin 8) (x : AoChannel) : (s.setAo k x).captures = s.captures := rfl
@[simp] theorem State.setAo_loopsMissed (s : State) (k : Fin 8) (x : AoChannel) : (s.setAo k x).loopsMissed = s.loopsMissed := rfl
@[simp] theorem State.setAo_loopsHeld (s : State) (k : Fin 8) (x : AoChannel) : (s.setAo k x).loopsHeld = s.loopsHeld := rfl
@[simp] theorem State.setAo_tableRam (s : State) (k : Fin 8) (x : AoChannel) : (s.setAo k x).tableRam = s.tableRam := rfl
@[simp] theorem State.setAo_store (s : State) (k : Fin 8) (x : AoChannel) : (s.setAo k x).store = s.store := rfl
@[simp] theorem State.setAo_dram (s : State) (k : Fin 8) (x : AoChannel) : (s.setAo k x).dram = s.dram := rfl
@[simp] theorem State.setAo_window (s : State) (k : Fin 8) (x : AoChannel) : (s.setAo k x).window = s.window := rfl
@[simp] theorem State.setAo_tick (s : State) (k : Fin 8) (x : AoChannel) : (s.setAo k x).tick = s.tick := rfl
@[simp] theorem State.setAo_ticking (s : State) (k : Fin 8) (x : AoChannel) : (s.setAo k x).ticking = s.ticking := rfl
@[simp] theorem State.setAo_timeNs (s : State) (k : Fin 8) (x : AoChannel) : (s.setAo k x).timeNs = s.timeNs := rfl
@[simp] theorem State.setAo_localNs (s : State) (k : Fin 8) (x : AoChannel) : (s.setAo k x).localNs = s.localNs := rfl
@[simp] theorem State.setAo_rtcNs (s : State) (k : Fin 8) (x : AoChannel) : (s.setAo k x).rtcNs = s.rtcNs := rfl
@[simp] theorem State.setAo_tickFlags (s : State) (k : Fin 8) (x : AoChannel) : (s.setAo k x).tickFlags = s.tickFlags := rfl
@[simp] theorem State.setAo_freeCount (s : State) (k : Fin 8) (x : AoChannel) : (s.setAo k x).freeCount = s.freeCount := rfl
@[simp] theorem State.setAo_out (s : State) (k : Fin 8) (x : AoChannel) : (s.setAo k x).out = s.out := rfl
@[simp] theorem State.setAo_pending (s : State) (k : Fin 8) (x : AoChannel) : (s.setAo k x).pending = s.pending := rfl

/-! ### setDi -/

@[simp] theorem State.setDi_mode (s : State) (n : Fin 48) (x : DiChannel) : (s.setDi n x).mode = s.mode := rfl
@[simp] theorem State.setDi_dict (s : State) (n : Fin 48) (x : DiChannel) : (s.setDi n x).dict = s.dict := rfl
@[simp] theorem State.setDi_inForce (s : State) (n : Fin 48) (x : DiChannel) : (s.setDi n x).inForce = s.inForce := rfl
@[simp] theorem State.setDi_stored (s : State) (n : Fin 48) (x : DiChannel) : (s.setDi n x).stored = s.stored := rfl
@[simp] theorem State.setDi_storedLayout (s : State) (n : Fin 48) (x : DiChannel) : (s.setDi n x).storedLayout = s.storedLayout := rfl
@[simp] theorem State.setDi_weftQueue (s : State) (n : Fin 48) (x : DiChannel) : (s.setDi n x).weftQueue = s.weftQueue := rfl
@[simp] theorem State.setDi_ended (s : State) (n : Fin 48) (x : DiChannel) : (s.setDi n x).ended = s.ended := rfl
@[simp] theorem State.setDi_shown (s : State) (n : Fin 48) (x : DiChannel) : (s.setDi n x).shown = s.shown := rfl
@[simp] theorem State.setDi_keys (s : State) (n : Fin 48) (x : DiChannel) : (s.setDi n x).keys = s.keys := rfl
@[simp] theorem State.setDi_domains (s : State) (n : Fin 48) (x : DiChannel) : (s.setDi n x).domains = s.domains := rfl
@[simp] theorem State.setDi_command (s : State) (n : Fin 48) (x : DiChannel) : (s.setDi n x).command = s.command := rfl
@[simp] theorem State.setDi_profileChange (s : State) (n : Fin 48) (x : DiChannel) : (s.setDi n x).profileChange = s.profileChange := rfl
@[simp] theorem State.setDi_restore (s : State) (n : Fin 48) (x : DiChannel) : (s.setDi n x).restore = s.restore := rfl
@[simp] theorem State.setDi_rst (s : State) (n : Fin 48) (x : DiChannel) : (s.setDi n x).rst = s.rst := rfl
@[simp] theorem State.setDi_options (s : State) (n : Fin 48) (x : DiChannel) : (s.setDi n x).options = s.options := rfl
@[simp] theorem State.setDi_tally (s : State) (n : Fin 48) (x : DiChannel) : (s.setDi n x).tally = s.tally := rfl
@[simp] theorem State.setDi_face (s : State) (n : Fin 48) (x : DiChannel) : (s.setDi n x).face = s.face := rfl
@[simp] theorem State.setDi_clp (s : State) (n : Fin 48) (x : DiChannel) : (s.setDi n x).clp = s.clp := rfl
@[simp] theorem State.setDi_eng (s : State) (n : Fin 48) (x : DiChannel) : (s.setDi n x).eng = s.eng := rfl
@[simp] theorem State.setDi_warp (s : State) (n : Fin 48) (x : DiChannel) : (s.setDi n x).warp = s.warp := rfl
@[simp] theorem State.setDi_time (s : State) (n : Fin 48) (x : DiChannel) : (s.setDi n x).time = s.time := rfl
@[simp] theorem State.setDi_can (s : State) (n : Fin 48) (x : DiChannel) : (s.setDi n x).can = s.can := rfl
@[simp] theorem State.setDi_island (s : State) (n : Fin 48) (x : DiChannel) : (s.setDi n x).island = s.island := rfl
@[simp] theorem State.setDi_io (s : State) (n : Fin 48) (x : DiChannel) : (s.setDi n x).io = { s.io with a := { s.io.a with di := s.io.a.di.set n x } } := rfl
@[simp] theorem State.setDi_clocks (s : State) (n : Fin 48) (x : DiChannel) : (s.setDi n x).clocks = s.clocks := rfl
@[simp] theorem State.setDi_pd (s : State) (n : Fin 48) (x : DiChannel) : (s.setDi n x).pd = s.pd := rfl
@[simp] theorem State.setDi_stale (s : State) (n : Fin 48) (x : DiChannel) : (s.setDi n x).stale = s.stale := rfl
@[simp] theorem State.setDi_pair (s : State) (n : Fin 48) (x : DiChannel) : (s.setDi n x).pair = s.pair := rfl
@[simp] theorem State.setDi_prp (s : State) (n : Fin 48) (x : DiChannel) : (s.setDi n x).prp = s.prp := rfl
@[simp] theorem State.setDi_firmware (s : State) (n : Fin 48) (x : DiChannel) : (s.setDi n x).firmware = s.firmware := rfl
@[simp] theorem State.setDi_storeFault (s : State) (n : Fin 48) (x : DiChannel) : (s.setDi n x).storeFault = s.storeFault := rfl
@[simp] theorem State.setDi_startTick (s : State) (n : Fin 48) (x : DiChannel) : (s.setDi n x).startTick = s.startTick := rfl
@[simp] theorem State.setDi_captures (s : State) (n : Fin 48) (x : DiChannel) : (s.setDi n x).captures = s.captures := rfl
@[simp] theorem State.setDi_loopsMissed (s : State) (n : Fin 48) (x : DiChannel) : (s.setDi n x).loopsMissed = s.loopsMissed := rfl
@[simp] theorem State.setDi_loopsHeld (s : State) (n : Fin 48) (x : DiChannel) : (s.setDi n x).loopsHeld = s.loopsHeld := rfl
@[simp] theorem State.setDi_tableRam (s : State) (n : Fin 48) (x : DiChannel) : (s.setDi n x).tableRam = s.tableRam := rfl
@[simp] theorem State.setDi_store (s : State) (n : Fin 48) (x : DiChannel) : (s.setDi n x).store = s.store := rfl
@[simp] theorem State.setDi_dram (s : State) (n : Fin 48) (x : DiChannel) : (s.setDi n x).dram = s.dram := rfl
@[simp] theorem State.setDi_window (s : State) (n : Fin 48) (x : DiChannel) : (s.setDi n x).window = s.window := rfl
@[simp] theorem State.setDi_tick (s : State) (n : Fin 48) (x : DiChannel) : (s.setDi n x).tick = s.tick := rfl
@[simp] theorem State.setDi_ticking (s : State) (n : Fin 48) (x : DiChannel) : (s.setDi n x).ticking = s.ticking := rfl
@[simp] theorem State.setDi_timeNs (s : State) (n : Fin 48) (x : DiChannel) : (s.setDi n x).timeNs = s.timeNs := rfl
@[simp] theorem State.setDi_localNs (s : State) (n : Fin 48) (x : DiChannel) : (s.setDi n x).localNs = s.localNs := rfl
@[simp] theorem State.setDi_rtcNs (s : State) (n : Fin 48) (x : DiChannel) : (s.setDi n x).rtcNs = s.rtcNs := rfl
@[simp] theorem State.setDi_tickFlags (s : State) (n : Fin 48) (x : DiChannel) : (s.setDi n x).tickFlags = s.tickFlags := rfl
@[simp] theorem State.setDi_freeCount (s : State) (n : Fin 48) (x : DiChannel) : (s.setDi n x).freeCount = s.freeCount := rfl
@[simp] theorem State.setDi_out (s : State) (n : Fin 48) (x : DiChannel) : (s.setDi n x).out = s.out := rfl
@[simp] theorem State.setDi_pending (s : State) (n : Fin 48) (x : DiChannel) : (s.setDi n x).pending = s.pending := rfl

/-! ### setHart -/

@[simp] theorem State.setHart_mode (s : State) (c : Fin 16) (x : HartChannel) : (s.setHart c x).mode = s.mode := rfl
@[simp] theorem State.setHart_dict (s : State) (c : Fin 16) (x : HartChannel) : (s.setHart c x).dict = s.dict := rfl
@[simp] theorem State.setHart_inForce (s : State) (c : Fin 16) (x : HartChannel) : (s.setHart c x).inForce = s.inForce := rfl
@[simp] theorem State.setHart_stored (s : State) (c : Fin 16) (x : HartChannel) : (s.setHart c x).stored = s.stored := rfl
@[simp] theorem State.setHart_storedLayout (s : State) (c : Fin 16) (x : HartChannel) : (s.setHart c x).storedLayout = s.storedLayout := rfl
@[simp] theorem State.setHart_weftQueue (s : State) (c : Fin 16) (x : HartChannel) : (s.setHart c x).weftQueue = s.weftQueue := rfl
@[simp] theorem State.setHart_ended (s : State) (c : Fin 16) (x : HartChannel) : (s.setHart c x).ended = s.ended := rfl
@[simp] theorem State.setHart_shown (s : State) (c : Fin 16) (x : HartChannel) : (s.setHart c x).shown = s.shown := rfl
@[simp] theorem State.setHart_keys (s : State) (c : Fin 16) (x : HartChannel) : (s.setHart c x).keys = s.keys := rfl
@[simp] theorem State.setHart_domains (s : State) (c : Fin 16) (x : HartChannel) : (s.setHart c x).domains = s.domains := rfl
@[simp] theorem State.setHart_command (s : State) (c : Fin 16) (x : HartChannel) : (s.setHart c x).command = s.command := rfl
@[simp] theorem State.setHart_profileChange (s : State) (c : Fin 16) (x : HartChannel) : (s.setHart c x).profileChange = s.profileChange := rfl
@[simp] theorem State.setHart_restore (s : State) (c : Fin 16) (x : HartChannel) : (s.setHart c x).restore = s.restore := rfl
@[simp] theorem State.setHart_rst (s : State) (c : Fin 16) (x : HartChannel) : (s.setHart c x).rst = s.rst := rfl
@[simp] theorem State.setHart_options (s : State) (c : Fin 16) (x : HartChannel) : (s.setHart c x).options = s.options := rfl
@[simp] theorem State.setHart_tally (s : State) (c : Fin 16) (x : HartChannel) : (s.setHart c x).tally = s.tally := rfl
@[simp] theorem State.setHart_face (s : State) (c : Fin 16) (x : HartChannel) : (s.setHart c x).face = s.face := rfl
@[simp] theorem State.setHart_clp (s : State) (c : Fin 16) (x : HartChannel) : (s.setHart c x).clp = s.clp := rfl
@[simp] theorem State.setHart_eng (s : State) (c : Fin 16) (x : HartChannel) : (s.setHart c x).eng = s.eng := rfl
@[simp] theorem State.setHart_warp (s : State) (c : Fin 16) (x : HartChannel) : (s.setHart c x).warp = s.warp := rfl
@[simp] theorem State.setHart_time (s : State) (c : Fin 16) (x : HartChannel) : (s.setHart c x).time = s.time := rfl
@[simp] theorem State.setHart_can (s : State) (c : Fin 16) (x : HartChannel) : (s.setHart c x).can = s.can := rfl
@[simp] theorem State.setHart_island (s : State) (c : Fin 16) (x : HartChannel) : (s.setHart c x).island = s.island := rfl
@[simp] theorem State.setHart_io (s : State) (c : Fin 16) (x : HartChannel) : (s.setHart c x).io = { s.io with hart := s.io.hart.set c x } := rfl
@[simp] theorem State.setHart_clocks (s : State) (c : Fin 16) (x : HartChannel) : (s.setHart c x).clocks = s.clocks := rfl
@[simp] theorem State.setHart_pd (s : State) (c : Fin 16) (x : HartChannel) : (s.setHart c x).pd = s.pd := rfl
@[simp] theorem State.setHart_stale (s : State) (c : Fin 16) (x : HartChannel) : (s.setHart c x).stale = s.stale := rfl
@[simp] theorem State.setHart_pair (s : State) (c : Fin 16) (x : HartChannel) : (s.setHart c x).pair = s.pair := rfl
@[simp] theorem State.setHart_prp (s : State) (c : Fin 16) (x : HartChannel) : (s.setHart c x).prp = s.prp := rfl
@[simp] theorem State.setHart_firmware (s : State) (c : Fin 16) (x : HartChannel) : (s.setHart c x).firmware = s.firmware := rfl
@[simp] theorem State.setHart_storeFault (s : State) (c : Fin 16) (x : HartChannel) : (s.setHart c x).storeFault = s.storeFault := rfl
@[simp] theorem State.setHart_startTick (s : State) (c : Fin 16) (x : HartChannel) : (s.setHart c x).startTick = s.startTick := rfl
@[simp] theorem State.setHart_captures (s : State) (c : Fin 16) (x : HartChannel) : (s.setHart c x).captures = s.captures := rfl
@[simp] theorem State.setHart_loopsMissed (s : State) (c : Fin 16) (x : HartChannel) : (s.setHart c x).loopsMissed = s.loopsMissed := rfl
@[simp] theorem State.setHart_loopsHeld (s : State) (c : Fin 16) (x : HartChannel) : (s.setHart c x).loopsHeld = s.loopsHeld := rfl
@[simp] theorem State.setHart_tableRam (s : State) (c : Fin 16) (x : HartChannel) : (s.setHart c x).tableRam = s.tableRam := rfl
@[simp] theorem State.setHart_store (s : State) (c : Fin 16) (x : HartChannel) : (s.setHart c x).store = s.store := rfl
@[simp] theorem State.setHart_dram (s : State) (c : Fin 16) (x : HartChannel) : (s.setHart c x).dram = s.dram := rfl
@[simp] theorem State.setHart_window (s : State) (c : Fin 16) (x : HartChannel) : (s.setHart c x).window = s.window := rfl
@[simp] theorem State.setHart_tick (s : State) (c : Fin 16) (x : HartChannel) : (s.setHart c x).tick = s.tick := rfl
@[simp] theorem State.setHart_ticking (s : State) (c : Fin 16) (x : HartChannel) : (s.setHart c x).ticking = s.ticking := rfl
@[simp] theorem State.setHart_timeNs (s : State) (c : Fin 16) (x : HartChannel) : (s.setHart c x).timeNs = s.timeNs := rfl
@[simp] theorem State.setHart_localNs (s : State) (c : Fin 16) (x : HartChannel) : (s.setHart c x).localNs = s.localNs := rfl
@[simp] theorem State.setHart_rtcNs (s : State) (c : Fin 16) (x : HartChannel) : (s.setHart c x).rtcNs = s.rtcNs := rfl
@[simp] theorem State.setHart_tickFlags (s : State) (c : Fin 16) (x : HartChannel) : (s.setHart c x).tickFlags = s.tickFlags := rfl
@[simp] theorem State.setHart_freeCount (s : State) (c : Fin 16) (x : HartChannel) : (s.setHart c x).freeCount = s.freeCount := rfl
@[simp] theorem State.setHart_out (s : State) (c : Fin 16) (x : HartChannel) : (s.setHart c x).out = s.out := rfl
@[simp] theorem State.setHart_pending (s : State) (c : Fin 16) (x : HartChannel) : (s.setHart c x).pending = s.pending := rfl

/-! ### setChan -/

@[simp] theorem State.setChan_mode (s : State) (k : Fin 8) (x : CanChannel) : (s.setChan k x).mode = s.mode := rfl
@[simp] theorem State.setChan_dict (s : State) (k : Fin 8) (x : CanChannel) : (s.setChan k x).dict = s.dict := rfl
@[simp] theorem State.setChan_inForce (s : State) (k : Fin 8) (x : CanChannel) : (s.setChan k x).inForce = s.inForce := rfl
@[simp] theorem State.setChan_stored (s : State) (k : Fin 8) (x : CanChannel) : (s.setChan k x).stored = s.stored := rfl
@[simp] theorem State.setChan_storedLayout (s : State) (k : Fin 8) (x : CanChannel) : (s.setChan k x).storedLayout = s.storedLayout := rfl
@[simp] theorem State.setChan_weftQueue (s : State) (k : Fin 8) (x : CanChannel) : (s.setChan k x).weftQueue = s.weftQueue := rfl
@[simp] theorem State.setChan_ended (s : State) (k : Fin 8) (x : CanChannel) : (s.setChan k x).ended = s.ended := rfl
@[simp] theorem State.setChan_shown (s : State) (k : Fin 8) (x : CanChannel) : (s.setChan k x).shown = s.shown := rfl
@[simp] theorem State.setChan_keys (s : State) (k : Fin 8) (x : CanChannel) : (s.setChan k x).keys = s.keys := rfl
@[simp] theorem State.setChan_domains (s : State) (k : Fin 8) (x : CanChannel) : (s.setChan k x).domains = s.domains := rfl
@[simp] theorem State.setChan_command (s : State) (k : Fin 8) (x : CanChannel) : (s.setChan k x).command = s.command := rfl
@[simp] theorem State.setChan_profileChange (s : State) (k : Fin 8) (x : CanChannel) : (s.setChan k x).profileChange = s.profileChange := rfl
@[simp] theorem State.setChan_restore (s : State) (k : Fin 8) (x : CanChannel) : (s.setChan k x).restore = s.restore := rfl
@[simp] theorem State.setChan_rst (s : State) (k : Fin 8) (x : CanChannel) : (s.setChan k x).rst = s.rst := rfl
@[simp] theorem State.setChan_options (s : State) (k : Fin 8) (x : CanChannel) : (s.setChan k x).options = s.options := rfl
@[simp] theorem State.setChan_tally (s : State) (k : Fin 8) (x : CanChannel) : (s.setChan k x).tally = s.tally := rfl
@[simp] theorem State.setChan_face (s : State) (k : Fin 8) (x : CanChannel) : (s.setChan k x).face = s.face := rfl
@[simp] theorem State.setChan_clp (s : State) (k : Fin 8) (x : CanChannel) : (s.setChan k x).clp = s.clp := rfl
@[simp] theorem State.setChan_eng (s : State) (k : Fin 8) (x : CanChannel) : (s.setChan k x).eng = s.eng := rfl
@[simp] theorem State.setChan_warp (s : State) (k : Fin 8) (x : CanChannel) : (s.setChan k x).warp = s.warp := rfl
@[simp] theorem State.setChan_time (s : State) (k : Fin 8) (x : CanChannel) : (s.setChan k x).time = s.time := rfl
@[simp] theorem State.setChan_can (s : State) (k : Fin 8) (x : CanChannel) : (s.setChan k x).can = { s.can with channels := s.can.channels.set k x } := rfl
@[simp] theorem State.setChan_island (s : State) (k : Fin 8) (x : CanChannel) : (s.setChan k x).island = s.island := rfl
@[simp] theorem State.setChan_io (s : State) (k : Fin 8) (x : CanChannel) : (s.setChan k x).io = s.io := rfl
@[simp] theorem State.setChan_clocks (s : State) (k : Fin 8) (x : CanChannel) : (s.setChan k x).clocks = s.clocks := rfl
@[simp] theorem State.setChan_pd (s : State) (k : Fin 8) (x : CanChannel) : (s.setChan k x).pd = s.pd := rfl
@[simp] theorem State.setChan_stale (s : State) (k : Fin 8) (x : CanChannel) : (s.setChan k x).stale = s.stale := rfl
@[simp] theorem State.setChan_pair (s : State) (k : Fin 8) (x : CanChannel) : (s.setChan k x).pair = s.pair := rfl
@[simp] theorem State.setChan_prp (s : State) (k : Fin 8) (x : CanChannel) : (s.setChan k x).prp = s.prp := rfl
@[simp] theorem State.setChan_firmware (s : State) (k : Fin 8) (x : CanChannel) : (s.setChan k x).firmware = s.firmware := rfl
@[simp] theorem State.setChan_storeFault (s : State) (k : Fin 8) (x : CanChannel) : (s.setChan k x).storeFault = s.storeFault := rfl
@[simp] theorem State.setChan_startTick (s : State) (k : Fin 8) (x : CanChannel) : (s.setChan k x).startTick = s.startTick := rfl
@[simp] theorem State.setChan_captures (s : State) (k : Fin 8) (x : CanChannel) : (s.setChan k x).captures = s.captures := rfl
@[simp] theorem State.setChan_loopsMissed (s : State) (k : Fin 8) (x : CanChannel) : (s.setChan k x).loopsMissed = s.loopsMissed := rfl
@[simp] theorem State.setChan_loopsHeld (s : State) (k : Fin 8) (x : CanChannel) : (s.setChan k x).loopsHeld = s.loopsHeld := rfl
@[simp] theorem State.setChan_tableRam (s : State) (k : Fin 8) (x : CanChannel) : (s.setChan k x).tableRam = s.tableRam := rfl
@[simp] theorem State.setChan_store (s : State) (k : Fin 8) (x : CanChannel) : (s.setChan k x).store = s.store := rfl
@[simp] theorem State.setChan_dram (s : State) (k : Fin 8) (x : CanChannel) : (s.setChan k x).dram = s.dram := rfl
@[simp] theorem State.setChan_window (s : State) (k : Fin 8) (x : CanChannel) : (s.setChan k x).window = s.window := rfl
@[simp] theorem State.setChan_tick (s : State) (k : Fin 8) (x : CanChannel) : (s.setChan k x).tick = s.tick := rfl
@[simp] theorem State.setChan_ticking (s : State) (k : Fin 8) (x : CanChannel) : (s.setChan k x).ticking = s.ticking := rfl
@[simp] theorem State.setChan_timeNs (s : State) (k : Fin 8) (x : CanChannel) : (s.setChan k x).timeNs = s.timeNs := rfl
@[simp] theorem State.setChan_localNs (s : State) (k : Fin 8) (x : CanChannel) : (s.setChan k x).localNs = s.localNs := rfl
@[simp] theorem State.setChan_rtcNs (s : State) (k : Fin 8) (x : CanChannel) : (s.setChan k x).rtcNs = s.rtcNs := rfl
@[simp] theorem State.setChan_tickFlags (s : State) (k : Fin 8) (x : CanChannel) : (s.setChan k x).tickFlags = s.tickFlags := rfl
@[simp] theorem State.setChan_freeCount (s : State) (k : Fin 8) (x : CanChannel) : (s.setChan k x).freeCount = s.freeCount := rfl
@[simp] theorem State.setChan_out (s : State) (k : Fin 8) (x : CanChannel) : (s.setChan k x).out = s.out := rfl
@[simp] theorem State.setChan_pending (s : State) (k : Fin 8) (x : CanChannel) : (s.setChan k x).pending = s.pending := rfl

/-! ### countPacket -/

@[simp] theorem State.countPacket_mode (s : State) : (s.countPacket).mode = s.mode := rfl
@[simp] theorem State.countPacket_dict (s : State) : (s.countPacket).dict = s.dict := rfl
@[simp] theorem State.countPacket_inForce (s : State) : (s.countPacket).inForce = s.inForce := rfl
@[simp] theorem State.countPacket_stored (s : State) : (s.countPacket).stored = s.stored := rfl
@[simp] theorem State.countPacket_storedLayout (s : State) : (s.countPacket).storedLayout = s.storedLayout := rfl
@[simp] theorem State.countPacket_weftQueue (s : State) : (s.countPacket).weftQueue = s.weftQueue := rfl
@[simp] theorem State.countPacket_ended (s : State) : (s.countPacket).ended = s.ended := rfl
@[simp] theorem State.countPacket_shown (s : State) : (s.countPacket).shown = s.shown := rfl
@[simp] theorem State.countPacket_keys (s : State) : (s.countPacket).keys = s.keys := rfl
@[simp] theorem State.countPacket_domains (s : State) : (s.countPacket).domains = s.domains := rfl
@[simp] theorem State.countPacket_command (s : State) : (s.countPacket).command = s.command := rfl
@[simp] theorem State.countPacket_profileChange (s : State) : (s.countPacket).profileChange = s.profileChange := rfl
@[simp] theorem State.countPacket_restore (s : State) : (s.countPacket).restore = s.restore := rfl
@[simp] theorem State.countPacket_rst (s : State) : (s.countPacket).rst = s.rst := rfl
@[simp] theorem State.countPacket_options (s : State) : (s.countPacket).options = s.options := rfl
@[simp] theorem State.countPacket_tally (s : State) : (s.countPacket).tally = s.tally := rfl
@[simp] theorem State.countPacket_face (s : State) : (s.countPacket).face = s.face := rfl
@[simp] theorem State.countPacket_clp (s : State) : (s.countPacket).clp = { s.clp with packets := s.clp.packets + 1 } := rfl
@[simp] theorem State.countPacket_eng (s : State) : (s.countPacket).eng = s.eng := rfl
@[simp] theorem State.countPacket_warp (s : State) : (s.countPacket).warp = s.warp := rfl
@[simp] theorem State.countPacket_time (s : State) : (s.countPacket).time = s.time := rfl
@[simp] theorem State.countPacket_can (s : State) : (s.countPacket).can = s.can := rfl
@[simp] theorem State.countPacket_island (s : State) : (s.countPacket).island = s.island := rfl
@[simp] theorem State.countPacket_io (s : State) : (s.countPacket).io = s.io := rfl
@[simp] theorem State.countPacket_clocks (s : State) : (s.countPacket).clocks = s.clocks := rfl
@[simp] theorem State.countPacket_pd (s : State) : (s.countPacket).pd = s.pd := rfl
@[simp] theorem State.countPacket_stale (s : State) : (s.countPacket).stale = s.stale := rfl
@[simp] theorem State.countPacket_pair (s : State) : (s.countPacket).pair = s.pair := rfl
@[simp] theorem State.countPacket_prp (s : State) : (s.countPacket).prp = s.prp := rfl
@[simp] theorem State.countPacket_firmware (s : State) : (s.countPacket).firmware = s.firmware := rfl
@[simp] theorem State.countPacket_storeFault (s : State) : (s.countPacket).storeFault = s.storeFault := rfl
@[simp] theorem State.countPacket_startTick (s : State) : (s.countPacket).startTick = s.startTick := rfl
@[simp] theorem State.countPacket_captures (s : State) : (s.countPacket).captures = s.captures := rfl
@[simp] theorem State.countPacket_loopsMissed (s : State) : (s.countPacket).loopsMissed = s.loopsMissed := rfl
@[simp] theorem State.countPacket_loopsHeld (s : State) : (s.countPacket).loopsHeld = s.loopsHeld := rfl
@[simp] theorem State.countPacket_tableRam (s : State) : (s.countPacket).tableRam = s.tableRam := rfl
@[simp] theorem State.countPacket_store (s : State) : (s.countPacket).store = s.store := rfl
@[simp] theorem State.countPacket_dram (s : State) : (s.countPacket).dram = s.dram := rfl
@[simp] theorem State.countPacket_window (s : State) : (s.countPacket).window = s.window := rfl
@[simp] theorem State.countPacket_tick (s : State) : (s.countPacket).tick = s.tick := rfl
@[simp] theorem State.countPacket_ticking (s : State) : (s.countPacket).ticking = s.ticking := rfl
@[simp] theorem State.countPacket_timeNs (s : State) : (s.countPacket).timeNs = s.timeNs := rfl
@[simp] theorem State.countPacket_localNs (s : State) : (s.countPacket).localNs = s.localNs := rfl
@[simp] theorem State.countPacket_rtcNs (s : State) : (s.countPacket).rtcNs = s.rtcNs := rfl
@[simp] theorem State.countPacket_tickFlags (s : State) : (s.countPacket).tickFlags = s.tickFlags := rfl
@[simp] theorem State.countPacket_freeCount (s : State) : (s.countPacket).freeCount = s.freeCount := rfl
@[simp] theorem State.countPacket_out (s : State) : (s.countPacket).out = s.out := rfl
@[simp] theorem State.countPacket_pending (s : State) : (s.countPacket).pending = s.pending := rfl

/-! ### putSub -/

@[simp] theorem State.putSub_mode (s : State) (x : Subscription) : (s.putSub x).mode = s.mode := rfl
@[simp] theorem State.putSub_dict (s : State) (x : Subscription) : (s.putSub x).dict = s.dict := rfl
@[simp] theorem State.putSub_inForce (s : State) (x : Subscription) : (s.putSub x).inForce = s.inForce := rfl
@[simp] theorem State.putSub_stored (s : State) (x : Subscription) : (s.putSub x).stored = s.stored := rfl
@[simp] theorem State.putSub_storedLayout (s : State) (x : Subscription) : (s.putSub x).storedLayout = s.storedLayout := rfl
@[simp] theorem State.putSub_weftQueue (s : State) (x : Subscription) : (s.putSub x).weftQueue = s.weftQueue := rfl
@[simp] theorem State.putSub_ended (s : State) (x : Subscription) : (s.putSub x).ended = s.ended := rfl
@[simp] theorem State.putSub_shown (s : State) (x : Subscription) : (s.putSub x).shown = s.shown := rfl
@[simp] theorem State.putSub_keys (s : State) (x : Subscription) : (s.putSub x).keys = s.keys := rfl
@[simp] theorem State.putSub_domains (s : State) (x : Subscription) : (s.putSub x).domains = s.domains := rfl
@[simp] theorem State.putSub_command (s : State) (x : Subscription) : (s.putSub x).command = s.command := rfl
@[simp] theorem State.putSub_profileChange (s : State) (x : Subscription) : (s.putSub x).profileChange = s.profileChange := rfl
@[simp] theorem State.putSub_restore (s : State) (x : Subscription) : (s.putSub x).restore = s.restore := rfl
@[simp] theorem State.putSub_rst (s : State) (x : Subscription) : (s.putSub x).rst = s.rst := rfl
@[simp] theorem State.putSub_options (s : State) (x : Subscription) : (s.putSub x).options = s.options := rfl
@[simp] theorem State.putSub_tally (s : State) (x : Subscription) : (s.putSub x).tally = s.tally := rfl
@[simp] theorem State.putSub_face (s : State) (x : Subscription) : (s.putSub x).face = s.face := rfl
@[simp] theorem State.putSub_eng (s : State) (x : Subscription) : (s.putSub x).eng = s.eng := rfl
@[simp] theorem State.putSub_warp (s : State) (x : Subscription) : (s.putSub x).warp = s.warp := rfl
@[simp] theorem State.putSub_time (s : State) (x : Subscription) : (s.putSub x).time = s.time := rfl
@[simp] theorem State.putSub_can (s : State) (x : Subscription) : (s.putSub x).can = s.can := rfl
@[simp] theorem State.putSub_island (s : State) (x : Subscription) : (s.putSub x).island = s.island := rfl
@[simp] theorem State.putSub_io (s : State) (x : Subscription) : (s.putSub x).io = s.io := rfl
@[simp] theorem State.putSub_clocks (s : State) (x : Subscription) : (s.putSub x).clocks = s.clocks := rfl
@[simp] theorem State.putSub_pd (s : State) (x : Subscription) : (s.putSub x).pd = s.pd := rfl
@[simp] theorem State.putSub_stale (s : State) (x : Subscription) : (s.putSub x).stale = s.stale := rfl
@[simp] theorem State.putSub_pair (s : State) (x : Subscription) : (s.putSub x).pair = s.pair := rfl
@[simp] theorem State.putSub_prp (s : State) (x : Subscription) : (s.putSub x).prp = s.prp := rfl
@[simp] theorem State.putSub_firmware (s : State) (x : Subscription) : (s.putSub x).firmware = s.firmware := rfl
@[simp] theorem State.putSub_storeFault (s : State) (x : Subscription) : (s.putSub x).storeFault = s.storeFault := rfl
@[simp] theorem State.putSub_startTick (s : State) (x : Subscription) : (s.putSub x).startTick = s.startTick := rfl
@[simp] theorem State.putSub_captures (s : State) (x : Subscription) : (s.putSub x).captures = s.captures := rfl
@[simp] theorem State.putSub_loopsMissed (s : State) (x : Subscription) : (s.putSub x).loopsMissed = s.loopsMissed := rfl
@[simp] theorem State.putSub_loopsHeld (s : State) (x : Subscription) : (s.putSub x).loopsHeld = s.loopsHeld := rfl
@[simp] theorem State.putSub_tableRam (s : State) (x : Subscription) : (s.putSub x).tableRam = s.tableRam := rfl
@[simp] theorem State.putSub_store (s : State) (x : Subscription) : (s.putSub x).store = s.store := rfl
@[simp] theorem State.putSub_dram (s : State) (x : Subscription) : (s.putSub x).dram = s.dram := rfl
@[simp] theorem State.putSub_window (s : State) (x : Subscription) : (s.putSub x).window = s.window := rfl
@[simp] theorem State.putSub_tick (s : State) (x : Subscription) : (s.putSub x).tick = s.tick := rfl
@[simp] theorem State.putSub_ticking (s : State) (x : Subscription) : (s.putSub x).ticking = s.ticking := rfl
@[simp] theorem State.putSub_timeNs (s : State) (x : Subscription) : (s.putSub x).timeNs = s.timeNs := rfl
@[simp] theorem State.putSub_localNs (s : State) (x : Subscription) : (s.putSub x).localNs = s.localNs := rfl
@[simp] theorem State.putSub_rtcNs (s : State) (x : Subscription) : (s.putSub x).rtcNs = s.rtcNs := rfl
@[simp] theorem State.putSub_tickFlags (s : State) (x : Subscription) : (s.putSub x).tickFlags = s.tickFlags := rfl
@[simp] theorem State.putSub_freeCount (s : State) (x : Subscription) : (s.putSub x).freeCount = s.freeCount := rfl
@[simp] theorem State.putSub_out (s : State) (x : Subscription) : (s.putSub x).out = s.out := rfl
@[simp] theorem State.putSub_pending (s : State) (x : Subscription) : (s.putSub x).pending = s.pending := rfl

/-! ### setPair -/

@[simp] theorem State.setPair_mode (s : State) (p : PairBlock) : (s.setPair p).mode = s.mode := rfl
@[simp] theorem State.setPair_dict (s : State) (p : PairBlock) : (s.setPair p).dict = s.dict := rfl
@[simp] theorem State.setPair_inForce (s : State) (p : PairBlock) : (s.setPair p).inForce = s.inForce := rfl
@[simp] theorem State.setPair_stored (s : State) (p : PairBlock) : (s.setPair p).stored = s.stored := rfl
@[simp] theorem State.setPair_storedLayout (s : State) (p : PairBlock) : (s.setPair p).storedLayout = s.storedLayout := rfl
@[simp] theorem State.setPair_weftQueue (s : State) (p : PairBlock) : (s.setPair p).weftQueue = s.weftQueue := rfl
@[simp] theorem State.setPair_ended (s : State) (p : PairBlock) : (s.setPair p).ended = s.ended := rfl
@[simp] theorem State.setPair_shown (s : State) (p : PairBlock) : (s.setPair p).shown = s.shown := rfl
@[simp] theorem State.setPair_keys (s : State) (p : PairBlock) : (s.setPair p).keys = s.keys := rfl
@[simp] theorem State.setPair_domains (s : State) (p : PairBlock) : (s.setPair p).domains = s.domains := rfl
@[simp] theorem State.setPair_command (s : State) (p : PairBlock) : (s.setPair p).command = s.command := rfl
@[simp] theorem State.setPair_profileChange (s : State) (p : PairBlock) : (s.setPair p).profileChange = s.profileChange := rfl
@[simp] theorem State.setPair_restore (s : State) (p : PairBlock) : (s.setPair p).restore = s.restore := rfl
@[simp] theorem State.setPair_rst (s : State) (p : PairBlock) : (s.setPair p).rst = s.rst := rfl
@[simp] theorem State.setPair_options (s : State) (p : PairBlock) : (s.setPair p).options = s.options := rfl
@[simp] theorem State.setPair_tally (s : State) (p : PairBlock) : (s.setPair p).tally = s.tally := rfl
@[simp] theorem State.setPair_face (s : State) (p : PairBlock) : (s.setPair p).face = s.face := rfl
@[simp] theorem State.setPair_clp (s : State) (p : PairBlock) : (s.setPair p).clp = s.clp := rfl
@[simp] theorem State.setPair_eng (s : State) (p : PairBlock) : (s.setPair p).eng = s.eng := rfl
@[simp] theorem State.setPair_warp (s : State) (p : PairBlock) : (s.setPair p).warp = s.warp := rfl
@[simp] theorem State.setPair_time (s : State) (p : PairBlock) : (s.setPair p).time = s.time := rfl
@[simp] theorem State.setPair_can (s : State) (p : PairBlock) : (s.setPair p).can = s.can := rfl
@[simp] theorem State.setPair_island (s : State) (p : PairBlock) : (s.setPair p).island = s.island := rfl
@[simp] theorem State.setPair_io (s : State) (p : PairBlock) : (s.setPair p).io = s.io := rfl
@[simp] theorem State.setPair_clocks (s : State) (p : PairBlock) : (s.setPair p).clocks = s.clocks := rfl
@[simp] theorem State.setPair_pd (s : State) (p : PairBlock) : (s.setPair p).pd = s.pd := rfl
@[simp] theorem State.setPair_stale (s : State) (p : PairBlock) : (s.setPair p).stale = s.stale := rfl
@[simp] theorem State.setPair_pair (s : State) (p : PairBlock) : (s.setPair p).pair = p := rfl
@[simp] theorem State.setPair_prp (s : State) (p : PairBlock) : (s.setPair p).prp = s.prp := rfl
@[simp] theorem State.setPair_firmware (s : State) (p : PairBlock) : (s.setPair p).firmware = s.firmware := rfl
@[simp] theorem State.setPair_storeFault (s : State) (p : PairBlock) : (s.setPair p).storeFault = s.storeFault := rfl
@[simp] theorem State.setPair_startTick (s : State) (p : PairBlock) : (s.setPair p).startTick = s.startTick := rfl
@[simp] theorem State.setPair_captures (s : State) (p : PairBlock) : (s.setPair p).captures = s.captures := rfl
@[simp] theorem State.setPair_loopsMissed (s : State) (p : PairBlock) : (s.setPair p).loopsMissed = s.loopsMissed := rfl
@[simp] theorem State.setPair_loopsHeld (s : State) (p : PairBlock) : (s.setPair p).loopsHeld = s.loopsHeld := rfl
@[simp] theorem State.setPair_tableRam (s : State) (p : PairBlock) : (s.setPair p).tableRam = s.tableRam := rfl
@[simp] theorem State.setPair_store (s : State) (p : PairBlock) : (s.setPair p).store = s.store := rfl
@[simp] theorem State.setPair_dram (s : State) (p : PairBlock) : (s.setPair p).dram = s.dram := rfl
@[simp] theorem State.setPair_window (s : State) (p : PairBlock) : (s.setPair p).window = s.window := rfl
@[simp] theorem State.setPair_tick (s : State) (p : PairBlock) : (s.setPair p).tick = s.tick := rfl
@[simp] theorem State.setPair_ticking (s : State) (p : PairBlock) : (s.setPair p).ticking = s.ticking := rfl
@[simp] theorem State.setPair_timeNs (s : State) (p : PairBlock) : (s.setPair p).timeNs = s.timeNs := rfl
@[simp] theorem State.setPair_localNs (s : State) (p : PairBlock) : (s.setPair p).localNs = s.localNs := rfl
@[simp] theorem State.setPair_rtcNs (s : State) (p : PairBlock) : (s.setPair p).rtcNs = s.rtcNs := rfl
@[simp] theorem State.setPair_tickFlags (s : State) (p : PairBlock) : (s.setPair p).tickFlags = s.tickFlags := rfl
@[simp] theorem State.setPair_freeCount (s : State) (p : PairBlock) : (s.setPair p).freeCount = s.freeCount := rfl
@[simp] theorem State.setPair_out (s : State) (p : PairBlock) : (s.setPair p).out = s.out := rfl
@[simp] theorem State.setPair_pending (s : State) (p : PairBlock) : (s.setPair p).pending = s.pending := rfl

/-! ### setFace -/

@[simp] theorem State.setFace_mode (s : State) (f : Faceplate) : (s.setFace f).mode = s.mode := rfl
@[simp] theorem State.setFace_dict (s : State) (f : Faceplate) : (s.setFace f).dict = s.dict := rfl
@[simp] theorem State.setFace_inForce (s : State) (f : Faceplate) : (s.setFace f).inForce = s.inForce := rfl
@[simp] theorem State.setFace_stored (s : State) (f : Faceplate) : (s.setFace f).stored = s.stored := rfl
@[simp] theorem State.setFace_storedLayout (s : State) (f : Faceplate) : (s.setFace f).storedLayout = s.storedLayout := rfl
@[simp] theorem State.setFace_weftQueue (s : State) (f : Faceplate) : (s.setFace f).weftQueue = s.weftQueue := rfl
@[simp] theorem State.setFace_ended (s : State) (f : Faceplate) : (s.setFace f).ended = s.ended := rfl
@[simp] theorem State.setFace_shown (s : State) (f : Faceplate) : (s.setFace f).shown = s.shown := rfl
@[simp] theorem State.setFace_keys (s : State) (f : Faceplate) : (s.setFace f).keys = s.keys := rfl
@[simp] theorem State.setFace_domains (s : State) (f : Faceplate) : (s.setFace f).domains = s.domains := rfl
@[simp] theorem State.setFace_command (s : State) (f : Faceplate) : (s.setFace f).command = s.command := rfl
@[simp] theorem State.setFace_profileChange (s : State) (f : Faceplate) : (s.setFace f).profileChange = s.profileChange := rfl
@[simp] theorem State.setFace_restore (s : State) (f : Faceplate) : (s.setFace f).restore = s.restore := rfl
@[simp] theorem State.setFace_rst (s : State) (f : Faceplate) : (s.setFace f).rst = s.rst := rfl
@[simp] theorem State.setFace_options (s : State) (f : Faceplate) : (s.setFace f).options = s.options := rfl
@[simp] theorem State.setFace_tally (s : State) (f : Faceplate) : (s.setFace f).tally = s.tally := rfl
@[simp] theorem State.setFace_face (s : State) (f : Faceplate) : (s.setFace f).face = f := rfl
@[simp] theorem State.setFace_clp (s : State) (f : Faceplate) : (s.setFace f).clp = s.clp := rfl
@[simp] theorem State.setFace_eng (s : State) (f : Faceplate) : (s.setFace f).eng = s.eng := rfl
@[simp] theorem State.setFace_warp (s : State) (f : Faceplate) : (s.setFace f).warp = s.warp := rfl
@[simp] theorem State.setFace_time (s : State) (f : Faceplate) : (s.setFace f).time = s.time := rfl
@[simp] theorem State.setFace_can (s : State) (f : Faceplate) : (s.setFace f).can = s.can := rfl
@[simp] theorem State.setFace_island (s : State) (f : Faceplate) : (s.setFace f).island = s.island := rfl
@[simp] theorem State.setFace_io (s : State) (f : Faceplate) : (s.setFace f).io = s.io := rfl
@[simp] theorem State.setFace_clocks (s : State) (f : Faceplate) : (s.setFace f).clocks = s.clocks := rfl
@[simp] theorem State.setFace_pd (s : State) (f : Faceplate) : (s.setFace f).pd = s.pd := rfl
@[simp] theorem State.setFace_stale (s : State) (f : Faceplate) : (s.setFace f).stale = s.stale := rfl
@[simp] theorem State.setFace_pair (s : State) (f : Faceplate) : (s.setFace f).pair = s.pair := rfl
@[simp] theorem State.setFace_prp (s : State) (f : Faceplate) : (s.setFace f).prp = s.prp := rfl
@[simp] theorem State.setFace_firmware (s : State) (f : Faceplate) : (s.setFace f).firmware = s.firmware := rfl
@[simp] theorem State.setFace_storeFault (s : State) (f : Faceplate) : (s.setFace f).storeFault = s.storeFault := rfl
@[simp] theorem State.setFace_startTick (s : State) (f : Faceplate) : (s.setFace f).startTick = s.startTick := rfl
@[simp] theorem State.setFace_captures (s : State) (f : Faceplate) : (s.setFace f).captures = s.captures := rfl
@[simp] theorem State.setFace_loopsMissed (s : State) (f : Faceplate) : (s.setFace f).loopsMissed = s.loopsMissed := rfl
@[simp] theorem State.setFace_loopsHeld (s : State) (f : Faceplate) : (s.setFace f).loopsHeld = s.loopsHeld := rfl
@[simp] theorem State.setFace_tableRam (s : State) (f : Faceplate) : (s.setFace f).tableRam = s.tableRam := rfl
@[simp] theorem State.setFace_store (s : State) (f : Faceplate) : (s.setFace f).store = s.store := rfl
@[simp] theorem State.setFace_dram (s : State) (f : Faceplate) : (s.setFace f).dram = s.dram := rfl
@[simp] theorem State.setFace_window (s : State) (f : Faceplate) : (s.setFace f).window = s.window := rfl
@[simp] theorem State.setFace_tick (s : State) (f : Faceplate) : (s.setFace f).tick = s.tick := rfl
@[simp] theorem State.setFace_ticking (s : State) (f : Faceplate) : (s.setFace f).ticking = s.ticking := rfl
@[simp] theorem State.setFace_timeNs (s : State) (f : Faceplate) : (s.setFace f).timeNs = s.timeNs := rfl
@[simp] theorem State.setFace_localNs (s : State) (f : Faceplate) : (s.setFace f).localNs = s.localNs := rfl
@[simp] theorem State.setFace_rtcNs (s : State) (f : Faceplate) : (s.setFace f).rtcNs = s.rtcNs := rfl
@[simp] theorem State.setFace_tickFlags (s : State) (f : Faceplate) : (s.setFace f).tickFlags = s.tickFlags := rfl
@[simp] theorem State.setFace_freeCount (s : State) (f : Faceplate) : (s.setFace f).freeCount = s.freeCount := rfl
@[simp] theorem State.setFace_out (s : State) (f : Faceplate) : (s.setFace f).out = s.out := rfl
@[simp] theorem State.setFace_pending (s : State) (f : Faceplate) : (s.setFace f).pending = s.pending := rfl

/-! ### setKeys -/

@[simp] theorem State.setKeys_mode (s : State) (k : KeyStore) : (s.setKeys k).mode = s.mode := rfl
@[simp] theorem State.setKeys_dict (s : State) (k : KeyStore) : (s.setKeys k).dict = s.dict := rfl
@[simp] theorem State.setKeys_inForce (s : State) (k : KeyStore) : (s.setKeys k).inForce = s.inForce := rfl
@[simp] theorem State.setKeys_stored (s : State) (k : KeyStore) : (s.setKeys k).stored = s.stored := rfl
@[simp] theorem State.setKeys_storedLayout (s : State) (k : KeyStore) : (s.setKeys k).storedLayout = s.storedLayout := rfl
@[simp] theorem State.setKeys_weftQueue (s : State) (k : KeyStore) : (s.setKeys k).weftQueue = s.weftQueue := rfl
@[simp] theorem State.setKeys_ended (s : State) (k : KeyStore) : (s.setKeys k).ended = s.ended := rfl
@[simp] theorem State.setKeys_shown (s : State) (k : KeyStore) : (s.setKeys k).shown = s.shown := rfl
@[simp] theorem State.setKeys_keys (s : State) (k : KeyStore) : (s.setKeys k).keys = k := rfl
@[simp] theorem State.setKeys_domains (s : State) (k : KeyStore) : (s.setKeys k).domains = s.domains := rfl
@[simp] theorem State.setKeys_command (s : State) (k : KeyStore) : (s.setKeys k).command = s.command := rfl
@[simp] theorem State.setKeys_profileChange (s : State) (k : KeyStore) : (s.setKeys k).profileChange = s.profileChange := rfl
@[simp] theorem State.setKeys_restore (s : State) (k : KeyStore) : (s.setKeys k).restore = s.restore := rfl
@[simp] theorem State.setKeys_rst (s : State) (k : KeyStore) : (s.setKeys k).rst = s.rst := rfl
@[simp] theorem State.setKeys_options (s : State) (k : KeyStore) : (s.setKeys k).options = s.options := rfl
@[simp] theorem State.setKeys_tally (s : State) (k : KeyStore) : (s.setKeys k).tally = s.tally := rfl
@[simp] theorem State.setKeys_face (s : State) (k : KeyStore) : (s.setKeys k).face = s.face := rfl
@[simp] theorem State.setKeys_clp (s : State) (k : KeyStore) : (s.setKeys k).clp = s.clp := rfl
@[simp] theorem State.setKeys_eng (s : State) (k : KeyStore) : (s.setKeys k).eng = s.eng := rfl
@[simp] theorem State.setKeys_warp (s : State) (k : KeyStore) : (s.setKeys k).warp = s.warp := rfl
@[simp] theorem State.setKeys_time (s : State) (k : KeyStore) : (s.setKeys k).time = s.time := rfl
@[simp] theorem State.setKeys_can (s : State) (k : KeyStore) : (s.setKeys k).can = s.can := rfl
@[simp] theorem State.setKeys_island (s : State) (k : KeyStore) : (s.setKeys k).island = s.island := rfl
@[simp] theorem State.setKeys_io (s : State) (k : KeyStore) : (s.setKeys k).io = s.io := rfl
@[simp] theorem State.setKeys_clocks (s : State) (k : KeyStore) : (s.setKeys k).clocks = s.clocks := rfl
@[simp] theorem State.setKeys_pd (s : State) (k : KeyStore) : (s.setKeys k).pd = s.pd := rfl
@[simp] theorem State.setKeys_stale (s : State) (k : KeyStore) : (s.setKeys k).stale = s.stale := rfl
@[simp] theorem State.setKeys_pair (s : State) (k : KeyStore) : (s.setKeys k).pair = s.pair := rfl
@[simp] theorem State.setKeys_prp (s : State) (k : KeyStore) : (s.setKeys k).prp = s.prp := rfl
@[simp] theorem State.setKeys_firmware (s : State) (k : KeyStore) : (s.setKeys k).firmware = s.firmware := rfl
@[simp] theorem State.setKeys_storeFault (s : State) (k : KeyStore) : (s.setKeys k).storeFault = s.storeFault := rfl
@[simp] theorem State.setKeys_startTick (s : State) (k : KeyStore) : (s.setKeys k).startTick = s.startTick := rfl
@[simp] theorem State.setKeys_captures (s : State) (k : KeyStore) : (s.setKeys k).captures = s.captures := rfl
@[simp] theorem State.setKeys_loopsMissed (s : State) (k : KeyStore) : (s.setKeys k).loopsMissed = s.loopsMissed := rfl
@[simp] theorem State.setKeys_loopsHeld (s : State) (k : KeyStore) : (s.setKeys k).loopsHeld = s.loopsHeld := rfl
@[simp] theorem State.setKeys_tableRam (s : State) (k : KeyStore) : (s.setKeys k).tableRam = s.tableRam := rfl
@[simp] theorem State.setKeys_store (s : State) (k : KeyStore) : (s.setKeys k).store = s.store := rfl
@[simp] theorem State.setKeys_dram (s : State) (k : KeyStore) : (s.setKeys k).dram = s.dram := rfl
@[simp] theorem State.setKeys_window (s : State) (k : KeyStore) : (s.setKeys k).window = s.window := rfl
@[simp] theorem State.setKeys_tick (s : State) (k : KeyStore) : (s.setKeys k).tick = s.tick := rfl
@[simp] theorem State.setKeys_ticking (s : State) (k : KeyStore) : (s.setKeys k).ticking = s.ticking := rfl
@[simp] theorem State.setKeys_timeNs (s : State) (k : KeyStore) : (s.setKeys k).timeNs = s.timeNs := rfl
@[simp] theorem State.setKeys_localNs (s : State) (k : KeyStore) : (s.setKeys k).localNs = s.localNs := rfl
@[simp] theorem State.setKeys_rtcNs (s : State) (k : KeyStore) : (s.setKeys k).rtcNs = s.rtcNs := rfl
@[simp] theorem State.setKeys_tickFlags (s : State) (k : KeyStore) : (s.setKeys k).tickFlags = s.tickFlags := rfl
@[simp] theorem State.setKeys_freeCount (s : State) (k : KeyStore) : (s.setKeys k).freeCount = s.freeCount := rfl
@[simp] theorem State.setKeys_out (s : State) (k : KeyStore) : (s.setKeys k).out = s.out := rfl
@[simp] theorem State.setKeys_pending (s : State) (k : KeyStore) : (s.setKeys k).pending = s.pending := rfl

/-! ### setCapture -/

@[simp] theorem State.setCapture_mode (s : State) (q : Nat) (c : Capture) : (s.setCapture q c).mode = s.mode := rfl
@[simp] theorem State.setCapture_dict (s : State) (q : Nat) (c : Capture) : (s.setCapture q c).dict = s.dict := rfl
@[simp] theorem State.setCapture_inForce (s : State) (q : Nat) (c : Capture) : (s.setCapture q c).inForce = s.inForce := rfl
@[simp] theorem State.setCapture_stored (s : State) (q : Nat) (c : Capture) : (s.setCapture q c).stored = s.stored := rfl
@[simp] theorem State.setCapture_storedLayout (s : State) (q : Nat) (c : Capture) : (s.setCapture q c).storedLayout = s.storedLayout := rfl
@[simp] theorem State.setCapture_weftQueue (s : State) (q : Nat) (c : Capture) : (s.setCapture q c).weftQueue = s.weftQueue := rfl
@[simp] theorem State.setCapture_ended (s : State) (q : Nat) (c : Capture) : (s.setCapture q c).ended = s.ended := rfl
@[simp] theorem State.setCapture_shown (s : State) (q : Nat) (c : Capture) : (s.setCapture q c).shown = s.shown := rfl
@[simp] theorem State.setCapture_keys (s : State) (q : Nat) (c : Capture) : (s.setCapture q c).keys = s.keys := rfl
@[simp] theorem State.setCapture_domains (s : State) (q : Nat) (c : Capture) : (s.setCapture q c).domains = s.domains := rfl
@[simp] theorem State.setCapture_command (s : State) (q : Nat) (c : Capture) : (s.setCapture q c).command = s.command := rfl
@[simp] theorem State.setCapture_profileChange (s : State) (q : Nat) (c : Capture) : (s.setCapture q c).profileChange = s.profileChange := rfl
@[simp] theorem State.setCapture_restore (s : State) (q : Nat) (c : Capture) : (s.setCapture q c).restore = s.restore := rfl
@[simp] theorem State.setCapture_rst (s : State) (q : Nat) (c : Capture) : (s.setCapture q c).rst = s.rst := rfl
@[simp] theorem State.setCapture_options (s : State) (q : Nat) (c : Capture) : (s.setCapture q c).options = s.options := rfl
@[simp] theorem State.setCapture_tally (s : State) (q : Nat) (c : Capture) : (s.setCapture q c).tally = s.tally := rfl
@[simp] theorem State.setCapture_face (s : State) (q : Nat) (c : Capture) : (s.setCapture q c).face = s.face := rfl
@[simp] theorem State.setCapture_clp (s : State) (q : Nat) (c : Capture) : (s.setCapture q c).clp = s.clp := rfl
@[simp] theorem State.setCapture_eng (s : State) (q : Nat) (c : Capture) : (s.setCapture q c).eng = s.eng := rfl
@[simp] theorem State.setCapture_warp (s : State) (q : Nat) (c : Capture) : (s.setCapture q c).warp = s.warp := rfl
@[simp] theorem State.setCapture_time (s : State) (q : Nat) (c : Capture) : (s.setCapture q c).time = s.time := rfl
@[simp] theorem State.setCapture_can (s : State) (q : Nat) (c : Capture) : (s.setCapture q c).can = s.can := rfl
@[simp] theorem State.setCapture_island (s : State) (q : Nat) (c : Capture) : (s.setCapture q c).island = s.island := rfl
@[simp] theorem State.setCapture_io (s : State) (q : Nat) (c : Capture) : (s.setCapture q c).io = s.io := rfl
@[simp] theorem State.setCapture_clocks (s : State) (q : Nat) (c : Capture) : (s.setCapture q c).clocks = s.clocks := rfl
@[simp] theorem State.setCapture_pd (s : State) (q : Nat) (c : Capture) : (s.setCapture q c).pd = s.pd := rfl
@[simp] theorem State.setCapture_stale (s : State) (q : Nat) (c : Capture) : (s.setCapture q c).stale = s.stale := rfl
@[simp] theorem State.setCapture_pair (s : State) (q : Nat) (c : Capture) : (s.setCapture q c).pair = s.pair := rfl
@[simp] theorem State.setCapture_prp (s : State) (q : Nat) (c : Capture) : (s.setCapture q c).prp = s.prp := rfl
@[simp] theorem State.setCapture_firmware (s : State) (q : Nat) (c : Capture) : (s.setCapture q c).firmware = s.firmware := rfl
@[simp] theorem State.setCapture_storeFault (s : State) (q : Nat) (c : Capture) : (s.setCapture q c).storeFault = s.storeFault := rfl
@[simp] theorem State.setCapture_startTick (s : State) (q : Nat) (c : Capture) : (s.setCapture q c).startTick = s.startTick := rfl
@[simp] theorem State.setCapture_captures (s : State) (q : Nat) (c : Capture) : (s.setCapture q c).captures = s.captures.set! q c := rfl
@[simp] theorem State.setCapture_loopsMissed (s : State) (q : Nat) (c : Capture) : (s.setCapture q c).loopsMissed = s.loopsMissed := rfl
@[simp] theorem State.setCapture_loopsHeld (s : State) (q : Nat) (c : Capture) : (s.setCapture q c).loopsHeld = s.loopsHeld := rfl
@[simp] theorem State.setCapture_tableRam (s : State) (q : Nat) (c : Capture) : (s.setCapture q c).tableRam = s.tableRam := rfl
@[simp] theorem State.setCapture_store (s : State) (q : Nat) (c : Capture) : (s.setCapture q c).store = s.store := rfl
@[simp] theorem State.setCapture_dram (s : State) (q : Nat) (c : Capture) : (s.setCapture q c).dram = s.dram := rfl
@[simp] theorem State.setCapture_window (s : State) (q : Nat) (c : Capture) : (s.setCapture q c).window = s.window := rfl
@[simp] theorem State.setCapture_tick (s : State) (q : Nat) (c : Capture) : (s.setCapture q c).tick = s.tick := rfl
@[simp] theorem State.setCapture_ticking (s : State) (q : Nat) (c : Capture) : (s.setCapture q c).ticking = s.ticking := rfl
@[simp] theorem State.setCapture_timeNs (s : State) (q : Nat) (c : Capture) : (s.setCapture q c).timeNs = s.timeNs := rfl
@[simp] theorem State.setCapture_localNs (s : State) (q : Nat) (c : Capture) : (s.setCapture q c).localNs = s.localNs := rfl
@[simp] theorem State.setCapture_rtcNs (s : State) (q : Nat) (c : Capture) : (s.setCapture q c).rtcNs = s.rtcNs := rfl
@[simp] theorem State.setCapture_tickFlags (s : State) (q : Nat) (c : Capture) : (s.setCapture q c).tickFlags = s.tickFlags := rfl
@[simp] theorem State.setCapture_freeCount (s : State) (q : Nat) (c : Capture) : (s.setCapture q c).freeCount = s.freeCount := rfl
@[simp] theorem State.setCapture_out (s : State) (q : Nat) (c : Capture) : (s.setCapture q c).out = s.out := rfl
@[simp] theorem State.setCapture_pending (s : State) (q : Nat) (c : Capture) : (s.setCapture q c).pending = s.pending := rfl

/-! ### setPtpPort -/

@[simp] theorem State.setPtpPort_mode (s : State) (p : NetPort) (x : PtpPort) : (s.setPtpPort p x).mode = s.mode := rfl
@[simp] theorem State.setPtpPort_dict (s : State) (p : NetPort) (x : PtpPort) : (s.setPtpPort p x).dict = s.dict := rfl
@[simp] theorem State.setPtpPort_inForce (s : State) (p : NetPort) (x : PtpPort) : (s.setPtpPort p x).inForce = s.inForce := rfl
@[simp] theorem State.setPtpPort_stored (s : State) (p : NetPort) (x : PtpPort) : (s.setPtpPort p x).stored = s.stored := rfl
@[simp] theorem State.setPtpPort_storedLayout (s : State) (p : NetPort) (x : PtpPort) : (s.setPtpPort p x).storedLayout = s.storedLayout := rfl
@[simp] theorem State.setPtpPort_weftQueue (s : State) (p : NetPort) (x : PtpPort) : (s.setPtpPort p x).weftQueue = s.weftQueue := rfl
@[simp] theorem State.setPtpPort_ended (s : State) (p : NetPort) (x : PtpPort) : (s.setPtpPort p x).ended = s.ended := rfl
@[simp] theorem State.setPtpPort_shown (s : State) (p : NetPort) (x : PtpPort) : (s.setPtpPort p x).shown = s.shown := rfl
@[simp] theorem State.setPtpPort_keys (s : State) (p : NetPort) (x : PtpPort) : (s.setPtpPort p x).keys = s.keys := rfl
@[simp] theorem State.setPtpPort_domains (s : State) (p : NetPort) (x : PtpPort) : (s.setPtpPort p x).domains = s.domains := rfl
@[simp] theorem State.setPtpPort_command (s : State) (p : NetPort) (x : PtpPort) : (s.setPtpPort p x).command = s.command := rfl
@[simp] theorem State.setPtpPort_profileChange (s : State) (p : NetPort) (x : PtpPort) : (s.setPtpPort p x).profileChange = s.profileChange := rfl
@[simp] theorem State.setPtpPort_restore (s : State) (p : NetPort) (x : PtpPort) : (s.setPtpPort p x).restore = s.restore := rfl
@[simp] theorem State.setPtpPort_rst (s : State) (p : NetPort) (x : PtpPort) : (s.setPtpPort p x).rst = s.rst := rfl
@[simp] theorem State.setPtpPort_options (s : State) (p : NetPort) (x : PtpPort) : (s.setPtpPort p x).options = s.options := rfl
@[simp] theorem State.setPtpPort_tally (s : State) (p : NetPort) (x : PtpPort) : (s.setPtpPort p x).tally = s.tally := rfl
@[simp] theorem State.setPtpPort_face (s : State) (p : NetPort) (x : PtpPort) : (s.setPtpPort p x).face = s.face := rfl
@[simp] theorem State.setPtpPort_clp (s : State) (p : NetPort) (x : PtpPort) : (s.setPtpPort p x).clp = s.clp := rfl
@[simp] theorem State.setPtpPort_eng (s : State) (p : NetPort) (x : PtpPort) : (s.setPtpPort p x).eng = s.eng := rfl
@[simp] theorem State.setPtpPort_warp (s : State) (p : NetPort) (x : PtpPort) : (s.setPtpPort p x).warp = s.warp := rfl
@[simp] theorem State.setPtpPort_time (s : State) (p : NetPort) (x : PtpPort) : (s.setPtpPort p x).time = { s.time with ports := s.time.ports.set (portIx p) x } := rfl
@[simp] theorem State.setPtpPort_can (s : State) (p : NetPort) (x : PtpPort) : (s.setPtpPort p x).can = s.can := rfl
@[simp] theorem State.setPtpPort_island (s : State) (p : NetPort) (x : PtpPort) : (s.setPtpPort p x).island = s.island := rfl
@[simp] theorem State.setPtpPort_io (s : State) (p : NetPort) (x : PtpPort) : (s.setPtpPort p x).io = s.io := rfl
@[simp] theorem State.setPtpPort_clocks (s : State) (p : NetPort) (x : PtpPort) : (s.setPtpPort p x).clocks = s.clocks := rfl
@[simp] theorem State.setPtpPort_pd (s : State) (p : NetPort) (x : PtpPort) : (s.setPtpPort p x).pd = s.pd := rfl
@[simp] theorem State.setPtpPort_stale (s : State) (p : NetPort) (x : PtpPort) : (s.setPtpPort p x).stale = s.stale := rfl
@[simp] theorem State.setPtpPort_pair (s : State) (p : NetPort) (x : PtpPort) : (s.setPtpPort p x).pair = s.pair := rfl
@[simp] theorem State.setPtpPort_prp (s : State) (p : NetPort) (x : PtpPort) : (s.setPtpPort p x).prp = s.prp := rfl
@[simp] theorem State.setPtpPort_firmware (s : State) (p : NetPort) (x : PtpPort) : (s.setPtpPort p x).firmware = s.firmware := rfl
@[simp] theorem State.setPtpPort_storeFault (s : State) (p : NetPort) (x : PtpPort) : (s.setPtpPort p x).storeFault = s.storeFault := rfl
@[simp] theorem State.setPtpPort_startTick (s : State) (p : NetPort) (x : PtpPort) : (s.setPtpPort p x).startTick = s.startTick := rfl
@[simp] theorem State.setPtpPort_captures (s : State) (p : NetPort) (x : PtpPort) : (s.setPtpPort p x).captures = s.captures := rfl
@[simp] theorem State.setPtpPort_loopsMissed (s : State) (p : NetPort) (x : PtpPort) : (s.setPtpPort p x).loopsMissed = s.loopsMissed := rfl
@[simp] theorem State.setPtpPort_loopsHeld (s : State) (p : NetPort) (x : PtpPort) : (s.setPtpPort p x).loopsHeld = s.loopsHeld := rfl
@[simp] theorem State.setPtpPort_tableRam (s : State) (p : NetPort) (x : PtpPort) : (s.setPtpPort p x).tableRam = s.tableRam := rfl
@[simp] theorem State.setPtpPort_store (s : State) (p : NetPort) (x : PtpPort) : (s.setPtpPort p x).store = s.store := rfl
@[simp] theorem State.setPtpPort_dram (s : State) (p : NetPort) (x : PtpPort) : (s.setPtpPort p x).dram = s.dram := rfl
@[simp] theorem State.setPtpPort_window (s : State) (p : NetPort) (x : PtpPort) : (s.setPtpPort p x).window = s.window := rfl
@[simp] theorem State.setPtpPort_tick (s : State) (p : NetPort) (x : PtpPort) : (s.setPtpPort p x).tick = s.tick := rfl
@[simp] theorem State.setPtpPort_ticking (s : State) (p : NetPort) (x : PtpPort) : (s.setPtpPort p x).ticking = s.ticking := rfl
@[simp] theorem State.setPtpPort_timeNs (s : State) (p : NetPort) (x : PtpPort) : (s.setPtpPort p x).timeNs = s.timeNs := rfl
@[simp] theorem State.setPtpPort_localNs (s : State) (p : NetPort) (x : PtpPort) : (s.setPtpPort p x).localNs = s.localNs := rfl
@[simp] theorem State.setPtpPort_rtcNs (s : State) (p : NetPort) (x : PtpPort) : (s.setPtpPort p x).rtcNs = s.rtcNs := rfl
@[simp] theorem State.setPtpPort_tickFlags (s : State) (p : NetPort) (x : PtpPort) : (s.setPtpPort p x).tickFlags = s.tickFlags := rfl
@[simp] theorem State.setPtpPort_freeCount (s : State) (p : NetPort) (x : PtpPort) : (s.setPtpPort p x).freeCount = s.freeCount := rfl
@[simp] theorem State.setPtpPort_out (s : State) (p : NetPort) (x : PtpPort) : (s.setPtpPort p x).out = s.out := rfl
@[simp] theorem State.setPtpPort_pending (s : State) (p : NetPort) (x : PtpPort) : (s.setPtpPort p x).pending = s.pending := rfl

/-! ### setDomains -/

@[simp] theorem State.setDomains_mode (s : State) (ds : List Nat) (v : Nat) : (s.setDomains ds v).mode = s.mode := rfl
@[simp] theorem State.setDomains_inForce (s : State) (ds : List Nat) (v : Nat) : (s.setDomains ds v).inForce = s.inForce := rfl
@[simp] theorem State.setDomains_stored (s : State) (ds : List Nat) (v : Nat) : (s.setDomains ds v).stored = s.stored := rfl
@[simp] theorem State.setDomains_storedLayout (s : State) (ds : List Nat) (v : Nat) : (s.setDomains ds v).storedLayout = s.storedLayout := rfl
@[simp] theorem State.setDomains_weftQueue (s : State) (ds : List Nat) (v : Nat) : (s.setDomains ds v).weftQueue = s.weftQueue := rfl
@[simp] theorem State.setDomains_ended (s : State) (ds : List Nat) (v : Nat) : (s.setDomains ds v).ended = s.ended := rfl
@[simp] theorem State.setDomains_shown (s : State) (ds : List Nat) (v : Nat) : (s.setDomains ds v).shown = s.shown := rfl
@[simp] theorem State.setDomains_keys (s : State) (ds : List Nat) (v : Nat) : (s.setDomains ds v).keys = s.keys := rfl
@[simp] theorem State.setDomains_domains (s : State) (ds : List Nat) (v : Nat) : (s.setDomains ds v).domains = s.domains := rfl
@[simp] theorem State.setDomains_command (s : State) (ds : List Nat) (v : Nat) : (s.setDomains ds v).command = s.command := rfl
@[simp] theorem State.setDomains_profileChange (s : State) (ds : List Nat) (v : Nat) : (s.setDomains ds v).profileChange = s.profileChange := rfl
@[simp] theorem State.setDomains_restore (s : State) (ds : List Nat) (v : Nat) : (s.setDomains ds v).restore = s.restore := rfl
@[simp] theorem State.setDomains_rst (s : State) (ds : List Nat) (v : Nat) : (s.setDomains ds v).rst = s.rst := rfl
@[simp] theorem State.setDomains_options (s : State) (ds : List Nat) (v : Nat) : (s.setDomains ds v).options = s.options := rfl
@[simp] theorem State.setDomains_tally (s : State) (ds : List Nat) (v : Nat) : (s.setDomains ds v).tally = s.tally := rfl
@[simp] theorem State.setDomains_face (s : State) (ds : List Nat) (v : Nat) : (s.setDomains ds v).face = s.face := rfl
@[simp] theorem State.setDomains_clp (s : State) (ds : List Nat) (v : Nat) : (s.setDomains ds v).clp = s.clp := rfl
@[simp] theorem State.setDomains_eng (s : State) (ds : List Nat) (v : Nat) : (s.setDomains ds v).eng = s.eng := rfl
@[simp] theorem State.setDomains_warp (s : State) (ds : List Nat) (v : Nat) : (s.setDomains ds v).warp = s.warp := rfl
@[simp] theorem State.setDomains_time (s : State) (ds : List Nat) (v : Nat) : (s.setDomains ds v).time = s.time := rfl
@[simp] theorem State.setDomains_can (s : State) (ds : List Nat) (v : Nat) : (s.setDomains ds v).can = s.can := rfl
@[simp] theorem State.setDomains_island (s : State) (ds : List Nat) (v : Nat) : (s.setDomains ds v).island = s.island := rfl
@[simp] theorem State.setDomains_io (s : State) (ds : List Nat) (v : Nat) : (s.setDomains ds v).io = s.io := rfl
@[simp] theorem State.setDomains_clocks (s : State) (ds : List Nat) (v : Nat) : (s.setDomains ds v).clocks = s.clocks := rfl
@[simp] theorem State.setDomains_pd (s : State) (ds : List Nat) (v : Nat) : (s.setDomains ds v).pd = s.pd := rfl
@[simp] theorem State.setDomains_stale (s : State) (ds : List Nat) (v : Nat) : (s.setDomains ds v).stale = s.stale := rfl
@[simp] theorem State.setDomains_pair (s : State) (ds : List Nat) (v : Nat) : (s.setDomains ds v).pair = s.pair := rfl
@[simp] theorem State.setDomains_prp (s : State) (ds : List Nat) (v : Nat) : (s.setDomains ds v).prp = s.prp := rfl
@[simp] theorem State.setDomains_firmware (s : State) (ds : List Nat) (v : Nat) : (s.setDomains ds v).firmware = s.firmware := rfl
@[simp] theorem State.setDomains_storeFault (s : State) (ds : List Nat) (v : Nat) : (s.setDomains ds v).storeFault = s.storeFault := rfl
@[simp] theorem State.setDomains_startTick (s : State) (ds : List Nat) (v : Nat) : (s.setDomains ds v).startTick = s.startTick := rfl
@[simp] theorem State.setDomains_captures (s : State) (ds : List Nat) (v : Nat) : (s.setDomains ds v).captures = s.captures := rfl
@[simp] theorem State.setDomains_loopsMissed (s : State) (ds : List Nat) (v : Nat) : (s.setDomains ds v).loopsMissed = s.loopsMissed := rfl
@[simp] theorem State.setDomains_loopsHeld (s : State) (ds : List Nat) (v : Nat) : (s.setDomains ds v).loopsHeld = s.loopsHeld := rfl
@[simp] theorem State.setDomains_tableRam (s : State) (ds : List Nat) (v : Nat) : (s.setDomains ds v).tableRam = s.tableRam := rfl
@[simp] theorem State.setDomains_store (s : State) (ds : List Nat) (v : Nat) : (s.setDomains ds v).store = s.store := rfl
@[simp] theorem State.setDomains_dram (s : State) (ds : List Nat) (v : Nat) : (s.setDomains ds v).dram = s.dram := rfl
@[simp] theorem State.setDomains_window (s : State) (ds : List Nat) (v : Nat) : (s.setDomains ds v).window = s.window := rfl
@[simp] theorem State.setDomains_tick (s : State) (ds : List Nat) (v : Nat) : (s.setDomains ds v).tick = s.tick := rfl
@[simp] theorem State.setDomains_ticking (s : State) (ds : List Nat) (v : Nat) : (s.setDomains ds v).ticking = s.ticking := rfl
@[simp] theorem State.setDomains_timeNs (s : State) (ds : List Nat) (v : Nat) : (s.setDomains ds v).timeNs = s.timeNs := rfl
@[simp] theorem State.setDomains_localNs (s : State) (ds : List Nat) (v : Nat) : (s.setDomains ds v).localNs = s.localNs := rfl
@[simp] theorem State.setDomains_rtcNs (s : State) (ds : List Nat) (v : Nat) : (s.setDomains ds v).rtcNs = s.rtcNs := rfl
@[simp] theorem State.setDomains_tickFlags (s : State) (ds : List Nat) (v : Nat) : (s.setDomains ds v).tickFlags = s.tickFlags := rfl
@[simp] theorem State.setDomains_freeCount (s : State) (ds : List Nat) (v : Nat) : (s.setDomains ds v).freeCount = s.freeCount := rfl
@[simp] theorem State.setDomains_out (s : State) (ds : List Nat) (v : Nat) : (s.setDomains ds v).out = s.out := rfl
@[simp] theorem State.setDomains_pending (s : State) (ds : List Nat) (v : Nat) : (s.setDomains ds v).pending = s.pending := rfl

/-! ### setSource -/

@[simp] theorem State.setSource_mode (s : State) (i : Nat) (b : Bool) : (s.setSource i b).mode = s.mode := rfl
@[simp] theorem State.setSource_inForce (s : State) (i : Nat) (b : Bool) : (s.setSource i b).inForce = s.inForce := rfl
@[simp] theorem State.setSource_stored (s : State) (i : Nat) (b : Bool) : (s.setSource i b).stored = s.stored := rfl
@[simp] theorem State.setSource_storedLayout (s : State) (i : Nat) (b : Bool) : (s.setSource i b).storedLayout = s.storedLayout := rfl
@[simp] theorem State.setSource_weftQueue (s : State) (i : Nat) (b : Bool) : (s.setSource i b).weftQueue = s.weftQueue := rfl
@[simp] theorem State.setSource_ended (s : State) (i : Nat) (b : Bool) : (s.setSource i b).ended = s.ended := rfl
@[simp] theorem State.setSource_shown (s : State) (i : Nat) (b : Bool) : (s.setSource i b).shown = s.shown := rfl
@[simp] theorem State.setSource_keys (s : State) (i : Nat) (b : Bool) : (s.setSource i b).keys = s.keys := rfl
@[simp] theorem State.setSource_domains (s : State) (i : Nat) (b : Bool) : (s.setSource i b).domains = s.domains := rfl
@[simp] theorem State.setSource_command (s : State) (i : Nat) (b : Bool) : (s.setSource i b).command = s.command := rfl
@[simp] theorem State.setSource_profileChange (s : State) (i : Nat) (b : Bool) : (s.setSource i b).profileChange = s.profileChange := rfl
@[simp] theorem State.setSource_restore (s : State) (i : Nat) (b : Bool) : (s.setSource i b).restore = s.restore := rfl
@[simp] theorem State.setSource_rst (s : State) (i : Nat) (b : Bool) : (s.setSource i b).rst = s.rst := rfl
@[simp] theorem State.setSource_options (s : State) (i : Nat) (b : Bool) : (s.setSource i b).options = s.options := rfl
@[simp] theorem State.setSource_tally (s : State) (i : Nat) (b : Bool) : (s.setSource i b).tally = s.tally := rfl
@[simp] theorem State.setSource_face (s : State) (i : Nat) (b : Bool) : (s.setSource i b).face = s.face := rfl
@[simp] theorem State.setSource_clp (s : State) (i : Nat) (b : Bool) : (s.setSource i b).clp = s.clp := rfl
@[simp] theorem State.setSource_eng (s : State) (i : Nat) (b : Bool) : (s.setSource i b).eng = s.eng := rfl
@[simp] theorem State.setSource_warp (s : State) (i : Nat) (b : Bool) : (s.setSource i b).warp = s.warp := rfl
@[simp] theorem State.setSource_time (s : State) (i : Nat) (b : Bool) : (s.setSource i b).time = s.time := rfl
@[simp] theorem State.setSource_can (s : State) (i : Nat) (b : Bool) : (s.setSource i b).can = s.can := rfl
@[simp] theorem State.setSource_island (s : State) (i : Nat) (b : Bool) : (s.setSource i b).island = s.island := rfl
@[simp] theorem State.setSource_io (s : State) (i : Nat) (b : Bool) : (s.setSource i b).io = s.io := rfl
@[simp] theorem State.setSource_clocks (s : State) (i : Nat) (b : Bool) : (s.setSource i b).clocks = s.clocks := rfl
@[simp] theorem State.setSource_pd (s : State) (i : Nat) (b : Bool) : (s.setSource i b).pd = s.pd := rfl
@[simp] theorem State.setSource_stale (s : State) (i : Nat) (b : Bool) : (s.setSource i b).stale = s.stale := rfl
@[simp] theorem State.setSource_pair (s : State) (i : Nat) (b : Bool) : (s.setSource i b).pair = s.pair := rfl
@[simp] theorem State.setSource_prp (s : State) (i : Nat) (b : Bool) : (s.setSource i b).prp = s.prp := rfl
@[simp] theorem State.setSource_firmware (s : State) (i : Nat) (b : Bool) : (s.setSource i b).firmware = s.firmware := rfl
@[simp] theorem State.setSource_storeFault (s : State) (i : Nat) (b : Bool) : (s.setSource i b).storeFault = s.storeFault := rfl
@[simp] theorem State.setSource_startTick (s : State) (i : Nat) (b : Bool) : (s.setSource i b).startTick = s.startTick := rfl
@[simp] theorem State.setSource_captures (s : State) (i : Nat) (b : Bool) : (s.setSource i b).captures = s.captures := rfl
@[simp] theorem State.setSource_loopsMissed (s : State) (i : Nat) (b : Bool) : (s.setSource i b).loopsMissed = s.loopsMissed := rfl
@[simp] theorem State.setSource_loopsHeld (s : State) (i : Nat) (b : Bool) : (s.setSource i b).loopsHeld = s.loopsHeld := rfl
@[simp] theorem State.setSource_tableRam (s : State) (i : Nat) (b : Bool) : (s.setSource i b).tableRam = s.tableRam := rfl
@[simp] theorem State.setSource_store (s : State) (i : Nat) (b : Bool) : (s.setSource i b).store = s.store := rfl
@[simp] theorem State.setSource_dram (s : State) (i : Nat) (b : Bool) : (s.setSource i b).dram = s.dram := rfl
@[simp] theorem State.setSource_window (s : State) (i : Nat) (b : Bool) : (s.setSource i b).window = s.window := rfl
@[simp] theorem State.setSource_tick (s : State) (i : Nat) (b : Bool) : (s.setSource i b).tick = s.tick := rfl
@[simp] theorem State.setSource_ticking (s : State) (i : Nat) (b : Bool) : (s.setSource i b).ticking = s.ticking := rfl
@[simp] theorem State.setSource_timeNs (s : State) (i : Nat) (b : Bool) : (s.setSource i b).timeNs = s.timeNs := rfl
@[simp] theorem State.setSource_localNs (s : State) (i : Nat) (b : Bool) : (s.setSource i b).localNs = s.localNs := rfl
@[simp] theorem State.setSource_rtcNs (s : State) (i : Nat) (b : Bool) : (s.setSource i b).rtcNs = s.rtcNs := rfl
@[simp] theorem State.setSource_tickFlags (s : State) (i : Nat) (b : Bool) : (s.setSource i b).tickFlags = s.tickFlags := rfl
@[simp] theorem State.setSource_freeCount (s : State) (i : Nat) (b : Bool) : (s.setSource i b).freeCount = s.freeCount := rfl
@[simp] theorem State.setSource_out (s : State) (i : Nat) (b : Bool) : (s.setSource i b).out = s.out := rfl
@[simp] theorem State.setSource_pending (s : State) (i : Nat) (b : Bool) : (s.setSource i b).pending = s.pending := rfl

/-! ### setJob -/

@[simp] theorem State.setJob_mode (s : State) (j : DmaJob) : (s.setJob j).mode = s.mode := rfl
@[simp] theorem State.setJob_dict (s : State) (j : DmaJob) : (s.setJob j).dict = s.dict := rfl
@[simp] theorem State.setJob_inForce (s : State) (j : DmaJob) : (s.setJob j).inForce = s.inForce := rfl
@[simp] theorem State.setJob_stored (s : State) (j : DmaJob) : (s.setJob j).stored = s.stored := rfl
@[simp] theorem State.setJob_storedLayout (s : State) (j : DmaJob) : (s.setJob j).storedLayout = s.storedLayout := rfl
@[simp] theorem State.setJob_weftQueue (s : State) (j : DmaJob) : (s.setJob j).weftQueue = s.weftQueue := rfl
@[simp] theorem State.setJob_ended (s : State) (j : DmaJob) : (s.setJob j).ended = s.ended := rfl
@[simp] theorem State.setJob_shown (s : State) (j : DmaJob) : (s.setJob j).shown = s.shown := rfl
@[simp] theorem State.setJob_keys (s : State) (j : DmaJob) : (s.setJob j).keys = s.keys := rfl
@[simp] theorem State.setJob_domains (s : State) (j : DmaJob) : (s.setJob j).domains = s.domains := rfl
@[simp] theorem State.setJob_command (s : State) (j : DmaJob) : (s.setJob j).command = s.command := rfl
@[simp] theorem State.setJob_profileChange (s : State) (j : DmaJob) : (s.setJob j).profileChange = s.profileChange := rfl
@[simp] theorem State.setJob_restore (s : State) (j : DmaJob) : (s.setJob j).restore = s.restore := rfl
@[simp] theorem State.setJob_rst (s : State) (j : DmaJob) : (s.setJob j).rst = s.rst := rfl
@[simp] theorem State.setJob_options (s : State) (j : DmaJob) : (s.setJob j).options = s.options := rfl
@[simp] theorem State.setJob_tally (s : State) (j : DmaJob) : (s.setJob j).tally = s.tally := rfl
@[simp] theorem State.setJob_face (s : State) (j : DmaJob) : (s.setJob j).face = s.face := rfl
@[simp] theorem State.setJob_clp (s : State) (j : DmaJob) : (s.setJob j).clp = s.clp := rfl
@[simp] theorem State.setJob_warp (s : State) (j : DmaJob) : (s.setJob j).warp = s.warp := rfl
@[simp] theorem State.setJob_time (s : State) (j : DmaJob) : (s.setJob j).time = s.time := rfl
@[simp] theorem State.setJob_can (s : State) (j : DmaJob) : (s.setJob j).can = s.can := rfl
@[simp] theorem State.setJob_island (s : State) (j : DmaJob) : (s.setJob j).island = s.island := rfl
@[simp] theorem State.setJob_io (s : State) (j : DmaJob) : (s.setJob j).io = s.io := rfl
@[simp] theorem State.setJob_clocks (s : State) (j : DmaJob) : (s.setJob j).clocks = s.clocks := rfl
@[simp] theorem State.setJob_pd (s : State) (j : DmaJob) : (s.setJob j).pd = s.pd := rfl
@[simp] theorem State.setJob_stale (s : State) (j : DmaJob) : (s.setJob j).stale = s.stale := rfl
@[simp] theorem State.setJob_pair (s : State) (j : DmaJob) : (s.setJob j).pair = s.pair := rfl
@[simp] theorem State.setJob_prp (s : State) (j : DmaJob) : (s.setJob j).prp = s.prp := rfl
@[simp] theorem State.setJob_firmware (s : State) (j : DmaJob) : (s.setJob j).firmware = s.firmware := rfl
@[simp] theorem State.setJob_storeFault (s : State) (j : DmaJob) : (s.setJob j).storeFault = s.storeFault := rfl
@[simp] theorem State.setJob_startTick (s : State) (j : DmaJob) : (s.setJob j).startTick = s.startTick := rfl
@[simp] theorem State.setJob_captures (s : State) (j : DmaJob) : (s.setJob j).captures = s.captures := rfl
@[simp] theorem State.setJob_loopsMissed (s : State) (j : DmaJob) : (s.setJob j).loopsMissed = s.loopsMissed := rfl
@[simp] theorem State.setJob_loopsHeld (s : State) (j : DmaJob) : (s.setJob j).loopsHeld = s.loopsHeld := rfl
@[simp] theorem State.setJob_tableRam (s : State) (j : DmaJob) : (s.setJob j).tableRam = s.tableRam := rfl
@[simp] theorem State.setJob_store (s : State) (j : DmaJob) : (s.setJob j).store = s.store := rfl
@[simp] theorem State.setJob_dram (s : State) (j : DmaJob) : (s.setJob j).dram = s.dram := rfl
@[simp] theorem State.setJob_window (s : State) (j : DmaJob) : (s.setJob j).window = s.window := rfl
@[simp] theorem State.setJob_tick (s : State) (j : DmaJob) : (s.setJob j).tick = s.tick := rfl
@[simp] theorem State.setJob_ticking (s : State) (j : DmaJob) : (s.setJob j).ticking = s.ticking := rfl
@[simp] theorem State.setJob_timeNs (s : State) (j : DmaJob) : (s.setJob j).timeNs = s.timeNs := rfl
@[simp] theorem State.setJob_localNs (s : State) (j : DmaJob) : (s.setJob j).localNs = s.localNs := rfl
@[simp] theorem State.setJob_rtcNs (s : State) (j : DmaJob) : (s.setJob j).rtcNs = s.rtcNs := rfl
@[simp] theorem State.setJob_tickFlags (s : State) (j : DmaJob) : (s.setJob j).tickFlags = s.tickFlags := rfl
@[simp] theorem State.setJob_freeCount (s : State) (j : DmaJob) : (s.setJob j).freeCount = s.freeCount := rfl
@[simp] theorem State.setJob_out (s : State) (j : DmaJob) : (s.setJob j).out = s.out := rfl
@[simp] theorem State.setJob_pending (s : State) (j : DmaJob) : (s.setJob j).pending = s.pending := rfl

/-! ### addJob -/

@[simp] theorem State.addJob_mode (s : State) (j : DmaJob) : (s.addJob j).mode = s.mode := rfl
@[simp] theorem State.addJob_dict (s : State) (j : DmaJob) : (s.addJob j).dict = s.dict := rfl
@[simp] theorem State.addJob_inForce (s : State) (j : DmaJob) : (s.addJob j).inForce = s.inForce := rfl
@[simp] theorem State.addJob_stored (s : State) (j : DmaJob) : (s.addJob j).stored = s.stored := rfl
@[simp] theorem State.addJob_storedLayout (s : State) (j : DmaJob) : (s.addJob j).storedLayout = s.storedLayout := rfl
@[simp] theorem State.addJob_weftQueue (s : State) (j : DmaJob) : (s.addJob j).weftQueue = s.weftQueue := rfl
@[simp] theorem State.addJob_ended (s : State) (j : DmaJob) : (s.addJob j).ended = s.ended := rfl
@[simp] theorem State.addJob_shown (s : State) (j : DmaJob) : (s.addJob j).shown = s.shown := rfl
@[simp] theorem State.addJob_keys (s : State) (j : DmaJob) : (s.addJob j).keys = s.keys := rfl
@[simp] theorem State.addJob_domains (s : State) (j : DmaJob) : (s.addJob j).domains = s.domains := rfl
@[simp] theorem State.addJob_command (s : State) (j : DmaJob) : (s.addJob j).command = s.command := rfl
@[simp] theorem State.addJob_profileChange (s : State) (j : DmaJob) : (s.addJob j).profileChange = s.profileChange := rfl
@[simp] theorem State.addJob_restore (s : State) (j : DmaJob) : (s.addJob j).restore = s.restore := rfl
@[simp] theorem State.addJob_rst (s : State) (j : DmaJob) : (s.addJob j).rst = s.rst := rfl
@[simp] theorem State.addJob_options (s : State) (j : DmaJob) : (s.addJob j).options = s.options := rfl
@[simp] theorem State.addJob_tally (s : State) (j : DmaJob) : (s.addJob j).tally = s.tally := rfl
@[simp] theorem State.addJob_face (s : State) (j : DmaJob) : (s.addJob j).face = s.face := rfl
@[simp] theorem State.addJob_clp (s : State) (j : DmaJob) : (s.addJob j).clp = s.clp := rfl
@[simp] theorem State.addJob_warp (s : State) (j : DmaJob) : (s.addJob j).warp = s.warp := rfl
@[simp] theorem State.addJob_time (s : State) (j : DmaJob) : (s.addJob j).time = s.time := rfl
@[simp] theorem State.addJob_can (s : State) (j : DmaJob) : (s.addJob j).can = s.can := rfl
@[simp] theorem State.addJob_island (s : State) (j : DmaJob) : (s.addJob j).island = s.island := rfl
@[simp] theorem State.addJob_io (s : State) (j : DmaJob) : (s.addJob j).io = s.io := rfl
@[simp] theorem State.addJob_clocks (s : State) (j : DmaJob) : (s.addJob j).clocks = s.clocks := rfl
@[simp] theorem State.addJob_pd (s : State) (j : DmaJob) : (s.addJob j).pd = s.pd := rfl
@[simp] theorem State.addJob_stale (s : State) (j : DmaJob) : (s.addJob j).stale = s.stale := rfl
@[simp] theorem State.addJob_pair (s : State) (j : DmaJob) : (s.addJob j).pair = s.pair := rfl
@[simp] theorem State.addJob_prp (s : State) (j : DmaJob) : (s.addJob j).prp = s.prp := rfl
@[simp] theorem State.addJob_firmware (s : State) (j : DmaJob) : (s.addJob j).firmware = s.firmware := rfl
@[simp] theorem State.addJob_storeFault (s : State) (j : DmaJob) : (s.addJob j).storeFault = s.storeFault := rfl
@[simp] theorem State.addJob_startTick (s : State) (j : DmaJob) : (s.addJob j).startTick = s.startTick := rfl
@[simp] theorem State.addJob_captures (s : State) (j : DmaJob) : (s.addJob j).captures = s.captures := rfl
@[simp] theorem State.addJob_loopsMissed (s : State) (j : DmaJob) : (s.addJob j).loopsMissed = s.loopsMissed := rfl
@[simp] theorem State.addJob_loopsHeld (s : State) (j : DmaJob) : (s.addJob j).loopsHeld = s.loopsHeld := rfl
@[simp] theorem State.addJob_tableRam (s : State) (j : DmaJob) : (s.addJob j).tableRam = s.tableRam := rfl
@[simp] theorem State.addJob_store (s : State) (j : DmaJob) : (s.addJob j).store = s.store := rfl
@[simp] theorem State.addJob_dram (s : State) (j : DmaJob) : (s.addJob j).dram = s.dram := rfl
@[simp] theorem State.addJob_window (s : State) (j : DmaJob) : (s.addJob j).window = s.window := rfl
@[simp] theorem State.addJob_tick (s : State) (j : DmaJob) : (s.addJob j).tick = s.tick := rfl
@[simp] theorem State.addJob_ticking (s : State) (j : DmaJob) : (s.addJob j).ticking = s.ticking := rfl
@[simp] theorem State.addJob_timeNs (s : State) (j : DmaJob) : (s.addJob j).timeNs = s.timeNs := rfl
@[simp] theorem State.addJob_localNs (s : State) (j : DmaJob) : (s.addJob j).localNs = s.localNs := rfl
@[simp] theorem State.addJob_rtcNs (s : State) (j : DmaJob) : (s.addJob j).rtcNs = s.rtcNs := rfl
@[simp] theorem State.addJob_tickFlags (s : State) (j : DmaJob) : (s.addJob j).tickFlags = s.tickFlags := rfl
@[simp] theorem State.addJob_freeCount (s : State) (j : DmaJob) : (s.addJob j).freeCount = s.freeCount := rfl
@[simp] theorem State.addJob_out (s : State) (j : DmaJob) : (s.addJob j).out = s.out := rfl
@[simp] theorem State.addJob_pending (s : State) (j : DmaJob) : (s.addJob j).pending = s.pending := rfl

/-! ### withdrawCommits -/

@[simp] theorem State.withdrawCommits_mode (s : State) : (s.withdrawCommits).mode = s.mode := rfl
@[simp] theorem State.withdrawCommits_dict (s : State) : (s.withdrawCommits).dict = s.dict := rfl
@[simp] theorem State.withdrawCommits_inForce (s : State) : (s.withdrawCommits).inForce = s.inForce := rfl
@[simp] theorem State.withdrawCommits_stored (s : State) : (s.withdrawCommits).stored = s.stored := rfl
@[simp] theorem State.withdrawCommits_storedLayout (s : State) : (s.withdrawCommits).storedLayout = s.storedLayout := rfl
@[simp] theorem State.withdrawCommits_weftQueue (s : State) : (s.withdrawCommits).weftQueue = s.weftQueue := rfl
@[simp] theorem State.withdrawCommits_ended (s : State) : (s.withdrawCommits).ended = s.ended := rfl
@[simp] theorem State.withdrawCommits_shown (s : State) : (s.withdrawCommits).shown = s.shown := rfl
@[simp] theorem State.withdrawCommits_keys (s : State) : (s.withdrawCommits).keys = s.keys := rfl
@[simp] theorem State.withdrawCommits_domains (s : State) : (s.withdrawCommits).domains = s.domains := rfl
@[simp] theorem State.withdrawCommits_command (s : State) : (s.withdrawCommits).command = s.command := rfl
@[simp] theorem State.withdrawCommits_profileChange (s : State) : (s.withdrawCommits).profileChange = s.profileChange := rfl
@[simp] theorem State.withdrawCommits_restore (s : State) : (s.withdrawCommits).restore = s.restore := rfl
@[simp] theorem State.withdrawCommits_rst (s : State) : (s.withdrawCommits).rst = s.rst := rfl
@[simp] theorem State.withdrawCommits_options (s : State) : (s.withdrawCommits).options = s.options := rfl
@[simp] theorem State.withdrawCommits_tally (s : State) : (s.withdrawCommits).tally = s.tally := rfl
@[simp] theorem State.withdrawCommits_face (s : State) : (s.withdrawCommits).face = s.face := rfl
@[simp] theorem State.withdrawCommits_clp (s : State) : (s.withdrawCommits).clp = s.clp := rfl
@[simp] theorem State.withdrawCommits_eng (s : State) : (s.withdrawCommits).eng = s.eng := rfl
@[simp] theorem State.withdrawCommits_warp (s : State) : (s.withdrawCommits).warp = s.warp := rfl
@[simp] theorem State.withdrawCommits_time (s : State) : (s.withdrawCommits).time = s.time := rfl
@[simp] theorem State.withdrawCommits_can (s : State) : (s.withdrawCommits).can = s.can := rfl
@[simp] theorem State.withdrawCommits_island (s : State) : (s.withdrawCommits).island = s.island := rfl
@[simp] theorem State.withdrawCommits_clocks (s : State) : (s.withdrawCommits).clocks = s.clocks := rfl
@[simp] theorem State.withdrawCommits_pd (s : State) : (s.withdrawCommits).pd = s.pd := rfl
@[simp] theorem State.withdrawCommits_stale (s : State) : (s.withdrawCommits).stale = s.stale := rfl
@[simp] theorem State.withdrawCommits_pair (s : State) : (s.withdrawCommits).pair = s.pair := rfl
@[simp] theorem State.withdrawCommits_prp (s : State) : (s.withdrawCommits).prp = s.prp := rfl
@[simp] theorem State.withdrawCommits_firmware (s : State) : (s.withdrawCommits).firmware = s.firmware := rfl
@[simp] theorem State.withdrawCommits_storeFault (s : State) : (s.withdrawCommits).storeFault = s.storeFault := rfl
@[simp] theorem State.withdrawCommits_startTick (s : State) : (s.withdrawCommits).startTick = s.startTick := rfl
@[simp] theorem State.withdrawCommits_captures (s : State) : (s.withdrawCommits).captures = s.captures := rfl
@[simp] theorem State.withdrawCommits_loopsMissed (s : State) : (s.withdrawCommits).loopsMissed = s.loopsMissed := rfl
@[simp] theorem State.withdrawCommits_loopsHeld (s : State) : (s.withdrawCommits).loopsHeld = s.loopsHeld := rfl
@[simp] theorem State.withdrawCommits_tableRam (s : State) : (s.withdrawCommits).tableRam = s.tableRam := rfl
@[simp] theorem State.withdrawCommits_store (s : State) : (s.withdrawCommits).store = s.store := rfl
@[simp] theorem State.withdrawCommits_dram (s : State) : (s.withdrawCommits).dram = s.dram := rfl
@[simp] theorem State.withdrawCommits_window (s : State) : (s.withdrawCommits).window = s.window := rfl
@[simp] theorem State.withdrawCommits_tick (s : State) : (s.withdrawCommits).tick = s.tick := rfl
@[simp] theorem State.withdrawCommits_ticking (s : State) : (s.withdrawCommits).ticking = s.ticking := rfl
@[simp] theorem State.withdrawCommits_timeNs (s : State) : (s.withdrawCommits).timeNs = s.timeNs := rfl
@[simp] theorem State.withdrawCommits_localNs (s : State) : (s.withdrawCommits).localNs = s.localNs := rfl
@[simp] theorem State.withdrawCommits_rtcNs (s : State) : (s.withdrawCommits).rtcNs = s.rtcNs := rfl
@[simp] theorem State.withdrawCommits_tickFlags (s : State) : (s.withdrawCommits).tickFlags = s.tickFlags := rfl
@[simp] theorem State.withdrawCommits_freeCount (s : State) : (s.withdrawCommits).freeCount = s.freeCount := rfl
@[simp] theorem State.withdrawCommits_out (s : State) : (s.withdrawCommits).out = s.out := rfl
@[simp] theorem State.withdrawCommits_pending (s : State) : (s.withdrawCommits).pending = s.pending := rfl

/-! ### releaseSource -/

@[simp] theorem State.releaseSource_mode (s : State) (src : ResetSource) : (s.releaseSource src).mode = s.mode := rfl
@[simp] theorem State.releaseSource_dict (s : State) (src : ResetSource) : (s.releaseSource src).dict = s.dict := rfl
@[simp] theorem State.releaseSource_inForce (s : State) (src : ResetSource) : (s.releaseSource src).inForce = s.inForce := rfl
@[simp] theorem State.releaseSource_stored (s : State) (src : ResetSource) : (s.releaseSource src).stored = s.stored := rfl
@[simp] theorem State.releaseSource_storedLayout (s : State) (src : ResetSource) : (s.releaseSource src).storedLayout = s.storedLayout := rfl
@[simp] theorem State.releaseSource_weftQueue (s : State) (src : ResetSource) : (s.releaseSource src).weftQueue = s.weftQueue := rfl
@[simp] theorem State.releaseSource_ended (s : State) (src : ResetSource) : (s.releaseSource src).ended = s.ended := rfl
@[simp] theorem State.releaseSource_shown (s : State) (src : ResetSource) : (s.releaseSource src).shown = s.shown := rfl
@[simp] theorem State.releaseSource_keys (s : State) (src : ResetSource) : (s.releaseSource src).keys = s.keys := rfl
@[simp] theorem State.releaseSource_domains (s : State) (src : ResetSource) : (s.releaseSource src).domains = s.domains := rfl
@[simp] theorem State.releaseSource_command (s : State) (src : ResetSource) : (s.releaseSource src).command = s.command := rfl
@[simp] theorem State.releaseSource_profileChange (s : State) (src : ResetSource) : (s.releaseSource src).profileChange = s.profileChange := rfl
@[simp] theorem State.releaseSource_restore (s : State) (src : ResetSource) : (s.releaseSource src).restore = s.restore := rfl
@[simp] theorem State.releaseSource_options (s : State) (src : ResetSource) : (s.releaseSource src).options = s.options := rfl
@[simp] theorem State.releaseSource_tally (s : State) (src : ResetSource) : (s.releaseSource src).tally = s.tally := rfl
@[simp] theorem State.releaseSource_face (s : State) (src : ResetSource) : (s.releaseSource src).face = s.face := rfl
@[simp] theorem State.releaseSource_clp (s : State) (src : ResetSource) : (s.releaseSource src).clp = s.clp := rfl
@[simp] theorem State.releaseSource_eng (s : State) (src : ResetSource) : (s.releaseSource src).eng = s.eng := rfl
@[simp] theorem State.releaseSource_warp (s : State) (src : ResetSource) : (s.releaseSource src).warp = s.warp := rfl
@[simp] theorem State.releaseSource_time (s : State) (src : ResetSource) : (s.releaseSource src).time = s.time := rfl
@[simp] theorem State.releaseSource_can (s : State) (src : ResetSource) : (s.releaseSource src).can = s.can := rfl
@[simp] theorem State.releaseSource_island (s : State) (src : ResetSource) : (s.releaseSource src).island = s.island := rfl
@[simp] theorem State.releaseSource_io (s : State) (src : ResetSource) : (s.releaseSource src).io = s.io := rfl
@[simp] theorem State.releaseSource_clocks (s : State) (src : ResetSource) : (s.releaseSource src).clocks = s.clocks := rfl
@[simp] theorem State.releaseSource_pd (s : State) (src : ResetSource) : (s.releaseSource src).pd = s.pd := rfl
@[simp] theorem State.releaseSource_stale (s : State) (src : ResetSource) : (s.releaseSource src).stale = s.stale := rfl
@[simp] theorem State.releaseSource_pair (s : State) (src : ResetSource) : (s.releaseSource src).pair = s.pair := rfl
@[simp] theorem State.releaseSource_prp (s : State) (src : ResetSource) : (s.releaseSource src).prp = s.prp := rfl
@[simp] theorem State.releaseSource_firmware (s : State) (src : ResetSource) : (s.releaseSource src).firmware = s.firmware := rfl
@[simp] theorem State.releaseSource_storeFault (s : State) (src : ResetSource) : (s.releaseSource src).storeFault = s.storeFault := rfl
@[simp] theorem State.releaseSource_startTick (s : State) (src : ResetSource) : (s.releaseSource src).startTick = s.startTick := rfl
@[simp] theorem State.releaseSource_captures (s : State) (src : ResetSource) : (s.releaseSource src).captures = s.captures := rfl
@[simp] theorem State.releaseSource_loopsMissed (s : State) (src : ResetSource) : (s.releaseSource src).loopsMissed = s.loopsMissed := rfl
@[simp] theorem State.releaseSource_loopsHeld (s : State) (src : ResetSource) : (s.releaseSource src).loopsHeld = s.loopsHeld := rfl
@[simp] theorem State.releaseSource_tableRam (s : State) (src : ResetSource) : (s.releaseSource src).tableRam = s.tableRam := rfl
@[simp] theorem State.releaseSource_store (s : State) (src : ResetSource) : (s.releaseSource src).store = s.store := rfl
@[simp] theorem State.releaseSource_dram (s : State) (src : ResetSource) : (s.releaseSource src).dram = s.dram := rfl
@[simp] theorem State.releaseSource_window (s : State) (src : ResetSource) : (s.releaseSource src).window = s.window := rfl
@[simp] theorem State.releaseSource_tick (s : State) (src : ResetSource) : (s.releaseSource src).tick = s.tick := rfl
@[simp] theorem State.releaseSource_ticking (s : State) (src : ResetSource) : (s.releaseSource src).ticking = s.ticking := rfl
@[simp] theorem State.releaseSource_timeNs (s : State) (src : ResetSource) : (s.releaseSource src).timeNs = s.timeNs := rfl
@[simp] theorem State.releaseSource_localNs (s : State) (src : ResetSource) : (s.releaseSource src).localNs = s.localNs := rfl
@[simp] theorem State.releaseSource_rtcNs (s : State) (src : ResetSource) : (s.releaseSource src).rtcNs = s.rtcNs := rfl
@[simp] theorem State.releaseSource_tickFlags (s : State) (src : ResetSource) : (s.releaseSource src).tickFlags = s.tickFlags := rfl
@[simp] theorem State.releaseSource_freeCount (s : State) (src : ResetSource) : (s.releaseSource src).freeCount = s.freeCount := rfl
@[simp] theorem State.releaseSource_out (s : State) (src : ResetSource) : (s.releaseSource src).out = s.out := rfl
@[simp] theorem State.releaseSource_pending (s : State) (src : ResetSource) : (s.releaseSource src).pending = s.pending := rfl

/-! ### logDraft -/

@[simp] theorem State.logDraft_mode (s : State) (d : TallyDraft) : (s.logDraft d).mode = s.mode := by rw [logDraft_rest s d]
@[simp] theorem State.logDraft_inForce (s : State) (d : TallyDraft) : (s.logDraft d).inForce = s.inForce := by rw [logDraft_rest s d]
@[simp] theorem State.logDraft_stored (s : State) (d : TallyDraft) : (s.logDraft d).stored = s.stored := by rw [logDraft_rest s d]
@[simp] theorem State.logDraft_storedLayout (s : State) (d : TallyDraft) : (s.logDraft d).storedLayout = s.storedLayout := by rw [logDraft_rest s d]
@[simp] theorem State.logDraft_weftQueue (s : State) (d : TallyDraft) : (s.logDraft d).weftQueue = s.weftQueue := by rw [logDraft_rest s d]
@[simp] theorem State.logDraft_ended (s : State) (d : TallyDraft) : (s.logDraft d).ended = s.ended := by rw [logDraft_rest s d]
@[simp] theorem State.logDraft_shown (s : State) (d : TallyDraft) : (s.logDraft d).shown = s.shown := by rw [logDraft_rest s d]
@[simp] theorem State.logDraft_keys (s : State) (d : TallyDraft) : (s.logDraft d).keys = s.keys := by rw [logDraft_rest s d]
@[simp] theorem State.logDraft_domains (s : State) (d : TallyDraft) : (s.logDraft d).domains = s.domains := by rw [logDraft_rest s d]
@[simp] theorem State.logDraft_command (s : State) (d : TallyDraft) : (s.logDraft d).command = s.command := by rw [logDraft_rest s d]
@[simp] theorem State.logDraft_profileChange (s : State) (d : TallyDraft) : (s.logDraft d).profileChange = s.profileChange := by rw [logDraft_rest s d]
@[simp] theorem State.logDraft_restore (s : State) (d : TallyDraft) : (s.logDraft d).restore = s.restore := by rw [logDraft_rest s d]
@[simp] theorem State.logDraft_rst (s : State) (d : TallyDraft) : (s.logDraft d).rst = s.rst := by rw [logDraft_rest s d]
@[simp] theorem State.logDraft_options (s : State) (d : TallyDraft) : (s.logDraft d).options = s.options := by rw [logDraft_rest s d]
@[simp] theorem State.logDraft_face (s : State) (d : TallyDraft) : (s.logDraft d).face = s.face := by rw [logDraft_rest s d]
@[simp] theorem State.logDraft_clp (s : State) (d : TallyDraft) : (s.logDraft d).clp = s.clp := by rw [logDraft_rest s d]
@[simp] theorem State.logDraft_eng (s : State) (d : TallyDraft) : (s.logDraft d).eng = s.eng := by rw [logDraft_rest s d]
@[simp] theorem State.logDraft_warp (s : State) (d : TallyDraft) : (s.logDraft d).warp = s.warp := by rw [logDraft_rest s d]
@[simp] theorem State.logDraft_time (s : State) (d : TallyDraft) : (s.logDraft d).time = s.time := by rw [logDraft_rest s d]
@[simp] theorem State.logDraft_can (s : State) (d : TallyDraft) : (s.logDraft d).can = s.can := by rw [logDraft_rest s d]
@[simp] theorem State.logDraft_island (s : State) (d : TallyDraft) : (s.logDraft d).island = s.island := by rw [logDraft_rest s d]
@[simp] theorem State.logDraft_io (s : State) (d : TallyDraft) : (s.logDraft d).io = s.io := by rw [logDraft_rest s d]
@[simp] theorem State.logDraft_clocks (s : State) (d : TallyDraft) : (s.logDraft d).clocks = s.clocks := by rw [logDraft_rest s d]
@[simp] theorem State.logDraft_pd (s : State) (d : TallyDraft) : (s.logDraft d).pd = s.pd := by rw [logDraft_rest s d]
@[simp] theorem State.logDraft_stale (s : State) (d : TallyDraft) : (s.logDraft d).stale = s.stale := by rw [logDraft_rest s d]
@[simp] theorem State.logDraft_pair (s : State) (d : TallyDraft) : (s.logDraft d).pair = s.pair := by rw [logDraft_rest s d]
@[simp] theorem State.logDraft_prp (s : State) (d : TallyDraft) : (s.logDraft d).prp = s.prp := by rw [logDraft_rest s d]
@[simp] theorem State.logDraft_firmware (s : State) (d : TallyDraft) : (s.logDraft d).firmware = s.firmware := by rw [logDraft_rest s d]
@[simp] theorem State.logDraft_storeFault (s : State) (d : TallyDraft) : (s.logDraft d).storeFault = s.storeFault := by rw [logDraft_rest s d]
@[simp] theorem State.logDraft_startTick (s : State) (d : TallyDraft) : (s.logDraft d).startTick = s.startTick := by rw [logDraft_rest s d]
@[simp] theorem State.logDraft_captures (s : State) (d : TallyDraft) : (s.logDraft d).captures = s.captures := by rw [logDraft_rest s d]
@[simp] theorem State.logDraft_loopsMissed (s : State) (d : TallyDraft) : (s.logDraft d).loopsMissed = s.loopsMissed := by rw [logDraft_rest s d]
@[simp] theorem State.logDraft_loopsHeld (s : State) (d : TallyDraft) : (s.logDraft d).loopsHeld = s.loopsHeld := by rw [logDraft_rest s d]
@[simp] theorem State.logDraft_tableRam (s : State) (d : TallyDraft) : (s.logDraft d).tableRam = s.tableRam := by rw [logDraft_rest s d]
@[simp] theorem State.logDraft_store (s : State) (d : TallyDraft) : (s.logDraft d).store = s.store := by rw [logDraft_rest s d]
@[simp] theorem State.logDraft_dram (s : State) (d : TallyDraft) : (s.logDraft d).dram = s.dram := by rw [logDraft_rest s d]
@[simp] theorem State.logDraft_window (s : State) (d : TallyDraft) : (s.logDraft d).window = s.window := by rw [logDraft_rest s d]
@[simp] theorem State.logDraft_tick (s : State) (d : TallyDraft) : (s.logDraft d).tick = s.tick := by rw [logDraft_rest s d]
@[simp] theorem State.logDraft_ticking (s : State) (d : TallyDraft) : (s.logDraft d).ticking = s.ticking := by rw [logDraft_rest s d]
@[simp] theorem State.logDraft_timeNs (s : State) (d : TallyDraft) : (s.logDraft d).timeNs = s.timeNs := by rw [logDraft_rest s d]
@[simp] theorem State.logDraft_localNs (s : State) (d : TallyDraft) : (s.logDraft d).localNs = s.localNs := by rw [logDraft_rest s d]
@[simp] theorem State.logDraft_rtcNs (s : State) (d : TallyDraft) : (s.logDraft d).rtcNs = s.rtcNs := by rw [logDraft_rest s d]
@[simp] theorem State.logDraft_tickFlags (s : State) (d : TallyDraft) : (s.logDraft d).tickFlags = s.tickFlags := by rw [logDraft_rest s d]
@[simp] theorem State.logDraft_freeCount (s : State) (d : TallyDraft) : (s.logDraft d).freeCount = s.freeCount := by rw [logDraft_rest s d]
@[simp] theorem State.logDraft_out (s : State) (d : TallyDraft) : (s.logDraft d).out = s.out := by rw [logDraft_rest s d]
@[simp] theorem State.logDraft_pending (s : State) (d : TallyDraft) : (s.logDraft d).pending = s.pending := by rw [logDraft_rest s d]

/-! ### logTally -/

@[simp] theorem State.logTally_mode (s : State) (code : Nat) (params : List Nat) : (s.logTally code params).mode = s.mode := by rw [logTally_rest s code params]
@[simp] theorem State.logTally_inForce (s : State) (code : Nat) (params : List Nat) : (s.logTally code params).inForce = s.inForce := by rw [logTally_rest s code params]
@[simp] theorem State.logTally_stored (s : State) (code : Nat) (params : List Nat) : (s.logTally code params).stored = s.stored := by rw [logTally_rest s code params]
@[simp] theorem State.logTally_storedLayout (s : State) (code : Nat) (params : List Nat) : (s.logTally code params).storedLayout = s.storedLayout := by rw [logTally_rest s code params]
@[simp] theorem State.logTally_weftQueue (s : State) (code : Nat) (params : List Nat) : (s.logTally code params).weftQueue = s.weftQueue := by rw [logTally_rest s code params]
@[simp] theorem State.logTally_ended (s : State) (code : Nat) (params : List Nat) : (s.logTally code params).ended = s.ended := by rw [logTally_rest s code params]
@[simp] theorem State.logTally_shown (s : State) (code : Nat) (params : List Nat) : (s.logTally code params).shown = s.shown := by rw [logTally_rest s code params]
@[simp] theorem State.logTally_keys (s : State) (code : Nat) (params : List Nat) : (s.logTally code params).keys = s.keys := by rw [logTally_rest s code params]
@[simp] theorem State.logTally_domains (s : State) (code : Nat) (params : List Nat) : (s.logTally code params).domains = s.domains := by rw [logTally_rest s code params]
@[simp] theorem State.logTally_command (s : State) (code : Nat) (params : List Nat) : (s.logTally code params).command = s.command := by rw [logTally_rest s code params]
@[simp] theorem State.logTally_profileChange (s : State) (code : Nat) (params : List Nat) : (s.logTally code params).profileChange = s.profileChange := by rw [logTally_rest s code params]
@[simp] theorem State.logTally_restore (s : State) (code : Nat) (params : List Nat) : (s.logTally code params).restore = s.restore := by rw [logTally_rest s code params]
@[simp] theorem State.logTally_rst (s : State) (code : Nat) (params : List Nat) : (s.logTally code params).rst = s.rst := by rw [logTally_rest s code params]
@[simp] theorem State.logTally_options (s : State) (code : Nat) (params : List Nat) : (s.logTally code params).options = s.options := by rw [logTally_rest s code params]
@[simp] theorem State.logTally_face (s : State) (code : Nat) (params : List Nat) : (s.logTally code params).face = s.face := by rw [logTally_rest s code params]
@[simp] theorem State.logTally_clp (s : State) (code : Nat) (params : List Nat) : (s.logTally code params).clp = s.clp := by rw [logTally_rest s code params]
@[simp] theorem State.logTally_eng (s : State) (code : Nat) (params : List Nat) : (s.logTally code params).eng = s.eng := by rw [logTally_rest s code params]
@[simp] theorem State.logTally_warp (s : State) (code : Nat) (params : List Nat) : (s.logTally code params).warp = s.warp := by rw [logTally_rest s code params]
@[simp] theorem State.logTally_time (s : State) (code : Nat) (params : List Nat) : (s.logTally code params).time = s.time := by rw [logTally_rest s code params]
@[simp] theorem State.logTally_can (s : State) (code : Nat) (params : List Nat) : (s.logTally code params).can = s.can := by rw [logTally_rest s code params]
@[simp] theorem State.logTally_island (s : State) (code : Nat) (params : List Nat) : (s.logTally code params).island = s.island := by rw [logTally_rest s code params]
@[simp] theorem State.logTally_io (s : State) (code : Nat) (params : List Nat) : (s.logTally code params).io = s.io := by rw [logTally_rest s code params]
@[simp] theorem State.logTally_clocks (s : State) (code : Nat) (params : List Nat) : (s.logTally code params).clocks = s.clocks := by rw [logTally_rest s code params]
@[simp] theorem State.logTally_pd (s : State) (code : Nat) (params : List Nat) : (s.logTally code params).pd = s.pd := by rw [logTally_rest s code params]
@[simp] theorem State.logTally_stale (s : State) (code : Nat) (params : List Nat) : (s.logTally code params).stale = s.stale := by rw [logTally_rest s code params]
@[simp] theorem State.logTally_pair (s : State) (code : Nat) (params : List Nat) : (s.logTally code params).pair = s.pair := by rw [logTally_rest s code params]
@[simp] theorem State.logTally_prp (s : State) (code : Nat) (params : List Nat) : (s.logTally code params).prp = s.prp := by rw [logTally_rest s code params]
@[simp] theorem State.logTally_firmware (s : State) (code : Nat) (params : List Nat) : (s.logTally code params).firmware = s.firmware := by rw [logTally_rest s code params]
@[simp] theorem State.logTally_storeFault (s : State) (code : Nat) (params : List Nat) : (s.logTally code params).storeFault = s.storeFault := by rw [logTally_rest s code params]
@[simp] theorem State.logTally_startTick (s : State) (code : Nat) (params : List Nat) : (s.logTally code params).startTick = s.startTick := by rw [logTally_rest s code params]
@[simp] theorem State.logTally_captures (s : State) (code : Nat) (params : List Nat) : (s.logTally code params).captures = s.captures := by rw [logTally_rest s code params]
@[simp] theorem State.logTally_loopsMissed (s : State) (code : Nat) (params : List Nat) : (s.logTally code params).loopsMissed = s.loopsMissed := by rw [logTally_rest s code params]
@[simp] theorem State.logTally_loopsHeld (s : State) (code : Nat) (params : List Nat) : (s.logTally code params).loopsHeld = s.loopsHeld := by rw [logTally_rest s code params]
@[simp] theorem State.logTally_tableRam (s : State) (code : Nat) (params : List Nat) : (s.logTally code params).tableRam = s.tableRam := by rw [logTally_rest s code params]
@[simp] theorem State.logTally_store (s : State) (code : Nat) (params : List Nat) : (s.logTally code params).store = s.store := by rw [logTally_rest s code params]
@[simp] theorem State.logTally_dram (s : State) (code : Nat) (params : List Nat) : (s.logTally code params).dram = s.dram := by rw [logTally_rest s code params]
@[simp] theorem State.logTally_window (s : State) (code : Nat) (params : List Nat) : (s.logTally code params).window = s.window := by rw [logTally_rest s code params]
@[simp] theorem State.logTally_tick (s : State) (code : Nat) (params : List Nat) : (s.logTally code params).tick = s.tick := by rw [logTally_rest s code params]
@[simp] theorem State.logTally_ticking (s : State) (code : Nat) (params : List Nat) : (s.logTally code params).ticking = s.ticking := by rw [logTally_rest s code params]
@[simp] theorem State.logTally_timeNs (s : State) (code : Nat) (params : List Nat) : (s.logTally code params).timeNs = s.timeNs := by rw [logTally_rest s code params]
@[simp] theorem State.logTally_localNs (s : State) (code : Nat) (params : List Nat) : (s.logTally code params).localNs = s.localNs := by rw [logTally_rest s code params]
@[simp] theorem State.logTally_rtcNs (s : State) (code : Nat) (params : List Nat) : (s.logTally code params).rtcNs = s.rtcNs := by rw [logTally_rest s code params]
@[simp] theorem State.logTally_tickFlags (s : State) (code : Nat) (params : List Nat) : (s.logTally code params).tickFlags = s.tickFlags := by rw [logTally_rest s code params]
@[simp] theorem State.logTally_freeCount (s : State) (code : Nat) (params : List Nat) : (s.logTally code params).freeCount = s.freeCount := by rw [logTally_rest s code params]
@[simp] theorem State.logTally_out (s : State) (code : Nat) (params : List Nat) : (s.logTally code params).out = s.out := by rw [logTally_rest s code params]
@[simp] theorem State.logTally_pending (s : State) (code : Nat) (params : List Nat) : (s.logTally code params).pending = s.pending := by rw [logTally_rest s code params]

/-! ### count -/

@[simp] theorem State.count_mode (s : State) (a n : Nat) : (s.count a n).mode = s.mode := by rw [count_rest s a n]
@[simp] theorem State.count_inForce (s : State) (a n : Nat) : (s.count a n).inForce = s.inForce := by rw [count_rest s a n]
@[simp] theorem State.count_stored (s : State) (a n : Nat) : (s.count a n).stored = s.stored := by rw [count_rest s a n]
@[simp] theorem State.count_storedLayout (s : State) (a n : Nat) : (s.count a n).storedLayout = s.storedLayout := by rw [count_rest s a n]
@[simp] theorem State.count_weftQueue (s : State) (a n : Nat) : (s.count a n).weftQueue = s.weftQueue := by rw [count_rest s a n]
@[simp] theorem State.count_ended (s : State) (a n : Nat) : (s.count a n).ended = s.ended := by rw [count_rest s a n]
@[simp] theorem State.count_shown (s : State) (a n : Nat) : (s.count a n).shown = s.shown := by rw [count_rest s a n]
@[simp] theorem State.count_keys (s : State) (a n : Nat) : (s.count a n).keys = s.keys := by rw [count_rest s a n]
@[simp] theorem State.count_domains (s : State) (a n : Nat) : (s.count a n).domains = s.domains := by rw [count_rest s a n]
@[simp] theorem State.count_command (s : State) (a n : Nat) : (s.count a n).command = s.command := by rw [count_rest s a n]
@[simp] theorem State.count_profileChange (s : State) (a n : Nat) : (s.count a n).profileChange = s.profileChange := by rw [count_rest s a n]
@[simp] theorem State.count_restore (s : State) (a n : Nat) : (s.count a n).restore = s.restore := by rw [count_rest s a n]
@[simp] theorem State.count_rst (s : State) (a n : Nat) : (s.count a n).rst = s.rst := by rw [count_rest s a n]
@[simp] theorem State.count_options (s : State) (a n : Nat) : (s.count a n).options = s.options := by rw [count_rest s a n]
@[simp] theorem State.count_face (s : State) (a n : Nat) : (s.count a n).face = s.face := by rw [count_rest s a n]
@[simp] theorem State.count_clp (s : State) (a n : Nat) : (s.count a n).clp = s.clp := by rw [count_rest s a n]
@[simp] theorem State.count_eng (s : State) (a n : Nat) : (s.count a n).eng = s.eng := by rw [count_rest s a n]
@[simp] theorem State.count_warp (s : State) (a n : Nat) : (s.count a n).warp = s.warp := by rw [count_rest s a n]
@[simp] theorem State.count_time (s : State) (a n : Nat) : (s.count a n).time = s.time := by rw [count_rest s a n]
@[simp] theorem State.count_can (s : State) (a n : Nat) : (s.count a n).can = s.can := by rw [count_rest s a n]
@[simp] theorem State.count_island (s : State) (a n : Nat) : (s.count a n).island = s.island := by rw [count_rest s a n]
@[simp] theorem State.count_io (s : State) (a n : Nat) : (s.count a n).io = s.io := by rw [count_rest s a n]
@[simp] theorem State.count_clocks (s : State) (a n : Nat) : (s.count a n).clocks = s.clocks := by rw [count_rest s a n]
@[simp] theorem State.count_pd (s : State) (a n : Nat) : (s.count a n).pd = s.pd := by rw [count_rest s a n]
@[simp] theorem State.count_stale (s : State) (a n : Nat) : (s.count a n).stale = s.stale := by rw [count_rest s a n]
@[simp] theorem State.count_pair (s : State) (a n : Nat) : (s.count a n).pair = s.pair := by rw [count_rest s a n]
@[simp] theorem State.count_prp (s : State) (a n : Nat) : (s.count a n).prp = s.prp := by rw [count_rest s a n]
@[simp] theorem State.count_firmware (s : State) (a n : Nat) : (s.count a n).firmware = s.firmware := by rw [count_rest s a n]
@[simp] theorem State.count_storeFault (s : State) (a n : Nat) : (s.count a n).storeFault = s.storeFault := by rw [count_rest s a n]
@[simp] theorem State.count_startTick (s : State) (a n : Nat) : (s.count a n).startTick = s.startTick := by rw [count_rest s a n]
@[simp] theorem State.count_captures (s : State) (a n : Nat) : (s.count a n).captures = s.captures := by rw [count_rest s a n]
@[simp] theorem State.count_loopsMissed (s : State) (a n : Nat) : (s.count a n).loopsMissed = s.loopsMissed := by rw [count_rest s a n]
@[simp] theorem State.count_loopsHeld (s : State) (a n : Nat) : (s.count a n).loopsHeld = s.loopsHeld := by rw [count_rest s a n]
@[simp] theorem State.count_tableRam (s : State) (a n : Nat) : (s.count a n).tableRam = s.tableRam := by rw [count_rest s a n]
@[simp] theorem State.count_store (s : State) (a n : Nat) : (s.count a n).store = s.store := by rw [count_rest s a n]
@[simp] theorem State.count_dram (s : State) (a n : Nat) : (s.count a n).dram = s.dram := by rw [count_rest s a n]
@[simp] theorem State.count_window (s : State) (a n : Nat) : (s.count a n).window = s.window := by rw [count_rest s a n]
@[simp] theorem State.count_tick (s : State) (a n : Nat) : (s.count a n).tick = s.tick := by rw [count_rest s a n]
@[simp] theorem State.count_ticking (s : State) (a n : Nat) : (s.count a n).ticking = s.ticking := by rw [count_rest s a n]
@[simp] theorem State.count_timeNs (s : State) (a n : Nat) : (s.count a n).timeNs = s.timeNs := by rw [count_rest s a n]
@[simp] theorem State.count_localNs (s : State) (a n : Nat) : (s.count a n).localNs = s.localNs := by rw [count_rest s a n]
@[simp] theorem State.count_rtcNs (s : State) (a n : Nat) : (s.count a n).rtcNs = s.rtcNs := by rw [count_rest s a n]
@[simp] theorem State.count_tickFlags (s : State) (a n : Nat) : (s.count a n).tickFlags = s.tickFlags := by rw [count_rest s a n]
@[simp] theorem State.count_freeCount (s : State) (a n : Nat) : (s.count a n).freeCount = s.freeCount := by rw [count_rest s a n]
@[simp] theorem State.count_out (s : State) (a n : Nat) : (s.count a n).out = s.out := by rw [count_rest s a n]
@[simp] theorem State.count_pending (s : State) (a n : Nat) : (s.count a n).pending = s.pending := by rw [count_rest s a n]

/-! ### storeWrite -/

theorem saveLine_rest (s : State) (line : Nat) : s.saveLine line = { s with eng := (s.saveLine line).eng } := by
  unfold State.saveLine
  split <;> rfl

theorem saveLines_rest (ls : List Nat) (s : State) : ls.foldl State.saveLine s = { s with eng := (ls.foldl State.saveLine s).eng } := by
  induction ls generalizing s with
  | nil => rfl
  | cons l ls ih =>
    rw [List.foldl_cons]
    generalize h : s.saveLine l = u
    have hu := saveLine_rest s l
    rw [h] at hu
    rw [ih u, hu]

theorem storeWrite_rest (s : State) (a : Nat) (bs : Bytes) :
    s.storeWrite a bs = { s with store := Mem.write s.store a bs, eng := (s.storeWrite a bs).eng } := by
  unfold State.storeWrite
  dsimp only
  rw [saveLines_rest]

@[simp] theorem State.storeWrite_store (s : State) (a : Nat) (bs : Bytes) : (s.storeWrite a bs).store = Mem.write s.store a bs := by
  rw [storeWrite_rest]
@[simp] theorem State.storeWrite_mode (s : State) (a : Nat) (bs : Bytes) : (s.storeWrite a bs).mode = s.mode := by rw [storeWrite_rest s a bs]
@[simp] theorem State.storeWrite_dict (s : State) (a : Nat) (bs : Bytes) : (s.storeWrite a bs).dict = s.dict := by rw [storeWrite_rest s a bs]
@[simp] theorem State.storeWrite_inForce (s : State) (a : Nat) (bs : Bytes) : (s.storeWrite a bs).inForce = s.inForce := by rw [storeWrite_rest s a bs]
@[simp] theorem State.storeWrite_stored (s : State) (a : Nat) (bs : Bytes) : (s.storeWrite a bs).stored = s.stored := by rw [storeWrite_rest s a bs]
@[simp] theorem State.storeWrite_storedLayout (s : State) (a : Nat) (bs : Bytes) : (s.storeWrite a bs).storedLayout = s.storedLayout := by rw [storeWrite_rest s a bs]
@[simp] theorem State.storeWrite_weftQueue (s : State) (a : Nat) (bs : Bytes) : (s.storeWrite a bs).weftQueue = s.weftQueue := by rw [storeWrite_rest s a bs]
@[simp] theorem State.storeWrite_ended (s : State) (a : Nat) (bs : Bytes) : (s.storeWrite a bs).ended = s.ended := by rw [storeWrite_rest s a bs]
@[simp] theorem State.storeWrite_shown (s : State) (a : Nat) (bs : Bytes) : (s.storeWrite a bs).shown = s.shown := by rw [storeWrite_rest s a bs]
@[simp] theorem State.storeWrite_keys (s : State) (a : Nat) (bs : Bytes) : (s.storeWrite a bs).keys = s.keys := by rw [storeWrite_rest s a bs]
@[simp] theorem State.storeWrite_domains (s : State) (a : Nat) (bs : Bytes) : (s.storeWrite a bs).domains = s.domains := by rw [storeWrite_rest s a bs]
@[simp] theorem State.storeWrite_command (s : State) (a : Nat) (bs : Bytes) : (s.storeWrite a bs).command = s.command := by rw [storeWrite_rest s a bs]
@[simp] theorem State.storeWrite_profileChange (s : State) (a : Nat) (bs : Bytes) : (s.storeWrite a bs).profileChange = s.profileChange := by rw [storeWrite_rest s a bs]
@[simp] theorem State.storeWrite_restore (s : State) (a : Nat) (bs : Bytes) : (s.storeWrite a bs).restore = s.restore := by rw [storeWrite_rest s a bs]
@[simp] theorem State.storeWrite_rst (s : State) (a : Nat) (bs : Bytes) : (s.storeWrite a bs).rst = s.rst := by rw [storeWrite_rest s a bs]
@[simp] theorem State.storeWrite_options (s : State) (a : Nat) (bs : Bytes) : (s.storeWrite a bs).options = s.options := by rw [storeWrite_rest s a bs]
@[simp] theorem State.storeWrite_tally (s : State) (a : Nat) (bs : Bytes) : (s.storeWrite a bs).tally = s.tally := by rw [storeWrite_rest s a bs]
@[simp] theorem State.storeWrite_face (s : State) (a : Nat) (bs : Bytes) : (s.storeWrite a bs).face = s.face := by rw [storeWrite_rest s a bs]
@[simp] theorem State.storeWrite_clp (s : State) (a : Nat) (bs : Bytes) : (s.storeWrite a bs).clp = s.clp := by rw [storeWrite_rest s a bs]
@[simp] theorem State.storeWrite_warp (s : State) (a : Nat) (bs : Bytes) : (s.storeWrite a bs).warp = s.warp := by rw [storeWrite_rest s a bs]
@[simp] theorem State.storeWrite_time (s : State) (a : Nat) (bs : Bytes) : (s.storeWrite a bs).time = s.time := by rw [storeWrite_rest s a bs]
@[simp] theorem State.storeWrite_can (s : State) (a : Nat) (bs : Bytes) : (s.storeWrite a bs).can = s.can := by rw [storeWrite_rest s a bs]
@[simp] theorem State.storeWrite_island (s : State) (a : Nat) (bs : Bytes) : (s.storeWrite a bs).island = s.island := by rw [storeWrite_rest s a bs]
@[simp] theorem State.storeWrite_io (s : State) (a : Nat) (bs : Bytes) : (s.storeWrite a bs).io = s.io := by rw [storeWrite_rest s a bs]
@[simp] theorem State.storeWrite_clocks (s : State) (a : Nat) (bs : Bytes) : (s.storeWrite a bs).clocks = s.clocks := by rw [storeWrite_rest s a bs]
@[simp] theorem State.storeWrite_pd (s : State) (a : Nat) (bs : Bytes) : (s.storeWrite a bs).pd = s.pd := by rw [storeWrite_rest s a bs]
@[simp] theorem State.storeWrite_stale (s : State) (a : Nat) (bs : Bytes) : (s.storeWrite a bs).stale = s.stale := by rw [storeWrite_rest s a bs]
@[simp] theorem State.storeWrite_pair (s : State) (a : Nat) (bs : Bytes) : (s.storeWrite a bs).pair = s.pair := by rw [storeWrite_rest s a bs]
@[simp] theorem State.storeWrite_prp (s : State) (a : Nat) (bs : Bytes) : (s.storeWrite a bs).prp = s.prp := by rw [storeWrite_rest s a bs]
@[simp] theorem State.storeWrite_firmware (s : State) (a : Nat) (bs : Bytes) : (s.storeWrite a bs).firmware = s.firmware := by rw [storeWrite_rest s a bs]
@[simp] theorem State.storeWrite_storeFault (s : State) (a : Nat) (bs : Bytes) : (s.storeWrite a bs).storeFault = s.storeFault := by rw [storeWrite_rest s a bs]
@[simp] theorem State.storeWrite_startTick (s : State) (a : Nat) (bs : Bytes) : (s.storeWrite a bs).startTick = s.startTick := by rw [storeWrite_rest s a bs]
@[simp] theorem State.storeWrite_captures (s : State) (a : Nat) (bs : Bytes) : (s.storeWrite a bs).captures = s.captures := by rw [storeWrite_rest s a bs]
@[simp] theorem State.storeWrite_loopsMissed (s : State) (a : Nat) (bs : Bytes) : (s.storeWrite a bs).loopsMissed = s.loopsMissed := by rw [storeWrite_rest s a bs]
@[simp] theorem State.storeWrite_loopsHeld (s : State) (a : Nat) (bs : Bytes) : (s.storeWrite a bs).loopsHeld = s.loopsHeld := by rw [storeWrite_rest s a bs]
@[simp] theorem State.storeWrite_tableRam (s : State) (a : Nat) (bs : Bytes) : (s.storeWrite a bs).tableRam = s.tableRam := by rw [storeWrite_rest s a bs]
@[simp] theorem State.storeWrite_dram (s : State) (a : Nat) (bs : Bytes) : (s.storeWrite a bs).dram = s.dram := by rw [storeWrite_rest s a bs]
@[simp] theorem State.storeWrite_window (s : State) (a : Nat) (bs : Bytes) : (s.storeWrite a bs).window = s.window := by rw [storeWrite_rest s a bs]
@[simp] theorem State.storeWrite_tick (s : State) (a : Nat) (bs : Bytes) : (s.storeWrite a bs).tick = s.tick := by rw [storeWrite_rest s a bs]
@[simp] theorem State.storeWrite_ticking (s : State) (a : Nat) (bs : Bytes) : (s.storeWrite a bs).ticking = s.ticking := by rw [storeWrite_rest s a bs]
@[simp] theorem State.storeWrite_timeNs (s : State) (a : Nat) (bs : Bytes) : (s.storeWrite a bs).timeNs = s.timeNs := by rw [storeWrite_rest s a bs]
@[simp] theorem State.storeWrite_localNs (s : State) (a : Nat) (bs : Bytes) : (s.storeWrite a bs).localNs = s.localNs := by rw [storeWrite_rest s a bs]
@[simp] theorem State.storeWrite_rtcNs (s : State) (a : Nat) (bs : Bytes) : (s.storeWrite a bs).rtcNs = s.rtcNs := by rw [storeWrite_rest s a bs]
@[simp] theorem State.storeWrite_tickFlags (s : State) (a : Nat) (bs : Bytes) : (s.storeWrite a bs).tickFlags = s.tickFlags := by rw [storeWrite_rest s a bs]
@[simp] theorem State.storeWrite_freeCount (s : State) (a : Nat) (bs : Bytes) : (s.storeWrite a bs).freeCount = s.freeCount := by rw [storeWrite_rest s a bs]
@[simp] theorem State.storeWrite_out (s : State) (a : Nat) (bs : Bytes) : (s.storeWrite a bs).out = s.out := by rw [storeWrite_rest s a bs]
@[simp] theorem State.storeWrite_pending (s : State) (a : Nat) (bs : Bytes) : (s.storeWrite a bs).pending = s.pending := by rw [storeWrite_rest s a bs]

end Sys2Proof.Machine
end

