-- ==== Sys2Proof/Laws/Dma.lean ====
section
/-! SUPPORT. What the shared operations of the DMA engines can do: nothing outside the memories, the engines, the dictionary and the tally log. -/

namespace Sys2Proof.Machine

/-- Between `s` and `t` only the memories, the engines, the dictionary and the tally log moved. -/
def DmaOnly (s t : State) : Prop :=
  t = { s with store := t.store, dram := t.dram, window := t.window, eng := t.eng, dict := t.dict, tally := t.tally }

theorem DmaOnly.refl (s : State) : DmaOnly s s := rfl
theorem DmaOnly.trans {s t u : State} (h : DmaOnly s t) (k : DmaOnly t u) : DmaOnly s u := by
  unfold DmaOnly at *; rw [k, h]

theorem DmaOnly.foldl {α : Type} {f : State → α → State} (h : ∀ s x, DmaOnly s (f s x)) : ∀ (xs : List α) (s : State), DmaOnly s (xs.foldl f s)
  | [], s => .refl s
  | x :: xs, s => (h s x).trans (DmaOnly.foldl h xs (f s x))

theorem setJob_rest (s : State) (j : DmaJob) : s.setJob j = { s with eng := { s.eng with jobs := (s.setJob j).eng.jobs } } := rfl
theorem passTo_rest (s : State) (e t : Nat) :
    s.passTo e t = { s with eng := { s.eng with passed := (s.passTo e t).eng.passed, hostBurst := (s.passTo e t).eng.hostBurst } } := by
  unfold State.passTo; dsimp only; split <;> rfl

theorem storeWrite_only (s : State) (a : Nat) (bs : Bytes) : DmaOnly s (s.storeWrite a bs) := by
  unfold DmaOnly; rw [storeWrite_rest]

theorem passTo_only (s : State) (e t : Nat) : DmaOnly s (s.passTo e t) := by
  unfold DmaOnly; rw [passTo_rest]

theorem dmaWrite_only (s : State) (lane held : Bool) (a : Nat) (bs : Bytes) : DmaOnly s (s.dmaWrite lane held a bs) := by
  unfold State.dmaWrite; dsimp only
  split
  · split
    · exact (storeWrite_only s _ _).trans rfl
    · rfl
  · split
    · rfl
    · split <;> rfl

theorem land_only (s : State) (due : Landing → Bool) : DmaOnly s (s.land due) := by
  unfold State.land; dsimp only
  exact (DmaOnly.foldl (fun s (x : Landing) => dmaWrite_only s x.lane x.held x.addr x.data) _ s).trans rfl

theorem appendRecord_only (s : State) (j : DmaJob) (r : DescResult) : DmaOnly s (s.appendRecord j r) := by
  have put : ∀ (s : State) a bs, DmaOnly s (if j.lane.isSome then s.storeWrite a bs else s.storePut a bs) := by
    intro s a bs; split
    · exact storeWrite_only s a bs
    · rfl
  unfold State.appendRecord
  split
  split
  · exact .refl s
  · extract_lets q n line w s1
    have h : DmaOnly s s1 := (put s _ _).trans (put _ _ _)
    split
    · exact h.trans rfl
    · exact h

theorem mapJobTag_only (s : State) (j : DmaJob) (f : LaneTag → LaneTag) : DmaOnly s (s.mapJobTag j f) := by
  unfold State.mapJobTag; split <;> rfl

theorem count_only (s : State) (a n : Nat) : DmaOnly s (s.count a n) := by
  unfold DmaOnly; rw [count_rest]

theorem discardList_only (s : State) (j : DmaJob) : DmaOnly s (s.discardList j) := (count_only s _ 1).trans (mapJobTag_only _ j _)
theorem haltChannel_only (s : State) (e c : Nat) : DmaOnly s (s.haltChannel e c) := (count_only s _ 1).trans rfl

theorem haltBehind_only (s : State) (e c : Nat) : DmaOnly s (s.haltBehind e c) := by
  unfold State.haltBehind
  refine DmaOnly.foldl (fun s j => ?_) _ s
  split
  · exact DmaOnly.trans (t := s.setJob { j with started := true, complete := true }) rfl (discardList_only _ _)
  · exact DmaOnly.trans (t := s.setJob { j with halted := true }) rfl (mapJobTag_only _ _ _)

theorem descFailed_only (s : State) (j : DmaJob) (seq e f : Nat) (halts : Bool) : DmaOnly s (s.descFailed j seq e f halts) := by
  unfold State.descFailed
  extract_lets s1 s2
  have h1 : DmaOnly s s1 := by
    show DmaOnly s (if e = eEcc then _ else s)
    split
    · exact (count_only s _ 1).trans rfl
    · rfl
  have h2 : DmaOnly s s2 := ((h1.trans (count_only s1 Obj.dmaErrors 1)).trans
    (show DmaOnly _ (State.dmaErrorTally _ j.engine j.channel seq e f) from rfl)).trans (mapJobTag_only _ _ _)
  split
  · exact (h2.trans (haltChannel_only s2 _ _)).trans (haltBehind_only _ _ _)
  · exact h2

theorem endDesc_only (s : State) (j : DmaJob) (d : Descriptor) (t : Nat) (fail : Option (Nat × Nat)) : DmaOnly s (s.endDesc j d t fail) := by
  unfold State.endDesc
  extract_lets k barrier cont mine late dst seq base lost err r halts last rec_ e s0 s1 s2
  have h1 : DmaOnly s s1 := by
    show DmaOnly s (if last then s0 else s0.appendRecord j r)
    split
    · rfl
    · exact DmaOnly.trans (t := s0) rfl (appendRecord_only s0 j r)
  have h2 : DmaOnly s s2 := h1.trans rfl
  match err with
  | none => exact h2
  | some (e, f, _) => exact h2.trans (descFailed_only _ _ _ _ _ _)

theorem beat_only (s : State) (t : Nat) (j : DmaJob) : DmaOnly s (s.beat t j) := by
  unfold State.beat
  split
  · rfl
  · extract_lets s1 rel a b meets s2
    have h1 : DmaOnly s s1 := (land_only s _).trans (passTo_only _ _ _)
    have h2 : DmaOnly s s2 := by
      show DmaOnly s (if _ then s1.count Obj.dramCorrected else s1)
      split
      · exact h1.trans (count_only s1 _ 1)
      · exact h1
    clear_value s2
    split
    · exact h2.trans (endDesc_only _ _ _ _ _)
    · rename_i s3 j1 _ _
      have h3 : DmaOnly s s3 := by
        show DmaOnly s (if s2.standbyWeft a b then s2 else _)
        split
        · exact h2
        · split
          · exact h2.trans rfl
          · exact h2.trans (dmaWrite_only _ _ _ _ _)
      split
      · exact h3.trans (endDesc_only _ _ _ _ _)
      · exact h3.trans rfl

/-- The beats that an engine moves, however many, touch nothing else. -/
theorem runEngine_only (engine limit : Nat) (stop : State → Bool) : ∀ (n : Nat) (s : State), DmaOnly s (State.runEngine engine limit stop n s)
  | 0, s => .refl s
  | n + 1, s => by
    unfold State.runEngine
    split
    · rfl
    · split
      · split
        · exact (beat_only _ _ _).trans (runEngine_only engine limit stop n _)
        · rfl
      · rfl

theorem engineTo_only (s : State) (engine t : Nat) : DmaOnly s (s.engineTo engine t) :=
  (runEngine_only engine t _ _ s).trans (passTo_only _ _ _)

/-- Starting a list leaves everything but what the engines move. -/
theorem execDmaListStart_only {list : BitVec 16} {faults : List DmaFault} {s t : State} (h : execDmaListStart list faults s = .next t) : DmaOnly s t := by
  simp only [execDmaListStart, Host.Outcome.next.injEq] at h
  subst h
  split
  · rfl
  · split
    · rfl
    · split
      · split
        · rfl
        · split
          · exact DmaOnly.trans (t := s.setJob _) rfl (discardList_only _ _)
          · exact DmaOnly.trans (t := s.setJob _) rfl (engineTo_only _ _ _)
      · split
        · rfl
        · split
          · split
            · rfl
            · split
              · exact DmaOnly.trans (t := s.addJob _) rfl (discardList_only _ _)
              · exact DmaOnly.trans (t := s.addJob _) rfl (engineTo_only _ _ _)
          · rfl

end Sys2Proof.Machine
end

