-- ==== Sys2Proof/Laws/Lanes.lean ====
section
/-! SUPPORT. The lanes: reading back registers, and everything that an instruction which computes a register leaves. -/

namespace Sys2Proof.Machine

theorem lane_setLane_self (s : State) (l : Fin 4) (x : Lane) : (s.setLane l x).lane l = x := by
  simp [State.lane, State.setLane]

theorem lane_setLane_ne (s : State) {l k : Fin 4} (x : Lane) (h : k ≠ l) : (s.setLane l x).lane k = s.lane k := by
  have : l.val ≠ k.val := fun e => h (Fin.ext e.symm)
  simp [State.lane, State.setLane, Vector.getElem_set_ne, this]

theorem setLane_rest (s : State) (l : Fin 4) (x : Lane) :
    s.setLane l x = { s with eng := { s.eng with lanes := (s.setLane l x).eng.lanes } } := rfl

theorem reg_setReg_self (x : Lane) (r : Fin 512) (v : Word64) : (x.setReg r v).reg r = if r = 0 then 0 else v := by
  by_cases h : r = 0 <;> simp [Lane.reg, Lane.setReg, h]

theorem reg_setReg_ne (x : Lane) {r q : Fin 512} (v : Word64) (h : q ≠ r) : (x.setReg r v).reg q = x.reg q := by
  have : r.val ≠ q.val := fun e => h (Fin.ext e.symm)
  by_cases h0 : r = 0 <;> simp [Lane.reg, Lane.setReg, h0, Vector.getElem_set_ne, this]

theorem reg_took (x : Lane) (start issue lat : Nat) (d r : Fin 512) : (x.took start issue d lat).reg r = x.reg r := rfl

theorem ready_took_self (x : Lane) (start issue lat : Nat) {d : Fin 512} (h : d ≠ 0) :
    (x.took start issue d lat).ready[d] = start + lat := by
  simp [Lane.took, h]

theorem ready_took_ne (x : Lane) (start issue lat : Nat) {d r : Fin 512} (h : r ≠ d) :
    (x.took start issue d lat).ready[r] = x.ready[r] := by
  have : d.val ≠ r.val := fun e => h (Fin.ext e.symm)
  by_cases h0 : d = 0 <;> simp [Lane.took, h0, Vector.getElem_set_ne, this]

theorem ready_setReg (x : Lane) (r : Fin 512) (v : Word64) : (x.setReg r v).ready = x.ready := by
  unfold Lane.setReg; split <;> rfl

/-- Everything that `State.compute` does on a lane that can take the instruction. -/
theorem compute_spec {s : State} {l : Fin 4} (h : (s.lane l).active = true) (srcs : List (Fin 512)) (issue lat : Nat) (d : Fin 512)
    (f : Lane → Word64) : LaneComputes s (s.compute l srcs issue lat d f) l ((s.lane l).startOf srcs) issue lat d (f (s.lane l)) := by
  have e : s.compute l srcs issue lat d f =
      s.setLane l (((s.lane l).took ((s.lane l).startOf srcs) issue d lat).setReg d (f (s.lane l))) := by
    simp [State.compute, h]
  rw [e]
  refine ⟨?_, ?_, ?_, ?_, ?_, ?_, setLane_rest ..⟩
  · rw [lane_setLane_self, reg_setReg_self]
  · intro r hr; rw [lane_setLane_self, reg_setReg_ne _ _ hr, reg_took]
  · intro hd; rw [lane_setLane_self]; simp only [ready_setReg]; exact ready_took_self _ _ _ _ hd
  · intro r hr; rw [lane_setLane_self]; simp only [ready_setReg]; exact ready_took_ne _ _ _ _ hr
  · rw [lane_setLane_self]; unfold Lane.setReg; split <;> rfl
  · intro k hk; exact lane_setLane_ne _ _ hk

/-- On a lane that cannot take an instruction, `State.compute` changes nothing. -/
theorem compute_idle {s : State} {l : Fin 4} (h : (s.lane l).active = false) (srcs : List (Fin 512)) (issue lat : Nat) (d : Fin 512)
    (f : Lane → Word64) : s.compute l srcs issue lat d f = s := by
  simp [State.compute, h]

end Sys2Proof.Machine
end

