-- ==== Sys2Proof/Laws/Memory.lean ====
section
/-! SUPPORT. The laws of sparse data and of the byte memories: every operation keeps the canonical form, a read after a write gives
what was written, a write leaves every other byte alone, and equal memories are equal lists. -/

namespace Sys2Proof.Machine

/-! ### Sparse data -/

theorem assoc_above_get {α : Type} {k q : Nat} {m : Assoc α} (h : Assoc.above k m = true) (hq : q ≤ k) : Assoc.get? m q = none := by
  induction m with
  | nil => rfl
  | cons e r ih =>
    simp only [Assoc.above, List.all_cons, Bool.and_eq_true, decide_eq_true_eq] at h
    unfold Assoc.get?
    rw [if_neg (by omega)]
    exact ih (by simpa [Assoc.above] using h.2)

theorem assoc_above_mono {α : Type} {j k : Nat} {m : Assoc α} (h : Assoc.above k m = true) (hj : j ≤ k) : Assoc.above j m = true := by
  simp only [Assoc.above, List.all_eq_true, decide_eq_true_eq] at h ⊢
  intro e he
  have := h e he
  omega

theorem assoc_above_set {α : Type} {j k : Nat} {m : Assoc α} (v : α) (h : Assoc.above j m = true) (hj : j < k) :
    Assoc.above j (Assoc.set m k v) = true := by
  induction m with
  | nil => simp [Assoc.set, Assoc.above, hj]
  | cons e r ih =>
    simp only [Assoc.above, List.all_cons, Bool.and_eq_true, decide_eq_true_eq] at h
    have hr : Assoc.above j r = true := by simpa [Assoc.above] using h.2
    unfold Assoc.set
    split
    · have := ih hr
      simp only [Assoc.above, List.all_cons, Bool.and_eq_true, decide_eq_true_eq] at this ⊢
      exact ⟨h.1, this⟩
    · split
      · simp only [Assoc.above, List.all_cons, Bool.and_eq_true, decide_eq_true_eq]
        exact ⟨hj, h.2⟩
      · simp only [Assoc.above, List.all_cons, Bool.and_eq_true, decide_eq_true_eq]
        exact ⟨hj, h.1, h.2⟩

theorem assoc_wf_cons {α : Type} {k : Nat} {v : α} {m : Assoc α} : Assoc.wf ((k, v) :: m) = true ↔ Assoc.above k m = true ∧ Assoc.wf m = true := by
  simp [Assoc.wf]

theorem assoc_set_wf {α : Type} {m : Assoc α} (k : Nat) (v : α) (h : Assoc.wf m = true) : Assoc.wf (Assoc.set m k v) = true := by
  induction m with
  | nil => simp [Assoc.set, Assoc.wf, Assoc.above]
  | cons e r ih =>
    obtain ⟨j, w⟩ := e
    rw [assoc_wf_cons] at h
    unfold Assoc.set
    split
    · rename_i hjk
      exact assoc_wf_cons.mpr ⟨assoc_above_set v h.1 hjk, ih h.2⟩
    · split
      · rename_i _ he
        exact assoc_wf_cons.mpr ⟨he ▸ h.1, h.2⟩
      · rename_i h1 h2
        refine assoc_wf_cons.mpr ⟨?_, assoc_wf_cons.mpr h⟩
        have := assoc_above_mono h.1 (show k ≤ j by omega)
        simp only [Assoc.above, List.all_cons, Bool.and_eq_true, decide_eq_true_eq] at this ⊢
        exact ⟨by omega, this⟩

theorem assoc_filter_wf {α : Type} {m : Assoc α} (p : Nat × α → Bool) (h : Assoc.wf m = true) : Assoc.wf (m.filter p) = true := by
  induction m with
  | nil => rfl
  | cons e r ih =>
    obtain ⟨j, w⟩ := e
    rw [assoc_wf_cons] at h
    rw [List.filter_cons]
    split
    · refine assoc_wf_cons.mpr ⟨?_, ih h.2⟩
      have := h.1
      simp only [Assoc.above, List.all_eq_true, decide_eq_true_eq] at this ⊢
      exact fun e he => this e (List.mem_filter.mp he).1
    · exact ih h.2

theorem assoc_erase_wf {α : Type} {m : Assoc α} (k : Nat) (h : Assoc.wf m = true) : Assoc.wf (Assoc.erase m k) = true := assoc_filter_wf _ h

theorem assoc_get_erase_self {α : Type} (m : Assoc α) (k : Nat) : Assoc.get? (Assoc.erase m k) k = none := by
  unfold Assoc.erase
  induction m with
  | nil => rfl
  | cons e r ih =>
    by_cases h : e.1 = k
    · rw [List.filter_cons_of_neg (by simp [h])]
      exact ih
    · rw [List.filter_cons_of_pos (by simp [h]), Assoc.get?, if_neg h]
      exact ih

theorem assoc_get_erase_ne {α : Type} (m : Assoc α) {k q : Nat} (h : q ≠ k) : Assoc.get? (Assoc.erase m k) q = Assoc.get? m q := by
  unfold Assoc.erase
  induction m with
  | nil => rfl
  | cons e r ih =>
    by_cases hk : e.1 = k
    · rw [List.filter_cons_of_neg (by simp [hk]), ih, Assoc.get?, if_neg (by omega)]
    · rw [List.filter_cons_of_pos (by simp [hk]), Assoc.get?, Assoc.get?, ih]

/-- Sparse data in canonical form is determined by what is listed at each key. -/
theorem assoc_ext {α : Type} {m n : Assoc α} (hm : Assoc.wf m = true) (hn : Assoc.wf n = true) (h : ∀ k, Assoc.get? m k = Assoc.get? n k) : m = n := by
  induction m generalizing n with
  | nil =>
    cases n with
    | nil => rfl
    | cons e r =>
      have := h e.1
      simp [Assoc.get?] at this
  | cons e r ih =>
    obtain ⟨j, v⟩ := e
    rw [assoc_wf_cons] at hm
    cases n with
    | nil =>
      have := h j
      simp [Assoc.get?] at this
    | cons f q =>
      obtain ⟨i, w⟩ := f
      rw [assoc_wf_cons] at hn
      have hij : i = j := by
        refine Classical.byContradiction fun hne => ?_
        have h1 := h j
        have h2 := h i
        rw [Assoc.get?, if_pos rfl, Assoc.get?, if_neg hne] at h1
        rw [Assoc.get?, if_neg (by omega), Assoc.get?, if_pos rfl] at h2
        by_cases hlt : j ≤ i
        · rw [assoc_above_get hn.1 hlt] at h1
          exact absurd h1 (by simp)
        · rw [assoc_above_get hm.1 (by omega)] at h2
          exact absurd h2 (by simp)
      subst hij
      have hv := h i
      rw [Assoc.get?, if_pos rfl, Assoc.get?, if_pos rfl] at hv
      have hr : r = q := by
        refine ih hm.2 hn.2 fun k => ?_
        by_cases hk : i = k
        · subst hk
          rw [assoc_above_get hm.1 (Nat.le_refl _), assoc_above_get hn.1 (Nat.le_refl _)]
        · have := h k
          rwa [Assoc.get?, if_neg hk, Assoc.get?, if_neg hk] at this
      rw [hr, Option.some.inj hv]

/-! ### Byte memories -/

theorem mem_wf_nil : Mem.wf [] = true := rfl

theorem mem_get_nil (a : Nat) : Mem.get [] a = 0 := rfl

theorem mem_all_set {m : Mem} {a : Nat} {b : Byte} (hb : b ≠ 0) (h : (m.all fun c => c.2 != 0) = true) :
    ((Assoc.set m a b).all fun c => c.2 != 0) = true := by
  induction m with
  | nil => simpa [Assoc.set] using hb
  | cons e r ih =>
    obtain ⟨j, w⟩ := e
    simp only [List.all_cons, Bool.and_eq_true] at h
    unfold Assoc.set
    split
    · simp only [List.all_cons, Bool.and_eq_true]
      exact ⟨h.1, ih h.2⟩
    · split <;> simp only [List.all_cons, Bool.and_eq_true]
      · exact ⟨by simpa using hb, h.2⟩
      · exact ⟨by simpa using hb, h.1, h.2⟩

theorem mem_all_filter {m : Mem} (p : Host.Cell → Bool) (h : (m.all fun c => c.2 != 0) = true) : ((m.filter p).all fun c => c.2 != 0) = true := by
  rw [List.all_eq_true] at h ⊢
  exact fun e he => h e (List.mem_filter.mp he).1

theorem mem_put_wf {m : Mem} (a : Nat) (b : Byte) (h : Mem.wf m = true) : Mem.wf (Mem.put m a b) = true := by
  simp only [Mem.wf, Bool.and_eq_true] at h ⊢
  unfold Mem.put
  split
  · exact ⟨assoc_erase_wf a h.1, mem_all_filter _ h.2⟩
  · rename_i hb
    exact ⟨assoc_set_wf a b h.1, mem_all_set hb h.2⟩

theorem mem_write_wf {m : Mem} (a : Nat) (bs : Bytes) (h : Mem.wf m = true) : Mem.wf (Mem.write m a bs) = true := by
  induction bs generalizing m a with
  | nil => exact h
  | cons b bs ih => exact ih (a + 1) (mem_put_wf a b h)

theorem mem_filter_wf {m : Mem} (p : Host.Cell → Bool) (h : Mem.wf m = true) : Mem.wf (m.filter p) = true := by
  simp only [Mem.wf, Bool.and_eq_true] at h ⊢
  exact ⟨assoc_filter_wf p h.1, mem_all_filter p h.2⟩

theorem mem_clear_wf {m : Mem} (a n : Nat) (h : Mem.wf m = true) : Mem.wf (Mem.clear m a n) = true := mem_filter_wf _ h

theorem mem_get_put_ne (m : Mem) {a q : Nat} (b : Byte) (h : q ≠ a) : Mem.get (Mem.put m a b) q = Mem.get m q := by
  unfold Mem.get Assoc.getD Mem.put
  split
  · rw [assoc_get_erase_ne m h]
  · rw [assoc_get_set_ne m b h]

theorem mem_get_put_self (m : Mem) (a : Nat) (b : Byte) : Mem.get (Mem.put m a b) a = b := by
  unfold Mem.get Assoc.getD Mem.put
  split
  · rename_i hb
    rw [assoc_get_erase_self m a, hb]
    rfl
  · rw [assoc_get_set_self]
    rfl

/-- A write leaves every byte outside it alone. -/
theorem mem_get_write_ne (m : Mem) {a q : Nat} (bs : Bytes) (h : q < a ∨ a + bs.length ≤ q) : Mem.get (Mem.write m a bs) q = Mem.get m q := by
  induction bs generalizing m a with
  | nil => rfl
  | cons b bs ih =>
    rw [List.length_cons] at h
    rw [Mem.write, ih _ (by omega), mem_get_put_ne m b (by omega)]

/-- A byte inside a write reads as what was written. -/
theorem mem_get_write_self (m : Mem) {a i : Nat} {bs : Bytes} (hi : i < bs.length) :
    Mem.get (Mem.write m a bs) (a + i) = bs[i] := by
  induction bs generalizing m a i with
  | nil => exact absurd hi (by simp)
  | cons b bs ih =>
    rw [Mem.write]
    cases i with
    | zero =>
      rw [mem_get_write_ne _ _ (by omega)]
      exact mem_get_put_self m a b
    | succ i =>
      rw [List.length_cons] at hi
      have := ih (Mem.put m a b) (a := a + 1) (i := i) (by omega)
      rw [show a + (i + 1) = a + 1 + i by omega, this, List.getElem_cons_succ]

theorem mem_read_congr {m n : Mem} {a k : Nat} (h : ∀ i < k, Mem.get m (a + i) = Mem.get n (a + i)) : Mem.read m a k = Mem.read n a k := by
  induction k generalizing a with
  | zero => rfl
  | succ k ih =>
    rw [Mem.read, Mem.read, ih fun i hi => ?_]
    · have := h 0 (by omega)
      rw [Nat.add_zero] at this
      rw [this]
    · have := h (i + 1) (by omega)
      rwa [show a + (i + 1) = a + 1 + i by omega] at this

theorem mem_read_length (m : Mem) (a n : Nat) : (Mem.read m a n).length = n := by
  induction n generalizing a with
  | zero => rfl
  | succ n ih => rw [Mem.read, List.length_cons, ih]

theorem mem_read_write_ne (m : Mem) {a q n : Nat} (bs : Bytes) (h : q + n ≤ a ∨ a + bs.length ≤ q) :
    Mem.read (Mem.write m a bs) q n = Mem.read m q n :=
  mem_read_congr fun i hi => mem_get_write_ne m bs (by omega)

/-- A read after a write of the same bytes gives what was written. -/
theorem mem_read_write_self (m : Mem) (a : Nat) (bs : Bytes) : Mem.read (Mem.write m a bs) a bs.length = bs := by
  induction bs generalizing m a with
  | nil => rfl
  | cons b bs ih =>
    rw [List.length_cons, Mem.read, Mem.write, mem_get_write_ne _ bs (by omega), mem_get_put_self m a b, ih (Mem.put m a b) (a + 1)]

/-- Memories in canonical form that read alike are equal. -/
theorem mem_ext {m n : Mem} (hm : Mem.wf m = true) (hn : Mem.wf n = true) (h : ∀ a, Mem.get m a = Mem.get n a) : m = n := by
  simp only [Mem.wf, Bool.and_eq_true, List.all_eq_true] at hm hn
  have zero : ∀ {m : Mem}, (∀ c ∈ m, (c.2 != 0) = true) → ∀ k, Assoc.get? m k ≠ some 0 := by
    intro m
    induction m with
    | nil => exact fun _ _ hk => absurd hk (by simp [Assoc.get?])
    | cons e r ih =>
      intro h k hk
      rw [Assoc.get?] at hk
      split at hk
      · have := h e (by simp)
        rw [Option.some.inj hk] at this
        exact absurd this (by simp)
      · exact ih (fun c hc => h c (by simp [hc])) k hk
  refine assoc_ext hm.1 hn.1 fun k => ?_
  have hk := h k
  have h1 := zero hm.2 k
  have h2 := zero hn.2 k
  unfold Mem.get Assoc.getD at hk
  cases h3 : Assoc.get? m k <;> cases h4 : Assoc.get? n k <;> rw [h3] at hk h1 <;> rw [h4] at hk h2
  · exact absurd (congrArg some hk.symm) h2
  · exact absurd (congrArg some hk) h1
  · exact congrArg some hk

theorem reset_memOk : State.reset.MemOk := ⟨rfl, rfl, rfl⟩

/-! ### The Store -/

theorem memOk_of {s t : State} (h : s.MemOk) (h1 : t.store = s.store) (h2 : t.dram = s.dram) (h3 : t.window = s.window) : t.MemOk :=
  ⟨h1 ▸ h.store, h2 ▸ h.dram, h3 ▸ h.window⟩

theorem storePut_memOk {s : State} (a : Nat) (bs : Bytes) (h : s.MemOk) : (s.storePut a bs).MemOk :=
  ⟨mem_write_wf a bs h.store, h.dram, h.window⟩

end Sys2Proof.Machine
end

