-- ==== Sys2Proof/WellFormed.lean ====
section
/-! DEFINITION. Well-formed commands: operands that a packet, a frame, a write or a measurement of the manual can carry. The
types of the operands bound most of them; what stands here is the rest. `exec` is total and does not ask for it. -/

namespace Sys2Proof

/-- A MAC address: 48 bits. -/
def macOk (mac : Option Nat) : Bool := mac.all fun m => decide (m < 2 ^ 48)

/-- A conduit key slot: 0 to 15 (R77). -/
def slotOk (auth : Option Nat) : Bool := auth.all fun k => decide (k < 16)

/-- ENCRYPT only with AUTH (step 6 of Table 3-4). -/
def authOk (auth : Option Nat) (encrypt : Bool) : Bool := !encrypt || auth.isSome

/-- The sender of a request: 16-bit node identities, SEQUENCE and port, a 32-bit address, and a key slot with ENCRYPT only under
AUTH (Table 3-2, R77). -/
def reqOk (r : Req) : Bool :=
  decide (r.source < 2 ^ 16) && decide (r.seq < 2 ^ 16) && decide (r.dest < 2 ^ 16) && decide (r.port < 2 ^ 16) &&
    decide (r.ip < 2 ^ 32) && decide (r.toIp < 2 ^ 32) && slotOk r.auth && authOk r.auth r.encrypt

/-- An item of a WRITE or WRITE_MULTI has a 16-bit length (R82). -/
def itemOk (value : List Byte) : Bool := decide (value.length < 2 ^ 16)

/-- READ_MULTI and WRITE_MULTI carry 1 to 64 items; any other count is malformed (R82). -/
def countOk (n : Nat) : Bool := decide (1 ≤ n) && decide (n ≤ 64)

/-- The payload area holds at most 8,960 bytes (R71). -/
def payloadOk (data : List Byte) : Bool := decide (data.length ≤ 8960)

/-- A received frame holds less than 64 KiB. -/
def frameOk (wire : List Byte) : Bool := decide (wire.length < 2 ^ 16)

/-- The same of a barrier frame whose bytes are given. -/
def wireOk (wire : Option (List Byte)) : Bool := wire.all frameOk

/-- A VLAN ID has 12 bits. -/
def vlanOk (vlan : Option Nat) : Bool := vlan.all fun v => decide (v < 2 ^ 12)

/-- A frame's source and redundancy control trailer (R287), and its instant in the tick (R4). -/
def netRxOk (rx : NetRx) : Bool :=
  decide (rx.mac < 2 ^ 48) && decide (rx.ns < 250000) && (rx.rct.all fun t => decide (t.1 < 16) && decide (t.2 < 2 ^ 16)) && vlanOk rx.vlan

/-- The same of an ARP or ICMP frame of either origin. -/
def ipOriginOk : IpOrigin → Bool
  | .net rx => netRxOk rx
  | .usb mac ns => decide (mac < 2 ^ 48) && decide (ns < 250000)

/-- A datagram: the widths of its IPv4 and UDP fields (Table 3-1). -/
def datagramOk (d : Datagram) : Bool :=
  netRxOk d.rx && frameOk d.data && decide (d.srcIp < 2 ^ 32) && decide (d.dstIp < 2 ^ 32) && decide (d.srcPort < 2 ^ 16) &&
    decide (d.dstPort < 2 ^ 16) && decide (d.checksum < 2 ^ 16)

/-- The rates that a port can negotiate (chapter 20, network ports). -/
def rateOk (rate : Nat) : Bool := decide (rate = 100) || decide (rate = 1000) || decide (rate = 2500)

/-- A CAN data field holds at most 64 bytes (Table 11-1). -/
def canDataOk (f : CanFrame) : Bool := decide (f.data.length ≤ 64)

/-- The same of what a channel receives, and of what wakes a sleeping one. -/
def canRxOk : CanRx → Bool
  | .frame f => canDataOk f
  | .remote => true
  | .protocolException => true
  | .error _ _ => true
  | .flagError => true

def canWakeOk : CanWakeEvent → Bool
  | .frame f => canDataOk f
  | .dominant => true
  | .decodeError => true

/-- A measurement holds as many currents as the channels it measures; group C, and a group's absent half, measure none. -/
def measureOk (m : FieldMeasure) : Bool :=
  [m.doCurrent.length, m.diCurrent.length, m.vsCurrent.length, m.aiRaw.length, m.aoCurrent.length, m.aoSupply.length].zip
    [24, 48, 4, 8, 8, 8] |>.all fun p => decide (p.1 = 0) || decide (p.1 = p.2)

/-- The words of the full scan have 32 bits (R134). -/
def canaryOk (m : CanaryMeasure) : Bool := m.scan.all fun w => decide (w.found < 2 ^ 32)

/-- A digest has 32 bytes (R398). -/
def islandCheckOk : IslandCheck → Bool
  | .setDigest found => decide (found.length = 32)
  | _ => true

/-- Backup RAM holds 184 bytes of records, and a copy of the option record 2,048 (Tables 15-6 and 15-8). -/
def exitOk (f : ExitFacts) : Bool :=
  (f.backup.all fun e => decide (e.1.toNat < 184)) && (f.optionA.all fun b => decide (b.length = 2048)) && f.optionB.all fun b => decide (b.length = 2048)

/-- A recovery frame holds 1 to 4,096 bytes (R506). -/
def recoveryOk (data : List Byte) : Bool := decide (1 ≤ data.length) && decide (data.length ≤ 4096)

/-- A drawn frame fills the panel: 152 rows of 74 bytes (R484). -/
def panelOk (drawn : List Byte) : Bool := decide (drawn.length = 11248)

/-- Every operand of a command is one that the manual's event or instruction can carry. -/
def wellFormed : Instr → Bool
  | .logicSupplyRise => true
  | .logicSupplyLoss _ => true
  | .feedLoss => true
  | .resetPinAssert _ => true
  | .resetPinRelease => true
  | .watchdogExpiry _ => true
  | .debugReset _ _ _ => true
  | .sourceTakesHold _ _ => true
  | .internalSourceRelease _ => true
  | .episodeClose f => exitOk f
  | .bootComplete _ => true
  | .holdEntered _ => true
  | .overtemp => true
  | .wake _ _ => true
  | .load req => reqOk req
  | .unload req => reqOk req
  | .start req => reqOk req
  | .stop req => reqOk req
  | .handover req => reqOk req
  | .layup req => reqOk req
  | .automaticStart => true
  | .startBoundary => true
  | .stopBoundary => true
  | .handoverBoundary => true
  | .profileWrite req _ => reqOk req
  | .profileChange => true
  | .resetRequest req _ => reqOk req
  | .restoreCommand req _ => reqOk req
  | .restoreDone => true
  | .resetCauseClear req _ => reqOk req
  | .objectWrite req _ value => reqOk req && itemOk value
  | .clpPacketReceive d => datagramOk d
  | .identify req => reqOk req
  | .read req _ => reqOk req
  | .write req _ value => reqOk req && itemOk value
  | .readMulti req addrs => reqOk req && countOk addrs.length
  | .writeMulti req items => reqOk req && countOk items.length && items.all fun p => itemOk p.2
  | .domainWriteBegin req _ _ _ => reqOk req
  | .domainWriteSegment req _ _ data => reqOk req && payloadOk data
  | .domainWriteEnd req _ => reqOk req
  | .domainReadBegin req _ => reqOk req
  | .domainReadSegment req _ _ _ => reqOk req
  | .domainAbort req _ => reqOk req
  | .domainStatus req _ => reqOk req
  | .transferExpiry _ => true
  | .sequenceRecordExpiry _ => true
  | .pd _ ip auth encrypt _ payload => decide (ip < 2 ^ 32) && slotOk auth && authOk auth encrypt && payloadOk payload
  | .pdTransmit _ => true
  | .subscribe req _ _ _ _ => reqOk req
  | .unsubscribe req _ => reqOk req
  | .event _ => true
  | .eventResend _ => true
  | .eventAck req _ _ => reqOk req
  | .subscriptionLapse _ => true
  | .reset req _ => reqOk req
  | .arpRequest rx senderIp targetIp => ipOriginOk rx && decide (senderIp < 2 ^ 32) && decide (targetIp < 2 ^ 32)
  | .arpRefresh ip mac => decide (ip < 2 ^ 32) && macOk mac
  | .icmpEcho rx srcIp dstIp data => ipOriginOk rx && decide (srcIp < 2 ^ 32) && decide (dstIp < 2 ^ 32) && frameOk data
  | .igmpQuery rx => netRxOk rx
  | .portLinkUp _ rate => rateOk rate
  | .pathLost _ cause => decide (1 ≤ cause.val)
  | .pathRestored _ => true
  | .prpSupervision => true
  | .tickEdge => true
  | .sourceStale _ => true
  | .shelveExpiry _ => true
  | .gapWeft => true
  | .executionStart => true
  | .laneNop _ => true
  | .laneEnd _ => true
  | .laneWait _ _ _ => true
  | .waitRelease _ => true
  | .laneWeft _ _ _ => true
  | .laneCommit _ _ => true
  | .laneShut _ _ _ _ _ => true
  | .laneTrom _ _ _ _ => true
  | .laneDmai _ _ _ => true
  | .laneConstl _ _ _ => true
  | .laneConsth _ _ _ => true
  | .laneMov _ _ _ => true
  | .laneAddi _ _ _ _ => true
  | .laneExt _ _ _ _ _ => true
  | .laneIns _ _ _ _ _ => true
  | .laneAdd32 _ _ _ _ => true
  | .laneSub32 _ _ _ _ => true
  | .laneMul32 _ _ _ _ => true
  | .laneDivs32 _ _ _ _ => true
  | .laneDivu32 _ _ _ _ => true
  | .laneAdd64 _ _ _ _ => true
  | .laneSub64 _ _ _ _ => true
  | .laneMul64 _ _ _ _ => true
  | .laneDivs64 _ _ _ _ => true
  | .laneDivu64 _ _ _ _ => true
  | .laneAnd _ _ _ _ => true
  | .laneOr _ _ _ _ => true
  | .laneXor _ _ _ _ => true
  | .laneNot _ _ _ => true
  | .laneShl _ _ _ _ => true
  | .laneShr _ _ _ _ => true
  | .laneSar _ _ _ _ => true
  | .laneMins _ _ _ _ => true
  | .laneMaxs _ _ _ _ => true
  | .laneSx8 _ _ _ => true
  | .laneSx16 _ _ _ => true
  | .laneSx32 _ _ _ => true
  | .laneCeq _ _ _ _ => true
  | .laneCne _ _ _ _ => true
  | .laneClts _ _ _ _ => true
  | .laneCltu _ _ _ _ => true
  | .laneCles _ _ _ _ => true
  | .laneCleu _ _ _ _ => true
  | .laneFceq32 _ _ _ _ => true
  | .laneFclt32 _ _ _ _ => true
  | .laneFcle32 _ _ _ _ => true
  | .laneFcun32 _ _ _ _ => true
  | .laneFceq64 _ _ _ _ => true
  | .laneFclt64 _ _ _ _ => true
  | .laneFcle64 _ _ _ _ => true
  | .laneFcun64 _ _ _ _ => true
  | .laneSel _ _ _ _ _ => true
  | .laneBsel _ _ _ _ _ => true
  | .laneFadd32 _ _ _ _ => true
  | .laneFsub32 _ _ _ _ => true
  | .laneFmul32 _ _ _ _ => true
  | .laneFdiv32 _ _ _ _ => true
  | .laneFsqrt32 _ _ _ => true
  | .laneFmin32 _ _ _ _ => true
  | .laneFmax32 _ _ _ _ => true
  | .laneFabs32 _ _ _ => true
  | .laneFneg32 _ _ _ => true
  | .laneCvtf32i32 _ _ _ => true
  | .laneCvti32f32 _ _ _ => true
  | .laneCvtf64f32 _ _ _ => true
  | .laneCvtf32f64 _ _ _ => true
  | .laneFadd64 _ _ _ _ => true
  | .laneFsub64 _ _ _ _ => true
  | .laneFmul64 _ _ _ _ => true
  | .laneFdiv64 _ _ _ _ => true
  | .laneFsqrt64 _ _ _ => true
  | .laneFmin64 _ _ _ _ => true
  | .laneFmax64 _ _ _ _ => true
  | .laneFabs64 _ _ _ => true
  | .laneFneg64 _ _ _ => true
  | .laneCvtf64i64 _ _ _ => true
  | .laneCvti64f64 _ _ _ => true
  | .laneScl32 _ _ _ _ => true
  | .laneClamp32 _ _ _ _ => true
  | .laneFilt32 _ _ _ _ => true
  | .laneRamp32 _ _ _ _ => true
  | .laneLd8 _ _ _ _ => true
  | .laneLd16 _ _ _ _ => true
  | .laneLd32 _ _ _ _ => true
  | .laneLd64 _ _ _ _ => true
  | .laneSt8 _ _ _ _ => true
  | .laneSt16 _ _ _ _ => true
  | .laneSt32 _ _ _ _ => true
  | .laneSt64 _ _ _ _ => true
  | .laneLdw _ _ _ _ => true
  | .laneStw _ _ _ _ => true
  | .laneLdp _ _ _ _ => true
  | .laneStp _ _ _ _ => true
  | .loopEvaluation _ _ => true
  | .loopLost _ => true
  | .loopFrozen _ => true
  | .testModeWrite req _ _ => reqOk req
  | .testComplete _ => true
  | .pointScreen => true
  | .alarmDelayExpiry _ _ => true
  | .dmaListStart _ _ => true
  | .dmaListComplete _ => true
  | .dmaResponseError _ _ _ => true
  | .deviceRequest _ _ _ => true
  | .lockstepMismatch _ _ _ => true
  | .reExecution => true
  | .outputStaging => true
  | .barrierFrameSend _ _ _ => true
  | .barrierFrameReceive _ _ _ wire => wireOk wire
  | .fieldEdgeApply _ m => measureOk m
  | .silenceTimeout _ => true
  | .guard => true
  | .canaryTickCheck m => canaryOk m
  | .seamGuardCheck => true
  | .seamDecision => true
  | .takeover => true
  | .aoHoldEnd => true
  | .fenceIn => true
  | .partnerPresentChange _ => true
  | .presenceFrameSend => true
  | .presenceFrameReceive rx payload => netRxOk rx && frameOk payload
  | .seamUp => true
  | .seamRetrain => true
  | .hello wire => frameOk wire
  | .weftFrame frame _ tag => frameOk (frame ++ tag)
  | .stateFrame wire => frameOk wire
  | .closeFrameReceive wire => frameOk wire
  | .dictFrame wire => frameOk wire
  | .bankFrame wire => frameOk wire
  | .resyncFrame wire => frameOk wire
  | .persistFrame wire => frameOk wire
  | .ackFrame wire => frameOk wire
  | .activateBankWrite req _ => reqOk req
  | .activateCancelWrite req _ => reqOk req
  | .activationStaging _ => true
  | .activationDecision => true
  | .activation => true
  | .activationRestart => true
  | .warpVerified _ => true
  | .sync _ _ => true
  | .followUp _ _ => true
  | .delayResp _ _ => true
  | .pdelayReq _ _ _ => true
  | .pdelayResp _ _ => true
  | .pdelayRespFollowUp _ _ => true
  | .announce _ _ => true
  | .announceTimeout _ => true
  | .ptpTransmit _ _ _ => true
  | .delayReq _ _ => true
  | .holdoverEntry => true
  | .timePortSwitch => true
  | .timeStepped => true
  | .rtcUpdate => true
  | .reStepPermitWrite req _ => reqOk req
  | .timeSetWrite req value => reqOk req && itemOk value
  | .ppsInEdge _ => true
  | .ppsOutEnd => true
  | .canFrameReceive _ rx => canRxOk rx
  | .canFrameTransmitted _ _ _ => true
  | .canBusOff _ => true
  | .canBusOn _ => true
  | .recoverWrite req _ _ => reqOk req
  | .canRxBufferRead _ _ _ => true
  | .lockExpiry _ _ => true
  | .detectStart req _ => reqOk req
  | .detectStop req _ => reqOk req
  | .detectTimeout _ _ => true
  | .canWake _ seen => canWakeOk seen.event
  | .diBandChange _ _ _ _ => true
  | .outputOverload _ => true
  | .overloadRetry _ => true
  | .fieldSupplyWarning _ _ => true
  | .fieldSupplyTrip _ => true
  | .supplyRestoring _ _ => true
  | .fieldSupplyRestored _ => true
  | .fieldSideStop _ => true
  | .aoCompliance _ _ => true
  | .aoOpen _ _ => true
  | .aoRestored _ _ _ => true
  | .aoThermal _ _ => true
  | .aoThermalClear _ => true
  | .analogEnvelope _ _ _ => true
  | .hartSearch _ => true
  | .hartPoll _ => true
  | .hartResponse _ reply => decide (reply.data.length ≤ 255)
  | .hartTransactionFailure _ => true
  | .hartRequestWrite req _ payload => reqOk req && itemOk payload
  | .islandScan currents => decide (currents.length = 4)
  | .tpFrame inputs readback => decide (inputs.length = 8) && decide (readback.length = 4)
  | .inputFilterExpiry _ _ _ => true
  | .discrepancy _ => true
  | .onDelayExpiry _ => true
  | .tripDelayExpiry _ => true
  | .switchOnCheck _ _ _ => true
  | .darkTest _ _ _ => true
  | .safetyOutputFault _ _ => true
  | .canaryIslandFault check => islandCheckOk check
  | .islandReset => true
  | .islandSelfTestDone => true
  | .safetySetVerified => true
  | .safetySetConfirmWrite req _ => reqOk req
  | .proofTestDue => true
  | .clockMonitorTrip _ => true
  | .clkIrcFailed => true
  | .ircJudgementWindow _ => true
  | .pllLock _ => true
  | .clkMuxHang _ => true
  | .trimWindow _ _ _ => true
  | .trimStore => true
  | .scrubPass _ _ _ => true
  | .tallyWrite _ params => decide (params.length ≤ 4)
  | .operatingMinute => true
  | .tallySelectWrite req _ => reqOk req
  | .faceplatePageWrite req _ => reqOk req
  | .pageTimeout => true
  | .faceplateRequest _ => true
  | .updateStart drawn => panelOk drawn.content
  | .updatePhase => true
  | .warpKeyWrite req _ key _ => reqOk req && itemOk key
  | .safetySetKeyWrite req _ key _ => reqOk req && itemOk key
  | .revokeKeyWrite req _ => reqOk req
  | .conduitKeyWrite req _ key => reqOk req && itemOk key
  | .seamKeyWrite req _ key => reqOk req && itemOk key
  | .firmwareVerified _ => true
  | .commitSecurityVersionWrite req _ => reqOk req
  | .debugLockWrite req _ => reqOk req
  | .recoveryFrame _ _ data => recoveryOk data
  | .recoveryLoaded => true
  | .seamLinkDown => true
  | .fieldSideRestart _ => true
  | .fenceInRelease => true
  | .dramScrubPass _ _ _ => true

end Sys2Proof
end

