-- ==== Sys2Proof/Laws/PerInstr.lean ====
section
/-! SUPPORT. What well-formedness says of a command's sender, one lemma per constructor of `Instr`. -/

namespace Sys2Proof.Laws.Operands

/-- The request that a command executes, for the commands that are requests. -/
def request : Instr → Option Req
  | .logicSupplyRise => none
  | .logicSupplyLoss _ => none
  | .feedLoss => none
  | .resetPinAssert _ => none
  | .resetPinRelease => none
  | .watchdogExpiry _ => none
  | .debugReset _ _ _ => none
  | .sourceTakesHold _ _ => none
  | .internalSourceRelease _ => none
  | .episodeClose _ => none
  | .bootComplete _ => none
  | .holdEntered _ => none
  | .overtemp => none
  | .wake _ _ => none
  | .load req => some req
  | .unload req => some req
  | .start req => some req
  | .stop req => some req
  | .handover req => some req
  | .layup req => some req
  | .automaticStart => none
  | .startBoundary => none
  | .stopBoundary => none
  | .handoverBoundary => none
  | .profileWrite req _ => some req
  | .profileChange => none
  | .resetRequest req _ => some req
  | .restoreCommand req _ => some req
  | .restoreDone => none
  | .resetCauseClear req _ => some req
  | .objectWrite req _ _ => some req
  | .clpPacketReceive _ => none
  | .identify req => some req
  | .read req _ => some req
  | .write req _ _ => some req
  | .readMulti req _ => some req
  | .writeMulti req _ => some req
  | .domainWriteBegin req _ _ _ => some req
  | .domainWriteSegment req _ _ _ => some req
  | .domainWriteEnd req _ => some req
  | .domainReadBegin req _ => some req
  | .domainReadSegment req _ _ _ => some req
  | .domainAbort req _ => some req
  | .domainStatus req _ => some req
  | .transferExpiry _ => none
  | .sequenceRecordExpiry _ => none
  | .pd _ _ _ _ _ _ => none
  | .pdTransmit _ => none
  | .subscribe req _ _ _ _ => some req
  | .unsubscribe req _ => some req
  | .event _ => none
  | .eventResend _ => none
  | .eventAck req _ _ => some req
  | .subscriptionLapse _ => none
  | .reset req _ => some req
  | .arpRequest _ _ _ => none
  | .arpRefresh _ _ => none
  | .icmpEcho _ _ _ _ => none
  | .igmpQuery _ => none
  | .portLinkUp _ _ => none
  | .pathLost _ _ => none
  | .pathRestored _ => none
  | .prpSupervision => none
  | .tickEdge => none
  | .sourceStale _ => none
  | .shelveExpiry _ => none
  | .gapWeft => none
  | .executionStart => none
  | .laneNop _ => none
  | .laneEnd _ => none
  | .laneWait _ _ _ => none
  | .waitRelease _ => none
  | .laneWeft _ _ _ => none
  | .laneCommit _ _ => none
  | .laneShut _ _ _ _ _ => none
  | .laneTrom _ _ _ _ => none
  | .laneDmai _ _ _ => none
  | .laneConstl _ _ _ => none
  | .laneConsth _ _ _ => none
  | .laneMov _ _ _ => none
  | .laneAddi _ _ _ _ => none
  | .laneExt _ _ _ _ _ => none
  | .laneIns _ _ _ _ _ => none
  | .laneAdd32 _ _ _ _ => none
  | .laneSub32 _ _ _ _ => none
  | .laneMul32 _ _ _ _ => none
  | .laneDivs32 _ _ _ _ => none
  | .laneDivu32 _ _ _ _ => none
  | .laneAdd64 _ _ _ _ => none
  | .laneSub64 _ _ _ _ => none
  | .laneMul64 _ _ _ _ => none
  | .laneDivs64 _ _ _ _ => none
  | .laneDivu64 _ _ _ _ => none
  | .laneAnd _ _ _ _ => none
  | .laneOr _ _ _ _ => none
  | .laneXor _ _ _ _ => none
  | .laneNot _ _ _ => none
  | .laneShl _ _ _ _ => none
  | .laneShr _ _ _ _ => none
  | .laneSar _ _ _ _ => none
  | .laneMins _ _ _ _ => none
  | .laneMaxs _ _ _ _ => none
  | .laneSx8 _ _ _ => none
  | .laneSx16 _ _ _ => none
  | .laneSx32 _ _ _ => none
  | .laneCeq _ _ _ _ => none
  | .laneCne _ _ _ _ => none
  | .laneClts _ _ _ _ => none
  | .laneCltu _ _ _ _ => none
  | .laneCles _ _ _ _ => none
  | .laneCleu _ _ _ _ => none
  | .laneFceq32 _ _ _ _ => none
  | .laneFclt32 _ _ _ _ => none
  | .laneFcle32 _ _ _ _ => none
  | .laneFcun32 _ _ _ _ => none
  | .laneFceq64 _ _ _ _ => none
  | .laneFclt64 _ _ _ _ => none
  | .laneFcle64 _ _ _ _ => none
  | .laneFcun64 _ _ _ _ => none
  | .laneSel _ _ _ _ _ => none
  | .laneBsel _ _ _ _ _ => none
  | .laneFadd32 _ _ _ _ => none
  | .laneFsub32 _ _ _ _ => none
  | .laneFmul32 _ _ _ _ => none
  | .laneFdiv32 _ _ _ _ => none
  | .laneFsqrt32 _ _ _ => none
  | .laneFmin32 _ _ _ _ => none
  | .laneFmax32 _ _ _ _ => none
  | .laneFabs32 _ _ _ => none
  | .laneFneg32 _ _ _ => none
  | .laneCvtf32i32 _ _ _ => none
  | .laneCvti32f32 _ _ _ => none
  | .laneCvtf64f32 _ _ _ => none
  | .laneCvtf32f64 _ _ _ => none
  | .laneFadd64 _ _ _ _ => none
  | .laneFsub64 _ _ _ _ => none
  | .laneFmul64 _ _ _ _ => none
  | .laneFdiv64 _ _ _ _ => none
  | .laneFsqrt64 _ _ _ => none
  | .laneFmin64 _ _ _ _ => none
  | .laneFmax64 _ _ _ _ => none
  | .laneFabs64 _ _ _ => none
  | .laneFneg64 _ _ _ => none
  | .laneCvtf64i64 _ _ _ => none
  | .laneCvti64f64 _ _ _ => none
  | .laneScl32 _ _ _ _ => none
  | .laneClamp32 _ _ _ _ => none
  | .laneFilt32 _ _ _ _ => none
  | .laneRamp32 _ _ _ _ => none
  | .laneLd8 _ _ _ _ => none
  | .laneLd16 _ _ _ _ => none
  | .laneLd32 _ _ _ _ => none
  | .laneLd64 _ _ _ _ => none
  | .laneSt8 _ _ _ _ => none
  | .laneSt16 _ _ _ _ => none
  | .laneSt32 _ _ _ _ => none
  | .laneSt64 _ _ _ _ => none
  | .laneLdw _ _ _ _ => none
  | .laneStw _ _ _ _ => none
  | .laneLdp _ _ _ _ => none
  | .laneStp _ _ _ _ => none
  | .loopEvaluation _ _ => none
  | .loopLost _ => none
  | .loopFrozen _ => none
  | .testModeWrite req _ _ => some req
  | .testComplete _ => none
  | .pointScreen => none
  | .alarmDelayExpiry _ _ => none
  | .dmaListStart _ _ => none
  | .dmaListComplete _ => none
  | .dmaResponseError _ _ _ => none
  | .deviceRequest _ _ _ => none
  | .lockstepMismatch _ _ _ => none
  | .reExecution => none
  | .outputStaging => none
  | .barrierFrameSend _ _ _ => none
  | .barrierFrameReceive _ _ _ _ => none
  | .fieldEdgeApply _ _ => none
  | .silenceTimeout _ => none
  | .guard => none
  | .canaryTickCheck _ => none
  | .seamGuardCheck => none
  | .seamDecision => none
  | .takeover => none
  | .aoHoldEnd => none
  | .fenceIn => none
  | .partnerPresentChange _ => none
  | .presenceFrameSend => none
  | .presenceFrameReceive _ _ => none
  | .seamUp => none
  | .seamRetrain => none
  | .hello _ => none
  | .weftFrame _ _ _ => none
  | .stateFrame _ => none
  | .closeFrameReceive _ => none
  | .dictFrame _ => none
  | .bankFrame _ => none
  | .resyncFrame _ => none
  | .persistFrame _ => none
  | .ackFrame _ => none
  | .activateBankWrite req _ => some req
  | .activateCancelWrite req _ => some req
  | .activationStaging _ => none
  | .activationDecision => none
  | .activation => none
  | .activationRestart => none
  | .warpVerified _ => none
  | .sync _ _ => none
  | .followUp _ _ => none
  | .delayResp _ _ => none
  | .pdelayReq _ _ _ => none
  | .pdelayResp _ _ => none
  | .pdelayRespFollowUp _ _ => none
  | .announce _ _ => none
  | .announceTimeout _ => none
  | .ptpTransmit _ _ _ => none
  | .delayReq _ _ => none
  | .holdoverEntry => none
  | .timePortSwitch => none
  | .timeStepped => none
  | .rtcUpdate => none
  | .reStepPermitWrite req _ => some req
  | .timeSetWrite req _ => some req
  | .ppsInEdge _ => none
  | .ppsOutEnd => none
  | .canFrameReceive _ _ => none
  | .canFrameTransmitted _ _ _ => none
  | .canBusOff _ => none
  | .canBusOn _ => none
  | .recoverWrite req _ _ => some req
  | .canRxBufferRead _ _ _ => none
  | .lockExpiry _ _ => none
  | .detectStart req _ => some req
  | .detectStop req _ => some req
  | .detectTimeout _ _ => none
  | .canWake _ _ => none
  | .diBandChange _ _ _ _ => none
  | .outputOverload _ => none
  | .overloadRetry _ => none
  | .fieldSupplyWarning _ _ => none
  | .fieldSupplyTrip _ => none
  | .supplyRestoring _ _ => none
  | .fieldSupplyRestored _ => none
  | .fieldSideStop _ => none
  | .aoCompliance _ _ => none
  | .aoOpen _ _ => none
  | .aoRestored _ _ _ => none
  | .aoThermal _ _ => none
  | .aoThermalClear _ => none
  | .analogEnvelope _ _ _ => none
  | .hartSearch _ => none
  | .hartPoll _ => none
  | .hartResponse _ _ => none
  | .hartTransactionFailure _ => none
  | .hartRequestWrite req _ _ => some req
  | .islandScan _ => none
  | .tpFrame _ _ => none
  | .inputFilterExpiry _ _ _ => none
  | .discrepancy _ => none
  | .onDelayExpiry _ => none
  | .tripDelayExpiry _ => none
  | .switchOnCheck _ _ _ => none
  | .darkTest _ _ _ => none
  | .safetyOutputFault _ _ => none
  | .canaryIslandFault _ => none
  | .islandReset => none
  | .islandSelfTestDone => none
  | .safetySetVerified => none
  | .safetySetConfirmWrite req _ => some req
  | .proofTestDue => none
  | .clockMonitorTrip _ => none
  | .clkIrcFailed => none
  | .ircJudgementWindow _ => none
  | .pllLock _ => none
  | .clkMuxHang _ => none
  | .trimWindow _ _ _ => none
  | .trimStore => none
  | .scrubPass _ _ _ => none
  | .tallyWrite _ _ => none
  | .operatingMinute => none
  | .tallySelectWrite req _ => some req
  | .faceplatePageWrite req _ => some req
  | .pageTimeout => none
  | .faceplateRequest _ => none
  | .updateStart _ => none
  | .updatePhase => none
  | .warpKeyWrite req _ _ _ => some req
  | .safetySetKeyWrite req _ _ _ => some req
  | .revokeKeyWrite req _ => some req
  | .conduitKeyWrite req _ _ => some req
  | .seamKeyWrite req _ _ => some req
  | .firmwareVerified _ => none
  | .commitSecurityVersionWrite req _ => some req
  | .debugLockWrite req _ => some req
  | .recoveryFrame _ _ _ => none
  | .recoveryLoaded => none
  | .seamLinkDown => none
  | .fieldSideRestart _ => none
  | .fenceInRelease => none
  | .dramScrubPass _ _ _ => none

/-- The fields of a request lie in the widths of Table 3-2 and R77. -/
structure Fits (r : Req) : Prop where
  source : r.source < 2 ^ 16
  seq : r.seq < 2 ^ 16
  dest : r.dest < 2 ^ 16
  port : r.port < 2 ^ 16
  ip : r.ip < 2 ^ 32
  toIp : r.toIp < 2 ^ 32
  slot : ∀ k, r.auth = some k → k < 16
  sealed : r.encrypt = true → r.auth.isSome = true

theorem fits_of_reqOk {r : Req} (h : reqOk r = true) : Fits r := by
  simp only [reqOk, Bool.and_eq_true, decide_eq_true_eq, slotOk, authOk] at h
  obtain ⟨⟨⟨⟨⟨⟨⟨h1, h2⟩, h3⟩, h4⟩, h5⟩, h0⟩, h6⟩, h7⟩ := h
  refine ⟨h1, h2, h3, h4, h5, h0, fun k hk => ?_, fun he => ?_⟩
  · rw [hk] at h6; exact of_decide_eq_true h6
  · rw [he] at h7; exact h7

/-- A well-formed command that executes a request has a sender whose fields fit. -/
def Statement (i : Instr) : Prop := wellFormed i = true → ∀ r, request i = some r → Fits r

theorem of_none {i : Instr} (h : request i = none) : Statement i := by
  intro _ r hr; rw [h] at hr; cases hr

theorem of_some {i : Instr} {q : Req} (h : request i = some q) (hw : wellFormed i = true → reqOk q = true) : Statement i := by
  intro hi r hr; rw [h] at hr; cases hr; exact fits_of_reqOk (hw hi)

theorem logicSupplyRise : Statement (.logicSupplyRise) := of_none rfl
theorem logicSupplyLoss (pulse : Bool) : Statement (.logicSupplyLoss pulse) := of_none rfl
theorem feedLoss : Statement (.feedLoss) := of_none rfl
theorem resetPinAssert (pin : PinAssert) : Statement (.resetPinAssert pin) := of_none rfl
theorem resetPinRelease : Statement (.resetPinRelease) := of_none rfl
theorem watchdogExpiry (pulse : Bool) : Statement (.watchdogExpiry pulse) := of_none rfl
theorem debugReset (port : DebugPins) (level : ResetLevel) (pulse : Bool) : Statement (.debugReset port level pulse) := of_none rfl
theorem sourceTakesHold (src : ResetSource) (how : HoldFacts) : Statement (.sourceTakesHold src how) := of_none rfl
theorem internalSourceRelease (src : ResetSource) : Statement (.internalSourceRelease src) := of_none rfl
theorem episodeClose (f : ExitFacts) : Statement (.episodeClose f) := of_none rfl
theorem bootComplete (f : BootFacts) : Statement (.bootComplete f) := of_none rfl
theorem holdEntered (cause : BitVec 16) : Statement (.holdEntered cause) := of_none rfl
theorem overtemp : Statement (.overtemp) := of_none rfl
theorem wake (src : WakeSource) (recordBad : Bool) : Statement (.wake src recordBad) := of_none rfl
theorem load (req : Req) : Statement (.load req) := of_some rfl (fun h => h)
theorem unload (req : Req) : Statement (.unload req) := of_some rfl (fun h => h)
theorem start (req : Req) : Statement (.start req) := of_some rfl (fun h => h)
theorem stop (req : Req) : Statement (.stop req) := of_some rfl (fun h => h)
theorem handover (req : Req) : Statement (.handover req) := of_some rfl (fun h => h)
theorem layup (req : Req) : Statement (.layup req) := of_some rfl (fun h => h)
theorem automaticStart : Statement (.automaticStart) := of_none rfl
theorem startBoundary : Statement (.startBoundary) := of_none rfl
theorem stopBoundary : Statement (.stopBoundary) := of_none rfl
theorem handoverBoundary : Statement (.handoverBoundary) := of_none rfl
theorem profileWrite (req : Req) (value : BitVec 8) : Statement (.profileWrite req value) := of_some rfl (fun h => h)
theorem profileChange : Statement (.profileChange) := of_none rfl
theorem resetRequest (req : Req) (value : BitVec 8) : Statement (.resetRequest req value) := of_some rfl (fun h => h)
theorem restoreCommand (req : Req) (value : BitVec 32) : Statement (.restoreCommand req value) := of_some rfl (fun h => h)
theorem restoreDone : Statement (.restoreDone) := of_none rfl
theorem resetCauseClear (req : Req) (value : BitVec 16) : Statement (.resetCauseClear req value) := of_some rfl (fun h => h)
theorem objectWrite (req : Req) (addr : BitVec 32) (value : List Byte) : Statement (.objectWrite req addr value) := of_some rfl fun h => by simp only [wellFormed, Bool.and_eq_true] at h; exact h.1
theorem clpPacketReceive (d : Datagram) : Statement (.clpPacketReceive d) := of_none rfl
theorem identify (req : Req) : Statement (.identify req) := of_some rfl (fun h => h)
theorem read (req : Req) (addr : BitVec 32) : Statement (.read req addr) := of_some rfl (fun h => h)
theorem write (req : Req) (addr : BitVec 32) (value : List Byte) : Statement (.write req addr value) := of_some rfl fun h => by simp only [wellFormed, Bool.and_eq_true] at h; exact h.1
theorem readMulti (req : Req) (addrs : List (BitVec 32)) : Statement (.readMulti req addrs) := of_some rfl fun h => by simp only [wellFormed, Bool.and_eq_true] at h; exact h.1
theorem writeMulti (req : Req) (items : List (BitVec 32 × List Byte)) : Statement (.writeMulti req items) := of_some rfl fun h => by simp only [wellFormed, Bool.and_eq_true] at h; exact h.1.1
theorem domainWriteBegin (req : Req) (addr total crc : BitVec 32) : Statement (.domainWriteBegin req addr total crc) := of_some rfl (fun h => h)
theorem domainWriteSegment (req : Req) (id : BitVec 16) (offset : BitVec 32) (data : List Byte) : Statement (.domainWriteSegment req id offset data) :=
  of_some rfl fun h => by simp only [wellFormed, Bool.and_eq_true] at h; exact h.1
theorem domainWriteEnd (req : Req) (id : BitVec 16) : Statement (.domainWriteEnd req id) := of_some rfl (fun h => h)
theorem domainReadBegin (req : Req) (addr : BitVec 32) : Statement (.domainReadBegin req addr) := of_some rfl (fun h => h)
theorem domainReadSegment (req : Req) (id : BitVec 16) (offset length : BitVec 32) : Statement (.domainReadSegment req id offset length) :=
  of_some rfl (fun h => h)
theorem domainAbort (req : Req) (id : BitVec 16) : Statement (.domainAbort req id) := of_some rfl (fun h => h)
theorem domainStatus (req : Req) (id : BitVec 16) : Statement (.domainStatus req id) := of_some rfl (fun h => h)
theorem transferExpiry (id : BitVec 16) : Statement (.transferExpiry id) := of_none rfl
theorem sequenceRecordExpiry (source : BitVec 16) : Statement (.sequenceRecordExpiry source) := of_none rfl
theorem pd (source : BitVec 16) (ip : Nat) (auth : Option Nat) (encrypt : Bool) (seq : BitVec 16) (payload : List Byte) : Statement (.pd source ip auth encrypt seq payload) :=
  of_none rfl
theorem pdTransmit (layout : BitVec 16) : Statement (.pdTransmit layout) := of_none rfl
theorem subscribe (req : Req) (number : BitVec 8) (first last : BitVec 16) (start : BitVec 64) : Statement (.subscribe req number first last start) :=
  of_some rfl (fun h => h)
theorem unsubscribe (req : Req) (number : BitVec 8) : Statement (.unsubscribe req number) := of_some rfl (fun h => h)
theorem event (number : BitVec 8) : Statement (.event number) := of_none rfl
theorem eventResend (number : BitVec 8) : Statement (.eventResend number) := of_none rfl
theorem eventAck (req : Req) (number : BitVec 8) (highest : BitVec 64) : Statement (.eventAck req number highest) := of_some rfl (fun h => h)
theorem subscriptionLapse (number : BitVec 8) : Statement (.subscriptionLapse number) := of_none rfl
theorem reset (req : Req) (level : BitVec 8) : Statement (.reset req level) := of_some rfl (fun h => h)
theorem arpRequest (rx : IpOrigin) (senderIp targetIp : Nat) : Statement (.arpRequest rx senderIp targetIp) := of_none rfl
theorem arpRefresh (ip : Nat) (mac : Option Nat) : Statement (.arpRefresh ip mac) := of_none rfl
theorem icmpEcho (rx : IpOrigin) (srcIp dstIp : Nat) (data : List Byte) : Statement (.icmpEcho rx srcIp dstIp data) := of_none rfl
theorem igmpQuery (rx : NetRx) : Statement (.igmpQuery rx) := of_none rfl
theorem portLinkUp (port : NetPort) (rate : Nat) : Statement (.portLinkUp port rate) := of_none rfl
theorem pathLost (port : NetPort) (cause : Fin 4) : Statement (.pathLost port cause) := of_none rfl
theorem pathRestored (port : NetPort) : Statement (.pathRestored port) := of_none rfl
theorem prpSupervision : Statement (.prpSupervision) := of_none rfl
theorem tickEdge : Statement (.tickEdge) := of_none rfl
theorem sourceStale (entry : BitVec 16) : Statement (.sourceStale entry) := of_none rfl
theorem shelveExpiry (group : BitVec 12) : Statement (.shelveExpiry group) := of_none rfl
theorem gapWeft : Statement (.gapWeft) := of_none rfl
theorem executionStart : Statement (.executionStart) := of_none rfl
theorem laneNop (l : Fin 4) : Statement (.laneNop l) := of_none rfl
theorem laneEnd (l : Fin 4) : Statement (.laneEnd l) := of_none rfl
theorem laneWait (l : Fin 4) (d : Fin 512) (mask : BitVec 32) : Statement (.laneWait l d mask) := of_none rfl
theorem waitRelease (l : Fin 4) : Statement (.waitRelease l) := of_none rfl
theorem laneWeft (l : Fin 4) (d : Fin 512) (cls : CClass) : Statement (.laneWeft l d cls) := of_none rfl
theorem laneCommit (l : Fin 4) (cls : CClass) : Statement (.laneCommit l cls) := of_none rfl
theorem laneShut (l : Fin 4) (a : Fin 512) (unit : Fin 16) (tag : Fin 32) (count : BitVec 28) : Statement (.laneShut l a unit tag count) :=
  of_none rfl
theorem laneTrom (l : Fin 4) (a : Fin 512) (tag : Fin 32) (count : BitVec 28) : Statement (.laneTrom l a tag count) := of_none rfl
theorem laneDmai (l : Fin 4) (tag : Fin 32) (list : BitVec 28) : Statement (.laneDmai l tag list) := of_none rfl
theorem laneConstl (l : Fin 4) (d : Fin 512) (imm : BitVec 32) : Statement (.laneConstl l d imm) := of_none rfl
theorem laneConsth (l : Fin 4) (d : Fin 512) (imm : BitVec 32) : Statement (.laneConsth l d imm) := of_none rfl
theorem laneMov (l : Fin 4) (d a : Fin 512) : Statement (.laneMov l d a) := of_none rfl
theorem laneAddi (l : Fin 4) (d a : Fin 512) (imm : BitVec 38) : Statement (.laneAddi l d a imm) := of_none rfl
theorem laneExt (l : Fin 4) (d a : Fin 512) (lsb width1 : BitVec 6) : Statement (.laneExt l d a lsb width1) := of_none rfl
theorem laneIns (l : Fin 4) (d a : Fin 512) (lsb width1 : BitVec 6) : Statement (.laneIns l d a lsb width1) := of_none rfl
theorem laneAdd32 (l : Fin 4) (d a b : Fin 512) : Statement (.laneAdd32 l d a b) := of_none rfl
theorem laneSub32 (l : Fin 4) (d a b : Fin 512) : Statement (.laneSub32 l d a b) := of_none rfl
theorem laneMul32 (l : Fin 4) (d a b : Fin 512) : Statement (.laneMul32 l d a b) := of_none rfl
theorem laneDivs32 (l : Fin 4) (d a b : Fin 512) : Statement (.laneDivs32 l d a b) := of_none rfl
theorem laneDivu32 (l : Fin 4) (d a b : Fin 512) : Statement (.laneDivu32 l d a b) := of_none rfl
theorem laneAdd64 (l : Fin 4) (d a b : Fin 512) : Statement (.laneAdd64 l d a b) := of_none rfl
theorem laneSub64 (l : Fin 4) (d a b : Fin 512) : Statement (.laneSub64 l d a b) := of_none rfl
theorem laneMul64 (l : Fin 4) (d a b : Fin 512) : Statement (.laneMul64 l d a b) := of_none rfl
theorem laneDivs64 (l : Fin 4) (d a b : Fin 512) : Statement (.laneDivs64 l d a b) := of_none rfl
theorem laneDivu64 (l : Fin 4) (d a b : Fin 512) : Statement (.laneDivu64 l d a b) := of_none rfl
theorem laneAnd (l : Fin 4) (d a b : Fin 512) : Statement (.laneAnd l d a b) := of_none rfl
theorem laneOr (l : Fin 4) (d a b : Fin 512) : Statement (.laneOr l d a b) := of_none rfl
theorem laneXor (l : Fin 4) (d a b : Fin 512) : Statement (.laneXor l d a b) := of_none rfl
theorem laneNot (l : Fin 4) (d a : Fin 512) : Statement (.laneNot l d a) := of_none rfl
theorem laneShl (l : Fin 4) (d a b : Fin 512) : Statement (.laneShl l d a b) := of_none rfl
theorem laneShr (l : Fin 4) (d a b : Fin 512) : Statement (.laneShr l d a b) := of_none rfl
theorem laneSar (l : Fin 4) (d a b : Fin 512) : Statement (.laneSar l d a b) := of_none rfl
theorem laneMins (l : Fin 4) (d a b : Fin 512) : Statement (.laneMins l d a b) := of_none rfl
theorem laneMaxs (l : Fin 4) (d a b : Fin 512) : Statement (.laneMaxs l d a b) := of_none rfl
theorem laneSx8 (l : Fin 4) (d a : Fin 512) : Statement (.laneSx8 l d a) := of_none rfl
theorem laneSx16 (l : Fin 4) (d a : Fin 512) : Statement (.laneSx16 l d a) := of_none rfl
theorem laneSx32 (l : Fin 4) (d a : Fin 512) : Statement (.laneSx32 l d a) := of_none rfl
theorem laneCeq (l : Fin 4) (d a b : Fin 512) : Statement (.laneCeq l d a b) := of_none rfl
theorem laneCne (l : Fin 4) (d a b : Fin 512) : Statement (.laneCne l d a b) := of_none rfl
theorem laneClts (l : Fin 4) (d a b : Fin 512) : Statement (.laneClts l d a b) := of_none rfl
theorem laneCltu (l : Fin 4) (d a b : Fin 512) : Statement (.laneCltu l d a b) := of_none rfl
theorem laneCles (l : Fin 4) (d a b : Fin 512) : Statement (.laneCles l d a b) := of_none rfl
theorem laneCleu (l : Fin 4) (d a b : Fin 512) : Statement (.laneCleu l d a b) := of_none rfl
theorem laneFceq32 (l : Fin 4) (d a b : Fin 512) : Statement (.laneFceq32 l d a b) := of_none rfl
theorem laneFclt32 (l : Fin 4) (d a b : Fin 512) : Statement (.laneFclt32 l d a b) := of_none rfl
theorem laneFcle32 (l : Fin 4) (d a b : Fin 512) : Statement (.laneFcle32 l d a b) := of_none rfl
theorem laneFcun32 (l : Fin 4) (d a b : Fin 512) : Statement (.laneFcun32 l d a b) := of_none rfl
theorem laneFceq64 (l : Fin 4) (d a b : Fin 512) : Statement (.laneFceq64 l d a b) := of_none rfl
theorem laneFclt64 (l : Fin 4) (d a b : Fin 512) : Statement (.laneFclt64 l d a b) := of_none rfl
theorem laneFcle64 (l : Fin 4) (d a b : Fin 512) : Statement (.laneFcle64 l d a b) := of_none rfl
theorem laneFcun64 (l : Fin 4) (d a b : Fin 512) : Statement (.laneFcun64 l d a b) := of_none rfl
theorem laneSel (l : Fin 4) (d a b c : Fin 512) : Statement (.laneSel l d a b c) := of_none rfl
theorem laneBsel (l : Fin 4) (d a b c : Fin 512) : Statement (.laneBsel l d a b c) := of_none rfl
theorem laneFadd32 (l : Fin 4) (d a b : Fin 512) : Statement (.laneFadd32 l d a b) := of_none rfl
theorem laneFsub32 (l : Fin 4) (d a b : Fin 512) : Statement (.laneFsub32 l d a b) := of_none rfl
theorem laneFmul32 (l : Fin 4) (d a b : Fin 512) : Statement (.laneFmul32 l d a b) := of_none rfl
theorem laneFdiv32 (l : Fin 4) (d a b : Fin 512) : Statement (.laneFdiv32 l d a b) := of_none rfl
theorem laneFsqrt32 (l : Fin 4) (d a : Fin 512) : Statement (.laneFsqrt32 l d a) := of_none rfl
theorem laneFmin32 (l : Fin 4) (d a b : Fin 512) : Statement (.laneFmin32 l d a b) := of_none rfl
theorem laneFmax32 (l : Fin 4) (d a b : Fin 512) : Statement (.laneFmax32 l d a b) := of_none rfl
theorem laneFabs32 (l : Fin 4) (d a : Fin 512) : Statement (.laneFabs32 l d a) := of_none rfl
theorem laneFneg32 (l : Fin 4) (d a : Fin 512) : Statement (.laneFneg32 l d a) := of_none rfl
theorem laneCvtf32i32 (l : Fin 4) (d a : Fin 512) : Statement (.laneCvtf32i32 l d a) := of_none rfl
theorem laneCvti32f32 (l : Fin 4) (d a : Fin 512) : Statement (.laneCvti32f32 l d a) := of_none rfl
theorem laneCvtf64f32 (l : Fin 4) (d a : Fin 512) : Statement (.laneCvtf64f32 l d a) := of_none rfl
theorem laneCvtf32f64 (l : Fin 4) (d a : Fin 512) : Statement (.laneCvtf32f64 l d a) := of_none rfl
theorem laneFadd64 (l : Fin 4) (d a b : Fin 512) : Statement (.laneFadd64 l d a b) := of_none rfl
theorem laneFsub64 (l : Fin 4) (d a b : Fin 512) : Statement (.laneFsub64 l d a b) := of_none rfl
theorem laneFmul64 (l : Fin 4) (d a b : Fin 512) : Statement (.laneFmul64 l d a b) := of_none rfl
theorem laneFdiv64 (l : Fin 4) (d a b : Fin 512) : Statement (.laneFdiv64 l d a b) := of_none rfl
theorem laneFsqrt64 (l : Fin 4) (d a : Fin 512) : Statement (.laneFsqrt64 l d a) := of_none rfl
theorem laneFmin64 (l : Fin 4) (d a b : Fin 512) : Statement (.laneFmin64 l d a b) := of_none rfl
theorem laneFmax64 (l : Fin 4) (d a b : Fin 512) : Statement (.laneFmax64 l d a b) := of_none rfl
theorem laneFabs64 (l : Fin 4) (d a : Fin 512) : Statement (.laneFabs64 l d a) := of_none rfl
theorem laneFneg64 (l : Fin 4) (d a : Fin 512) : Statement (.laneFneg64 l d a) := of_none rfl
theorem laneCvtf64i64 (l : Fin 4) (d a : Fin 512) : Statement (.laneCvtf64i64 l d a) := of_none rfl
theorem laneCvti64f64 (l : Fin 4) (d a : Fin 512) : Statement (.laneCvti64f64 l d a) := of_none rfl
theorem laneScl32 (l : Fin 4) (d a b : Fin 512) : Statement (.laneScl32 l d a b) := of_none rfl
theorem laneClamp32 (l : Fin 4) (d a b : Fin 512) : Statement (.laneClamp32 l d a b) := of_none rfl
theorem laneFilt32 (l : Fin 4) (d a b : Fin 512) : Statement (.laneFilt32 l d a b) := of_none rfl
theorem laneRamp32 (l : Fin 4) (d a b : Fin 512) : Statement (.laneRamp32 l d a b) := of_none rfl
theorem laneLd8 (l : Fin 4) (d a : Fin 512) (imm : BitVec 38) : Statement (.laneLd8 l d a imm) := of_none rfl
theorem laneLd16 (l : Fin 4) (d a : Fin 512) (imm : BitVec 38) : Statement (.laneLd16 l d a imm) := of_none rfl
theorem laneLd32 (l : Fin 4) (d a : Fin 512) (imm : BitVec 38) : Statement (.laneLd32 l d a imm) := of_none rfl
theorem laneLd64 (l : Fin 4) (d a : Fin 512) (imm : BitVec 38) : Statement (.laneLd64 l d a imm) := of_none rfl
theorem laneSt8 (l : Fin 4) (d a : Fin 512) (imm : BitVec 38) : Statement (.laneSt8 l d a imm) := of_none rfl
theorem laneSt16 (l : Fin 4) (d a : Fin 512) (imm : BitVec 38) : Statement (.laneSt16 l d a imm) := of_none rfl
theorem laneSt32 (l : Fin 4) (d a : Fin 512) (imm : BitVec 38) : Statement (.laneSt32 l d a imm) := of_none rfl
theorem laneSt64 (l : Fin 4) (d a : Fin 512) (imm : BitVec 38) : Statement (.laneSt64 l d a imm) := of_none rfl
theorem laneLdw (l : Fin 4) (d a : Fin 512) (imm : BitVec 38) : Statement (.laneLdw l d a imm) := of_none rfl
theorem laneStw (l : Fin 4) (d a : Fin 512) (imm : BitVec 38) : Statement (.laneStw l d a imm) := of_none rfl
theorem laneLdp (l : Fin 4) (d a : Fin 512) (imm : BitVec 38) : Statement (.laneLdp l d a imm) := of_none rfl
theorem laneStp (l : Fin 4) (d a : Fin 512) (imm : BitVec 38) : Statement (.laneStp l d a imm) := of_none rfl
theorem loopEvaluation (shuttle : Fin 16) (ram : TableRam) : Statement (.loopEvaluation shuttle ram) := of_none rfl
theorem loopLost (loop : BitVec 12) : Statement (.loopLost loop) := of_none rfl
theorem loopFrozen (loop : BitVec 12) : Statement (.loopFrozen loop) := of_none rfl
theorem testModeWrite (req : Req) (loop : BitVec 12) (mode : BitVec 8) : Statement (.testModeWrite req loop mode) := of_some rfl (fun h => h)
theorem testComplete (loop : BitVec 12) : Statement (.testComplete loop) := of_none rfl
theorem pointScreen : Statement (.pointScreen) := of_none rfl
theorem alarmDelayExpiry (point : BitVec 18) (condition : Fin 7) : Statement (.alarmDelayExpiry point condition) := of_none rfl
theorem dmaListStart (list : BitVec 16) (faults : List DmaFault) : Statement (.dmaListStart list faults) := of_none rfl
theorem dmaListComplete (list : BitVec 16) : Statement (.dmaListComplete list) := of_none rfl
theorem dmaResponseError (list desc : BitVec 16) (beat : BitVec 20) : Statement (.dmaResponseError list desc beat) := of_none rfl
theorem deviceRequest (line : HostLine) (beats : Fin 16) (withdrawn : Bool) : Statement (.deviceRequest line beats withdrawn) :=
  of_none rfl
theorem lockstepMismatch (shuttle : Bool) (pair : Fin 8) (pairCycle : BitVec 32) : Statement (.lockstepMismatch shuttle pair pairCycle) :=
  of_none rfl
theorem reExecution : Statement (.reExecution) := of_none rfl
theorem outputStaging : Statement (.outputStaging) := of_none rfl
theorem barrierFrameSend (group : Group) (slot : Fin 4) (room : Nat) : Statement (.barrierFrameSend group slot room) := of_none rfl
theorem barrierFrameReceive (toField : Bool) (group : Group) (slot : Fin 4) (wire : Option (List Byte)) : Statement (.barrierFrameReceive toField group slot wire) :=
  of_none rfl
theorem fieldEdgeApply (group : Group) (m : FieldMeasure) : Statement (.fieldEdgeApply group m) := of_none rfl
theorem silenceTimeout (group : Group) : Statement (.silenceTimeout group) := of_none rfl
theorem guard : Statement (.guard) := of_none rfl
theorem canaryTickCheck (m : CanaryMeasure) : Statement (.canaryTickCheck m) := of_none rfl
theorem seamGuardCheck : Statement (.seamGuardCheck) := of_none rfl
theorem seamDecision : Statement (.seamDecision) := of_none rfl
theorem takeover : Statement (.takeover) := of_none rfl
theorem aoHoldEnd : Statement (.aoHoldEnd) := of_none rfl
theorem fenceIn : Statement (.fenceIn) := of_none rfl
theorem partnerPresentChange (asserted : Bool) : Statement (.partnerPresentChange asserted) := of_none rfl
theorem presenceFrameSend : Statement (.presenceFrameSend) := of_none rfl
theorem presenceFrameReceive (rx : NetRx) (payload : List Byte) : Statement (.presenceFrameReceive rx payload) := of_none rfl
theorem seamUp : Statement (.seamUp) := of_none rfl
theorem seamRetrain : Statement (.seamRetrain) := of_none rfl
theorem hello (wire : List Byte) : Statement (.hello wire) := of_none rfl
theorem weftFrame (frame : List Byte) (cls : CClass) (tag : List Byte) : Statement (.weftFrame frame cls tag) := of_none rfl
theorem stateFrame (wire : List Byte) : Statement (.stateFrame wire) := of_none rfl
theorem closeFrameReceive (wire : List Byte) : Statement (.closeFrameReceive wire) := of_none rfl
theorem dictFrame (wire : List Byte) : Statement (.dictFrame wire) := of_none rfl
theorem bankFrame (wire : List Byte) : Statement (.bankFrame wire) := of_none rfl
theorem resyncFrame (wire : List Byte) : Statement (.resyncFrame wire) := of_none rfl
theorem persistFrame (wire : List Byte) : Statement (.persistFrame wire) := of_none rfl
theorem ackFrame (wire : List Byte) : Statement (.ackFrame wire) := of_none rfl
theorem activateBankWrite (req : Req) (value : BitVec 8) : Statement (.activateBankWrite req value) := of_some rfl (fun h => h)
theorem activateCancelWrite (req : Req) (value : BitVec 8) : Statement (.activateCancelWrite req value) := of_some rfl (fun h => h)
theorem activationStaging (crcFault : Option (Fin 64)) : Statement (.activationStaging crcFault) := of_none rfl
theorem activationDecision : Statement (.activationDecision) := of_none rfl
theorem activation : Statement (.activation) := of_none rfl
theorem activationRestart : Statement (.activationRestart) := of_none rfl
theorem warpVerified (bank : Fin 2) : Statement (.warpVerified bank) := of_none rfl
theorem sync (port : NetPort) (m : PtpMsg) : Statement (.sync port m) := of_none rfl
theorem followUp (port : NetPort) (m : PtpMsg) : Statement (.followUp port m) := of_none rfl
theorem delayResp (port : NetPort) (m : PtpMsg) : Statement (.delayResp port m) := of_none rfl
theorem pdelayReq (port : NetPort) (m : PtpMsg) (txNs : Nat) : Statement (.pdelayReq port m txNs) := of_none rfl
theorem pdelayResp (port : NetPort) (m : PtpMsg) : Statement (.pdelayResp port m) := of_none rfl
theorem pdelayRespFollowUp (port : NetPort) (m : PtpMsg) : Statement (.pdelayRespFollowUp port m) := of_none rfl
theorem announce (port : NetPort) (m : PtpAnnounce) : Statement (.announce port m) := of_none rfl
theorem announceTimeout (port : NetPort) : Statement (.announceTimeout port) := of_none rfl
theorem ptpTransmit (port : NetPort) (what : PtpSend) (txNs : Nat) : Statement (.ptpTransmit port what txNs) := of_none rfl
theorem delayReq (port : NetPort) (m : PtpMsg) : Statement (.delayReq port m) := of_none rfl
theorem holdoverEntry : Statement (.holdoverEntry) := of_none rfl
theorem timePortSwitch : Statement (.timePortSwitch) := of_none rfl
theorem timeStepped : Statement (.timeStepped) := of_none rfl
theorem rtcUpdate : Statement (.rtcUpdate) := of_none rfl
theorem reStepPermitWrite (req : Req) (value : BitVec 8) : Statement (.reStepPermitWrite req value) := of_some rfl (fun h => h)
theorem timeSetWrite (req : Req) (value : List Byte) : Statement (.timeSetWrite req value) := of_some rfl fun h => by simp only [wellFormed, Bool.and_eq_true] at h; exact h.1
theorem ppsInEdge (atNs : Nat) : Statement (.ppsInEdge atNs) := of_none rfl
theorem ppsOutEnd : Statement (.ppsOutEnd) := of_none rfl
theorem canFrameReceive (channel : Fin 8) (rx : CanRx) : Statement (.canFrameReceive channel rx) := of_none rfl
theorem canFrameTransmitted (channel : Fin 8) (buffer : Fin 32) (event : CanTxEvent) : Statement (.canFrameTransmitted channel buffer event) :=
  of_none rfl
theorem canBusOff (channel : Fin 8) : Statement (.canBusOff channel) := of_none rfl
theorem canBusOn (channel : Fin 8) : Statement (.canBusOn channel) := of_none rfl
theorem recoverWrite (req : Req) (channel : Fin 8) (value : BitVec 8) : Statement (.recoverWrite req channel value) := of_some rfl (fun h => h)
theorem canRxBufferRead (channel : Fin 8) (buffer : Fin 64) (word : Fin 20) : Statement (.canRxBufferRead channel buffer word) :=
  of_none rfl
theorem lockExpiry (channel : Fin 8) (buffer : Fin 64) : Statement (.lockExpiry channel buffer) := of_none rfl
theorem detectStart (req : Req) (channel : Fin 8) : Statement (.detectStart req channel) := of_some rfl (fun h => h)
theorem detectStop (req : Req) (channel : Fin 8) : Statement (.detectStop req channel) := of_some rfl (fun h => h)
theorem detectTimeout (channel : Fin 8) (overall : Bool) : Statement (.detectTimeout channel overall) := of_none rfl
theorem canWake (channel : Fin 8) (seen : CanWaking) : Statement (.canWake channel seen) := of_none rfl
theorem diBandChange (channel : Fin 48) (mv ua : BitVec 16) (firstNs : Nat) : Statement (.diBandChange channel mv ua firstNs) :=
  of_none rfl
theorem outputOverload (event : LoadEvent) : Statement (.outputOverload event) := of_none rfl
theorem overloadRetry (event : LoadEvent) : Statement (.overloadRetry event) := of_none rfl
theorem fieldSupplyWarning (group : Group) (low : Bool) : Statement (.fieldSupplyWarning group low) := of_none rfl
theorem fieldSupplyTrip (event : SupplyEvent) : Statement (.fieldSupplyTrip event) := of_none rfl
theorem supplyRestoring (group : Group) (above : Bool) : Statement (.supplyRestoring group above) := of_none rfl
theorem fieldSupplyRestored (event : SupplyEvent) : Statement (.fieldSupplyRestored event) := of_none rfl
theorem fieldSideStop (group : Group) : Statement (.fieldSideStop group) := of_none rfl
theorem aoCompliance (channel : Fin 8) (current : BitVec 32) : Statement (.aoCompliance channel current) := of_none rfl
theorem aoOpen (channel : Fin 8) (current : BitVec 32) : Statement (.aoOpen channel current) := of_none rfl
theorem aoRestored (channel : Fin 8) (current : BitVec 32) (atLimit : Bool) : Statement (.aoRestored channel current atLimit) :=
  of_none rfl
theorem aoThermal (channel : Fin 8) (current : BitVec 32) : Statement (.aoThermal channel current) := of_none rfl
theorem aoThermalClear (channel : Fin 8) : Statement (.aoThermalClear channel) := of_none rfl
theorem analogEnvelope (output : Bool) (channel : Fin 8) (set : Bool) : Statement (.analogEnvelope output channel set) := of_none rfl
theorem hartSearch (channel : Fin 16) : Statement (.hartSearch channel) := of_none rfl
theorem hartPoll (channel : Fin 16) : Statement (.hartPoll channel) := of_none rfl
theorem hartResponse (channel : Fin 16) (reply : HartReply) : Statement (.hartResponse channel reply) := of_none rfl
theorem hartTransactionFailure (channel : Fin 16) : Statement (.hartTransactionFailure channel) := of_none rfl
theorem hartRequestWrite (req : Req) (channel : Fin 16) (payload : List Byte) : Statement (.hartRequestWrite req channel payload) :=
  of_some rfl fun h => by simp only [wellFormed, Bool.and_eq_true] at h; exact h.1
theorem islandScan (currents : List (BitVec 16)) : Statement (.islandScan currents) := of_none rfl
theorem tpFrame (inputs readback : List (BitVec 400)) : Statement (.tpFrame inputs readback) := of_none rfl
theorem inputFilterExpiry (input : Fin 8) (startUs : Nat) (samples : List (BitVec 16)) : Statement (.inputFilterExpiry input startUs samples) := of_none rfl
theorem discrepancy (pair : Fin 4) : Statement (.discrepancy pair) := of_none rfl
theorem onDelayExpiry (cause : Fin 32) : Statement (.onDelayExpiry cause) := of_none rfl
theorem tripDelayExpiry (effect : Fin 8) : Statement (.tripDelayExpiry effect) := of_none rfl
theorem switchOnCheck (output : Fin 4) (lowMv supplyMv : Nat) : Statement (.switchOnCheck output lowMv supplyMv) := of_none rfl
theorem darkTest (output : Fin 4) (readMv supplyMv : Nat) : Statement (.darkTest output readMv supplyMv) := of_none rfl
theorem safetyOutputFault (output : Fin 4) (code : Fin 8) : Statement (.safetyOutputFault output code) := of_none rfl
theorem canaryIslandFault (check : IslandCheck) : Statement (.canaryIslandFault check) := of_none rfl
theorem islandReset : Statement (.islandReset) := of_none rfl
theorem islandSelfTestDone : Statement (.islandSelfTestDone) := of_none rfl
theorem safetySetVerified : Statement (.safetySetVerified) := of_none rfl
theorem safetySetConfirmWrite (req : Req) (value : BitVec 32) : Statement (.safetySetConfirmWrite req value) := of_some rfl (fun h => h)
theorem proofTestDue : Statement (.proofTestDue) := of_none rfl
theorem clockMonitorTrip (what : ClockTrip) : Statement (.clockMonitorTrip what) := of_none rfl
theorem clkIrcFailed : Statement (.clkIrcFailed) := of_none rfl
theorem ircJudgementWindow (count : Nat) : Statement (.ircJudgementWindow count) := of_none rfl
theorem pllLock (what : ClockLock) : Statement (.pllLock what) := of_none rfl
theorem clkMuxHang (hart : Bool) : Statement (.clkMuxHang hart) := of_none rfl
theorem trimWindow (count : Nat) (stepped changed : Bool) : Statement (.trimWindow count stepped changed) := of_none rfl
theorem trimStore : Statement (.trimStore) := of_none rfl
theorem scrubPass (ticks corrected : BitVec 32) (uncorrectable : Option (BitVec 32 × BitVec 32)) : Statement (.scrubPass ticks corrected uncorrectable) :=
  of_none rfl
theorem tallyWrite (code : BitVec 16) (params : List (BitVec 32)) : Statement (.tallyWrite code params) := of_none rfl
theorem operatingMinute : Statement (.operatingMinute) := of_none rfl
theorem tallySelectWrite (req : Req) (sequence : BitVec 64) : Statement (.tallySelectWrite req sequence) := of_some rfl (fun h => h)
theorem faceplatePageWrite (req : Req) (value : BitVec 8) : Statement (.faceplatePageWrite req value) := of_some rfl (fun h => h)
theorem pageTimeout : Statement (.pageTimeout) := of_none rfl
theorem faceplateRequest (call : RedrawCall) : Statement (.faceplateRequest call) := of_none rfl
theorem updateStart (drawn : FaceDrawing) : Statement (.updateStart drawn) := of_none rfl
theorem updatePhase : Statement (.updatePhase) := of_none rfl
theorem warpKeyWrite (req : Req) (slot : Fin 8) (key : List Byte) (cutOff : Bool) : Statement (.warpKeyWrite req slot key cutOff) :=
  of_some rfl fun h => by simp only [wellFormed, Bool.and_eq_true] at h; exact h.1
theorem safetySetKeyWrite (req : Req) (slot : Fin 8) (key : List Byte) (cutOff : Bool) : Statement (.safetySetKeyWrite req slot key cutOff) :=
  of_some rfl fun h => by simp only [wellFormed, Bool.and_eq_true] at h; exact h.1
theorem revokeKeyWrite (req : Req) (value : BitVec 16) : Statement (.revokeKeyWrite req value) := of_some rfl (fun h => h)
theorem conduitKeyWrite (req : Req) (slot : Fin 16) (key : List Byte) : Statement (.conduitKeyWrite req slot key) := of_some rfl fun h => by simp only [wellFormed, Bool.and_eq_true] at h; exact h.1
theorem seamKeyWrite (req : Req) (slot : Fin 2) (key : List Byte) : Statement (.seamKeyWrite req slot key) := of_some rfl fun h => by simp only [wellFormed, Bool.and_eq_true] at h; exact h.1
theorem firmwareVerified (bank : Fin 2) : Statement (.firmwareVerified bank) := of_none rfl
theorem commitSecurityVersionWrite (req : Req) (value : BitVec 8) : Statement (.commitSecurityVersionWrite req value) := of_some rfl (fun h => h)
theorem debugLockWrite (req : Req) (value : BitVec 32) : Statement (.debugLockWrite req value) := of_some rfl (fun h => h)
theorem recoveryFrame (offset crc : BitVec 32) (data : List Byte) : Statement (.recoveryFrame offset crc data) := of_none rfl
theorem recoveryLoaded : Statement (.recoveryLoaded) := of_none rfl
theorem seamLinkDown : Statement (.seamLinkDown) := of_none rfl
theorem fieldSideRestart (group : Group) : Statement (.fieldSideRestart group) := of_none rfl
theorem fenceInRelease : Statement (.fenceInRelease) := of_none rfl
theorem dramScrubPass (found : DramErrors) (uncorrectable : BitVec 32) (lastFault : Option (BitVec 32)) : Statement (.dramScrubPass found uncorrectable lastFault) :=
  of_none rfl

end Sys2Proof.Laws.Operands
end

