-- ==== Sys2Proof/Laws/Records.lean ====
section
/-! SUPPORT. The faceplate's waveforms keep R487: the sums of the drives of a pixel, and its steps. -/

namespace Sys2Proof.Machine

theorem driveSum_bound (a b : Nat) : ∀ k ≤ 24, -driveBound k ≤ driveSum a b k ∧ driveSum a b k ≤ driveBound k
  | 0, _ => by simp [driveSum, driveBound]
  | k + 1, h => by
    have ih := driveSum_bound a b k (by omega)
    simp only [driveSum, clampInt]
    unfold driveBound at *
    split <;> split at ih <;> (try split) <;> (try split) <;> omega

/-- The 24 drives of a pixel sum to 0. -/
theorem driveSum_end (a b : Nat) : driveSum a b 24 = 0 := by
  have h := driveSum_bound a b 24 le_rfl
  simp only [driveBound] at h
  omega

/-- A drive is −1, 0 or +1. -/
theorem drive_step (a b k : Nat) (h : k < 24) : -1 ≤ drive a b k ∧ drive a b k ≤ 1 := by
  have h0 := driveSum_bound a b k (by omega)
  have h1 := driveSum_bound a b (k + 1) (by omega)
  simp only [drive]
  simp only [driveSum, clampInt] at *
  unfold driveBound at *
  split at h0 <;> split <;> (try split) <;> (try split) <;> omega

end Sys2Proof.Machine
end

