-- ==== Sys2Proof/Laws/Seam.lean ====
section
/-! SUPPORT. Sealing and opening of seam frames (R258): what is sealed with a key opens with it. -/

namespace Sys2Proof.Machine

theorem chunks_all {α : Type} {n : Nat} (hn : 0 < n) : ∀ (k : Nat) (xs : List α), xs.length = n * k →
    (chunks n k xs).length = k ∧ ∀ c ∈ chunks n k xs, c.length = n
  | 0, _, _ => by simp [chunks]
  | k + 1, xs, h => by
    have hx : xs.isEmpty = false := by
      cases xs with
      | nil => rw [Nat.mul_add] at h; simp at h; omega
      | cons _ _ => rfl
    rw [Nat.mul_add, Nat.mul_one] at h
    obtain ⟨i, j⟩ := chunks_all hn k (xs.drop n) (by rw [List.length_drop]; omega)
    rw [chunks, hx]
    refine ⟨by simp [i], fun c hc => ?_⟩
    simp only [Bool.false_eq_true, if_false, List.mem_cons] at hc
    rcases hc with rfl | hc
    · rw [List.length_take]; omega
    · exact j c hc

theorem beBytes_length (n v : Nat) : (beBytes n v).length = n := by rw [beBytes, List.length_reverse, leBytes_length]

theorem fit_length (n : Nat) (bs : Bytes) : (fit n bs).length = n := by
  simp only [fit, zeros, List.length_take, List.length_append, List.length_replicate]
  omega

theorem sha256_length (bs : Bytes) : (sha256 bs).length = 32 := fit_length _ _

theorem aesExpand_all (table : Array Byte) : ∀ (n i : Nat) (rc : Byte) (ws : List Bytes), 8 ≤ ws.length → (∀ w ∈ ws, w.length = 4) →
    (aesExpand table n i rc ws).length = ws.length + n ∧ ∀ w ∈ aesExpand table n i rc ws, w.length = 4
  | 0, _, _, _, _, h => ⟨rfl, h⟩
  | n + 1, i, rc, ws, hl, h => by
    have h0 : ((ws[0]?).getD []).length = 4 := by
      rw [List.getElem?_eq_getElem (by omega), Option.getD_some]; exact h _ (List.getElem_mem _)
    have h7 : ((ws[7]?).getD []).length = 4 := by
      rw [List.getElem?_eq_getElem (by omega), Option.getD_some]; exact h _ (List.getElem_mem _)
    have step : ∀ (rc' : Byte) (r : Bytes), r.length = 4 →
        (aesExpand table n (i + 1) rc' (List.zipWith (· ^^^ ·) r ((ws[7]?).getD []) :: ws)).length = ws.length + (n + 1) ∧
        ∀ w ∈ aesExpand table n (i + 1) rc' (List.zipWith (· ^^^ ·) r ((ws[7]?).getD []) :: ws), w.length = 4 := by
      intro rc' r hr
      obtain ⟨a, b⟩ := aesExpand_all table n (i + 1) rc' (List.zipWith (· ^^^ ·) r ((ws[7]?).getD []) :: ws) (by simp only [List.length_cons]; omega) (by
        intro w hw
        rcases List.mem_cons.1 hw with rfl | hw
        · simp [hr, h7]
        · exact h w hw)
      refine ⟨?_, b⟩
      rw [a, List.length_cons]
      omega
    rw [aesExpand]
    dsimp only
    split
    · apply step
      simp [h0]
    · apply step
      split
      · simp [h0]
      · exact h0

theorem flatten_length_four : ∀ ws : List Bytes, (∀ w ∈ ws, w.length = 4) → ws.flatten.length = 4 * ws.length
  | [], _ => rfl
  | w :: ws, h => by
    rw [List.flatten_cons, List.length_append, h w (List.mem_cons_self ..), flatten_length_four ws fun x hx => h x (List.mem_cons_of_mem _ hx),
      List.length_cons]
    omega

theorem aesKeys_last (table : Array Byte) (key : Bytes) (h : key.length = 32) : (((aesKeys table key)[14]?).getD []).length = 16 := by
  obtain ⟨a, b⟩ := chunks_all (n := 4) (by decide) 8 key h
  obtain ⟨c, d⟩ := aesExpand_all table 52 8 1 (chunks 4 8 key).reverse (Nat.le_of_eq (by rw [List.length_reverse, a]))
    fun w hw => b w (List.mem_reverse.1 hw)
  obtain ⟨e, f⟩ := chunks_all (n := 16) (by decide) 15 (aesExpand table 52 8 1 (chunks 4 8 key).reverse).reverse.flatten (by
    rw [flatten_length_four _ fun w hw => d w (List.mem_reverse.1 hw), List.length_reverse, c, List.length_reverse, a])
  rw [aesKeys, List.getElem?_eq_getElem (by rw [e]; decide), Option.getD_some]
  exact f _ (List.getElem_mem _)

theorem gcmTag_length (key nonce aad ct : Bytes) (h : key.length = 32) : (gcmTag key nonce aad ct).length = 16 := by
  have k := aesKeys_last aesTable.toArray key h
  simp only [gcmTag, aesEncrypt, List.length_zipWith, beBytes_length, k, aesShiftRows, List.length_map, List.length_range]
  decide

/-- A frame that is sealed with a key and not encrypted opens with that key to its header and payload. -/
theorem openFrame_sealFrame {key h payload : Bytes} (hk : key.length = 32) (hh : h.length = 24) (hn : u16At h 2 = payload.length)
    (hp : payload.length ≤ 4096) : openFrame key false (sealFrame key false h payload) = some (h, payload) := by
  have t : (sealFrame key false h payload).take 24 = h := by
    simp only [sealFrame, Bool.false_eq_true, if_false, List.append_assoc]
    rw [← hh, List.take_left]
  have d : (sealFrame key false h payload).drop 24 = payload ++ gcmTag key (seamNonce h) (h ++ payload) [] := by
    simp only [sealFrame, Bool.false_eq_true, if_false, List.append_assoc]
    rw [← hh, List.drop_left]
  have l : (sealFrame key false h payload).length = 24 + payload.length + 16 := by
    simp only [sealFrame, Bool.false_eq_true, if_false, List.length_append, hh, gcmTag_length _ _ _ _ hk]
  have s : slice (sealFrame key false h payload) 24 payload.length = payload := by rw [slice, d, List.take_left]
  have g : (sealFrame key false h payload).drop (24 + payload.length) = gcmTag key (seamNonce h) (h ++ payload) [] := by
    rw [← List.drop_drop, d, List.drop_left]
  unfold openFrame
  dsimp only
  rw [t, hn, s, g, l]
  simp only [ne_eq, not_true_eq_false, decide_false, Bool.false_or, decide_eq_true_eq, Bool.false_eq_true, if_false, if_true]
  rw [if_neg (by omega)]

theorem hmacSha256_length (key msg : Bytes) : (hmacSha256 key msg).length = 32 := sha256_length _

end Sys2Proof.Machine
end

