-- ==== Sys2Proof/Machine/Slots.lean ====
section
/-! DEFINITION. Slot words as lane commands (R177, R178, Table 6-3): which command of a lane an instruction word of SLOT_PROGRAMS stands for. -/

namespace Sys2Proof.Machine

/-- Control, engine, constant and move instructions: opcodes 0x00 to 0x0D. -/
def slotControl (l : Fin 4) (f : SlotWord) : Option Instr :=
  let d := Fin.ofNat 512 f.d
  let a := Fin.ofNat 512 f.a
  let tag := Fin.ofNat 32 f.tag
  let n := BitVec.ofNat 28 f.count
  match f.op with
    | 0x00 => some (.laneNop l)
    | 0x01 => some (.laneEnd l)
    | 0x02 => some (.laneWait l d (BitVec.ofNat 32 f.mask))
    | 0x03 => (classOf? f.imm).map fun c => .laneWeft l d c
    | 0x04 => (classOf? f.imm).map fun c => .laneCommit l c
    | 0x05 => some (.laneShut l a (Fin.ofNat 16 f.unit) tag n)
    | 0x06 => some (.laneTrom l a tag n)
    | 0x07 => some (.laneDmai l tag n)
    | 0x08 => some (.laneConstl l d (BitVec.ofNat 32 f.mask))
    | 0x09 => some (.laneConsth l d (BitVec.ofNat 32 f.mask))
    | 0x0A => some (.laneMov l d a)
    | 0x0B => some (.laneAddi l d a (BitVec.ofNat 38 f.imm))
    | 0x0C => some (.laneExt l d a (BitVec.ofNat 6 f.imm) (BitVec.ofNat 6 (f.imm / 64)))
    | 0x0D => some (.laneIns l d a (BitVec.ofNat 6 f.imm) (BitVec.ofNat 6 (f.imm / 64)))
    | _ => none

/-- Integer, logic, compare and select instructions: opcodes 0x10 to 0x3F. -/
def slotInteger (l : Fin 4) (f : SlotWord) : Option Instr :=
  let d := Fin.ofNat 512 f.d
  let a := Fin.ofNat 512 f.a
  let b := Fin.ofNat 512 f.b
  let c := Fin.ofNat 512 f.c
  match f.op with
    | 0x10 => some (.laneAdd32 l d a b)
    | 0x11 => some (.laneSub32 l d a b)
    | 0x12 => some (.laneMul32 l d a b)
    | 0x13 => some (.laneDivs32 l d a b)
    | 0x14 => some (.laneDivu32 l d a b)
    | 0x18 => some (.laneAdd64 l d a b)
    | 0x19 => some (.laneSub64 l d a b)
    | 0x1A => some (.laneMul64 l d a b)
    | 0x1B => some (.laneDivs64 l d a b)
    | 0x1C => some (.laneDivu64 l d a b)
    | 0x20 => some (.laneAnd l d a b)
    | 0x21 => some (.laneOr l d a b)
    | 0x22 => some (.laneXor l d a b)
    | 0x23 => some (.laneNot l d a)
    | 0x24 => some (.laneShl l d a b)
    | 0x25 => some (.laneShr l d a b)
    | 0x26 => some (.laneSar l d a b)
    | 0x28 => some (.laneMins l d a b)
    | 0x29 => some (.laneMaxs l d a b)
    | 0x2D => some (.laneSx8 l d a)
    | 0x2E => some (.laneSx16 l d a)
    | 0x2F => some (.laneSx32 l d a)
    | 0x30 => some (.laneCeq l d a b)
    | 0x31 => some (.laneCne l d a b)
    | 0x32 => some (.laneClts l d a b)
    | 0x33 => some (.laneCltu l d a b)
    | 0x34 => some (.laneCles l d a b)
    | 0x35 => some (.laneCleu l d a b)
    | 0x36 => some (.laneFceq32 l d a b)
    | 0x37 => some (.laneFclt32 l d a b)
    | 0x38 => some (.laneFcle32 l d a b)
    | 0x39 => some (.laneFcun32 l d a b)
    | 0x3A => some (.laneFceq64 l d a b)
    | 0x3B => some (.laneFclt64 l d a b)
    | 0x3C => some (.laneFcle64 l d a b)
    | 0x3D => some (.laneFcun64 l d a b)
    | 0x3E => some (.laneSel l d a b c)
    | 0x3F => some (.laneBsel l d a b c)
    | _ => none

/-- Floating-point and composite instructions: opcodes 0x40 to 0x63. -/
def slotFloat (l : Fin 4) (f : SlotWord) : Option Instr :=
  let d := Fin.ofNat 512 f.d
  let a := Fin.ofNat 512 f.a
  let b := Fin.ofNat 512 f.b
  match f.op with
    | 0x40 => some (.laneFadd32 l d a b)
    | 0x41 => some (.laneFsub32 l d a b)
    | 0x42 => some (.laneFmul32 l d a b)
    | 0x43 => some (.laneFdiv32 l d a b)
    | 0x44 => some (.laneFsqrt32 l d a)
    | 0x45 => some (.laneFmin32 l d a b)
    | 0x46 => some (.laneFmax32 l d a b)
    | 0x47 => some (.laneFabs32 l d a)
    | 0x48 => some (.laneFneg32 l d a)
    | 0x4C => some (.laneCvtf32i32 l d a)
    | 0x4D => some (.laneCvti32f32 l d a)
    | 0x4E => some (.laneCvtf64f32 l d a)
    | 0x4F => some (.laneCvtf32f64 l d a)
    | 0x50 => some (.laneFadd64 l d a b)
    | 0x51 => some (.laneFsub64 l d a b)
    | 0x52 => some (.laneFmul64 l d a b)
    | 0x53 => some (.laneFdiv64 l d a b)
    | 0x54 => some (.laneFsqrt64 l d a)
    | 0x55 => some (.laneFmin64 l d a b)
    | 0x56 => some (.laneFmax64 l d a b)
    | 0x57 => some (.laneFabs64 l d a)
    | 0x58 => some (.laneFneg64 l d a)
    | 0x5C => some (.laneCvtf64i64 l d a)
    | 0x5D => some (.laneCvti64f64 l d a)
    | 0x60 => some (.laneScl32 l d a b)
    | 0x61 => some (.laneClamp32 l d a b)
    | 0x62 => some (.laneFilt32 l d a b)
    | 0x63 => some (.laneRamp32 l d a b)
    | _ => none

/-- Loads, stores, register and port accesses: opcodes 0x68 to 0x73. -/
def slotAccess (l : Fin 4) (f : SlotWord) : Option Instr :=
  let d := Fin.ofNat 512 f.d
  let a := Fin.ofNat 512 f.a
  let imm := BitVec.ofNat 38 f.imm
  match f.op with
    | 0x68 => some (.laneLd8 l d a imm)
    | 0x69 => some (.laneLd16 l d a imm)
    | 0x6A => some (.laneLd32 l d a imm)
    | 0x6B => some (.laneLd64 l d a imm)
    | 0x6C => some (.laneSt8 l d a imm)
    | 0x6D => some (.laneSt16 l d a imm)
    | 0x6E => some (.laneSt32 l d a imm)
    | 0x6F => some (.laneSt64 l d a imm)
    | 0x70 => some (.laneLdw l d a imm)
    | 0x71 => some (.laneStw l d a imm)
    | 0x72 => some (.laneLdp l d a imm)
    | 0x73 => some (.laneStp l d a imm)
    | _ => none

/-- The command that a slot word is on a lane; none for a word that verification refuses (R177). -/
def slotInstr (l : Fin 4) (w : Nat) : Option Instr :=
  let f := slotFields w
  if !slotWordOk w then none
  else if f.op < 0x10 then slotControl l f
  else if f.op < 0x40 then slotInteger l f
  else if f.op < 0x64 then slotFloat l f else slotAccess l f

/-- The command of lane `l` that its program gives next. -/
def State.nextSlot (s : State) (l : Fin 4) : Option Instr :=
  (((tickPrograms (sectBody s.sections 10) (tickIndex s.tick))[l.val]?).bind fun p => p[(s.lane l).pc]?).bind (slotInstr l)

end Sys2Proof.Machine
end

