-- ==== Sys2Proof/Tests/Slice0.lean ====
section
/-! SUPPORT. Tests: each check of WellFormed refuses a command, each statement's hypotheses have states that meet them (a witness for each), and small
commands give what the tables of the spec say. -/

namespace Sys2Proof.Tests
open Sys2Proof.Machine

set_option maxRecDepth 20000

/-! ### Small states -/

/-- The state after reset in another lifecycle state, with no reset asserted. -/
def st (m : Mode) : State :=
  { State.reset with mode := m, rst := { resetBlock0 with asserted := [], holding := [], episode := none } }

/-- A request over USB without authentication. -/
def rq : Req := ⟨.usb, 5, 7, 0, 0, 0, 0, none, false, true, false⟩

def rx0 : NetRx := ⟨.a, 5, none, none, 0⟩
def dg : Datagram := ⟨true, .udp, rx0, false, 0, 0, 0, 0, 0, [], true, false⟩
def fr : CanFrame := ⟨0, 8, false, zeros 8, 0⟩

/-! ### Ill-formed commands are refused, one for each check -/

theorem smoke_requests : [{ rq with source := 65536 }, { rq with seq := 65536 }, { rq with dest := 65536 }, { rq with port := 65536 }, { rq with toIp := 4294967296 },
    { rq with ip := 4294967296 }, { rq with auth := some 16 }, { rq with encrypt := true }].all (fun r => !wellFormed (.load r)) = true ∧
    wellFormed (.load rq) = true := by decide

theorem refuses_last {a b : Bool} (h : b = false) : (a && b) = false := by rw [h, Bool.and_false]

theorem smoke_items : wellFormed (.writeMulti rq []) = false ∧ wellFormed (.readMulti rq (List.replicate 65 0)) = false ∧
    (∀ v : List Byte, 65536 ≤ v.length → wellFormed (.objectWrite rq 0 v) = false ∧ wellFormed (.write rq 0 v) = false ∧
      wellFormed (.timeSetWrite rq v) = false ∧ wellFormed (.hartRequestWrite rq 0 v) = false ∧ wellFormed (.warpKeyWrite rq 0 v false) = false ∧
      wellFormed (.safetySetKeyWrite rq 0 v false) = false ∧ wellFormed (.conduitKeyWrite rq 0 v) = false ∧ wellFormed (.seamKeyWrite rq 0 v) = false ∧
      wellFormed (.writeMulti rq [(0, v)]) = false) := by
  refine ⟨rfl, rfl, fun v h => ?_⟩
  have h : itemOk v = false := by simp [itemOk, h]
  have g : (reqOk rq && itemOk v) = false := refuses_last h
  have k : (reqOk rq && countOk 1 && (itemOk v && true)) = false := refuses_last (by rw [h, Bool.false_and])
  exact ⟨g, g, g, g, g, g, g, g, k⟩

theorem smoke_lengths :
    (∀ v : List Byte, 8960 < v.length → wellFormed (.domainWriteSegment rq 0 0 v) = false ∧ wellFormed (.pd 0 0 none false 0 v) = false) ∧
    (∀ v : List Byte, 65536 ≤ v.length → wellFormed (.hello v) = false ∧ wellFormed (.weftFrame v .q []) = false ∧ wellFormed (.stateFrame v) = false ∧
      wellFormed (.closeFrameReceive v) = false ∧ wellFormed (.dictFrame v) = false ∧ wellFormed (.bankFrame v) = false ∧
      wellFormed (.resyncFrame v) = false ∧ wellFormed (.persistFrame v) = false ∧ wellFormed (.ackFrame v) = false ∧
      wellFormed (.barrierFrameReceive true .a 0 (some v)) = false ∧ wellFormed (.presenceFrameReceive rx0 v) = false ∧
      wellFormed (.icmpEcho (.net rx0) 0 0 v) = false) ∧
    (∀ v : List Byte, 4096 < v.length → wellFormed (.recoveryFrame 0 0 v) = false) := by
  refine ⟨fun v h => ?_, fun v h => ?_, fun v h => ?_⟩
  · have h : payloadOk v = false := by simp [payloadOk, h]
    have g : (reqOk rq && payloadOk v) = false := refuses_last h
    have k : (decide (0 < 2 ^ 32) && slotOk none && authOk none false && payloadOk v) = false := refuses_last h
    exact ⟨g, k⟩
  · have h : frameOk v = false := by simp [frameOk, h]
    have g : (netRxOk rx0 && frameOk v) = false := refuses_last h
    have k : (netRxOk rx0 && decide (0 < 2 ^ 32) && decide (0 < 2 ^ 32) && frameOk v) = false := refuses_last h
    exact ⟨h, by rw [wellFormed, List.append_nil]; exact h, h, h, h, h, h, h, h, h, g, k⟩
  · show recoveryOk v = false
    simp [recoveryOk]
    omega

theorem smoke_frames : [{ rx0 with mac := 2 ^ 48 }, { rx0 with ns := 250000 }, { rx0 with rct := some (16, 0) }, { rx0 with rct := some (0, 65536) }, { rx0 with vlan := some 4096 }].all
    (fun r => !wellFormed (.igmpQuery r)) = true ∧ wellFormed (.igmpQuery rx0) = true := by decide

theorem smoke_datagrams : [{ dg with rx := { rx0 with ns := 250000 } }, { dg with srcIp := 2 ^ 32 }, { dg with dstIp := 2 ^ 32 }, { dg with srcPort := 65536 },
    { dg with dstPort := 65536 }, { dg with checksum := 65536 }].all (fun d => !wellFormed (.clpPacketReceive d)) = true ∧
    wellFormed (.clpPacketReceive dg) = true ∧ wellFormed (.clpPacketReceive { dg with kind := .supervision }) = true := by decide

theorem smoke_network : wellFormed (.pd 0 (2 ^ 32) none false 0 []) = false ∧ wellFormed (.pd 0 0 (some 16) false 0 []) = false ∧
    wellFormed (.pd 0 0 none true 0 []) = false ∧ wellFormed (.arpRequest (.net rx0) (2 ^ 32) 0) = false ∧ wellFormed (.arpRequest (.net rx0) 0 (2 ^ 32)) = false ∧
    wellFormed (.arpRefresh 0 (some (2 ^ 48))) = false ∧ wellFormed (.icmpEcho (.net rx0) 0 (2 ^ 32) []) = false ∧ wellFormed (.arpRequest (.usb (2 ^ 48) 0) 0 0) = false ∧
    wellFormed (.icmpEcho (.usb 0 250000) 0 0 []) = false ∧
    wellFormed (.portLinkUp .a 10) = false ∧ wellFormed (.pathLost .a 0) = false := by decide

theorem smoke_field : wellFormed (.canFrameReceive 0 (.frame { fr with data := zeros 65 })) = false ∧
    wellFormed (.canWake 0 ⟨.frame { fr with data := zeros 65 }, false⟩) = false ∧
    wellFormed (.fieldEdgeApply .a ⟨0, 0, [0], [], [], [], 0, [], [], 0⟩) = false ∧ wellFormed (.islandScan [0, 0, 0]) = false ∧
    wellFormed (.tpFrame [] (List.replicate 4 0)) = false ∧ wellFormed (.tpFrame (List.replicate 8 0) []) = false ∧
    wellFormed (.canaryIslandFault (.setDigest [])) = false ∧ wellFormed (.hartResponse 0 ⟨false, 0, 0, 0, zeros 256⟩) = false := by decide

theorem smoke_records : wellFormed (.tallyWrite 0 [0, 0, 0, 0, 0]) = false ∧ wellFormed (.updateStart ⟨[], false, false⟩) = false ∧
    wellFormed (.episodeClose ⟨0, false, [(184, 0)], false, none, none⟩) = false ∧ wellFormed (.episodeClose ⟨0, false, [], false, some [], none⟩) = false ∧
    wellFormed (.episodeClose ⟨0, false, [], false, none, some []⟩) = false ∧ wellFormed (.canaryTickCheck ⟨0, none, false, [], none, (0, 0), [⟨.loomTables, 0, 2 ^ 32⟩]⟩) = false ∧
    wellFormed (.recoveryFrame 0 0 []) = false ∧ wellFormed (.timeSetWrite { rq with seq := 65536 } []) = false ∧
    wellFormed (.warpKeyWrite { rq with seq := 65536 } 0 [] false) = false := by decide

/-! ### Witnesses: states and operands that meet the hypotheses of the statements -/

theorem witness_StepRunsFrontCommand : ({ State.reset with pending := [.tickEdge] } : State).pending = [.tickEdge] := rfl

theorem witness_EmptyQueueIdles : State.reset.pending = [] := rfl

theorem witness_StepKeepsMemoryCanonical : State.reset.MemOk ∧ step State.reset = .next State.reset := ⟨⟨rfl, rfl, rfl⟩, rfl⟩

theorem witness_LifecycleFollowsTheTable :
    ∃ t, step { State.reset with pending := [.logicSupplyRise] } = .next t ∧ t.mode ≠ State.reset.mode := ⟨_, rfl, by decide⟩

/-- Fuses that have burned: the debug lock, a revoked firmware slot, and key slots installed, revoked and damaged. -/
def burnt : State :=
  { State.reset with keys := { deliveredKeys with lockFuse := true, firmwareStatus := deliveredKeys.firmwareStatus.set 1 2
                                                  warpStatus := (deliveredKeys.warpStatus.set 1 2).set 2 3 } }

theorem witness_FusesOnlyBurn : step burnt = .next burnt ∧ burnt.keys.lockFuse = true ∧ burnt.keys.firmwareStatus[1] = 2 ∧
    burnt.keys.statusOf 1 1 = 2 ∧ burnt.keys.statusOf 1 2 = 3 := ⟨rfl, rfl, rfl, rfl, rfl⟩

/-! Boundaries: the next edge is tick 4000. -/

/-- A lifecycle state just before the boundary 4000. -/
def eve (m : Mode) : State := { st m with tick := 3999, ticking := true }

/-- A loaded image with these sections. -/
def image (ss : List Section) : Loaded := ⟨0, zeros 32, zeros 192, ss, [], ⟨0, 0, 0, 0, 0, 0, 0, 0, 0⟩, []⟩

def withImage (s : State) (ss : List Section) : State := { s with warp := { s.warp with loaded := some (image ss) } }

/-- A section with this body. -/
def sec (type : Nat) (body : Bytes) : Section := ⟨type, 0, 0, 0, 0, body⟩

theorem witness_StationTransitionsComplete_starts :
    (let s : State := { (st .ready).setNum Obj.tickSource 0 with rst := { resetBlock0 with autoArmed := true } }
     s.mode = .ready ∧ s.rst.autoArmed = true ∧ s.optFallback = false ∧ s.num Obj.tickSource = 0) ∧
    (let s : State := { (st .ready).setNum Obj.lockWait 10 with rst := { resetBlock0 with autoArmed := true }, localNs := 10000000000 }
     s.num Obj.tickSource ≠ 0 ∧ s.rst.readyNs + s.num Obj.lockWait * 1000000000 ≤ s.localNs) ∧
    (let s : State := { (st .ready).setNum Obj.lockWait 10 with localNs := 9999999999 }
     s.num Obj.tickSource ≠ 0 ∧ s.localNs < s.rst.readyNs + s.num Obj.lockWait * 1000000000) ∧
    (st .service).mode ≠ .ready ∧ (st .ready).nextEdge % 4000 ≠ 0 ∧
    (let s : State := { eve .ready with command := some ⟨3, 4000, false⟩ }
     s.nextEdge % 4000 = 0 ∧ s.command = some ⟨3, 4000, false⟩ ∧ 4000 ≤ s.nextEdge ∧ s.mode = .ready ∧ s.pairEnabled = false) ∧
    (let s : State := { eve .service with command := some ⟨3, 4000, false⟩ }; s.nextEdge % 4000 = 0 ∧ s.mode ≠ .ready) ∧
    (let s : State := { eve .ready with rst := { resetBlock0 with autoAt := some 4000 } }
     s.nextEdge % 4000 = 0 ∧ s.command = none ∧ s.rst.autoAt = some 4000 ∧ 4000 ≤ s.nextEdge ∧ s.mode = .ready ∧ s.pairEnabled = false) ∧
    (let s : State := { eve .ready with warp := { State.reset.warp with restart := some (4000, true) } }; s.due 4000 = true ∧ s.mode = .ready) ∧
    (let s : State := { eve .ready with warp := { State.reset.warp with restart := some (8000, true) } }; s.due 8000 = false) ∧
    (let s : State := { eve .service with warp := { State.reset.warp with restart := some (4000, true) } }; s.due 4000 = true ∧ s.mode ≠ .ready) := by
  decide

theorem witness_StationTransitionsComplete_rest :
    (let s : State := { eve .run with command := some ⟨4, 4000, false⟩ }
     s.due 4000 = true ∧ s.due 8000 = false ∧ s.mode = .run ∧ s.warp.activation = none) ∧
    (let s : State := { eve .ready with command := some ⟨4, 4000, false⟩ }; s.due 4000 = true ∧ s.mode.running = false) ∧
    (let s : State := { withImage (eve .run) [] with profileChange := some (3, 4000) }
     s.due 4000 = true ∧ s.warp.loaded.isSome = true ∧ s.mode.running = true) ∧
    (let s : State := { eve .ready with profileChange := some (3, 8000) }; s.due 8000 = false) ∧
    (st .ready).restore = none ∧
    (let s : State := { st .ready with restore := some (0x1000, 0x1003) }; s.restore = some (0x1000, 0x1003) ∧ Assoc.wf s.stored = true) := by
  decide

/-- Bank A holds these bytes, in this state of Table 5-16. -/
def withBank (s : State) (b : Nat) (content : Bytes) : State := (s.setDomain (bankDomain 0) ⟨content, 1⟩).setNum (Obj.bankState 0) b

theorem witness_BankVerificationEnds :
    (st .service).pair.fetching = false ∧ (st .service).num (Obj.bankState 0) ≠ 2 ∧
    (let s := withBank (st .service) 2 []; s.num (Obj.bankState 0) = 2 ∧ s.warp.loading = false ∧ s.bankImage 0 = []) ∧
    (let s := withBank (st .service) 2 (zeros 100)
     s.num (Obj.bankState 0) = 2 ∧ s.warp.loading = false ∧ s.bankImage 0 ≠ [] ∧ ({ s with warp := { s.warp with written := [0] } } : State).warp.written.contains 0 = true ∧ verifyFault s.verifyContext (s.bankImage 0) = some (1, 0)) ∧
    (let s := withBank { st .service with warp := { State.reset.warp with loading := true } } 2 (zeros 100)
     s.num (Obj.bankState 0) = 2 ∧ s.warp.loading = true ∧ s.num Obj.selectedBank = 0 ∧ s.mode = .service ∧ s.pair.fetching = false) := by
  decide

/-- A state with an activation of bank B pending. -/
def activating (m : Mode) (a : PendingActivation) : State :=
  { eve m with warp := { State.reset.warp with loaded := some (image []), activation := some a } }

theorem witness_ActivationProceeds :
    (let s := activating .run ⟨1, 16000, true, none, false⟩
     s.warp.activation = some ⟨1, 16000, true, none, false⟩ ∧ s.warp.loaded = some (image []) ∧ s.mode = .run ∧ s.due (16000 - 4000) = false) ∧
    (let s := activating .run ⟨1, 8000, true, none, false⟩; s.mode = .run ∧ 4000 ≤ 8000 ∧ s.due (8000 - 4000) = true) ∧
    (let s := activating .run ⟨1, 8000, true, some (image []), false⟩; s.mode = .run ∧ s.due (8000 - 4000) = true ∧ s.due 8000 = false) ∧
    (let s := activating .run ⟨1, 4000, true, none, true⟩; s.due 4000 = true ∧ s.command = none ∧ s.mode = .run) ∧
    (let s := activating .standby ⟨1, 4000, true, none, true⟩; s.due 4000 = true ∧ s.command = none ∧ s.mode = .standby) ∧
    (let s := activating .run ⟨1, 4000, true, some (image []), true⟩; s.due 4000 = true ∧ s.mode = .run ∧ s.command = none) ∧
    (let s := activating .run ⟨1, 4000, false, some (image []), true⟩; s.due 4000 = true ∧ s.mode = .run ∧ s.command = none) := by
  decide

/-! The dictionary. -/

/-- An image with one group, and one loop. -/
def oneGroup : Section := sec 6 (zeros 28 ++ [1, 0, 0, 0] ++ zeros 48)
def oneLoop : Section := sec 4 ([1, 0, 0, 0] ++ zeros 68)

theorem witness_RefusedWriteChangesNothing :
    (st .service).servesReq rq = true ∧ rq.fails = false ∧ (st .service).servesReq { rq with fails := true } = true ∧
    (let u := (st .service).count Obj.requestsExecuted
     u.writeCode rq 0xFFFF01 [0] = Status.noObject ∧ u.indexDefined (addrIndex 0xFFFF01) = false ∧
     u.writeCode rq 0x1000FE [0] = Status.noSubindex ∧ u.indexDefined 0x1000 = true ∧ u.objRow? 0x1000FE = none ∧
     u.writeCode rq Obj.stationState [0] = Status.readOnly ∧ (u.objRow? Obj.stationState).any (fun o => o.access == .ro) = true ∧
     u.writeCode rq Obj.startMode [9] = Status.range) := by decide

theorem witness_AcceptedWritesTakeTheirValues_one :
    (let s := withImage (st .run) [oneLoop]
     s.servesReq rq = true ∧ (s.count Obj.requestsExecuted).writeCode rq (loopObj 0 1) [1] = Status.ok ∧
     (s.objRow? (loopObj 0 1)).any (fun o => o.access != .wo && o.effect == .weft && o.persistent) = true ∧
     loopObj 0 1 ∉ requestObjects ∧ loopObj 0 1 ∉ derivedObjects ∧ addrSub (loopObj 0 1) ≠ 0x20) ∧
    (let s := st .service
     (s.count Obj.requestsExecuted).writeCode rq Obj.startMode [1] = Status.ok ∧
     (s.objRow? Obj.startMode).any (fun o => o.access != .wo && o.effect != .weft && o.range != .zero && o.persistent) = true ∧
     isOption Obj.startMode = false ∧ Obj.startMode ∉ requestObjects ∧ Obj.startMode ∉ derivedObjects) ∧
    (let s := st .service
     (s.count Obj.requestsExecuted).writeCode rq Obj.pdDropped [0, 0, 0, 0] = Status.ok ∧
     (s.objRow? Obj.pdDropped).any (fun o => o.access != .wo && o.effect != .weft && o.range == .zero) = true ∧
     isOption Obj.pdDropped = false ∧ Obj.pdDropped ∉ requestObjects ∧ Obj.pdDropped ∉ derivedObjects) := by decide

theorem witness_AcceptedWritesTakeTheirValues_many :
    (let u := (st .service).count Obj.requestsExecuted
     (st .service).servesReq rq = true ∧ u.firstFailure rq 0 [(Obj.startMode, [1]), (Obj.stationState, [0])] = some (1, Status.readOnly) ∧
     u.firstFailure rq 0 [(Obj.startMode, [1])] = none ∧ rxBufferOf Obj.startMode = none) ∧
    (let s := withImage (st .run) [oneLoop]
     (s.count Obj.requestsExecuted).firstFailure rq 0 [(loopObj 0 1, [1])] = none ∧ loopObj 0 1 ≠ Obj.stationCommand ∧
     (s.objRow? (loopObj 0 1)).any (fun o => o.effect == .weft) = true) := by decide

theorem witness_StationCommandsRefused :
    (st .service).servesReq rq = true ∧ ((9 : Nat), (st .service).mode) ∉ ([(1, .service), (2, .ready)] : List (Nat × Mode)) ∧
    (st .run).servesReq rq = true ∧ (st .run).paired = false ∧
    (let s : State := { st .ready with command := some ⟨3, 4000, false⟩ }
     s.servesReq rq = true ∧ s.command.isSome = true ∧
     (s.count Obj.requestsExecuted).writeCode rq Obj.stationCommand [3] = Status.busy) := by decide

/-- A write that every check of Table 2-3 lets pass. -/
def taken (s : State) (r : Req) (a : Nat) (v : Bytes) : Bool := s.servesReq r && !r.fails && decide ((s.count Obj.requestsExecuted).writeCode r a v = Status.ok)

theorem writeTaken_of {s : State} {r : Req} {a : Nat} {v : Bytes} (h : taken s r a v = true) : s.WriteTaken r a v := by
  simpa [taken, State.WriteTaken, State.Executes] using h

theorem witness_StationWritesTakeEffect :
    taken (st .service) rq Obj.stationCommand [1] = true ∧ (st .service).num Obj.selectedBank < 2 ∧
    taken (withImage (st .ready) []) rq Obj.stationCommand [2] = true ∧ taken (eve .ready) rq Obj.stationCommand [3] = true ∧
    taken (eve .run) rq Obj.stationCommand [4] = true ∧ taken (st .service) rq Obj.stationCommand [6] = true ∧
    taken (st .service) rq Obj.profile [1] = true ∧ taken (st .service) rq Obj.resetRequest [1] = true ∧
    taken ((st .service).setNum Obj.restoreFirst 0x1000 |>.setNum Obj.restoreLast 0x1003) rq Obj.restoreCommand (leBytes 4 0x64666C74) = true ∧
    taken (st .service) rq Obj.resetCauseClear (leBytes 2 1) = true ∧
    (let s := activating .run ⟨1, 16000, true, none, false⟩; taken s rq Obj.activateCancel [1] = true ∧ s.warp.activation.isSome = true) := by decide

theorem witness_StationWritesTakeEffect_more :
    (let s := ((((eve .run).setDetail 3 true).setDetail 4 true).setNum Obj.partnerState 5); taken s rq Obj.stationCommand [5] = true) ∧
    (let s := ((eve .run).setDomain (bankDomain 1) ⟨zeros 16 ++ List.replicate 16 255 ++ zeros 300, 1⟩).setNum (Obj.bankState 1) 3
     taken (withImage s []) rq Obj.activateBank [1] = true) := by decide

theorem witness_UnitWritesAccepted :
    taken ((st .service).setTimeState .jumpRefused) rq Obj.reStepPermit [1] = true ∧ taken (st .service) rq Obj.timeSet (zeros 12) = true ∧
    (let s := (st .service).setNum (Obj.canState 0) canBusOffState
     taken s rq (Obj.recover 0) [1] = true ∧ s.num (Obj.canState 0) = canBusOffState) ∧
    taken (st .service) rq (Obj.detectCommand 0) [1] = true ∧
    (let s := (st .service).setChan 0 { (st .service).chan 0 with detect := some ⟨0, 0, 0, false⟩ }
     taken s rq (Obj.detectCommand 0) [0] = true ∧ (s.chan 0).detect.isSome = true) ∧
    taken ((st .service).setNum Obj.pendingState 3) rq Obj.safetySetConfirm (leBytes 4 0) = true ∧
    taken (withImage (st .run) [oneLoop]) rq (loopObj 0 0x20) [0] = true ∧
    taken ((st .service).setNum (Obj.hartState 0) hartConnected) rq (Obj.hartRequest 0) (zeros (objSize (Obj.hartRequest 0))) = true ∧
    taken { st .service with tally := { blankTallies with head := 5 } } rq Obj.tallySelect (leBytes 8 5) = true ∧
    taken (st .service) rq Obj.faceplatePage [1] = true := by decide

/-- The generator of P-256 as a key (R532). -/
def somePoint : Bytes := leBytes 32 p256Gx ++ leBytes 32 p256Gy

theorem witness_KeyWritesAccepted :
    taken (st .service) rq (Obj.warpKey 0) somePoint = true ∧ (st .service).writeCode rq (Obj.warpKey 0) somePoint = Status.ok ∧
    taken (st .service) rq (Obj.safetySetKey 0) somePoint = true ∧ taken (st .service) rq Obj.revokeKey (leBytes 2 0x5100) = true ∧
    taken (st .service) rq Obj.revokeKey (leBytes 2 0x5200) = true ∧ taken (st .service) rq (Obj.conduitKey 0) (zeros 32) = true ∧
    taken (st .service) rq (Obj.seamKey 0) (zeros 32) = true ∧
    taken { st .service with firmware := { State.reset.firmware with running := some (0, 0, 3, 0) } } rq Obj.commitSecurityVersion [3] = true ∧
    taken (st .service) rq Obj.debugLockCommand (leBytes 4 0x4B434F4C) = true := by decide

/-! Packets and the network. -/

/-- The 32-byte header of a request (Table 3-2). -/
def hd (command flags seq length slot : Nat) : Bytes :=
  leBytes 4 0x39504C43 ++ [1, byte command] ++ leBytes 2 flags ++ leBytes 2 seq ++ leBytes 2 5 ++ zeros 4 ++ leBytes 2 length ++ [byte slot] ++ zeros 13

/-- A datagram over USB to the service port. -/
def usbPacket (data : Bytes) : Datagram :=
  { dg with usb := true, srcIp := usbHostIp, dstIp := usbStationIp, dstPort := 48010, data := data, excluded := false
            checksum := udpChecksum usbHostIp usbStationIp 0 48010 data }

/-- A source that has sent SEQUENCE 7 and been answered with one byte. -/
def heard : State := { st .service with clp := { blankClp with seqs := [⟨0xFFFF, 7, [(7, [1])]⟩] } }

/-- The steps that a request over USB passes (R66, R72, R78). -/
def screened (s : State) (d : Datagram) : Bool :=
  d.usb && s.serves && s.options.inForce.usb && !d.excluded && decide (d.srcIp = usbHostIp) && decide (d.dstIp = usbStationIp) &&
    decide (d.dstPort = s.started Obj.clpPort) && checksumOk d

theorem atStep3_of {s : State} {d : Datagram} (h : screened s d = true) : s.AtStep3 d := by
  simpa [screened, State.AtStep3, and_assoc] using h

def asRequest (s : State) (d : Datagram) : Bool :=
  screened s d && decide (32 ≤ d.data.length) && decide (u32At d.data 0 = 0x39504C43) &&
    s.destinationOk true (u8At d.data 5) (u16At d.data 12) && !bit (u16At d.data 6) 0 && !bit (u16At d.data 6) 1 && !bit (u16At d.data 6) 4 &&
    decide (s.headerCode true d.data = Status.ok) && decide (s.num Obj.authModeUsb = 0)

theorem usbRequest_of {s : State} {d : Datagram} (h : asRequest s d = true) : s.UsbRequest d := by
  simp [asRequest, screened] at h
  obtain ⟨⟨⟨⟨⟨⟨⟨⟨⟨⟨⟨⟨⟨⟨⟨a, b⟩, c⟩, d⟩, e⟩, f⟩, g⟩, q⟩, i⟩, j⟩, k⟩, l⟩, m⟩, n⟩, o⟩, p⟩ := h
  exact ⟨a, ⟨b, c⟩, ⟨d, e, f, g, q⟩, ⟨i, j⟩, k, ⟨l, m, n⟩, o, p⟩

theorem witness_PacketsAreScreened :
    (st .off).serves = false ∧ screened (st .service) (usbPacket (zeros 40)) = true ∧
    (let d := usbPacket (hd 1 0 7 9 0); screened (st .service) d = true ∧ (st .service).headerCode true d.data ≠ Status.ok) ∧
    (let d := usbPacket (hd 1 2 7 0 3 ++ zeros 16)
     screened (st .service) d = true ∧ (st .service).headerCode true d.data = Status.ok ∧ (requestOf d).auth = some 3 ∧
       (st .service).conduitKey 3 = none) ∧
    (let d := usbPacket (hd 0x10 0 7 4 0 ++ leBytes 4 Obj.stationState)
     asRequest (st .service) d = true ∧ (st .service).seqRecord 0xFFFF = none ∧ d.data.length = 36 ∧
     asRequest heard d = true ∧ (requestOf d).seq = 7 ∧ heard.seqRecord 0xFFFF = some ⟨0xFFFF, 7, [(7, [1])]⟩) ∧
    (let d := usbPacket (hd 0x10 0 6 4 0 ++ leBytes 4 Obj.stationState); asRequest heard d = true ∧ newer16 (requestOf d).seq 7 = false) ∧
    asRequest (st .service) (usbPacket (hd 1 0 7 0 0)) = true ∧
    asRequest (st .service) (usbPacket (hd 0x11 0 7 9 0 ++ leBytes 4 Obj.startMode ++ leBytes 2 1 ++ zeros 2 ++ [1])) = true := by decide

/-- A write transfer of bank A and a read transfer, both open for the source over USB. -/
def transferring : State :=
  { (st .service).setDomain (bankDomain 0) ⟨[1, 2], 2⟩ with clp := { blankClp with
      transfers := [⟨1, true, 0xFFFF, bankDomain 0, 4, 0, []⟩, ⟨2, false, 0xFFFF, bankDomain 1, 2, 0, [8, 9]⟩] } }

theorem witness_SessionsAndTransfers :
    (st .service).servesReq rq = true ∧ rq.iface = .usb ∧ rq.auth = none ∧
    ((st .service).clp.transfers.all fun x => decide (x.id ≠ 1)) = true ∧ (transferring.clp.transfers.find? fun x => decide (x.id = 1)).isSome = true ∧
    (let u := (st .service).count Obj.requestsExecuted
     u.beginCode 0xFFFF01 4 ≠ 0 ∧ u.beginCode (bankDomain 0) 400 = 0 ∧ u.domainCode (bankDomain 1) = 0) ∧
    (st .service).transferOf rq 1 = none ∧
    (transferring.transferOf rq 1).any (fun x => x.write && decide ((transferring.domain x.addr).content.length < 3) && decide (2 + 2 ≤ x.total) &&
      decide ((transferring.domain x.addr).content.length ≠ x.total)) = true ∧
    (transferring.transferOf rq 2).any (fun x => !x.write && decide (2 ≤ x.content.length)) = true ∧ 2 ≤ transferring.payloadRoom rq ∧
    (let s := { transferring with clp := { blankClp with transfers := [⟨1, true, 0xFFFF, bankDomain 0, 2, crc32c [1, 2], []⟩] } }
     (s.transferOf rq 1).any (fun x => decide ((s.domain x.addr).content.length = x.total) && decide (crc32c (s.domain x.addr).content = x.crc) &&
       decide (x.addr ≠ Obj.faceplateUserImage)) = true) := by decide

/-- Process data: layout 1, received from node 6 at 10.0.0.9 in class Q with a body of 4 bytes, and layout 2, transmitted to that multicast or
unicast address. -/
def layoutBytes (id direction : Nat) (ip : Bytes) : Bytes :=
  leBytes 2 id ++ [byte direction, 0] ++ leBytes 2 6 ++ zeros 2 ++ ip.reverse ++ [0, 0, 4, 0] ++ leBytes 2 4 ++ zeros 2 ++ zeros 4

def layoutsTo (ip : Bytes) : Section := sec 2 ([2, 0, 0, 0] ++ zeros 4 ++ layoutBytes 1 0 [10, 0, 0, 9] ++ layoutBytes 2 1 ip)

/-- A module with an IPv4 address. -/
def addressed (m : Mode) : State := { st m with inForce := [(Obj.iPv4Address, [10, 0, 0, 1])], prp := { blankPrp with rates := Vector.replicate 2 100, lost := Vector.replicate 2 false } }

def exchanging (ip : Bytes) : State :=
  { withImage (addressed .run) [layoutsTo ip] with pd := { rx := [(0, ⟨7, 0, some (7, zeros 16)⟩)], tx := [(0, ⟨4000, zeros 4⟩)] } }

def pdPayload : Bytes := leBytes 2 1 ++ zeros 14

/-- A request over the network. -/
def nrq : Req := { rq with iface := .portA }

def subscribed : State :=
  { addressed .run with clp := { blankClp with subs := [⟨1, nrq, 0, 0xFFFF, 1, 0, [], false⟩] }, tally := { blankTallies with headKnown := true } }

theorem witness_ProcessDataAndSubscriptions :
    (st .service).netServes = false ∧
    (let s := exchanging [10, 0, 0, 9]
     s.netServes = true ∧
     ((rxLayouts s.sections).zipIdx.find? fun e => decide (e.1.id = u16At pdPayload 0)).any (fun e => decide (e.2 = 0) &&
       s.mode.running && decide (e.1.peerNode = 6) && decide (e.1.peerIp = beNat [10, 0, 0, 9]) && decide (pdPayload.length = 12 + e.1.bodyLength) &&
       layoutAuthOk e.1 none false && s.pdSequenceOk e.1 (Assoc.get? s.pd.rx 0) 8 && !s.pdSequenceOk e.1 (Assoc.get? s.pd.rx 0) 7) = true ∧
     (Assoc.get? s.pd.rx 0).any (fun x => x.waiting.isSome) = true ∧
     (txLayouts s.sections)[0]?.any (fun l => !isMulticast l.peerIp && decide (Assoc.get? s.clp.arp (s.nextHop l.peerIp) = none)) = true ∧
     (Assoc.get? s.pd.tx 0).isSome = true ∧ s.io.fenced = false ∧ s.ownIp ≠ 0) ∧
    (txLayouts (exchanging [239, 0, 0, 9]).sections)[0]?.any (fun l => isMulticast l.peerIp && decide (l.auth = 0)) = true := by decide

theorem witness_Subscriptions :
    (addressed .run).servesReq nrq = true ∧ nrq.iface ≠ .usb ∧ (addressed .run).subOf 1 = none ∧ (addressed .run).clp.subs.length < 16 ∧
    (subscribed.subOf 1).any (fun y => y.heldBy nrq && !y.heldBy { nrq with source := 9 } && decide (y.req.auth = none) &&
      decide (subscribed.tally.oldest ≤ y.confirmed + 1) && decide (y.next ≤ y.confirmed + 1)) = true ∧
    subscribed.servesReq nrq = true ∧ subscribed.netServes = true ∧
    (let s := { subscribed with tally := subscribed.tally.write ⟨0x0102, 0, 1, 0, [1, 2]⟩ }
     (s.subOf 1).any (fun x => decide ((s.matching x x.next s.tally.head).length = 1) && decide (68 ≤ s.payloadRoom x.req)) = true) ∧
    (let s := { subscribed with clp := { blankClp with subs := [⟨1, nrq, 0, 0xFFFF, 5, 2, [3, 4], false⟩] } }
     (s.subOf 1).any (fun x => decide (x.confirmed + 1 < x.next)) = true) := by decide

def now100 : List Nat := List.replicate 100 0

theorem witness_NetworkServicesAnswer :
    (st .service).netServes = false ∧
    (let s := addressed .run
     let u := (s.prpTake rx0).1
     s.netServes = true ∧ (s.prpTake rx0).2 = true ∧ (lastSecond u.localNs u.clp.arpTimes[portIx rx0.port]).length < 100 ∧
     (lastSecond u.localNs u.clp.icmpTimes[portIx rx0.port]).length < 10 ∧ (lastSecond u.localNs u.prp.supervised[portIx rx0.port]).length < 64 ∧
     u.prp.peers.length < 1088 ∧ u.ownIp = beNat [10, 0, 0, 1] ∧ u.ownIp ≠ 0 ∧ u.answersIp 5 = false ∧ s.mode.answers = true ∧
     s.rateLow 0 = false ∧ s.prp.lost[portIx .a] = false ∧ s.rateLow (s.portRate 0) = false ∧ s.portRate 0 ≠ 0 ∧ u.vlanTakes rx0.vlan = true) ∧
    (let s : State := { addressed .run with localNs := 10 ^ 12 }
     s.prp.heardAt[portIx .a] + s.num Obj.pathTimeout * 1000000 ≤ s.localNs) ∧
    ((addressed .run).prp.heardAt[portIx .a] + (addressed .run).num Obj.pathTimeout * 1000000 > (addressed .run).localNs) ∧
    (let s := { addressed .run with clp := { blankClp with arpTimes := Vector.replicate 2 now100, icmpTimes := Vector.replicate 2 now100 }
                                    prp := { blankPrp with supervised := Vector.replicate 2 now100, lost := Vector.replicate 2 true } }
     let u := (s.prpTake rx0).1
     100 ≤ (lastSecond u.localNs u.clp.arpTimes[portIx rx0.port]).length ∧ 10 ≤ (lastSecond u.localNs u.clp.icmpTimes[portIx rx0.port]).length ∧
     64 ≤ (lastSecond u.localNs u.prp.supervised[portIx rx0.port]).length ∧ s.prp.lost[portIx .a] = true) ∧
    (withImage (addressed .run) [sec 0x0D (zeros 10 ++ [1, 0, 1, 0, 0, 0] ++ [1, 0, 0, 239])]).rateLow 10 = true ∧
    netGroups (withImage (addressed .run) [sec 0x0D (zeros 10 ++ [1, 0, 1, 0, 0, 0] ++ [1, 0, 0, 239])]).sections = [beNat [239, 0, 0, 1]] ∧
    (let s := exchanging [10, 0, 0, 9]; s.pdHops.contains (beNat [10, 0, 0, 9]) = true ∧ s.clp.arp.length < 1088 ∧ s.netServes = true) ∧
    ({ dg with usb := false, kind := .supervision } : Datagram).rx = rx0 := by decide

/-! Ticks. -/

/-- A module in a tick, whose image has a program run over every tick index from 0. -/
def ticking (m : Mode) (ss : List Section) : State := { withImage (st m) ss with tick := 7, ticking := true }

theorem witness_TickWindowsOpen :
    (st .boot).mode = .boot ∧
    (let s : State := { st .run with rst := { resetBlock0 with request := some .w } }; s.mode = .run ∧ s.rst.request = some .w) ∧
    (st .ready).executes = false ∧ (st .ready).mode ≠ .off ∧
    (let s := ticking .run [sec 10 (zeros 8 ++ [1, 0, 0, 0] ++ leBytes 2 0 ++ leBytes 2 4000 ++ leBytes 2 1 ++ zeros 18)]
     s.mode = .run ∧ (runAt (programRuns (sectBody s.sections 10)) (tickIndex s.tick)).isSome = true) ∧ blankLane.reg 0 = 0 := by decide

theorem witness_TickWindowsClose :
    (st .off).mode.answers = false ∧
    (let s : State := { ticking .run [] with tally := { blankTallies with headKnown := true, issued := List.replicate 3 ⟨1, 0, 1, 0, []⟩ } }
     s.executes = true ∧ s.eng.discard = false ∧ s.tally.headKnown = true ∧ s.ticking = true ∧ s.runsNext = true ∧ s.warp.loaded.isSome = true) ∧
    (let s : State := { st .run with eng := { blankEngines with discard := true } }; s.mode.answers = true ∧ s.eng.discard = true) ∧
    (let s : State := { st .ready with ticking := true }; s.runsNext = false ∧ s.ticking = true) := by decide

def goodMeasure : CanaryMeasure := ⟨250000, some 0, true, [], some 0, (800, 850), []⟩

theorem witness_CanaryJudgesTheTick :
    (let s : State := { ticking .run [] with eng := { blankEngines with lanes := Vector.replicate 4 { blankLane with retired := some 0 } } }
     s.ticking = true ∧ s.mode.answers = true ∧ s.executes = true ∧
     (∀ k < 4, s.retirementFault (proofRecord s.sections s.profile (tickIndex s.tick)) k = none) ∧ s.loomFault goodMeasure.loom = none ∧
     goodMeasure.setting = clockAt (sectBody s.sections 9) s.profile (tickIndex s.tick) ∧ s.time.unjudged = false ∧
     s.scanFault goodMeasure.scan = none ∧ s.scanFault [⟨.loomTables, 7, 1⟩] ≠ none) ∧
    (let s := ticking .ready []; s.executes = false ∧ ({ goodMeasure with setting := (s.num Obj.sequencerClock, s.num Obj.coreSupply) } : CanaryMeasure).setting =
      (s.num Obj.sequencerClock, s.num Obj.coreSupply)) := by decide

/-- A group section with one group, its state record at offset 0 of the state area. -/
theorem witness_StaleSourcesShelvesAndGaps :
    (let s := ticking .run [oneGroup]
     s.staleDefs[0]?.any (fun d => decide ((s.staleAt 0).count < d.tolerance)) = true ∧ s.executes = true ∧ 0 < s.groups.length ∧
     s.storeNat (groupAt s.sections 0) 1 = 0) ∧
    (let s : State := { ticking .run [oneGroup] with stale := [(0, ⟨255, false⟩)] }
     s.staleDefs[0]?.any (fun d => decide (d.tolerance ≤ (s.staleAt 0).count)) = true ∧ (s.staleAt 0).reached = false) ∧
    (let s : State := { ticking .run [oneGroup] with store := [(stateBase, 1), (stateBase + 16, 5)] }
     s.storeNat (groupAt s.sections 0) 1 ≠ 0 ∧ s.storeNat (groupAt s.sections 0 + 16) 8 ≤ s.tick ∧ Mem.wf s.store = true) ∧
    (let s := (ticking .standby []).setNum Obj.syncState 3
     s.mode = .standby ∧ s.executes = true ∧ s.pair.placed ≠ some s.tick ∧ s.mirrorComplete s.tick = false) := by decide

/-! The engines. -/

/-- A tick in which lane 0 runs, with these sections loaded and this change to the engines. -/
def running (ss : List Section) (f : Engines → Engines) : State :=
  { ticking .run ss with eng := f { blankEngines with lanes := Vector.replicate 4 { blankLane with running := true }, gates := 0x1FF } }

theorem witness_LaneComputations : ((running [] id).lane 0).active = true ∧ (running [] id).MemOk := ⟨by decide, ⟨rfl, rfl, rfl⟩⟩

theorem witness_LaneWaitsAndIssues :
    (let s := running [sec 7 ([1, 0, 0, 0] ++ zeros 300)] id
     (s.lane 0).active = true ∧ (∀ g : Fin 32, (s.lane 0).tags[g].open_ = 0) ∧ bit s.eng.gates 0 = true ∧ bit s.eng.gates 8 = true ∧
     s.lists[0]?.any (fun x => !s.isHalted x.engine x.channel) = true ∧ (1 : BitVec 28) ≠ 0) ∧
    (let s := running [] fun e => { e with lanes := e.lanes.set 0 { blankLane with running := true, waiting := some (1, 5, 0) } }
     (s.lane 0).waiting = some ((1 : BitVec 32).toNat, (5 : Fin 512).val, 0) ∧ (∀ g : Fin 32, (s.lane 0).tags[g].open_ = 0) ∧
     (s.lane 0).active = false) := by decide

/-- A plan in which engine 0 has a slot left in this tick, and none. -/
theorem witness_LaneDmai_slots :
    (let s := running [sec 7 ([1, 0, 0, 0] ++ zeros 300), sec 8 ([1, 0, 0, 0] ++ zeros 4 ++ [1, 0, 0, 0] ++
      (zeros 4 ++ [4, 0, 0, 0] ++ [10, 0, 1, 0]) ++ [1, 0, 0, 0] ++ zeros 2 ++ leBytes 2 4000 ++ [1, 0] ++ zeros 6)] id
     s.lists[0]?.any (fun x => !s.isHalted x.engine x.channel && s.slotsLeft x.engine 0) = true) ∧
    (let s := running [sec 7 ([1, 0, 0, 0] ++ zeros 300)] id
     s.lists[0]?.any (fun x => !s.isHalted x.engine x.channel && !s.slotsLeft x.engine 0) = true) := by decide

/-- Sections with point 0 (F32, class Q, record at offset 64 of the state area) and areas apart from it. -/
def onePoint : List Section := [sec 1 ([1, 0, 0, 0] ++ zeros 4 ++ zeros 12 ++ leBytes 4 64), sec 6 (zeros 8 ++ leBytes 4 0x1000 ++ leBytes 4 0x2000 ++ leBytes 4 0x3000 ++ zeros 60)]

theorem witness_PointsAndAlarms_screen :
    (let s := running onePoint fun e => { e with passes := [⟨0, 0, 0, 1, 0⟩] }
     (s.point? 0).any (fun p => decide (u16At (s.storeRead (pointAt p) 32) 30 ≠ s.cycleMark p.cls + 32768) &&
       (s.screenRanges p).all fun r => decide (pointAt p + 32 ≤ r.1) || decide (r.1 + r.2 ≤ pointAt p)) = true) ∧
    (let s : State := { running onePoint (fun e => { e with passes := [⟨0, 0, 0, 1, 0⟩] }) with store := [(stateBase + 95, 0x80)] }
     (s.point? 0).any (fun p => decide (u16At (s.storeRead (pointAt p) 32) 30 = s.cycleMark p.cls + 32768)) = true) := by decide

theorem witness_PointsAndAlarms_delay :
    (let s : State := { running onePoint (fun e => { e with passes := [⟨0, 0, 0, 1, 0⟩] }) with
      store := [(stateBase + 0x2000 + 32, 1)] }
     (s.point? 0).any (fun p => (decide ((alarmAt s.sections p) + 16 ≤ groupAt s.sections (u16At (s.storeRead (pointCfgAt p) 32) 6) + 24) ||
         decide (groupAt s.sections (u16At (s.storeRead (pointCfgAt p) 32) 6) + 32 ≤ alarmAt s.sections p)) &&
       decide (u16At (s.storeRead (pointAt p) 32) 30 ≠ s.cycleMark p.cls + 32768) &&
       (bit ((s.screen p).storeNat (alarmAt s.sections p + 2) 1) 0 != bit (s.activeBits p) 0) &&
       decide (u8At (s.storeRead (pointCfgAt p) 32) 31 < u8At (s.storeRead (alarmAt s.sections p) 16) 6 + 1)) = true) ∧
    (let s := running onePoint fun e => { e with passes := [⟨0, 0, 0, 1, 0⟩] }
     (s.point? 0).any (fun p => bit ((s.screen p).storeNat (alarmAt s.sections p + 2) 1) 0 == bit (s.activeBits p) 0) = true) := by decide

theorem witness_Resolve :
    (let pr := zeros 28 ++ [1] ++ zeros 3; u8At pr 28 ≠ 0) ∧ (let pr := zeros 26 ++ leBytes 2 0x1234 ++ zeros 4; u16At pr 26 ∉ candidateCodes) ∧
    u16At (zeros 32) 26 ∈ candidateCodes ∧ isNanOf 2 (u64At (zeros 32) 8) = false ∧ u16At (zeros 32) 4 ≠ 0xFFFF := by decide

/-- One loop in class Q on shuttle 0: its configuration in a map at 0x100 of the window, its record at offset 0x400 of the state area. -/
def looping (cfg : List (Nat × Byte)) (rec : List (Nat × Byte)) : State :=
  let l := { image [oneLoop] with map := ⟨0, 0, 0, 0, 0, 0, configBase, configBase + 0x1000, 0⟩, config := cfg }
  let s := running [oneLoop] fun e => { e with shuttles := e.shuttles.set 0 [⟨0, 0, 0, 1, 0⟩] }
  ({ s with warp := { s.warp with loaded := some l }, store := rec }).loadTables

theorem witness_LoopEvaluationRunsTheLaw :
    (let s := looping [] []
     s.shuttleQueue 0 = 0 ∧ s.eng.shuttles[(0 : Fin 16)] = [⟨0, 0, 0, 1, 0⟩] ∧ 0 < s.loopCount ∧ loopShuttle (s.loopCfg 0) = 0 ∧ s.canvas = false ∧
     (s.loopRec 0).eval ≠ s.cycleMark 0 + 32768 ∧ (Assoc.get? s.tableRam (s.slotKey 0)).isSome = true) ∧
    (let s := looping [] [(stateBase + 70, 0xFF), (stateBase + 71, 0xFF)]
     (s.loopRec 0).eval = (s.cycleMark 0 + 32767) % 32768 + 32768 ∧ (s.loopRec 0).gate = 0) ∧
    ((looping [] [(stateBase + 30, 1)]).loopRec 0).gate ≠ 0 ∧
    (let s := looping [] [(stateBase + 71, 0x80)]; (s.loopRec 0).eval = s.cycleMark 0 + 32768) := by decide

theorem witness_LoopLawModes :
    (let r := loopRecOf (zeros 96); r.mode ≠ 1) ∧
    (let r := loopRecOf (zeros 18 ++ leBytes 2 0x4000 ++ zeros 46 ++ [5, 1] ++ zeros 28)
     r.mode = 1 ∧ (loopRun (zeros 64) (zeros 704) none 0 r false false).judged.hold = true) ∧
    (let s := looping [] [(stateBase + 66, 1)]
     0 < s.loopCount ∧ u8At (s.loopCfg 0) 5 ≤ (s.loopRec 0).lossCount ∧ 0 < (s.loopRec 0).lossCount ∧ bit (s.loopRec 0).status 2 = false ∧ bit (s.loopRec 0).status 3 = false) ∧
    (let s := looping [(configBase + 52, 1)] [(stateBase + 34, 0x80), (stateBase + 35, 0x3F), (stateBase + 64, 1)]
     u16At (s.loopCfg 0) 44 ≠ 0 ∧ u16At (s.loopCfg 0) 44 ≤ (s.loopRec 0).frzCount ∧ bit (s.loopRec 0).status 4 = false ∧
     fLt f32 (u32At (s.loopCfg 0) 48) (fAbs f32 (fSub f32 (s.loopRec 0).u1 (s.loopRec 0).frzOut)) = true) ∧
    (let s := looping [] [(stateBase + 68, 4)]; bit (s.loopRec 0).status 2 = true) ∧ (let s := looping [] [(stateBase + 68, 16)]; bit (s.loopRec 0).status 4 = true) ∧
    (let t : LoopTest := ⟨0, 1, 0, 0, 1, 3, 1, 1⟩
     let s : State := { looping [] [(stateBase + 76, 3), (stateBase + 86, 1)] with captures := Vector.replicate 8 ⟨some t, none, 0, 0, [], [], 0, 0⟩ }
     (s.pairCapture (loopShuttle (s.loopCfg 0) / 2)).test = some t ∧ t.loop = 0 ∧ t.duration ≤ (s.loopRec 0).testIndex ∧ (s.loopRec 0).testState = 1) := by decide

theorem witness_LockstepMismatchReexecutes :
    (let s := (running [] id).setNum Obj.activeProfile 3; s.canvas = true ∧ s.executes = true ∧ s.eng.mismatches = 0 ∧ (s.lane 0).running = true) ∧
    (let s := (running [] fun e => { e with mismatches := 1 }).setNum Obj.activeProfile 3
     s.canvas = true ∧ s.executes = true ∧ s.eng.mismatches = 1 ∧ s.eng.reexecuting = false) := by decide

/-! The seam. -/

/-- A module of a pair: the seam UP and paired, with the seam key of slot 0. -/
def paired (m : Mode) : State :=
  ((({ st m with inForce := Assoc.set (Assoc.set [(Obj.pairEnable, [1])] Obj.stationNode [5, 0]) Obj.stationIPv4 [10, 0, 0, 9], tick := 7, ticking := true
                 keys := { deliveredKeys with seam := deliveredKeys.seam.set 0 (some (zeros 32)), seamInUse := some (zeros 32) } }).setNum Obj.seamState 2).setDetail 3 true)

/-- The key with which the module of a serial sends. -/
def sealKey (serial : Bytes) : Bytes := hmacSha256 (zeros 32) (asciiBytes "CZ9P-SEAM" ++ serial)

/-- A frame of a type, with number 0 in epoch 1 and this payload, sealed by the partner. -/
def seamHead (type n : Nat) : Bytes := seamHeader type 0 n 1 0 7 0
def seamWire (type : Nat) (serial payload : Bytes) : Bytes := sealFrame (sealKey serial) false (seamHead type payload.length) payload

theorem seamWire_opens {type : Nat} {serial payload : Bytes} (h : (seamHead type payload.length).length = 24)
    (hn : u16At (seamHead type payload.length) 2 = payload.length) (hp : payload.length ≤ 4096) :
    openFrame (sealKey serial) false (seamWire type serial payload) = some (seamHead type payload.length, payload) :=
  openFrame_sealFrame (hmacSha256_length _ _) h hn hp

theorem slice_append_left {a b : Bytes} {o n : Nat} (h : o + n ≤ a.length) : slice (a ++ b) o n = slice a o n := by
  rw [slice, slice, List.drop_append_of_le_length (by omega), List.take_append_of_le_length (by rw [List.length_drop]; omega)]

theorem seamWire_slice {type : Nat} {serial payload : Bytes} {o n : Nat} (h : o + n ≤ (seamHead type payload.length ++ payload).length) :
    slice (seamWire type serial payload) o n = slice (seamHead type payload.length ++ payload) o n := by
  simp only [seamWire, sealFrame, Bool.false_eq_true, if_false]
  exact slice_append_left h

/-- A standby of a pair, whose partner has numbered no frame yet; and one that has received number 0. -/
theorem witness_SeamFramesAreTaken (type : Nat) (h : type ∈ [2, 3, 4, 5, 6, 7, 8, 9]) :
    (paired .standby).SeamNew type (seamWire type (zeros 12) (zeros 48)) (seamHead type 48) (zeros 48) ∧
    (st .standby).seamServes = false ∧ (seamWire type (zeros 12) (zeros 48)).take 1 = [byte type] ∧
    (let s := paired .standby
     (s.sendingKey s.partnerSerialOf).bind (fun key => openFrame key (s.encrypts type) [byte type]) = none ∧ u8At [byte type] 0 = type) := by
  have w : (seamWire type (zeros 12) (zeros 48)).take 1 = [byte type] := by
    have := seamWire_slice (type := type) (serial := zeros 12) (payload := zeros 48) (o := 0) (n := 1) (by simp [seamHead, seamHeader, leBytes_length])
    rw [slice, List.drop_zero] at this
    rw [this]
    rfl
  have k : (paired .standby).sendingKey (paired .standby).partnerSerialOf = some (sealKey (zeros 12)) := rfl
  have e : (paired .standby).encrypts type = false := by
    have : (paired .standby).started Obj.seamEncrypt = 0 := by decide
    simp [State.encrypts, this]
  have u : u8At (seamWire type (zeros 12) (zeros 48)) 0 = (byte type).toNat := by
    have s1 : slice (seamWire type (zeros 12) (zeros 48)) 0 1 = [byte type] := w
    rw [u8At, s1]
    simp [leNat]
  have b : (byte type).toNat = type := by simp only [List.mem_cons, List.not_mem_nil, or_false] at h; rcases h with rfl | rfl | rfl | rfl | rfl | rfl | rfl | rfl <;> rfl
  refine ⟨⟨⟨by decide, by decide, ?_⟩, u.trans b, ?_, ?_, ?_⟩, by decide, w, ?_, ?_⟩
  · rw [k, u, b, e, Option.bind_some]
    exact seamWire_opens (by simp [seamHead, seamHeader, leBytes_length]) (by simp [seamHead, seamHeader]; rfl) (by decide)
  · exact b
  · rfl
  · rfl
  · rw [k, e, Option.bind_some]
    rfl
  · exact b

/-- Frames of types 5 and 8 with values, and of type 6 with a segment; a number 1 has not its turn before 0, and nothing waits. -/
theorem witness_SeamFrames_contents :
    (let s := paired .standby
     let v := leBytes 4 Obj.startMode ++ leBytes 2 1 ++ [1]
     valuesOf v.length v = [(Obj.startMode, [1])] ∧ (s.objRow? Obj.profile).any (fun o => o.effect != .weft && o.access != .wo && o.range != .zero) = true ∧
     s.stationScope Obj.profile = true ∧ isOption Obj.profile = false ∧ Obj.profile ∉ derivedObjects) ∧
    (let s : State := { paired .standby with pair := { blankPair with partner := some (helloOf (zeros 116)), bankRx := some 1 } }
     s.bankToWrite = some 1 ∧ s.pair.bankRx = some 1 ∧ (0 : Nat) ≤ (s.bankImage 1).length) ∧
    (blankPair.note 1 1).rxNext ≤ 1 ∧ 0 < (blankPair.note 0 0).rxNext ∧ blankPair.waiting = [] ∧ blankPair.named = [] ∧
    ((paired .standby).setDetail 3 false).paired = false := by decide

theorem witness_SeamFrameRepeated :
    (let s : State := { paired .standby with pair := { blankPair with rxNext := 1 } }; s.pair.has (u64At (seamHead 2 48) 8) = true) ∧
    (paired .run).mode = .run ∧ (let s := (paired .standby).setNum Obj.syncState 2; s.mode = .standby ∧ s.num Obj.syncState = 2) := by decide

theorem witness_SeamLinkAndHello_link :
    (let s : State := paired .run; s.pairEnabled = true ∧ s.mode ≠ .off ∧ s.seamUp = true ∧ s.num Obj.seamState ≠ 0 ∧ ∀ e ∈ s.pair.sent, e.sends < 4) ∧
    (let s := (paired .run).setNum Obj.seamState 0
     s.pairEnabled = true ∧ s.seamUp = false ∧ s.num Obj.seamRefusal = 0 ∧ s.mode.answers = true ∧ (s.seamKeyOf (s.started Obj.seamKeyId)).isSome = true ∧
     s.num Obj.seamState = 0 ∧ s.io.fenced = false) ∧
    (let s : State := { paired .run with pair := { blankPair with sent := [⟨5, 5, 2, 0, [], 4⟩] } }
     s.seamUp = true ∧ ∃ e ∈ s.pair.sent, 4 ≤ e.sends) ∧ (st .run).pairEnabled = false ∧ (st .run).num Obj.seamState = 0 := by decide

/-- A HELLO of module 2 that passes the checks of a module of the pair (Table 9-2). -/
def helloPayload : Bytes :=
  List.replicate 12 7 ++ leBytes 2 2 ++ [5, 0] ++ [10, 0, 0, 9] ++ zeros 10 ++ zeros 4 ++ [1] ++ leBytes 4 10000 ++ leBytes 4 10000 ++ zeros 4 ++ leBytes 2 1 ++
    zeros 67

theorem helloWire (s : State) (p : Bytes) (hs : ∀ x, s.sendingKey x = some (sealKey x)) (h : 12 ≤ p.length) (hn : u16At (seamHead 1 p.length) 2 = p.length)
    (hp : p.length ≤ 4096) :
    (s.sendingKey (slice (seamWire 1 (p.take 12) p) 24 12)).bind (fun key => openFrame key false (seamWire 1 (p.take 12) p)) =
      some (seamHead 1 p.length, p) := by
  have l : (seamHead 1 p.length).length = 24 := by simp [seamHead, seamHeader, leBytes_length]
  have e : slice (seamWire 1 (p.take 12) p) 24 12 = p.take 12 := by
    rw [seamWire_slice (by rw [List.length_append, l]; omega), slice, ← l, List.drop_left]
  rw [hs, e, Option.bind_some]
  exact seamWire_opens l hn hp

theorem witness_SeamLinkAndHello_hello :
    (let s := paired .run
     s.pairEnabled = true ∧ s.mode.answers = true ∧ s.seamUp = true ∧ s.mode ≠ .standby ∧ u8At (seamHead 1 116) 0 = 1 ∧
     (s.sendingKey (slice (seamWire 1 (helloPayload.take 12) helloPayload) 24 12)).bind
       (fun key => openFrame key false (seamWire 1 (helloPayload.take 12) helloPayload)) = some (seamHead 1 116, helloPayload) ∧
     s.pairRefusal (helloOf helloPayload) = 0 ∧
     (s.sendingKey (slice (seamWire 1 (zeros 12) (zeros 116)) 24 12)).bind (fun key => openFrame key false (seamWire 1 (zeros 12) (zeros 116))) =
       some (seamHead 1 116, zeros 116) ∧
     s.pairRefusal (helloOf (zeros 116)) ≠ 0 ∧ (s.sendingKey (slice [] 24 12)).bind (fun key => openFrame key false []) = none) :=
  ⟨by decide, by decide, by decide, by decide, by decide, helloWire (paired .run) helloPayload (fun _ => rfl) (by decide) (by decide) (by decide), by decide,
    helloWire (paired .run) (zeros 116) (fun _ => rfl) (by decide) (by decide) (by decide), by decide, rfl⟩

/-- A HELLO in the epoch of the pairing from a module that runs, and one after a retraining. -/
theorem witness_SeamLinkAndHello_again :
    (let h : SeamHello := { helloOf helloPayload with state := Mode.run.code }
     let s : State := { paired .run with pair := { blankPair with partner := some h, partnerEpoch := 1 } }
     s.refreshes h 1 = true ∧ s.refreshes h 2 = false ∧ s.pair.has 0 = false) ∧
    (let s : State := { paired .run with pair := { blankPair with partner := some (helloOf helloPayload), retrained := true } }
     s.pairedBefore (helloOf helloPayload) = true ∧ s.refreshes (helloOf helloPayload) 9 = false) := by decide

/-- A partner heard from in tick `t`, in a state, with a digest. -/
def heardAt (s : State) (t digest : Nat) (deciding : Bool) : State :=
  { s with pair := { s.pair with partner := some (helloOf helloPayload), deciding := deciding,
                                 heard := some { closeOf (zeros 48) with tick := t, digest := digest } } }

def synced (m : Mode) : State := (paired m).setDetail 4 true

theorem witness_HeartbeatAndPresence_guard :
    (st .run).inPair = false ∧ (heardAt (paired .run) 5 0 false).inPair = true ∧
    (let s := (heardAt (synced .standby) 7 0 false).setNum Obj.syncState 4
     s.inPair = true ∧ s.mode = .standby ∧ s.executes = true ∧ s.pair.joinAt = none ∧ s.pair.digest = 0 ∧ s.wordsDiffer = none ∧
       s.pair.heard.any (fun c => c.tick == s.tick) = true) ∧
    (let s := ((heardAt (synced .standby) 5 0 false).setDetail 0 true)
     s.inPair = true ∧ s.mode = .standby ∧ s.degraded = true ∧ s.visibleAt s.tick = false) ∧
    (let s := heardAt (synced .standby) 5 0 false
     s.inPair = true ∧ s.degraded = false ∧ s.wordsDiffer = none ∧ s.pair.heard.all (fun c => c.tick != s.tick) = true) ∧
    (let s := heardAt (synced .standby) 5 0 true
     s.inPair = true ∧ s.pair.deciding = true ∧ s.visibleAt s.tick = false ∧ s.synced = true ∧ s.degraded = false) ∧
    (let s := heardAt (paired .standby) 5 0 true; s.inPair = true ∧ s.pair.deciding = true ∧ s.visibleAt s.tick = false ∧ s.synced = false) ∧
    (let s : State := heardAt { paired .standby with pair := { blankPair with partnerPresent := true, presenceSeen := 1, presenceTick := 7 } } 5 0 true
     s.inPair = true ∧ s.visibleAt s.tick = true ∧ s.degraded = false) ∧
    (let s := heardAt (paired .run) 5 0 true; s.inPair = true ∧ s.pair.deciding = true ∧ s.mode = .run) := by decide

/-- The first 32 bytes of a presence frame of module 2 in READY, with counter 1. -/
def presenceHead : Bytes := leBytes 4 0x52505A43 ++ leBytes 2 2 ++ leBytes 2 5 ++ leBytes 8 7 ++ leBytes 8 1 ++ [2, 0] ++ zeros 6
def presencePayload : Bytes := presenceHead ++ gcmTag (sealKey (zeros 12)) (presenceNonce 1) presenceHead []

theorem presence_take : presencePayload.take 32 = presenceHead := by
  have : presenceHead.length = 32 := by decide
  rw [presencePayload, ← this, List.take_left]

theorem presence_drop : presencePayload.drop 32 = gcmTag (sealKey (zeros 12)) (presenceNonce 1) presenceHead [] := by
  have : presenceHead.length = 32 := by decide
  rw [presencePayload, ← this, List.drop_left]

theorem presence_slice {o n : Nat} (h : o + n ≤ 32) : slice presencePayload o n = slice presenceHead o n :=
  slice_append_left (by have : presenceHead.length = 32 := by decide
                        omega)

theorem witness_HeartbeatAndPresence_presence :
    (paired .standby).PresenceValid presencePayload ∧ ¬(paired .standby).PresenceValid [] ∧ ((paired .standby).prpTake rx0).2 = true ∧
    (paired .standby).io.fenced = false ∧ ((paired .standby).sendingKey (paired .standby).ownSerial).isSome = true := by
  refine ⟨⟨?_, ?_, ?_, ?_, ?_, sealKey (zeros 12), rfl, ?_⟩, fun h => absurd h.1 (by decide), by decide, by decide, by decide⟩
  · rw [presencePayload, List.length_append, gcmTag_length (sealKey (zeros 12)) _ _ _ (hmacSha256_length _ _)]; decide
  · rw [u32At, presence_slice (by decide)]; decide
  · rw [u16At, presence_slice (by decide)]; decide
  · rw [u16At, presence_slice (by decide)]; decide
  · rw [u64At, presence_slice (by decide)]; decide
  · have : u64At presencePayload 16 = 1 := by rw [u64At, presence_slice (by decide)]; decide
    rw [this, presence_take, presence_drop]

theorem witness_RolesChange :
    (let s : State := { synced .standby with pair := { (heardAt (synced .standby) 5 0 false).pair with takeover := some 8, takeoverH := 5 } }
     s.mode = .standby ∧ s.pair.takeover = some s.nextEdge ∧ s.fenceEffective = false ∧ s.pair.heard.isSome = true) ∧
    (let s : State := { paired .run with io := { blankFieldIo with aoHold := true }, tick := 1000000 }
     s.io.aoHold = true ∧ s.pair.takeoverH * 250000 + 406250 + 1000 * s.num (Obj.silenceTimeout 1) ≤ s.nextEdge * 250000) ∧
    (let s : State := { (eve .run).setDetail 4 true with command := some ⟨5, 4000, false⟩ }; s.due 4000 = true ∧ s.mode = .run ∧ s.synced = true) ∧
    (let s : State := { (eve .standby).setDetail 4 true with command := some ⟨5, 4000, true⟩ }
     s.due 4000 = true ∧ s.mode = .standby ∧ s.synced = true ∧ s.pair.takeover = none) ∧
    (let s : State := { eve .run with command := some ⟨5, 4000, false⟩ }; s.due 4000 = true ∧ s.mode = .run ∧ s.synced = false) := by decide

/-! Network time. -/

def someAnnounce : PtpAnnounce := ⟨none, false, 0, 9, true, 37, 128, 6, 0x20, 0, 128, 77, 0⟩
def someMsg : PtpMsg := ⟨none, false, 0, false, 9, 4, 0, 0, 0, 100, 0, 300⟩

/-- A slave on port A whose parent is `someAnnounce`'s sender. -/
def slave (m : Mode) (f : PtpPort → PtpPort) : State :=
  ((({ st m with time := { blankTimeUnit with ports := blankTimeUnit.ports.set 0 (f { blankTimeUnit.ports[0] with masters := [someAnnounce] }) } }).setNum
    (Obj.portState 0) 9).setNum Obj.timePort 0)

theorem witness_PtpMessagesAreTaken :
    ({ st .off with mode := .layup } : State).ptpOn = false ∧ (st .run).ptpOn = true ∧ (st .run).PtpTakes .a none false ∧
    (let s := slave .run fun x => { x with arrivals := List.replicate 256 0 }
     s.ptpOn = true ∧ 256 ≤ (lastSecond s.localNs (s.ptpPort .a).arrivals).length) ∧
    (st .run).vlanTakes (some 7) = false ∧ ({ someMsg with udp := true } : PtpMsg).udp ≠ (st .run).ptpUdp ∧
    ({ someMsg with domain := 3 } : PtpMsg).domain ≠ (st .run).started Obj.ptpDomain ∧ (st .run).started Obj.ptpDelayMechanism = 1 ∧
    (let s := st .run
     someAnnounce.domain = s.started Obj.ptpDomain ∧ someAnnounce.timescale = true ∧ s.masterCapable = false ∧ (s.ptpPort .a).masters = [] ∧
     (s.ptpPort .b).masters = [] ∧ s.shadowTime = false ∧ s.timeStateIs .noParent = true ∧ s.num Obj.tickSource = 3) ∧
    (let s : State := { st .run with inForce := [(Obj.ptpMode, [1])] }
     s.masterCapable = true ∧ s.time.hadParent = false ∧ s.timeStateIs .grandmaster = false) := by
  refine ⟨by decide, by decide, ⟨by decide, by decide, by decide, by decide⟩, by decide, by decide, by decide, by decide, by decide, by decide, by decide⟩

/-- The first offset; one beyond the threshold after it; small ones. -/
theorem witness_PtpJudgement :
    (slave .run id).JudgesSync .a someMsg ∧ (slave .run id).time.firstDone = false ∧
    (∀ n ∈ [100, 5000000], let m := { someMsg with rxNs := n }
      let s : State := { slave .run id with time := { (slave .run id).time with firstDone := true } }
      s.JudgesSync .a m ∧ s.time.firstDone = true ∧ s.time.step = none ∧ (s.num Obj.jumpThreshold < (s.syncOffset .a m).natAbs ↔ n = 5000000) ∧
        ((s.syncOffset .a m).natAbs < 1000 ↔ n = 100) ∧ s.flag Obj.reStepArmed = false) ∧
    (let m := { someMsg with twoStep := true }
     let s := slave .run fun x => { x with sync := some (4, 0, 0) }
     s.PtpTakes .a none false ∧ s.wrongDomain m = false ∧ s.fromParent .a m = true ∧ m.twoStep = true ∧ (s.ptpPort .a).sync = some (m.seq.toNat, 0, 0)) := by
  refine ⟨⟨⟨⟨by decide, by decide, by decide, by decide⟩, by decide, by decide⟩, by decide, by decide, by decide⟩, by decide, fun n hn => ?_,
    ⟨by decide, by decide, by decide, by decide⟩, by decide, by decide, by decide, by decide⟩
  simp only [List.mem_cons, List.not_mem_nil, or_false] at hn
  rcases hn with rfl | rfl <;>
    exact ⟨⟨⟨⟨by decide, by decide, by decide, by decide⟩, by decide, by decide⟩, by decide, by decide, by decide⟩, by decide, by decide, by decide, by decide, by decide⟩

theorem witness_PtpDelaysAndMessages :
    (let s := (slave .run fun x => { x with request := some (4, 50), syncDelta := some 20 }).setObj Obj.moduleMac (zeros 6)
     let m := { someMsg with requesting := BitVec.ofNat 80 (s.portIdentity .a) }
     s.PtpTakes .a none false ∧ s.wrongDomain m = false ∧ m.requesting.toNat = s.portIdentity .a ∧ (s.ptpPort .a).request = some (m.seq.toNat, 50) ∧
       s.endToEnd = true ∧ s.fromParent .a m = true ∧ (s.ptpPort .a).syncDelta = some 20 ∧ s.portIs .a portSlave = true) ∧
    (let s : State := { slave .run (fun x => { x with request := some (4, 50), peer := some (10, 20, 0) }) with inForce := [(Obj.ptpDelayMechanism, [2])] }
     s.endToEnd = false ∧ s.ptpOn = true ∧ (s.ptpPort .a).peer = some (10, 20, 0)) ∧
    (let s : State := { (st .run).setNum (Obj.portState 0) 6 with prp := { blankPrp with rates := Vector.replicate 2 100 } }
     s.portRate (portNo .a) ≠ 0 ∧ s.portIs .a portMaster = true ∧ s.endToEnd = true ∧ s.portIs .a portSlave = false) := by
  refine ⟨⟨⟨by decide, by decide, by decide, by decide⟩, by decide, by decide, by decide, by decide, by decide, by decide, by decide⟩, by decide, by decide⟩

theorem witness_TimeUnitActs :
    (let s := (st .run).setNum Obj.tickSource 0; s.shadowTime = false ∧ s.num Obj.tickSource = 0 ∧ s.timeStateIs .grandmaster = false) ∧
    (let s : State := { (st .run).setNum Obj.tickSource 0 with localNs := 10 ^ 15 }
     ∀ q ∈ [NetPort.a, .b], s.offsetSilent q (s.num Obj.holdoverEntry * 1000000) = true ∧ s.offsetSilent q (s.threeSyncs q) = true) ∧
    (let s := slave .run fun x => { x with offsetAt := some 0 }; s.offsetSilent .a (s.num Obj.holdoverEntry * 1000000) = false ∧ s.offsetSilent .a (s.threeSyncs .a) = false) ∧
    (let s : State := { (st .hold).setFlag Obj.stepHeld true with time := { blankTimeUnit with step := some (.set, 5) } }
     s.time.step = some (.set, 5) ∧ s.mode = .hold ∧ s.flag Obj.stepHeld = true) ∧
    (let t := slave .run id
     let s := ((({ t with time := { t.time with ports := t.time.ports.set 1 { blankTimeUnit.ports[1] with masters := [someAnnounce] } } }).setNum
       (Obj.portState 1) 9).setObj Obj.grandmasterIdentity (beBytes 8 77))
     s.shadowTime = false ∧ s.num Obj.timePort = portNo .a ∧ s.portIs (otherPort .a) portSlave = true ∧
       (bestMaster (s.ptpPort (otherPort .a)).masters).any (fun g => decide (g.grandmaster.toNat = beNat (s.obj Obj.grandmasterIdentity))) = true) ∧
    (let s : State := { st .ready with time := { blankTimeUnit with step := some (.set, 5) } }; s.time.step = some (.set, 5) ∧ s.mode.running = false) ∧
    (let s : State := { st .run with time := { blankTimeUnit with step := some (.first, -5) } }; s.mode.running = true) ∧
    (let s : State := { (st .run).setFlag Obj.ppsInEnable true with time := { blankTimeUnit with ppsInAt := some 10 } }
     s.flag Obj.ppsInEnable = true ∧ s.time.ppsInAt = some 10 ∧ (20 : Nat) < 10 + 900000000) ∧
    (let s := (st .run).setFlag Obj.ppsInEnable true; s.flag Obj.ppsInEnable = true ∧ s.time.ppsInAt = none) ∧ (st .run).num Obj.timePort = 0xFF := by
  decide

/-! CAN. -/

/-- A map entry: identifier 5 of channel 1 into buffer 0, received, DLC 8. -/
def canMap : Section := sec 3 ([1, 0, 0, 0] ++ zeros 4 ++ [1, 0, 0, 8] ++ leBytes 4 5 ++ leBytes 4 (2 ^ 29 - 1) ++ zeros 12 ++ zeros 128)

def onBus (c : CanChannel) : State :=
  ((withImage (st .run) [canMap]).setChan 0 c).setNum (Obj.canState 0) canErrorActive

def idle : CanChannel := ⟨[], [], none, false, false, none, none, none, [], 0⟩

theorem witness_CanReception :
    (let s := onBus idle
     let named := fun f : CanFrame => (s.channelRx 0).filter fun e => identMatches e.ident e.mask f.ident.toNat
     (s.chan 0).detect = none ∧ s.canReceives 0 = true ∧
     ((named { fr with ident := 5 }).find? (fun e => decide (e.dlc = 8))).isSome = true ∧
     ((named { fr with ident := 5, dlc := 3 }).find? (fun e => decide (e.dlc = 3))) = none ∧ named { fr with ident := 5, dlc := 3 } ≠ [] ∧
     named { fr with ident := 6 } = [] ∧ ∀ b < 64, s.obj (Obj.canHostFilter 0 b) = zeros 8) ∧
    (let s := onBus { idle with rx := [(3, ⟨some fr, true, true, some fr⟩)] }
     (Assoc.get? (s.chan 0).rx (3 : Fin 64).val).any (fun x => x.locked && x.shadow.isSome) = true) ∧
    (let s := onBus { idle with detect := some ⟨1, 2, 7, false⟩ }; (s.chan 0).detect.any (fun d => decide (7 ≤ d.good) && decide (d.nominal < 4) && decide (d.data < 3)) = true) ∧
    (let s := onBus { idle with detect := some ⟨3, 0, 2, true⟩ }; (s.chan 0).detect.any (fun d => decide (d.good < 7)) = true) := by decide

theorem witness_CanTransmission :
    (let s := (onBus { idle with tx := [(2, ⟨some fr, false, none⟩), (7, ⟨some fr, false, none⟩), (9, ⟨some { fr with ident := 1 }, false, none⟩)] }).setDetail 5 true
     (s.chan 0).offered = some 2 ∧ (Assoc.get? (s.chan 0).tx (2 : Fin 32).val).any (fun x => x.frame.isSome && !x.started) = true ∧ s.canTransmits 0 = true) ∧
    (let s := onBus { idle with tx := [(2, ⟨some fr, true, some fr⟩)] }
     (Assoc.get? (s.chan 0).tx (2 : Fin 32).val).any (fun x => x.started) = true ∧ s.canTransmits 0 = false ∧ s.num (Obj.canState 0) = canErrorActive ∧
     255 < (s.setNum (Obj.txErrorCount 0) 250).num (Obj.txErrorCount 0) + 8) ∧
    (let s := ((onBus idle).setNum (Obj.canState 0) canBusOffState).setFlag (Obj.canEnable 0) true
     s.num (Obj.canState 0) = canBusOffState ∧ s.canRecovering 0 = true ∧ s.flag (Obj.canEnable 0) = true ∧ (s.chan 0).mismatch = false ∧
       u8At (s.obj Obj.domainSources) 4 = 0) ∧
    ((onBus idle).setFlag (Obj.autoRecover 0) false).canRecovering 0 = false := by decide

/-! The field sides and the analog loops. -/

/-- A module whose field sides run, group A's and group B's links having taken a frame with SEQ 5. -/
def fielded (m : Mode) (f : FieldSide → FieldSide) : State :=
  { st m with io := { blankFieldIo with sides := Vector.replicate 3 (f { blankSide with running := true, rxSeq := some 5, held := false })
                                        links := Vector.replicate 3 { blankFieldIo.links[0] with rxSeq := some 5 } } }

/-- A logic-to-field and a field-to-logic frame with this SEQ and an empty image. -/
def frameSeq (n : Nat) : Bytes := barrierFrame n 0 1 0 (zeros 4)

theorem witness_BarrierFrameLeaves :
    (fielded .run id).linksSend = true ∧ (fielded .run id).eng.discard = false ∧ (fielded .run id).seamServes = false ∧
    (let s : State := { st .service with eng := { blankEngines with discard := true } }; s.eng.discard = true ∧ s.mode ≠ .run) ∧
    (let s : State := { st .run with island := { blankIsland with linkStopped := false } }; s.island.linkStopped = false) := by decide

theorem witness_BarrierFramesAreTaken :
    (let s := fielded .run id
     (s.side .a).running = true ∧ barrierCrcOk [] = false ∧ barrierCrcOk (frameSeq 5) = true ∧ (s.side .a).rxSeq = some 5 ∧
     newerBits 8 (u8At (frameSeq 5) 0) 5 = false ∧ barrierCrcOk (frameSeq 8) = true ∧ newerBits 8 (u8At (frameSeq 8) 0) 5 = true ∧
     1 < (u8At (frameSeq 8) 0 + 256 - 5) % 256 ∧ s.mode ≠ .off ∧ (s.link .a).rxSeq = some 5 ∧ bit (u8At (frameSeq 8) 4) 3 = false ∧
     u8At (frameSeq 8) 1 % 4 = 0 ∧ s.nextEdge = 1 ∧ u16At (frameSeq 8) 2 = s.nextEdge % 65536 ∧ (s.side .a).returning = false ∧
     (s.side .a).held = false ∧ (s.side .a).commit = none ∧ (s.side .a).named ≠ some (s.nextEdge % 65536)) ∧
    (let s := fielded .run fun x => { x with commit := some ⟨1, 0, zeros 4⟩ }
     (s.side .a).commit = some ⟨1, 0, zeros 4⟩ ∧ (⟨1, 0, zeros 4⟩ : FieldCommit).edge = s.nextEdge % 65536 ∧ (⟨1, 0, zeros 4⟩ : FieldCommit).mode = modeCommand) ∧
    ((fielded .run fun x => { x with held := true }).side .a).held = true ∧ ((fielded .run fun x => { x with rxSeq := none }).side .a).rxSeq = none := by decide

theorem witness_FieldSilenceAndSupply :
    (let s := fielded .run id
     (s.side .a).running = true ∧ (s.side .a).silenced = false ∧ (s.side .a).epochNew = false ∧ s.pairEnabled = false ∧ (s.side .a).tripped = false) ∧
    (paired .run).pairEnabled = true ∧
    (let s := fielded .run fun x => { x with tripped := true }; (s.side .a).tripped = true ∧ (s.side .a).restoring = false) ∧
    ((fielded .run fun x => { x with restoring := true }).side .b).restoring = true ∧ ((st .run).side .a).running = false ∧ (st .run).mode ≠ .off := by
  decide

theorem witness_DigitalChannels :
    ((fielded .run id).side .a).running = true ∧
    (let s := fielded .run id
     let t : State := { s with io := { s.io with a := { s.io.a with want := 1 } } }
     t.doOn 0 = true ∧ (t.side .a).off = false) ∧
    ((((fielded .run id).setSide 0 { blankSide with running := true, config := [(Obj.vsEnable 0, 1)] }).vsStatus 0 = 0)) ∧
    ((st .run).side .a).off = true := by decide

/-- Group B runs, output 1 with this state. -/
def withAo (x : AoChannel) : State := let s := fielded .run id; { s with io := { s.io with b := { s.io.b with ao := s.io.b.ao.set 0 x } } }

theorem witness_AnalogOutputsAreJudged :
    (let s := withAo { blankFieldIo.b.ao[0] with want := 0x40800000, supplyMv := 26000 }
     s.aoJudged = true ∧ s.io.b.ao[0].delivery = .normal ∧ fLe f32 ma0_5 (0x40000000 : BitVec 32).toNat = true ∧ 26000 ≤ s.io.b.ao[0].supplyMv ∧
       fLt f32 ma0_2 (fSub f32 s.io.b.ao[0].want (0x40000000 : BitVec 32).toNat) = true) ∧
    (let s := withAo { blankFieldIo.b.ao[0] with want := 0x40800000, delivery := .opened }
     fLt f32 (0x40000000 : BitVec 32).toNat ma0_5 = false ∧ s.io.b.ao[0].delivery = .opened) ∧
    (let s := withAo { blankFieldIo.b.ao[0] with want := 0x40800000, delivery := .compliance }
     fLt f32 ma0_1 (fSub f32 s.io.b.ao[0].want (0x40800000 : BitVec 32).toNat) = false ∧ s.io.b.ao[0].delivery = .compliance) ∧
    (let x : AoChannel := { blankFieldIo.b.ao[0] with want := 0x40800000 }
     (withAo x).aoJudged = true ∧ (withAo x).io.b.ao[0].delivery ≠ .opened ∧ fLt f32 (0 : BitVec 32).toNat ma0_5 = true ∧
       fLe f32 ma1_0 (withAo x).io.b.ao[0].want = true) ∧
    (let x : AoChannel := { blankFieldIo.b.ao[0] with delivery := .opened, want := 0x40800000 }
     (withAo x).io.b.ao[0].delivery ≠ .normal ∧ fLt f32 ma0_2 (fSub f32 (withAo x).io.b.ao[0].want (0 : BitVec 32).toNat) = true) ∧
    (fielded .run id).io.b.ao[0].thermal = false ∧ (withAo { blankFieldIo.b.ao[0] with thermal := true }).io.b.ao[0].thermal = true ∧
    (st .run).aoJudged = false ∧ ((fielded .run id).side .b).running = true ∧ (fielded .run id).io.b.ao[0].envelope = false ∧
    (fielded .run id).io.b.ai[0].envelope = false ∧ envelopeCalls 0x43480000 true = true ∧ envelopeCalls (fielded .run id).io.b.temperature true = false := by
  decide

/-- HART on AI 1, in a state of Table 13-6, with this channel state. -/
def harting (m : Mode) (state : Nat) (f : HartChannel → HartChannel) : State :=
  let s : State := { st m with io := { blankFieldIo with hart := blankFieldIo.hart.set 0 (f blankFieldIo.hart[0]) } }
  (s.setFlag (Obj.aiHart 0) true).setNum (Obj.hartState 0) state

theorem witness_HartExchanges :
    (let s := harting .run 1 id; s.hartMaster = true ∧ s.hartEnabled 0 = true ∧ s.hartIs 0 hartSearching = true ∧ s.hartIs 0 hartConnected = false) ∧
    (harting .run 3 id).hartIs 0 hartLost = true ∧
    (let s := harting .run 2 id; s.hartMaster = true ∧ s.hartIs 0 hartConnected = true ∧ s.io.hart[0].queued = none) ∧
    (harting .run 2 fun x => { x with queued := some [9, 0] }).io.hart[0].queued = some [9, 0] ∧ (harting .standby 2 id).hartMaster = false ∧
    (harting .run 1 fun x => { x with inFlight := some 0 }).io.hart[0].inFlight = some 0 ∧
    (let s := harting .run 2 fun x => { x with inFlight := some 3, failures := 2 }
     s.hartIs 0 hartConnected = true ∧ s.io.hart[0].passing = false ∧ s.io.hart[0].inFlight = some 3 ∧ 2 ≤ s.io.hart[0].failures) := by decide

/-! The safety island. -/

def islanded (f : Island → Island) : State := { st .run with island := f { blankIsland with mode := .operating, set := some (zeros 1024) } }

theorem witness_SafetyMatrix :
    (islanded id).island.mode = .operating ∧ (islanded id).island.next = none ∧ (islanded fun x => { x with mode := .noSet }).island.mode = .noSet ∧
    (islanded fun x => { x with next := some (zeros 1024) }).island.next = some (zeros 1024) ∧ (st .run).island.mode = .off ∧
    (∀ e ∈ [EffectState.on, .tripDelaying, .tripped, .restartRequired, .fault], (⟨e, 0⟩ : SafetyEffect).state ≠ .unused) := by decide

theorem witness_SafetyInputs :
    (islanded id).island.works = true ∧ (islanded id).island.inputs[0].level ≠ true ∧
    (let s := islanded fun x => { x with set := some (zeros 128 ++ [3] ++ zeros 895), inputs := x.inputs.set 0 ⟨true, 1, false, 0, false, 0, some 7⟩ }
     s.island.works = true ∧ s.island.inputs[0].level ≠ false ∧ inMode s.island.setBytes 0 = 3 ∧ s.island.inputs[0].highUs = some 7 ∧
       s.island.inputs[0].code ≠ 0 ∧ filteredLevel s.island.setBytes 0 900 [0, 0] = some false ∧ filteredLevel s.island.setBytes 0 900 [0, 11000] = none) ∧
    filteredLevel (zeros 1024) 0 900 [11000, 24000] = some true ∧ inMode (zeros 1024) 0 ≠ 1 ∧ inFilter (zeros 1024) 0 ≤ 50 * 2 ∧
    (let s := islanded fun x => { x with set := some (zeros 128 ++ [1] ++ zeros 895), inputs := x.inputs.set 0 ⟨true, 0, false, 1, false, 0, none⟩ }
     s.island.works = true ∧ inMode s.island.setBytes 0 = 1 ∧ s.island.inputs[0].anomalies ≠ 0 ∧ s.island.inputs[0].fault = 0) ∧
    (let s := islanded fun x => { x with set := some (zeros 130 ++ [1] ++ zeros 893), inputs := x.inputs.set 0 ⟨true, 0, false, 0, false, 0, none⟩ }
     s.island.works = true ∧ inPair s.island.setBytes 0 = 1 ∧ s.island.channelValue 0 ≠ s.island.channelValue 1) := by decide

theorem witness_SafetyOutputs :
    (let s := islanded fun x => { x with causes := x.causes.set 0 ⟨true, 3, false⟩, effects := x.effects.set 0 ⟨.tripDelaying, 4⟩ }
     s.island.mode = .operating ∧ s.island.causes[0].holds = true ∧ s.island.causes[0].active = false ∧ s.island.effects[0].state = .tripDelaying) ∧
    (let s := islanded fun x => { x with outputs := x.outputs.set 0 ⟨true, false, 0, true, 0⟩ }
     s.island.works = true ∧ s.island.outputs[0].high = true ∧ s.island.outputs[0].low = false) ∧
    (let s := islanded fun x => { x with set := some (zeros 769 ++ [2] ++ zeros 254), applied := x.applied.set 0 (true, true)
                                         outputs := x.outputs.set 0 ⟨true, true, 7, true, 0⟩ }
     s.island.works = true ∧ s.island.outputOn 0 = true ∧ s.island.outputs[0].testHigh = true ∧ bit (effFlags s.island.setBytes 0) 1 = true ∧
       s.island.applied[0] ≠ (false, false) ∧ s.island.outputOff 0 = false ∧ s.island.outputs[0].fault = 7) ∧
    (islanded id).island.outputOff 0 = true ∧ (islanded id).island.applied[0] = (false, false) := by decide

/-- A link C frame that the field side takes, after three good ones since it started, with a barred output among those it asks for. -/
theorem witness_SafetyOutputs_frames :
    (let s : State := { islanded (fun x => { x with barred := x.barred.set 1 false }) with
       io := { blankFieldIo with sides := blankFieldIo.sides.set 2 { blankSide with running := true, good := 3, seen := none, rxSeq := some 4 } } }
     (s.side .c).running = true ∧ barrierCrcOk (barrierFrame 5 0 0 0 [0x33]) = true ∧ (s.side .c).rxSeq = some 4 ∧ newerBits 8 5 4 = true ∧
       ((s.side .c).take .c (barrierFrame 5 0 0 0 [0x33])).held = false ∧ s.island.barred[0] = true ∧ s.island.barred[1] = false) := by decide

theorem witness_IslandLife :
    (islanded fun x => { x with mode := .starting }).island.mode = .starting ∧ (islanded id).island.works = true ∧
    (islanded fun x => { x with mode := .safeFault }).island.mode = .safeFault ∧ (islanded fun x => { x with mode := .locked }).island.mode = .locked ∧
    (let s := (islanded fun x => { x with pending := zeros 100 }).setNum Obj.pendingState 2
     s.num Obj.pendingState = 2 ∧ s.setRefusal s.island.pending ≠ 0) ∧
    (islanded id).island.proofDue = false ∧ (islanded fun x => { x with proofDue := true }).island.proofDue = true := by decide

/-! Resets, clocks, DMA, records and firmware. -/

theorem witness_ResetSourcesActAndRelease :
    (let s := st .service
     (∀ e ∈ s.rst.asserted, e.1 ≠ .por ∧ e.1 ≠ .pin ∧ e.1 ≠ .watchdog ∧ e.1 ≠ .debug) ∧ s.mode ≠ .off ∧ s.options.inForce.resetPin = true ∧
     s.mode ≠ .layup ∧ s.keys.locked = false) ∧
    ({ st .service with keys := { deliveredKeys with locked := true } } : State).keys.locked = true ∧
    ({ st .layup with options := { State.reset.options with inForce := ⟨false, true, false⟩ } } : State).options.inForce.resetPin = false ∧
    ({ st .service with options := { State.reset.options with inForce := ⟨true, true, true⟩ } } : State).options.inForce.debugPort = true ∧
    State.reset.rst.asserted.any (fun e => e.1 == .por) = true ∧
    (let s : State := { st .run with rst := { resetBlock0 with asserted := [(.canary, .w), (.pin, .s)], holding := [.canary, .pin] } }
     ResetSource.canary ≠ .por ∧ ResetSource.canary ≠ .pin ∧ ResetSource.canary ≠ .clkFail ∧ ResetSource.canary ∈ s.rst.holding) := by decide

theorem witness_EpisodesOpenAndClose :
    (∀ level ∈ [ResetLevel.c, .w, .s, .p],
      let s : State := { st .run with rst := { resetBlock0 with asserted := [(.canary, level)], holding := [], episode := none } }
      (s.rst.asserted.find? fun e => e.1 == .canary) = some (.canary, level) ∧ s.rst.episode = none ∧ s.rst.count < 0xFFFFFFFF) ∧
    (∀ level ∈ [ResetLevel.c, .w],
      let e : Episode := ⟨16, level, level, .run, 0, 0, 0, some 7⟩
      let s : State := { st .boot with rst := { resetBlock0 with asserted := [], holding := [], episode := some e } }
      s.rst.episode = some e ∧ s.rst.asserted = [] ∧ s.mode ≠ .off ∧ bit e.causes (sourceBit .clkFail) = false) := by decide

theorem witness_BootHoldAndWake :
    (let s : State := { st .boot with rst := { resetBlock0 with asserted := [], holding := [], episode := none, exiting := some .w }
                                      firmware := { State.reset.firmware with running := some (0, 0, 1, 0) } }
     s.mode = .boot ∧ s.rst.episode = none ∧ s.rst.exiting.isSome = true ∧ s.firmware.running.isSome = true) ∧
    (st .run).mode ≠ .off ∧ (st .run).mode ≠ .layup ∧ (st .run).mode ≠ .hold ∧ 1 ≤ (3 : BitVec 16).toNat ∧ (3 : BitVec 16).toNat ≤ 6 ∧
    (let s := (st .layup).setNum Obj.layupWake 15 |>.setObj Obj.layupAlarm (beBytes 12 1)
     s.mode = .layup ∧ bit (s.num Obj.layupWake) 1 = true ∧ bit (s.num Obj.layupWake) 2 = true ∧ bit (s.num Obj.layupWake) 3 = true ∧
       time96Ns (s.obj Obj.layupAlarm) ≠ 0) ∧
    (let s := (((st .layup).setNum Obj.layupWake 1).setNum (Obj.canState 0) canSleep).setNum (Obj.wakeMode 0) 1
     s.mode = .layup ∧ bit (s.num Obj.layupWake) 0 = true ∧ (s.canWakeJudge 0 .dominant).1 = some 1) := by decide

theorem witness_ClockSourcesAreJudged :
    (st .run).mode ≠ .off ∧ (st .run).mode ≠ .layup ∧ Pll.net ≠ .conv ∧ (st .run).flag Obj.xoFailed = false ∧
    (let s := (st .boot).setFlag Obj.xoFailed true; s.flag Obj.xoFailed = true ∧ s.triesXo = false) ∧
    ({ st .boot with rst := { resetBlock0 with exiting := some .s, exitCauses := 0 } } : State).triesXo = true := by decide

theorem witness_IrcIsJudgedAndTrimmed :
    (st .run).mode ≠ .off ∧ (∀ n ∈ [(10 : Nat), 200000], 4 * n < 359375 ∨ 421875 < 4 * n) ∧
    (let s : State := { st .run with clocks := ⟨some 97656, none, false, false⟩ }
     s.clocks.lastCount = some 97656 ∧ 359375 ≤ 4 * 97656 ∧ 4 * 97656 ≤ 421875 ∧ 359375 ≤ 4 * 99000 ∧ 4 * 99000 ≤ 421875 ∧
       200 * (max 97656 97700 - min 97656 97700) ≤ max 97656 97700 ∧ max 97656 99000 < 200 * (max 97656 99000 - min 97656 99000)) ∧
    (let s := ((st .run).setSource 3 true).setObj Obj.domainSources (zeros 7); s.rootIsSys = true ∧ s.source srcIrcFailed = false) ∧
    (let s := (st .run).setSource srcXo true; s.trimReference = 1 ∧ (0 : Nat) < 100000) ∧
    (let s := ((st .run).setFlag Obj.xoFailed true).setNum Obj.tickSource 3; s.trimReference = 0) := by decide

/-- A list scheduled in every tick, with one descriptor of 32 bytes from LPDDR4X to the state area, and one started from it. -/
def oneList : Section :=
  sec 7 ([1, 0, 0, 0] ++ zeros 4 ++ leBytes 2 0 ++ [0, 0, 1, 0] ++ leBytes 2 1 ++ leBytes 2 0 ++ leBytes 2 4000 ++ leBytes 2 1 ++ zeros 2 ++
    leBytes 4 0x20000000 ++ leBytes 4 stateBase ++ leBytes 4 32 ++ zeros 4 ++ zeros 224)

def stagingList : Section :=
  sec 7 ([1, 0, 0, 0] ++ zeros 4 ++ leBytes 2 0 ++ [0, 0, 2, 0] ++ leBytes 2 1 ++ leBytes 2 0 ++ leBytes 2 4000 ++ leBytes 2 1 ++ zeros 2 ++
    leBytes 4 0x20000000 ++ leBytes 4 0x12110000 ++ leBytes 4 32 ++ zeros 4 ++ zeros 224)

def startedJob : DmaJob := ⟨7, 0, 0, 0, 1, none, 0, true, 24000, [], [], 0, [24000], [⟨1, 0, 0, 0, 32, 0⟩], 0, false, false⟩

theorem witness_DmaListsStart :
    (let s := running [oneList] fun e => { e with gates := 2 ^ 32 - 1 }
     s.executes = true ∧ s.lists[0]?.any (fun l => bit s.eng.gates (9 + l.engine) && s.scheduledNow l && !s.isHalted l.engine l.channel &&
       decide (l.descs.length = 1)) = true) ∧
    (let s := running [oneList] fun e => { e with gates := 0 }; s.lists[0]?.any (fun l => !bit s.eng.gates (9 + l.engine)) = true) ∧
    (let s := running [oneList] fun e => { e with gates := 2 ^ 32 - 1, halted := [0] }
     s.lists[0]?.any (fun l => s.scheduledNow l && s.isHalted l.engine l.channel && decide (l.trigger ≠ 2)) = true) ∧
    (let s := running [stagingList] fun e => { e with gates := 2 ^ 32 - 1, discard := true }
     s.eng.discard = true ∧ s.lists[0]?.any (fun l => decide (l.trigger = 2)) = true) := by decide

theorem witness_DmaCompletionAndReports :
    (let s := running [oneList] fun e => { e with jobs := [startedJob], lines := [(7, 0, stateBase + 64)] }
     s.eng.jobs.find? (fun j => decide (j.list = 0) && j.started && !j.complete) = some startedJob ∧ startedJob.lane = none ∧ s.job? 7 = some startedJob ∧
     startedJob.over = true ∧ s.eng.landing = [] ∧
     s.eng.lines.reverse.find? (fun e => decide (e.2.1 = 0) && (s.job? e.1).any fun j => decide (j.list = 0)) = some (7, 0, stateBase + 64) ∧
     s.lists[0]?.any (fun l => l.descs[0]?.any fun d => decide (0 < beatsOf d)) = true ∧ ∀ x ∈ s.eng.jobs, x.engine = 0 → x.over = true) ∧
    (st .run).mode ≠ .off ∧ (st .run).mode ≠ .layup ∧ (st .run).mode ≠ .hold ∧ ({ st .run with storeFault := some (5, true) } : State).storeFault = some (5, true) := by
  decide

/-- R489, Table 18-5: MAGIC begins the header at 0xC000, and nothing lies between the old frame and the target. -/
theorem test_faceplate_area : blankFace.areaByte 0xC000 = some 0x46 ∧ blankFace.areaByte 0xEC30 = none ∧ blankFace.areaByte 0 = some 0 := by decide

theorem witness_TallyLogAndFaceplate :
    tallyCodeOk 0xFFFF = false ∧ tallyCodeOk 0x0102 = true ∧ (st .run).mode ≠ .off ∧
    (let s : State := { st .run with tally := { blankTallies with headKnown := true } }; s.tally.headKnown = true ∧ s.num Obj.talliesWritten < 0xFFFFFFFF) ∧
    (st .run).tally.minutes < 0xFFFFFFFF ∧ ({ st .run with tally := { blankTallies with minutes := 0xFFFFFFFF } } : State).tally.minutes = 0xFFFFFFFF ∧
    ({ st .run with face := { blankFace with page := true } } : State).face.page = true ∧
    (let s : State := { st .run with face := { blankFace with header := zeros 64, queue := [⟨0, 0, 8, 8⟩] } }
     headerRunning s.face.header = false ∧ s.face.queue = [⟨0, 0, 8, 8⟩] ∧ crc32c s.face.frame = s.face.frameCrc) ∧
    ({ st .run with face := { blankFace with frameCrc := 9 } } : State).face.frameCrc ≠ crc32c blankFace.frame ∧
    (let s : State := { st .run with face := { blankFace with header := zeros 4 ++ [1] ++ zeros 59 } }
     headerRunning s.face.header = true ∧ s.face.header.length = 64 ∧ headerPhase s.face.header < 23) ∧
    23 ≤ headerPhase (zeros 4 ++ [1, 0, 0, 23] ++ zeros 56) ∧ blankFace.lastStart = none ∧
    (let s : State := { (st .run).setNum Obj.faceplateRate 2 with face := { blankFace with lastStart := some 5 } }
     s.num Obj.faceplateRate = 2 ∧ s.face.lastStart = some 5 ∧ s.localNs < 5 + 1000000000) := by decide

def recovery : State := { st .boot with rst := { resetBlock0 with asserted := [], holding := [], episode := none, exiting := some .p } }

theorem witness_FirmwareIsVerified :
    (st .run).num (Obj.firmwareBankState 0) ≠ 2 ∧
    (let s := ((st .run).setDomain Obj.firmwareBankA ⟨zeros 8, 3⟩).setNum (Obj.firmwareBankState 0) 2
     let s : State := { s with firmware := { s.firmware with delivered := Vector.replicate 2 false } }
     s.num (Obj.firmwareBankState 0) = 2 ∧ s.firmwareEmpty 0 = false ∧ s.firmwareRefusalOf 0 ≠ 0) ∧
    recovery.recovering = true ∧ recoveryCrc 0 [1, 2] = (BitVec.ofNat 32 (recoveryCrc 0 [1, 2])).toNat ∧ (0 : BitVec 32).toNat ≤ recovery.firmware.received ∧
    (st .run).recovering = false ∧ ({ recovery with firmware := { recovery.firmware with received := 9 } } : State).firmware.received ≠ 0 := by decide

/-! ### Witnesses of single clauses -/

/-- Options, counters that the request moves and its own object; 64 items that outgrow a response; write-only and absent addresses. -/
theorem witness_AcceptedWrites_items :
    taken (st .service) rq Obj.optUsbEnable [1] = true ∧ isOption Obj.optUsbEnable = true ∧
    (List.replicate 65 (BitVec.ofNat 32 Obj.startMode)).length = 65 ∧
    (let u := (st .service).count Obj.requestsExecuted
     u.readCode Obj.stationCommand = Status.writeOnly ∧ u.readCode 0xFFFF01 = Status.noObject ∧ u.readCode 0x1000FE = Status.noSubindex ∧
     u.readCode Obj.startMode = Status.ok ∧ (u.objRow? Obj.startMode).any (fun o => o.type != .domain && o.access != .wo) = true ∧
     (st .service).payloadRoom rq < 64 * (u.readItem 0x221301).length) ∧
    (((st .service).count Obj.requestsExecuted).readItem Obj.startMode).length ≤ (st .service).payloadRoom rq := by decide

/-- A read transfer with more content than a response holds, two of them open, and write transfers at each of their ends. -/
theorem witness_Transfers_ends :
    (let s := { transferring with clp := { blankClp with transfers := [⟨1, false, 0xFFFF, bankDomain 0, 1500, 0, zeros 1500⟩, ⟨2, false, 0xFFFF, bankDomain 1, 2, 0, [8, 9]⟩] } }
     2 ≤ (s.clp.transfers.filter fun x => !x.write).length ∧ (s.count Obj.requestsExecuted).domainCode (bankDomain 0) = 0 ∧
     (s.transferOf rq 1).any (fun x => !x.write && decide (x.content.length < 1499 + 2) && decide (0 + 1500 ≤ x.content.length) && decide (s.payloadRoom rq < 1500)) = true) ∧
    (transferring.count Obj.requestsExecuted).domainCode 0xFFFF01 ≠ 0 ∧
    (transferring.transferOf rq 1).any (fun x => x.write && decide (2 ≤ (transferring.domain x.addr).content.length) && decide (x.total < 2 + 3)) = true ∧
    rq.stores = true ∧ warpBankOf Obj.faceplateUserImage = none ∧
    (let s := { transferring with clp := { blankClp with transfers := [⟨1, true, 0xFFFF, bankDomain 0, 2, 5, []⟩] } }
     (s.transferOf rq 1).any (fun x => decide ((s.domain x.addr).content.length = x.total) && decide (crc32c (s.domain x.addr).content ≠ x.crc)) = true) ∧
    (let s := { transferring with clp := { blankClp with transfers := [⟨1, true, 0xFFFF, Obj.faceplateUserImage, 4, 5, []⟩] } }
     (s.transferOf rq 1).any (fun x => decide (x.addr = Obj.faceplateUserImage) && decide (x.total ≠ 2368)) = true) := by decide

/-- A subscription that has lost records: the oldest of the log lies beyond what it has confirmed. -/
theorem witness_Subscriptions_lost :
    (let s := { subscribed with tally := { blankTallies with headKnown := true, head := tallySlots + 5 } }
     (s.subOf 1).any (fun x => decide (x.confirmed + 1 < s.tally.oldest)) = true) ∧
    (let s := { subscribed with clp := { blankClp with subs := [⟨1, nrq, 0, 0xFFFF, 5, 2, [3, 4], true⟩] } }
     (s.subOf 1).any (fun x => x.lost && x.heldBy nrq && x.awaiting.any (fun n => decide (3 < n))) = true) ∧
    (subscribed.matching ⟨1, nrq, 0, 0xFFFF, 1, 0, [], false⟩ 1 subscribed.tally.head = []) ∧
    (exchanging [10, 0, 0, 9]).mode.running = true ∧ (addressed .run).io.fenced = false := by decide

theorem witness_NetworkServices_usb :
    (st .off).serves = false ∧ (st .service).serves = true ∧ (st .service).options.inForce.usb = true ∧
    (lastSecond ((st .service).atOffset 0).localNs ((st .service).atOffset 0).clp.usbArpTimes).length < 100 ∧
    (lastSecond ((st .service).atOffset 0).localNs ((st .service).atOffset 0).clp.usbIcmpTimes).length < 10 ∧
    (let s := { st .service with clp := { blankClp with usbArpTimes := now100, usbIcmpTimes := now100 } }
     100 ≤ (lastSecond (s.atOffset 0).localNs (s.atOffset 0).clp.usbArpTimes).length ∧
     10 ≤ (lastSecond (s.atOffset 0).localNs (s.atOffset 0).clp.usbIcmpTimes).length) ∧
    (let s := { addressed .run with prp := { (addressed .run).prp with lost := Vector.replicate 2 true } }
     s.mode.answers = true ∧ s.prp.lost[portIx .a] = true ∧ s.portRate (portNo .a) ≠ 0 ∧
       s.localNs < s.prp.heardAt[portIx .a] + s.num Obj.pathTimeout * 1000000 ∧ s.rateLow (s.portRate (portNo .a)) = false) := by decide

theorem witness_Ticks_more :
    (let s := (ticking .run []).setNum Obj.activeProfile 1
     s.mode.answers = true ∧ s.runsNext = true ∧ s.warp.loaded.isSome = true ∧ s.mode.running = true ∧ s.profile = 1 ∧ s.profileAt s.nextEdge = 1) ∧
    (let s := (ticking .run []).setNum Obj.activeProfile 2; s.runsNext = true ∧ s.profile ≠ 1) ∧
    (let s : State := { (ticking .standby [oneGroup]).setNum Obj.syncState 3 with pair := { blankPair with placed := some 7 } }
     s.mode = .standby ∧ s.executes = true ∧ s.pair.placed = some s.tick ∧ 0 < s.groups.length) ∧
    (let s := (ticking .standby [oneGroup]).setNum Obj.syncState 3; s.mode = .standby ∧ s.executes = true ∧ s.pair.placed ≠ some s.tick) := by decide

/-- A lane's list for which the plan has a slot, one for which it has none, and one on a halted channel. -/
theorem witness_LaneDmai_cases :
    (let s := running [sec 7 ([1, 0, 0, 0] ++ zeros 300), sec 8 ([1, 0, 0, 0] ++ zeros 4 ++ [1, 0, 0, 0] ++
      (zeros 4 ++ [4, 0, 0, 0] ++ [10, 0, 1, 0]) ++ [1, 0, 0, 0] ++ zeros 2 ++ leBytes 2 4000 ++ [1, 0] ++ zeros 6)] id
     (s.lane 0).active = true ∧ plannedList s.sections s.profile (tickIndex s.tick) 0 (s.lane 0).pc = none ∧
     s.lists[0]?.any (fun x => !s.isHalted x.engine x.channel && s.slotsLeft x.engine 0) = true) ∧
    (let s := running [sec 7 ([1, 0, 0, 0] ++ zeros 300)] fun e => { e with halted := [0] }
     s.lists[0]?.any (fun x => s.isHalted x.engine x.channel) = true) := by decide

theorem witness_Lockstep_second :
    (let s := (running [] fun e => { e with mismatches := 1 }).setNum Obj.activeProfile 3
     s.canvas = true ∧ s.executes = true ∧ s.eng.mismatches = 1 ∧ s.eng.reexecuting = false) ∧
    (let s := (running [] fun e => { e with mismatches := 1, reexecuting := true }).setNum Obj.activeProfile 3
     s.eng.mismatches = 1 ∧ (s.lane 0).running = true) ∧
    (let s := (running [] fun e => { e with mismatches := 2 }).setNum Obj.activeProfile 3; s.canvas = true ∧ s.executes = true ∧ 1 < s.eng.mismatches) := by decide

/-- A module that refused and retrained, before and after a HELLO of the epoch; one whose partner is there but untrained; a refusal's key. -/
theorem witness_SeamLinkAndHello_refused :
    (let s : State := { (paired .run).setNum Obj.seamState 3 with pair := { blankPair with retrained := true, helloEpoch := none } }
     s.pairEnabled = true ∧ s.mode.answers = true ∧ s.num Obj.seamState = 3 ∧ s.pair.retrained = true ∧ s.pair.helloEpoch ≠ some (u32At (seamHead 1 116) 4)) ∧
    (let s : State := { (paired .run).setNum Obj.seamState 3 with pair := { blankPair with retrained := true, helloEpoch := some 1 } }
     s.num Obj.seamState = 3 ∧ s.pair.helloEpoch = some (u32At (seamHead 1 116) 4) ∧ (s.sendingKey s.ownSerial).isSome = true) ∧
    (let s : State := { (paired .run).setNum Obj.seamState 1 with pair := { blankPair with partnerPresent := true } }
     s.num Obj.seamState < 2 ∧ s.pairEnabled = true ∧ s.pair.partnerPresent = true ∧ s.mode.answers = true) ∧
    (let s : State := { paired .run with pair := { blankPair with rxNext := 1 } }; s.pair.has (u64At (seamHead 1 116) 8) = true) := by decide

theorem witness_Heartbeat_more :
    (let s := heardAt ((synced .standby).setDetail 0 true |>.setNum Obj.heartbeatMisses 2) 5 0 true
     s.inPair = true ∧ s.pair.deciding = true ∧ s.mode = .standby ∧ s.degraded = true ∧ s.visibleAt s.tick = false) ∧
    (let s : State := heardAt { (paired .standby).setDetail 0 true |>.setNum Obj.heartbeatMisses 3 with
        pair := { blankPair with partnerPresent := true, presenceSeen := 1, presenceTick := 7 } } 5 0 true
     s.inPair = true ∧ s.visibleAt s.tick = true ∧ s.degraded = true ∧ s.num Obj.heartbeatMisses ≠ 2) ∧
    (let s : State := heardAt { (paired .standby).setDetail 0 true |>.setNum Obj.heartbeatMisses 2 with
        pair := { blankPair with partnerPresent := true, presenceSeen := 1, presenceTick := 7 } } 5 0 true
     s.inPair = true ∧ s.visibleAt s.tick = true ∧ s.num Obj.heartbeatMisses = 2) ∧
    (let s := (heardAt (synced .standby) 7 9 false).setNum Obj.syncState 4
     s.inPair = true ∧ s.executes = true ∧ s.pair.joinAt = none ∧ s.pair.heard.any (fun c => decide (c.tick = s.tick) && decide (c.digest ≠ s.pair.digest)) = true) ∧
    (let s := heardAt (paired .ready) 5 0 true; s.pair.deciding = true ∧ s.mode ≠ .run ∧ s.mode ≠ .standby) ∧
    (let s : State := { eve .ready with command := some ⟨5, 4000, true⟩ }; s.due 4000 = true ∧ s.mode ≠ .run ∧ s.mode ≠ .standby) ∧
    (let s : State := { (eve .standby).setDetail 4 true with command := some ⟨5, 4000, true⟩ }; 4000 ≠ s.tick) := by decide

theorem witness_Can_more :
    (let s := (onBus idle).setNum (Obj.rxErrorCount 0) 130; 127 < s.num (Obj.rxErrorCount 0) ∧ (s.chan 0).detect = none ∧ s.canReceives 0 = true) ∧
    (onBus idle).num (Obj.rxErrorCount 0) ≤ 127 ∧ (onBus idle).canTakesPart 0 = true ∧ (onBus idle).num (Obj.txErrorCount 0) < 248 ∧
    ((onBus idle).setNum (Obj.canState 0) canBusOffState).canTakesPart 0 = false ∧ (onBus idle).num (Obj.canState 0) = canErrorActive ∧
    (let s := (onBus { idle with tx := [(2, ⟨some fr, true, none⟩), (3, ⟨some fr, false, some fr⟩)] }).setNum (Obj.canState 0) canErrorPassive
     s.num (Obj.canState 0) = canErrorPassive ∧ (Assoc.get? (s.chan 0).tx (2 : Fin 32).val).any (fun x => x.started) = true ∧
       (Assoc.get? (s.chan 0).tx 3).any (fun x => !x.started) = true) := by decide

/-- Link B without its clock, link C stopped and running, a stored commit frame of another edge, and the frame of a restarted side. -/
theorem witness_Barrier_more :
    (let s := { fielded .run id with dict := ((fielded .run id).setObj Obj.domainSources [0, 0, 0, 0, 0, 2, 0]).dict }
     s.linkStands .b = true ∧ s.linkStands .a = false ∧ s.seamServes = false ∧ s.linksSend = true) ∧
    (st .run).island.linkStopped = true ∧
    (let s := fielded .run fun x => { x with commit := some ⟨9, 0, zeros 4⟩ }
     (s.side .a).commit = some ⟨9, 0, zeros 4⟩ ∧ (⟨9, 0, zeros 4⟩ : FieldCommit).edge ≠ s.nextEdge % 65536 ∧ (s.side .a).returning = false) ∧
    (let s := fielded .run fun x => { x with commit := some ⟨1, 0, zeros 4⟩, named := some 1, held := false }
     (s.side .a).named = some 1 ∧ (s.side .a).held = false ∧ s.nextEdge % 65536 = 1) ∧
    (let b := barrierFrame 3 0 1 8 (leBytes 4 77)
     barrierCrcOk b = true ∧ bit (u8At b 4) 3 = true ∧ ((fielded .run id).link .a).epoch ≠ some (u32At (framePayload b) 0)) ∧
    (let s := islanded fun x => { x with rxSeq := some 5 }; s.island.works = true ∧ s.island.rxSeq = some 5 ∧ newerBits 8 8 5 = true) := by decide

theorem witness_FieldSides_more :
    (let s := fielded .run fun x => { x with silenced := true, held := true }; (s.side .a).silenced = true ∧ (s.side .a).held = true) ∧
    (let s := fielded .run fun x => { x with tripped := true }; (s.side .a).running = true ∧ (s.side .a).off = true) ∧
    (st .off).mode = .off ∧
    (let s : State := { st .boot with rst := { resetBlock0 with episode := some ⟨2, .s, .s, .run, 0, 0, 0, none⟩ } }
     (s.side .a).running = false ∧ s.rst.episode.any (fun e => decide (3 ≤ levelCode e.widest)) = true ∧
       s.rst.episode.any (fun e => decide (4 ≤ levelCode e.widest)) = false) := by decide

theorem witness_Hart_more :
    (harting .run 2 id).hartEnabled 8 = false ∧ (harting .run 2 id).hartEnabled 0 = true ∧ (harting .run 2 id).noClock 6 = false ∧
    ((harting .run 2 id).setObj Obj.domainSources [0, 0, 0, 0, 0, 0, 2]).noClock 6 = true ∧
    (let s := harting .standby 2 fun x => { x with failures := 2 }
     s.hartMaster = false ∧ s.hartEnabled 0 = true ∧ s.io.hart[0].inFlight = none ∧ 2 ≤ s.io.hart[0].failures ∧ s.hartIs 0 hartConnected = true) ∧
    (harting .run 2 fun x => { x with inFlight := some 3 }).io.hart[0].failures < 2 := by decide

theorem witness_Island_more :
    (let s : State := { islanded id with io := { blankFieldIo with sides := blankFieldIo.sides.set 2 { blankSide with running := true, tripped := true } } }
     s.island.mode = .operating ∧ s.island.next = none ∧ (s.side .c).tripped = true ∧ s.island.set = some (zeros 1024)) ∧
    ((islanded id).side .c).tripped = false ∧
    (let s := islanded fun x => { x with effects := x.effects.set 0 ⟨.restartRequired, 0⟩ }; s.island.effects[0].state = .restartRequired ∧ s.island.fired = []) ∧
    (islanded id).island.tpBad[0] = false ∧
    (let s := islanded fun x => { x with set := some (zeros 128 ++ [1, 1] ++ zeros 894), inputs := x.inputs.set 0 ⟨true, 0, false, 1, false, 0, none⟩ }
     inMode s.island.setBytes 0 = 1 ∧ inTp s.island.setBytes 0 = 1 ∧ s.island.inputs[0].anomalies ≠ 0 ∧ s.island.inputs[0].fault = 0) ∧
    (islanded id).island.checkPasses (.scanPeriod 979999) = false ∧ (islanded id).island.checkPasses (.scanPeriod 1020000) = true ∧
    (islanded id).island.checkPasses (.readback 0 true false) = false ∧ (islanded id).island.checkPasses (.memory true 8001) = false ∧
    (let s : State := { st .run with timeNs := 10 ^ 19, island := { blankIsland with proofDue := false } }
     s.island.proofDue = false ∧ time96Ns (s.obj Obj.lastProofTest) + s.num Obj.proofTestInterval * 86400000000000 ≤ s.timeNs) ∧
    (st .run).timeNs < time96Ns ((st .run).obj Obj.lastProofTest) + (st .run).num Obj.proofTestInterval * 86400000000000 := by decide

/-! Resets and clocks. -/

/-- The Canary asserted, with a reset request that waits; a clock failure that holds, with the IRC judged stable and not. -/
theorem witness_Resets_more :
    (let s : State := { st .run with rst := { resetBlock0 with asserted := [(.canary, .w)], holding := [], episode := none, request := some .c } }
     (s.rst.asserted.find? fun e => e.1 == .canary) = some (.canary, .w) ∧ (∀ e ∈ s.rst.asserted, e.1 ≠ .request) ∧ s.rst.episode = none ∧
       s.rst.request = some .c ∧ sourceLevel .request s.mode .c (decide (s.num Obj.activeProfile = 3)) = some .w ∧ s.rst.count < 0xFFFFFFFF) ∧
    (let s : State := { (st .boot).setSource srcIrc true with rst := { resetBlock0 with asserted := [(.clkFail, .s)], holding := [.clkFail] } }
     ResetSource.clkFail ∈ s.rst.holding ∧ s.source srcIrc = true) ∧
    (let s : State := { st .boot with rst := { resetBlock0 with asserted := [(.clkFail, .s)], holding := [.clkFail] } }
     ResetSource.clkFail ∈ s.rst.holding ∧ s.source srcIrc = false) ∧
    (let s : State := { st .boot with rst := { resetBlock0 with asserted := [(.pin, .s)], holding := [], episode := some ⟨16, .w, .w, .run, 0, 0, 0, some 7⟩ } }
     (s.rst.asserted.find? fun e => e.1 == .pin) = some (.pin, .s) ∧ s.rst.episode = some ⟨16, .w, .w, .run, 0, 0, 0, some 7⟩) ∧
    (let s : State := { st .boot with rst := { resetBlock0 with asserted := [], episode := some ⟨16, .c, .c, .boot, 0, 0, 0, none⟩, interrupted := some .p } }
     s.rst.episode = some ⟨16, .c, .c, .boot, 0, 0, 0, none⟩ ∧ s.rst.asserted = [] ∧ s.mode ≠ .off ∧ s.rst.interrupted.getD .c = .p) ∧
    (⟨5, true, [], false, none, none⟩ : ExitFacts).lrcStopped = true ∧ (⟨5, true, [], false, none, none⟩ : ExitFacts).backup = [] := by decide

theorem witness_Boot_more :
    (let s : State := { st .run with rst := { resetBlock0 with asserted := [], episode := none, exiting := some .c }, firmware := { State.reset.firmware with running := some (0, 0, 1, 0) } }
     s.rst.episode = none ∧ s.firmware.running.isSome = true ∧ s.mode ≠ .boot ∧ s.rst.exiting = some .c) ∧
    (let s : State := { st .boot with rst := { resetBlock0 with asserted := [], episode := none, waking := true, layup := some .service }, firmware := { State.reset.firmware with running := some (0, 0, 1, 0) } }
     s.rst.episode = none ∧ s.mode = .boot ∧ s.rst.waking = true ∧ s.rst.layup ≠ some .ready) ∧
    (let s : State := { st .hold with rst := { resetBlock0 with asserted := [], episode := none, exiting := some .s }, firmware := { State.reset.firmware with running := some (0, 0, 1, 0) } }
     s.rst.episode = none ∧ s.mode = .hold ∧ s.rst.exiting.isSome = true ∧ s.rst.exiting ≠ some .c) ∧
    ({ st .boot with rst := { resetBlock0 with asserted := [], episode := none, exiting := some .w, holdAtExit := 2 } } : State).rst.holdAtExit ≠ 0 ∧
    (let s := (st .layup).setNum Obj.layupWake 0; s.mode = .layup ∧ bit (s.num Obj.layupWake) 1 = false ∧ bit (s.num Obj.layupWake) 0 = false) ∧
    (let s := (st .layup).setNum Obj.layupWake 1
     s.mode = .layup ∧ bit (s.num Obj.layupWake) 0 = true ∧ (s.canWakeJudge 0 .dominant).1 = none) ∧
    (st .hold).mode = .hold ∧ ((0 : BitVec 16).toNat < 1) ∧ (6 < (7 : BitVec 16).toNat) := by decide

/-- Clock checks armed and not armed, a PLL reference on the IRC, and a gated root clock. -/
theorem witness_Clocks_more :
    (let s := (st .run).setSource srcXo true; s.armed .xoStop = true ∧ s.armed .xoFrequency = true ∧ s.mode ≠ .off) ∧
    (st .boot).armed (.pll .sys) = false ∧ (st .run).armed .root = true ∧
    (let s := (st .run).setSource 6 true; s.source 6 = true) ∧ (let s := (st .run).setSource (pllBit .sys) true; s.armed (.pll .sys) = true) ∧
    (let s := (st .run).setSource (pllBit .seam) true; s.armed (.pll .seam) = true) ∧
    (st .run).noClock 0 = false ∧ ((st .run).setObj Obj.domainSources [2, 0, 0, 0, 0, 0, 0]).noClock 0 = true ∧
    (let s : State := { (st .boot).setSource srcIrc true with rst := { resetBlock0 with asserted := [], episode := none, exiting := some .s } }; s.tryingXo = true) ∧
    (st .run).tryingXo = false ∧ (∀ e ∈ (st .run).rst.asserted, e.1 ≠ .clkFail) ∧
    (let s := ((st .run).setSource srcIrc true).setSource 3 true; s.source srcIrc = true ∧ s.rootIsSys = true) ∧
    ((st .run).setObj Obj.domainSources [1, 0, 0, 0, 0, 0, 0]).rootIsSys = false := by decide

theorem witness_Trim_more :
    (let s := ((st .run).setFlag Obj.xoFailed true).setNum Obj.tickSource 0; s.trimReference = 2 ∧ s.mode ≠ .off ∧ s.mode ≠ .layup) ∧
    (let s : State := (((st .run).setFlag Obj.xoFailed true).setNum Obj.tickSource 3).setNum Obj.ircTrimChannel 1
     let s := s.setChan 0 { idle with refEdge := some 5, masters := 10 ^ 9 :: List.replicate 100 0 }
     s.trimReference = 3 ∧ s.trimChannel = some 0 ∧ s.masterWindow = 10 ^ 9 ∧ 0 < s.masterWindow / 10) := by decide

/-- A plan with four slots of a kind on engine 0's port in every tick. -/
def somePlan (kind : Nat) : Section :=
  sec 8 ([1, 0, 0, 0] ++ zeros 4 ++ [1, 0, 0, 0] ++ (zeros 4 ++ [4, 0, 0, 0] ++ [10, 0] ++ leBytes 2 kind) ++ [1, 0, 0, 0] ++ zeros 2 ++ leBytes 2 4000 ++ [1, 0] ++ zeros 6)

/-- A scheduled list under way whose one beat is left, from a source to 64 bytes beyond the state area's start. -/
def oneBeat (src : Nat) : DmaJob := ⟨7, 0, 0, 0, 1, none, 0, true, 0, [], [⟨src, stateBase + 64, 32, 0⟩], 0, [], [], 0, false, false⟩

/-- A lane's list 0, issued and not started. -/
def issuedJob : DmaJob := ⟨7, 0, 0, 0, 0, some (1, 3), 0, false, 0, [], [⟨stateBase, stateBase + 64, 32, 0⟩], 0, [], [], 0, false, false⟩
def laneList : Section := sec 7 ([1, 0, 0, 0] ++ zeros 4 ++ zeros 300)

theorem witness_DmaListsStart_slots :
    (let s := running [oneList, somePlan 0] fun e => { e with gates := 2 ^ 32 - 1 }
     s.executes = true ∧ (s.engineSlots 0 (triggerKind 1)).head? = some (0, 4) ∧
     s.lists[0]?.any (fun l => bit s.eng.gates (9 + l.engine) && s.scheduledNow l && decide (l.engine = 0) && decide (l.trigger = 1) && !s.isHalted l.engine l.channel) = true ∧
     s.eng.jobs = []) ∧
    (let s := running [laneList] fun e => { e with gates := 2 ^ 32 - 1, jobs := [issuedJob] }
     s.lists[0]?.any (fun l => decide (l.trigger = 0) && bit s.eng.gates (9 + l.engine)) = true ∧
     s.eng.jobs.find? (fun j => decide (j.list = 0) && !j.started && j.lane.isSome) = some issuedJob ∧ s.isHalted 0 0 = false ∧
     ∀ x ∈ s.eng.jobs, x.engine = 0 → x.over = true ∨ x.id = 7) ∧
    (let s := running [laneList] fun e => { e with gates := 2 ^ 32 - 1, jobs := [issuedJob], halted := [0] }; s.isHalted 0 0 = true) := by decide

theorem witness_DmaBeatsMove :
    (let s := running [oneList, somePlan 0] fun e => { e with jobs := [oneBeat stateBase], gates := 2 ^ 32 - 1 }
     s.eng.jobs.find? (fun j => decide (j.list = 0) && j.started && !j.complete) = some (oneBeat stateBase) ∧ s.job? 7 = some (oneBeat stateBase) ∧
     0 < beatsOf ⟨stateBase, stateBase + 64, 32, 0⟩ ∧ s.nextBeat 0 = some (0, oneBeat stateBase) ∧ s.eng.landing = [] ∧
     s.beatError 1 stateBase (stateBase + 64) false = none ∧ dmaSpace stateBase ≠ 2 ∧ s.standbyWeft stateBase (stateBase + 64) = false ∧
     s.stagingHeld 0 = false) ∧
    (let s := running [oneList, somePlan 0] fun e => { e with jobs := [oneBeat 0x1F000000], gates := 2 ^ 32 - 1 }
     s.nextBeat 0 = some (0, oneBeat 0x1F000000) ∧ (s.beatError 1 0x1F000000 (stateBase + 64) false).isSome = true) := by decide

theorem witness_DeviceRequests :
    (let s := running [] fun e => { e with gates := 2 ^ 32 - 1 }; s.eng.hostBurst[(0 : Fin 4)] = none ∧ bit s.eng.gates 9 = true) ∧
    (running [] id).eng.hostBurst[(0 : Fin 4)] = none ∧ bit (running [] id).eng.gates 9 = false ∧
    (let s := running [] fun e => { e with hostBurst := e.hostBurst.set 0 (some ⟨.usb, 3, 0⟩) }; s.eng.hostBurst[(0 : Fin 4)] = some ⟨.usb, 3, 0⟩) ∧
    (let s := running [] fun e => { e with hostBurst := e.hostBurst.set 0 (some ⟨.usb, 3, 1⟩) }; s.eng.hostBurst[(0 : Fin 4)] = some ⟨.usb, 3, 1⟩) ∧
    (let s : State := { st .run with storeFault := none }; s.mode ≠ .hold ∧ s.storeFault ≠ some (5, true) ∧ sourceLevel .canary s.mode .s false = some .w ∧
      ∀ e ∈ s.rst.asserted, e.1 ≠ .canary) ∧ (st .layup).mode = .layup := by decide

/-! ### Small tests, with values from the tables of the spec or computed by hand from its rules -/

/-- The next state of a command that completes. -/
def after (i : Instr) (s : State) : State := match exec i s with | .next t => t | _ => s

def lane0 (i : Instr) (regs : List (Fin 512 × Word64)) (r : Fin 512) : Word64 :=
  let x := regs.foldl (fun (x : Lane) e => x.setReg e.1 e.2) { blankLane with running := true }
  (((after i { st .run with eng := { blankEngines with lanes := blankEngines.lanes.set 0 x } }).lane 0).reg r)

/-- R179: division truncates toward zero, a zero divisor gives 0, and the most negative dividend wraps; addition of 32 bits drops its carry. -/
theorem test_lane_integers : lane0 (.laneDivs32 0 4 5 6) [(5, 0xFFFFFFF9), (6, 2)] 4 = 0xFFFFFFFD ∧
    lane0 (.laneDivs64 0 4 5 6) [(5, 9), (6, 0)] 4 = 0 ∧
    lane0 (.laneDivs64 0 4 5 6) [(5, 0x8000000000000000), (6, 0xFFFFFFFFFFFFFFFF)] 4 = 0x8000000000000000 ∧
    lane0 (.laneAdd32 0 4 5 6) [(5, 0xFFFFFFFF), (6, 2)] 4 = 1 := by decide

/-- R172: register 0 stays 0. R178: a field of 8 bits from bit 4, and its insertion. -/
theorem test_lane_fields : lane0 (.laneAdd64 0 0 5 6) [(5, 1), (6, 2)] 0 = 0 ∧ lane0 (.laneExt 0 4 5 4 7) [(5, 0xABCDE)] 4 = 0xCD ∧
    lane0 (.laneIns 0 4 5 4 7) [(4, 0xFFFFF), (5, 0x12)] 4 = 0xFF12F := by decide

/-- R180, R181: sums and products of F32, a halfway case to even, NaN in a comparison, and a ramp by its step. -/
theorem test_lane_floats : lane0 (.laneFadd32 0 4 5 6) [(5, 0x3F800000), (6, 0x40000000)] 4 = 0x40400000 ∧
    lane0 (.laneFadd32 0 4 5 6) [(5, 0x4B800000), (6, 0x3F800000)] 4 = 0x4B800000 ∧
    lane0 (.laneFcle32 0 4 5 6) [(5, 0x7FC00000), (6, 0x3F800000)] 4 = 0 ∧
    lane0 (.laneRamp32 0 4 5 6) [(4, 0x3F800000), (5, 0x41200000), (6, 0x3F000000)] 4 = 0x3FC00000 := by decide

/-- Tables 6-2 and 6-3: words of the formats RRR, WAIT, RI, K and E, written out field by field; an unused field that is not 0, and an opcode outside
the table. -/
theorem test_slot_words : slotInstr 0 (0x10 * 2 ^ 56 + 4 * 2 ^ 47 + 5 * 2 ^ 38 + 6 * 2 ^ 29) = some (.laneAdd32 0 4 5 6) ∧
    slotInstr 1 (0x02 * 2 ^ 56 + 1 * 2 ^ 47 + 5) = some (.laneWait 1 1 5) ∧
    slotInstr 2 (0x6A * 2 ^ 56 + 9 * 2 ^ 47 + 8 * 2 ^ 38 + (2 ^ 38 - 4)) = some (.laneLd32 2 9 8 (2 ^ 38 - 4)) ∧
    slotInstr 3 (0x08 * 2 ^ 56 + 3 * 2 ^ 47 + 0xFFFFFFFF) = some (.laneConstl 3 3 0xFFFFFFFF) ∧
    slotInstr 0 (0x05 * 2 ^ 56 + 5 * 2 ^ 38 + 3 * 2 ^ 33 + 2 * 2 ^ 28 + 7) = some (.laneShut 0 5 3 2 7) ∧
    slotInstr 0 (0x01 * 2 ^ 56) = some (.laneEnd 0) ∧ slotInstr 0 (0x01 * 2 ^ 56 + 1) = none ∧ slotInstr 0 (0x7F * 2 ^ 56) = none := by decide

/-- R327: the lower identifier is offered first, and of two equal ones the lower buffer. R385: the second anomaly in a row latches the fault. -/
theorem test_arbitration_and_anomaly :
    ({ idle with tx := [(2, ⟨some { fr with ident := 9 }, false, none⟩), (7, ⟨some { fr with ident := 4 }, false, none⟩)] } : CanChannel).offered = some 7 ∧
    (tpCheck ⟨true, 0, false, 1, false, 0, none⟩ 2).1.fault = 2 ∧ (tpCheck ⟨true, 0, false, 0, false, 0, none⟩ 2).1.fault = 0 := by decide

/-- Table 1-7: supply, a boot's end and a start at the boundary. -/
theorem test_supply_boots : (after .logicSupplyRise State.reset).mode = .boot ∧
    (after .startBoundary { eve .ready with command := some ⟨3, 4000, false⟩ }).mode = .run := by decide

/-- R3, R4: the edge numbers the tick. -/
theorem test_edge : (after .tickEdge (eve .ready)).tick = 4000 ∧ (after .tickEdge (st .boot)).tick = 0 := by decide

/-- Table 7-11: an acknowledgement of UNACK, and a return without one. -/
theorem test_alarm_states : alarmNext .unack .ack = (.acked, true) ∧ alarmNext .unack .clearAll = (.rtnUnack, false) ∧
    alarmNext .shelved .raise = (.shelved, false) := by decide

/-- R318: data lengths of DLC 9 to 15; R316: 80 MHz over 10 × 8 gives 1 Mbit/s. -/
theorem test_can_lengths : (List.range 7).map (fun k => dlcLength (9 + k)) = [12, 16, 20, 24, 32, 48, 64] ∧ canRate 10 5 2 = 1000000 := by decide

/-- Table 12-4: bands of a monitored input. -/
theorem test_di_bands : diBand true 24000 400 = (none, qcWireBreak) ∧ diBand true 24000 2000 = (some false, 0) ∧ diBand true 24000 6000 = (some true, 0) := by
  decide

/-- R445: half the error of 10 ppm is 50 steps of 0.1 ppm; a gross error gives the largest step. -/
theorem test_trim_steps : trimSteps 100001 100000 = 50 ∧ trimSteps 200000 100000 = 10000 ∧ trimSteps 50000 100000 = -10000 := by decide

/-- The check value of CRC-32C over "123456789", and a sequence that wraps (R74). -/
theorem test_crc_and_sequence : crc32c (asciiBytes "123456789") = 0xE3069283 ∧ newer16 3 0xFFFE = true ∧ newer16 0xFFFE 3 = false := by decide

/-- R18: START has no place in SERVICE. -/
theorem test_start_refused : (st .service).writeCode rq Obj.stationCommand [3] = Status.stateConflict := by decide

/-- R248: the sign of a square test signal changes each period. -/
theorem test_square_signal : (List.range 5).map (fun n => (testSignalOf ⟨0, 2, 0, 0x3F800000, 2, 9, 1, 1⟩ n 1).1) =
    [0x3F800000, 0x3F800000, 0xBF800000, 0xBF800000, 0x3F800000] := by decide

end Sys2Proof.Tests
end

section

namespace Sys2Proof.Machine

/-! ### Most operations keep the lifecycle state and the keys

For each operation of the model, in the order of its definition, that moves neither. The few that do move one get their own rules below. -/

@[simp] theorem ite_mode (c : Prop) [Decidable c] (s t : State) : (if c then s else t).mode = if c then s.mode else t.mode := apply_ite ..
@[simp] theorem ite_keys (c : Prop) [Decidable c] (s t : State) : (if c then s else t).keys = if c then s.keys else t.keys := apply_ite ..

@[simp] theorem foldl_mode_keys {α : Type} {f : State → α → State} (h : ∀ s x, (f s x).mode = s.mode ∧ (f s x).keys = s.keys) (xs : List α) (s : State) :
    (xs.foldl f s).mode = s.mode ∧ (xs.foldl f s).keys = s.keys := by
  induction xs generalizing s with
  | nil => exact ⟨rfl, rfl⟩
  | cons x xs ih => simp only [List.foldl_cons, ih, h, and_self]

theorem DmaOnly.mode_keys {s t : State} (h : DmaOnly s t) : t.mode = s.mode ∧ t.keys = s.keys := by
  rw [h]; exact ⟨rfl, rfl⟩

/-! #### Ops -/

@[simp] theorem State.drawFree_mode_keys (s : State) : s.drawFree.2.mode = s.mode ∧ s.drawFree.2.keys = s.keys := ⟨rfl, rfl⟩

/-! #### Image -/

@[simp] theorem State.noteScratch_mode_keys (s : State) (a n : Nat) : (s.noteScratch a n).mode = s.mode ∧ (s.noteScratch a n).keys = s.keys :=
  ⟨rfl, rfl⟩

/-! #### Can -/

@[simp] theorem State.setCanRates_mode_keys (s : State) (k : Nat) : (s.setCanRates k).mode = s.mode ∧ (s.setCanRates k).keys = s.keys := ⟨rfl, rfl⟩

@[simp] theorem State.canRefresh_mode_keys (s : State) : s.canRefresh.mode = s.mode ∧ s.canRefresh.keys = s.keys := by simp [State.canRefresh]

@[simp] theorem State.detectEnd_mode_keys (s : State) (k : Fin 8) (result : Nat) :
    (s.detectEnd k result).mode = s.mode ∧ (s.detectEnd k result).keys = s.keys := by
  simp [State.detectEnd]

@[simp] theorem State.canBegin_mode_keys (s : State) : s.canBegin.mode = s.mode ∧ s.canBegin.keys = s.keys := by simp [State.canBegin]

@[simp] theorem State.canEnd_mode_keys (s : State) : s.canEnd.mode = s.mode ∧ s.canEnd.keys = s.keys := by simp [State.canEnd]

@[simp] theorem State.canStop_mode_keys (s : State) : s.canStop.mode = s.mode ∧ s.canStop.keys = s.keys := ⟨rfl, rfl⟩

@[simp] theorem State.canAbandon_mode_keys (s : State) : s.canAbandon.mode = s.mode ∧ s.canAbandon.keys = s.keys := ⟨rfl, rfl⟩

@[simp] theorem State.canStore_mode_keys (s : State) (k : Fin 8) (b : Nat) (f : CanFrame) :
    (s.canStore k b f).mode = s.mode ∧ (s.canStore k b f).keys = s.keys := by
  simp [State.canStore]

@[simp] theorem State.detectRx_mode_keys (s : State) (k : Fin 8) (d : CanDetect) (rx : CanRx) :
    (s.detectRx k d rx).mode = s.mode ∧ (s.detectRx k d rx).keys = s.keys := by
  unfold State.detectRx; split <;> simp

@[simp] theorem State.canAccept_mode_keys (s0 : State) (k : Fin 8) (f : CanFrame) :
    (s0.canAccept k f).mode = s0.mode ∧ (s0.canAccept k f).keys = s0.keys := by
  unfold State.canAccept; dsimp only; (repeat' split) <;> simp

@[simp] theorem State.recGood_mode_keys (s : State) (k : Nat) : (s.recGood k).mode = s.mode ∧ (s.recGood k).keys = s.keys := by simp [State.recGood]

@[simp] theorem State.enterBusOff_mode_keys (s : State) (k : Fin 8) : (s.enterBusOff k).mode = s.mode ∧ (s.enterBusOff k).keys = s.keys := by
  simp [State.enterBusOff]

@[simp] theorem State.mapBuffer_mode_keys (s : State) (k : Fin 8) (b : Nat) (f : CanBuffer → CanBuffer) :
    (s.mapBuffer k b f).mode = s.mode ∧ (s.mapBuffer k b f).keys = s.keys :=
  ⟨rfl, rfl⟩

@[simp] theorem State.canTake_mode_keys (s : State) (t : Nat) : (s.canTake t).mode = s.mode ∧ (s.canTake t).keys = s.keys := ⟨rfl, rfl⟩

@[simp] theorem State.canLoad_mode_keys (s : State) (k : Fin 8) (b : Nat) (f : CanFrame) :
    (s.canLoad k b f).mode = s.mode ∧ (s.canLoad k b f).keys = s.keys := by
  simp [State.canLoad]

@[simp] theorem State.canCommit_mode_keys (s : State) (t flags : Nat) (commits : Nat → Bool) (content : Nat → Nat → Bytes) :
    (s.canCommit t flags commits content).mode = s.mode ∧ (s.canCommit t flags commits content).keys = s.keys := by
  simp [State.canCommit]

@[simp] theorem State.txError_mode_keys (s : State) (k : Fin 8) : (s.txError k).mode = s.mode ∧ (s.txError k).keys = s.keys := by simp [State.txError]

@[simp] theorem State.txFailed_mode_keys (s : State) (k : Fin 8) (why : TxFailure) :
    (s.txFailed k why).mode = s.mode ∧ (s.txFailed k why).keys = s.keys := by
  simp [State.txFailed]

@[simp] theorem State.detectStart_mode_keys (s : State) (k : Fin 8) : (s.detectStart k).mode = s.mode ∧ (s.detectStart k).keys = s.keys := by
  simp [State.detectStart]

/-! #### Sources -/

@[simp] theorem State.assertAt_mode_keys (s : State) (src : ResetSource) (level : ResetLevel) :
    (s.assertAt src level).mode = s.mode ∧ (s.assertAt src level).keys = s.keys :=
  ⟨rfl, rfl⟩

@[simp] theorem State.assertSource_mode_keys (s : State) (src : ResetSource) (asked : ResetLevel) :
    (s.assertSource src asked).mode = s.mode ∧ (s.assertSource src asked).keys = s.keys := by
  unfold State.assertSource; split <;> simp

@[simp] theorem State.assertRequest_mode_keys (s : State) : s.assertRequest.mode = s.mode ∧ s.assertRequest.keys = s.keys := by
  unfold State.assertRequest; split <;> simp

@[simp] theorem State.dieFault_mode_keys (s : State) (check : TickCheck) (unit expected observed : Nat) :
    (s.dieFault check unit expected observed).mode = s.mode ∧ (s.dieFault check unit expected observed).keys = s.keys := by
  simp [State.dieFault]

/-! #### Frames -/

@[simp] theorem State.hear_mode_keys (s : State) (p : NetPort) : (s.hear p).mode = s.mode ∧ (s.hear p).keys = s.keys := ⟨rfl, rfl⟩

@[simp] theorem State.sendOn_mode_keys (s : State) (k : Nat) (kind : SentKind) (peer seq : Nat) (head : NetHead) (data : Bytes) :
    (s.sendOn k kind peer seq head data).mode = s.mode ∧ (s.sendOn k kind peer seq head data).keys = s.keys := by
  simp [State.sendOn]

@[simp] theorem State.takePrpSeq_mode_keys (s : State) (station : Bool) :
    (s.takePrpSeq station).2.mode = s.mode ∧ (s.takePrpSeq station).2.keys = s.keys := by
  unfold State.takePrpSeq; split <;> simp

/-! #### Trommel -/

@[simp] theorem State.groupCounts_mode_keys (s : State) (g : Nat) (old new : AlarmState) :
    (s.groupCounts g old new).mode = s.mode ∧ (s.groupCounts g old new).keys = s.keys := by
  simp [State.groupCounts]

@[simp] theorem State.screen_mode_keys (s : State) (p : PointDef) : (s.screen p).mode = s.mode ∧ (s.screen p).keys = s.keys := by simp [State.screen]

@[simp] theorem State.tagUnit_mode_keys (s : State) (lane tag good : Nat) (last : Bool) :
    (s.tagUnit lane tag good last).mode = s.mode ∧ (s.tagUnit lane tag good last).keys = s.keys :=
  ⟨rfl, rfl⟩

@[simp] theorem State.screenNext_mode_keys (s : State) : s.screenNext.mode = s.mode ∧ s.screenNext.keys = s.keys := by
  unfold State.screenNext; dsimp only; (repeat' split) <;> simp

/-! #### Dma -/

@[simp] theorem State.dmaWrite_mode_keys (s : State) (lane held : Bool) (a : Nat) (bs : Bytes) :
    (s.dmaWrite lane held a bs).mode = s.mode ∧ (s.dmaWrite lane held a bs).keys = s.keys := by
  simp [State.dmaWrite]

@[simp] theorem State.dmaErrorTally_mode_keys (s : State) (engine channel seq err fail : Nat) :
    (s.dmaErrorTally engine channel seq err fail).mode = s.mode ∧ (s.dmaErrorTally engine channel seq err fail).keys = s.keys :=
  ⟨rfl, rfl⟩

@[simp] theorem State.haltChannel_mode_keys (s : State) (engine channel : Nat) :
    (s.haltChannel engine channel).mode = s.mode ∧ (s.haltChannel engine channel).keys = s.keys := by
  simp [State.haltChannel]

@[simp] theorem State.appendRecord_mode_keys (s : State) (job : DmaJob) (r : DescResult) :
    (s.appendRecord job r).mode = s.mode ∧ (s.appendRecord job r).keys = s.keys := by
  simp [State.appendRecord]

@[simp] theorem State.mapTag_mode_keys (s : State) (lane tag : Nat) (f : LaneTag → LaneTag) :
    (s.mapTag lane tag f).mode = s.mode ∧ (s.mapTag lane tag f).keys = s.keys :=
  ⟨rfl, rfl⟩

@[simp] theorem State.mapJobTag_mode_keys (s : State) (j : DmaJob) (f : LaneTag → LaneTag) :
    (s.mapJobTag j f).mode = s.mode ∧ (s.mapJobTag j f).keys = s.keys := by
  unfold State.mapJobTag; split <;> simp

@[simp] theorem State.discardList_mode_keys (s : State) (job : DmaJob) : (s.discardList job).mode = s.mode ∧ (s.discardList job).keys = s.keys := by
  simp [State.discardList]

@[simp] theorem State.land_mode_keys (s : State) (due : Landing → Bool) : (s.land due).mode = s.mode ∧ (s.land due).keys = s.keys := by
  simp [State.land]

@[simp] theorem State.haltBehind_mode_keys (s : State) (engine channel : Nat) :
    (s.haltBehind engine channel).mode = s.mode ∧ (s.haltBehind engine channel).keys = s.keys := by
  simp [State.haltBehind]

@[simp] theorem State.runEngine_mode_keys (engine limit : Nat) (stop : State → Bool) (n : Nat) (s : State) :
    (State.runEngine engine limit stop n s).mode = s.mode ∧ (State.runEngine engine limit stop n s).keys = s.keys :=
  (runEngine_only engine limit stop n s).mode_keys

@[simp] theorem State.engineTo_mode_keys (s : State) (engine t : Nat) : (s.engineTo engine t).mode = s.mode ∧ (s.engineTo engine t).keys = s.keys :=
  (engineTo_only s engine t).mode_keys

/-! #### Lanes -/

@[simp] theorem State.compute_mode_keys (s : State) (l : Fin 4) (srcs : List (Fin 512)) (issue lat : Nat) (d : Fin 512) (f : Lane → Word64) :
    (s.compute l srcs issue lat d f).mode = s.mode ∧ (s.compute l srcs issue lat d f).keys = s.keys := by
  simp [State.compute]

@[simp] theorem State.laneLoad_mode_keys (s : State) (l : Fin 4) (d a : Fin 512) (imm : BitVec 38) (size : Nat) :
    (s.laneLoad l d a imm size).mode = s.mode ∧ (s.laneLoad l d a imm size).keys = s.keys := by
  simp [State.laneLoad]

@[simp] theorem State.laneStore_mode_keys (s : State) (l : Fin 4) (d a : Fin 512) (imm : BitVec 38) (size : Nat) :
    (s.laneStore l d a imm size).mode = s.mode ∧ (s.laneStore l d a imm size).keys = s.keys := by
  simp [State.laneStore]

/-! #### Shuttles -/

@[simp] theorem State.loadSlot_mode_keys (s : State) (j : Nat) : (s.loadSlot j).mode = s.mode ∧ (s.loadSlot j).keys = s.keys := ⟨rfl, rfl⟩

@[simp] theorem State.loadTables_mode_keys (s : State) : s.loadTables.mode = s.mode ∧ s.loadTables.keys = s.keys := by simp [State.loadTables]

@[simp] theorem State.repairTables_mode_keys (s : State) : s.repairTables.mode = s.mode ∧ s.repairTables.keys = s.keys := by simp [State.repairTables]

@[simp] theorem State.loopTally_mode_keys (s : State) (j cutoff : Nat) (r : LoopRec) (code : Nat) :
    (s.loopTally j cutoff r code).mode = s.mode ∧ (s.loopTally j cutoff r code).keys = s.keys :=
  ⟨rfl, rfl⟩

@[simp] theorem State.loopMiss_mode_keys (s : State) (j cutoff : Nat) (cfg : Bytes) (r : LoopRec) (cause : Nat) :
    (s.loopMiss j cutoff cfg r cause).mode = s.mode ∧ (s.loopMiss j cutoff cfg r cause).keys = s.keys := by
  unfold State.loopMiss; dsimp only; split <;> simp

@[simp] theorem State.loopTallies_mode_keys (s : State) (j cutoff : Nat) (x : LoopRun) :
    (s.loopTallies j cutoff x).mode = s.mode ∧ (s.loopTallies j cutoff x).keys = s.keys := by
  simp [State.loopTallies]

@[simp] theorem State.runLoop_mode_keys (s : State) (j cutoff : Nat) (cfg : Bytes) (r0 : LoopRec) (skipped : Bool) :
    (s.runLoop j cutoff cfg r0 skipped).mode = s.mode ∧ (s.runLoop j cutoff cfg r0 skipped).keys = s.keys := by
  unfold State.runLoop; dsimp only; (repeat' split) <;> simp

@[simp] theorem State.evalLoop_mode_keys (s : State) (j : Nat) (lost : Bool) :
    (s.evalLoop j lost).mode = s.mode ∧ (s.evalLoop j lost).keys = s.keys := by
  simp [State.evalLoop]

@[simp] theorem State.evalFromSlot_mode_keys (s : State) (j : Nat) (ram : TableRam) :
    (s.evalFromSlot j ram).mode = s.mode ∧ (s.evalFromSlot j ram).keys = s.keys := by
  unfold State.evalFromSlot; split <;> simp

@[simp] theorem State.testEnd_mode_keys (s : State) (j code cutoff : Nat) :
    (s.testEnd j code cutoff).mode = s.mode ∧ (s.testEnd j code cutoff).keys = s.keys := by
  simp [State.testEnd]

@[simp] theorem State.testStart_mode_keys (s : State) (t : LoopTest) (cutoff : Nat) :
    (s.testStart t cutoff).mode = s.mode ∧ (s.testStart t cutoff).keys = s.keys := by
  simp [State.testStart]

/-! #### Engines -/

@[simp] theorem State.startEngines_mode_keys (s : State) : s.startEngines.mode = s.mode ∧ s.startEngines.keys = s.keys := by simp [State.startEngines]

@[simp] theorem State.undoAll_mode_keys (s : State) : s.undoAll.mode = s.mode ∧ s.undoAll.keys = s.keys := by simp [State.undoAll]

@[simp] theorem State.stopWindow_mode_keys (s : State) : s.stopWindow.mode = s.mode ∧ s.stopWindow.keys = s.keys := ⟨rfl, rfl⟩

/-! #### Analog -/

@[simp] theorem State.applyAo_mode_keys (s : State) (command : Bool) (f : Fin 8 → Nat × Bool) :
    (s.applyAo command f).mode = s.mode ∧ (s.applyAo command f).keys = s.keys :=
  ⟨rfl, rfl⟩

@[simp] theorem State.aoTally_mode_keys (s : State) (code : Nat) (k : Fin 8) (current : Nat) :
    (s.aoTally code k current).mode = s.mode ∧ (s.aoTally code k current).keys = s.keys := by
  simp [State.aoTally]

@[simp] theorem State.aoPrepare_mode_keys (s : State) (y : FieldSide) : (s.aoPrepare y).mode = s.mode ∧ (s.aoPrepare y).keys = s.keys := by
  unfold State.aoPrepare; split <;> simp

@[simp] theorem State.aoNormal_mode_keys (s : State) (k : Fin 8) : (s.aoNormal k).mode = s.mode ∧ (s.aoNormal k).keys = s.keys := by
  simp [State.aoNormal]

@[simp] theorem State.hartEnable_mode_keys (s : State) (c : Fin 16) : (s.hartEnable c).mode = s.mode ∧ (s.hartEnable c).keys = s.keys := ⟨rfl, rfl⟩

@[simp] theorem State.hartSend_mode_keys (s : State) (c : Fin 16) (x : HartChannel) (command : Nat) (data : Bytes) (passing : optParam Bool false) :
    (s.hartSend c x command data passing).mode = s.mode ∧ (s.hartSend c x command data passing).keys = s.keys := by
  simp [State.hartSend]

@[simp] theorem State.hartUpdate_mode_keys (s : State) (c : Fin 16) (r : HartReply) :
    (s.hartUpdate c r).mode = s.mode ∧ (s.hartUpdate c r).keys = s.keys :=
  ⟨rfl, rfl⟩

@[simp] theorem State.hartLose_mode_keys (s : State) (c : Fin 16) (failures : Nat) :
    (s.hartLose c failures).mode = s.mode ∧ (s.hartLose c failures).keys = s.keys := by
  simp [State.hartLose]

@[simp] theorem State.dropPassThrough_mode_keys (s : State) : s.dropPassThrough.mode = s.mode ∧ s.dropPassThrough.keys = s.keys := by
  simp [State.dropPassThrough]

@[simp] theorem State.latchB_mode_keys (s : State) (m : FieldMeasure) : (s.latchB m).mode = s.mode ∧ (s.latchB m).keys = s.keys := ⟨rfl, rfl⟩

/-! #### Clocks -/

@[simp] theorem State.dropPll_mode_keys (s : State) (p : Pll) : (s.dropPll p).mode = s.mode ∧ (s.dropPll p).keys = s.keys := by simp [State.dropPll]

@[simp] theorem State.rootToIrc_mode_keys (s : State) : s.rootToIrc.mode = s.mode ∧ s.rootToIrc.keys = s.keys := ⟨rfl, rfl⟩

@[simp] theorem State.convLost_mode_keys (s : State) : s.convLost.mode = s.mode ∧ s.convLost.keys = s.keys := by simp [State.convLost]

@[simp] theorem State.failClock_mode_keys (s : State) (feedsDram : Bool) :
    (s.failClock feedsDram).mode = s.mode ∧ (s.failClock feedsDram).keys = s.keys := by
  simp [State.failClock]

@[simp] theorem State.switchTo_mode_keys (s : State) (p : Pll) (stopped : Bool) :
    (s.switchTo p stopped).mode = s.mode ∧ (s.switchTo p stopped).keys = s.keys := by
  simp [State.switchTo]

@[simp] theorem State.trimUsed_mode_keys (s : State) : s.trimUsed.mode = s.mode ∧ s.trimUsed.keys = s.keys := by unfold State.trimUsed; split <;> simp

@[simp] theorem State.trimLoad_mode_keys (s : State) : s.trimLoad.mode = s.mode ∧ s.trimLoad.keys = s.keys := by simp [State.trimLoad]

@[simp] theorem State.pllsStop_mode_keys (s : State) : s.pllsStop.mode = s.mode ∧ s.pllsStop.keys = s.keys := by simp [State.pllsStop]

@[simp] theorem State.clocksRestart_mode_keys (s : State) (clkFail : Bool) :
    (s.clocksRestart clkFail).mode = s.mode ∧ (s.clocksRestart clkFail).keys = s.keys := by
  unfold State.clocksRestart; dsimp only; (repeat' split) <;> simp

/-! #### Bank -/

@[simp] theorem State.configPut_mode_keys (s : State) (a : Nat) (v : Bytes) : (s.configPut a v).mode = s.mode ∧ (s.configPut a v).keys = s.keys := by
  unfold State.configPut; split <;> simp

@[simp] theorem State.putLoop_mode_keys (s : State) (j sub : Nat) (v : Bytes) :
    (s.putLoop j sub v).mode = s.mode ∧ (s.putLoop j sub v).keys = s.keys := by
  unfold State.putLoop; split <;> simp

@[simp] theorem State.putGain_mode_keys (s : State) (g sub : Nat) (v : Bytes) :
    (s.putGain g sub v).mode = s.mode ∧ (s.putGain g sub v).keys = s.keys := by
  unfold State.putGain; split <;> simp

@[simp] theorem State.applyStored1_mode_keys (s : State) (a : Nat) (v : Bytes) :
    (s.applyStored1 a v).mode = s.mode ∧ (s.applyStored1 a v).keys = s.keys := by
  unfold State.applyStored1; dsimp only; (repeat' split) <;> simp

@[simp] theorem State.applyStored_mode_keys (s : State) : s.applyStored.mode = s.mode ∧ s.applyStored.keys = s.keys := by simp [State.applyStored]

@[simp] theorem State.initialState_mode_keys (s : State) : s.initialState.mode = s.mode ∧ s.initialState.keys = s.keys := by simp [State.initialState]

@[simp] theorem State.bindStored_mode_keys (s : State) (digest : Bytes) :
    (s.bindStored digest).mode = s.mode ∧ (s.bindStored digest).keys = s.keys := by
  simp [State.bindStored]

@[simp] theorem State.reportLoaded_mode_keys (s : State) : s.reportLoaded.mode = s.mode ∧ s.reportLoaded.keys = s.keys := by
  unfold State.reportLoaded; split <;> simp

@[simp] theorem State.clearBank_mode_keys (s : State) (k state : Nat) :
    (s.clearBank k state).mode = s.mode ∧ (s.clearBank k state).keys = s.keys := by
  simp [State.clearBank]

@[simp] theorem State.reportValid_mode_keys (s : State) (k : Nat) (img : Bytes) :
    (s.reportValid k img).mode = s.mode ∧ (s.reportValid k img).keys = s.keys := by
  unfold State.reportValid; dsimp only; simp

@[simp] theorem State.verifyWritten_mode_keys (s : State) (k : Nat) : (s.verifyWritten k).mode = s.mode ∧ (s.verifyWritten k).keys = s.keys :=
  ⟨rfl, rfl⟩

@[simp] theorem State.dropWarpDict_mode_keys (s : State) : s.dropWarpDict.mode = s.mode ∧ s.dropWarpDict.keys = s.keys := ⟨rfl, rfl⟩

@[simp] theorem State.dropHeld_mode_keys (s : State) : s.dropHeld.mode = s.mode ∧ s.dropHeld.keys = s.keys := ⟨rfl, rfl⟩

@[simp] theorem State.releaseWarp_mode_keys (s : State) : s.releaseWarp.mode = s.mode ∧ s.releaseWarp.keys = s.keys := by simp [State.releaseWarp]

@[simp] theorem State.setLoaded_mode_keys (s : State) (l : Loaded) : (s.setLoaded l).mode = s.mode ∧ (s.setLoaded l).keys = s.keys := by
  simp [State.setLoaded]

/-! #### Island -/

@[simp] theorem State.setIsland_mode_keys (s : State) (x : Island) : (s.setIsland x).mode = s.mode ∧ (s.setIsland x).keys = s.keys := ⟨rfl, rfl⟩

@[simp] theorem State.showIsland_mode_keys (s : State) : s.showIsland.mode = s.mode ∧ s.showIsland.keys = s.keys := ⟨rfl, rfl⟩

@[simp] theorem State.confirmSet_mode_keys (s : State) : s.confirmSet.mode = s.mode ∧ s.confirmSet.keys = s.keys := by simp [State.confirmSet]

@[simp] theorem State.takeMirror_mode_keys (s : State) (m : Bytes) : (s.takeMirror m).mode = s.mode ∧ (s.takeMirror m).keys = s.keys := by
  unfold State.takeMirror; split <;> simp

/-! #### Time -/

@[simp] theorem State.setTimeState_mode_keys (s : State) (t : TimeState) : (s.setTimeState t).mode = s.mode ∧ (s.setTimeState t).keys = s.keys := by
  simp [State.setTimeState]

@[simp] theorem State.ppsJudge_mode_keys (s : State) : s.ppsJudge.mode = s.mode ∧ s.ppsJudge.keys = s.keys := by simp [State.ppsJudge]

@[simp] theorem State.enterHoldover_mode_keys (s : State) (t : TimeState) :
    (s.enterHoldover t).mode = s.mode ∧ (s.enterHoldover t).keys = s.keys := by
  simp [State.enterHoldover]

@[simp] theorem State.timeLock_mode_keys (s : State) (t : TimeState) : (s.timeLock t).mode = s.mode ∧ (s.timeLock t).keys = s.keys := by
  simp [State.timeLock]

@[simp] theorem State.setPortState_mode_keys (s : State) (p : NetPort) (st : Nat) :
    (s.setPortState p st).mode = s.mode ∧ (s.setPortState p st).keys = s.keys :=
  ⟨rfl, rfl⟩

@[simp] theorem State.setGrandmaster_mode_keys (s : State) (gm : Nat) :
    (s.setGrandmaster gm).mode = s.mode ∧ (s.setGrandmaster gm).keys = s.keys := by
  simp [State.setGrandmaster]

@[simp] theorem State.noSlave_mode_keys (s : State) : s.noSlave.mode = s.mode ∧ s.noSlave.keys = s.keys := by simp [State.noSlave]

@[simp] theorem State.selectMaster_mode_keys (s : State) : s.selectMaster.mode = s.mode ∧ s.selectMaster.keys = s.keys := by
  unfold State.selectMaster
  extract_lets ba bb best better own
  split
  · simp [own]
  · split
    · simp
    · extract_lets slave s1 parent s2 time s3
      simp [s3, s2, s1]

@[simp] theorem State.ptpDiscard_mode_keys (s : State) : s.ptpDiscard.mode = s.mode ∧ s.ptpDiscard.keys = s.keys := by simp [State.ptpDiscard]

@[simp] theorem State.ptpTake_mode_keys (s : State) (p : NetPort) (vlan : Option Nat) (udp : Bool) {act : State → State}
    (h : ∀ u, (act u).mode = u.mode ∧ (act u).keys = u.keys) :
    (s.ptpTake p vlan udp act).mode = s.mode ∧ (s.ptpTake p vlan udp act).keys = s.keys := by
  simp [State.ptpTake, h]

@[simp] theorem State.stepCondition_mode_keys (s : State) (k : StepKind) (off : Int) :
    (s.stepCondition k off).mode = s.mode ∧ (s.stepCondition k off).keys = s.keys := by
  simp [State.stepCondition]

@[simp] theorem State.refuseOffset_mode_keys (s : State) (off : Int) : (s.refuseOffset off).mode = s.mode ∧ (s.refuseOffset off).keys = s.keys := by
  simp [State.refuseOffset]

@[simp] theorem State.adjustRate_mode_keys (s : State) (off : Int) : (s.adjustRate off).mode = s.mode ∧ (s.adjustRate off).keys = s.keys := ⟨rfl, rfl⟩

@[simp] theorem State.judgeOffset_mode_keys (s : State) (off : Int) : (s.judgeOffset off).mode = s.mode ∧ (s.judgeOffset off).keys = s.keys := by
  simp [State.judgeOffset]

@[simp] theorem State.heldOffset_mode_keys (s : State) (off : Int) : (s.heldOffset off).mode = s.mode ∧ (s.heldOffset off).keys = s.keys := by
  unfold State.heldOffset; split <;> simp

@[simp] theorem State.measured_mode_keys (s : State) (p : NetPort) (off : Int) :
    (s.measured p off).mode = s.mode ∧ (s.measured p off).keys = s.keys := by
  simp [State.measured]

@[simp] theorem State.syncComplete_mode_keys (s : State) (p : NetPort) (rx origin : Nat) (corr : Int) :
    (s.syncComplete p rx origin corr).mode = s.mode ∧ (s.syncComplete p rx origin corr).keys = s.keys := by
  simp [State.syncComplete]

@[simp] theorem State.setPathDelay_mode_keys (s : State) (p : NetPort) (d : Int) :
    (s.setPathDelay p d).mode = s.mode ∧ (s.setPathDelay p d).keys = s.keys := by
  simp [State.setPathDelay]

@[simp] theorem State.sendPtp_mode_keys (s : State) (p : NetPort) (event : Bool) (b : Bytes) :
    (s.sendPtp p event b).mode = s.mode ∧ (s.sendPtp p event b).keys = s.keys := by
  simp [State.sendPtp]

@[simp] theorem State.applyStep_mode_keys (s : State) (k : StepKind) (d : Int) :
    (s.applyStep k d).mode = s.mode ∧ (s.applyStep k d).keys = s.keys := by
  simp [State.applyStep]

@[simp] theorem State.applyHeld_mode_keys (s : State) : s.applyHeld.mode = s.mode ∧ s.applyHeld.keys = s.keys := by
  unfold State.applyHeld; split <;> simp

@[simp] theorem State.timeFromSeam_mode_keys (s : State) (flags : Nat) :
    (s.timeFromSeam flags).mode = s.mode ∧ (s.timeFromSeam flags).keys = s.keys := by
  simp [State.timeFromSeam]

@[simp] theorem State.timeFollows_mode_keys (s : State) : s.timeFollows.mode = s.mode ∧ s.timeFollows.keys = s.keys := by simp [State.timeFollows]

@[simp] theorem State.seamRate_mode_keys (s : State) : s.seamRate.mode = s.mode ∧ s.seamRate.keys = s.keys := ⟨rfl, rfl⟩

@[simp] theorem State.mirrorFlags_mode_keys (s : State) (f : Nat) : (s.mirrorFlags f).mode = s.mode ∧ (s.mirrorFlags f).keys = s.keys := by
  simp [State.mirrorFlags]

@[simp] theorem State.idlePorts_mode_keys (s : State) : s.idlePorts.mode = s.mode ∧ s.idlePorts.keys = s.keys := ⟨rfl, rfl⟩

@[simp] theorem State.timeStart_mode_keys (s : State) (backupLost : Bool) :
    (s.timeStart backupLost).mode = s.mode ∧ (s.timeStart backupLost).keys = s.keys := by
  simp [State.timeStart]

@[simp] theorem State.ptpStart_mode_keys (s : State) : s.ptpStart.mode = s.mode ∧ s.ptpStart.keys = s.keys := by simp [State.ptpStart]

@[simp] theorem State.ppsEdge_mode_keys (s : State) (tick : Nat) : (s.ppsEdge tick).mode = s.mode ∧ (s.ppsEdge tick).keys = s.keys := by
  simp [State.ppsEdge]

/-! #### Field -/

@[simp] theorem State.noting_mode_keys (s : State) (ns : Nat) {f : State → State} (h : (f s).mode = s.mode ∧ (f s).keys = s.keys) :
    (s.noting ns f).mode = s.mode ∧ (s.noting ns f).keys = s.keys := by
  simp [State.noting, h]

@[simp] theorem State.diRelease_mode_keys (s : State) : s.diRelease.mode = s.mode ∧ s.diRelease.keys = s.keys := by simp [State.diRelease]

@[simp] theorem State.latchA_mode_keys (s : State) (m : FieldMeasure) : (s.latchA m).mode = s.mode ∧ (s.latchA m).keys = s.keys := ⟨rfl, rfl⟩

@[simp] theorem State.configWrite_mode_keys (s : State) (a : Nat) : (s.configWrite a).mode = s.mode ∧ (s.configWrite a).keys = s.keys := by
  simp [State.configWrite]

@[simp] theorem State.sendBarrier_mode_keys (s : State) (g : Group) (slot : Fin 4) :
    (s.sendBarrier g slot).mode = s.mode ∧ (s.sendBarrier g slot).keys = s.keys := by
  simp [State.sendBarrier]

@[simp] theorem State.sendIslandFrame_mode_keys (s : State) (slot : Fin 4) :
    (s.sendIslandFrame slot).mode = s.mode ∧ (s.sendIslandFrame slot).keys = s.keys := by
  simp [State.sendIslandFrame]

@[simp] theorem State.linkCount_mode_keys (s : State) (f : Nat → Nat) (g : Group) (n : Nat) :
    (s.linkCount f g n).mode = s.mode ∧ (s.linkCount f g n).keys = s.keys := by
  simp [State.linkCount]

@[simp] theorem State.fieldReceive_mode_keys (s : State) (g : Group) (b : Bytes) :
    (s.fieldReceive g b).mode = s.mode ∧ (s.fieldReceive g b).keys = s.keys := by
  cases g <;> simp [State.fieldReceive]

@[simp] theorem State.supplyTallies_mode_keys (s : State) (g : Group) (old new mv : Nat) :
    (s.supplyTallies g old new mv).mode = s.mode ∧ (s.supplyTallies g old new mv).keys = s.keys := by
  simp [State.supplyTallies]

@[simp] theorem State.deliver_mode_keys (s : State) (g : Group) (b : Bytes) : (s.deliver g b).mode = s.mode ∧ (s.deliver g b).keys = s.keys := by
  simp [State.deliver]

@[simp] theorem State.logicReceive_mode_keys (s : State) (g : Group) (slot : Fin 4) (b : Bytes) :
    (s.logicReceive g slot b).mode = s.mode ∧ (s.logicReceive g slot b).keys = s.keys := by
  simp [State.logicReceive]

@[simp] theorem State.islandReceive_mode_keys (s : State) (b : Bytes) : (s.islandReceive b).mode = s.mode ∧ (s.islandReceive b).keys = s.keys := by
  simp [State.islandReceive]

@[simp] theorem State.fromField_mode_keys (s : State) (g : Group) (slot : Fin 4) (b : Bytes) :
    (s.fromField g slot b).mode = s.mode ∧ (s.fromField g slot b).keys = s.keys := by
  simp [State.fromField]

@[simp] theorem State.applyMode_mode_keys (s : State) (g : Group) (mode : Nat) (silence : Bool) (image : Bytes) :
    (s.applyMode g mode silence image).mode = s.mode ∧ (s.applyMode g mode silence image).keys = s.keys := by
  unfold State.applyMode; split <;> simp

@[simp] theorem State.formSlot0_mode_keys (s : State) (g : Group) (c : Nat) : (s.formSlot0 g c).mode = s.mode ∧ (s.formSlot0 g c).keys = s.keys := by
  simp [State.formSlot0]

@[simp] theorem State.restoreOutputs_mode_keys (s : State) (g : Group) : (s.restoreOutputs g).mode = s.mode ∧ (s.restoreOutputs g).keys = s.keys := by
  simp [State.restoreOutputs]

@[simp] theorem State.islandTrip_mode_keys (s : State) : s.islandTrip.mode = s.mode ∧ s.islandTrip.keys = s.keys := by simp [State.islandTrip]

@[simp] theorem State.tripC_mode_keys (s : State) (on : Bool) : (s.tripC on).mode = s.mode ∧ (s.tripC on).keys = s.keys := by simp [State.tripC]

@[simp] theorem State.markTrip_mode_keys (s : State) (g : Group) : (s.markTrip g).mode = s.mode ∧ (s.markTrip g).keys = s.keys := by
  unfold State.markTrip; split <;> simp

@[simp] theorem State.blankGroup_mode_keys (s : State) (g : Group) : (s.blankGroup g).mode = s.mode ∧ (s.blankGroup g).keys = s.keys := by
  unfold State.blankGroup; split <;> simp

@[simp] theorem State.fieldStop_mode_keys (s : State) (g : Group) : (s.fieldStop g).mode = s.mode ∧ (s.fieldStop g).keys = s.keys := by
  simp [State.fieldStop]

@[simp] theorem State.midscaleTallies_mode_keys (s : State) : s.midscaleTallies.mode = s.mode ∧ s.midscaleTallies.keys = s.keys := by
  simp [State.midscaleTallies]

@[simp] theorem State.fieldStart_mode_keys (s : State) (g : Group) : (s.fieldStart g).mode = s.mode ∧ (s.fieldStart g).keys = s.keys := by
  simp [State.fieldStart]

@[simp] theorem State.islandStart_mode_keys (s : State) : s.islandStart.mode = s.mode ∧ s.islandStart.keys = s.keys := by simp [State.islandStart]

@[simp] theorem State.linksStart_mode_keys (s : State) : s.linksStart.mode = s.mode ∧ s.linksStart.keys = s.keys := ⟨rfl, rfl⟩

@[simp] theorem State.startImages_mode_keys (s : State) : s.startImages.mode = s.mode ∧ s.startImages.keys = s.keys := ⟨rfl, rfl⟩

/-! #### Weft -/

@[simp] theorem State.staleStep_mode_keys (s : State) (c k : Nat) (fresh : Bool) :
    (s.staleStep c k fresh).mode = s.mode ∧ (s.staleStep c k fresh).keys = s.keys := by
  simp [State.staleStep]

@[simp] theorem State.staleSteps_mode_keys (s : State) (c : Nat) (fresh : Nat → Bool) :
    (s.staleSteps c fresh).mode = s.mode ∧ (s.staleSteps c fresh).keys = s.keys := by
  simp [State.staleSteps]

@[simp] theorem State.placeWefts_mode_keys (s : State) (t : Nat) : (s.placeWefts t).mode = s.mode ∧ (s.placeWefts t).keys = s.keys := ⟨rfl, rfl⟩

@[simp] theorem State.applyPointWrite_mode_keys (s : State) (a : Nat) (v : Bytes) :
    (s.applyPointWrite a v).mode = s.mode ∧ (s.applyPointWrite a v).keys = s.keys := by
  unfold State.applyPointWrite; dsimp only; (repeat' split) <;> simp

@[simp] theorem State.applyLoopWrite_mode_keys (s : State) (c a : Nat) (v : Bytes) :
    (s.applyLoopWrite c a v).mode = s.mode ∧ (s.applyLoopWrite c a v).keys = s.keys := by
  unfold State.applyLoopWrite; dsimp only; (repeat' split) <;> simp

@[simp] theorem State.applyGroupWrite_mode_keys (s : State) (c a : Nat) (v : Bytes) :
    (s.applyGroupWrite c a v).mode = s.mode ∧ (s.applyGroupWrite c a v).keys = s.keys := by
  unfold State.applyGroupWrite; dsimp only; split <;> simp -implicitDefEqProofs

@[simp] theorem State.groupWriteTally_mode_keys (s : State) (c a : Nat) (v : Bytes) (was : Bool) :
    (s.groupWriteTally c a v was).mode = s.mode ∧ (s.groupWriteTally c a v was).keys = s.keys := by
  unfold State.groupWriteTally; split <;> simp

@[simp] theorem State.applyWrite_mode_keys (s : State) (c : Nat) (w : Nat × Bytes) :
    (s.applyWrite c w).mode = s.mode ∧ (s.applyWrite c w).keys = s.keys := by
  simp [State.applyWrite]

@[simp] theorem State.groupSnap_mode_keys (s : State) (c g : Nat) : (s.groupSnap c g).mode = s.mode ∧ (s.groupSnap c g).keys = s.keys := by
  simp [State.groupSnap]

@[simp] theorem State.groupSteps_mode_keys (s : State) (c : Nat) (ws : List (Nat × Bytes)) :
    (s.groupSteps c ws).mode = s.mode ∧ (s.groupSteps c ws).keys = s.keys := by
  simp [State.groupSteps]

@[simp] theorem State.shelveExpiry_mode_keys (s : State) (g : Nat) : (s.shelveExpiry g).mode = s.mode ∧ (s.shelveExpiry g).keys = s.keys := by
  unfold State.shelveExpiry; dsimp only; (repeat' split) <;> simp

@[simp] theorem State.soeTallies_mode_keys (s : State) (c : Nat) (es : List Bytes) :
    (s.soeTallies c es).mode = s.mode ∧ (s.soeTallies c es).keys = s.keys :=
  foldl_mode_keys (fun s e => by split <;> exact ⟨rfl, rfl⟩) es s

@[simp] theorem State.putHeaders_mode_keys (s : State) (c : Nat) (header : Bytes) (soe : List Bytes) :
    (s.putHeaders c header soe).mode = s.mode ∧ (s.putHeaders c header soe).keys = s.keys := by
  simp [State.putHeaders]

@[simp] theorem State.closeWefts_mode_keys (s : State) : s.closeWefts.mode = s.mode ∧ s.closeWefts.keys = s.keys := by simp [State.closeWefts]

@[simp] theorem State.pdTake_mode_keys (s : State) (fresh : List Nat) : (s.pdTake fresh).mode = s.mode ∧ (s.pdTake fresh).keys = s.keys :=
  foldl_mode_keys (fun s r => by split <;> [(dsimp only; split <;> exact ⟨rfl, rfl⟩); exact ⟨rfl, rfl⟩]) fresh s

@[simp] theorem State.groupWindows_mode_keys (s : State) (valid : Nat → Bool) :
    (s.groupWindows valid).mode = s.mode ∧ (s.groupWindows valid).keys = s.keys := by
  simp [State.groupWindows]

@[simp] theorem State.formWefts_mode_keys (s : State) (c : Nat) (valid : Nat → Bool) :
    (s.formWefts c valid).mode = s.mode ∧ (s.formWefts c valid).keys = s.keys := by
  simp [State.formWefts]

@[simp] theorem State.pdCommit_mode_keys (s : State) (t : Nat) : (s.pdCommit t).mode = s.mode ∧ (s.pdCommit t).keys = s.keys := by
  simp [State.pdCommit]

@[simp] theorem State.commitEdge_mode_keys (s : State) (t : Nat) : (s.commitEdge t).mode = s.mode ∧ (s.commitEdge t).keys = s.keys := by
  simp [State.commitEdge]

@[simp] theorem State.showEdge_mode_keys (s : State) (t : Nat) : (s.showEdge t).mode = s.mode ∧ (s.showEdge t).keys = s.keys := by
  simp [State.showEdge]

@[simp] theorem State.showInitial_mode_keys (s : State) : s.showInitial.mode = s.mode ∧ s.showInitial.keys = s.keys := by simp [State.showInitial]

@[simp] theorem State.showJoined_mode_keys (s : State) : s.showJoined.mode = s.mode ∧ s.showJoined.keys = s.keys := by simp [State.showJoined]

/-! #### Mirror -/

@[simp] theorem State.endTick_mode_keys (s : State) : s.endTick.mode = s.mode ∧ s.endTick.keys = s.keys := by simp [State.endTick]

@[simp] theorem State.carryItem_mode_keys (s : State) (i : Option WeftItem) : (s.carryItem i).mode = s.mode ∧ (s.carryItem i).keys = s.keys :=
  ⟨rfl, rfl⟩

@[simp] theorem State.pendActivation_mode_keys (s : State) (target tick : Nat) :
    (s.pendActivation target tick).mode = s.mode ∧ (s.pendActivation target tick).keys = s.keys :=
  ⟨rfl, rfl⟩

@[simp] theorem State.endActivation_mode_keys (s : State) (result detail : Nat) :
    (s.endActivation result detail).mode = s.mode ∧ (s.endActivation result detail).keys = s.keys :=
  ⟨rfl, rfl⟩

@[simp] theorem State.decideActivation_mode_keys (s : State) (proceeds : Bool) :
    (s.decideActivation proceeds).mode = s.mode ∧ (s.decideActivation proceeds).keys = s.keys := by
  unfold State.decideActivation; split <;> simp

@[simp] theorem State.takeTest_mode_keys (s : State) (x1 : WeftItem) : (s.takeTest x1).mode = s.mode ∧ (s.takeTest x1).keys = s.keys := by
  unfold State.takeTest; split <;> simp

@[simp] theorem State.applyItem_mode_keys (s : State) (x1 : WeftItem) : (s.applyItem x1).mode = s.mode ∧ (s.applyItem x1).keys = s.keys := by
  unfold State.applyItem; dsimp only; (repeat' split) <;> simp

@[simp] theorem State.storeMirrored_mode_keys (s : State) (w : Nat × Bytes) :
    (s.storeMirrored w).mode = s.mode ∧ (s.storeMirrored w).keys = s.keys := by
  simp [State.storeMirrored]

@[simp] theorem State.takeCarried_mode_keys (s : State) (t : Nat) : (s.takeCarried t).mode = s.mode ∧ (s.takeCarried t).keys = s.keys := by
  unfold State.takeCarried
  simp only [State.setPair_mode, State.setPair_keys]
  exact foldl_mode_keys (fun s e => by split <;> simp) _ s

@[simp] theorem State.expireShelves_mode_keys (s : State) : s.expireShelves.mode = s.mode ∧ s.expireShelves.keys = s.keys := by
  simp [State.expireShelves]

@[simp] theorem State.applyItems_mode_keys (s : State) (t : Nat) : (s.applyItems t).mode = s.mode ∧ (s.applyItems t).keys = s.keys := by
  simp [State.applyItems]

@[simp] theorem State.mirrorStale_mode_keys (s : State) (t : Nat) (table : Bytes) :
    (s.mirrorStale t table).mode = s.mode ∧ (s.mirrorStale t table).keys = s.keys := by
  simp [State.mirrorStale]

@[simp] theorem State.takeMirrorWeft_mode_keys (s : State) : s.takeMirrorWeft.mode = s.mode ∧ s.takeMirrorWeft.keys = s.keys := by
  unfold State.takeMirrorWeft
  extract_lets t s1 s2 w s3 n soe s4
  have h2 : s2.mode = s.mode ∧ s2.keys = s.keys := by
    have h : s2.mode = s1.mode ∧ s2.keys = s1.keys := foldl_mode_keys (fun s c => by split <;> simp) _ s1
    simpa [s1] using h
  clear_value s2
  simp [s4, s3, h2]

@[simp] theorem State.carryWeft_mode_keys (s : State) (t old new : Nat) :
    (s.carryWeft t old new).mode = s.mode ∧ (s.carryWeft t old new).keys = s.keys := by
  simp [State.carryWeft]

@[simp] theorem State.gapWeft_mode_keys (s : State) : s.gapWeft.mode = s.mode ∧ s.gapWeft.keys = s.keys := by
  unfold State.gapWeft; dsimp only; simp

/-! #### Records -/

@[simp] theorem State.recordCount_mode_keys (s : State) (v a : Nat) (put : TallyLog → TallyLog) :
    (s.recordCount v a put).mode = s.mode ∧ (s.recordCount v a put).keys = s.keys := by
  simp [State.recordCount]

@[simp] theorem State.fixHead_mode_keys (s : State) : s.fixHead.mode = s.mode ∧ s.fixHead.keys = s.keys := by simp [State.fixHead]

@[simp] theorem State.foundDamaged_mode_keys (s : State) (n : Nat) : (s.foundDamaged n).mode = s.mode ∧ (s.foundDamaged n).keys = s.keys := by
  simp [State.foundDamaged]

@[simp] theorem State.inspect_mode_keys (s : State) (n : Nat) : (s.inspect n).mode = s.mode ∧ (s.inspect n).keys = s.keys := by simp [State.inspect]

/-- The records of an export are looked at one after the other. -/
theorem exportTallies_inspects (s : State) : ∃ ns : List Nat, s.exportTallies.2 = ns.foldl State.inspect s :=
  ⟨(List.range _).map _, List.foldl_map.symm⟩

@[simp] theorem State.exportTallies_mode_keys (s : State) : s.exportTallies.2.mode = s.mode ∧ s.exportTallies.2.keys = s.keys := by
  obtain ⟨ns, h⟩ := exportTallies_inspects s
  rw [h]
  exact foldl_mode_keys State.inspect_mode_keys ns s

@[simp] theorem State.audit_mode_keys (s : State) (r : Req) (a type : Nat) (v : Bytes) :
    (s.audit r a type v).mode = s.mode ∧ (s.audit r a type v).keys = s.keys := by
  simp [State.audit]

@[simp] theorem State.redraw_mode_keys (s : State) (r : FaceRequest) : (s.redraw r).mode = s.mode ∧ (s.redraw r).keys = s.keys := by
  simp [State.redraw]

@[simp] theorem State.pageBegin_mode_keys (s : State) : s.pageBegin.mode = s.mode ∧ s.pageBegin.keys = s.keys := by simp [State.pageBegin]

@[simp] theorem State.pageEnd_mode_keys (s : State) : s.pageEnd.mode = s.mode ∧ s.pageEnd.keys = s.keys := by simp [State.pageEnd]

@[simp] theorem State.updateEnd_mode_keys (s : State) (r : FaceRequest) : (s.updateEnd r).mode = s.mode ∧ (s.updateEnd r).keys = s.keys := by
  simp [State.updateEnd]

@[simp] theorem State.runPhase_mode_keys (s : State) : s.runPhase.mode = s.mode ∧ s.runPhase.keys = s.keys := by simp [State.runPhase]

@[simp] theorem State.runPhases_mode_keys (s : State) (n : Nat) : (s.runPhases n).mode = s.mode ∧ (s.runPhases n).keys = s.keys := by
  induction n generalizing s with
  | zero => exact ⟨rfl, rfl⟩
  | succ n ih => simp [State.runPhases, ih]

@[simp] theorem State.finishJournal_mode_keys (s : State) : s.finishJournal.mode = s.mode ∧ s.finishJournal.keys = s.keys := by
  simp [State.finishJournal]

@[simp] theorem State.reportJournal_mode_keys (s : State) : s.reportJournal.mode = s.mode ∧ s.reportJournal.keys = s.keys := by
  unfold State.reportJournal; dsimp only; (repeat' split) <;> simp

/-! #### Security -/

@[simp] theorem State.fuseKey_mode (s : State) (cls : Nat) (slot : Fin 8) (v : Bytes) (cutOff : Bool) :
    (s.fuseKey cls slot v cutOff).mode = s.mode := by
  simp [State.fuseKey]

@[simp] theorem State.finishBurn_mode (s : State) : s.finishBurn.mode = s.mode := by unfold State.finishBurn; split <;> simp

@[simp] theorem State.startKeys_mode (s : State) : s.startKeys.mode = s.mode := by simp [State.startKeys]

@[simp] theorem State.revoke_mode (s : State) (v : Nat) : (s.revoke v).mode = s.mode := by simp [State.revoke]

@[simp] theorem State.putConduit_mode (s : State) (slot : Fin 16) (v : Bytes) : (s.putConduit slot v).mode = s.mode := rfl

@[simp] theorem State.putSeamKey_mode (s : State) (slot : Fin 2) (v : Bytes) : (s.putSeamKey slot v).mode = s.mode := rfl

@[simp] theorem State.takeSeamKey_mode (s : State) : s.takeSeamKey.mode = s.mode := rfl

@[simp] theorem State.burnLock_mode (s : State) : s.burnLock.mode = s.mode := by simp [State.burnLock]

@[simp] theorem State.clearFirmware_mode_keys (s : State) (k : Nat) : (s.clearFirmware k).mode = s.mode ∧ (s.clearFirmware k).keys = s.keys :=
  ⟨rfl, rfl⟩

@[simp] theorem State.verifyFirmware_mode_keys (s : State) (k : Fin 2) : (s.verifyFirmware k).mode = s.mode ∧ (s.verifyFirmware k).keys = s.keys := by
  simp [State.verifyFirmware]

@[simp] theorem State.secureBoot_mode_keys (s : State) (selects : Bool) :
    (s.secureBoot selects).mode = s.mode ∧ (s.secureBoot selects).keys = s.keys := by
  unfold State.secureBoot; dsimp only; split <;> simp

@[simp] theorem State.firmwareStarted_mode_keys (s : State) : s.firmwareStarted.mode = s.mode ∧ s.firmwareStarted.keys = s.keys := by
  unfold State.firmwareStarted; split <;> simp

@[simp] theorem State.commitVersion_mode (s : State) (v : Nat) : (s.commitVersion v).mode = s.mode := by unfold State.commitVersion; split <;> simp

/-! #### Seam -/

@[simp] theorem State.sendSeam_mode_keys (s : State) (type : Nat) (payload : Bytes) :
    (s.sendSeam type payload).mode = s.mode ∧ (s.sendSeam type payload).keys = s.keys := by
  unfold State.sendSeam; split <;> simp

@[simp] theorem State.resend_mode_keys (s : State) (e : SeamSent) : (s.resend e).mode = s.mode ∧ (s.resend e).keys = s.keys := by
  unfold State.resend; dsimp only; split <;> simp

@[simp] theorem State.sendAck_mode_keys (s : State) (named : List Nat) : (s.sendAck named).mode = s.mode ∧ (s.sendAck named).keys = s.keys := by
  simp [State.sendAck]

theorem State.releaseWaiting_mode_keys {apply : Nat → State → Bytes → Bytes → State}
    (h : ∀ n s b c, (apply n s b c).mode = s.mode ∧ (apply n s b c).keys = s.keys) (fuel : Nat) (s : State) :
    (State.releaseWaiting apply fuel s).mode = s.mode ∧ (State.releaseWaiting apply fuel s).keys = s.keys := by
  induction fuel generalizing s with
  | zero => exact ⟨rfl, rfl⟩
  | succ n ih => unfold State.releaseWaiting; split <;> [exact ⟨rfl, rfl⟩; simp [ih, h]]

theorem State.placeFrame_mode_keys {apply : Nat → State → Bytes → Bytes → State}
    (h : ∀ n s b c, (apply n s b c).mode = s.mode ∧ (apply n s b c).keys = s.keys) (s : State) (f : SeamHeld) :
    (s.placeFrame apply f).mode = s.mode ∧ (s.placeFrame apply f).keys = s.keys := by
  simp [State.placeFrame, State.releaseWaiting_mode_keys h, h]

theorem State.seamReceive_mode_keys {apply : Nat → State → Bytes → Bytes → State}
    (h : ∀ n s b c, (apply n s b c).mode = s.mode ∧ (apply n s b c).keys = s.keys) (s : State) (type : Nat) (wire : Bytes) :
    (s.seamReceive type wire apply).mode = s.mode ∧ (s.seamReceive type wire apply).keys = s.keys := by
  unfold State.seamReceive
  split
  · exact ⟨rfl, rfl⟩
  · split <;> simp [State.placeFrame_mode_keys h]

@[simp] theorem State.takeAck_mode_keys (s : State) (payload : Bytes) : (s.takeAck payload).mode = s.mode ∧ (s.takeAck payload).keys = s.keys := by
  simp [State.takeAck]

@[simp] theorem State.sidebandsNow_mode_keys (s : State) : s.sidebandsNow.mode = s.mode ∧ s.sidebandsNow.keys = s.keys := ⟨rfl, rfl⟩

@[simp] theorem State.fenceActs_mode_keys (s : State) : s.fenceActs.mode = s.mode ∧ s.fenceActs.keys = s.keys := by simp [State.fenceActs]

@[simp] theorem State.setFence_mode_keys (s : State) (on : Bool) : (s.setFence on).mode = s.mode ∧ (s.setFence on).keys = s.keys := by
  simp [State.setFence]

@[simp] theorem State.refreshHello_mode_keys (s : State) : s.refreshHello.mode = s.mode ∧ s.refreshHello.keys = s.keys := by simp [State.refreshHello]

/-! #### Verify -/

@[simp] theorem State.verifyBank_mode_keys (s : State) (k : Nat) : (s.verifyBank k).mode = s.mode ∧ (s.verifyBank k).keys = s.keys := by
  unfold State.verifyBank; dsimp only; (repeat' split) <;> simp

@[simp] theorem State.refuseAbsent_mode_keys (s : State) (k : Nat) : (s.refuseAbsent k).mode = s.mode ∧ (s.refuseAbsent k).keys = s.keys := by
  simp [State.refuseAbsent]

/-! #### Tick -/

@[simp] theorem State.edgeObjects_mode_keys (s : State) : s.edgeObjects.mode = s.mode ∧ s.edgeObjects.keys = s.keys := ⟨rfl, rfl⟩

@[simp] theorem State.openEdge_mode_keys (s : State) (t : Nat) : (s.openEdge t).mode = s.mode ∧ (s.openEdge t).keys = s.keys := by
  unfold State.openEdge
  extract_lets s1 s2 time unit s3
  have h : s3.mode = s.mode ∧ s3.keys = s.keys := by simp [s3, s2, s1]
  clear_value s3
  simp [h]

@[simp] theorem State.edgeRequest_mode_keys (s : State) : s.edgeRequest.mode = s.mode ∧ s.edgeRequest.keys = s.keys := by simp [State.edgeRequest]

@[simp] theorem State.edgeLinks_mode_keys (s : State) : s.edgeLinks.mode = s.mode ∧ s.edgeLinks.keys = s.keys := by simp [State.edgeLinks]

@[simp] theorem State.linksTaken_mode_keys (s : State) : s.linksTaken.mode = s.mode ∧ s.linksTaken.keys = s.keys := ⟨rfl, rfl⟩

@[simp] theorem State.undoStaging_mode_keys (s : State) : s.undoStaging.mode = s.mode ∧ s.undoStaging.keys = s.keys := by simp [State.undoStaging]

@[simp] theorem State.edgeEngines_mode_keys (s : State) : s.edgeEngines.mode = s.mode ∧ s.edgeEngines.keys = s.keys := by simp [State.edgeEngines]

@[simp] theorem State.dropReceptions_mode_keys (s : State) (t : Nat) : (s.dropReceptions t).mode = s.mode ∧ (s.dropReceptions t).keys = s.keys :=
  ⟨rfl, rfl⟩

@[simp] theorem State.carriedEdge_mode_keys (s : State) (t : Nat) : (s.carriedEdge t).mode = s.mode ∧ (s.carriedEdge t).keys = s.keys := by
  simp [State.carriedEdge]

@[simp] theorem State.sendParting_mode_keys (s : State) : s.sendParting.mode = s.mode ∧ s.sendParting.keys = s.keys := by simp [State.sendParting]

@[simp] theorem State.edgeWork_mode_keys (s : State) (t : Nat) : (s.edgeWork t).mode = s.mode ∧ (s.edgeWork t).keys = s.keys := by
  simp [State.edgeWork]

@[simp] theorem State.dropUnmapped_mode_keys (s : State) : s.dropUnmapped.mode = s.mode ∧ s.dropUnmapped.keys = s.keys := by simp [State.dropUnmapped]

@[simp] theorem State.fillTransmit_mode_keys (s : State) : s.fillTransmit.mode = s.mode ∧ s.fillTransmit.keys = s.keys := by simp [State.fillTransmit]

@[simp] theorem State.sendWefts_mode_keys (s : State) : s.sendWefts.mode = s.mode ∧ s.sendWefts.keys = s.keys := by simp [State.sendWefts]

@[simp] theorem State.queueTallies_mode_keys (s : State) : s.queueTallies.mode = s.mode ∧ s.queueTallies.keys = s.keys := by simp [State.queueTallies]

@[simp] theorem State.drainTallies_mode_keys (s : State) : s.drainTallies.mode = s.mode ∧ s.drainTallies.keys = s.keys := by simp [State.drainTallies]

@[simp] theorem State.stageCaptures_mode_keys (s : State) : s.stageCaptures.mode = s.mode ∧ s.stageCaptures.keys = s.keys := ⟨rfl, rfl⟩

@[simp] theorem State.dropStaging_mode_keys (s : State) : s.dropStaging.mode = s.mode ∧ s.dropStaging.keys = s.keys := ⟨rfl, rfl⟩

@[simp] theorem State.sendEntries_mode_keys (s : State) (n : Nat) : (s.sendEntries n).mode = s.mode ∧ (s.sendEntries n).keys = s.keys := by
  simp [State.sendEntries]

@[simp] theorem State.sendPass_mode_keys (s : State) (n : Nat) : (s.sendPass n).mode = s.mode ∧ (s.sendPass n).keys = s.keys := by
  unfold State.sendPass; split <;> simp

@[simp] theorem State.sendImage_mode_keys (s : State) (n : Nat) : (s.sendImage n).mode = s.mode ∧ (s.sendImage n).keys = s.keys := by
  unfold State.sendImage; split <;> simp

@[simp] theorem State.seamCopy_mode_keys (s : State) (room : Nat) : (s.seamCopy room).mode = s.mode ∧ (s.seamCopy room).keys = s.keys := by
  unfold State.seamCopy; dsimp only; split <;> simp

@[simp] theorem State.sendClose_mode_keys (s : State) : s.sendClose.mode = s.mode ∧ s.sendClose.keys = s.keys := by simp [State.sendClose]

@[simp] theorem State.applyGates_mode_keys (s : State) (t : Nat) : (s.applyGates t).mode = s.mode ∧ (s.applyGates t).keys = s.keys := by
  simp [State.applyGates]

@[simp] theorem State.changePoint_mode_keys (s : State) (mhz mv : Nat) :
    (s.changePoint mhz mv).mode = s.mode ∧ (s.changePoint mhz mv).keys = s.keys := by
  simp [State.changePoint]

@[simp] theorem State.applySetting_mode_keys (s : State) (t : Nat) : (s.applySetting t).mode = s.mode ∧ (s.applySetting t).keys = s.keys := by
  simp [State.applySetting]

@[simp] theorem State.checked_mode_keys (s : State) (check : TickCheck) (bad : Option (Nat × Nat × Nat)) :
    (s.checked check bad).mode = s.mode ∧ (s.checked check bad).keys = s.keys := by
  unfold State.checked; split <;> simp

@[simp] theorem State.checkWork_mode_keys (s : State) (m : CanaryMeasure) : (s.checkWork m).mode = s.mode ∧ (s.checkWork m).keys = s.keys := by
  simp [State.checkWork]

/-! #### Net -/

@[simp] theorem State.prpSend_mode_keys (s : State) (kind : SentKind) (peer : Nat) (station : Bool) (head : NetHead) (data : Bytes) :
    (s.prpSend kind peer station head data).mode = s.mode ∧ (s.prpSend kind peer station head data).keys = s.keys := by
  simp [State.prpSend]

@[simp] theorem State.udpSend_mode_keys (s : State) (kind : SentKind) (ip sport dport : Nat) (station : Bool) (data : Bytes) :
    (s.udpSend kind ip sport dport station data).mode = s.mode ∧ (s.udpSend kind ip sport dport station data).keys = s.keys := by
  simp [State.udpSend]

@[simp] theorem State.prpForget_mode_keys (s : State) : s.prpForget.mode = s.mode ∧ s.prpForget.keys = s.keys := by simp [State.prpForget]

@[simp] theorem State.prpHear_mode_keys (s : State) (rx : NetRx) : (s.prpHear rx).mode = s.mode ∧ (s.prpHear rx).keys = s.keys := by
  simp [State.prpHear]

@[simp] theorem State.prpTake_mode_keys (s : State) (rx : NetRx) : (s.prpTake rx).1.mode = s.mode ∧ (s.prpTake rx).1.keys = s.keys := by
  unfold State.prpTake; dsimp only; (repeat' split) <;> simp

@[simp] theorem State.takeSupervision_mode_keys (s : State) (rx : NetRx) :
    (s.takeSupervision rx).mode = s.mode ∧ (s.takeSupervision rx).keys = s.keys := by
  simp [State.takeSupervision]

@[simp] theorem State.setPathLost_mode_keys (s : State) (p : NetPort) (b : Bool) :
    (s.setPathLost p b).mode = s.mode ∧ (s.setPathLost p b).keys = s.keys :=
  ⟨rfl, rfl⟩

@[simp] theorem State.losePath_mode_keys (s : State) (p : NetPort) (cause : Nat) :
    (s.losePath p cause).mode = s.mode ∧ (s.losePath p cause).keys = s.keys := by
  simp [State.losePath]

@[simp] theorem State.announceIp_mode_keys (s : State) (station : Bool) :
    (s.announceIp station).mode = s.mode ∧ (s.announceIp station).keys = s.keys := by
  simp [State.announceIp]

@[simp] theorem State.reportGroups_mode_keys (s : State) : s.reportGroups.mode = s.mode ∧ s.reportGroups.keys = s.keys := by simp [State.reportGroups]

@[simp] theorem State.announceAll_mode_keys (s : State) : s.announceAll.mode = s.mode ∧ s.announceAll.keys = s.keys := by simp [State.announceAll]

@[simp] theorem State.usbSend_mode_keys (s : State) (kind : SentKind) (peer dst etherType : Nat) (ip : Option (Nat × Nat)) (data : Bytes) :
    (s.usbSend kind peer dst etherType ip data).mode = s.mode ∧ (s.usbSend kind peer dst etherType ip data).keys = s.keys :=
  ⟨rfl, rfl⟩

@[simp] theorem State.usbArp_mode_keys (s : State) (mac ns senderIp targetIp : Nat) :
    (s.usbArp mac ns senderIp targetIp).mode = s.mode ∧ (s.usbArp mac ns senderIp targetIp).keys = s.keys := by
  simp [State.usbArp]

@[simp] theorem State.netArp_mode_keys (s : State) (rx : NetRx) (senderIp targetIp : Nat) :
    (s.netArp rx senderIp targetIp).mode = s.mode ∧ (s.netArp rx senderIp targetIp).keys = s.keys := by
  simp [State.netArp]

@[simp] theorem State.usbEcho_mode_keys (s : State) (mac ns srcIp dstIp : Nat) (data : Bytes) :
    (s.usbEcho mac ns srcIp dstIp data).mode = s.mode ∧ (s.usbEcho mac ns srcIp dstIp data).keys = s.keys := by
  simp [State.usbEcho]

@[simp] theorem State.netEcho_mode_keys (s : State) (rx : NetRx) (srcIp dstIp : Nat) (data : Bytes) :
    (s.netEcho rx srcIp dstIp data).mode = s.mode ∧ (s.netEcho rx srcIp dstIp data).keys = s.keys := by
  simp [State.netEcho]

/-! #### Pair -/

@[simp] theorem State.beginPass_mode_keys (s : State) : s.beginPass.mode = s.mode ∧ s.beginPass.keys = s.keys := ⟨rfl, rfl⟩

@[simp] theorem State.selectBank_mode_keys (s : State) (k : Nat) : (s.selectBank k).mode = s.mode ∧ (s.selectBank k).keys = s.keys := ⟨rfl, rfl⟩

@[simp] theorem State.commandDone_mode_keys (s : State) (ok : Bool) : (s.commandDone ok).mode = s.mode ∧ (s.commandDone ok).keys = s.keys := by
  simp [State.commandDone]

@[simp] theorem State.refusePair_mode_keys (s : State) (code node : Nat) :
    (s.refusePair code node).mode = s.mode ∧ (s.refusePair code node).keys = s.keys := by
  simp [State.refusePair]

@[simp] theorem State.dropBankCopy_mode_keys (s : State) : s.dropBankCopy.mode = s.mode ∧ s.dropBankCopy.keys = s.keys := by
  unfold State.dropBankCopy; dsimp only; (repeat' split) <;> simp

@[simp] theorem State.seamLost_mode_keys (s : State) (state : Nat) : (s.seamLost state).mode = s.mode ∧ (s.seamLost state).keys = s.keys := by
  simp [State.seamLost]

@[simp] theorem State.takeWeftPiece_mode_keys (s : State) (cls : CClass) (payload : Bytes) :
    (s.takeWeftPiece cls payload).mode = s.mode ∧ (s.takeWeftPiece cls payload).keys = s.keys := by
  simp [State.takeWeftPiece]

@[simp] theorem State.joinWord_mode_keys (s : State) (u line w : Nat) (v : Bytes) :
    (s.joinWord u line w v).mode = s.mode ∧ (s.joinWord u line w v).keys = s.keys := by
  simp [State.joinWord]

@[simp] theorem State.takeState_mode_keys (s : State) (h payload : Bytes) :
    (s.takeState h payload).mode = s.mode ∧ (s.takeState h payload).keys = s.keys := by
  simp [State.takeState]

@[simp] theorem State.takeLine_mode_keys (s : State) (b : Bytes) : (s.takeLine b).mode = s.mode ∧ (s.takeLine b).keys = s.keys := by
  simp [State.takeLine]

@[simp] theorem State.takeLines_mode_keys (s : State) (payload : Bytes) :
    (s.takeLines payload).mode = s.mode ∧ (s.takeLines payload).keys = s.keys := by
  simp [State.takeLines]

@[simp] theorem State.plainConfig_mode_keys (s : State) : s.plainConfig.mode = s.mode ∧ s.plainConfig.keys = s.keys := by
  unfold State.plainConfig; split <;> simp

@[simp] theorem State.takeStored_mode_keys (s : State) (payload : Bytes) :
    (s.takeStored payload).mode = s.mode ∧ (s.takeStored payload).keys = s.keys := by
  simp [State.takeStored]

@[simp] theorem State.sendStored_mode_keys (s : State) : s.sendStored.mode = s.mode ∧ s.sendStored.keys = s.keys := by simp [State.sendStored]

@[simp] theorem State.takeBank_mode_keys (s : State) (off : Nat) (content : Bytes) :
    (s.takeBank off content).mode = s.mode ∧ (s.takeBank off content).keys = s.keys := by
  unfold State.takeBank; split <;> simp

@[simp] theorem State.serveJoiner_mode_keys (s : State) (was : Option SeamClose) (c : SeamClose) :
    (s.serveJoiner was c).mode = s.mode ∧ (s.serveJoiner was c).keys = s.keys := by
  simp [State.serveJoiner]

@[simp] theorem State.takeClose_mode_keys (s : State) (c : SeamClose) : (s.takeClose c).mode = s.mode ∧ (s.takeClose c).keys = s.keys := by
  simp [State.takeClose]

@[simp] theorem State.seamFaultTally_mode_keys (s : State) (compared : Nat) (line : Option Nat) (role : Nat) :
    (s.seamFaultTally compared line role).mode = s.mode ∧ (s.seamFaultTally compared line role).keys = s.keys := by
  simp [State.seamFaultTally]

@[simp] theorem State.matched_mode_keys (s : State) (t : Nat) : (s.matched t).mode = s.mode ∧ (s.matched t).keys = s.keys := by
  unfold State.matched; dsimp only; split <;> simp

@[simp] theorem State.missHeartbeat_mode_keys (s : State) : s.missHeartbeat.mode = s.mode ∧ s.missHeartbeat.keys = s.keys := by
  unfold State.missHeartbeat; dsimp only; simp

@[simp] theorem State.seamLostTally_mode_keys (s : State) (visible : Bool) :
    (s.seamLostTally visible).mode = s.mode ∧ (s.seamLostTally visible).keys = s.keys := by
  simp [State.seamLostTally]

@[simp] theorem State.decideTakeover_mode_keys (s : State) : s.decideTakeover.mode = s.mode ∧ s.decideTakeover.keys = s.keys := by
  simp [State.decideTakeover]

@[simp] theorem State.degrade_mode_keys (s : State) : s.degrade.mode = s.mode ∧ s.degrade.keys = s.keys := by simp [State.degrade]

/-! #### Resets -/

@[simp] theorem State.dropContent_mode_keys (s : State) (a : Nat) : (s.dropContent a).mode = s.mode ∧ (s.dropContent a).keys = s.keys := by
  simp [State.dropContent]

@[simp] theorem State.dropTransfer_mode_keys (s : State) (t : Transfer) : (s.dropTransfer t).mode = s.mode ∧ (s.dropTransfer t).keys = s.keys := by
  simp [State.dropTransfer]

@[simp] theorem State.clpRestart_mode_keys (s : State) : s.clpRestart.mode = s.mode ∧ s.clpRestart.keys = s.keys := by simp [State.clpRestart]

@[simp] theorem State.blocksReset_mode_keys (s : State) : s.blocksReset.mode = s.mode ∧ s.blocksReset.keys = s.keys := by simp [State.blocksReset]

@[simp] theorem State.reachC_mode_keys (s : State) : s.reachC.mode = s.mode ∧ s.reachC.keys = s.keys := by simp [State.reachC]

@[simp] theorem State.reachS_mode (s : State) : s.reachS.mode = s.mode := by unfold State.reachS; dsimp only; split <;> simp

@[simp] theorem State.countEpisode_mode_keys (s : State) : s.countEpisode.mode = s.mode ∧ s.countEpisode.keys = s.keys := by simp [State.countEpisode]

@[simp] theorem State.openEpisode_mode_keys (s : State) (level : ResetLevel) :
    (s.openEpisode level).mode = s.mode ∧ (s.openEpisode level).keys = s.keys := by
  simp [State.openEpisode]

@[simp] theorem State.stopBetween_mode_keys (s : State) (x1 : TwoPulses) : (s.stopBetween x1).mode = s.mode ∧ (s.stopBetween x1).keys = s.keys := by
  unfold State.stopBetween; split <;> simp

@[simp] theorem State.backupLost_mode_keys (s : State) : s.backupLost.mode = s.mode ∧ s.backupLost.keys = s.keys := ⟨rfl, rfl⟩

@[simp] theorem State.readBackup_mode_keys (s : State) (bad : List (BitVec 8 × Byte)) :
    (s.readBackup bad).mode = s.mode ∧ (s.readBackup bad).keys = s.keys := by
  simp [State.readBackup]

@[simp] theorem State.checkBackup_mode_keys (s : State) (level : ResetLevel) (f : ExitFacts) :
    (s.checkBackup level f).mode = s.mode ∧ (s.checkBackup level f).keys = s.keys := by
  simp [State.checkBackup]

@[simp] theorem State.loadFuses_mode_keys (s : State) (f : ExitFacts) : (s.loadFuses f).mode = s.mode ∧ (s.loadFuses f).keys = s.keys := by
  simp [State.loadFuses]

@[simp] theorem State.exitSequence_mode_keys (s : State) (e : Episode) (level : ResetLevel) (clkFail : Bool) (f : ExitFacts) :
    (s.exitSequence e level clkFail f).mode = s.mode ∧ (s.exitSequence e level clkFail f).keys = s.keys := by
  simp [State.exitSequence]

@[simp] theorem State.loadStored_mode_keys (s : State) (damaged : List Nat) :
    (s.loadStored damaged).mode = s.mode ∧ (s.loadStored damaged).keys = s.keys := by
  simp [State.loadStored]

@[simp] theorem State.repairOptions_mode_keys (s : State) : s.repairOptions.mode = s.mode ∧ s.repairOptions.keys = s.keys := by
  unfold State.repairOptions; dsimp only; split <;> simp

@[simp] theorem State.reportEpisodes_mode_keys (s : State) : s.reportEpisodes.mode = s.mode ∧ s.reportEpisodes.keys = s.keys := by
  simp [State.reportEpisodes]

@[simp] theorem State.startIdentity_mode_keys (s : State) (addr : Nat) (roleHigh : Bool) :
    (s.startIdentity addr roleHigh).mode = s.mode ∧ (s.startIdentity addr roleHigh).keys = s.keys := by
  simp [State.startIdentity]

@[simp] theorem State.clpStart_mode_keys (s : State) : s.clpStart.mode = s.mode ∧ s.clpStart.keys = s.keys := ⟨rfl, rfl⟩

@[simp] theorem State.seamStart_mode (s : State) : s.seamStart.mode = s.mode := by simp [State.seamStart]

@[simp] theorem State.startServices_mode (s : State) (f : BootFacts) : (s.startServices f).mode = s.mode := by
  unfold State.startServices; dsimp only; split <;> simp

@[simp] theorem State.verifyLater_mode_keys (s : State) (k : Nat) : (s.verifyLater k).mode = s.mode ∧ (s.verifyLater k).keys = s.keys := by
  simp [State.verifyLater]

/-! #### Station -/

@[simp] theorem State.noAuto_mode_keys (s : State) : s.noAuto.mode = s.mode ∧ s.noAuto.keys = s.keys := ⟨rfl, rfl⟩

@[simp] theorem State.stopTests_mode_keys (s : State) : s.stopTests.mode = s.mode ∧ s.stopTests.keys = s.keys := by simp [State.stopTests]

@[simp] theorem State.activated_mode_keys (s : State) (a : PendingActivation) (old new : Bytes) (result : Nat) :
    (s.activated a old new result).mode = s.mode ∧ (s.activated a old new result).keys = s.keys := by
  simp [State.activated]

@[simp] theorem State.swapImage_mode_keys (s : State) (a : PendingActivation) (new : Loaded) (old : Bytes) :
    (s.swapImage a new old).mode = s.mode ∧ (s.swapImage a new old).keys = s.keys := by
  simp [State.swapImage]

/-! #### Clp -/

@[simp] theorem State.sendTo_mode_keys (s : State) (r : Req) (b : Bytes) : (s.sendTo r b).mode = s.mode ∧ (s.sendTo r b).keys = s.keys := by
  simp [State.sendTo]

@[simp] theorem State.respond_mode_keys (s : State) (key : Option Bytes) (r : Req) (command : Nat) (x : Reply) :
    (s.respond key r command x).1.mode = s.mode ∧ (s.respond key r command x).1.keys = s.keys := by
  unfold State.respond; split <;> simp

@[simp] theorem State.forget_mode_keys (s : State) (node : Nat) : (s.forget node).mode = s.mode ∧ (s.forget node).keys = s.keys := ⟨rfl, rfl⟩

@[simp] theorem State.remember_mode_keys (s : State) (r : Req) (b : Bytes) : (s.remember r b).mode = s.mode ∧ (s.remember r b).keys = s.keys :=
  ⟨rfl, rfl⟩

theorem State.attempt_mode_keys (s : State) (r : Req) (command : Nat) {act : State → State × Reply}
    (h : ∀ u, (act u).1.mode = u.mode ∧ (act u).1.keys = u.keys) :
    (s.attempt r command act).1.mode = s.mode ∧ (s.attempt r command act).1.keys = s.keys := by
  unfold State.attempt; dsimp only; split <;> simp [h]

@[simp] theorem State.request_mode_keys (s : State) (r : Req) (command : Nat) {act : State → State × Reply}
    (h : ∀ u, (act u).1.mode = u.mode ∧ (act u).1.keys = u.keys) :
    (s.request r command act).mode = s.mode ∧ (s.request r command act).keys = s.keys := by
  simp [State.request, State.attempt_mode_keys s r command h]

@[simp] theorem State.identify_mode_keys (s : State) (r : Req) (b : Bytes) : (s.identify r b).mode = s.mode ∧ (s.identify r b).keys = s.keys := by
  simp [State.identify, State.attempt_mode_keys]

@[simp] theorem State.afterRead_mode_keys (s : State) (a : Nat) : (s.afterRead a).mode = s.mode ∧ (s.afterRead a).keys = s.keys := by
  unfold State.afterRead
  split
  · exact ⟨rfl, rfl⟩
  · split
    · exact State.inspect_mode_keys ..
    · split <;> exact ⟨rfl, rfl⟩

@[simp] theorem State.readOne_mode_keys (s : State) (a : Nat) : (s.readOne a).1.mode = s.mode ∧ (s.readOne a).1.keys = s.keys := by
  unfold State.readOne; dsimp only; split <;> simp

@[simp] theorem State.readAll_mode_keys (s : State) (r : Req) (as : List Nat) :
    (s.readAll r as).1.mode = s.mode ∧ (s.readAll r as).1.keys = s.keys := by
  unfold State.readAll; dsimp only; (repeat' split) <;> simp

/-! #### Writes -/

@[simp] theorem State.putOption_mode_keys (s : State) (a : Nat) (v : Bytes) : (s.putOption a v).mode = s.mode ∧ (s.putOption a v).keys = s.keys :=
  ⟨rfl, rfl⟩

@[simp] theorem State.clearCounter_mode_keys (s : State) (a : Nat) : (s.clearCounter a).mode = s.mode ∧ (s.clearCounter a).keys = s.keys := ⟨rfl, rfl⟩

@[simp] theorem State.requestReset_mode_keys (s : State) (r : Req) (requested : Nat) :
    (s.requestReset r requested).mode = s.mode ∧ (s.requestReset r requested).keys = s.keys := by
  simp [State.requestReset]

@[simp] theorem State.putKey_mode (s : State) (a : Nat) (v : Bytes) : (s.putKey a v).mode = s.mode := by unfold State.putKey; split <;> simp

@[simp] theorem State.followValue_mode_keys (s : State) (a : Nat) (old : Bytes) :
    (s.followValue a old).mode = s.mode ∧ (s.followValue a old).keys = s.keys := by
  unfold State.followValue; dsimp only; (repeat' split) <;> simp

@[simp] theorem State.putValue_mode_keys (s : State) (o : ObjRow) (a : Nat) (v : Bytes) :
    (s.putValue o a v).mode = s.mode ∧ (s.putValue o a v).keys = s.keys := by
  simp [State.putValue]

@[simp] theorem State.queueWrite_mode_keys (s : State) (a : Nat) (v : Bytes) :
    (s.queueWrite a v).mode = s.mode ∧ (s.queueWrite a v).keys = s.keys := by
  simp [State.queueWrite]

@[simp] theorem State.latchTest_mode_keys (s : State) (a mode : Nat) :
    (s.latchTest a mode).mode = s.mode ∧ (s.latchTest a mode).keys = s.keys := by
  simp -implicitDefEqProofs [State.latchTest]

@[simp] theorem State.holdWrite_mode_keys (s : State) (o : ObjRow) (a : Nat) (v : Bytes) :
    (s.holdWrite o a v).mode = s.mode ∧ (s.holdWrite o a v).keys = s.keys := by
  simp [State.holdWrite]

@[simp] theorem State.forward_mode_keys (s : State) (o : ObjRow) (a : Nat) (v : Bytes) :
    (s.forward o a v).mode = s.mode ∧ (s.forward o a v).keys = s.keys := by
  simp [State.forward]

@[simp] theorem State.asIfAccepted_mode_keys (s : State) (a : Nat) (v : Bytes) :
    (s.asIfAccepted a v).mode = s.mode ∧ (s.asIfAccepted a v).keys = s.keys := by
  unfold State.asIfAccepted; split <;> simp

@[simp] theorem State.restoreWarp_mode_keys (s fresh : State) (a : Nat) :
    (s.restoreWarp fresh a).mode = s.mode ∧ (s.restoreWarp fresh a).keys = s.keys := by
  unfold State.restoreWarp; dsimp only; (repeat' split) <;> simp

@[simp] theorem State.restoreOne_mode_keys (s fresh : State) (e : Nat × ObjRow) :
    (s.restoreOne fresh e).mode = s.mode ∧ (s.restoreOne fresh e).keys = s.keys := by
  simp [State.restoreOne]

@[simp] theorem State.applyForwarded_mode_keys (s : State) (e : Nat × Bytes) :
    (s.applyForwarded e).mode = s.mode ∧ (s.applyForwarded e).keys = s.keys := by
  unfold State.applyForwarded; split <;> simp

/-! #### Domains -/

@[simp] theorem State.newId_mode_keys (s : State) : s.newId.2.mode = s.mode ∧ s.newId.2.keys = s.keys := ⟨rfl, rfl⟩

@[simp] theorem State.openTransfer_mode_keys (s : State) (t : Transfer) : (s.openTransfer t).mode = s.mode ∧ (s.openTransfer t).keys = s.keys :=
  ⟨rfl, rfl⟩

@[simp] theorem State.closeTransfer_mode_keys (s : State) (t : Transfer) : (s.closeTransfer t).mode = s.mode ∧ (s.closeTransfer t).keys = s.keys :=
  ⟨rfl, rfl⟩

@[simp] theorem State.forwardBank_mode_keys (s : State) (a off : Nat) (data : Bytes) :
    (s.forwardBank a off data).mode = s.mode ∧ (s.forwardBank a off data).keys = s.keys := by
  simp [State.forwardBank]

@[simp] theorem State.abandon_mode_keys (s : State) (t : Transfer) : (s.abandon t).mode = s.mode ∧ (s.abandon t).keys = s.keys := by
  simp [State.abandon]

@[simp] theorem State.beginDomain_mode_keys (s : State) (a : Nat) : (s.beginDomain a).mode = s.mode ∧ (s.beginDomain a).keys = s.keys := by
  unfold State.beginDomain; dsimp only; (repeat' split) <;> simp

@[simp] theorem State.domainBegin_mode_keys (s : State) (r : Req) (a total crc : Nat) :
    (s.domainBegin r a total crc).1.mode = s.mode ∧ (s.domainBegin r a total crc).1.keys = s.keys := by
  unfold State.domainBegin; dsimp only; split <;> simp

@[simp] theorem State.domainSegment_mode_keys (s : State) (r : Req) (id off : Nat) (data : Bytes) :
    (s.domainSegment r id off data).1.mode = s.mode ∧ (s.domainSegment r id off data).1.keys = s.keys := by
  unfold State.domainSegment; dsimp only; (repeat' split) <;> simp

@[simp] theorem State.completeDomain_mode_keys (s : State) (r : Req) (a : Nat) :
    (s.completeDomain r a).mode = s.mode ∧ (s.completeDomain r a).keys = s.keys := by
  unfold State.completeDomain; split <;> simp

@[simp] theorem State.domainEnd_mode_keys (s : State) (r : Req) (id : Nat) :
    (s.domainEnd r id).1.mode = s.mode ∧ (s.domainEnd r id).1.keys = s.keys := by
  unfold State.domainEnd; dsimp only; (repeat' split) <;> simp

@[simp] theorem State.domainCopy_mode_keys (s : State) (r : Req) (a : Nat) :
    (s.domainCopy r a).1.mode = s.mode ∧ (s.domainCopy r a).1.keys = s.keys := by
  unfold State.domainCopy; dsimp only; (repeat' split) <;> simp

@[simp] theorem State.domainRead_mode_keys (s : State) (r : Req) (id off len : Nat) :
    (s.domainRead r id off len).1.mode = s.mode ∧ (s.domainRead r id off len).1.keys = s.keys := by
  unfold State.domainRead; (repeat' split) <;> exact ⟨rfl, rfl⟩

@[simp] theorem State.domainAbort_mode_keys (s : State) (r : Req) (id : Nat) :
    (s.domainAbort r id).1.mode = s.mode ∧ (s.domainAbort r id).1.keys = s.keys := by
  unfold State.domainAbort; split <;> simp

@[simp] theorem State.domainProgress_mode_keys (s : State) (r : Req) (id : Nat) :
    (s.domainProgress r id).1.mode = s.mode ∧ (s.domainProgress r id).1.keys = s.keys := by
  unfold State.domainProgress; split <;> simp

/-! #### Process -/

@[simp] theorem State.receivePd_mode_keys (s : State) (source ip : Nat) (auth : Option Nat) (encrypt : Bool) (seq : Nat) (payload : Bytes) :
    (s.receivePd source ip auth encrypt seq payload).mode = s.mode ∧ (s.receivePd source ip auth encrypt seq payload).keys = s.keys := by
  unfold State.receivePd; dsimp only; split <;> simp

@[simp] theorem State.sendPd_mode_keys (s : State) (l : PdLayout) (key : Option (Nat × Bytes)) (x : PdTx) :
    (s.sendPd l key x).mode = s.mode ∧ (s.sendPd l key x).keys = s.keys := by
  simp [State.sendPd]

@[simp] theorem State.dropSub_mode_keys (s : State) (number : Nat) : (s.dropSub number).mode = s.mode ∧ (s.dropSub number).keys = s.keys := ⟨rfl, rfl⟩

@[simp] theorem State.subscribe_mode_keys (s : State) (r : Req) (number first last start : Nat) :
    (s.subscribe r number first last start).1.mode = s.mode ∧ (s.subscribe r number first last start).1.keys = s.keys := by
  unfold State.subscribe; dsimp only; (repeat' split) <;> simp

@[simp] theorem State.unsubscribe_mode_keys (s : State) (r : Req) (number : Nat) :
    (s.unsubscribe r number).1.mode = s.mode ∧ (s.unsubscribe r number).1.keys = s.keys := by
  unfold State.unsubscribe; (repeat' split) <;> exact ⟨rfl, rfl⟩

@[simp] theorem State.sendEvent_mode_keys (s : State) (x : Subscription) (lost : Bool) (ns : List Nat) :
    (s.sendEvent x lost ns).mode = s.mode ∧ (s.sendEvent x lost ns).keys = s.keys := by
  unfold State.sendEvent
  extract_lets r key payload s1
  have h : s1.mode = s.mode ∧ s1.keys = s.keys := foldl_mode_keys State.inspect_mode_keys ns s
  clear_value s1
  simp [h]

@[simp] theorem State.sendEvents_mode_keys (s : State) (x : Subscription) : (s.sendEvents x).mode = s.mode ∧ (s.sendEvents x).keys = s.keys := by
  simp [State.sendEvents]

@[simp] theorem State.confirmEvents_mode_keys (s : State) (x : Subscription) (highest : Nat) :
    (s.confirmEvents x highest).mode = s.mode ∧ (s.confirmEvents x highest).keys = s.keys :=
  ⟨rfl, rfl⟩

@[simp] theorem State.eventAck_mode_keys (s : State) (r : Req) (number highest : Nat) :
    (s.eventAck r number highest).mode = s.mode ∧ (s.eventAck r number highest).keys = s.keys := by
  unfold State.eventAck; dsimp only; (repeat' split) <;> simp

/-! #### Receive -/

@[simp] theorem State.rateTake_mode_keys (s : State) (d : Datagram) : (s.rateTake d).1.mode = s.mode ∧ (s.rateTake d).1.keys = s.keys := by
  unfold State.rateTake; extract_lets; split <;> exact ⟨rfl, rfl⟩

theorem State.takeNonce_mode_keys {s t : State} {source slot n : Nat} (h : s.takeNonce source slot n = some t) :
    t.mode = s.mode ∧ t.keys = s.keys := by
  unfold State.takeNonce at h
  dsimp only at h
  split at h
  · cases h; exact ⟨rfl, rfl⟩
  · obtain ⟨x, -, rfl⟩ := Option.map_eq_some_iff.mp h; exact ⟨rfl, rfl⟩

@[simp] theorem State.malformed_mode_keys (s : State) (r : Req) (command : Nat) :
    (s.malformed r command).mode = s.mode ∧ (s.malformed r command).keys = s.keys := by
  simp [State.malformed]

@[simp] theorem State.domainCommand_mode_keys (s : State) (r : Req) (command : Nat) (b : Bytes) :
    (s.domainCommand r command b).mode = s.mode ∧ (s.domainCommand r command b).keys = s.keys := by
  unfold State.domainCommand
  extract_lets act
  have kept : ∀ f, act = some f → ∀ u, (f u).1.mode = u.mode ∧ (f u).1.keys = u.keys := by
    intro f hf u
    simp only [act] at hf
    split_ifs at hf <;> cases hf <;> simp
  clear_value act
  cases act with
  | none => simp
  | some f => simp [kept f rfl]

@[simp] theorem State.eventCommand_mode_keys (s : State) (r : Req) (command : Nat) (b : Bytes) :
    (s.eventCommand r command b).mode = s.mode ∧ (s.eventCommand r command b).keys = s.keys := by
  simp [State.eventCommand]

/-! #### SeamFrames -/

@[simp] theorem State.applyFrame_mode_keys (cls : CClass) (type : Nat) (s : State) (header payload : Bytes) :
    (State.applyFrame cls type s header payload).mode = s.mode ∧ (State.applyFrame cls type s header payload).keys = s.keys := by
  unfold State.applyFrame; split <;> simp

@[simp] theorem State.frameIn_mode_keys (s : State) (type : Nat) (cls : CClass) (wire : Bytes) :
    (s.frameIn type cls wire).mode = s.mode ∧ (s.frameIn type cls wire).keys = s.keys :=
  State.seamReceive_mode_keys (fun _ _ _ _ => State.applyFrame_mode_keys ..) s type wire

/-- The outcome is a next state with the mode and the keys of `s`. -/
def State.Stays (s : State) (o : Host.Outcome State Fault Refusal) : Prop := ∃ t, o = .next t ∧ t.mode = s.mode ∧ t.keys = s.keys

@[simp] theorem stays_next (s t : State) : s.Stays (.next t) ↔ t.mode = s.mode ∧ t.keys = s.keys := by
  simp [State.Stays]

end Sys2Proof.Machine

end

section

namespace Sys2Proof.Machine

/-! ### What station commands do to the lifecycle state (Table 1-6) -/

/-- A write that passes the checks of Table 2-3 finds its object, which is writable; the state allows it, and the value has the length of its type. -/
theorem writeCode_ok {s : State} {r : Req} {a : Nat} {v : Bytes} (h : s.writeCode r a v = Status.ok) :
    ∃ o, s.objRow? a = some o ∧ s.stateAllows r o a v = true ∧ lengthOk o.type v = true := by
  unfold State.writeCode at h
  split at h
  · cases h
  split at h
  · cases h
  · rename_i o ho
    split at h
    · cases h
    split at h
    · cases h
    split at h
    · cases h
    · rename_i hs hl
      exact ⟨o, ho, by simpa using hs, by simpa using hl⟩

/-- A station command that passes the checks is one that Table 1-6 accepts in the state. -/
theorem commandState_of_ok {s : State} {r : Req} {v : Bytes} (h : s.writeCode r Obj.stationCommand v = Status.ok) :
    s.commandState (leNat v) = true := by
  obtain ⟨o, -, hs, hl⟩ := writeCode_ok h
  rw [State.stateAllows, hl] at hs
  simp only [State.ownState, if_true, Bool.and_eq_true, Bool.not_true, Bool.false_or] at hs
  exact hs.2

/-- The states that accepted writes can lead to: UNLOAD takes READY to SERVICE, LAYUP takes SERVICE or READY to LAYUP. -/
def Commands (m n : Mode) : Prop := n = m ∨ (m = .ready ∧ n = .service) ∨ ((m = .service ∨ m = .ready) ∧ n = .layup)

@[simp] theorem Commands.refl (m : Mode) : Commands m m := .inl rfl

@[simp] theorem State.enterLayup_mode (s : State) : s.enterLayup.mode = .layup := by simp [State.enterLayup]

/-- Of the station commands only UNLOAD and LAYUP act on the state at once. -/
theorem takeCommand_mode (s : State) (n : Nat) :
    (s.takeCommand n).mode = s.mode ∨ (n = 2 ∧ (s.takeCommand n).mode = .service) ∨ (n = 6 ∧ (s.takeCommand n).mode = .layup) := by
  unfold State.takeCommand
  split <;> simp

theorem ite_mode_of {c : Prop} [Decidable c] {s t : State} {m : Mode} (hs : s.mode = m) (ht : t.mode = m) : (if c then s else t).mode = m := by
  split <;> assumption

theorem actWriteOnly_mode (s : State) (r : Req) (a : Nat) (v : Bytes) :
    (s.actWriteOnly r a v).mode = s.mode ∨ (a = Obj.stationCommand ∧ (s.actWriteOnly r a v).mode = (s.takeCommand (leNat v)).mode) := by
  by_cases h : a = Obj.stationCommand
  · exact .inr ⟨h, by rw [State.actWriteOnly, if_pos h]⟩
  · left
    unfold State.actWriteOnly
    extract_lets n
    rw [if_neg h]
    iterate 11 refine ite_mode_of (by simp) ?_
    split <;> simp

theorem accept_mode (s : State) (r : Req) (o : ObjRow) (a : Nat) (v : Bytes) :
    (s.accept r o a v).1.mode = s.mode ∨ (a = Obj.stationCommand ∧
      ((leNat v = 2 ∧ (s.accept r o a v).1.mode = .service) ∨ (leNat v = 6 ∧ (s.accept r o a v).1.mode = .layup))) := by
  let s2 := (if o.audit then s.audit r a (typeCode o.type) v else s).count Obj.writesAccepted
  have h2 : s2.mode = s.mode := by simp [s2]
  have hm : (s.accept r o a v).1.mode = (if o.effect = .weft then s2.holdWrite o a v else if o.access = .wo then s2.actWriteOnly r a v else s2.putValue o a v).mode := by
    simp [State.accept, s2]
  rw [hm, ← h2]
  split
  · simp
  · split
    · rcases actWriteOnly_mode s2 r a v with h | ⟨ha, h⟩
      · exact .inl h
      · rcases takeCommand_mode s2 (leNat v) with h' | h' | h'
        · exact .inl (h.trans h')
        · exact .inr ⟨ha, .inl ⟨h'.1, h.trans h'.2⟩⟩
        · exact .inr ⟨ha, .inr ⟨h'.1, h.trans h'.2⟩⟩
    · simp

theorem commands_accept {m : Mode} {s : State} {r : Req} {o : ObjRow} {a : Nat} {v : Bytes} (hs : Commands m s.mode)
    (h : a = Obj.stationCommand → (leNat v = 2 → m = .ready) ∧ (leNat v = 6 → m = .service ∨ m = .ready)) : Commands m (s.accept r o a v).1.mode := by
  rcases accept_mode s r o a v with e | ⟨ha, ⟨hv, e⟩ | ⟨hv, e⟩⟩ <;> rw [e]
  · exact hs
  · exact .inr (.inl ⟨(h ha).1 hv, rfl⟩)
  · exact .inr (.inr ⟨(h ha).2 hv, rfl⟩)

/-- What the checks say of a station command, in the form that acceptance needs. -/
theorem commands_of_ok {s : State} {r : Req} {a : Nat} {v : Bytes} (h : s.writeCode r a v = Status.ok) (ha : a = Obj.stationCommand) :
    (leNat v = 2 → s.mode = .ready) ∧ (leNat v = 6 → s.mode = .service ∨ s.mode = .ready) := by
  subst ha
  have hc := commandState_of_ok h
  constructor <;> intro hv <;> simpa [hv, State.commandState] using hc

theorem commands_writeOne (s : State) (r : Req) (a : Nat) (v : Bytes) : Commands s.mode (s.writeOne r a v).1.mode := by
  unfold State.writeOne
  extract_lets c
  split
  · split
    · simp
    · rename_i hc
      exact commands_accept (.refl _) (commands_of_ok (not_not.mp hc))
  · simp

/-- Each item of a multiple write that passes has been checked in the state's own mode. -/
theorem firstFailure_none {r : Req} : ∀ (items : List (Nat × Bytes)) (s : State) (i : Nat), s.firstFailure r i items = none →
    ∀ e ∈ items, ∃ u : State, u.mode = s.mode ∧ u.writeCode r e.1 e.2 = Status.ok
  | [], _, _, _, _, h => absurd h (by simp)
  | (a, v) :: rest, s, i, hf, e, he => by
    unfold State.firstFailure at hf
    extract_lets c at hf
    split at hf
    · cases hf
    · rename_i hc
      rcases List.mem_cons.mp he with rfl | he
      · exact ⟨s, rfl, not_not.mp hc⟩
      · obtain ⟨u, hu, hok⟩ := firstFailure_none rest _ _ hf e he
        exact ⟨u, by simpa using hu, hok⟩

theorem commands_acceptAll {s : State} {r : Req} {items : List (Nat × Bytes)}
    (h : ∀ e ∈ items, e.1 = Obj.stationCommand → (leNat e.2 = 2 → s.mode = .ready) ∧ (leNat e.2 = 6 → s.mode = .service ∨ s.mode = .ready)) :
    Commands s.mode (s.acceptAll r items).1.mode := by
  unfold State.acceptAll
  extract_lets rows
  have hrows : ∀ e ∈ rows, e.2 ∈ items := by
    intro e he
    obtain ⟨x, hx, he⟩ := List.mem_filterMap.mp he
    obtain ⟨o, -, rfl⟩ := Option.map_eq_some_iff.mp he
    exact hx
  suffices ∀ (rows : List (ObjRow × Nat × Bytes)) (p : State × Bytes), (∀ e ∈ rows, e.2 ∈ items) → Commands s.mode p.1.mode →
      Commands s.mode (rows.foldl (fun (s, b) (o, a, v) => let (s1, e) := s.accept r o a v; (s1, b ++ writeResponse e)) p).1.mode from
    this rows _ hrows (.refl _)
  intro rows
  induction rows with
  | nil => exact fun _ _ hp => hp
  | cons x rows ih =>
    intro p hx hp
    exact ih _ (fun e he => hx e (List.mem_cons_of_mem _ he)) (commands_accept hp (h _ (hx x List.mem_cons_self)))

theorem commands_writeAll (s : State) (r : Req) (items : List (Nat × Bytes)) : Commands s.mode (s.writeAll r items).1.mode := by
  unfold State.writeAll
  split
  · exact .refl _
  · split
    · simp
    · rename_i hf
      refine commands_acceptAll fun e he ha => ?_
      obtain ⟨u, hu, hok⟩ := firstFailure_none items s 0 hf e he
      exact hu ▸ commands_of_ok hok ha

/-- A request moves the state as what it asks for does. -/
theorem commands_request {s : State} {r : Req} {command : Nat} {act : State → State × Reply} (h : ∀ u, Commands u.mode (act u).1.mode) :
    Commands s.mode (s.request r command act).mode := by
  have hc : Commands s.mode (act (s.count Obj.requestsExecuted)).1.mode := by simpa using h (s.count Obj.requestsExecuted)
  unfold State.request
  split
  · simp only [State.remember_mode_keys, State.respond_mode_keys, State.attempt]
    split
    · simp
    · exact hc
  · exact .refl _

theorem commands_writeRequest (s : State) (r : Req) (a : Nat) (v : Bytes) : Commands s.mode (s.writeRequest r a v).mode :=
  commands_request fun u => commands_writeOne u r a v

theorem Commands.ite {c : Prop} [Decidable c] {m : Mode} {s t : State} (hs : Commands m s.mode) (ht : Commands m t.mode) :
    Commands m (if c then s else t).mode := by
  split <;> assumption

theorem commands_objectCommand (s : State) (r : Req) (command : Nat) (b : Bytes) : Commands s.mode (s.objectCommand r command b).mode := by
  unfold State.objectCommand
  refine .ite (by simp) (.ite (.ite (commands_writeRequest ..) (by simp)) (.ite (by simp) (.ite (by simp) ?_)))
  split
  · exact commands_request fun u => commands_writeAll u r _
  · simp

theorem commands_dispatch (s : State) (r : Req) (command : Nat) (b : Bytes) : Commands s.mode (s.dispatch r command b).mode := by
  unfold State.dispatch
  refine .ite (by simp) (.ite (commands_objectCommand ..) (.ite (by simp) (.ite (by simp) (.ite (by simp) (.ite (.ite ?_ (by simp)) (by simp))))))
  exact commands_request fun u => commands_writeOne u r _ _

theorem commands_takeRequest (s : State) (r : Req) (command : Nat) (b : Bytes) : Commands s.mode (s.takeRequest r command b).mode := by
  unfold State.takeRequest
  split
  · exact commands_dispatch ..
  · split
    · exact commands_dispatch ..
    · split
      · simp
      · split
        · exact commands_dispatch ..
        · simp

theorem commands_takeVerified (s : State) (r : Req) (atPd : Bool) (flags command : Nat) (payload : Bytes) :
    Commands s.mode (s.takeVerified r atPd flags command payload).mode := by
  unfold State.takeVerified
  split
  · simp
  · exact commands_takeRequest ..

theorem commands_takeAuth (s : State) (r : Req) (atPd : Bool) (w : Bytes) : Commands s.mode (s.takeAuth r atPd w).mode := by
  unfold State.takeAuth
  extract_lets flags command verified
  have kept : ∀ s1 p, verified = some (s1, p) → s1.mode = s.mode := by
    intro s1 p h
    simp only [verified] at h
    split at h
    · cases h; rfl
    · simp only [Option.bind_eq_bind, Option.bind_eq_some_iff] at h
      obtain ⟨key, -, payload, -, u, hu, e⟩ := h
      cases e
      exact (State.takeNonce_mode_keys hu).1
  clear_value verified
  split
  · simp
  · rename_i s1 payload
    rw [← kept s1 payload rfl]
    split
    · simp
    · exact commands_takeVerified ..

theorem commands_takePacket (s : State) (d : Datagram) (atPd : Bool) : Commands s.mode (s.takePacket d atPd).mode := by
  unfold State.takePacket
  extract_lets w flags r c
  refine .ite (by simp) (.ite (by simp) (.ite (by simp) ?_))
  split
  · exact commands_takeAuth ..
  · split <;> simp

/-- What an arrived datagram does, by the limiter's result and the state it leaves. -/
theorem netArrived_eq (s : State) (d : Datagram) : s.netArrived d =
    if d.excluded || !checksumOk d || !s.forUs d.dstIp || !(s.atPdPort d || decide (d.dstPort = s.started Obj.clpPort)) then
      s.count Obj.framesDiscarded
    else if s.atPdPort d then s.takePacket d true
    else if (s.rateTake d).2 then (s.rateTake d).1.takePacket d false else (s.rateTake d).1.count Obj.rateDropped := by
  rw [State.netArrived]

theorem commands_netArrived (s : State) (d : Datagram) : Commands s.mode (s.netArrived d).mode := by
  have hx := (State.rateTake_mode_keys s d).1
  rw [netArrived_eq]
  generalize s.rateTake d = x at hx ⊢
  refine .ite (by simp) (.ite (commands_takePacket ..) ?_)
  rw [← hx]
  exact .ite (commands_takePacket ..) (by simp)

theorem commands_netPacket (s : State) (d : Datagram) : Commands s.mode (s.netPacket d).mode := by
  have hx := (State.prpTake_mode_keys s d.rx).1
  unfold State.netPacket
  generalize s.prpTake d.rx = x at hx ⊢
  refine .ite (by simp) (.ite (by simp) ?_)
  rw [← hx]
  exact .ite (commands_netArrived ..) (by simp)

theorem commands_usbPacket (s : State) (d : Datagram) : Commands s.mode (s.usbPacket d).mode := by
  unfold State.usbPacket
  split
  · simp
  · split
    · simp
    · exact commands_takePacket ..

/-! ### The lifecycle state (Table 1-7) -/

/-- The rows of Table 1-7 that lead neither to OFF nor to BOOT. -/
def lifecycleRows : List (Mode × Mode) :=
  [(.boot, .service), (.boot, .ready), (.service, .ready), (.ready, .service), (.ready, .run), (.ready, .standby), (.service, .layup),
    (.ready, .layup), (.run, .ready), (.run, .standby), (.standby, .run), (.standby, .ready), (.standby, .service), (.boot, .hold), (.service, .hold),
    (.ready, .hold), (.run, .hold), (.standby, .hold)]

/-- A row of the table leads from `m` to `n`, or the state stays. -/
def Lifecycle (m n : Mode) : Prop := n = m ∨ n = .off ∨ n = .boot ∨ (m, n) ∈ lifecycleRows

theorem Lifecycle.of_eq {m n : Mode} (h : n = m) : Lifecycle m n := .inl h

theorem Lifecycle.of_mem {m n : Mode} (h : (m, n) ∈ lifecycleRows) : Lifecycle m n := .inr (.inr (.inr h))

theorem Commands.lifecycle {m n : Mode} (h : Commands m n) : Lifecycle m n := by
  rcases h with h | ⟨rfl, rfl⟩ | ⟨rfl | rfl, rfl⟩
  · exact .of_eq h
  · exact .of_mem (by decide)
  · exact .of_mem (by decide)
  · exact .of_mem (by decide)

/-- The outcome is a next state to which a row of the table leads. -/
def State.Moves (s : State) (o : Host.Outcome State Fault Refusal) : Prop := ∃ t, o = .next t ∧ Lifecycle s.mode t.mode

theorem moves_next {s t : State} (h : Lifecycle s.mode t.mode) : s.Moves (.next t) := ⟨t, rfl, h⟩

theorem State.Stays.moves {s : State} {o : Host.Outcome State Fault Refusal} (h : s.Stays o) : s.Moves o := by
  obtain ⟨t, rfl, hm, -⟩ := h
  exact moves_next (.of_eq hm)

/-! ### Resets lead to BOOT or OFF -/

/-- A reset leaves the state, or leads to OFF or BOOT. -/
def Resets (m n : Mode) : Prop := n = m ∨ n = .off ∨ n = .boot

theorem Resets.lifecycle {m n : Mode} (h : Resets m n) : Lifecycle m n := h.imp id (·.imp id .inl)

theorem Resets.trans {m n k : Mode} (h : Resets m n) (h2 : Resets n k) : Resets m k := by
  rcases h2 with rfl | h2
  · exact h
  · exact .inr h2

@[simp] theorem State.reachW_mode (s : State) : s.reachW.mode = .boot := by simp [State.reachW]

@[simp] theorem State.reachP_mode (s : State) : s.reachP.mode = .off := rfl

theorem resets_reach (s : State) (old new : Nat) : Resets s.mode (s.reach old new).mode := by
  simp only [State.reach, ite_mode, State.reachP_mode, State.reachS_mode, State.reachW_mode, State.reachC_mode_keys, ite_self, Resets]
  split
  · simp
  · split <;> simp

theorem resets_hold (s : State) (src : ResetSource) (delayed : Bool) : Resets s.mode (s.hold src delayed).mode := by
  unfold State.hold
  split
  · exact .inl rfl
  · extract_lets s1
    have h1 : s1.mode = s.mode := by simp [s1]
    clear_value s1
    split
    · exact .inl h1
    · rw [← h1]
      exact resets_reach ..

theorem resets_takeHold (s : State) (src : ResetSource) (delayed : Bool) : Resets s.mode (s.takeHold src delayed).mode := by
  unfold State.takeHold
  split
  · have h := resets_hold s.assertRequest src delayed
    rw [(State.assertRequest_mode_keys s).1] at h
    exact h.trans (resets_hold ..)
  · exact resets_hold ..

theorem resets_assertHold (s : State) (src : ResetSource) (asked : ResetLevel) (pulse : Bool) :
    Resets s.mode (s.assertHold src asked pulse).mode := by
  have h := resets_takeHold (s.assertSource src asked) src false
  simp only [State.assertSource_mode_keys] at h
  unfold State.assertHold
  extract_lets s1
  split
  · exact .inl (by simp [s1])
  · exact h

@[simp] theorem State.wakeUp_mode (s : State) (recordBad : Bool) : (s.wakeUp recordBad).mode = .boot := by simp [State.wakeUp]

/-! ### Leaving and entering READY, RUN, STANDBY and HOLD -/

@[simp] theorem State.leaveRun_mode (s : State) (target : Mode) : (s.leaveRun target).mode = target := by simp [State.leaveRun]

@[simp] theorem State.leavePair_mode (s : State) : s.leavePair.mode = .ready := by simp [State.leavePair]

@[simp] theorem State.enterRun_mode (s : State) (b : Nat) : (s.enterRun b).mode = .run := by simp [State.enterRun]

@[simp] theorem State.becomeActive_mode (s : State) (skip : Nat) : (s.becomeActive skip).mode = .run := by simp [State.becomeActive]

@[simp] theorem State.enterHold_mode (s : State) (code : Nat) : (s.enterHold code).mode = .hold := rfl

@[simp] theorem State.goHold_mode (s : State) (code : Nat) : (s.goHold code).mode = .hold := by simp [State.goHold]

theorem installBank_mode (s : State) (k : Nat) : (s.installBank k).1.mode = if (s.installBank k).2 then .ready else s.mode := by
  unfold State.installBank
  extract_lets p s1
  split <;> simp

theorem installBank_loads (s : State) (k : Nat) : (s.installBank k).1.mode = s.mode ∨ (s.installBank k).1.mode = .ready := by
  rw [installBank_mode]; split <;> simp

theorem loadBank_loads (s : State) (k : Nat) : (s.loadBank k).1.mode = s.mode ∨ (s.loadBank k).1.mode = .ready := by
  simpa [State.loadBank] using installBank_loads ((s.verifyBank k).refuseAbsent k) k

/-- What holds of the mode of both branches holds of the choice. -/
theorem mode_ite (P : Mode → Prop) {c : Prop} [Decidable c] {s t : State} (hs : P s.mode) (ht : P t.mode) : P (if c then s else t).mode := by
  split <;> assumption

theorem joinLoad_loads (s : State) : s.joinLoad.mode = s.mode ∨ s.joinLoad.mode = .ready := by
  unfold State.joinLoad
  split
  · exact .inl rfl
  · rename_i k digest _
    have h := loadBank_loads (s.selectBank k) k
    simp only [State.selectBank_mode_keys] at h
    generalize (s.selectBank k).loadBank k = x at h ⊢
    split
    · simpa using h
    · exact .inl rfl

/-- A module that joins stays, or returns to SERVICE or READY for the partner's image (R267). -/
theorem joinStart_mode (s : State) : s.joinStart.mode = s.mode ∨ s.joinStart.mode = .service ∨ s.joinStart.mode = .ready := by
  unfold State.joinStart
  split
  · simp
  · refine mode_ite (fun m => m = s.mode ∨ m = .service ∨ m = .ready) (by simp) ?_
    · extract_lets s1
      have h := joinLoad_loads ((s1.setNum Obj.syncState 1).setPair { s1.pair with fetching := true })
      have h1 : s1.mode = .service := by simp [s1]
      simp only [State.setPair_mode, State.setNum_mode, h1] at h
      exact .inr h

theorem enterStandby_mode (s : State) (b : Nat) :
    (s.enterStandby b).mode = .standby ∨ (s.enterStandby b).mode = .service ∨ (s.enterStandby b).mode = .ready := by
  unfold State.enterStandby
  extract_lets held s1
  have h := joinStart_mode (s1.timeFollows.canBegin.applySetting b).showJoined.refreshHello
  have h1 : s1.mode = .standby := rfl
  clear_value s1
  simpa [h1] using h

/-- A row of the table leads from STANDBY to where a joining module goes. -/
theorem lifecycle_joinStart {s : State} (h : s.mode = .standby) : Lifecycle .standby s.joinStart.mode := by
  rcases joinStart_mode s with e | e | e <;> rw [e]
  · exact .of_eq h
  · exact .of_mem (by decide)
  · exact .of_mem (by decide)

theorem lifecycle_enterStandby (s : State) (b : Nat) : Lifecycle .ready (s.enterStandby b).mode := by
  rcases enterStandby_mode s b with e | e | e <;> rw [e]
  · exact .of_mem (by decide)
  · exact .of_mem (by decide)
  · exact .of_eq rfl

theorem lifecycle_startAt {s : State} (h : s.mode = .ready) (b : Nat) : Lifecycle .ready (s.startAt b).1.mode := by
  unfold State.startAt
  split
  · simpa using lifecycle_enterStandby s b
  · simp only [ite_mode, State.setFence_mode_keys, State.enterRun_mode, ite_self]
    exact .of_mem (by decide)
  · exact .of_eq h

/-! ### Activation -/

theorem swapThroughReady_mode (s : State) (a : PendingActivation) (new : Loaded) (old : Bytes) (restart : Bool) :
    (s.swapThroughReady a new old restart).mode = .ready := by simp [State.swapThroughReady]

theorem activate_mode (s : State) (a : PendingActivation) (restart : Bool) :
    (s.activate a restart).mode = s.mode ∨ (s.activate a restart).mode = .ready := by
  unfold State.activate
  split
  · split
    · simp
    · split
      · simp
      · exact .inr (swapThroughReady_mode ..)
  · split <;> simp

theorem lifecycle_ready {m : Mode} (h : m.running = true) : Lifecycle m .ready := by
  cases m with
  | run | standby => exact .of_mem (by decide)
  | off | boot | service | ready | hold | layup => cases h

theorem lifecycle_activate {s : State} (h : s.mode.running = true) (a : PendingActivation) (restart : Bool) :
    Lifecycle s.mode (s.activate a restart).mode := by
  rcases activate_mode s a restart with e | e <;> rw [e]
  · exact .of_eq rfl
  · exact lifecycle_ready h

theorem lifecycle_goHold {s : State} (h1 : s.mode ≠ .off) (h2 : s.mode ≠ .layup) (code : Nat) : Lifecycle s.mode (s.goHold code).mode := by
  rw [State.goHold_mode]
  cases h : s.mode with
  | off => exact absurd h h1
  | layup => exact absurd h h2
  | hold => exact .of_eq rfl
  | boot | service | ready | run | standby => exact .of_mem (by decide)

/-! ### Commands that move the lifecycle state -/

theorem moves_writeRequest (s : State) (r : Req) (a : Nat) (v : Bytes) : s.Moves (.next (s.writeRequest r a v)) :=
  moves_next (commands_writeRequest ..).lifecycle

theorem moves_fusedKeyWrite (s : State) (r : Req) (cls : Nat) (slot : Fin 8) (a : Nat) (key : Bytes) (cutOff : Bool) :
    s.Moves (.next (s.fusedKeyWrite r cls slot a key cutOff)) := by
  unfold State.fusedKeyWrite
  split
  · exact moves_next (.of_eq (by simp))
  · exact moves_writeRequest ..

theorem execReset_moves (r : Req) (level : BitVec 8) (s : State) : s.Moves (execReset r level s) :=
  moves_next (commands_request fun u => commands_writeOne u r _ _).lifecycle

theorem execWriteMulti_moves (r : Req) (items : List (BitVec 32 × List Byte)) (s : State) : s.Moves (execWriteMulti r items s) :=
  moves_next (commands_request fun u => commands_writeAll u r _).lifecycle

theorem execClpPacketReceive_moves (d : Datagram) (s : State) : s.Moves (execClpPacketReceive d s) := by
  unfold execClpPacketReceive
  split
  · exact moves_next (commands_usbPacket ..).lifecycle
  · split
    · exact moves_next (commands_netPacket ..).lifecycle
    · exact moves_next (.of_eq (by simp))
    · exact moves_next (.of_eq (by simp))

theorem moves_assertHold (s : State) (src : ResetSource) (asked : ResetLevel) (pulse : Bool) : s.Moves (.next (s.assertHold src asked pulse)) :=
  moves_next (resets_assertHold ..).lifecycle

theorem execLogicSupplyRise_moves (s : State) : s.Moves (execLogicSupplyRise s) := by
  unfold execLogicSupplyRise
  refine moves_next (Resets.lifecycle ?_)
  split
  · extract_lets s1
    split
    · exact .inr (.inr rfl)
    · exact .inl (by simp [s1])
  · exact .inl rfl

theorem execDebugReset_moves (port : DebugPins) (level : ResetLevel) (pulse : Bool) (s : State) : s.Moves (execDebugReset port level pulse s) := by
  refine moves_next (Resets.lifecycle ?_)
  split
  · exact .inl rfl
  · split
    · exact resets_assertHold ..
    · split
      · exact resets_assertHold ..
      · exact .inl rfl

theorem execSourceTakesHold_moves (src : ResetSource) (how : HoldFacts) (s : State) : s.Moves (execSourceTakesHold src how s) := by
  refine moves_next (Resets.lifecycle ?_)
  split
  · split
    · rename_i op _
      have h := resets_takeHold (s.stopBetween op) src how.delayed
      rwa [(State.stopBetween_mode_keys s op).1] at h
    · exact resets_takeHold ..
  · exact .inl rfl

theorem execResetPinAssert_moves (pin : PinAssert) (s : State) : s.Moves (execResetPinAssert pin s) := by
  refine moves_next (Resets.lifecycle ?_)
  split
  · exact resets_assertHold ..
  · split
    · exact .inr (.inr (by simp))
    · exact .inl rfl

theorem execWake_moves (src : WakeSource) (recordBad : Bool) (s : State) : s.Moves (execWake src recordBad s) := by
  exact moves_next (mode_ite (Lifecycle s.mode) (Resets.lifecycle (.inr (.inr (by simp)))) (.of_eq rfl))

theorem execCanWake_moves (channel : Fin 8) (seen : CanWaking) (s : State) : s.Moves (execCanWake channel seen s) := by
  refine moves_next (Resets.lifecycle ?_)
  split
  · exact .inl rfl
  · split
    split
    · exact .inl (by simp)
    · exact .inr (.inr (by simp))

/-! ### HOLD, and the boot -/

theorem execHoldEntered_moves (cause : BitVec 16) (s : State) : s.Moves (execHoldEntered cause s) := by
  unfold execHoldEntered
  split
  · exact moves_next (.of_eq rfl)
  · rename_i h
    simp only [Bool.or_eq_true, decide_eq_true_eq, not_or] at h
    obtain ⟨⟨⟨hoff, hlayup⟩, -⟩, -⟩ := h
    exact moves_next (lifecycle_goHold hoff hlayup _)

theorem execOvertemp_moves (s : State) : s.Moves (execOvertemp s) := by
  unfold execOvertemp
  split
  · exact moves_next (.of_eq rfl)
  · rename_i h
    simp only [Bool.or_eq_true, decide_eq_true_eq, not_or] at h
    obtain ⟨⟨hoff, hlayup⟩, -⟩ := h
    exact moves_next (lifecycle_goHold hoff hlayup _)

theorem execScrubPass_moves (ticks : Option (BitVec 32)) (corrected : BitVec 32) (uncorrectable : Option (BitVec 32 × BitVec 32)) (s : State) :
    s.Moves (execScrubPass ticks corrected uncorrectable s) := by
  unfold execScrubPass
  extract_lets s0 s1
  have h1 : s1.mode = s.mode := by
    simp only [s1, s0]
    split <;> simp
  clear_value s1
  split
  · exact moves_next (.of_eq rfl)
  · rename_i h
    simp only [Bool.or_eq_true, decide_eq_true_eq, not_or] at h
    obtain ⟨hoff, hlayup⟩ := h
    split
    · exact moves_next (.of_eq h1)
    · extract_lets again s2 s3
      have h2 : s2.mode = s.mode := by simp [s2, h1]
      refine moves_next ?_
      rw [(State.dieFault_mode_keys ..).1]
      clear_value s2
      simp only [s3]
      split
      · have := lifecycle_goHold (s := s2) (h2 ▸ hoff) (h2 ▸ hlayup) (holdCauseCode .storeUncorrectable)
        rwa [h2] at this
      · exact .of_eq h2

theorem bootState_mode (s : State) : s.bootState.mode = .service ∨ s.bootState.mode = .ready := by
  unfold State.bootState
  extract_lets k resumed mode wants s1 s2 auto s3 r
  have h2 : s2.mode = .service ∨ s2.mode = .ready := by
    simp only [s2]
    split
    · exact loadBank_loads s1 k
    · exact .inl (State.verifyBank_mode_keys s1 k).1
  have h3 : s3.mode = s2.mode := (State.verifyLater_mode_keys s2 (1 - k)).1
  show s3.mode = _ ∨ s3.mode = _
  rwa [h3]

theorem lifecycle_boot {n : Mode} (h : n = .service ∨ n = .ready ∨ n = .hold) : Lifecycle .boot n := by
  rcases h with rfl | rfl | rfl <;> exact .of_mem (by decide)

theorem execBootComplete_moves (f : BootFacts) (s : State) : s.Moves (execBootComplete f s) := by
  unfold execBootComplete
  refine moves_next ?_
  split
  · exact .of_eq rfl
  split
  · exact .of_eq rfl
  split
  · exact .of_eq rfl
  · rename_i hm
    have hm : s.mode = .boot ∨ s.mode = .hold := by simpa [or_iff_not_imp_left] using hm
    extract_lets s0 s1 s2 s3 ok s4 r s5 s6
    have h1 : s1.mode = s.mode := by simp [s1, s0]
    have h2 : (s.mode = .boot ∧ (s2.mode = .service ∨ s2.mode = .ready)) ∨ (s.mode = .hold ∧ s2.mode = .hold) := by
      simp only [s2, h1]
      rcases hm with hb | hh
      · exact .inl ⟨hb, by simpa [hb] using bootState_mode s1⟩
      · exact .inr ⟨hh, by simp [hh, h1]⟩
    have h3 : s3.mode = s2.mode ∨ s3.mode = .hold := by
      simp only [s3]
      split
      · exact .inr (State.goHold_mode ..)
      · exact .inl rfl
    have h6 : (if s6.pairEnabled && s6.seamUp then s6.sendSeam seamTypeHello s6.helloBytes else s6).mode = s3.mode := by
      simp [s6, s5, s4]
    rw [h6]
    clear_value s2 s3
    rcases h2 with ⟨hs, h2⟩ | ⟨hs, h2⟩ <;> rw [hs]
    · rcases h3 with h3 | h3
      · exact h3 ▸ lifecycle_boot (h2.imp id .inl)
      · exact lifecycle_boot (.inr (.inr h3))
    · exact .of_eq (h3.elim (·.trans h2) id)

/-! ### Boundaries -/

@[simp] theorem State.noAuto_mode (s : State) : s.noAuto.mode = s.mode := rfl

theorem execStartBoundary_moves (s : State) : s.Moves (execStartBoundary s) := by
  unfold execStartBoundary
  extract_lets b commanded auto
  split
  · exact moves_next (.of_eq rfl)
  · split
    · rename_i hr
      have h := lifecycle_startAt (s := s.noAuto) hr b
      generalize s.noAuto.startAt b = x at h ⊢
      refine moves_next ?_
      rw [hr]
      exact mode_ite (Lifecycle .ready) (by simpa using h) h
    · exact moves_next (mode_ite (Lifecycle s.mode) (.of_eq (State.commandDone_mode_keys ..).1) (.of_eq rfl))

theorem execActivation_moves (s : State) : s.Moves (execActivation s) := by
  unfold execActivation
  split
  · split
    · rename_i h
      simp only [Bool.and_eq_true] at h
      exact moves_next (lifecycle_activate h.1.1 _ _)
    · exact moves_next (.of_eq rfl)
  · exact moves_next (.of_eq rfl)

theorem execActivationRestart_moves (s : State) : s.Moves (execActivationRestart s) := by
  unfold execActivationRestart
  refine moves_next ?_
  split
  · refine mode_ite (Lifecycle s.mode) (.of_eq rfl) ?_
    extract_lets s1
    split
    · exact .of_eq (by simp [s1])
    · rename_i hr
      rw [not_not.mp hr]
      exact mode_ite (Lifecycle .ready) (by simpa using .of_mem (by decide)) (lifecycle_enterStandby s1 _)
  · exact .of_eq rfl

theorem execStopBoundary_moves (s : State) : s.Moves (execStopBoundary s) := by
  unfold execStopBoundary
  refine moves_next ?_
  split
  · rename_i c _
    refine mode_ite (Lifecycle s.mode) (.of_eq rfl) ?_
    split
    · exact .of_eq (by simp)
    · rename_i hr
      have hr : s.mode.running = true := by simpa using hr
      refine mode_ite (Lifecycle s.mode) (.of_eq (by simp)) ?_
      extract_lets s1 s2
      have h1 : s1.mode = s.mode ∨ s1.mode = .ready := by
        simp only [s1]
        split
        · exact mode_ite (fun m => m = s.mode ∨ m = .ready) (activate_mode ..) (.inl rfl)
        · exact .inl rfl
      have h2 : s2.mode = .ready := by
        simp only [s2]
        clear_value s1
        rcases h1 with h1 | h1
        · simp [h1, hr]
        · simp [h1, Mode.running]
      rw [(State.commandDone_mode_keys s2 true).1, h2]
      exact lifecycle_ready hr
  · exact .of_eq rfl

theorem execHandoverBoundary_moves (s : State) : s.Moves (execHandoverBoundary s) := by
  unfold execHandoverBoundary
  refine moves_next ?_
  split
  · refine mode_ite (Lifecycle s.mode) (.of_eq rfl) ?_
    split
    · rename_i hr
      refine mode_ite (Lifecycle s.mode) (.of_eq (by simp)) ?_
      rw [hr]
      extract_lets s0 held s1 s2 pb s3
      have h1 : s1.mode = .standby := rfl
      clear_value s1
      have : ((s3.setFence false).timeFollows.canAbandon.canRefresh.dropPassThrough.commandDone true).mode = .standby := by simp [s3, s2, h1]
      rw [this]
      exact .of_mem (by decide)
    · split
      · rename_i hs
        simp only [Bool.and_eq_true, decide_eq_true_eq] at hs
        extract_lets s0 s1
        have h1 : s1.mode = .run := State.becomeActive_mode ..
        clear_value s1
        rw [hs.1.1, (State.commandDone_mode_keys _ true).1, State.setPair_mode, h1]
        exact .of_mem (by decide)
      · exact .of_eq (by simp)
  · exact .of_eq rfl

/-! ### The pair -/

theorem execTakeover_moves (s : State) : s.Moves (execTakeover s) := by
  unfold execTakeover
  refine moves_next ?_
  split
  · rename_i h
    simp only [Bool.and_eq_true, decide_eq_true_eq] at h
    rw [h.1.1]
    simp only [State.logTally_mode, State.count_mode, State.setNum_mode, State.setPair_mode, State.becomeActive_mode]
    exact .of_mem (by decide)
  · exact .of_eq rfl

theorem joinEdge_mode (s : State) (t : Nat) : (s.joinEdge t).mode = s.mode ∨ (s.mode = .ready ∧ (s.joinEdge t).mode = .standby) := by
  unfold State.joinEdge
  split
  · exact .inl rfl
  · split
    · exact .inl (by simp)
    · split
      · rename_i h
        simp only [Bool.and_eq_true, decide_eq_true_eq] at h
        exact .inr ⟨h.1.1, by simp⟩
      · exact .inl rfl

theorem execTickEdge_moves (s : State) : s.Moves (execTickEdge s) := by
  unfold execTickEdge
  refine moves_next ?_
  split
  · exact .of_eq rfl
  · extract_lets t s1 s2 mirrored s3 s4 s5 s6
    have h4 : s4.mode = s.mode := by simp [s4, s3, s2, s1]
    have hj := joinEdge_mode ((if s4.warp.loaded.isSome then s4.dropUnmapped else s4).carriedEdge t) t
    simp only [State.carriedEdge_mode_keys, ite_mode, State.dropUnmapped_mode_keys, ite_self, h4] at hj
    have h5 : s5.mode = (((if s4.warp.loaded.isSome then s4.dropUnmapped else s4).carriedEdge t).joinEdge t).mode := by simp [s5]
    have h6 : ((s6.setFlag Obj.partnerVisible (s6.visibleAt (t - 1))).ppsEdge t).sidebandsNow.mode = s5.mode := by simp [s6]
    rw [h6, h5]
    rcases hj with hj | ⟨hr, hj⟩
    · exact .of_eq hj
    · rw [hr, hj]
      exact .of_mem (by decide)

theorem lifecycle_leavePair {s : State} (h : s.mode = .standby) (t : State) : Lifecycle s.mode t.leavePair.mode := by
  rw [h, State.leavePair_mode]
  exact .of_mem (by decide)

theorem execSeamDecision_moves (s : State) : s.Moves (execSeamDecision s) := by
  unfold execSeamDecision
  refine moves_next (mode_ite (Lifecycle s.mode) (.of_eq rfl) ?_)
  extract_lets pb s1 visible s2
  have h1 : s1.mode = s.mode := rfl
  clear_value s1
  split
  · rename_i hs
    rw [← h1]
    exact mode_ite (Lifecycle s1.mode) (mode_ite (Lifecycle s1.mode) (.of_eq rfl) (.of_eq (by simp)))
      (mode_ite (Lifecycle s1.mode) (.of_eq (by simp)) (lifecycle_leavePair hs s1))
  · exact .of_eq (by simp [s2, h1])

theorem execPresenceFrameReceive_moves (rx : NetRx) (payload : List Byte) (s : State) : s.Moves (execPresenceFrameReceive rx payload s) := by
  unfold execPresenceFrameReceive
  refine moves_next (mode_ite (Lifecycle s.mode) (.of_eq rfl) ?_)
  have hx := (State.prpTake_mode_keys s rx).1
  generalize s.prpTake rx = x at hx ⊢
  split
  rename_i s1 ok
  replace hx : s1.mode = s.mode := hx
  extract_lets counter tagOk t st pb s2 delay s3
  have h3 : s3.mode = s.mode := by simp [s3, s2, hx]
  clear_value s3
  refine mode_ite (Lifecycle s.mode) (.of_eq hx) ?_
  split
  · rename_i h
    simp only [Bool.and_eq_true, decide_eq_true_eq] at h
    rw [← h3]
    exact lifecycle_leavePair h.1.1 s3
  · exact .of_eq h3

theorem lifecycle_compareDigest (s : State) (c : SeamClose) : Lifecycle s.mode (s.compareDigest c).mode := by
  unfold State.compareDigest
  extract_lets t line
  split
  · rename_i hs
    refine mode_ite (Lifecycle s.mode) (.of_eq rfl) (mode_ite (Lifecycle s.mode) (.of_eq (by simp)) ?_)
    rw [hs]
    exact lifecycle_joinStart (by simp [hs])
  · exact .of_eq (by simp)

theorem lifecycle_compareWords (s : State) : Lifecycle s.mode s.compareWords.mode := by
  unfold State.compareWords
  split
  · rename_i hs
    simp only [Bool.and_eq_true, decide_eq_true_eq] at hs
    split
    · rw [hs.1.1]
      exact lifecycle_joinStart (by simp [hs.1.1])
    · exact .of_eq rfl
  · exact .of_eq rfl

theorem execSeamGuardCheck_moves (s : State) : s.Moves (execSeamGuardCheck s) := by
  unfold execSeamGuardCheck
  refine moves_next (mode_ite (Lifecycle s.mode) (.of_eq rfl) ?_)
  extract_lets s1
  have h1 : s1.mode = s.mode := by simp [s1]
  clear_value s1
  rw [← h1]
  have hw : Lifecycle s1.mode s1.compareWords.missHeartbeat.mode := by simpa using lifecycle_compareWords s1
  split
  · exact mode_ite (Lifecycle s1.mode) (lifecycle_compareDigest s1 _) hw
  · exact hw

theorem lifecycle_acceptPair (s : State) (h : SeamHello) (epoch : Nat) : Lifecycle s.mode (s.acceptPair h epoch).mode := by
  unfold State.acceptPair
  extract_lets s1 s2 seen pb s3
  have h3 : s3.mode = s.mode := by simp [s3, s2, s1]
  clear_value s3
  split
  · rename_i hs
    simp only [Bool.and_eq_true, decide_eq_true_eq] at hs
    rw [← h3, hs.1]
    exact lifecycle_joinStart hs.1
  · exact .of_eq h3

theorem execHello_moves (wire : List Byte) (s : State) : s.Moves (execHello wire s) := by
  unfold execHello
  refine moves_next ?_
  extract_lets st serial epoch again pb s0 answered
  have h0 : s0.mode = s.mode := by simp [s0]
  have ha : ∀ t : State, (answered t).mode = t.mode := fun t => by simp only [answered]; split <;> simp
  clear_value s0 answered
  refine mode_ite (Lifecycle s.mode) (.of_eq rfl) (mode_ite (Lifecycle s.mode) (.of_eq h0) ?_)
  rw [← h0]
  split
  · exact .of_eq (by simp [ha])
  · extract_lets seq orig s1 h code pb
    have h1 : s1.mode = s0.mode := by simp [s1]
    clear_value s1
    refine mode_ite (Lifecycle s0.mode) (.of_eq rfl) (mode_ite (Lifecycle s0.mode) (.of_eq (by simp)) ?_)
    rw [← h1]
    refine mode_ite (Lifecycle s1.mode) (.of_eq (by simp)) (mode_ite (Lifecycle s1.mode) (.of_eq (by simp [ha])) ?_)
    simpa [ha] using lifecycle_acceptPair s1 h epoch

theorem finishLoad_mode (s : State) (k : Nat) :
    (s.finishLoad k).mode = s.mode ∨ (s.mode = .service ∧ (s.finishLoad k).mode = .ready) := by
  unfold State.finishLoad
  extract_lets w s1
  split
  rename_i s2 ok hx
  have h : s2.mode = s.mode ∨ (s.mode = .service ∧ s2.mode = .ready) := by
    split at hx
    · rename_i hs
      have hi := installBank_loads (s1.refuseAbsent k) k
      rw [hx, (State.refuseAbsent_mode_keys s1 k).1] at hi
      exact hi.imp id fun e => ⟨hs, e⟩
    · cases hx
      exact .inl rfl
  simpa using h

theorem lifecycle_loads {s t : State} (hs : s.mode = .service) (h : t.mode = s.mode ∨ t.mode = .ready) : Lifecycle s.mode t.mode := by
  rcases h with h | h
  · exact .of_eq h
  · rw [h, hs]
    exact .of_mem (by decide)

theorem execWarpVerified_moves (bank : Fin 2) (s : State) : s.Moves (execWarpVerified bank s) := by
  unfold execWarpVerified
  extract_lets k a s1 ok t s3 c w s4
  have h4 : s4.mode = s.mode := by
    have h3 : s3.mode = s.mode := by
      dsimp only [s3, t, s1]
      split
      · split <;> simp
      · simp
    simp [s4, h3]
  clear_value s4
  refine moves_next (mode_ite (Lifecycle s.mode) (.of_eq rfl) ?_)
  rw [← h4]
  split
  · rcases finishLoad_mode s4 k with h | ⟨hs, h⟩
    · exact .of_eq h
    · exact lifecycle_loads hs (.inr h)
  · split
    · rename_i h
      simp only [Bool.and_eq_true, decide_eq_true_eq] at h
      exact lifecycle_loads h.2 (joinLoad_loads s4)
    · exact .of_eq rfl

end Sys2Proof.Machine

end

section

namespace Sys2Proof.Machine

/-! ### The commands that move neither the lifecycle state nor a key -/

theorem execFeedLoss_stays (s : State) : s.Stays (execFeedLoss s) := by simp [execFeedLoss]

theorem execResetPinRelease_stays (s : State) : s.Stays (execResetPinRelease s) := by simp [execResetPinRelease]

theorem execInternalSourceRelease_stays (src : ResetSource) (s : State) : s.Stays (execInternalSourceRelease src s) := by
  simp [execInternalSourceRelease]

theorem execEpisodeClose_stays (f : ExitFacts) (s : State) : s.Stays (execEpisodeClose f s) := by
  unfold execEpisodeClose
  split <;> simp

theorem execAutomaticStart_stays (s : State) : s.Stays (execAutomaticStart s) := by simp [execAutomaticStart]

theorem execProfileChange_stays (s : State) : s.Stays (execProfileChange s) := by
  simp only [execProfileChange, stays_next]
  (repeat' split) <;> simp

theorem execRestoreDone_stays (s : State) : s.Stays (execRestoreDone s) := by
  unfold execRestoreDone
  split <;> simp

theorem execIdentify_stays (req : Req) (s : State) : s.Stays (execIdentify req s) := by simp [execIdentify]

theorem execRead_stays (req : Req) (addr : BitVec 32) (s : State) : s.Stays (execRead req addr s) := by simp [execRead]

theorem execReadMulti_stays (req : Req) (addrs : List (BitVec 32)) (s : State) : s.Stays (execReadMulti req addrs s) := by simp [execReadMulti]

theorem execDomainWriteBegin_stays (req : Req) (addr : BitVec 32) (total : BitVec 32) (crc : BitVec 32) (s : State) :
    s.Stays (execDomainWriteBegin req addr total crc s) := by
  simp [execDomainWriteBegin]

theorem execDomainWriteSegment_stays (req : Req) (id : BitVec 16) (offset : BitVec 32) (data : List Byte) (s : State) :
    s.Stays (execDomainWriteSegment req id offset data s) := by
  simp [execDomainWriteSegment]

theorem execDomainWriteEnd_stays (req : Req) (id : BitVec 16) (s : State) : s.Stays (execDomainWriteEnd req id s) := by simp [execDomainWriteEnd]

theorem execDomainReadBegin_stays (req : Req) (addr : BitVec 32) (s : State) : s.Stays (execDomainReadBegin req addr s) := by
  simp [execDomainReadBegin]

theorem execDomainReadSegment_stays (req : Req) (id : BitVec 16) (offset : BitVec 32) (length : BitVec 32) (s : State) :
    s.Stays (execDomainReadSegment req id offset length s) := by
  simp [execDomainReadSegment]

theorem execDomainAbort_stays (req : Req) (id : BitVec 16) (s : State) : s.Stays (execDomainAbort req id s) := by simp [execDomainAbort]

theorem execDomainStatus_stays (req : Req) (id : BitVec 16) (s : State) : s.Stays (execDomainStatus req id s) := by simp [execDomainStatus]

theorem execTransferExpiry_stays (id : BitVec 16) (s : State) : s.Stays (execTransferExpiry id s) := by
  unfold execTransferExpiry
  split <;> simp

theorem execSequenceRecordExpiry_stays (source : BitVec 16) (s : State) : s.Stays (execSequenceRecordExpiry source s) := by
  simp [execSequenceRecordExpiry]

theorem execPd_stays (source : BitVec 16) (ip : Nat) (auth : Option Nat) (encrypt : Bool) (seq : BitVec 16) (payload : List Byte) (s : State) :
    s.Stays (execPd source ip auth encrypt seq payload s) := by
  simp [execPd]

theorem execPdTransmit_stays (layout : BitVec 16) (s : State) : s.Stays (execPdTransmit layout s) := by
  unfold execPdTransmit
  split <;> simp

theorem execSubscribe_stays (req : Req) (number : BitVec 8) (first : BitVec 16) (last : BitVec 16) (start : BitVec 64) (s : State) :
    s.Stays (execSubscribe req number first last start s) := by
  simp [execSubscribe]

theorem execUnsubscribe_stays (req : Req) (number : BitVec 8) (s : State) : s.Stays (execUnsubscribe req number s) := by simp [execUnsubscribe]

theorem execEvent_stays (number : BitVec 8) (s : State) : s.Stays (execEvent number s) := by
  unfold execEvent
  split <;> simp

theorem execEventResend_stays (number : BitVec 8) (s : State) : s.Stays (execEventResend number s) := by
  unfold execEventResend
  split <;> simp

theorem execEventAck_stays (req : Req) (number : BitVec 8) (highest : BitVec 64) (s : State) : s.Stays (execEventAck req number highest s) := by
  simp [execEventAck]

theorem execSubscriptionLapse_stays (number : BitVec 8) (s : State) : s.Stays (execSubscriptionLapse number s) := by simp [execSubscriptionLapse]

theorem execArpRequest_stays (rx : IpOrigin) (senderIp : Nat) (targetIp : Nat) (s : State) : s.Stays (execArpRequest rx senderIp targetIp s) := by
  unfold execArpRequest
  split <;> simp

theorem execArpRefresh_stays (ip : Nat) (mac : Option Nat) (s : State) : s.Stays (execArpRefresh ip mac s) := by simp [execArpRefresh]

theorem execIcmpEcho_stays (rx : IpOrigin) (srcIp : Nat) (dstIp : Nat) (data : List Byte) (s : State) :
    s.Stays (execIcmpEcho rx srcIp dstIp data s) := by
  unfold execIcmpEcho
  split <;> simp

theorem execIgmpQuery_stays (rx : NetRx) (s : State) : s.Stays (execIgmpQuery rx s) := by simp [execIgmpQuery]

theorem execPortLinkUp_stays (p : NetPort) (rate : Nat) (s : State) : s.Stays (execPortLinkUp p rate s) := by simp [execPortLinkUp]

theorem execPathLost_stays (p : NetPort) (cause : Fin 4) (s : State) : s.Stays (execPathLost p cause s) := by simp [execPathLost]

theorem execPathRestored_stays (p : NetPort) (s : State) : s.Stays (execPathRestored p s) := by simp [execPathRestored]

theorem execPrpSupervision_stays (s : State) : s.Stays (execPrpSupervision s) := by simp [execPrpSupervision]

theorem execSourceStale_stays (entry : BitVec 16) (s : State) : s.Stays (execSourceStale entry s) := by
  simp only [execSourceStale, stays_next]
  split <;> simp

theorem execShelveExpiry_stays (group : BitVec 12) (s : State) : s.Stays (execShelveExpiry group s) := by simp [execShelveExpiry]

theorem execGapWeft_stays (s : State) : s.Stays (execGapWeft s) := by simp [execGapWeft]

theorem execExecutionStart_stays (s : State) : s.Stays (execExecutionStart s) := by simp [execExecutionStart]

theorem execWaitRelease_stays (l : Fin 4) (s : State) : s.Stays (execWaitRelease l s) := by
  simp only [execWaitRelease, stays_next]
  split <;> simp

theorem execLoopEvaluation_stays (u : Fin 16) (ram : TableRam) (s : State) : s.Stays (execLoopEvaluation u ram s) := by
  simp only [execLoopEvaluation, stays_next]
  split <;> simp

theorem execLoopLost_stays (loop : BitVec 12) (s : State) : s.Stays (execLoopLost loop s) := by simp [execLoopLost]

theorem execLoopFrozen_stays (loop : BitVec 12) (s : State) : s.Stays (execLoopFrozen loop s) := by simp [execLoopFrozen]

theorem execTestComplete_stays (loop : BitVec 12) (s : State) : s.Stays (execTestComplete loop s) := by
  simp only [execTestComplete, stays_next]
  split <;> simp

theorem execPointScreen_stays (s : State) : s.Stays (execPointScreen s) := by simp [execPointScreen]

theorem execAlarmDelayExpiry_stays (n : BitVec 18) (k : Fin 7) (s : State) : s.Stays (execAlarmDelayExpiry n k s) := by
  unfold execAlarmDelayExpiry
  split <;> simp

theorem execDmaListStart_stays (list : BitVec 16) (faults : List DmaFault) (s : State) : s.Stays (execDmaListStart list faults s) := by
  simp only [execDmaListStart, stays_next]
  (repeat' split) <;> simp

theorem execDmaListComplete_stays (list : BitVec 16) (s : State) : s.Stays (execDmaListComplete list s) := by
  simp only [execDmaListComplete, stays_next]
  (repeat' split) <;> simp

theorem execDeviceRequest_stays (line : HostLine) (beats : Fin 16) (withdrawn : Bool) (s : State) :
    s.Stays (execDeviceRequest line beats withdrawn s) := by
  simp only [execDeviceRequest, stays_next]
  split <;> simp

theorem execLockstepMismatch_stays (shuttle : Bool) (pair : Fin 8) (pairCycle : BitVec 32) (s : State) :
    s.Stays (execLockstepMismatch shuttle pair pairCycle s) := by
  simp [execLockstepMismatch]

theorem execReExecution_stays (s : State) : s.Stays (execReExecution s) := by simp [execReExecution]

theorem execOutputStaging_stays (s : State) : s.Stays (execOutputStaging s) := by simp [execOutputStaging]

theorem execBarrierFrameSend_stays (g : Group) (slot : Fin 4) (room : Nat) (s : State) : s.Stays (execBarrierFrameSend g slot room s) := by
  unfold execBarrierFrameSend
  split <;> simp

theorem execBarrierFrameReceive_stays (toField : Bool) (g : Group) (slot : Fin 4) (wire : Option (List Byte)) (s : State) :
    s.Stays (execBarrierFrameReceive toField g slot wire s) := by
  simp only [execBarrierFrameReceive, stays_next]
  (repeat' split) <;> simp

theorem execSilenceTimeout_stays (g : Group) (s : State) : s.Stays (execSilenceTimeout g s) := by simp [execSilenceTimeout]

theorem execGuard_stays (s : State) : s.Stays (execGuard s) := by simp [execGuard]

theorem execCanaryTickCheck_stays (m : CanaryMeasure) (s : State) : s.Stays (execCanaryTickCheck m s) := by simp [execCanaryTickCheck]

theorem execAoHoldEnd_stays (s : State) : s.Stays (execAoHoldEnd s) := by simp [execAoHoldEnd]

theorem execFenceIn_stays (s : State) : s.Stays (execFenceIn s) := by simp [execFenceIn]

theorem execPartnerPresentChange_stays (asserted : Bool) (s : State) : s.Stays (execPartnerPresentChange asserted s) := by
  simp [execPartnerPresentChange]

theorem execPresenceFrameSend_stays (s : State) : s.Stays (execPresenceFrameSend s) := by
  simp only [execPresenceFrameSend, stays_next]
  (repeat' split) <;> simp

theorem execSeamRetrain_stays (s : State) : s.Stays (execSeamRetrain s) := by
  unfold execSeamRetrain
  split <;> simp

theorem execWeftFrame_stays (frame : List Byte) (cls : CClass) (tag : List Byte) (s : State) : s.Stays (execWeftFrame frame cls tag s) := by
  simp [execWeftFrame]

theorem execStateFrame_stays (wire : List Byte) (s : State) : s.Stays (execStateFrame wire s) := by simp [execStateFrame]

theorem execCloseFrameReceive_stays (wire : List Byte) (s : State) : s.Stays (execCloseFrameReceive wire s) := by simp [execCloseFrameReceive]

theorem execDictFrame_stays (wire : List Byte) (s : State) : s.Stays (execDictFrame wire s) := by simp [execDictFrame]

theorem execBankFrame_stays (wire : List Byte) (s : State) : s.Stays (execBankFrame wire s) := by simp [execBankFrame]

theorem execResyncFrame_stays (wire : List Byte) (s : State) : s.Stays (execResyncFrame wire s) := by simp [execResyncFrame]

theorem execPersistFrame_stays (wire : List Byte) (s : State) : s.Stays (execPersistFrame wire s) := by simp [execPersistFrame]

theorem execAckFrame_stays (wire : List Byte) (s : State) : s.Stays (execAckFrame wire s) := by simp [execAckFrame]

theorem execActivationDecision_stays (s : State) : s.Stays (execActivationDecision s) := by
  unfold execActivationDecision
  split <;> simp

theorem execSync_stays (p : NetPort) (m : PtpMsg) (s : State) : s.Stays (execSync p m s) := by simp [execSync]

theorem execPdelayReq_stays (p : NetPort) (m : PtpMsg) (txNs : Nat) (s : State) : s.Stays (execPdelayReq p m txNs s) := by simp [execPdelayReq]

theorem execAnnounce_stays (p : NetPort) (m : PtpAnnounce) (s : State) : s.Stays (execAnnounce p m s) := by simp [execAnnounce]

theorem execAnnounceTimeout_stays (p : NetPort) (s : State) : s.Stays (execAnnounceTimeout p s) := by simp [execAnnounceTimeout]

theorem execPtpTransmit_stays (p : NetPort) (what : PtpSend) (txNs : Nat) (s : State) : s.Stays (execPtpTransmit p what txNs s) := by
  simp only [execPtpTransmit, stays_next]
  (repeat' split) <;> simp

theorem execDelayReq_stays (p : NetPort) (m : PtpMsg) (s : State) : s.Stays (execDelayReq p m s) := by simp [execDelayReq]

theorem execHoldoverEntry_stays (s : State) : s.Stays (execHoldoverEntry s) := by simp [execHoldoverEntry]

theorem execTimePortSwitch_stays (s : State) : s.Stays (execTimePortSwitch s) := by simp [execTimePortSwitch]

theorem execTimeStepped_stays (s : State) : s.Stays (execTimeStepped s) := by
  unfold execTimeStepped
  split <;> simp

theorem execRtcUpdate_stays (s : State) : s.Stays (execRtcUpdate s) := by simp [execRtcUpdate]

theorem execPpsInEdge_stays (atNs : Nat) (s : State) : s.Stays (execPpsInEdge atNs s) := by simp [execPpsInEdge]

theorem execPpsOutEnd_stays (s : State) : s.Stays (execPpsOutEnd s) := by simp [execPpsOutEnd]

theorem execCanFrameReceive_stays (k : Fin 8) (rx : CanRx) (s : State) : s.Stays (execCanFrameReceive k rx s) := by
  simp only [execCanFrameReceive, stays_next]
  (repeat' split) <;> simp

theorem execCanFrameTransmitted_stays (k : Fin 8) (b : Fin 32) (ev : CanTxEvent) (s : State) : s.Stays (execCanFrameTransmitted k b ev s) := by
  simp only [execCanFrameTransmitted, stays_next]
  split <;> simp

theorem execCanBusOff_stays (k : Fin 8) (s : State) : s.Stays (execCanBusOff k s) := by simp [execCanBusOff]

theorem execCanBusOn_stays (k : Fin 8) (s : State) : s.Stays (execCanBusOn k s) := by simp [execCanBusOn]

theorem execCanRxBufferRead_stays (k : Fin 8) (b : Fin 64) (word : Fin 20) (s : State) : s.Stays (execCanRxBufferRead k b word s) := by
  simp [execCanRxBufferRead]

theorem execLockExpiry_stays (k : Fin 8) (b : Fin 64) (s : State) : s.Stays (execLockExpiry k b s) := by simp [execLockExpiry]

theorem execDetectTimeout_stays (k : Fin 8) (overall : Bool) (s : State) : s.Stays (execDetectTimeout k overall s) := by
  unfold execDetectTimeout
  split <;> simp

theorem execDiBandChange_stays (n : Fin 48) (mv : BitVec 16) (ua : BitVec 16) (firstNs : Nat) (s : State) :
    s.Stays (execDiBandChange n mv ua firstNs s) := by
  simp [execDiBandChange]

theorem execOutputOverload_stays (event : LoadEvent) (s : State) : s.Stays (execOutputOverload event s) := by
  unfold execOutputOverload
  split <;> simp

theorem execOverloadRetry_stays (event : LoadEvent) (s : State) : s.Stays (execOverloadRetry event s) := by
  simp only [execOverloadRetry, stays_next]
  (repeat' split) <;> simp

theorem execFieldSupplyWarning_stays (g : Group) (low : Bool) (s : State) : s.Stays (execFieldSupplyWarning g low s) := by
  simp [execFieldSupplyWarning]

theorem execFieldSupplyTrip_stays (event : SupplyEvent) (s : State) : s.Stays (execFieldSupplyTrip event s) := by
  simp only [execFieldSupplyTrip, stays_next]
  (repeat' split) <;> simp

theorem execSupplyRestoring_stays (g : Group) (above : Bool) (s : State) : s.Stays (execSupplyRestoring g above s) := by simp [execSupplyRestoring]

theorem execFieldSupplyRestored_stays (event : SupplyEvent) (s : State) : s.Stays (execFieldSupplyRestored event s) := by
  simp only [execFieldSupplyRestored, stays_next]
  (repeat' split) <;> simp

theorem execFieldSideStop_stays (g : Group) (s : State) : s.Stays (execFieldSideStop g s) := by simp [execFieldSideStop]

theorem execAoCompliance_stays (k : Fin 8) (current : BitVec 32) (s : State) : s.Stays (execAoCompliance k current s) := by simp [execAoCompliance]

theorem execAoOpen_stays (k : Fin 8) (current : BitVec 32) (s : State) : s.Stays (execAoOpen k current s) := by simp [execAoOpen]

theorem execAoRestored_stays (k : Fin 8) (current : BitVec 32) (atLimit : Bool) (s : State) : s.Stays (execAoRestored k current atLimit s) := by
  simp only [execAoRestored, stays_next]
  (repeat' split) <;> simp

theorem execAoThermal_stays (k : Fin 8) (current : BitVec 32) (s : State) : s.Stays (execAoThermal k current s) := by simp [execAoThermal]

theorem execAoThermalClear_stays (k : Fin 8) (s : State) : s.Stays (execAoThermalClear k s) := by simp [execAoThermalClear]

theorem execAnalogEnvelope_stays (output : Bool) (k : Fin 8) (set : Bool) (s : State) : s.Stays (execAnalogEnvelope output k set s) := by
  simp [execAnalogEnvelope]

theorem execHartSearch_stays (c : Fin 16) (s : State) : s.Stays (execHartSearch c s) := by simp [execHartSearch]

theorem execHartPoll_stays (c : Fin 16) (s : State) : s.Stays (execHartPoll c s) := by
  simp only [execHartPoll, stays_next]
  (repeat' split) <;> simp

theorem execHartResponse_stays (c : Fin 16) (r : HartReply) (s : State) : s.Stays (execHartResponse c r s) := by simp [execHartResponse]

theorem execHartTransactionFailure_stays (c : Fin 16) (s : State) : s.Stays (execHartTransactionFailure c s) := by
  simp only [execHartTransactionFailure, stays_next]
  split <;> simp

theorem execInputFilterExpiry_stays (i : Fin 8) (startUs : Nat) (samples : List (BitVec 16)) (s : State) :
    s.Stays (execInputFilterExpiry i startUs samples s) := by
  simp only [execInputFilterExpiry, stays_next]
  split <;> simp

theorem execDiscrepancy_stays (p : Fin 4) (s : State) : s.Stays (execDiscrepancy p s) := by simp [execDiscrepancy]

theorem execOnDelayExpiry_stays (c : Fin 32) (s : State) : s.Stays (execOnDelayExpiry c s) := by simp [execOnDelayExpiry]

theorem execTripDelayExpiry_stays (e : Fin 8) (s : State) : s.Stays (execTripDelayExpiry e s) := by simp [execTripDelayExpiry]

theorem execSwitchOnCheck_stays (o : Fin 4) (lowMv : Nat) (supplyMv : Nat) (s : State) : s.Stays (execSwitchOnCheck o lowMv supplyMv s) := by
  simp [execSwitchOnCheck]

theorem execDarkTest_stays (o : Fin 4) (readMv : Nat) (supplyMv : Nat) (s : State) : s.Stays (execDarkTest o readMv supplyMv s) := by
  simp [execDarkTest]

theorem execSafetyOutputFault_stays (o : Fin 4) (code : Fin 8) (s : State) : s.Stays (execSafetyOutputFault o code s) := by
  simp [execSafetyOutputFault]

theorem execCanaryIslandFault_stays (check : IslandCheck) (s : State) : s.Stays (execCanaryIslandFault check s) := by simp [execCanaryIslandFault]

theorem execIslandReset_stays (s : State) : s.Stays (execIslandReset s) := by simp [execIslandReset]

theorem execIslandSelfTestDone_stays (s : State) : s.Stays (execIslandSelfTestDone s) := by simp [execIslandSelfTestDone]

theorem execSafetySetVerified_stays (s : State) : s.Stays (execSafetySetVerified s) := by simp [execSafetySetVerified]

theorem execProofTestDue_stays (s : State) : s.Stays (execProofTestDue s) := by simp [execProofTestDue]

theorem execClkIrcFailed_stays (s : State) : s.Stays (execClkIrcFailed s) := by
  simp only [execClkIrcFailed, stays_next]
  split <;> simp

theorem execPllLock_stays (what : ClockLock) (s : State) : s.Stays (execPllLock what s) := by
  simp only [execPllLock, stays_next]
  (repeat' split) <;> simp

theorem execClkMuxHang_stays (hart : Bool) (s : State) : s.Stays (execClkMuxHang hart s) := by simp [execClkMuxHang]

theorem execTrimWindow_stays (count : Nat) (stepped : Bool) (changed : Bool) (s : State) : s.Stays (execTrimWindow count stepped changed s) := by
  simp [execTrimWindow]

theorem execTrimStore_stays (s : State) : s.Stays (execTrimStore s) := by simp [execTrimStore]

theorem execTallyWrite_stays (code : BitVec 16) (params : List (BitVec 32)) (s : State) : s.Stays (execTallyWrite code params s) := by
  simp [execTallyWrite]

theorem execOperatingMinute_stays (s : State) : s.Stays (execOperatingMinute s) := by simp [execOperatingMinute]

theorem execPageTimeout_stays (s : State) : s.Stays (execPageTimeout s) := by simp [execPageTimeout]

theorem execFaceplateRequest_stays (call : RedrawCall) (s : State) : s.Stays (execFaceplateRequest call s) := by simp [execFaceplateRequest]

theorem execUpdateStart_stays (drawn : FaceDrawing) (s : State) : s.Stays (execUpdateStart drawn s) := by
  simp only [execUpdateStart, stays_next]
  (repeat' split) <;> simp

theorem execUpdatePhase_stays (s : State) : s.Stays (execUpdatePhase s) := by simp [execUpdatePhase]

theorem execFirmwareVerified_stays (bank : Fin 2) (s : State) : s.Stays (execFirmwareVerified bank s) := by
  simp only [execFirmwareVerified, stays_next]
  (repeat' split) <;> simp

theorem execRecoveryFrame_stays (offset : BitVec 32) (crc : BitVec 32) (data : List Byte) (s : State) :
    s.Stays (execRecoveryFrame offset crc data s) := by
  simp [execRecoveryFrame]

theorem execRecoveryLoaded_stays (s : State) : s.Stays (execRecoveryLoaded s) := by simp [execRecoveryLoaded]

theorem execSeamLinkDown_stays (s : State) : s.Stays (execSeamLinkDown s) := by simp [execSeamLinkDown]

theorem execFieldSideRestart_stays (g : Group) (s : State) : s.Stays (execFieldSideRestart g s) := by simp [execFieldSideRestart]

theorem execFenceInRelease_stays (s : State) : s.Stays (execFenceInRelease s) := by simp [execFenceInRelease]

theorem execDramScrubPass_stays (found : DramErrors) (uncorrectable : BitVec 32) (lastFault : Option (BitVec 32)) (s : State) :
    s.Stays (execDramScrubPass found uncorrectable lastFault s) := by
  simp only [execDramScrubPass, stays_next]
  split <;> simp

theorem execDmaResponseError_stays (list : BitVec 16) (desc : BitVec 16) (beat : BitVec 20) (s : State) :
    s.Stays (execDmaResponseError list desc beat s) := by
  unfold execDmaResponseError
  extract_lets o
  rw [stays_next]
  split
  · rename_i id x line l h1 h2
    split
    · rename_i j0 d h3 h4
      extract_lets cont dst lost r taken s0 j s1 s2 e s3 s4
      have h0 : s4.mode = s.mode ∧ s4.keys = s.keys := by
        clear_value lost r taken
        simp [s4, s3, s2, s1, s0]
      clear_value s4
      split
      · simp
      · split <;> simp [h0]
    · simp
  · simp

theorem execClockMonitorTrip_stays (what : ClockTrip) (s : State) : s.Stays (execClockMonitorTrip what s) := by
  unfold execClockMonitorTrip
  rw [stays_next]
  split
  · simp
  · extract_lets s1
    have h1 : s1.mode = s.mode ∧ s1.keys = s.keys := by simp [s1]
    clear_value s1
    split <;> simp [h1]

theorem execActivationStaging_stays (crcFault : Option (Fin 64)) (s : State) : s.Stays (execActivationStaging crcFault s) := by
  unfold execActivationStaging
  rw [stays_next]
  split
  · split
    · simp
    · split
      · extract_lets s1 s2 img s3
        simp [s3, s2, s1]
      · simp
  · simp

theorem execFieldEdgeApply_stays (g : Group) (m : FieldMeasure) (s : State) : s.Stays (execFieldEdgeApply g m s) := by
  unfold execFieldEdgeApply
  extract_lets c fs s0 s1 x s2 gs s3
  rw [stays_next]
  split
  · simp
  · have h1 : s1.mode = s.mode ∧ s1.keys = s.keys := by
      dsimp only [s1]
      cases g <;> simp [s0]
    have h2 : s2.mode = s.mode ∧ s2.keys = s.keys := by simp [s2, h1]
    clear_value s2
    split
    · exact h2
    · have h3 : s3.mode = s.mode ∧ s3.keys = s.keys := by simp [s3, h2]
      clear_value s3
      (repeat' split) <;> simp [h3]

theorem execIrcJudgementWindow_stays (count : Nat) (s : State) : s.Stays (execIrcJudgementWindow count s) := by
  unfold execIrcJudgementWindow
  rw [stays_next]
  split
  · simp
  · extract_lets cs s1 s2 s3
    have h1 : s1.mode = s.mode ∧ s1.keys = s.keys := ⟨rfl, rfl⟩
    clear_value s1
    have h2 : s2.mode = s.mode ∧ s2.keys = s.keys := by simp [s2, h1]
    have h3 : s3.mode = s.mode ∧ s3.keys = s.keys := by simp [s3, h1]
    (repeat' split) <;> simp [h1, h2, h3]

/-! ### The PTP messages whose handler reads the port's open exchange -/

theorem execFollowUp_stays (p : NetPort) (m : PtpMsg) (s : State) : s.Stays (execFollowUp p m s) := by
  unfold execFollowUp
  exact (stays_next ..).2 (State.ptpTake_mode_keys _ _ _ _ fun u => by (repeat' split) <;> simp)

theorem execDelayResp_stays (p : NetPort) (m : PtpMsg) (s : State) : s.Stays (execDelayResp p m s) := by
  unfold execDelayResp
  exact (stays_next ..).2 (State.ptpTake_mode_keys _ _ _ _ fun u => by dsimp only; (repeat' split) <;> simp)

theorem execPdelayResp_stays (p : NetPort) (m : PtpMsg) (s : State) : s.Stays (execPdelayResp p m s) := by
  unfold execPdelayResp
  exact (stays_next ..).2 (State.ptpTake_mode_keys _ _ _ _ fun u => by dsimp only; (repeat' split) <;> simp)

theorem execPdelayRespFollowUp_stays (p : NetPort) (m : PtpMsg) (s : State) : s.Stays (execPdelayRespFollowUp p m s) := by
  unfold execPdelayRespFollowUp
  exact (stays_next ..).2 (State.ptpTake_mode_keys _ _ _ _ fun u => by dsimp only; (repeat' split) <;> simp)

/-! ### Lane instructions -/

theorem stays_compute (s : State) (l : Fin 4) (srcs : List (Fin 512)) (issue lat : Nat) (d : Fin 512) (f : Lane → Word64) :
    s.Stays (.next (s.compute l srcs issue lat d f)) :=
  (stays_next ..).2 (State.compute_mode_keys ..)

theorem stays_laneLoad (s : State) (l : Fin 4) (d a : Fin 512) (imm : BitVec 38) (size : Nat) : s.Stays (.next (s.laneLoad l d a imm size)) :=
  (stays_next ..).2 (State.laneLoad_mode_keys ..)

theorem stays_laneStore (s : State) (l : Fin 4) (d a : Fin 512) (imm : BitVec 38) (size : Nat) : s.Stays (.next (s.laneStore l d a imm size)) :=
  (stays_next ..).2 (State.laneStore_mode_keys ..)

/-- An instruction that only moves its lane where the lane is active. -/
theorem stays_lane (s : State) (c : Prop) [Decidable c] (l : Fin 4) (x : Lane) : s.Stays (.next (if c then s.setLane l x else s)) := by
  simp

theorem execLaneEnd_stays (l : Fin 4) (s : State) : s.Stays (execLaneEnd l s) := by
  unfold execLaneEnd
  extract_lets x y s1 k n s2
  have h2 : s2.mode = s.mode ∧ s2.keys = s.keys := by simp [s2, s1]
  clear_value s2
  simp [h2]

theorem execLaneCommit_stays (l : Fin 4) (cls : CClass) (s : State) : s.Stays (execLaneCommit l cls s) := by simp [execLaneCommit]

theorem execLaneShut_stays (l : Fin 4) (a : Fin 512) (unit : Fin 16) (tag : Fin 32) (count : BitVec 28) (s : State) :
    s.Stays (execLaneShut l a unit tag count s) := by
  unfold execLaneShut
  extract_lets x start u n s1
  rw [stays_next]
  split
  · split <;> simp [s1]
  · simp

theorem execLaneTrom_stays (l : Fin 4) (a : Fin 512) (tag : Fin 32) (count : BitVec 28) (s : State) :
    s.Stays (execLaneTrom l a tag count s) := by
  unfold execLaneTrom
  extract_lets x start n s1
  rw [stays_next]
  split
  · split <;> simp [s1]
  · simp

theorem execLaneDmai_stays (l : Fin 4) (tag : Fin 32) (list : BitVec 28) (s : State) : s.Stays (execLaneDmai l tag list s) := by
  unfold execLaneDmai
  extract_lets x y s1
  have h1 : s1.mode = s.mode ∧ s1.keys = s.keys := by simp [s1]
  clear_value s1
  rw [stays_next]
  (repeat' split) <;> simp [h1]

theorem execIslandScan_stays (currents : List (BitVec 16)) (s : State) : s.Stays (execIslandScan currents s) := by
  unfold execIslandScan
  extract_lets x outs y
  clear_value y
  rw [stays_next]
  (repeat' split) <;> simp

theorem execTpFrame_stays (inputs readback : List (BitVec 400)) (s : State) : s.Stays (execTpFrame inputs readback s) := by
  unfold execTpFrame
  extract_lets x bad x1 b judge x2 n s1
  have h1 : s1.mode = s.mode ∧ s1.keys = s.keys := by simp [s1]
  clear_value s1 n
  rw [stays_next]
  split
  · exact ⟨rfl, rfl⟩
  · split <;> simp [h1]

end Sys2Proof.Machine

end

section

namespace Sys2Proof.Machine

/-! ### Every command and every step -/

theorem execSeamUp_moves (s : State) : s.Moves (execSeamUp s) := by
  unfold execSeamUp
  extract_lets p s1 s2
  refine moves_next (.of_eq ?_)
  have h1 : s1.mode = s.mode := by simp [s1]
  have h2 : s2.mode = s.mode := by simp [s2, h1]
  clear_value s1 s2
  (repeat' split) <;> simp [h1, h2]

theorem exec_moves (i : Instr) (s : State) : s.Moves (exec i s) := by
  cases i with
  | logicSupplyRise => exact execLogicSupplyRise_moves ..
  | logicSupplyLoss | watchdogExpiry => exact moves_assertHold ..
  | feedLoss => exact (execFeedLoss_stays ..).moves
  | resetPinAssert => exact execResetPinAssert_moves ..
  | resetPinRelease => exact (execResetPinRelease_stays ..).moves
  | debugReset => exact execDebugReset_moves ..
  | sourceTakesHold => exact execSourceTakesHold_moves ..
  | internalSourceRelease => exact (execInternalSourceRelease_stays ..).moves
  | episodeClose => exact (execEpisodeClose_stays ..).moves
  | bootComplete => exact execBootComplete_moves ..
  | holdEntered => exact execHoldEntered_moves ..
  | overtemp => exact execOvertemp_moves ..
  | wake => exact execWake_moves ..
  | load | unload | start | stop | handover | layup | profileWrite | resetRequest | restoreCommand | resetCauseClear | objectWrite | write
  | testModeWrite | activateBankWrite | activateCancelWrite | reStepPermitWrite | timeSetWrite | recoverWrite | detectStart | detectStop
  | hartRequestWrite | safetySetConfirmWrite | tallySelectWrite | faceplatePageWrite | revokeKeyWrite | conduitKeyWrite | seamKeyWrite
  | commitSecurityVersionWrite | debugLockWrite =>
    exact moves_writeRequest ..
  | automaticStart => exact (execAutomaticStart_stays ..).moves
  | startBoundary => exact execStartBoundary_moves ..
  | stopBoundary => exact execStopBoundary_moves ..
  | handoverBoundary => exact execHandoverBoundary_moves ..
  | profileChange => exact (execProfileChange_stays ..).moves
  | restoreDone => exact (execRestoreDone_stays ..).moves
  | clpPacketReceive => exact execClpPacketReceive_moves ..
  | identify => exact (execIdentify_stays ..).moves
  | read => exact (execRead_stays ..).moves
  | readMulti => exact (execReadMulti_stays ..).moves
  | writeMulti => exact execWriteMulti_moves ..
  | domainWriteBegin => exact (execDomainWriteBegin_stays ..).moves
  | domainWriteSegment => exact (execDomainWriteSegment_stays ..).moves
  | domainWriteEnd => exact (execDomainWriteEnd_stays ..).moves
  | domainReadBegin => exact (execDomainReadBegin_stays ..).moves
  | domainReadSegment => exact (execDomainReadSegment_stays ..).moves
  | domainAbort => exact (execDomainAbort_stays ..).moves
  | domainStatus => exact (execDomainStatus_stays ..).moves
  | transferExpiry => exact (execTransferExpiry_stays ..).moves
  | sequenceRecordExpiry => exact (execSequenceRecordExpiry_stays ..).moves
  | pd => exact (execPd_stays ..).moves
  | pdTransmit => exact (execPdTransmit_stays ..).moves
  | subscribe => exact (execSubscribe_stays ..).moves
  | unsubscribe => exact (execUnsubscribe_stays ..).moves
  | event => exact (execEvent_stays ..).moves
  | eventResend => exact (execEventResend_stays ..).moves
  | eventAck => exact (execEventAck_stays ..).moves
  | subscriptionLapse => exact (execSubscriptionLapse_stays ..).moves
  | reset => exact execReset_moves ..
  | arpRequest => exact (execArpRequest_stays ..).moves
  | arpRefresh => exact (execArpRefresh_stays ..).moves
  | icmpEcho => exact (execIcmpEcho_stays ..).moves
  | igmpQuery => exact (execIgmpQuery_stays ..).moves
  | portLinkUp => exact (execPortLinkUp_stays ..).moves
  | pathLost => exact (execPathLost_stays ..).moves
  | pathRestored => exact (execPathRestored_stays ..).moves
  | prpSupervision => exact (execPrpSupervision_stays ..).moves
  | tickEdge => exact execTickEdge_moves ..
  | sourceStale => exact (execSourceStale_stays ..).moves
  | shelveExpiry => exact (execShelveExpiry_stays ..).moves
  | gapWeft => exact (execGapWeft_stays ..).moves
  | executionStart => exact (execExecutionStart_stays ..).moves
  | laneNop | laneWeft | laneConstl | laneConsth | laneMov | laneAddi | laneExt | laneIns | laneAdd32 | laneSub32 | laneMul32 | laneDivs32
  | laneDivu32 | laneAdd64 | laneSub64 | laneMul64 | laneDivs64 | laneDivu64 | laneAnd | laneOr | laneXor | laneNot | laneShl | laneShr
  | laneSar | laneMins | laneMaxs | laneSx8 | laneSx16 | laneSx32 | laneCeq | laneCne | laneClts | laneCltu | laneCles | laneCleu
  | laneFceq32 | laneFclt32 | laneFcle32 | laneFcun32 | laneFceq64 | laneFclt64 | laneFcle64 | laneFcun64 | laneSel | laneBsel | laneFadd32
  | laneFsub32 | laneFmul32 | laneFdiv32 | laneFsqrt32 | laneFmin32 | laneFmax32 | laneFabs32 | laneFneg32 | laneCvtf32i32 | laneCvti32f32
  | laneCvtf64f32 | laneCvtf32f64 | laneFadd64 | laneFsub64 | laneFmul64 | laneFdiv64 | laneFsqrt64 | laneFmin64 | laneFmax64 | laneFabs64
  | laneFneg64 | laneCvtf64i64 | laneCvti64f64 | laneScl32 | laneClamp32 | laneFilt32 | laneRamp32 | laneLdp =>
    exact (stays_compute ..).moves
  | laneEnd => exact (execLaneEnd_stays ..).moves
  | laneWait | laneLdw | laneStw | laneStp => exact (stays_lane ..).moves
  | waitRelease => exact (execWaitRelease_stays ..).moves
  | laneCommit => exact (execLaneCommit_stays ..).moves
  | laneShut => exact (execLaneShut_stays ..).moves
  | laneTrom => exact (execLaneTrom_stays ..).moves
  | laneDmai => exact (execLaneDmai_stays ..).moves
  | laneLd8 | laneLd16 | laneLd32 | laneLd64 => exact (stays_laneLoad ..).moves
  | laneSt8 | laneSt16 | laneSt32 | laneSt64 => exact (stays_laneStore ..).moves
  | loopEvaluation => exact (execLoopEvaluation_stays ..).moves
  | loopLost => exact (execLoopLost_stays ..).moves
  | loopFrozen => exact (execLoopFrozen_stays ..).moves
  | testComplete => exact (execTestComplete_stays ..).moves
  | pointScreen => exact (execPointScreen_stays ..).moves
  | alarmDelayExpiry => exact (execAlarmDelayExpiry_stays ..).moves
  | dmaListStart => exact (execDmaListStart_stays ..).moves
  | dmaListComplete => exact (execDmaListComplete_stays ..).moves
  | dmaResponseError => exact (execDmaResponseError_stays ..).moves
  | deviceRequest => exact (execDeviceRequest_stays ..).moves
  | lockstepMismatch => exact (execLockstepMismatch_stays ..).moves
  | reExecution => exact (execReExecution_stays ..).moves
  | outputStaging => exact (execOutputStaging_stays ..).moves
  | barrierFrameSend => exact (execBarrierFrameSend_stays ..).moves
  | barrierFrameReceive => exact (execBarrierFrameReceive_stays ..).moves
  | fieldEdgeApply => exact (execFieldEdgeApply_stays ..).moves
  | silenceTimeout => exact (execSilenceTimeout_stays ..).moves
  | guard => exact (execGuard_stays ..).moves
  | canaryTickCheck => exact (execCanaryTickCheck_stays ..).moves
  | seamGuardCheck => exact execSeamGuardCheck_moves ..
  | seamDecision => exact execSeamDecision_moves ..
  | takeover => exact execTakeover_moves ..
  | aoHoldEnd => exact (execAoHoldEnd_stays ..).moves
  | fenceIn => exact (execFenceIn_stays ..).moves
  | partnerPresentChange => exact (execPartnerPresentChange_stays ..).moves
  | presenceFrameSend => exact (execPresenceFrameSend_stays ..).moves
  | presenceFrameReceive => exact execPresenceFrameReceive_moves ..
  | seamUp => exact execSeamUp_moves ..
  | seamRetrain => exact (execSeamRetrain_stays ..).moves
  | hello => exact execHello_moves ..
  | weftFrame => exact (execWeftFrame_stays ..).moves
  | stateFrame => exact (execStateFrame_stays ..).moves
  | closeFrameReceive => exact (execCloseFrameReceive_stays ..).moves
  | dictFrame => exact (execDictFrame_stays ..).moves
  | bankFrame => exact (execBankFrame_stays ..).moves
  | resyncFrame => exact (execResyncFrame_stays ..).moves
  | persistFrame => exact (execPersistFrame_stays ..).moves
  | ackFrame => exact (execAckFrame_stays ..).moves
  | activationStaging => exact (execActivationStaging_stays ..).moves
  | activationDecision => exact (execActivationDecision_stays ..).moves
  | activation => exact execActivation_moves ..
  | activationRestart => exact execActivationRestart_moves ..
  | warpVerified => exact execWarpVerified_moves ..
  | sync => exact (execSync_stays ..).moves
  | followUp => exact (execFollowUp_stays ..).moves
  | delayResp => exact (execDelayResp_stays ..).moves
  | pdelayReq => exact (execPdelayReq_stays ..).moves
  | pdelayResp => exact (execPdelayResp_stays ..).moves
  | pdelayRespFollowUp => exact (execPdelayRespFollowUp_stays ..).moves
  | announce => exact (execAnnounce_stays ..).moves
  | announceTimeout => exact (execAnnounceTimeout_stays ..).moves
  | ptpTransmit => exact (execPtpTransmit_stays ..).moves
  | delayReq => exact (execDelayReq_stays ..).moves
  | holdoverEntry => exact (execHoldoverEntry_stays ..).moves
  | timePortSwitch => exact (execTimePortSwitch_stays ..).moves
  | timeStepped => exact (execTimeStepped_stays ..).moves
  | rtcUpdate => exact (execRtcUpdate_stays ..).moves
  | ppsInEdge => exact (execPpsInEdge_stays ..).moves
  | ppsOutEnd => exact (execPpsOutEnd_stays ..).moves
  | canFrameReceive => exact (execCanFrameReceive_stays ..).moves
  | canFrameTransmitted => exact (execCanFrameTransmitted_stays ..).moves
  | canBusOff => exact (execCanBusOff_stays ..).moves
  | canBusOn => exact (execCanBusOn_stays ..).moves
  | canRxBufferRead => exact (execCanRxBufferRead_stays ..).moves
  | lockExpiry => exact (execLockExpiry_stays ..).moves
  | detectTimeout => exact (execDetectTimeout_stays ..).moves
  | canWake => exact execCanWake_moves ..
  | diBandChange => exact (execDiBandChange_stays ..).moves
  | outputOverload => exact (execOutputOverload_stays ..).moves
  | overloadRetry => exact (execOverloadRetry_stays ..).moves
  | fieldSupplyWarning => exact (execFieldSupplyWarning_stays ..).moves
  | fieldSupplyTrip => exact (execFieldSupplyTrip_stays ..).moves
  | supplyRestoring => exact (execSupplyRestoring_stays ..).moves
  | fieldSupplyRestored => exact (execFieldSupplyRestored_stays ..).moves
  | fieldSideStop => exact (execFieldSideStop_stays ..).moves
  | aoCompliance => exact (execAoCompliance_stays ..).moves
  | aoOpen => exact (execAoOpen_stays ..).moves
  | aoRestored => exact (execAoRestored_stays ..).moves
  | aoThermal => exact (execAoThermal_stays ..).moves
  | aoThermalClear => exact (execAoThermalClear_stays ..).moves
  | analogEnvelope => exact (execAnalogEnvelope_stays ..).moves
  | hartSearch => exact (execHartSearch_stays ..).moves
  | hartPoll => exact (execHartPoll_stays ..).moves
  | hartResponse => exact (execHartResponse_stays ..).moves
  | hartTransactionFailure => exact (execHartTransactionFailure_stays ..).moves
  | islandScan => exact (execIslandScan_stays ..).moves
  | tpFrame => exact (execTpFrame_stays ..).moves
  | inputFilterExpiry => exact (execInputFilterExpiry_stays ..).moves
  | discrepancy => exact (execDiscrepancy_stays ..).moves
  | onDelayExpiry => exact (execOnDelayExpiry_stays ..).moves
  | tripDelayExpiry => exact (execTripDelayExpiry_stays ..).moves
  | switchOnCheck => exact (execSwitchOnCheck_stays ..).moves
  | darkTest => exact (execDarkTest_stays ..).moves
  | safetyOutputFault => exact (execSafetyOutputFault_stays ..).moves
  | canaryIslandFault => exact (execCanaryIslandFault_stays ..).moves
  | islandReset => exact (execIslandReset_stays ..).moves
  | islandSelfTestDone => exact (execIslandSelfTestDone_stays ..).moves
  | safetySetVerified => exact (execSafetySetVerified_stays ..).moves
  | proofTestDue => exact (execProofTestDue_stays ..).moves
  | clockMonitorTrip => exact (execClockMonitorTrip_stays ..).moves
  | clkIrcFailed => exact (execClkIrcFailed_stays ..).moves
  | ircJudgementWindow => exact (execIrcJudgementWindow_stays ..).moves
  | pllLock => exact (execPllLock_stays ..).moves
  | clkMuxHang => exact (execClkMuxHang_stays ..).moves
  | trimWindow => exact (execTrimWindow_stays ..).moves
  | trimStore => exact (execTrimStore_stays ..).moves
  | scrubPass => exact execScrubPass_moves ..
  | tallyWrite => exact (execTallyWrite_stays ..).moves
  | operatingMinute => exact (execOperatingMinute_stays ..).moves
  | pageTimeout => exact (execPageTimeout_stays ..).moves
  | faceplateRequest => exact (execFaceplateRequest_stays ..).moves
  | updateStart => exact (execUpdateStart_stays ..).moves
  | updatePhase => exact (execUpdatePhase_stays ..).moves
  | warpKeyWrite | safetySetKeyWrite => exact moves_fusedKeyWrite ..
  | firmwareVerified => exact (execFirmwareVerified_stays ..).moves
  | recoveryFrame => exact (execRecoveryFrame_stays ..).moves
  | recoveryLoaded => exact (execRecoveryLoaded_stays ..).moves
  | seamLinkDown => exact (execSeamLinkDown_stays ..).moves
  | fieldSideRestart => exact (execFieldSideRestart_stays ..).moves
  | fenceInRelease => exact (execFenceInRelease_stays ..).moves
  | dramScrubPass => exact (execDramScrubPass_stays ..).moves

theorem step_moves {s t : State} (h : step s = .next t) : Lifecycle s.mode t.mode := by
  unfold step at h
  split at h
  · cases h
    exact .of_eq rfl
  · rename_i c rest _
    obtain ⟨u, hu, hl⟩ := exec_moves c { s with pending := rest }
    rw [hu] at h
    cases h
    exact hl

end Sys2Proof.Machine

end

section

open Sys2Proof Sys2Proof.Machine

/-- Settles O6: what each command does to the lifecycle state (`exec_moves`), command by command. -/
theorem lifecycleFollowsTheTable : Obligations.LifecycleFollowsTheTable := by
  intro s t h hne
  obtain e | e | e | e := step_moves h
  · exact absurd e hne
  · exact .inl e
  · exact .inr (.inl e)
  · exact .inr (.inr e)

end

section

namespace Sys2Proof.Machine

/-! ### What a request moves whatever it asks (Table 3-4) -/

section

variable {s t u : State} {os : List Nat}

theorem State.RequestOnly.refl (s : State) (os : List Nat) : s.RequestOnly s os := ⟨fun _ _ => rfl, rfl, rfl, rfl, rfl⟩

theorem State.RequestOnly.trans (h : s.RequestOnly t os) (k : t.RequestOnly u os) : s.RequestOnly u os := by
  refine ⟨fun a ha => (k.objects a ha).trans (h.objects a ha), ?_, ?_, ?_, ?_⟩
  · rw [k.clp, h.clp]
  · rw [k.pair, h.pair]
  · rw [k.prp, h.prp]
  · rw [k.rest, h.rest]

/-- What holds field by field of two states that differ as `RequestOnly` says. -/
theorem State.RequestOnly.fields (h : s.RequestOnly t os) :
    t.mode = s.mode ∧ t.command = s.command ∧ t.keys = s.keys ∧ t.warp = s.warp ∧ t.rst = s.rst := by
  rw [h.rest]; exact ⟨rfl, rfl, rfl, rfl, rfl⟩

theorem State.RequestOnly.num (h : s.RequestOnly t os) {a : Nat} (ha : a ∉ os ++ requestObjects) : t.num a = s.num a := by
  unfold State.num; rw [h.objects a ha]

end

/-- A counter of `requestObjects` moves with its overflow bit and the tally of an overflow. -/
theorem requestOnly_count (s : State) {a : Nat} (n : Nat) (os : List Nat) (ha : a ∈ requestObjects) (ho : overflowAddr a ∈ requestObjects) :
    s.RequestOnly (s.count a n) os := by
  have hr := count_rest s a n
  refine ⟨fun q hq => ?_, by rw [hr], by rw [hr], by rw [hr], by rw [hr]⟩
  simp only [List.mem_append, not_or] at hq
  refine count_obj s n (fun e => hq.2 (e ▸ ha)) (fun e => hq.2 (e ▸ ho)) fun hm => hq.2 ?_
  unfold requestObjects
  exact List.mem_append_right _ hm

theorem State.RequestOnly.count {s t : State} {os : List Nat} (h : s.RequestOnly t os) {a : Nat} (n : Nat) (ha : a ∈ requestObjects)
    (ho : overflowAddr a ∈ requestObjects) : s.RequestOnly (t.count a n) os := h.trans (requestOnly_count t n os ha ho)

theorem requestOnly_logDraft (s : State) (d : TallyDraft) (os : List Nat) : s.RequestOnly (s.logDraft d) os := by
  have hr := logDraft_rest s d
  refine ⟨fun q hq => logDraft_obj s d fun hm => hq ?_, by rw [hr], by rw [hr], by rw [hr], by rw [hr]⟩
  unfold requestObjects
  exact List.mem_append_right _ (List.mem_append_right _ hm)

theorem requestOnly_setNum (s : State) {a : Nat} (v : Nat) {os : List Nat} (ha : a ∈ os) : s.RequestOnly (s.setNum a v) os :=
  ⟨fun _ hq => obj_setNum_ne _ _ fun e => hq (e ▸ List.mem_append_left _ ha), rfl, rfl, rfl, rfl⟩

theorem requestOnly_sendOn (s : State) {k : Nat} (hk : k = 0 ∨ k = 1) (kind : SentKind) (peer seq : Nat) (head : NetHead) (data : Bytes)
    (os : List Nat) : s.RequestOnly (s.sendOn k kind peer seq head data) os := by
  unfold State.sendOn
  split
  · exact .refl ..
  · have ho : Obj.txFrames k ∈ requestObjects ∧ overflowAddr (Obj.txFrames k) ∈ requestObjects := by rcases hk with rfl | rfl <;> decide
    refine .count ?_ 1 ho.1 ho.2
    exact ⟨fun _ _ => rfl, rfl, rfl, rfl, rfl⟩

theorem requestOnly_prpSend (s : State) (kind : SentKind) (peer : Nat) (station : Bool) (head : NetHead) (data : Bytes) (os : List Nat) :
    s.RequestOnly (s.prpSend kind peer station head data) os := by
  have hs : ∀ (u : State) (k seq : Nat), k = 0 ∨ k = 1 →
      u.RequestOnly (if u.portCarries kind k then u.sendOn k kind peer seq head data else u) os := fun u k seq hk => by
    split
    · exact requestOnly_sendOn u hk ..
    · exact .refl ..
  unfold State.prpSend State.takePrpSeq
  split
  rename_i seq s1 h1
  have h1 : s.RequestOnly s1 os := by
    split at h1 <;> cases h1 <;> exact ⟨fun _ _ => rfl, rfl, rfl, rfl, rfl⟩
  exact (h1.trans (hs s1 0 seq (.inl rfl))).trans (hs _ 1 seq (.inr rfl))

theorem requestOnly_sendTo (s : State) (r : Req) (b : Bytes) (os : List Nat) : s.RequestOnly (s.sendTo r b) os := by
  unfold State.sendTo
  split
  · exact ⟨fun _ _ => rfl, rfl, rfl, rfl, rfl⟩
  · exact requestOnly_prpSend ..

theorem requestOnly_respond (s : State) (key : Option Bytes) (r : Req) (command : Nat) (x : Reply) (os : List Nat) :
    s.RequestOnly (s.respond key r command x).1 os := by
  unfold State.respond
  extract_lets auth source b s1
  have h1 : s.RequestOnly s1 os := by
    dsimp only [s1]
    split
    · exact requestOnly_count _ 1 os (by decide) (by decide)
    · exact .refl ..
  have h2 : s1.RequestOnly s1.countPacket os := ⟨fun _ _ => rfl, rfl, rfl, rfl, rfl⟩
  exact (h1.trans h2).trans (requestOnly_sendTo ..)

theorem requestOnly_remember (s : State) (r : Req) (b : Bytes) (os : List Nat) : s.RequestOnly (s.remember r b) os :=
  ⟨fun _ _ => rfl, rfl, rfl, rfl, rfl⟩

theorem requestOnly_audit (s : State) (r : Req) (a type : Nat) (v : Bytes) (os : List Nat) : s.RequestOnly (s.audit r a type v) os :=
  (requestOnly_logDraft ..).trans (requestOnly_count _ 1 os (by decide) (by decide))

/-! ### The response -/

theorem clpHeader_length (command flags seq source dest status length key bootId nonce : Nat) :
    (clpHeader command flags seq source dest status length key bootId nonce).length = 32 := by
  simp [clpHeader, leBytes_length]

theorem clpHeader_seq (command flags seq source dest status length key bootId nonce : Nat) :
    u16At (clpHeader command flags seq source dest status length key bootId nonce) 8 = seq % 65536 := by
  have h := leNat_leBytes 2 seq
  simpa [u16At, slice, clpHeader, leBytes] using h

theorem clpHeader_status (command flags seq source dest status length key bootId nonce : Nat) :
    u16At (clpHeader command flags seq source dest status length key bootId nonce) 14 = status % 65536 := by
  have h := leNat_leBytes 2 status
  simpa [u16At, slice, clpHeader, leBytes] using h

theorem u16At_append {a : Bytes} (b : Bytes) {o : Nat} (h : o + 2 ≤ a.length) : u16At (a ++ b) o = u16At a o := by
  rw [u16At, u16At, slice, slice, List.drop_append_of_le_length (by omega), List.take_append_of_le_length (by rw [List.length_drop]; omega)]

/-- A sealed packet starts with its header. -/
theorem u16At_sealPacket (key : Option Bytes) {h : Bytes} (payload : Bytes) {o : Nat} (ho : o + 2 ≤ h.length) :
    u16At (sealPacket key h payload) o = u16At h o := by
  unfold sealPacket
  split
  · rw [u16At_append _ ho]
  · dsimp only
    split <;> rw [List.append_assoc, u16At_append _ ho]

theorem respond_bytes (s : State) (key : Option Bytes) (r : Req) (command : Nat) (x : Reply) (hx : x.status < 65536) :
    u16At (s.respond key r command x).2 8 = r.seq % 65536 ∧ u16At (s.respond key r command x).2 14 = x.status := by
  unfold State.respond State.packet
  dsimp only
  split
  all_goals
    rw [u16At_sealPacket _ _ (by rw [clpHeader_length]; decide), u16At_sealPacket _ _ (by rw [clpHeader_length]; decide), clpHeader_seq,
      clpHeader_status, Nat.mod_eq_of_lt hx]
    exact ⟨rfl, rfl⟩

theorem seqRecord_remember (s : State) (r : Req) (b : Bytes) :
    ∃ cache, (s.remember r b).seqRecord (Req.node r) = some ⟨Req.node r, r.seq, (r.seq, b) :: cache⟩ ∧ cache.length ≤ 15 := by
  unfold State.remember
  extract_lets old s1
  have hs : s1.clp.seqs.find? (fun x => decide (x.source = Req.node r)) = none := by
    refine List.find?_eq_none.2 fun x hx => ?_
    simpa using (List.mem_filter.1 hx).2
  refine ⟨old.take 15, ?_, by simp⟩
  simp [State.seqRecord, hs]

/-! ### A request executed -/

/-- The response to a request executed, and its place in the sequence record (R73, R74). -/
def State.answered (s : State) (key : Option Bytes) (r : Req) (command : Nat) (x : Reply) : State :=
  (s.respond key r command x).1.remember r (s.respond key r command x).2

theorem requestOnly_answered (s : State) (key : Option Bytes) (r : Req) (command : Nat) (x : Reply) (os : List Nat) :
    s.RequestOnly (s.answered key r command x) os := (requestOnly_respond ..).trans (requestOnly_remember ..)

theorem answered_answers (s : State) (key : Option Bytes) (r : Req) (command : Nat) (x : Reply) (hx : x.status < 65536) :
    (s.answered key r command x).Answers r x.status := by
  obtain ⟨cache, hc, hl⟩ := seqRecord_remember (s.respond key r command x).1 r (s.respond key r command x).2
  obtain ⟨h1, h2⟩ := respond_bytes s key r command x hx
  exact ⟨_, cache, hc, hl, h1, h2⟩

/-- A request that the station executes runs on the state with its execution counted, and is answered. -/
theorem request_eq {s : State} {r : Req} (h : s.Executes r) (command : Nat) (act : State → State × Reply) :
    s.request r command act = (act (s.count Obj.requestsExecuted)).1.answered (r.auth.bind s.conduitKey) r command
      (act (s.count Obj.requestsExecuted)).2 := by
  obtain ⟨hs, hf⟩ := h
  unfold State.request State.attempt
  rw [if_pos hs, hf]
  rfl

end Sys2Proof.Machine

end

section

namespace Sys2Proof.Machine

/-! ### Writes refused, and writes accepted (Table 2-3) -/

theorem writeOne_refused {s : State} {r : Req} {a : Nat} {v : Bytes} (h : s.writeCode r a v ≠ Status.ok) :
    s.writeOne r a v = (s.count Obj.writesRefused, refusal (s.writeCode r a v)) := by
  unfold State.writeOne
  dsimp only
  split
  · rw [if_pos h]
  · rfl

theorem writeOne_accepted {s : State} {r : Req} {a : Nat} {v : Bytes} {o : ObjRow} (ho : s.objRow? a = some o)
    (h : s.writeCode r a v = Status.ok) :
    s.writeOne r a v = ((s.accept r o a v).1, ⟨Status.ok, writeResponse (s.accept r o a v).2⟩) := by
  unfold State.writeOne
  rw [ho]
  dsimp only
  rw [if_neg (by simp [h])]

theorem requestOnly_counted (s : State) (os : List Nat) : s.RequestOnly (s.count Obj.requestsExecuted) os :=
  requestOnly_count _ 1 os (by decide) (by decide)

/-- A refused write counts, and answers with its code. -/
theorem writeRequest_refused {s : State} {r : Req} {a : Nat} {v : Bytes} (hx : s.Executes r) {c : Nat}
    (hc : (s.count Obj.requestsExecuted).writeCode r a v = c) (h0 : c ≠ Status.ok) (hlt : c < 65536) :
    (s.writeRequest r a v).Answers r c ∧ s.RequestOnly (s.writeRequest r a v) [] := by
  subst hc
  unfold State.writeRequest
  rw [request_eq hx, writeOne_refused h0]
  exact ⟨answered_answers _ _ _ _ _ hlt, ((requestOnly_counted s []).count 1 (by decide) (by decide)).trans (requestOnly_answered ..)⟩

/-! ### The station command (Table 1-6) -/

def stationCommandRow : ObjRow := ⟨"StationCommand", 0x1001, 1, 1, 0x01, 1, .u8, .wo, false, [], .boundary, true, false, .any⟩

theorem objRow_stationCommand (s : State) : s.objRow? Obj.stationCommand = some stationCommandRow := rfl

theorem leNat_byte (v : Byte) : leNat [v] = v.toNat := by simp [leNat]

/-- Of the checks of Table 2-3, a station command can fail those of the state, the range, the lock and the storage. -/
theorem writeCode_stationCommand (s : State) (r : Req) (v : Byte) :
    s.writeCode r Obj.stationCommand [v] =
      if !s.stateAllows r stationCommandRow Obj.stationCommand [v] then Status.stateConflict
      else if s.rangeCode stationCommandRow Obj.stationCommand [v] ≠ Status.ok then s.rangeCode stationCommandRow Obj.stationCommand [v]
      else if s.lockedFor Obj.stationCommand [v] then Status.busy
      else if s.storeFails r stationCommandRow Obj.stationCommand then Status.storageFault
      else Status.ok := rfl

theorem rangeCode_stationCommand (s : State) (v : Bytes) :
    s.rangeCode stationCommandRow Obj.stationCommand v = Status.range ∨ s.rangeCode stationCommandRow Obj.stationCommand v = Status.ok := by
  unfold State.rangeCode
  split
  · exact .inl rfl
  · exact .inr rfl

theorem ownState_stationCommand (s : State) (r : Req) (v : Byte) : s.ownState r Obj.stationCommand [v] true = s.commandState v.toNat := by
  unfold State.ownState
  dsimp only
  rw [if_pos rfl, leNat_byte]
  rfl

/-- Table 1-6: the codes, and the states that accept them. -/
def commandRows : List (Nat × Mode) :=
  [(1, .service), (2, .ready), (3, .ready), (4, .run), (4, .standby), (5, .run), (6, .service), (6, .ready)]

theorem commandState_rows {s : State} {n : Nat} (h : s.commandState n = true) : (n, s.mode) ∈ commandRows ∧ (n = 5 → s.paired = true) := by
  unfold State.commandState at h
  split at h
  all_goals simp_all [commandRows]
  case h_4 => cases hm : s.mode <;> simp_all [Mode.running]

theorem stationCommand_unaccepted {s : State} (r : Req) {v : Byte} (h : (v.toNat, s.mode) ∉ commandRows ∨ (v.toNat = 5 ∧ s.paired = false)) :
    s.writeCode r Obj.stationCommand [v] = Status.stateConflict := by
  have hc : s.commandState v.toNat = false := by
    by_contra hc
    obtain ⟨hm, hp⟩ := commandState_rows (Bool.not_eq_false _ ▸ hc)
    rcases h with h | ⟨h5, h⟩
    · exact h hm
    · simp [hp h5] at h
  rw [writeCode_stationCommand, if_pos]
  unfold State.stateAllows
  rw [show lengthOk stationCommandRow.type [v] = true from rfl, ownState_stationCommand, hc]
  simp

theorem stationCommand_pending {s : State} (r : Req) {v : Byte} (h : s.command.isSome = true) :
    s.writeCode r Obj.stationCommand [v] ∈ [Status.stateConflict, Status.range, Status.busy] := by
  have hl : s.lockedFor Obj.stationCommand [v] = true := by
    unfold State.lockedFor State.commandPending
    simp [h]
  rw [writeCode_stationCommand]
  split
  · simp
  · rcases rangeCode_stationCommand s [v] with hr | hr
    · rw [hr]; simp
    · rw [hr]; simp

end Sys2Proof.Machine

end

section

open Sys2Proof Sys2Proof.Machine

/-- Settles O13: STATE_CONFLICT comes before every check that a command which Table 1-6 does not accept could fail, and BUSY right after
the range. -/
theorem stationCommandsRefused : Obligations.StationCommandsRefused := by
  intro s r v hx
  have hcount := requestOnly_counted s []
  obtain ⟨hmode, hcmd, -⟩ := hcount.fields
  refine ⟨fun h => ?_, fun h => ?_⟩
  · have hpaired : (s.count Obj.requestsExecuted).paired = s.paired := by
      unfold State.paired State.detail
      rw [hcount.num (by decide)]
    have hc := stationCommand_unaccepted (s := s.count Obj.requestsExecuted) r (v := v) (by rwa [hmode, hpaired])
    obtain ⟨ha, ho⟩ := writeRequest_refused hx hc (by decide) (by decide)
    obtain ⟨hm, hk, -⟩ := ho.fields
    exact ⟨_, rfl, ha, hm, hk, ho⟩
  · have hc := stationCommand_pending (s := s.count Obj.requestsExecuted) r (v := v) (by rwa [hcmd])
    refine ⟨?_, fun hn => ?_⟩
    · intro h0
      rw [h0] at hc
      exact absurd hc (by decide)
    · have hb : (s.count Obj.requestsExecuted).writeCode r Obj.stationCommand [v] = Status.busy := by
        simp only [List.mem_cons, List.not_mem_nil, or_false, not_or] at hc hn
        tauto
      obtain ⟨ha, ho⟩ := writeRequest_refused hx hb (by decide) (by decide)
      exact ⟨hb, _, rfl, ha, ho.fields.2.1, ho⟩

end

section

namespace Sys2Proof.Machine

/-! ### Accepted writes (R46) -/

/-- The state of an accepted write before its effect: audited and counted. -/
def State.granted (s : State) (r : Req) (o : ObjRow) (a : Nat) (v : Bytes) : State :=
  (if o.audit then (s.count Obj.requestsExecuted).audit r a (typeCode o.type) v else s.count Obj.requestsExecuted).count Obj.writesAccepted

theorem requestOnly_granted (s : State) (r : Req) (o : ObjRow) (a : Nat) (v : Bytes) (os : List Nat) :
    s.RequestOnly (s.granted r o a v) os := by
  refine .count ?_ 1 (by decide) (by decide)
  split
  · exact (requestOnly_counted s os).trans (requestOnly_audit ..)
  · exact requestOnly_counted s os

theorem accept_writeOnly (s : State) (r : Req) {o : ObjRow} {a : Nat} (v : Bytes) (hw : o.access = .wo) (he : o.effect ≠ .weft) :
    ((s.count Obj.requestsExecuted).accept r o a v).1 = ((s.granted r o a v).actWriteOnly r a v).forward o a v := by
  unfold State.accept
  dsimp only
  rw [if_neg he, if_pos hw]
  rfl

theorem accept_value (s : State) (r : Req) {o : ObjRow} {a : Nat} (v : Bytes) (hw : o.access ≠ .wo) (he : o.effect ≠ .weft) :
    ((s.count Obj.requestsExecuted).accept r o a v).1 = ((s.granted r o a v).putValue o a v).forward o a v := by
  unfold State.accept
  dsimp only
  rw [if_neg he, if_neg hw]
  rfl

/-- What travels with the wefts goes with the next one of a module in RUN (R166). -/
theorem forward_weft (s : State) (o : ObjRow) {a : Nat} (v : Bytes) (h : inWeftMirror a = true) :
    s.forward o a v = if s.mode = .run then s.carryItem (s.weftItem a) else s := by
  unfold State.forward
  simp [h]

/-- A write of the module's own scope goes to no partner. -/
theorem forward_own (s : State) (o : ObjRow) {a : Nat} (v : Bytes) (h : inWeftMirror a = false) (hs : s.stationScope a = false) :
    s.forward o a v = s := by
  unfold State.forward
  simp [h, hs]

theorem State.RequestOnly.withCommand {s t : State} {os : List Nat} (h : s.RequestOnly t os) (c : Option PendingCommand) :
    { s with command := c }.RequestOnly { t with command := c } os :=
  ⟨h.objects, h.clp, h.pair, h.prp, by rw [h.rest]⟩

end Sys2Proof.Machine

end

section

namespace Sys2Proof.Machine

/-! ### A record stays in the log while few follow it -/

/-- The log `t` carries the log `s` on by at most `k` records, which reach no slot of the records still in reach. -/
structure TallyLog.Grows (s t : TallyLog) (k : Nat) : Prop where
  extend : s.Extends t
  head : t.head ≤ s.head + k
  slots : ∀ n, n ≤ s.head → s.head + k < n + tallySlots → Assoc.get? t.slots (n % tallySlots) = Assoc.get? s.slots (n % tallySlots)

theorem TallyLog.Grows.refl (s : TallyLog) (k : Nat) : s.Grows s k := ⟨TallyLog.extends_refl s, Nat.le_add_right .., fun _ _ _ => rfl⟩

theorem TallyLog.Grows.trans {a b c : TallyLog} {j k : Nat} (h : a.Grows b j) (g : b.Grows c k) : a.Grows c (j + k) :=
  ⟨TallyLog.extends_trans h.extend g.extend, by have := h.head; have := g.head; omega, fun n hn hk => by
    have h1 := h.head
    have h2 := h.extend.head
    rw [g.slots n (by omega) (by omega), h.slots n hn (by omega)]⟩

theorem TallyLog.grows_write (t : TallyLog) (d : TallyDraft) : t.Grows (t.write d) 1 :=
  ⟨TallyLog.extends_write t d, by rw [TallyLog.write_head], fun n hn hk => TallyLog.write_slot_ne t d (by simp only [tallySlots] at *; omega)⟩

theorem logDraft_grows (s : State) (d : TallyDraft) : s.tally.Grows (s.logDraft d).tally 2 := by
  unfold State.logDraft
  split
  · dsimp only
    split
    · rw [bump_tally]
      exact (TallyLog.grows_write _ d).trans (TallyLog.grows_write ..)
    · rw [bump_tally]
      exact (TallyLog.grows_write _ d).trans (.refl _ 1)
  · exact ⟨⟨rfl, Nat.le_refl _, rfl, rfl, [d], rfl⟩, Nat.le_add_right .., fun _ _ _ => rfl⟩

theorem count_grows (s : State) (a n : Nat) : s.tally.Grows (s.count a n).tally 2 := by
  unfold State.count
  dsimp only
  split
  · have h := logDraft_grows (s.bump a n).1 ((s.bump a n).1.draft tCounterOverflow [a])
    rwa [bump_tally] at h
  · rw [bump_tally]
    exact .refl ..

theorem count_grows_of {s u : State} (a n : Nat) (h : s.tally = u.tally) : s.tally.Grows (u.count a n).tally 2 := h ▸ count_grows u a n

/-- A record formed and logged stands in the log of a later state that fewer records than the log has slots separate from it. -/
theorem wrote_of_grows {s t u : State} {c k : Nat} {p : List Nat} (hs : s.tally.Extends u.tally)
    (ht : (State.logTally u c p).tally.Grows t.tally k) (hk : k + 2 ≤ tallySlots)
    (hn : t.num Obj.moduleNode = u.num Obj.moduleNode) (htime : t.timeNs = u.timeNs) : s.Wrote t c p := by
  have hnode : (u.logTally c p).num Obj.moduleNode = u.num Obj.moduleNode := logTally_num u c p (by decide)
  have hns : (u.logTally c p).timeNs = u.timeNs := by rw [logTally_rest]
  have hgrow : u.tally.Grows (u.logTally c p).tally 2 := logDraft_grows u _
  obtain ⟨d, hc, hp, hsrc, hd, hw⟩ := wrote_logTally (s := u) (TallyLog.extends_refl _) rfl hnode hns
  refine ⟨d, hc, hp, by rw [hsrc, hnode, hn], by rw [hd, hns, htime], ?_⟩
  rw [← hs.known, ← hs.minutes, ← hs.cycles]
  split at hw
  · rename_i hk
    rw [if_pos hk]
    obtain ⟨n, hlt, hle, hget⟩ := hw
    have h1 := hs.head
    have h2 := hgrow.head
    have h3 := ht.extend.head
    exact ⟨n, by omega, by omega, by rw [ht.slots n hle (by omega), hget]⟩
  · rename_i hk
    rw [if_neg hk]
    obtain ⟨i, hi, hget⟩ := hw
    obtain ⟨more, hmore⟩ := hs.waiting
    obtain ⟨rest, hrest⟩ := ht.extend.waiting
    refine ⟨i, ?_, ?_⟩
    · rw [hmore] at hi
      exact le_trans (by simp) hi
    · rw [hrest]
      exact List.getElem?_append_left (List.getElem?_eq_some_iff.1 hget).1 ▸ hget

/-! ### The records of a response -/

theorem sendOn_grows (s : State) (k : Nat) (kind : SentKind) (peer seq : Nat) (head : NetHead) (data : Bytes) :
    s.tally.Grows (s.sendOn k kind peer seq head data).tally 2 := by
  unfold State.sendOn
  split
  · exact .refl ..
  · exact count_grows_of _ _ rfl

theorem prpSend_grows (s : State) (kind : SentKind) (peer : Nat) (station : Bool) (head : NetHead) (data : Bytes) :
    s.tally.Grows (s.prpSend kind peer station head data).tally 4 := by
  have hs : ∀ (u : State) (k seq : Nat),
      u.tally.Grows (if u.portCarries kind k then u.sendOn k kind peer seq head data else u).tally 2 := fun u k seq => by
    split
    · exact sendOn_grows ..
    · exact .refl ..
  unfold State.prpSend State.takePrpSeq
  split
  rename_i seq s1 h1
  have h1 : s1.tally = s.tally := by split at h1 <;> cases h1 <;> rfl
  rw [← h1]
  exact (hs s1 0 seq).trans (hs _ 1 seq)

theorem answered_grows (s : State) (key : Option Bytes) (r : Req) (command : Nat) (x : Reply) :
    s.tally.Grows (s.answered key r command x).tally 6 := by
  have hsend : ∀ u : State, ∀ b, u.tally.Grows (u.sendTo r b).tally 4 := fun u b => by
    unfold State.sendTo
    split
    · exact .refl ..
    · exact prpSend_grows ..
  have hcount : s.tally.Grows (if x.status = Status.badHeader then s.count Obj.badHeader else s).countPacket.tally 2 := by
    split
    · exact count_grows_of _ _ rfl
    · exact .refl ..
  unfold State.answered State.respond
  exact hcount.trans (hsend _ _)

/-! ### Writes taken -/

/-- A taken write is accepted after its execution is counted, and answered. -/
theorem write_taken {s t : State} {r : Req} {command a : Nat} {v : Bytes} {o : ObjRow} (et : t = s.request r command fun u => u.writeOne r a v)
    (h : s.WriteTaken r a v) (ho : (s.count Obj.requestsExecuted).objRow? a = some o) :
    t.Answers r 0 ∧ (∀ os, ((s.count Obj.requestsExecuted).accept r o a v).1.RequestOnly t os) ∧
      ((s.count Obj.requestsExecuted).accept r o a v).1.tally.Grows t.tally 6 := by
  rw [et, request_eq h.1, writeOne_accepted ho h.2]
  exact ⟨answered_answers _ _ _ _ _ (Nat.zero_lt_succ _), fun os => requestOnly_answered .., answered_grows ..⟩

theorem granted_extends (s : State) (r : Req) (o : ObjRow) (a : Nat) (v : Bytes) : s.tally.Extends (s.granted r o a v).tally := by
  unfold State.granted
  refine TallyLog.extends_trans (TallyLog.extends_trans (count_extends s Obj.requestsExecuted 1) ?_) (count_extends ..)
  split
  · exact TallyLog.extends_trans (logDraft_extends ..) (count_extends ..)
  · exact TallyLog.extends_refl _

/-- What a write to a write-only object does once it is taken: on the state that it has been granted on, its effect, its way to the partner, and
the response. -/
theorem writeOnly_taken {s t : State} {r : Req} {command a : Nat} {v : Bytes} {o : ObjRow}
    (et : t = s.request r command fun u => u.writeOne r a v) (h : s.WriteTaken r a v)
    (ho : (s.count Obj.requestsExecuted).objRow? a = some o) (hw : o.access = .wo) (he : o.effect ≠ .weft) :
    ∃ p, (∀ os, s.RequestOnly p os) ∧ s.tally.Extends p.tally ∧ t.Answers r 0 ∧
      (∀ os, ((p.actWriteOnly r a v).forward o a v).RequestOnly t os) ∧ ((p.actWriteOnly r a v).forward o a v).tally.Grows t.tally 6 := by
  obtain ⟨ha, ht, hg⟩ := write_taken et h ho
  rw [accept_writeOnly s r v hw he] at ht hg
  exact ⟨_, requestOnly_granted s r o a v, granted_extends s r o a v, ha, ht, hg⟩

/-- As `writeOnly_taken`, of an object whose value is kept. -/
theorem value_taken {s t : State} {r : Req} {command a : Nat} {v : Bytes} {o : ObjRow}
    (et : t = s.request r command fun u => u.writeOne r a v) (h : s.WriteTaken r a v)
    (ho : (s.count Obj.requestsExecuted).objRow? a = some o) (hw : o.access ≠ .wo) (he : o.effect ≠ .weft) :
    ∃ p, (∀ os, s.RequestOnly p os) ∧ t.Answers r 0 ∧ ∀ os, ((p.putValue o a v).forward o a v).RequestOnly t os := by
  obtain ⟨ha, ht, -⟩ := write_taken et h ho
  rw [accept_value s r v hw he] at ht
  exact ⟨_, requestOnly_granted s r o a v, ha, ht⟩

/-- A write-only object of the module's own scope: only its effect moves. -/
theorem ownWriteOnly_taken {s t : State} {r : Req} {command a : Nat} {v : Bytes} {o : ObjRow}
    (et : t = s.request r command fun u => u.writeOne r a v) (h : s.WriteTaken r a v) (ho : ∀ u : State, u.objRow? a = some o)
    (hw : o.access = .wo) (he : o.effect ≠ .weft) (hm : inWeftMirror a = false) (hs : ∀ u : State, u.stationScope a = false) :
    ∃ p, (∀ os, s.RequestOnly p os) ∧ s.tally.Extends p.tally ∧ t.Answers r 0 ∧ (∀ os, (p.actWriteOnly r a v).RequestOnly t os) ∧
      (p.actWriteOnly r a v).tally.Grows t.tally 6 := by
  have h := writeOnly_taken et h (ho _) hw he
  simpa only [forward_own _ _ _ hm (hs _)] using h

end Sys2Proof.Machine

end

section

namespace Sys2Proof.Machine

theorem stationCommand_taken {s : State} {r : Req} {n : Nat} (hn : n < 256) (h : s.WriteTaken r Obj.stationCommand [byte n]) :
    ∃ p, (∀ os, s.RequestOnly p os) ∧ (s.commandWrite r n).Answers r 0 ∧
      ∀ os, (if (p.takeCommand n).mode = .run then (p.takeCommand n).carryItem ((p.takeCommand n).weftItem Obj.stationCommand)
        else p.takeCommand n).RequestOnly (s.commandWrite r n) os := by
  obtain ⟨p, hp, -, ha, ht, -⟩ := writeOnly_taken (t := s.commandWrite r n) rfl h (objRow_stationCommand _) rfl (by decide)
  have he : leNat [byte n] = n := by simp [leNat, byte, Nat.mod_eq_of_lt hn]
  have hact : p.actWriteOnly r Obj.stationCommand [byte n] = p.takeCommand n := by
    unfold State.actWriteOnly
    rw [if_pos rfl, he]
  simp only [hact, forward_weft _ _ _ (show inWeftMirror Obj.stationCommand = true from rfl)] at ht
  exact ⟨p, hp, ha, ht⟩

/-- A station command that is taken finds a state of Table 1-6. -/
theorem stationCommand_taken_state {s : State} {r : Req} {n : Nat} (hn : n < 256) (h : s.WriteTaken r Obj.stationCommand [byte n]) :
    (n, s.mode) ∈ commandRows := by
  obtain ⟨-, hc⟩ := h
  have he : (byte n).toNat = n := by simp [byte, Nat.mod_eq_of_lt hn]
  by_contra hm
  have hmode := (requestOnly_counted s []).fields.1
  rw [stationCommand_unaccepted r (.inl (by rwa [he, hmode]))] at hc
  exact absurd hc (by decide)

theorem State.RequestOnly.tick_eq {s t : State} {os : List Nat} (h : s.RequestOnly t os) : t.tick = s.tick := by rw [h.rest]

/-- The next boundary hangs on the module's clock, its part in the pair and what it hears of the partner. -/
theorem nextL_congr {s t : State} (hm : t.mode = s.mode) (hd : t.num Obj.stationStateDetail = s.num Obj.stationStateDetail)
    (hh : t.pair.heard = s.pair.heard)
    (ht : t.time = s.time ∧ t.ticking = s.ticking ∧ t.tick = s.tick ∧ t.edgeAfter t.timeNs = s.edgeAfter s.timeNs) : t.nextL = s.nextL := by
  obtain ⟨h1, h2, h3, h4⟩ := ht
  unfold State.nextL State.nextEdge State.shadowTime State.degraded State.detail
  rw [hm, hd, hh, h1, h2, h3, h4]

theorem State.RequestOnly.nextL_eq {s t : State} {os : List Nat} (h : s.RequestOnly t os) (hd : Obj.stationStateDetail ∉ os ++ requestObjects) :
    t.nextL = s.nextL :=
  nextL_congr h.fields.1 (h.num hd) (by rw [h.pair]) (by rw [h.rest]; exact ⟨rfl, rfl, rfl, rfl⟩)

theorem State.RequestOnly.commandBoundary_eq {s t : State} {os : List Nat} (h : s.RequestOnly t os)
    (hd : Obj.stationStateDetail ∉ os ++ requestObjects) (hc : Obj.commandTick ∉ os ++ requestObjects) :
    t.commandBoundary = s.commandBoundary := by
  unfold State.commandBoundary
  rw [h.num hc, h.nextL_eq hd]

theorem State.RequestOnly.withWarp {s t : State} {os : List Nat} (h : s.RequestOnly t os) (w : Warp) :
    { s with warp := w }.RequestOnly { t with warp := w } os :=
  ⟨h.objects, h.clp, h.pair, h.prp, by rw [h.rest]⟩

theorem load_taken {s : State} {r : Req} (h : s.WriteTaken r Obj.stationCommand [1]) (hb : s.num Obj.selectedBank < 2) :
    ∃ t, exec (.load r) s = .next t ∧ t.Answers r 0 ∧
       t.warp.loading = true ∧ t.num (Obj.bankState (s.num Obj.selectedBank)) = 2 ∧ t.num Obj.commandResult = 1 ∧
       { s with warp := t.warp }.RequestOnly t [Obj.commandResult, Obj.bankState (s.num Obj.selectedBank)] := by
  have hm := stationCommand_taken_state (n := 1) (by decide) h
  obtain ⟨p, hp, ha, ht⟩ := stationCommand_taken (n := 1) (by decide) h
  have hb0 : p.num Obj.selectedBank = s.num Obj.selectedBank := (hp []).num (by decide)
  have hmode : (p.takeCommand 1).mode ≠ .run := by
    have e : (p.takeCommand 1).mode = s.mode := (hp []).fields.1
    rw [e]
    intro e
    rw [e] at hm
    exact absurd hm (by decide)
  simp only [if_neg hmode] at ht
  have hwarp : (s.commandWrite r 1).warp = { s.warp with loading := true } := by
    rw [(ht []).fields.2.2.2.1, ← (hp []).fields.2.2.2.1]; rfl
  generalize hk : s.num Obj.selectedBank = k at hb hb0
  have hobj : Obj.bankState k ≠ Obj.commandResult ∧ Obj.bankState k ∉ requestObjects ∧ 2 % 256 ^ objSize (Obj.bankState k) = 2 := by
    interval_cases k <;> decide
  have hs : { s with warp := (s.commandWrite r 1).warp }.RequestOnly (p.takeCommand 1) [Obj.commandResult, Obj.bankState k] := by
    rw [hwarp, ← (hp []).fields.2.2.2.1]
    refine (((hp _).withWarp { p.warp with loading := true }).trans (requestOnly_setNum _ 2 (a := Obj.bankState k) (by simp))).trans ?_
    simp only [State.takeCommand, hb0]
    exact requestOnly_setNum _ 1 (by simp)
  refine ⟨_, rfl, ha, by rw [hwarp], ?_, ?_, hs.trans (ht _)⟩
  · rw [(ht []).num (by simpa using hobj.2.1)]
    simp only [State.takeCommand, hb0]
    rw [num_setNum_ne _ _ hobj.1, num_setNum_self, hobj.2.2]
  · rw [(ht []).num (by decide)]
    exact num_setNum_self ..

theorem State.RequestOnly.withOutgoing {s t : State} {os : List Nat} (h : s.RequestOnly t os) (x : List WeftItem) :
    { s with pair := { s.pair with outgoing := x } }.RequestOnly { t with pair := { t.pair with outgoing := x } } os :=
  ⟨h.objects, h.clp, by rw [h.pair], h.prp, by rw [h.rest]⟩

/-- START, STOP and HANDOVER wait for their boundary; those of a module in RUN travel with the next weft (R19, R20). -/
theorem boundaryCommand_taken {s : State} {r : Req} {n : Nat} (hn : n = 3 ∨ n = 4 ∨ n = 5) (h : s.WriteTaken r Obj.stationCommand [byte n]) :
    let t := s.commandWrite r n
    t.Answers r 0 ∧ t.command = some ⟨n, s.commandBoundary, false⟩ ∧ t.num Obj.commandResult = 1 ∧
      t.mode = s.mode ∧ t.pair.outgoing = s.pair.outgoing ++ (if s.mode = .run then [.command n s.commandBoundary] else []) ∧
      { s with command := t.command, pair := { s.pair with outgoing := t.pair.outgoing } }.RequestOnly t [Obj.commandResult] := by
  obtain ⟨p, hp, ha, ht⟩ := stationCommand_taken (by omega) h
  have hb : p.commandBoundary = s.commandBoundary := (hp []).commandBoundary_eq (by decide) (by decide)
  generalize hc : (⟨n, s.commandBoundary, false⟩ : PendingCommand) = c at ht ⊢
  generalize hout : s.pair.outgoing ++ (if s.mode = .run then [.command n s.commandBoundary] else []) = out
  have hpair : p.pair.outgoing = s.pair.outgoing := by rw [(hp []).pair]
  have heff : (if (p.takeCommand n).mode = .run then (p.takeCommand n).carryItem ((p.takeCommand n).weftItem Obj.stationCommand)
      else p.takeCommand n) = { p with command := some c, pair := { p.pair with outgoing := out } }.setNum Obj.commandResult 1 := by
    have htake : p.takeCommand n = { p with command := some c }.setNum Obj.commandResult 1 := by
      rw [← hc, ← hb]
      rcases hn with rfl | rfl | rfl <;> rfl
    have hmode : (p.takeCommand n).mode = s.mode := by rw [htake]; exact (hp []).fields.1
    rw [hmode, htake, ← hout, ← hpair, ← hc]
    split
    · rfl
    · simp
  simp only [heff] at ht
  have hcmd : (s.commandWrite r n).command = some c := (ht []).fields.2.1
  have ho : (s.commandWrite r n).pair.outgoing = out := by rw [(ht []).pair]; rfl
  refine ⟨ha, hcmd, ?_, (ht []).fields.1.trans (hp []).fields.1, ho, ?_⟩
  · rw [(ht []).num (by decide)]
    exact num_setNum_self ..
  · rw [hcmd, ho]
    exact ((((hp _).withCommand (some c)).withOutgoing out).trans (requestOnly_setNum _ 1 (by simp))).trans (ht _)

end Sys2Proof.Machine

end

section

namespace Sys2Proof.Machine

/-! ### The other write-only objects of the station -/

def resetRequestRow : ObjRow := ⟨"ResetRequest", 0x1002, 1, 1, 0x01, 1, .u8, .wo, false, [], .immediate, true, false, .any⟩
def restoreCommandRow : ObjRow := ⟨"RestoreCommand", 0x1010, 1, 1, 0x03, 1, .u32, .wo, false, [], .immediate, true, false, .any⟩
def resetCauseClearRow : ObjRow := ⟨"ResetCauseClear", 0x5000, 1, 1, 0x03, 1, .u16, .wo, false, [], .immediate, true, false, .any⟩
def activateBankRow : ObjRow := ⟨"ActivateBank", 0x8000, 1, 1, 0x02, 1, .u8, .wo, false, [], .boundary, true, true, .any⟩
def activateCancelRow : ObjRow := ⟨"ActivateCancel", 0x8000, 1, 1, 0x07, 1, .u8, .wo, false, [], .immediate, true, true, .any⟩
def profileRow : ObjRow := ⟨"Profile", 0x1004, 1, 1, 0x01, 1, .u8, .rw, true, leBytes 1 0x2, .boundary, true, true, .nat 1 3⟩

theorem objRow_resetRequest (s : State) : s.objRow? Obj.resetRequest = some resetRequestRow := rfl
theorem objRow_restoreCommand (s : State) : s.objRow? Obj.restoreCommand = some restoreCommandRow := rfl
theorem objRow_resetCauseClear (s : State) : s.objRow? Obj.resetCauseClear = some resetCauseClearRow :=
  show fixedRow? Obj.resetCauseClear = some resetCauseClearRow by decide
theorem objRow_activateBank (s : State) : s.objRow? Obj.activateBank = some activateBankRow := rfl
theorem objRow_activateCancel (s : State) : s.objRow? Obj.activateCancel = some activateCancelRow := rfl
theorem objRow_profile (s : State) : s.objRow? Obj.profile = some profileRow := rfl

theorem State.RequestOnly.withRst {s t : State} {os : List Nat} (h : s.RequestOnly t os) (x : ResetBlock) :
    { s with rst := x }.RequestOnly { t with rst := x } os :=
  ⟨h.objects, h.clp, h.pair, h.prp, by rw [h.rest]⟩

theorem State.RequestOnly.withRestore {s t : State} {os : List Nat} (h : s.RequestOnly t os) (x : Option (Nat × Nat)) :
    { s with restore := x }.RequestOnly { t with restore := x } os :=
  ⟨h.objects, h.clp, h.pair, h.prp, by rw [h.rest]⟩

/-- A reset request waits for the next edge; its tally names the level that the state applies (R55). -/
theorem resetRequest_taken {s t : State} {r : Req} {command : Nat} {v : BitVec 8}
    (et : t = s.request r command fun u => u.writeOne r Obj.resetRequest [v]) (h : s.WriteTaken r Obj.resetRequest [v]) :
    t.Answers r 0 ∧ t.rst = { s.rst with request := some (askedLevel v.toNat) } ∧
      s.Wrote t 0x0105 [v.toNat + levelCode (s.appliedLevel v.toNat) * 256, Req.origin r] ∧ { s with rst := t.rst }.RequestOnly t [] := by
  obtain ⟨p, hp, hx, ha, ht, hg⟩ := ownWriteOnly_taken et h objRow_resetRequest rfl (by decide) rfl fun _ => rfl
  obtain ⟨hmode, -, -, -, hrst⟩ := (hp []).fields
  have hact : p.actWriteOnly r Obj.resetRequest [v] =
      { p.logTally 0x0105 [v.toNat + levelCode (s.appliedLevel v.toNat) * 256, Req.origin r] with
        rst := { s.rst with request := some (askedLevel v.toNat) } } := by
    have hl : p.appliedLevel v.toNat = s.appliedLevel v.toNat := by unfold State.appliedLevel; rw [hmode]
    have hr : (p.logTally 0x0105 [v.toNat + levelCode (s.appliedLevel v.toNat) * 256, Req.origin r]).rst = s.rst := by
      rw [logTally_rest]; exact hrst
    unfold State.actWriteOnly
    rw [if_neg (by decide), if_pos rfl, leNat_byte]
    unfold State.requestReset
    rw [hl]
    dsimp only
    rw [hr]
  rw [hact] at ht hg
  have hlog := requestOnly_logDraft p (p.draft 0x0105 [v.toNat + levelCode (s.appliedLevel v.toNat) * 256, Req.origin r]) []
  have hrst' : t.rst = { s.rst with request := some (askedLevel v.toNat) } := (ht []).fields.2.2.2.2
  refine ⟨ha, hrst', wrote_of_grows hx hg (by decide) ?_ ?_, ?_⟩
  · rw [(ht []).num (by decide)]
    exact logTally_num p _ _ (by decide)
  · rw [(ht []).rest]
    show (p.logTally _ _).timeNs = p.timeNs
    rw [logTally_rest]
  · rw [hrst']
    exact (((hp []).trans hlog).withRst _).trans (ht [])

theorem restoreCommand_taken {s : State} {r : Req} {d : BitVec 32} (h : s.WriteTaken r Obj.restoreCommand (leBytes 4 d.toNat)) :
    let t := s.writeRequest r Obj.restoreCommand (leBytes 4 d.toNat)
    t.Answers r 0 ∧ t.restore = some (s.num Obj.restoreFirst, s.num Obj.restoreLast) ∧ t.num Obj.restoreResult = 1 ∧
      { s with restore := t.restore }.RequestOnly t [Obj.restoreResult] := by
  obtain ⟨p, hp, -, ha, ht, -⟩ := ownWriteOnly_taken (t := s.writeRequest r Obj.restoreCommand (leBytes 4 d.toNat)) rfl h objRow_restoreCommand
    rfl (by decide) rfl fun _ => rfl
  have hact : p.actWriteOnly r Obj.restoreCommand (leBytes 4 d.toNat) =
      { p with restore := some (s.num Obj.restoreFirst, s.num Obj.restoreLast) }.setNum Obj.restoreResult 1 := by
    rw [← (hp []).num (a := Obj.restoreFirst) (by decide), ← (hp []).num (a := Obj.restoreLast) (by decide)]
    rfl
  rw [hact] at ht
  have hr : (s.writeRequest r Obj.restoreCommand (leBytes 4 d.toNat)).restore = some (s.num Obj.restoreFirst, s.num Obj.restoreLast) := by
    rw [(ht []).rest]; rfl
  refine ⟨ha, hr, ?_, ?_⟩
  · rw [(ht []).num (by decide)]
    exact num_setNum_self ..
  · rw [hr]
    exact (((hp _).withRestore _).trans (requestOnly_setNum _ 1 (by simp))).trans (ht _)

/-- Clearing with a mask of the nine causes keeps the bits that it lacks. -/
theorem bit_causeClear (c n : Nat) {i : Nat} (hi : i < 9) : bit (Nat.land c (511 - n % 512)) i = (bit c i && !n.testBit i) := by
  unfold bit
  have h : (511 - n % 512).testBit i = !n.testBit i := by
    have e : 511 - n % 512 = 2 ^ 9 - (n % 2 ^ 9 + 1) := by omega
    rw [e, Nat.testBit_two_pow_sub_succ (Nat.mod_lt _ (by decide)), Nat.testBit_mod_two_pow]
    simp [hi]
  show (c &&& (511 - n % 512)).testBit i = _
  rw [Nat.testBit_and, h]

theorem resetCauseClear_taken {s : State} {r : Req} {w : BitVec 16} (h : s.WriteTaken r Obj.resetCauseClear (leBytes 2 w.toNat)) :
    let t := s.writeRequest r Obj.resetCauseClear (leBytes 2 w.toNat)
    t.Answers r 0 ∧ (∀ i < 9, bit t.rst.cause i = (bit s.rst.cause i && !w.getLsbD i)) ∧ t.rst = { s.rst with cause := t.rst.cause } ∧
      { s with rst := t.rst }.RequestOnly t [] := by
  obtain ⟨p, hp, -, ha, ht, -⟩ := ownWriteOnly_taken (t := s.writeRequest r Obj.resetCauseClear (leBytes 2 w.toNat)) rfl h objRow_resetCauseClear
    rfl (by decide) rfl fun u => by rw [State.stationScope, objRow_resetCauseClear]; rfl
  have hact : p.actWriteOnly r Obj.resetCauseClear (leBytes 2 w.toNat) =
      { p with rst := { s.rst with cause := Nat.land s.rst.cause (511 - w.toNat % 512) } } := by
    have hw : leNat (leBytes 2 w.toNat) % 512 = w.toNat % 512 := by rw [leNat_leBytes]; omega
    rw [← (hp []).fields.2.2.2.2, ← hw]
    rfl
  rw [hact] at ht
  have hr := (ht []).fields.2.2.2.2
  refine ⟨ha, fun i hi => ?_, by rw [hr], ?_⟩
  · rw [hr]
    exact bit_causeClear _ _ hi
  · rw [hr]
    exact ((hp []).withRst _).trans (ht [])

end Sys2Proof.Machine

end

section

namespace Sys2Proof.Machine

/-- What travels with the wefts moves the pair's queue alone. -/
theorem forward_pair (s : State) (o : ObjRow) {a : Nat} (v : Bytes) (h : inWeftMirror a = true) : ∃ x, s.forward o a v = s.setPair x := by
  rw [forward_weft _ _ _ h]
  split
  · exact ⟨_, rfl⟩
  · exact ⟨s.pair, rfl⟩

theorem pendActivation_effect (s : State) (target tick : Nat) :
    ∃ a, (s.pendActivation target tick).warp = { s.warp with activation := some a } ∧ a.target = target ∧ a.tick = tick ∧ a.staged = none ∧
      a.decided = false ∧ (s.pendActivation target tick).num Obj.activationResult = 1 := by
  have hr : ∀ (w : Warp) (pages : Nat), ((((({ s with warp := w } : State).setNum Obj.activationResult 1).setNum Obj.activationDetail 0).setNum
      Obj.pendingTick tick).setNum Obj.configPagesNeeded pages).num Obj.activationResult = 1 := fun w pages => by
    rw [num_setNum_ne _ _ (by decide), num_setNum_ne _ _ (by decide), num_setNum_ne _ _ (by decide), num_setNum_self]
    rfl
  unfold State.pendActivation
  extract_lets img
  split
  rename_i hitless pages _
  exact ⟨⟨target, tick, hitless, none, false⟩, rfl, rfl, rfl, rfl, rfl, hr ..⟩

theorem activateBank_taken {s : State} {r : Req} {v : BitVec 8} (h : s.WriteTaken r Obj.activateBank [v]) :
    let t := s.writeRequest r Obj.activateBank [v]
    ∃ a, t.Answers r 0 ∧ t.warp.activation = some a ∧ a.target = v.toNat % 2 ∧ a.tick = s.activationBoundary ∧ a.staged = none ∧
      a.decided = false ∧ t.num Obj.activationResult = 1 ∧ t.num Obj.activateTick = 0 ∧ t.warp.loaded = s.warp.loaded ∧ t.mode = s.mode := by
  obtain ⟨p, hp, -, ha, ht, -⟩ := writeOnly_taken (t := s.writeRequest r Obj.activateBank [v]) rfl h (objRow_activateBank _) rfl (by decide)
  have hact : p.actWriteOnly r Obj.activateBank [v] = (p.pendActivation (v.toNat % 2) s.activationBoundary).setNum Obj.activateTick 0 := by
    have hb : p.activationBoundary = s.activationBoundary := by
      unfold State.activationBoundary State.firstActivation
      rw [(hp []).num (by decide), (hp []).tick_eq]
    rw [← hb, ← leNat_byte v]
    rfl
  obtain ⟨a, hw, h1, h2, h3, h4, h5⟩ := pendActivation_effect p (v.toNat % 2) s.activationBoundary
  obtain ⟨x, hf⟩ := forward_pair (p.actWriteOnly r Obj.activateBank [v]) activateBankRow [v] (a := Obj.activateBank) rfl
  rw [hf, hact] at ht
  obtain ⟨hmode, -, -, hwarp, -⟩ := (ht []).fields
  obtain ⟨pmode, -, -, pwarp, -⟩ := (hp []).fields
  have htw : (s.writeRequest r Obj.activateBank [v]).warp = { s.warp with activation := some a } := by rw [hwarp, ← pwarp, ← hw]; rfl
  refine ⟨a, ha, by rw [htw], h1, h2, h3, h4, ?_, ?_, by rw [htw], ?_⟩
  · rw [(ht []).num (by decide)]
    exact (num_setNum_ne _ _ (by decide)).trans h5
  · rw [(ht []).num (by decide)]
    exact num_setNum_self ..
  · rw [hmode, ← pmode]
    show (p.pendActivation (v.toNat % 2) s.activationBoundary).mode = p.mode
    exact (State.pendActivation_mode_keys ..).1

theorem activateCancel_taken {s : State} {r : Req} {v : BitVec 8} (h : s.WriteTaken r Obj.activateCancel [v])
    (hs : s.warp.activation.isSome = true) :
    let t := s.writeRequest r Obj.activateCancel [v]
    t.Answers r 0 ∧ t.warp = { s.warp with activation := none } ∧ t.num Obj.activationResult = 0 := by
  obtain ⟨p, hp, -, ha, ht, -⟩ := writeOnly_taken (t := s.writeRequest r Obj.activateCancel [v]) rfl h (objRow_activateCancel _) rfl (by decide)
  have pwarp := (hp []).fields.2.2.2.1
  have hact : p.actWriteOnly r Obj.activateCancel [v] = p.endActivation 0 0 := if_pos (show p.warp.activation.isSome = true by rwa [pwarp])
  obtain ⟨x, hf⟩ := forward_pair (p.actWriteOnly r Obj.activateCancel [v]) activateCancelRow [v] (a := Obj.activateCancel) rfl
  rw [hf, hact] at ht
  refine ⟨ha, ?_, ?_⟩
  · rw [(ht []).fields.2.2.2.1, ← pwarp]
    rfl
  · rw [(ht []).num (by decide)]
    unfold State.endActivation
    show State.num (State.setNum _ _ _) _ = 0
    rw [num_setNum_ne _ _ (by decide), num_setNum_ne _ _ (by decide), num_setNum_ne _ _ (by decide), num_setNum_self]
    rfl

theorem putValue_profile (p : State) (v : BitVec 8) :
    p.putValue profileRow Obj.profile [v] = { p.setStored Obj.profile [v] with profileChange := some (v.toNat, p.nextL) } := by
  have hc : ∀ u : State, u.configWrite Obj.profile = u := fun u => by
    have ha : Obj.profile ∉ configObjects .a ∧ Obj.profile ∉ configObjects .b := by decide
    unfold State.configWrite
    simp [ha]
  have hn : (p.setStored Obj.profile [v]).num Obj.profile = v.toNat := by
    unfold State.num
    show leNat ((p.setObj Obj.profile [v]).obj Obj.profile) = _
    rw [obj_setObj_self, leNat_byte]
  have hl : (p.setStored Obj.profile [v]).nextL = p.nextL :=
    nextL_congr rfl (num_setObj_ne p _ (by decide)) rfl ⟨rfl, rfl, rfl, rfl⟩
  unfold State.putValue State.followValue
  rw [if_neg (by decide), if_neg (by decide), if_pos (show profileRow.persistent = true from rfl)]
  dsimp only
  rw [if_pos rfl, hc, hn, hl]

/-- A profile write waits for the next boundary (R27). -/
theorem profile_taken {s : State} {r : Req} {v : BitVec 8} (h : s.WriteTaken r Obj.profile [v]) :
    let t := s.writeRequest r Obj.profile [v]
    t.Answers r 0 ∧ t.profileChange = some (v.toNat, s.nextL) ∧ t.num Obj.profile = v.toNat ∧
      t.num Obj.activeProfile = s.num Obj.activeProfile := by
  obtain ⟨p, hp, ha, ht⟩ := value_taken (t := s.writeRequest r Obj.profile [v]) rfl h (objRow_profile _) (by decide) (by decide)
  obtain ⟨x, hf⟩ := forward_pair (p.putValue profileRow Obj.profile [v]) profileRow [v] (a := Obj.profile) rfl
  rw [hf, putValue_profile, (hp []).nextL_eq (by decide)] at ht
  refine ⟨ha, by rw [(ht []).rest]; rfl, ?_, ?_⟩
  · rw [(ht []).num (by decide)]
    show leNat ((p.setObj Obj.profile [v]).obj Obj.profile) = _
    rw [obj_setObj_self, leNat_byte]
  · rw [(ht []).num (by decide), ← (hp []).num (a := Obj.activeProfile) (by decide)]
    exact num_setObj_ne p _ (by decide)

end Sys2Proof.Machine

end

section

namespace Sys2Proof.Machine

/-! ### The fields that shared operations leave alone

One lemma per operation: of `rst`, `dram`, `store`, `warp`, `weftQueue`, `command`, `startTick`, `eng` and `profileChange`, those that it keeps. -/

/-- What each step of a fold keeps, the fold keeps. -/
theorem foldl_keeps {α β : Type} (g : State → β) {f : State → α → State} (h : ∀ s x, g (f s x) = g s) (xs : List α) (s : State) :
    g (xs.foldl f s) = g s := by
  induction xs generalizing s with
  | nil => rfl
  | cons x xs ih => rw [List.foldl_cons, ih, h]

@[simp] theorem foldl_rst {α : Type} {f : State → α → State} (h : ∀ s x, (f s x).rst = s.rst) (xs : List α) (s : State) :
    (xs.foldl f s).rst = s.rst := foldl_keeps State.rst h xs s
@[simp] theorem foldl_dram {α : Type} {f : State → α → State} (h : ∀ s x, (f s x).dram = s.dram) (xs : List α) (s : State) :
    (xs.foldl f s).dram = s.dram := foldl_keeps State.dram h xs s
@[simp] theorem foldl_store {α : Type} {f : State → α → State} (h : ∀ s x, (f s x).store = s.store) (xs : List α) (s : State) :
    (xs.foldl f s).store = s.store := foldl_keeps State.store h xs s
@[simp] theorem foldl_warp {α : Type} {f : State → α → State} (h : ∀ s x, (f s x).warp = s.warp) (xs : List α) (s : State) :
    (xs.foldl f s).warp = s.warp := foldl_keeps State.warp h xs s
@[simp] theorem foldl_weftQueue {α : Type} {f : State → α → State} (h : ∀ s x, (f s x).weftQueue = s.weftQueue) (xs : List α) (s : State) :
    (xs.foldl f s).weftQueue = s.weftQueue := foldl_keeps State.weftQueue h xs s
@[simp] theorem foldl_command {α : Type} {f : State → α → State} (h : ∀ s x, (f s x).command = s.command) (xs : List α) (s : State) :
    (xs.foldl f s).command = s.command := foldl_keeps State.command h xs s
@[simp] theorem foldl_startTick {α : Type} {f : State → α → State} (h : ∀ s x, (f s x).startTick = s.startTick) (xs : List α) (s : State) :
    (xs.foldl f s).startTick = s.startTick := foldl_keeps State.startTick h xs s
@[simp] theorem foldl_eng {α : Type} {f : State → α → State} (h : ∀ s x, (f s x).eng = s.eng) (xs : List α) (s : State) :
    (xs.foldl f s).eng = s.eng := foldl_keeps State.eng h xs s
@[simp] theorem foldl_profileChange {α : Type} {f : State → α → State} (h : ∀ s x, (f s x).profileChange = s.profileChange) (xs : List α) (s : State) :
    (xs.foldl f s).profileChange = s.profileChange := foldl_keeps State.profileChange h xs s

@[simp] theorem ite_rst (c : Prop) [Decidable c] (s t : State) : (if c then s else t).rst = if c then s.rst else t.rst := apply_ite ..
@[simp] theorem ite_dram (c : Prop) [Decidable c] (s t : State) : (if c then s else t).dram = if c then s.dram else t.dram := apply_ite ..
@[simp] theorem ite_store (c : Prop) [Decidable c] (s t : State) : (if c then s else t).store = if c then s.store else t.store := apply_ite ..
@[simp] theorem ite_warp (c : Prop) [Decidable c] (s t : State) : (if c then s else t).warp = if c then s.warp else t.warp := apply_ite ..
@[simp] theorem ite_weftQueue (c : Prop) [Decidable c] (s t : State) :
    (if c then s else t).weftQueue = if c then s.weftQueue else t.weftQueue := apply_ite ..
@[simp] theorem ite_command (c : Prop) [Decidable c] (s t : State) : (if c then s else t).command = if c then s.command else t.command := apply_ite ..
@[simp] theorem ite_startTick (c : Prop) [Decidable c] (s t : State) :
    (if c then s else t).startTick = if c then s.startTick else t.startTick := apply_ite ..
@[simp] theorem ite_eng (c : Prop) [Decidable c] (s t : State) : (if c then s else t).eng = if c then s.eng else t.eng := apply_ite ..
@[simp] theorem ite_profileChange (c : Prop) [Decidable c] (s t : State) :
    (if c then s else t).profileChange = if c then s.profileChange else t.profileChange := apply_ite ..

@[simp] theorem State.drawFree_frame (s : State) :
    s.drawFree.2.rst = s.rst ∧ s.drawFree.2.dram = s.dram ∧ s.drawFree.2.store = s.store ∧ s.drawFree.2.warp = s.warp ∧
    s.drawFree.2.weftQueue = s.weftQueue ∧ s.drawFree.2.command = s.command ∧ s.drawFree.2.startTick = s.startTick ∧ s.drawFree.2.eng = s.eng ∧
    s.drawFree.2.profileChange = s.profileChange := by
  simp [State.drawFree]

@[simp] theorem State.setCanRates_frame (s : State) (k : Nat) :
    (s.setCanRates k).rst = s.rst ∧ (s.setCanRates k).dram = s.dram ∧ (s.setCanRates k).store = s.store ∧ (s.setCanRates k).warp = s.warp ∧
    (s.setCanRates k).weftQueue = s.weftQueue ∧ (s.setCanRates k).command = s.command ∧ (s.setCanRates k).startTick = s.startTick ∧
    (s.setCanRates k).eng = s.eng ∧ (s.setCanRates k).profileChange = s.profileChange := by
  simp [State.setCanRates]

@[simp] theorem State.canRefresh_frame (s : State) :
    s.canRefresh.rst = s.rst ∧ s.canRefresh.dram = s.dram ∧ s.canRefresh.store = s.store ∧ s.canRefresh.warp = s.warp ∧
    s.canRefresh.weftQueue = s.weftQueue ∧ s.canRefresh.command = s.command ∧ s.canRefresh.startTick = s.startTick ∧ s.canRefresh.eng = s.eng ∧
    s.canRefresh.profileChange = s.profileChange := by
  unfold State.canRefresh
  refine ⟨foldl_rst ?_ _ _, foldl_dram ?_ _ _, foldl_store ?_ _ _, foldl_warp ?_ _ _, foldl_weftQueue ?_ _ _, foldl_command ?_ _ _,
    foldl_startTick ?_ _ _, foldl_eng ?_ _ _, foldl_profileChange ?_ _ _⟩ <;> simp

@[simp] theorem State.detectEnd_frame (s : State) (k : Fin 8) (result : Nat) :
    (s.detectEnd k result).rst = s.rst ∧ (s.detectEnd k result).dram = s.dram ∧ (s.detectEnd k result).store = s.store ∧
    (s.detectEnd k result).warp = s.warp ∧ (s.detectEnd k result).weftQueue = s.weftQueue ∧ (s.detectEnd k result).command = s.command ∧
    (s.detectEnd k result).startTick = s.startTick ∧ (s.detectEnd k result).eng = s.eng ∧ (s.detectEnd k result).profileChange = s.profileChange := by
  simp [State.detectEnd]

@[simp] theorem State.canBegin_frame (s : State) :
    s.canBegin.rst = s.rst ∧ s.canBegin.dram = s.dram ∧ s.canBegin.store = s.store ∧ s.canBegin.warp = s.warp ∧
    s.canBegin.weftQueue = s.weftQueue ∧ s.canBegin.command = s.command ∧ s.canBegin.startTick = s.startTick ∧ s.canBegin.eng = s.eng ∧
    s.canBegin.profileChange = s.profileChange := by
  simp [State.canBegin]

@[simp] theorem State.canEnd_frame (s : State) :
    s.canEnd.rst = s.rst ∧ s.canEnd.dram = s.dram ∧ s.canEnd.store = s.store ∧ s.canEnd.warp = s.warp ∧ s.canEnd.weftQueue = s.weftQueue ∧
    s.canEnd.command = s.command ∧ s.canEnd.startTick = s.startTick ∧ s.canEnd.eng = s.eng ∧ s.canEnd.profileChange = s.profileChange := by
  simp [State.canEnd]

@[simp] theorem State.canStop_frame (s : State) :
    s.canStop.rst = s.rst ∧ s.canStop.dram = s.dram ∧ s.canStop.store = s.store ∧ s.canStop.warp = s.warp ∧ s.canStop.weftQueue = s.weftQueue ∧
    s.canStop.command = s.command ∧ s.canStop.startTick = s.startTick ∧ s.canStop.eng = s.eng ∧ s.canStop.profileChange = s.profileChange := by
  simp [State.canStop]

@[simp] theorem State.canAbandon_frame (s : State) :
    s.canAbandon.rst = s.rst ∧ s.canAbandon.dram = s.dram ∧ s.canAbandon.store = s.store ∧ s.canAbandon.warp = s.warp ∧
    s.canAbandon.weftQueue = s.weftQueue ∧ s.canAbandon.command = s.command ∧ s.canAbandon.startTick = s.startTick ∧ s.canAbandon.eng = s.eng ∧
    s.canAbandon.profileChange = s.profileChange := by
  simp [State.canAbandon]

@[simp] theorem State.assertAt_frame (s : State) (src : ResetSource) (level : ResetLevel) :
    (s.assertAt src level).dram = s.dram ∧ (s.assertAt src level).store = s.store ∧ (s.assertAt src level).warp = s.warp ∧
    (s.assertAt src level).weftQueue = s.weftQueue ∧ (s.assertAt src level).command = s.command ∧ (s.assertAt src level).startTick = s.startTick ∧
    (s.assertAt src level).eng = s.eng ∧ (s.assertAt src level).profileChange = s.profileChange := by
  simp [State.assertAt]

@[simp] theorem State.assertSource_frame (s : State) (src : ResetSource) (asked : ResetLevel) :
    (s.assertSource src asked).dram = s.dram ∧ (s.assertSource src asked).store = s.store ∧ (s.assertSource src asked).warp = s.warp ∧
    (s.assertSource src asked).weftQueue = s.weftQueue ∧ (s.assertSource src asked).command = s.command ∧
    (s.assertSource src asked).startTick = s.startTick ∧ (s.assertSource src asked).eng = s.eng ∧
    (s.assertSource src asked).profileChange = s.profileChange := by
  unfold State.assertSource
  split <;> simp

@[simp] theorem State.enterHold_frame (s : State) (code : Nat) :
    (s.enterHold code).dram = s.dram ∧ (s.enterHold code).store = s.store ∧ (s.enterHold code).warp = s.warp ∧
    (s.enterHold code).weftQueue = s.weftQueue ∧ (s.enterHold code).startTick = s.startTick ∧ (s.enterHold code).eng = s.eng ∧
    (s.enterHold code).profileChange = s.profileChange := by
  simp [State.enterHold]

@[simp] theorem State.sendOn_frame (s : State) (k : Nat) (kind : SentKind) (peer seq : Nat) (head : NetHead) (data : Bytes) :
    (s.sendOn k kind peer seq head data).rst = s.rst ∧ (s.sendOn k kind peer seq head data).dram = s.dram ∧
    (s.sendOn k kind peer seq head data).store = s.store ∧ (s.sendOn k kind peer seq head data).warp = s.warp ∧
    (s.sendOn k kind peer seq head data).weftQueue = s.weftQueue ∧ (s.sendOn k kind peer seq head data).command = s.command ∧
    (s.sendOn k kind peer seq head data).startTick = s.startTick ∧ (s.sendOn k kind peer seq head data).eng = s.eng ∧
    (s.sendOn k kind peer seq head data).profileChange = s.profileChange := by
  simp [State.sendOn]

@[simp] theorem State.takePrpSeq_frame (s : State) (station : Bool) :
    (s.takePrpSeq station).2.rst = s.rst ∧ (s.takePrpSeq station).2.dram = s.dram ∧ (s.takePrpSeq station).2.store = s.store ∧
    (s.takePrpSeq station).2.warp = s.warp ∧ (s.takePrpSeq station).2.weftQueue = s.weftQueue ∧ (s.takePrpSeq station).2.command = s.command ∧
    (s.takePrpSeq station).2.startTick = s.startTick ∧ (s.takePrpSeq station).2.eng = s.eng ∧
    (s.takePrpSeq station).2.profileChange = s.profileChange := by
  unfold State.takePrpSeq
  split <;> simp

@[simp] theorem State.loadSlot_frame (s : State) (j : Nat) :
    (s.loadSlot j).rst = s.rst ∧ (s.loadSlot j).dram = s.dram ∧ (s.loadSlot j).store = s.store ∧ (s.loadSlot j).warp = s.warp ∧
    (s.loadSlot j).weftQueue = s.weftQueue ∧ (s.loadSlot j).command = s.command ∧ (s.loadSlot j).startTick = s.startTick ∧
    (s.loadSlot j).eng = s.eng ∧ (s.loadSlot j).profileChange = s.profileChange := by
  simp [State.loadSlot]

@[simp] theorem State.loadTables_frame (s : State) :
    s.loadTables.rst = s.rst ∧ s.loadTables.dram = s.dram ∧ s.loadTables.store = s.store ∧ s.loadTables.warp = s.warp ∧
    s.loadTables.weftQueue = s.weftQueue ∧ s.loadTables.command = s.command ∧ s.loadTables.startTick = s.startTick ∧ s.loadTables.eng = s.eng ∧
    s.loadTables.profileChange = s.profileChange := by
  simp [State.loadTables]

@[simp] theorem State.hartEnable_frame (s : State) (c : Fin 16) :
    (s.hartEnable c).rst = s.rst ∧ (s.hartEnable c).dram = s.dram ∧ (s.hartEnable c).store = s.store ∧ (s.hartEnable c).warp = s.warp ∧
    (s.hartEnable c).weftQueue = s.weftQueue ∧ (s.hartEnable c).command = s.command ∧ (s.hartEnable c).startTick = s.startTick ∧
    (s.hartEnable c).eng = s.eng ∧ (s.hartEnable c).profileChange = s.profileChange := by
  simp [State.hartEnable]

@[simp] theorem State.dropPll_frame (s : State) (p : Pll) :
    (s.dropPll p).rst = s.rst ∧ (s.dropPll p).dram = s.dram ∧ (s.dropPll p).store = s.store ∧ (s.dropPll p).warp = s.warp ∧
    (s.dropPll p).weftQueue = s.weftQueue ∧ (s.dropPll p).command = s.command ∧ (s.dropPll p).startTick = s.startTick ∧ (s.dropPll p).eng = s.eng ∧
    (s.dropPll p).profileChange = s.profileChange := by
  unfold State.dropPll
  refine ⟨foldl_rst ?_ _ _, foldl_dram ?_ _ _, foldl_store ?_ _ _, foldl_warp ?_ _ _, foldl_weftQueue ?_ _ _, foldl_command ?_ _ _,
    foldl_startTick ?_ _ _, foldl_eng ?_ _ _, foldl_profileChange ?_ _ _⟩ <;> simp

@[simp] theorem State.pllsStop_frame (s : State) :
    s.pllsStop.rst = s.rst ∧ s.pllsStop.dram = s.dram ∧ s.pllsStop.store = s.store ∧ s.pllsStop.warp = s.warp ∧
    s.pllsStop.weftQueue = s.weftQueue ∧ s.pllsStop.command = s.command ∧ s.pllsStop.startTick = s.startTick ∧ s.pllsStop.eng = s.eng ∧
    s.pllsStop.profileChange = s.profileChange := by
  simp [State.pllsStop]

@[simp] theorem State.clocksRestart_frame (s : State) (clkFail : Bool) :
    (s.clocksRestart clkFail).rst = s.rst ∧ (s.clocksRestart clkFail).dram = s.dram ∧ (s.clocksRestart clkFail).store = s.store ∧
    (s.clocksRestart clkFail).warp = s.warp ∧ (s.clocksRestart clkFail).weftQueue = s.weftQueue ∧ (s.clocksRestart clkFail).command = s.command ∧
    (s.clocksRestart clkFail).startTick = s.startTick ∧ (s.clocksRestart clkFail).eng = s.eng ∧
    (s.clocksRestart clkFail).profileChange = s.profileChange := by
  unfold State.clocksRestart
  dsimp only
  (repeat' split) <;> simp

@[simp] theorem State.configPut_frame (s : State) (a : Nat) (v : Bytes) :
    (s.configPut a v).rst = s.rst ∧ (s.configPut a v).dram = s.dram ∧ (s.configPut a v).store = s.store ∧
    (s.configPut a v).weftQueue = s.weftQueue ∧ (s.configPut a v).command = s.command ∧ (s.configPut a v).startTick = s.startTick ∧
    (s.configPut a v).eng = s.eng ∧ (s.configPut a v).profileChange = s.profileChange := by
  unfold State.configPut
  split <;> simp

@[simp] theorem State.putLoop_frame (s : State) (j sub : Nat) (v : Bytes) :
    (s.putLoop j sub v).rst = s.rst ∧ (s.putLoop j sub v).dram = s.dram ∧ (s.putLoop j sub v).weftQueue = s.weftQueue ∧
    (s.putLoop j sub v).command = s.command ∧ (s.putLoop j sub v).startTick = s.startTick ∧ (s.putLoop j sub v).eng = s.eng ∧
    (s.putLoop j sub v).profileChange = s.profileChange := by
  unfold State.putLoop
  split <;> simp

@[simp] theorem State.putGain_frame (s : State) (g sub : Nat) (v : Bytes) :
    (s.putGain g sub v).rst = s.rst ∧ (s.putGain g sub v).dram = s.dram ∧ (s.putGain g sub v).store = s.store ∧
    (s.putGain g sub v).weftQueue = s.weftQueue ∧ (s.putGain g sub v).command = s.command ∧ (s.putGain g sub v).startTick = s.startTick ∧
    (s.putGain g sub v).eng = s.eng ∧ (s.putGain g sub v).profileChange = s.profileChange := by
  unfold State.putGain
  split <;> simp

@[simp] theorem State.applyStored1_frame (s : State) (a : Nat) (v : Bytes) :
    (s.applyStored1 a v).rst = s.rst ∧ (s.applyStored1 a v).dram = s.dram ∧ (s.applyStored1 a v).weftQueue = s.weftQueue ∧
    (s.applyStored1 a v).command = s.command ∧ (s.applyStored1 a v).startTick = s.startTick ∧ (s.applyStored1 a v).eng = s.eng ∧
    (s.applyStored1 a v).profileChange = s.profileChange := by
  unfold State.applyStored1
  dsimp only
  (repeat' split) <;> simp

@[simp] theorem State.applyStored_frame (s : State) :
    s.applyStored.rst = s.rst ∧ s.applyStored.dram = s.dram ∧ s.applyStored.weftQueue = s.weftQueue ∧ s.applyStored.command = s.command ∧
    s.applyStored.startTick = s.startTick ∧ s.applyStored.eng = s.eng ∧ s.applyStored.profileChange = s.profileChange := by
  simp [State.applyStored]

@[simp] theorem State.bindStored_frame (s : State) (digest : Bytes) :
    (s.bindStored digest).rst = s.rst ∧ (s.bindStored digest).dram = s.dram ∧ (s.bindStored digest).store = s.store ∧
    (s.bindStored digest).warp = s.warp ∧ (s.bindStored digest).weftQueue = s.weftQueue ∧ (s.bindStored digest).command = s.command ∧
    (s.bindStored digest).startTick = s.startTick ∧ (s.bindStored digest).eng = s.eng ∧ (s.bindStored digest).profileChange = s.profileChange := by
  simp [State.bindStored]

@[simp] theorem State.reportLoaded_frame (s : State) :
    s.reportLoaded.rst = s.rst ∧ s.reportLoaded.dram = s.dram ∧ s.reportLoaded.store = s.store ∧ s.reportLoaded.warp = s.warp ∧
    s.reportLoaded.weftQueue = s.weftQueue ∧ s.reportLoaded.command = s.command ∧ s.reportLoaded.startTick = s.startTick ∧
    s.reportLoaded.eng = s.eng ∧ s.reportLoaded.profileChange = s.profileChange := by
  unfold State.reportLoaded
  split <;> simp

@[simp] theorem State.clearBank_frame (s : State) (k state : Nat) :
    (s.clearBank k state).rst = s.rst ∧ (s.clearBank k state).dram = s.dram ∧ (s.clearBank k state).store = s.store ∧
    (s.clearBank k state).warp = s.warp ∧ (s.clearBank k state).weftQueue = s.weftQueue ∧ (s.clearBank k state).command = s.command ∧
    (s.clearBank k state).startTick = s.startTick ∧ (s.clearBank k state).eng = s.eng ∧ (s.clearBank k state).profileChange = s.profileChange := by
  simp [State.clearBank]

@[simp] theorem State.reportValid_frame (s : State) (k : Nat) (img : Bytes) :
    (s.reportValid k img).rst = s.rst ∧ (s.reportValid k img).dram = s.dram ∧ (s.reportValid k img).store = s.store ∧
    (s.reportValid k img).warp = s.warp ∧ (s.reportValid k img).weftQueue = s.weftQueue ∧ (s.reportValid k img).command = s.command ∧
    (s.reportValid k img).startTick = s.startTick ∧ (s.reportValid k img).eng = s.eng ∧ (s.reportValid k img).profileChange = s.profileChange := by
  simp [State.reportValid]

@[simp] theorem State.dropWarpDict_frame (s : State) :
    s.dropWarpDict.rst = s.rst ∧ s.dropWarpDict.dram = s.dram ∧ s.dropWarpDict.store = s.store ∧ s.dropWarpDict.warp = s.warp ∧
    s.dropWarpDict.weftQueue = s.weftQueue ∧ s.dropWarpDict.command = s.command ∧ s.dropWarpDict.startTick = s.startTick ∧
    s.dropWarpDict.eng = s.eng ∧ s.dropWarpDict.profileChange = s.profileChange := by
  simp [State.dropWarpDict]

@[simp] theorem State.dropHeld_frame (s : State) :
    s.dropHeld.rst = s.rst ∧ s.dropHeld.dram = s.dram ∧ s.dropHeld.store = s.store ∧ s.dropHeld.warp = s.warp ∧ s.dropHeld.command = s.command ∧
    s.dropHeld.startTick = s.startTick ∧ s.dropHeld.eng = s.eng ∧ s.dropHeld.profileChange = s.profileChange := by
  simp [State.dropHeld]

@[simp] theorem State.releaseWarp_frame (s : State) :
    s.releaseWarp.rst = s.rst ∧ s.releaseWarp.dram = s.dram ∧ s.releaseWarp.store = s.store ∧ s.releaseWarp.command = s.command ∧
    s.releaseWarp.startTick = s.startTick ∧ s.releaseWarp.eng = s.eng ∧ s.releaseWarp.profileChange = s.profileChange := by
  simp [State.releaseWarp]

@[simp] theorem State.setTimeState_frame (s : State) (t : TimeState) :
    (s.setTimeState t).rst = s.rst ∧ (s.setTimeState t).dram = s.dram ∧ (s.setTimeState t).store = s.store ∧ (s.setTimeState t).warp = s.warp ∧
    (s.setTimeState t).weftQueue = s.weftQueue ∧ (s.setTimeState t).command = s.command ∧ (s.setTimeState t).startTick = s.startTick ∧
    (s.setTimeState t).eng = s.eng ∧ (s.setTimeState t).profileChange = s.profileChange := by
  simp [State.setTimeState]

@[simp] theorem State.ppsJudge_frame (s : State) :
    s.ppsJudge.rst = s.rst ∧ s.ppsJudge.dram = s.dram ∧ s.ppsJudge.store = s.store ∧ s.ppsJudge.warp = s.warp ∧
    s.ppsJudge.weftQueue = s.weftQueue ∧ s.ppsJudge.command = s.command ∧ s.ppsJudge.startTick = s.startTick ∧ s.ppsJudge.eng = s.eng ∧
    s.ppsJudge.profileChange = s.profileChange := by
  simp [State.ppsJudge]

@[simp] theorem State.enterHoldover_frame (s : State) (t : TimeState) :
    (s.enterHoldover t).rst = s.rst ∧ (s.enterHoldover t).dram = s.dram ∧ (s.enterHoldover t).store = s.store ∧ (s.enterHoldover t).warp = s.warp ∧
    (s.enterHoldover t).weftQueue = s.weftQueue ∧ (s.enterHoldover t).command = s.command ∧ (s.enterHoldover t).startTick = s.startTick ∧
    (s.enterHoldover t).eng = s.eng ∧ (s.enterHoldover t).profileChange = s.profileChange := by
  simp [State.enterHoldover]

@[simp] theorem State.setPortState_frame (s : State) (p : NetPort) (st : Nat) :
    (s.setPortState p st).rst = s.rst ∧ (s.setPortState p st).dram = s.dram ∧ (s.setPortState p st).store = s.store ∧
    (s.setPortState p st).warp = s.warp ∧ (s.setPortState p st).weftQueue = s.weftQueue ∧ (s.setPortState p st).command = s.command ∧
    (s.setPortState p st).startTick = s.startTick ∧ (s.setPortState p st).eng = s.eng ∧ (s.setPortState p st).profileChange = s.profileChange := by
  simp [State.setPortState]

@[simp] theorem State.noSlave_frame (s : State) :
    s.noSlave.rst = s.rst ∧ s.noSlave.dram = s.dram ∧ s.noSlave.store = s.store ∧ s.noSlave.warp = s.warp ∧ s.noSlave.weftQueue = s.weftQueue ∧
    s.noSlave.command = s.command ∧ s.noSlave.startTick = s.startTick ∧ s.noSlave.eng = s.eng ∧ s.noSlave.profileChange = s.profileChange := by
  simp [State.noSlave]

@[simp] theorem State.applyStep_frame (s : State) (k : StepKind) (d : Int) :
    (s.applyStep k d).rst = s.rst ∧ (s.applyStep k d).dram = s.dram ∧ (s.applyStep k d).store = s.store ∧ (s.applyStep k d).warp = s.warp ∧
    (s.applyStep k d).weftQueue = s.weftQueue ∧ (s.applyStep k d).startTick = s.startTick ∧ (s.applyStep k d).eng = s.eng := by
  simp [State.applyStep]

@[simp] theorem State.applyHeld_frame (s : State) :
    s.applyHeld.rst = s.rst ∧ s.applyHeld.dram = s.dram ∧ s.applyHeld.store = s.store ∧ s.applyHeld.warp = s.warp ∧
    s.applyHeld.weftQueue = s.weftQueue ∧ s.applyHeld.startTick = s.startTick ∧ s.applyHeld.eng = s.eng := by
  unfold State.applyHeld
  split <;> simp

@[simp] theorem State.timeFromSeam_frame (s : State) (flags : Nat) :
    (s.timeFromSeam flags).rst = s.rst ∧ (s.timeFromSeam flags).dram = s.dram ∧ (s.timeFromSeam flags).store = s.store ∧
    (s.timeFromSeam flags).warp = s.warp ∧ (s.timeFromSeam flags).weftQueue = s.weftQueue ∧ (s.timeFromSeam flags).command = s.command ∧
    (s.timeFromSeam flags).startTick = s.startTick ∧ (s.timeFromSeam flags).eng = s.eng ∧ (s.timeFromSeam flags).profileChange = s.profileChange := by
  simp [State.timeFromSeam]

@[simp] theorem State.idlePorts_frame (s : State) :
    s.idlePorts.rst = s.rst ∧ s.idlePorts.dram = s.dram ∧ s.idlePorts.store = s.store ∧ s.idlePorts.warp = s.warp ∧
    s.idlePorts.weftQueue = s.weftQueue ∧ s.idlePorts.command = s.command ∧ s.idlePorts.startTick = s.startTick ∧ s.idlePorts.eng = s.eng ∧
    s.idlePorts.profileChange = s.profileChange := by
  simp [State.idlePorts]

@[simp] theorem State.timeStart_frame (s : State) (backupLost : Bool) :
    (s.timeStart backupLost).rst = s.rst ∧ (s.timeStart backupLost).dram = s.dram ∧ (s.timeStart backupLost).store = s.store ∧
    (s.timeStart backupLost).warp = s.warp ∧ (s.timeStart backupLost).weftQueue = s.weftQueue ∧ (s.timeStart backupLost).command = s.command ∧
    (s.timeStart backupLost).startTick = s.startTick ∧ (s.timeStart backupLost).eng = s.eng ∧
    (s.timeStart backupLost).profileChange = s.profileChange := by
  simp [State.timeStart]

@[simp] theorem State.ptpStart_frame (s : State) :
    s.ptpStart.rst = s.rst ∧ s.ptpStart.dram = s.dram ∧ s.ptpStart.store = s.store ∧ s.ptpStart.warp = s.warp ∧
    s.ptpStart.weftQueue = s.weftQueue ∧ s.ptpStart.command = s.command ∧ s.ptpStart.startTick = s.startTick ∧ s.ptpStart.eng = s.eng ∧
    s.ptpStart.profileChange = s.profileChange := by
  simp [State.ptpStart]

@[simp] theorem State.linksStart_frame (s : State) :
    s.linksStart.rst = s.rst ∧ s.linksStart.dram = s.dram ∧ s.linksStart.store = s.store ∧ s.linksStart.warp = s.warp ∧
    s.linksStart.weftQueue = s.weftQueue ∧ s.linksStart.command = s.command ∧ s.linksStart.startTick = s.startTick ∧ s.linksStart.eng = s.eng ∧
    s.linksStart.profileChange = s.profileChange := by
  simp [State.linksStart]

@[simp] theorem State.startImages_frame (s : State) :
    s.startImages.rst = s.rst ∧ s.startImages.dram = s.dram ∧ s.startImages.store = s.store ∧ s.startImages.warp = s.warp ∧
    s.startImages.weftQueue = s.weftQueue ∧ s.startImages.command = s.command ∧ s.startImages.startTick = s.startTick ∧ s.startImages.eng = s.eng ∧
    s.startImages.profileChange = s.profileChange := by
  simp [State.startImages]

@[simp] theorem State.showInitial_frame (s : State) :
    s.showInitial.rst = s.rst ∧ s.showInitial.dram = s.dram ∧ s.showInitial.store = s.store ∧ s.showInitial.warp = s.warp ∧
    s.showInitial.weftQueue = s.weftQueue ∧ s.showInitial.command = s.command ∧ s.showInitial.startTick = s.startTick ∧ s.showInitial.eng = s.eng ∧
    s.showInitial.profileChange = s.profileChange := by
  simp [State.showInitial]

@[simp] theorem State.endActivation_frame (s : State) (result detail : Nat) :
    (s.endActivation result detail).rst = s.rst ∧ (s.endActivation result detail).dram = s.dram ∧ (s.endActivation result detail).store = s.store ∧
    (s.endActivation result detail).weftQueue = s.weftQueue ∧ (s.endActivation result detail).command = s.command ∧
    (s.endActivation result detail).startTick = s.startTick ∧ (s.endActivation result detail).eng = s.eng ∧
    (s.endActivation result detail).profileChange = s.profileChange := by
  simp [State.endActivation]

@[simp] theorem State.fixHead_frame (s : State) :
    s.fixHead.rst = s.rst ∧ s.fixHead.dram = s.dram ∧ s.fixHead.store = s.store ∧ s.fixHead.warp = s.warp ∧ s.fixHead.weftQueue = s.weftQueue ∧
    s.fixHead.command = s.command ∧ s.fixHead.startTick = s.startTick ∧ s.fixHead.eng = s.eng ∧ s.fixHead.profileChange = s.profileChange := by
  simp [State.fixHead]

@[simp] theorem State.redraw_frame (s : State) (r : FaceRequest) :
    (s.redraw r).rst = s.rst ∧ (s.redraw r).dram = s.dram ∧ (s.redraw r).store = s.store ∧ (s.redraw r).warp = s.warp ∧
    (s.redraw r).weftQueue = s.weftQueue ∧ (s.redraw r).command = s.command ∧ (s.redraw r).startTick = s.startTick ∧ (s.redraw r).eng = s.eng ∧
    (s.redraw r).profileChange = s.profileChange := by
  simp [State.redraw]

@[simp] theorem State.updateEnd_frame (s : State) (r : FaceRequest) :
    (s.updateEnd r).rst = s.rst ∧ (s.updateEnd r).dram = s.dram ∧ (s.updateEnd r).store = s.store ∧ (s.updateEnd r).warp = s.warp ∧
    (s.updateEnd r).weftQueue = s.weftQueue ∧ (s.updateEnd r).command = s.command ∧ (s.updateEnd r).startTick = s.startTick ∧
    (s.updateEnd r).eng = s.eng ∧ (s.updateEnd r).profileChange = s.profileChange := by
  simp [State.updateEnd]

@[simp] theorem State.reportJournal_frame (s : State) :
    s.reportJournal.rst = s.rst ∧ s.reportJournal.dram = s.dram ∧ s.reportJournal.store = s.store ∧ s.reportJournal.warp = s.warp ∧
    s.reportJournal.weftQueue = s.weftQueue ∧ s.reportJournal.command = s.command ∧ s.reportJournal.startTick = s.startTick ∧
    s.reportJournal.eng = s.eng ∧ s.reportJournal.profileChange = s.profileChange := by
  unfold State.reportJournal
  dsimp only
  (repeat' split) <;> simp

@[simp] theorem State.finishBurn_frame (s : State) :
    s.finishBurn.rst = s.rst ∧ s.finishBurn.dram = s.dram ∧ s.finishBurn.store = s.store ∧ s.finishBurn.warp = s.warp ∧
    s.finishBurn.weftQueue = s.weftQueue ∧ s.finishBurn.command = s.command ∧ s.finishBurn.startTick = s.startTick ∧ s.finishBurn.eng = s.eng ∧
    s.finishBurn.profileChange = s.profileChange := by
  unfold State.finishBurn
  split <;> simp

@[simp] theorem State.startKeys_frame (s : State) :
    s.startKeys.rst = s.rst ∧ s.startKeys.dram = s.dram ∧ s.startKeys.store = s.store ∧ s.startKeys.warp = s.warp ∧
    s.startKeys.weftQueue = s.weftQueue ∧ s.startKeys.command = s.command ∧ s.startKeys.startTick = s.startTick ∧ s.startKeys.eng = s.eng ∧
    s.startKeys.profileChange = s.profileChange := by
  simp [State.startKeys]

@[simp] theorem State.clearFirmware_frame (s : State) (k : Nat) :
    (s.clearFirmware k).rst = s.rst ∧ (s.clearFirmware k).dram = s.dram ∧ (s.clearFirmware k).store = s.store ∧ (s.clearFirmware k).warp = s.warp ∧
    (s.clearFirmware k).weftQueue = s.weftQueue ∧ (s.clearFirmware k).command = s.command ∧ (s.clearFirmware k).startTick = s.startTick ∧
    (s.clearFirmware k).eng = s.eng ∧ (s.clearFirmware k).profileChange = s.profileChange := by
  simp [State.clearFirmware]

@[simp] theorem State.verifyFirmware_frame (s : State) (k : Fin 2) :
    (s.verifyFirmware k).rst = s.rst ∧ (s.verifyFirmware k).dram = s.dram ∧ (s.verifyFirmware k).store = s.store ∧
    (s.verifyFirmware k).warp = s.warp ∧ (s.verifyFirmware k).weftQueue = s.weftQueue ∧ (s.verifyFirmware k).command = s.command ∧
    (s.verifyFirmware k).startTick = s.startTick ∧ (s.verifyFirmware k).eng = s.eng ∧ (s.verifyFirmware k).profileChange = s.profileChange := by
  simp [State.verifyFirmware]

@[simp] theorem State.secureBoot_frame (s : State) (selects : Bool) :
    (s.secureBoot selects).rst = s.rst ∧ (s.secureBoot selects).dram = s.dram ∧ (s.secureBoot selects).store = s.store ∧
    (s.secureBoot selects).warp = s.warp ∧ (s.secureBoot selects).weftQueue = s.weftQueue ∧ (s.secureBoot selects).command = s.command ∧
    (s.secureBoot selects).startTick = s.startTick ∧ (s.secureBoot selects).eng = s.eng ∧ (s.secureBoot selects).profileChange = s.profileChange := by
  unfold State.secureBoot
  dsimp only
  (repeat' split) <;> simp

@[simp] theorem State.firmwareStarted_frame (s : State) :
    s.firmwareStarted.rst = s.rst ∧ s.firmwareStarted.dram = s.dram ∧ s.firmwareStarted.store = s.store ∧ s.firmwareStarted.warp = s.warp ∧
    s.firmwareStarted.weftQueue = s.weftQueue ∧ s.firmwareStarted.command = s.command ∧ s.firmwareStarted.startTick = s.startTick ∧
    s.firmwareStarted.eng = s.eng ∧ s.firmwareStarted.profileChange = s.profileChange := by
  unfold State.firmwareStarted
  split <;> simp

@[simp] theorem State.sendSeam_frame (s : State) (type : Nat) (payload : Bytes) :
    (s.sendSeam type payload).rst = s.rst ∧ (s.sendSeam type payload).dram = s.dram ∧ (s.sendSeam type payload).store = s.store ∧
    (s.sendSeam type payload).warp = s.warp ∧ (s.sendSeam type payload).weftQueue = s.weftQueue ∧ (s.sendSeam type payload).command = s.command ∧
    (s.sendSeam type payload).startTick = s.startTick ∧ (s.sendSeam type payload).eng = s.eng ∧
    (s.sendSeam type payload).profileChange = s.profileChange := by
  unfold State.sendSeam
  split <;> simp

@[simp] theorem State.sidebandsNow_frame (s : State) :
    s.sidebandsNow.rst = s.rst ∧ s.sidebandsNow.dram = s.dram ∧ s.sidebandsNow.store = s.store ∧ s.sidebandsNow.warp = s.warp ∧
    s.sidebandsNow.weftQueue = s.weftQueue ∧ s.sidebandsNow.command = s.command ∧ s.sidebandsNow.startTick = s.startTick ∧
    s.sidebandsNow.eng = s.eng ∧ s.sidebandsNow.profileChange = s.profileChange := by
  simp [State.sidebandsNow]

@[simp] theorem State.fenceActs_frame (s : State) :
    s.fenceActs.dram = s.dram ∧ s.fenceActs.store = s.store ∧ s.fenceActs.warp = s.warp ∧ s.fenceActs.weftQueue = s.weftQueue ∧
    s.fenceActs.command = s.command ∧ s.fenceActs.startTick = s.startTick ∧ s.fenceActs.eng = s.eng ∧ s.fenceActs.profileChange = s.profileChange := by
  simp [State.fenceActs]

@[simp] theorem State.setFence_frame (s : State) (on : Bool) :
    (s.setFence on).dram = s.dram ∧ (s.setFence on).store = s.store ∧ (s.setFence on).warp = s.warp ∧ (s.setFence on).weftQueue = s.weftQueue ∧
    (s.setFence on).command = s.command ∧ (s.setFence on).startTick = s.startTick ∧ (s.setFence on).eng = s.eng ∧
    (s.setFence on).profileChange = s.profileChange := by
  simp [State.setFence]

@[simp] theorem State.refreshHello_frame (s : State) :
    s.refreshHello.rst = s.rst ∧ s.refreshHello.dram = s.dram ∧ s.refreshHello.store = s.store ∧ s.refreshHello.warp = s.warp ∧
    s.refreshHello.weftQueue = s.weftQueue ∧ s.refreshHello.command = s.command ∧ s.refreshHello.startTick = s.startTick ∧
    s.refreshHello.eng = s.eng ∧ s.refreshHello.profileChange = s.profileChange := by
  simp [State.refreshHello]

@[simp] theorem State.verifyBank_frame (s : State) (k : Nat) :
    (s.verifyBank k).rst = s.rst ∧ (s.verifyBank k).dram = s.dram ∧ (s.verifyBank k).store = s.store ∧ (s.verifyBank k).warp = s.warp ∧
    (s.verifyBank k).weftQueue = s.weftQueue ∧ (s.verifyBank k).command = s.command ∧ (s.verifyBank k).startTick = s.startTick ∧
    (s.verifyBank k).eng = s.eng ∧ (s.verifyBank k).profileChange = s.profileChange := by
  unfold State.verifyBank
  dsimp only
  (repeat' split) <;> simp

@[simp] theorem State.refuseAbsent_frame (s : State) (k : Nat) :
    (s.refuseAbsent k).rst = s.rst ∧ (s.refuseAbsent k).dram = s.dram ∧ (s.refuseAbsent k).store = s.store ∧ (s.refuseAbsent k).warp = s.warp ∧
    (s.refuseAbsent k).weftQueue = s.weftQueue ∧ (s.refuseAbsent k).command = s.command ∧ (s.refuseAbsent k).startTick = s.startTick ∧
    (s.refuseAbsent k).eng = s.eng ∧ (s.refuseAbsent k).profileChange = s.profileChange := by
  simp [State.refuseAbsent]

@[simp] theorem State.applyGates_frame (s : State) (t : Nat) :
    (s.applyGates t).rst = s.rst ∧ (s.applyGates t).dram = s.dram ∧ (s.applyGates t).store = s.store ∧ (s.applyGates t).warp = s.warp ∧
    (s.applyGates t).weftQueue = s.weftQueue ∧ (s.applyGates t).command = s.command ∧ (s.applyGates t).startTick = s.startTick ∧
    (s.applyGates t).profileChange = s.profileChange := by
  simp [State.applyGates]

@[simp] theorem State.changePoint_frame (s : State) (mhz mv : Nat) :
    (s.changePoint mhz mv).rst = s.rst ∧ (s.changePoint mhz mv).dram = s.dram ∧ (s.changePoint mhz mv).store = s.store ∧
    (s.changePoint mhz mv).warp = s.warp ∧ (s.changePoint mhz mv).weftQueue = s.weftQueue ∧ (s.changePoint mhz mv).command = s.command ∧
    (s.changePoint mhz mv).startTick = s.startTick ∧ (s.changePoint mhz mv).eng = s.eng ∧ (s.changePoint mhz mv).profileChange = s.profileChange := by
  simp [State.changePoint]

@[simp] theorem State.applySetting_frame (s : State) (t : Nat) :
    (s.applySetting t).rst = s.rst ∧ (s.applySetting t).dram = s.dram ∧ (s.applySetting t).store = s.store ∧ (s.applySetting t).warp = s.warp ∧
    (s.applySetting t).weftQueue = s.weftQueue ∧ (s.applySetting t).command = s.command ∧ (s.applySetting t).startTick = s.startTick ∧
    (s.applySetting t).profileChange = s.profileChange := by
  simp [State.applySetting]

@[simp] theorem State.prpSend_frame (s : State) (kind : SentKind) (peer : Nat) (station : Bool) (head : NetHead) (data : Bytes) :
    (s.prpSend kind peer station head data).rst = s.rst ∧ (s.prpSend kind peer station head data).dram = s.dram ∧
    (s.prpSend kind peer station head data).store = s.store ∧ (s.prpSend kind peer station head data).warp = s.warp ∧
    (s.prpSend kind peer station head data).weftQueue = s.weftQueue ∧ (s.prpSend kind peer station head data).command = s.command ∧
    (s.prpSend kind peer station head data).startTick = s.startTick ∧ (s.prpSend kind peer station head data).eng = s.eng ∧
    (s.prpSend kind peer station head data).profileChange = s.profileChange := by
  simp [State.prpSend]

@[simp] theorem State.announceIp_frame (s : State) (station : Bool) :
    (s.announceIp station).rst = s.rst ∧ (s.announceIp station).dram = s.dram ∧ (s.announceIp station).store = s.store ∧
    (s.announceIp station).warp = s.warp ∧ (s.announceIp station).weftQueue = s.weftQueue ∧ (s.announceIp station).command = s.command ∧
    (s.announceIp station).startTick = s.startTick ∧ (s.announceIp station).eng = s.eng ∧ (s.announceIp station).profileChange = s.profileChange := by
  simp [State.announceIp]

@[simp] theorem State.reportGroups_frame (s : State) :
    s.reportGroups.rst = s.rst ∧ s.reportGroups.dram = s.dram ∧ s.reportGroups.store = s.store ∧ s.reportGroups.warp = s.warp ∧
    s.reportGroups.weftQueue = s.weftQueue ∧ s.reportGroups.command = s.command ∧ s.reportGroups.startTick = s.startTick ∧
    s.reportGroups.eng = s.eng ∧ s.reportGroups.profileChange = s.profileChange := by
  simp [State.reportGroups]

@[simp] theorem State.announceAll_frame (s : State) :
    s.announceAll.rst = s.rst ∧ s.announceAll.dram = s.dram ∧ s.announceAll.store = s.store ∧ s.announceAll.warp = s.warp ∧
    s.announceAll.weftQueue = s.weftQueue ∧ s.announceAll.command = s.command ∧ s.announceAll.startTick = s.startTick ∧ s.announceAll.eng = s.eng ∧
    s.announceAll.profileChange = s.profileChange := by
  simp [State.announceAll]

@[simp] theorem State.dropActivation_frame (s : State) :
    s.dropActivation.rst = s.rst ∧ s.dropActivation.dram = s.dram ∧ s.dropActivation.store = s.store ∧ s.dropActivation.weftQueue = s.weftQueue ∧
    s.dropActivation.command = s.command ∧ s.dropActivation.startTick = s.startTick ∧ s.dropActivation.eng = s.eng ∧
    s.dropActivation.profileChange = s.profileChange := by
  simp [State.dropActivation]

@[simp] theorem State.leaveRun_frame (s : State) (target : Mode) :
    (s.leaveRun target).dram = s.dram ∧ (s.leaveRun target).store = s.store ∧ (s.leaveRun target).warp = s.warp ∧
    (s.leaveRun target).weftQueue = s.weftQueue := by
  simp [State.leaveRun]

@[simp] theorem State.commandDone_frame (s : State) (ok : Bool) :
    (s.commandDone ok).rst = s.rst ∧ (s.commandDone ok).dram = s.dram ∧ (s.commandDone ok).store = s.store ∧ (s.commandDone ok).warp = s.warp ∧
    (s.commandDone ok).weftQueue = s.weftQueue ∧ (s.commandDone ok).startTick = s.startTick ∧ (s.commandDone ok).eng = s.eng ∧
    (s.commandDone ok).profileChange = s.profileChange := by
  simp [State.commandDone]

@[simp] theorem State.dropBankCopy_frame (s : State) :
    s.dropBankCopy.rst = s.rst ∧ s.dropBankCopy.dram = s.dram ∧ s.dropBankCopy.store = s.store ∧ s.dropBankCopy.warp = s.warp ∧
    s.dropBankCopy.weftQueue = s.weftQueue ∧ s.dropBankCopy.command = s.command ∧ s.dropBankCopy.startTick = s.startTick ∧
    s.dropBankCopy.eng = s.eng ∧ s.dropBankCopy.profileChange = s.profileChange := by
  unfold State.dropBankCopy
  split <;> simp

@[simp] theorem State.seamLost_frame (s : State) (state : Nat) :
    (s.seamLost state).rst = s.rst ∧ (s.seamLost state).dram = s.dram ∧ (s.seamLost state).store = s.store ∧ (s.seamLost state).warp = s.warp ∧
    (s.seamLost state).weftQueue = s.weftQueue ∧ (s.seamLost state).command = s.command ∧ (s.seamLost state).startTick = s.startTick ∧
    (s.seamLost state).eng = s.eng ∧ (s.seamLost state).profileChange = s.profileChange := by
  simp [State.seamLost]

@[simp] theorem State.dropContent_frame (s : State) (a : Nat) :
    (s.dropContent a).rst = s.rst ∧ (s.dropContent a).dram = s.dram ∧ (s.dropContent a).store = s.store ∧ (s.dropContent a).warp = s.warp ∧
    (s.dropContent a).weftQueue = s.weftQueue ∧ (s.dropContent a).command = s.command ∧ (s.dropContent a).startTick = s.startTick ∧
    (s.dropContent a).eng = s.eng ∧ (s.dropContent a).profileChange = s.profileChange := by
  simp [State.dropContent]

@[simp] theorem State.dropTransfer_frame (s : State) (t : Transfer) :
    (s.dropTransfer t).rst = s.rst ∧ (s.dropTransfer t).dram = s.dram ∧ (s.dropTransfer t).store = s.store ∧ (s.dropTransfer t).warp = s.warp ∧
    (s.dropTransfer t).weftQueue = s.weftQueue ∧ (s.dropTransfer t).command = s.command ∧ (s.dropTransfer t).startTick = s.startTick ∧
    (s.dropTransfer t).eng = s.eng ∧ (s.dropTransfer t).profileChange = s.profileChange := by
  simp [State.dropTransfer]

@[simp] theorem State.clpRestart_frame (s : State) :
    s.clpRestart.rst = s.rst ∧ s.clpRestart.dram = s.dram ∧ s.clpRestart.store = s.store ∧ s.clpRestart.warp = s.warp ∧
    s.clpRestart.weftQueue = s.weftQueue ∧ s.clpRestart.command = s.command ∧ s.clpRestart.startTick = s.startTick ∧ s.clpRestart.eng = s.eng ∧
    s.clpRestart.profileChange = s.profileChange := by
  simp [State.clpRestart]

@[simp] theorem State.loadStored_frame (s : State) (damaged : List Nat) :
    (s.loadStored damaged).rst = s.rst ∧ (s.loadStored damaged).dram = s.dram ∧ (s.loadStored damaged).store = s.store ∧
    (s.loadStored damaged).warp = s.warp ∧ (s.loadStored damaged).weftQueue = s.weftQueue ∧ (s.loadStored damaged).command = s.command ∧
    (s.loadStored damaged).startTick = s.startTick ∧ (s.loadStored damaged).eng = s.eng ∧ (s.loadStored damaged).profileChange = s.profileChange := by
  simp [State.loadStored]

@[simp] theorem State.repairOptions_frame (s : State) :
    s.repairOptions.rst = s.rst ∧ s.repairOptions.dram = s.dram ∧ s.repairOptions.store = s.store ∧ s.repairOptions.warp = s.warp ∧
    s.repairOptions.weftQueue = s.weftQueue ∧ s.repairOptions.command = s.command ∧ s.repairOptions.startTick = s.startTick ∧
    s.repairOptions.eng = s.eng ∧ s.repairOptions.profileChange = s.profileChange := by
  unfold State.repairOptions
  dsimp only
  (repeat' split) <;> simp

@[simp] theorem State.startIdentity_frame (s : State) (addr : Nat) (roleHigh : Bool) :
    (s.startIdentity addr roleHigh).rst = s.rst ∧ (s.startIdentity addr roleHigh).dram = s.dram ∧ (s.startIdentity addr roleHigh).store = s.store ∧
    (s.startIdentity addr roleHigh).warp = s.warp ∧ (s.startIdentity addr roleHigh).weftQueue = s.weftQueue ∧
    (s.startIdentity addr roleHigh).command = s.command ∧ (s.startIdentity addr roleHigh).startTick = s.startTick ∧
    (s.startIdentity addr roleHigh).eng = s.eng ∧ (s.startIdentity addr roleHigh).profileChange = s.profileChange := by
  simp [State.startIdentity]

@[simp] theorem State.clpStart_frame (s : State) :
    s.clpStart.rst = s.rst ∧ s.clpStart.dram = s.dram ∧ s.clpStart.store = s.store ∧ s.clpStart.warp = s.warp ∧
    s.clpStart.weftQueue = s.weftQueue ∧ s.clpStart.command = s.command ∧ s.clpStart.startTick = s.startTick ∧ s.clpStart.eng = s.eng ∧
    s.clpStart.profileChange = s.profileChange := by
  simp [State.clpStart]

end Sys2Proof.Machine

end

section

namespace Sys2Proof.Machine

/-! ### UNLOAD and LAYUP (Table 1-7) -/

theorem canRefresh_obj (s : State) {a : Nat} (h : ∀ k : Fin 8, a ≠ Obj.canState k.val) : s.canRefresh.obj a = s.obj a := by
  unfold State.canRefresh
  exact foldl_keeps (State.obj · a) (fun _ k => obj_setNum_ne _ _ (h k)) _ _

theorem canRefresh_num (s : State) {a : Nat} (h : ∀ k : Fin 8, a ≠ Obj.canState k.val) : s.canRefresh.num a = s.num a := by
  unfold State.num
  rw [canRefresh_obj s h]

theorem unload_taken {s : State} {r : Req} (h : s.WriteTaken r Obj.stationCommand [2]) :
    let t := s.commandWrite r 2
    t.Answers r 0 ∧ t.mode = .service ∧ t.warp.loaded = none ∧ t.num Obj.activeProfile = 0 ∧ t.num Obj.commandResult = 2 ∧
      t.profileChange = none ∧ t.keys = s.keys := by
  obtain ⟨p, hp, ha, ht⟩ := stationCommand_taken (n := 2) (by decide) h
  have hm : (p.takeCommand 2).mode = .service := by simp [State.takeCommand]
  simp only [hm, if_neg (show ¬ Mode.service = Mode.run by decide)] at ht
  obtain ⟨hmode, -, hkeys, hwarp, -⟩ := (ht []).fields
  have hn : ∀ a, (∀ k : Fin 8, a ≠ Obj.canState k.val) → a ∉ requestObjects → (s.commandWrite r 2).num a =
      ((({ p.noAuto with mode := .service, profileChange := none } : State).releaseWarp.setNum Obj.activeProfile 0).setNum Obj.commandResult 2).num a := by
    intro a hc hr
    rw [(ht []).num (by simpa using hr)]
    exact canRefresh_num _ hc
  refine ⟨ha, hmode.trans hm, ?_, ?_, ?_, ?_, ?_⟩
  · rw [hwarp]
    simp [State.takeCommand, State.releaseWarp]
  · rw [hn _ (by decide) (by decide), num_setNum_ne _ _ (by decide), num_setNum_self]
    rfl
  · rw [hn _ (by decide) (by decide), num_setNum_self]
    rfl
  · rw [(ht []).rest]
    simp [State.takeCommand]
  · rw [hkeys, ← (hp []).fields.2.2.1]
    simp [State.takeCommand]

@[simp] theorem fenceActs_layup (s : State) : s.fenceActs.rst.layup = s.rst.layup := by
  have ha : ∀ u : State, (u.assertSource .fence .s).rst.layup = u.rst.layup := fun u => by
    unfold State.assertSource
    split <;> rfl
  unfold State.fenceActs
  split
  · split
    · rfl
    · simp [ha]
  · rfl

@[simp] theorem setFence_layup (s : State) (on : Bool) : (s.setFence on).rst.layup = s.rst.layup := by
  unfold State.setFence
  split
  · rfl
  · cases on <;> simp

theorem enterLayup_effect (s : State) : s.enterLayup.rst.layup = some s.mode ∧ s.enterLayup.dram = s.dram ∧
    s.enterLayup.num Obj.commandResult = 2 ∧ s.enterLayup.keys = s.keys := by
  refine ⟨?_, ?_, num_setNum_self .., ?_⟩ <;> simp [State.enterLayup, State.noAuto]

theorem layup_taken {s : State} {r : Req} (h : s.WriteTaken r Obj.stationCommand [6]) :
    let t := s.commandWrite r 6
    t.Answers r 0 ∧ t.mode = .layup ∧ t.rst.layup = some s.mode ∧ t.num Obj.commandResult = 2 ∧ t.keys = s.keys ∧ t.dram = s.dram := by
  obtain ⟨p, hp, ha, ht⟩ := stationCommand_taken (n := 6) (by decide) h
  have hm : (p.takeCommand 6).mode = .layup := State.enterLayup_mode p
  simp only [hm, if_neg (show ¬ Mode.layup = Mode.run by decide)] at ht
  obtain ⟨hmode, -, hkeys, -, hrst⟩ := (ht []).fields
  obtain ⟨pmode, -, pkeys, -, -⟩ := (hp []).fields
  obtain ⟨h1, h2, h3, h4⟩ := enterLayup_effect p
  refine ⟨ha, hmode.trans hm, ?_, ?_, ?_, ?_⟩
  · rw [hrst, ← pmode]
    exact h1
  · rw [(ht []).num (by decide)]
    exact h3
  · rw [hkeys, ← pkeys]
    exact h4
  · rw [(ht []).rest]
    show p.enterLayup.dram = s.dram
    rw [h2, (hp []).rest]

end Sys2Proof.Machine

end

section

open Sys2Proof Sys2Proof.Machine

/-- Settles O14, write by write. -/
theorem stationWritesTakeEffect : Obligations.StationWritesTakeEffect := by
  refine ⟨fun s r => ⟨load_taken, fun h => ⟨_, rfl, unload_taken h⟩, ?_, fun h => ⟨_, rfl, layup_taken h⟩⟩, fun s r v w d => ⟨?_, ?_, ?_, ?_, ?_, ?_⟩⟩
  · rintro n i hi h
    have hn : n = 3 ∨ n = 4 ∨ n = 5 := hi.imp And.left (Or.imp And.left And.left)
    rcases hi with ⟨rfl, rfl⟩ | ⟨rfl, rfl⟩ | ⟨rfl, rfl⟩ <;> exact ⟨_, rfl, boundaryCommand_taken hn h⟩
  · exact fun h => ⟨_, rfl, profile_taken h⟩
  · intro h
    obtain ⟨a1, a2, a3, a4⟩ := resetRequest_taken (t := s.writeRequest r Obj.resetRequest [v]) rfl h
    obtain ⟨b1, b2, -, b4⟩ := resetRequest_taken (command := Cmd.reset) rfl h
    exact ⟨⟨_, rfl, a1, a2, a3, a4⟩, _, rfl, b1, b2, b4⟩
  · exact fun h => ⟨_, rfl, restoreCommand_taken h⟩
  · exact fun h => ⟨_, rfl, resetCauseClear_taken h⟩
  · intro h
    obtain ⟨a, ha⟩ := activateBank_taken h
    exact ⟨_, a, rfl, ha⟩
  · exact fun h hs => ⟨_, rfl, activateCancel_taken h hs⟩

end

section

namespace Sys2Proof.Machine

/-! ### Firmware banks (R503, R504, R506) -/

/-- The two states agree on what the verification of a firmware bank looks at. -/
structure State.SameImages (s t : State) : Prop where
  delivered : t.firmware.delivered = s.firmware.delivered
  keys : t.keys = s.keys
  content : ∀ k : Fin 2, (t.domain (firmwareDomain k.val)).content = (s.domain (firmwareDomain k.val)).content

theorem State.SameImages.trans {s t u : State} (h : s.SameImages t) (g : t.SameImages u) : s.SameImages u :=
  ⟨g.delivered.trans h.delivered, g.keys.trans h.keys, fun k => (g.content k).trans (h.content k)⟩

theorem State.SameImages.info {s t : State} (h : s.SameImages t) (k : Fin 2) : t.firmwareInfo k = s.firmwareInfo k := by
  unfold State.firmwareInfo
  rw [h.delivered, h.content]

theorem State.SameImages.params {s t : State} (h : s.SameImages t) (k : Fin 2) : t.firmwareParams k = s.firmwareParams k := by
  unfold State.firmwareParams
  rw [h.info]

theorem State.SameImages.refusal {s t : State} (h : s.SameImages t) (k : Fin 2) : t.firmwareRefusalOf k = s.firmwareRefusalOf k := by
  unfold State.firmwareRefusalOf
  simp only [h.delivered, h.content, h.info, h.keys]

theorem State.SameImages.valid {s t : State} (h : s.SameImages t) (k : Fin 2) : t.firmwareValid k = s.firmwareValid k := by
  unfold State.firmwareValid State.firmwareEmpty
  rw [h.delivered, h.content, h.refusal]

theorem firmwareRefusalOf_lt (s : State) (k : Fin 2) : s.firmwareRefusalOf k < 256 := by
  have hf : ∀ b, firmwareForm b < 256 := fun b => by
    unfold firmwareForm
    dsimp only
    (repeat' split) <;> decide
  unfold State.firmwareRefusalOf
  extract_lets b i form slot
  have hform : form < 256 := by
    dsimp only [form]
    split
    · decide
    · exact hf b
  clear_value form
  (repeat' split) <;> omega

theorem firmwareDomain_ne {j k : Fin 2} (h : j ≠ k) : firmwareDomain j.val ≠ firmwareDomain k.val := by
  revert j k; decide

/-- The objects of a firmware bank have addresses of their own. -/
theorem firmwareObjects_apart (k : Fin 2) :
    Obj.firmwareRefusal k.val ∉ [versionObj k.val, firmwareDigestObj k.val] ∧
    Obj.firmwareBankState k.val ∉ [Obj.firmwareRefusal k.val, versionObj k.val, firmwareDigestObj k.val] ∧
    (∀ a ∈ firmwareObjects k.val, a ∉ Obj.auditTallies :: overflowAddr Obj.auditTallies :: tallyObjects ∧ a ≠ Obj.moduleNode) ∧
    objSize (Obj.firmwareRefusal k.val) = 2 ∧ objSize (Obj.firmwareBankState k.val) = 1 := by
  revert k; decide

/-- The verification of a bank that holds an image (R503). -/
def State.firmwareJudged (s : State) (k : Fin 2) : State :=
  ((((s.setDomain (firmwareDomain k.val) { s.domain (firmwareDomain k.val) with status := if s.firmwareRefusalOf k = 0 then 1 else 4 }).setNum
    (Obj.firmwareBankState k.val) (if s.firmwareRefusalOf k = 0 then 3 else 4)).setNum (Obj.firmwareRefusal k.val) (s.firmwareRefusalOf k)).setNum
      (versionObj k.val) (s.firmwareInfo k).version).setObj (firmwareDigestObj k.val) (s.firmwareInfo k).digest

theorem sameImages_judged (s : State) (k : Fin 2) : s.SameImages (s.firmwareJudged k) := by
  refine ⟨rfl, rfl, fun j => ?_⟩
  unfold State.domain
  show ((Assoc.get? (Assoc.set s.domains (firmwareDomain k.val) _) (firmwareDomain j.val)).getD ⟨[], 0⟩).content = _
  by_cases h : j = k
  · rw [h, assoc_get_set_self]
    rfl
  · rw [assoc_get_set_ne _ _ (firmwareDomain_ne h)]

theorem verifyFirmware_eq {s : State} {k : Fin 2} (h : s.firmwareEmpty k = false) :
    s.verifyFirmware k = if s.firmwareRefusalOf k = 0 then (s.firmwareJudged k).logTally 0x0703 (s.firmwareParams k)
      else (s.firmwareJudged k).logTally 0x0704 [k.val, s.firmwareRefusalOf k] := by
  rw [← (sameImages_judged s k).params k]
  unfold State.verifyFirmware
  rw [h]
  rfl

/-- Verification moves the bank's objects, its descriptor and the log. -/
theorem verifyFirmware_rest (s : State) (k : Fin 2) :
    s.verifyFirmware k = { s with dict := (s.verifyFirmware k).dict, domains := (s.verifyFirmware k).domains, tally := (s.verifyFirmware k).tally } := by
  cases h : s.firmwareEmpty k
  · rw [verifyFirmware_eq h]
    split <;> rw [logTally_rest] <;> rfl
  · unfold State.verifyFirmware
    rw [h]
    rfl

theorem sameImages_verifyFirmware (s : State) (k : Fin 2) : s.SameImages (s.verifyFirmware k) := by
  cases h : s.firmwareEmpty k
  · have hj := sameImages_judged s k
    rw [verifyFirmware_eq h]
    refine hj.trans ?_
    split <;> rw [logTally_rest] <;> exact ⟨rfl, rfl, fun _ => rfl⟩
  · unfold State.verifyFirmware
    rw [h]
    exact ⟨rfl, rfl, fun _ => rfl⟩

theorem verifyFirmware_extends (s : State) (k : Fin 2) : s.tally.Extends (s.verifyFirmware k).tally := by
  cases h : s.firmwareEmpty k
  · rw [verifyFirmware_eq h]
    split <;> exact logDraft_extends (s.firmwareJudged k) _
  · unfold State.verifyFirmware
    rw [h]
    exact TallyLog.extends_refl _

/-- A bank that holds an image ends VALID or REFUSED with its code, and its tally. -/
theorem verifyFirmware_judges {s : State} {k : Fin 2} (h : s.firmwareEmpty k = false) :
    (s.verifyFirmware k).num (Obj.firmwareRefusal k.val) = s.firmwareRefusalOf k ∧
    (s.verifyFirmware k).num (Obj.firmwareBankState k.val) = (if s.firmwareRefusalOf k = 0 then 3 else 4) ∧
    ((s.verifyFirmware k).domain (firmwareDomain k.val)).status = (if s.firmwareRefusalOf k = 0 then 1 else 4) := by
  obtain ⟨h1, h2, h3, h4, h5⟩ := firmwareObjects_apart k
  simp only [List.mem_cons, List.not_mem_nil, or_false, not_or] at h1 h2
  have hlog : ∀ c p a, a ∈ firmwareObjects k.val → ((s.firmwareJudged k).logTally c p).num a = (s.firmwareJudged k).num a := fun c p a ha =>
    logTally_num _ _ _ fun hm => (h3 a ha).1 (List.mem_cons_of_mem _ (List.mem_cons_of_mem _ hm))
  have hr : (s.firmwareJudged k).num (Obj.firmwareRefusal k.val) = s.firmwareRefusalOf k := by
    unfold State.firmwareJudged
    rw [num_setObj_ne _ _ h1.2, num_setNum_ne _ _ h1.1, num_setNum_self, h4]
    exact Nat.mod_eq_of_lt (Nat.lt_of_lt_of_le (firmwareRefusalOf_lt s k) (by decide))
  have hb : (s.firmwareJudged k).num (Obj.firmwareBankState k.val) = if s.firmwareRefusalOf k = 0 then 3 else 4 := by
    unfold State.firmwareJudged
    rw [num_setObj_ne _ _ h2.2.2, num_setNum_ne _ _ h2.2.1, num_setNum_ne _ _ h2.1, num_setNum_self, h5]
    split <;> rfl
  have hd : ((s.firmwareJudged k).domain (firmwareDomain k.val)).status = if s.firmwareRefusalOf k = 0 then 1 else 4 := by
    unfold State.domain
    show ((Assoc.get? (Assoc.set s.domains (firmwareDomain k.val) _) (firmwareDomain k.val)).getD ⟨[], 0⟩).status = _
    rw [assoc_get_set_self]
    rfl
  have hdl : ∀ c p, ((s.firmwareJudged k).logTally c p).domain (firmwareDomain k.val) = (s.firmwareJudged k).domain (firmwareDomain k.val) :=
    fun c p => by rw [logTally_rest]; rfl
  rw [verifyFirmware_eq h]
  split
  · rename_i hc
    rw [hlog _ _ _ (by simp [firmwareObjects]), hlog _ _ _ (by simp [firmwareObjects]), hdl, hr, hb, hd, if_pos hc, if_pos hc]
    exact ⟨rfl, rfl, rfl⟩
  · rename_i hc
    rw [hlog _ _ _ (by simp [firmwareObjects]), hlog _ _ _ (by simp [firmwareObjects]), hdl, hr, hb, hd, if_neg hc, if_neg hc]
    exact ⟨rfl, rfl, rfl⟩

end Sys2Proof.Machine

end

section

namespace Sys2Proof.Machine

/-- What the row of a verification does beside it: the audit of the bank that a transfer had filled. -/
theorem firmwareVerified_taken {s : State} {k : Fin 2} (h : s.num (Obj.firmwareBankState k.val) = 2) :
    ∃ t, exec (.firmwareVerified k) s = .next t ∧ t.keys = s.keys ∧ t.firmware = s.firmware ∧ t.domains = (s.verifyFirmware k).domains ∧
      (s.verifyFirmware k).tally.Grows t.tally 4 ∧ t.timeNs = s.timeNs ∧
      ∀ a, a ∉ Obj.auditTallies :: overflowAddr Obj.auditTallies :: tallyObjects → t.num a = (s.verifyFirmware k).num a := by
  have hrest := verifyFirmware_rest s k
  have haudit : ∀ (u : State) (r : Req) (a : Nat) (v : Bytes), u.tally.Grows (u.audit r a 15 v).tally 4 ∧
      u.audit r a 15 v = { u with dict := (u.audit r a 15 v).dict, tally := (u.audit r a 15 v).tally } ∧
      ∀ q, q ∉ Obj.auditTallies :: overflowAddr Obj.auditTallies :: tallyObjects → (u.audit r a 15 v).num q = u.num q := fun u r a v => by
    simp only [List.mem_cons, not_or]
    refine ⟨(logDraft_grows ..).trans (count_grows ..), ?_, fun q hq => ?_⟩
    · unfold State.audit
      dsimp only
      rw [count_rest, logDraft_rest]
    · unfold State.num State.audit
      dsimp only
      rw [count_obj _ _ hq.1 hq.2.1 hq.2.2, logDraft_obj _ _ hq.2.2]
  generalize hv : s.verifyFirmware k = u at hrest ⊢
  have hu : u.keys = s.keys ∧ u.firmware = s.firmware ∧ u.timeNs = s.timeNs := by rw [hrest]; exact ⟨rfl, rfl, rfl⟩
  show ∃ t, execFirmwareVerified k s = _ ∧ _
  unfold execFirmwareVerified
  rw [if_pos h, hv]
  dsimp only
  split
  · rename_i r _ _
    obtain ⟨hg, hr, hn⟩ := haudit u r (firmwareDomain k.val) (u.domain (firmwareDomain k.val)).content
    generalize u.audit r (firmwareDomain k.val) 15 (u.domain (firmwareDomain k.val)).content = w at hg hr hn ⊢
    have hw : w.keys = u.keys ∧ w.firmware = u.firmware ∧ w.domains = u.domains ∧ w.timeNs = u.timeNs := by rw [hr]; exact ⟨rfl, rfl, rfl, rfl⟩
    exact ⟨_, rfl, hw.1.trans hu.1, hw.2.1.trans hu.2.1, hw.2.2.1, hg, hw.2.2.2.trans hu.2.2, hn⟩
  · exact ⟨_, rfl, hu.1, hu.2.1, rfl, .refl .., hu.2.2, fun _ _ => rfl⟩

theorem firmwareVerified_ends {s : State} {k : Fin 2} (h : s.num (Obj.firmwareBankState k.val) = 2) (he : s.firmwareEmpty k = false) :
    ∃ t, exec (.firmwareVerified k) s = .next t ∧ t.keys = s.keys ∧ t.firmware = s.firmware ∧
      t.num (Obj.firmwareRefusal k.val) = s.firmwareRefusalOf k ∧
      (s.firmwareRefusalOf k = 0 → t.num (Obj.firmwareBankState k.val) = 3 ∧ (t.domain (firmwareDomain k.val)).status = 1 ∧
        s.Wrote t 0x0703 (s.firmwareParams k)) ∧
      (s.firmwareRefusalOf k ≠ 0 → t.num (Obj.firmwareBankState k.val) = 4 ∧ (t.domain (firmwareDomain k.val)).status = 4 ∧
        s.Wrote t 0x0704 [k.val, s.firmwareRefusalOf k]) := by
  obtain ⟨t, ht, hkeys, hfw, hdom, hg, htime, hn⟩ := firmwareVerified_taken h
  obtain ⟨hr, hb, hd⟩ := verifyFirmware_judges he
  obtain ⟨-, -, hapart, -, -⟩ := firmwareObjects_apart k
  have hb' : t.num (Obj.firmwareBankState k.val) = if s.firmwareRefusalOf k = 0 then 3 else 4 := by
    rw [hn _ (hapart _ (by simp [firmwareObjects])).1, hb]
  have hd' : (t.domain (firmwareDomain k.val)).status = if s.firmwareRefusalOf k = 0 then 1 else 4 := by
    rw [← hd]
    unfold State.domain
    rw [hdom]
  have hnode : t.num Obj.moduleNode = (s.firmwareJudged k).num Obj.moduleNode := by
    rw [hn _ (by decide), verifyFirmware_eq he]
    split <;> exact logTally_num _ _ _ (by decide)
  have hx : s.tally.Extends (s.firmwareJudged k).tally := TallyLog.extends_refl _
  refine ⟨t, ht, hkeys, hfw, ?_, fun hc => ⟨?_, ?_, ?_⟩, fun hc => ⟨?_, ?_, ?_⟩⟩
  · rw [hn _ (hapart _ (by simp [firmwareObjects])).1, hr]
  · rw [hb', if_pos hc]
  · rw [hd', if_pos hc]
  · rw [verifyFirmware_eq he, if_pos hc] at hg
    exact wrote_of_grows hx hg (by decide) hnode htime
  · rw [hb', if_neg hc]
  · rw [hd', if_neg hc]
  · rw [verifyFirmware_eq he, if_neg hc] at hg
    exact wrote_of_grows hx hg (by decide) hnode htime

/-! ### Recovery (R24, R506) -/

theorem chooseFirmware_valid {s : State} (h : s.firmwareValid 0 = true) : ∃ k, s.chooseFirmware = some k := by
  unfold State.chooseFirmware
  rw [h]
  cases s.firmwareValid 1
  · exact ⟨_, rfl⟩
  · dsimp only
    split <;> exact ⟨_, rfl⟩

/-- A start with a valid bank runs it. -/
theorem secureBoot_valid {s : State} (h : s.firmwareValid 0 = true) :
    (∃ k v sec sig, (s.secureBoot true).firmware.running = some (k, v, sec, sig)) ∧ (s.secureBoot true).face.noFirmware = false := by
  have hi := (sameImages_verifyFirmware s 0).trans (sameImages_verifyFirmware (s.verifyFirmware 0) 1)
  obtain ⟨k, hk⟩ := chooseFirmware_valid ((hi.valid 0).trans h)
  unfold State.secureBoot
  simp only [if_true, hk, and_true]
  exact ⟨_, _, _, _, rfl⟩

theorem secureBoot_extends (s : State) (b : Bool) : s.tally.Extends (s.secureBoot b).tally := by
  have h := TallyLog.extends_trans (verifyFirmware_extends s 0) (verifyFirmware_extends (s.verifyFirmware 0) 1)
  unfold State.secureBoot
  dsimp only
  split <;> exact h

theorem recoveryFrame_taken {s : State} {offset crc : BitVec 32} {data : List Byte} (hr : s.recovering = true) (hd : data ≠ [])
    (hl : data.length ≤ 4096) (hc : recoveryCrc offset.toNat data = crc.toNat) (ho : offset.toNat ≤ s.firmware.received)
    (hm : offset.toNat + data.length ≤ 16777216) :
    ∃ t, exec (.recoveryFrame offset crc data) s = .next t ∧
      t.domain Obj.firmwareBankA = ⟨patch (if s.firmware.received = 0 then [] else (s.domain Obj.firmwareBankA).content) offset.toNat data, 2⟩ ∧
      t.firmware.received = (t.domain Obj.firmwareBankA).content.length ∧ t.num (Obj.firmwareBankState 0) = 1 ∧
      t = { s with domains := t.domains, dict := t.dict, firmware := t.firmware } := by
  have hdom : ∀ d : Domain, (Assoc.get? (Assoc.set s.domains Obj.firmwareBankA d) Obj.firmwareBankA).getD ⟨[], 0⟩ = d := fun d => by
    rw [assoc_get_set_self]; rfl
  show ∃ t, execRecoveryFrame offset crc data s = _ ∧ _
  unfold execRecoveryFrame
  rw [if_neg (by simp [hr, hd, hc]; omega), if_neg (by simp; omega), if_neg (by omega)]
  extract_lets old content s1 x
  have hA : (show State from { s1 with firmware := { x with received := content.length, delivered := s1.firmware.delivered.set 0 false } }).domain
      Obj.firmwareBankA = ⟨content, 2⟩ := hdom _
  exact ⟨_, rfl, hA, by rw [hA], num_setNum_self .., rfl⟩

theorem recoveryFrame_ignored {s : State} {offset crc : BitVec 32} {data : List Byte}
    (h : s.recovering = false ∨ recoveryCrc offset.toNat data ≠ crc.toNat ∨ s.firmware.received < offset.toNat) :
    exec (.recoveryFrame offset crc data) s = .next s := by
  show execRecoveryFrame offset crc data s = _
  unfold execRecoveryFrame
  rcases h with h | h | h
  · rw [if_pos (by simp [h])]
  · rw [if_pos (by simp [h])]
  · split
    · rfl
    · rw [if_pos (by simp; omega)]

theorem recoveryLoaded_ignored {s : State} (h : s.recovering = false ∨ s.firmware.received = 0) : exec .recoveryLoaded s = .next s := by
  show execRecoveryLoaded s = _
  unfold execRecoveryLoaded
  rw [if_pos (by rcases h with h | h <;> simp [h])]

/-- The state of a recovery after the verification of its bank. -/
def State.recoveryVerified (s : State) : State :=
  { s.verifyFirmware 0 with firmware := { (s.verifyFirmware 0).firmware with received := 0 } }

theorem recoveryVerified_fields (s : State) :
    s.recoveryVerified.mode = s.mode ∧ s.recoveryVerified.keys = s.keys ∧ s.recoveryVerified.firmware = { s.firmware with received := 0 } := by
  unfold State.recoveryVerified
  rw [verifyFirmware_rest]
  exact ⟨rfl, rfl, rfl⟩

theorem recoveryLoaded_taken {s : State} (hr : s.recovering = true) (h0 : s.firmware.received ≠ 0) :
    ∃ t, exec .recoveryLoaded s = .next t ∧ t.mode = .boot ∧ t.keys = s.keys ∧
      (s.firmwareValid 0 = true → (∃ k v sec sig, t.firmware.running = some (k, v, sec, sig)) ∧ s.Wrote t 0x0708 (s.firmwareParams 0) ∧
        t.face.noFirmware = false) ∧
      (s.firmwareValid 0 = false → t.firmware = { s.firmware with received := 0 }) := by
  have hmode : s.mode = .boot := by
    unfold State.recovering at hr
    simp only [Bool.and_eq_true, decide_eq_true_eq] at hr
    exact hr.1.1.1
  have hv : s.SameImages s.recoveryVerified := (sameImages_verifyFirmware s 0).trans ⟨rfl, rfl, fun _ => rfl⟩
  have hx : s.tally.Extends s.recoveryVerified.tally := verifyFirmware_extends s 0
  obtain ⟨hm, hk, hf⟩ := recoveryVerified_fields s
  have hexec : exec .recoveryLoaded s = .next (if s.recoveryVerified.firmwareValid 0 then
      (s.recoveryVerified.secureBoot true).logTally 0x0708 (s.recoveryVerified.firmwareParams 0) else s.recoveryVerified) := by
    show execRecoveryLoaded s = _
    unfold execRecoveryLoaded
    rw [if_neg (by simp [hr, h0])]
    rfl
  rw [hexec, hv.valid, hv.params]
  generalize s.recoveryVerified = u at hv hx hm hk hf ⊢
  cases hval : s.firmwareValid 0
  · rw [if_neg Bool.false_ne_true]
    exact ⟨u, rfl, hm.trans hmode, hk, nofun, fun _ => hf⟩
  · obtain ⟨hrun, hface⟩ := secureBoot_valid ((hv.valid 0).trans hval)
    obtain ⟨sm, sk⟩ := State.secureBoot_mode_keys u true
    have hlog := logTally_rest (u.secureBoot true) 0x0708 (s.firmwareParams 0)
    have hn := logTally_num (u.secureBoot true) 0x0708 (s.firmwareParams 0) (a := Obj.moduleNode) (by decide)
    rw [if_pos rfl]
    refine ⟨(u.secureBoot true).logTally 0x0708 (s.firmwareParams 0), rfl, ?_, ?_, fun _ => ⟨?_, ?_, ?_⟩, nofun⟩
    · rw [hlog]
      exact (sm.trans hm).trans hmode
    · rw [hlog]
      exact sk.trans hk
    · rw [hlog]
      exact hrun
    · exact wrote_logTally (TallyLog.extends_trans hx (secureBoot_extends u true)) rfl hn (by rw [hlog])
    · rw [hlog]
      exact hface

end Sys2Proof.Machine

end

section

open Sys2Proof Sys2Proof.Machine

/-- Settles O60. -/
theorem firmwareIsVerified : Obligations.FirmwareIsVerified := by
  intro s k
  refine ⟨fun h => ?_, firmwareVerified_ends, fun offset crc data => ⟨recoveryFrame_ignored, fun hr hd hl hc ho hm => ?_⟩, recoveryLoaded_ignored,
    recoveryLoaded_taken⟩
  · show execFirmwareVerified k s = _
    unfold execFirmwareVerified
    rw [if_neg h]
  · exact recoveryFrame_taken hr hd hl hc ho hm

end

section

namespace Sys2Proof.Machine

/-! ### The guard (R28, R228, R446, R447) -/

/-- Slots repaired one after the other: only the table RAM moves, every slot named is filled, and none is emptied. -/
theorem repairSlots (xs : List Nat) (s : State) :
    let t := xs.foldl (fun (s : State) j => if (Assoc.get? s.tableRam (s.slotKey j)).isSome then s else s.loadSlot j) s
    t = { s with tableRam := t.tableRam } ∧ (∀ j ∈ xs, (Assoc.get? t.tableRam (s.slotKey j)).isSome = true) ∧
      ∀ q, (Assoc.get? s.tableRam q).isSome = true → (Assoc.get? t.tableRam q).isSome = true := by
  induction xs generalizing s with
  | nil => exact ⟨rfl, nofun, fun _ h => h⟩
  | cons x xs ih =>
    have hx : ∃ r, (if (Assoc.get? s.tableRam (s.slotKey x)).isSome then s else s.loadSlot x) = { s with tableRam := r } ∧
        (Assoc.get? r (s.slotKey x)).isSome = true ∧ ∀ q, (Assoc.get? s.tableRam q).isSome = true → (Assoc.get? r q).isSome = true := by
      split
      · exact ⟨s.tableRam, rfl, by assumption, fun _ h => h⟩
      · refine ⟨Assoc.set s.tableRam (s.slotKey x) (s.loopCfg x), rfl, by rw [assoc_get_set_self]; rfl, fun q h => ?_⟩
        rw [assoc_get_set]
        split
        · rfl
        · exact h
    obtain ⟨r, hr, hself, hkeep⟩ := hx
    obtain ⟨h1, h2, h3⟩ := ih { s with tableRam := r }
    simp only [List.foldl_cons, hr]
    refine ⟨h1, fun j hj => ?_, fun q h => h3 q (hkeep q h)⟩
    rcases List.mem_cons.1 hj with rfl | hj
    · exact h3 _ hself
    · exact h2 j hj

theorem repairTables_rest (s : State) : s.repairTables = { s with tableRam := s.repairTables.tableRam } := by
  unfold State.repairTables
  split
  · rfl
  · exact (repairSlots ..).1

theorem repairTables_kept {s : State} (h : s.tableRam.length = s.loopCount) : s.repairTables = s := if_pos h

theorem repairTables_full {s : State} (h : s.tableRam.length ≠ s.loopCount) {j : Nat} (hj : j < s.loopCount) :
    (Assoc.get? s.repairTables.tableRam (s.slotKey j)).isSome = true := by
  unfold State.repairTables
  rw [if_neg h]
  exact (repairSlots ..).2.1 j (List.mem_range.2 hj)

/-- The clock and supply that a setting leaves, whichever is moved first (R446). -/
theorem changePoint_effect (s : State) (mhz mv : Nat) :
    (s.changePoint mhz mv).num Obj.sequencerClock = mhz % 65536 ∧ (s.changePoint mhz mv).num Obj.coreSupply = mv % 65536 ∧
      s.SameObjects (s.changePoint mhz mv) [Obj.sequencerClock, Obj.coreSupply] ∧
      s.changePoint mhz mv = { s with dict := (s.changePoint mhz mv).dict } := by
  have hs : 256 ^ objSize Obj.sequencerClock = 65536 ∧ 256 ^ objSize Obj.coreSupply = 65536 := by decide
  unfold State.changePoint
  split
  · refine ⟨?_, ?_, fun a ha => ?_, rfl⟩
    · rw [num_setNum_self, hs.1]
    · rw [num_setNum_ne _ _ (by decide), num_setNum_self, hs.2]
    · simp only [List.mem_cons, List.not_mem_nil, or_false, not_or] at ha
      rw [obj_setNum_ne _ _ ha.1, obj_setNum_ne _ _ ha.2]
  · refine ⟨?_, ?_, fun a ha => ?_, rfl⟩
    · rw [num_setNum_ne _ _ (by decide), num_setNum_self, hs.1]
    · rw [num_setNum_self, hs.2]
    · simp only [List.mem_cons, List.not_mem_nil, or_false, not_or] at ha
      rw [obj_setNum_ne _ _ ha.2, obj_setNum_ne _ _ ha.1]

theorem atOffset_timeNs (s : State) (ns : Nat) : (s.atOffset ns).timeNs = max s.timeNs (s.edgeNs s.tick + ns) := by
  show s.timeNs + (s.edgeNs s.tick + ns - s.timeNs) = _
  omega

/-- Only clocks move as time passes. -/
theorem atOffset_form (s : State) (ns : Nat) : ∃ l t c, s.atOffset ns = { s with localNs := l, timeNs := t, rtcNs := c } := ⟨_, _, _, rfl⟩

/-- The state that the guard judges by: later, with the table RAM repaired. -/
def State.guarded (s : State) : State := (s.atOffset 232000).repairTables

theorem guarded_rest (s : State) :
    s.guarded = { s with tableRam := s.guarded.tableRam, localNs := s.guarded.localNs, timeNs := s.guarded.timeNs, rtcNs := s.guarded.rtcNs } := by
  unfold State.guarded
  rw [repairTables_rest]
  obtain ⟨l, t, c, hf⟩ := atOffset_form s 232000
  rw [hf]

/-- As `guarded_rest`, the form in which proofs rewrite with it. -/
theorem guarded_form (s : State) : ∃ r l t c, s.guarded = { s with tableRam := r, localNs := l, timeNs := t, rtcNs := c } :=
  ⟨_, _, _, _, guarded_rest s⟩

theorem guarded_timeNs (s : State) : s.guarded.timeNs = max s.timeNs (s.edgeNs s.tick + 232000) := by
  unfold State.guarded
  rw [repairTables_rest, ← atOffset_timeNs]

/-- While ticks run the next edge hangs on no clock. -/
theorem guarded_nextEdge {s : State} (h : s.ticking = true) : s.guarded.nextEdge = s.nextEdge := by
  obtain ⟨r, l, t, c, hg⟩ := guarded_form s
  rw [hg]
  unfold State.nextEdge State.shadowTime State.degraded State.detail State.num State.obj
  simp only [h, if_true]

theorem guarded_runsNext {s : State} (h : s.ticking = true) : s.guarded.runsNext = s.runsNext := by
  have he := guarded_nextEdge h
  obtain ⟨r, l, t, c, hg⟩ := guarded_form s
  unfold State.runsNext
  rw [he, hg]

theorem guarded_plan (s : State) (t : Nat) : s.guarded.imageAt t = s.imageAt t ∧ s.guarded.profileAt t = s.profileAt t ∧
    s.guarded.profile = s.profile := by
  obtain ⟨r, l, u, c, hg⟩ := guarded_form s
  rw [hg]
  exact ⟨rfl, rfl, rfl⟩

theorem guarded_tableRam (s : State) : (s.tableRam.length = s.loopCount → s.guarded.tableRam = s.tableRam) ∧
    (s.tableRam.length ≠ s.loopCount → ∀ j < s.loopCount, (Assoc.get? s.guarded.tableRam (s.slotKey j)).isSome = true) := by
  obtain ⟨l, t, c, hf⟩ := atOffset_form s 232000
  unfold State.guarded
  rw [hf]
  constructor
  · intro h
    rw [repairTables_kept (s := { s with localNs := l, timeNs := t, rtcNs := c }) h]
  · intro h j hj
    exact repairTables_full (s := { s with localNs := l, timeNs := t, rtcNs := c }) h hj

/-- What the guard leaves, where it runs the next tick's warp and where it does not. -/
theorem execGuard_eq {s : State} (h : s.ticking = true) (ha : s.mode.answers = true) :
    exec .guard s = .next (if s.runsNext && s.warp.loaded.isSome then
      if s.mode.running && s.profile = 1 && s.profileAt s.nextEdge = 1 then s.guarded.applySetting s.nextEdge else s.guarded.applyGates s.nextEdge
      else s.guarded) := by
  have hw : s.guarded.warp = s.warp ∧ s.guarded.mode = s.mode := by rw [guarded_rest]; exact ⟨rfl, rfl⟩
  show execGuard s = _
  unfold execGuard
  rw [ha]
  show Host.Outcome.next (if s.guarded.runsNext && s.guarded.warp.loaded.isSome then _ else _) = _
  rw [guarded_runsNext h, hw.1]
  show Host.Outcome.next (if _ then if s.guarded.mode.running && s.guarded.profile = 1 && s.guarded.profileAt s.guarded.nextEdge = 1 then
    s.guarded.applySetting s.guarded.nextEdge else s.guarded.applyGates s.guarded.nextEdge else s.guarded) = _
  rw [guarded_nextEdge h, hw.2, (guarded_plan s s.nextEdge).2.1, (guarded_plan s s.nextEdge).2.2]

theorem applySetting_eq (s : State) (t : Nat) : s.applySetting t = (s.applyGates t).changePoint
    (clockAt (sectBody (s.imageAt t) 9) (s.profileAt t) (tickIndex t)).1 (clockAt (sectBody (s.imageAt t) 9) (s.profileAt t) (tickIndex t)).2 := rfl

theorem guard_closes {s : State} (h : s.ticking = true) (ha : s.mode.answers = true) :
    ∃ t, exec .guard s = .next t ∧ t.timeNs = max s.timeNs (s.edgeNs s.tick + 232000) ∧
       let b := sectBody (s.imageAt s.nextEdge) 9
       let setting := clockAt b (s.profileAt s.nextEdge) (tickIndex s.nextEdge)
       let satin := s.mode.running = true ∧ s.profile = 1 ∧ s.profileAt s.nextEdge = 1
       (s.runsNext = true → s.warp.loaded.isSome = true →
         t.eng.gates = gatesAt b (tickIndex s.nextEdge) ∧
         (satin → t.num Obj.sequencerClock = setting.1 % 65536 ∧ t.num Obj.coreSupply = setting.2 % 65536) ∧ (¬satin → t.dict = s.dict)) ∧
       (s.runsNext = false ∨ s.warp.loaded = none → t.eng = s.eng ∧ t.dict = s.dict) ∧
       (s.tableRam.length = s.loopCount → t.tableRam = s.tableRam) ∧
       (s.tableRam.length ≠ s.loopCount → ∀ j < s.loopCount, (Assoc.get? t.tableRam (s.slotKey j)).isSome = true) ∧
       s.SameObjects t [Obj.sequencerClock, Obj.coreSupply] ∧
       t = { s with tableRam := t.tableRam, dict := t.dict, eng := { s.eng with gates := t.eng.gates }, localNs := t.localNs, timeNs := t.timeNs,
                    rtcNs := t.rtcNs } := by
  obtain ⟨r1, r2⟩ := guarded_tableRam s
  have htime := guarded_timeNs s
  obtain ⟨hi, hp, -⟩ := guarded_plan s s.nextEdge
  refine ⟨_, execGuard_eq h ha, ?_⟩
  obtain ⟨r, l, t, c, hg⟩ := guarded_form s
  rw [hg] at hi hp htime r1 r2 ⊢
  dsimp only
  split
  · rename_i hrun
    simp only [Bool.and_eq_true] at hrun
    obtain ⟨hrun, hloaded⟩ := hrun
    have hidle : ¬(s.runsNext = false ∨ s.warp.loaded = none) := by
      rintro (hn | hn)
      · simp [hn] at hrun
      · simp [hn] at hloaded
    have hgates : State.applyGates { s with tableRam := r, localNs := l, timeNs := t, rtcNs := c } s.nextEdge =
        { s with eng := { s.eng with gates := gatesAt (sectBody (s.imageAt s.nextEdge) 9) (tickIndex s.nextEdge) }, tableRam := r, localNs := l,
                 timeNs := t, rtcNs := c } := by
      unfold State.applyGates
      rw [hi]
    rw [applySetting_eq, hi, hp, hgates]
    generalize clockAt (sectBody (s.imageAt s.nextEdge) 9) (s.profileAt s.nextEdge) (tickIndex s.nextEdge) = setting
    generalize gatesAt (sectBody (s.imageAt s.nextEdge) 9) (tickIndex s.nextEdge) = gates
    split
    · rename_i hs
      simp only [Bool.and_eq_true, decide_eq_true_eq] at hs
      obtain ⟨hc, hv, ho, hrest⟩ := changePoint_effect
        { s with eng := { s.eng with gates := gates }, tableRam := r, localNs := l, timeNs := t, rtcNs := c } setting.1 setting.2
      generalize State.changePoint _ _ _ = v at hc hv ho hrest ⊢
      subst htime
      refine ⟨by rw [hrest], fun _ _ => ⟨by rw [hrest], fun _ => ⟨hc, hv⟩, fun hn => ?_⟩, fun hn => absurd hn hidle, ?_, ?_, ho, ?_⟩
      · exact absurd ⟨hs.1.1, hs.1.2, hs.2⟩ hn
      · rw [hrest]; exact r1
      · rw [hrest]; exact r2
      · rw [hrest]
    · rename_i hs
      simp only [Bool.and_eq_true, decide_eq_true_eq] at hs
      exact ⟨htime, fun _ _ => ⟨rfl, fun hn => absurd ⟨⟨hn.1, hn.2.1⟩, hn.2.2⟩ hs, fun _ => rfl⟩, fun hn => absurd hn hidle, r1, r2,
        fun _ _ => rfl, rfl⟩
  · rename_i hrun
    simp only [Bool.and_eq_true, not_and] at hrun
    exact ⟨htime, fun h1 h2 => absurd h2 (hrun h1), fun _ => ⟨rfl, rfl⟩, r1, r2, fun _ _ => rfl, rfl⟩

end Sys2Proof.Machine

end

section

namespace Sys2Proof.Machine

/-! ### Staging (R29, R189, R220) -/

/-- The parts of the log that writing a record leaves. -/
def TallyLog.Same (s t : TallyLog) : Prop := t.captured = s.captured ∧ t.issued = s.issued ∧ t.queue = s.queue ∧ t.headKnown = s.headKnown

theorem TallyLog.Same.trans {a b c : TallyLog} (h : a.Same b) (g : b.Same c) : a.Same c :=
  ⟨g.1.trans h.1, g.2.1.trans h.2.1, g.2.2.1.trans h.2.2.1, g.2.2.2.trans h.2.2.2⟩

theorem TallyLog.write_same (t : TallyLog) (d : TallyDraft) : t.Same (t.write d) := by
  unfold TallyLog.write TallyLog.seal
  dsimp only
  split <;> exact ⟨rfl, rfl, rfl, rfl⟩

theorem logDraft_same (s : State) (d : TallyDraft) : s.tally.Same (s.logDraft d).tally := by
  unfold State.logDraft
  split
  · dsimp only
    split
    · rw [bump_tally]
      exact (TallyLog.write_same ..).trans (TallyLog.write_same ..)
    · rw [bump_tally]
      exact TallyLog.write_same ..
  · exact ⟨rfl, rfl, rfl, rfl⟩

theorem count_same (s : State) (a n : Nat) : s.tally.Same (s.count a n).tally := by
  unfold State.count
  dsimp only
  split
  · have h := logDraft_same (s.bump a n).1 ((s.bump a n).1.draft tCounterOverflow [a])
    rwa [bump_tally] at h
  · rw [bump_tally]
    exact ⟨rfl, rfl, rfl, rfl⟩

/-- With the head known each record takes a place of its own. -/
theorem logDraft_head {s : State} (h : s.tally.headKnown = true) (d : TallyDraft) : s.tally.head + 1 ≤ (s.logDraft d).tally.head := by
  unfold State.logDraft
  rw [if_pos h]
  dsimp only
  split
  · rw [bump_tally, TallyLog.write_head, TallyLog.write_head]
    omega
  · rw [bump_tally, TallyLog.write_head]

/-- Records logged one after the other. -/
theorem foldl_logDraft (ds : List TallyDraft) (s : State) :
    ds.foldl State.logDraft s = { s with dict := (ds.foldl State.logDraft s).dict, tally := (ds.foldl State.logDraft s).tally } ∧
      s.tally.Same (ds.foldl State.logDraft s).tally ∧ (∀ a ∉ tallyObjects, (ds.foldl State.logDraft s).obj a = s.obj a) ∧
      (s.tally.headKnown = true → s.tally.head + ds.length ≤ (ds.foldl State.logDraft s).tally.head) := by
  induction ds generalizing s with
  | nil => exact ⟨rfl, ⟨rfl, rfl, rfl, rfl⟩, fun _ _ => rfl, fun _ => Nat.le_refl _⟩
  | cons d ds ih =>
    obtain ⟨h1, h2, h3, h4⟩ := ih (s.logDraft d)
    rw [List.foldl_cons]
    refine ⟨?_, (logDraft_same s d).trans h2, fun a ha => (h3 a ha).trans (logDraft_obj s d ha), fun h => ?_⟩
    · rw [h1, logDraft_rest]
    · have hk : (s.logDraft d).tally.headKnown = true := (logDraft_same s d).2.2.2.trans h
      have := h4 hk
      have := logDraft_head h d
      rw [List.length_cons]
      omega

/-- At most 32 records leave the queue for the log (R220). -/
theorem drainTallies_effect (s : State) :
    s.drainTallies = { s with dict := s.drainTallies.dict, tally := s.drainTallies.tally } ∧
      s.drainTallies.tally.captured = s.tally.captured ∧ s.drainTallies.tally.issued = s.tally.issued ∧
      s.drainTallies.tally.queue = s.tally.queue.drop 32 ∧ (∀ a ∉ tallyObjects, s.drainTallies.obj a = s.obj a) ∧
      (s.tally.headKnown = true → s.tally.head + min 32 s.tally.queue.length ≤ s.drainTallies.tally.head) := by
  obtain ⟨h1, ⟨hc, hi, hq, hk⟩, ho, hh⟩ :=
    foldl_logDraft (s.tally.queue.take 32) { s with tally := { s.tally with queue := s.tally.queue.drop 32 } }
  rw [List.length_take] at hh
  unfold State.drainTallies tallyQueueRate
  generalize (s.tally.queue.take 32).foldl State.logDraft { s with tally := { s.tally with queue := s.tally.queue.drop 32 } } = u at h1 hc hi hq hk ho hh ⊢
  dsimp only
  split
  · obtain ⟨gc, gi, gq, -⟩ := logDraft_same { u with tally := { u.tally with dropped := 0 } }
      (State.draft { u with tally := { u.tally with dropped := 0 } } 0x0405 [u.tally.dropped, 0, 0, low32 u.tick])
    refine ⟨?_, gc.trans hc, gi.trans hi, gq.trans hq, fun a ha => (logTally_obj _ _ _ ha).trans (ho a ha), fun h => (hh h).trans ?_⟩
    · obtain ⟨d, l, rfl⟩ : ∃ d l, u = { s with dict := d, tally := l } := ⟨_, _, h1⟩
      rw [logTally_rest]
    · exact (logDraft_extends { u with tally := { u.tally with dropped := 0 } } _).head
  · exact ⟨h1, hc, hi, hq, ho, hh⟩

/-- The tick's records enter the queue as far as it has room; the others are lost and counted. -/
theorem queueTallies_effect (s : State) :
    let new := s.tally.captured ++ s.tally.issued
    let kept := new.take (16384 - s.tally.queue.length)
    s.queueTallies = { s with dict := s.queueTallies.dict, tally := s.queueTallies.tally } ∧ s.queueTallies.tally.captured = [] ∧
      s.queueTallies.tally.issued = [] ∧ s.queueTallies.tally.queue.length = s.tally.queue.length + kept.length ∧
      s.queueTallies.tally.headKnown = s.tally.headKnown ∧ s.tally.head ≤ s.queueTallies.tally.head ∧
      (kept.length < new.length → s.queueTallies.num Obj.alarmTalliesLost = s.counted Obj.alarmTalliesLost (new.length - kept.length)) := by
  intro new kept
  unfold State.queueTallies tallyQueueSize
  extract_lets ds room lost tl s1
  have hds : ds.length = new.length := List.length_map ..
  have hq : s1.tally.queue.length = s.tally.queue.length + kept.length := by
    show (s.tally.queue ++ ds.take room).length = _
    rw [List.length_append, List.length_take, List.length_take, hds]
  have hlost : lost = new.length - kept.length := by
    show ds.length - room = _
    rw [List.length_take, hds]
    omega
  split
  · exact ⟨rfl, rfl, rfl, hq, rfl, Nat.le_refl _, fun hn => by omega⟩
  · obtain ⟨hc, hi, hqq, hk⟩ := count_same s1 Obj.alarmTalliesLost lost
    refine ⟨?_, hc, hi, by rw [hqq, hq], hk, (count_extends s1 _ _).head, fun _ => ?_⟩
    · rw [count_rest]
    · rw [count_num _ _ (by decide) (by decide), hlost]
      rfl

theorem staging_stays {s : State} (h : s.mode.answers = false) : exec .outputStaging s = .next s := by
  show execOutputStaging s = _
  unfold execOutputStaging
  rw [h]
  rfl

theorem staging_discards {s : State} (h : s.mode.answers = true) (hd : s.eng.discard = true) :
    ∃ t, exec .outputStaging s = .next t ∧ t.tally.captured = [] ∧ t.tally.issued = [] ∧
       t.tally.queue = s.tally.queue.drop 32 ∧ (∀ k : Fin 8, t.captures[k] = { s.captures[k] with staged := [] }) ∧ t.store = s.store := by
  obtain ⟨l, c, r, hat⟩ := atOffset_form s 210000
  have he : exec .outputStaging s = .next (s.atOffset 210000).dropStaging.drainTallies := by
    show execOutputStaging s = _
    unfold execOutputStaging
    rw [h]
    dsimp only
    rw [if_pos (show (s.atOffset 210000).eng.discard = true by rw [hat]; exact hd)]
    rfl
  obtain ⟨hrest, hc, hi, hq, -, -⟩ := drainTallies_effect (s.atOffset 210000).dropStaging
  refine ⟨_, he, hc, hi, ?_, fun k => ?_, ?_⟩
  · rw [hq, hat]
    rfl
  · rw [hrest, hat]
    exact Vector.getElem_map ..
  · rw [hrest, hat]
    rfl

theorem staging_stages {s : State} (hx : s.executes = true) (hd : s.eng.discard = false) (hk : s.tally.headKnown = true) :
    let new := s.tally.captured ++ s.tally.issued
    let kept := new.take (16384 - s.tally.queue.length)
    ∃ t, exec .outputStaging s = .next t ∧ t.timeNs = max s.timeNs (s.edgeNs s.tick + 210000) ∧ t.tally.captured = [] ∧ t.tally.issued = [] ∧
      t.tally.queue.length = s.tally.queue.length + kept.length - 32 ∧
      s.tally.head + min 32 (s.tally.queue.length + kept.length) ≤ t.tally.head ∧
      (kept.length < new.length → t.num Obj.alarmTalliesLost = s.counted Obj.alarmTalliesLost (new.length - kept.length)) ∧
      (∀ k : Fin 8, t.captures[k] = { s.captures[k] with records := s.captures[k].records ++ s.captures[k].staged, staged := [] }) ∧
      t.store = s.store ∧ t.eng = s.eng := by
  intro new kept
  have ha : s.mode.answers = true := by
    unfold State.executes at hx
    simp only [Bool.or_eq_true, Bool.and_eq_true, decide_eq_true_eq] at hx
    rcases hx with hm | ⟨hm, -⟩ <;> rw [hm] <;> rfl
  have htime := atOffset_timeNs s 210000
  obtain ⟨l, c, r, hat⟩ := atOffset_form s 210000
  have he : exec .outputStaging s = .next (s.atOffset 210000).stageCaptures.queueTallies.drainTallies := by
    show execOutputStaging s = _
    unfold execOutputStaging
    rw [ha]
    dsimp only
    rw [if_neg (show ¬ (s.atOffset 210000).eng.discard = true by rw [hat]; simp [hd]),
      if_pos (show (s.atOffset 210000).executes = true by rw [hat]; exact hx)]
    rfl
  rw [hat] at he htime
  obtain ⟨q1, q2, q3, q4, q5, q6, q7⟩ := queueTallies_effect (State.stageCaptures { s with localNs := l, timeNs := c, rtcNs := r })
  obtain ⟨d1, d2, d3, d4, d5, d6⟩ := drainTallies_effect (State.stageCaptures { s with localNs := l, timeNs := c, rtcNs := r }).queueTallies
  have hrest : ∃ d y, (State.stageCaptures { s with localNs := l, timeNs := c, rtcNs := r }).queueTallies.drainTallies =
      { State.stageCaptures { s with localNs := l, timeNs := c, rtcNs := r } with dict := d, tally := y } := by
    rw [d1, q1]
    exact ⟨_, _, rfl⟩
  refine ⟨_, he, ?_, d2.trans q2, d3.trans q3, ?_, ?_, fun hn => ?_, ?_⟩
  · obtain ⟨d, y, hr⟩ := hrest
    rw [hr]
    exact htime
  · rw [d4, List.length_drop, q4]
    rfl
  · have h6 := d6 (q5.trans hk)
    rw [q4] at h6
    exact le_trans (Nat.add_le_add_right q6 _) h6
  · refine Eq.trans ?_ (q7 hn)
    unfold State.num
    rw [d5 _ (by decide)]
  · obtain ⟨d, y, hr⟩ := hrest
    rw [hr]
    exact ⟨fun k => Vector.getElem_map .., rfl, rfl⟩

end Sys2Proof.Machine

end

section

open Sys2Proof Sys2Proof.Machine

/-- Settles O22: staging and the guard each close their window. -/
theorem tickWindowsClose : Obligations.TickWindowsClose := by
  refine ⟨fun s => ⟨staging_stays, staging_stages, staging_discards⟩, fun s h => ⟨fun ha => ?_, guard_closes h⟩⟩
  show execGuard s = _
  unfold execGuard
  rw [ha]
  rfl

end

section

namespace Sys2Proof.Machine

/-! ### Station objects that starts, stops, loads and boots leave alone -/

/-- The station's own settings and results, which only the station commands themselves move. -/
def heldObjects : List Nat :=
  [Obj.stationStateDetail, Obj.holdCause, Obj.commandTick, Obj.commandResult, Obj.startMode, Obj.selectedBank, Obj.damagedRecords]

theorem heldObjects_low {a : Nat} (h : a ∈ heldObjects) : a ≤ 0x800001 := by
  revert a; decide

theorem unheld_of_gt {q : Nat} (h : 0x800001 < q) : q ∉ heldObjects := fun hm => absurd (heldObjects_low hm) (by omega)

theorem held_ne {a q : Nat} (h : a ∈ heldObjects) (hq : q ∉ heldObjects) : a ≠ q := fun e => hq (e ▸ h)

theorem held_untallied {a : Nat} (h : a ∈ heldObjects) : a ∉ tallyObjects := by
  revert a; decide

theorem foldl_dict {α : Type} {f : State → α → State} (h : ∀ s x, (f s x).dict = s.dict) (xs : List α) (s : State) :
    (xs.foldl f s).dict = s.dict := foldl_keeps State.dict h xs s

theorem obj_sendSeam (s : State) (type : Nat) (p : Bytes) (a : Nat) : (s.sendSeam type p).obj a = s.obj a := by
  unfold State.sendSeam
  split <;> rfl

theorem obj_refreshHello (s : State) (a : Nat) : s.refreshHello.obj a = s.obj a := by
  unfold State.refreshHello
  split
  · exact obj_sendSeam ..
  · rfl

section

variable {a : Nat} (h : a ∈ heldObjects)

include h

theorem obj_setObj_held (s : State) {q : Nat} (v : Bytes) (hq : q ∉ heldObjects) : (s.setObj q v).obj a = s.obj a :=
  obj_setObj_ne _ _ (held_ne h hq)

theorem obj_setNum_held (s : State) {q : Nat} (v : Nat) (hq : q ∉ heldObjects) : (s.setNum q v).obj a = s.obj a :=
  obj_setObj_held h _ _ hq

theorem obj_setFlag_held (s : State) {q : Nat} (v : Bool) (hq : q ∉ heldObjects) : (s.setFlag q v).obj a = s.obj a :=
  obj_setObj_held h _ _ hq

theorem obj_logTally_held (s : State) (c : Nat) (p : List Nat) : (s.logTally c p).obj a = s.obj a :=
  logTally_obj s c p (held_untallied h)

theorem obj_count_held (s : State) {q : Nat} (n : Nat) (hq : q ∉ heldObjects) (ho : overflowAddr q ∉ heldObjects) :
    (s.count q n).obj a = s.obj a :=
  count_obj s n (held_ne h hq) (held_ne h ho) (held_untallied h)

theorem obj_canRefresh_held (s : State) : s.canRefresh.obj a = s.obj a :=
  canRefresh_obj s fun k => held_ne h ((by decide : ∀ k : Fin 8, Obj.canState k.val ∉ heldObjects) k)

theorem obj_detectEnd_held (s : State) (k : Fin 8) (r : Nat) : (s.detectEnd k r).obj a = s.obj a := by
  unfold State.detectEnd
  split
  · have hk : ∀ k : Fin 8, Obj.detectResult k.val ∉ heldObjects := by decide
    rw [obj_canRefresh_held h, obj_setNum_held h _ _ (hk k)]
    rfl
  · rfl

theorem obj_canBegin_held (s : State) : s.canBegin.obj a = s.obj a := by
  unfold State.canBegin
  extract_lets s0 cs s1 s2
  have h0 : s0.obj a = s.obj a := by
    refine foldl_keeps (State.obj · a) (fun u k => ?_) _ s
    exact obj_detectEnd_held h u k 0
  clear_value s0
  have h1 : s1.obj a = s0.obj a := rfl
  have h2 : s2.obj a = s1.obj a := by
    refine foldl_keeps (State.obj · a) (fun u k => ?_) _ s1
    extract_lets ch
    split
    extract_lets ok s'
    split
    · rfl
    · exact obj_logTally_held h s' ..
  rw [obj_canRefresh_held h, h2, h1, h0]

theorem obj_sidebandsNow_held (s : State) : s.sidebandsNow.obj a = s.obj a := obj_setNum_held h _ _ (by decide)

theorem obj_fenceActs_held (s : State) : s.fenceActs.obj a = s.obj a := by
  have hs : ∀ (u : State) src asked, (u.assertSource src asked).dict = u.dict := fun u src asked => by
    unfold State.assertSource
    split <;> rfl
  unfold State.fenceActs
  split
  · split
    · rfl
    · rw [obj_sidebandsNow_held h]
      unfold State.obj
      rw [hs]
      rfl
  · rfl

theorem obj_setFence_held (s : State) (on : Bool) : (s.setFence on).obj a = s.obj a := by
  unfold State.setFence
  split
  · rfl
  · rw [obj_sidebandsNow_held h, obj_fenceActs_held h]
    split
    · rw [obj_count_held h _ _ (by decide) (by decide)]
      rfl
    · rfl

theorem obj_sendOn_held (s : State) {k : Nat} (hk : k = 0 ∨ k = 1) (kind : SentKind) (peer seq : Nat) (head : NetHead) (data : Bytes) :
    (s.sendOn k kind peer seq head data).obj a = s.obj a := by
  have ho : Obj.txFrames k ∉ heldObjects ∧ overflowAddr (Obj.txFrames k) ∉ heldObjects := by rcases hk with rfl | rfl <;> decide
  unfold State.sendOn
  split
  · rfl
  · rw [obj_count_held h _ _ ho.1 ho.2]
    rfl

theorem obj_prpSend_held (s : State) (kind : SentKind) (peer : Nat) (station : Bool) (head : NetHead) (data : Bytes) :
    (s.prpSend kind peer station head data).obj a = s.obj a := by
  have hp : ∀ (u : State) (k seq : Nat), k = 0 ∨ k = 1 →
      (if u.portCarries kind k then u.sendOn k kind peer seq head data else u).obj a = u.obj a := fun u k seq hk => by
    split
    · exact obj_sendOn_held h u hk ..
    · rfl
  have ht : (s.takePrpSeq station).2.obj a = s.obj a := by
    unfold State.takePrpSeq
    split <;> rfl
  exact ((hp _ 1 _ (.inr rfl)).trans (hp _ 0 _ (.inl rfl))).trans ht

theorem obj_announceIp_held (s : State) (station : Bool) : (s.announceIp station).obj a = s.obj a := by
  unfold State.announceIp
  extract_lets ip
  split
  · rfl
  · exact obj_prpSend_held h ..

theorem obj_reportGroups_held (s : State) : s.reportGroups.obj a = s.obj a := by
  unfold State.reportGroups
  split
  · exact foldl_keeps (State.obj · a) (fun u g => obj_prpSend_held h u ..) _ _
  · rfl

theorem obj_announceAll_held (s : State) : s.announceAll.obj a = s.obj a := by
  unfold State.announceAll
  rw [obj_reportGroups_held h]
  split <;> simp only [obj_announceIp_held h]

theorem obj_applySetting_held (s : State) (t : Nat) : (s.applySetting t).obj a = s.obj a := by
  rw [applySetting_eq, (changePoint_effect ..).2.2.1 a ((by decide : ∀ a ∈ heldObjects, a ∉ [Obj.sequencerClock, Obj.coreSupply]) a h)]
  rfl

theorem obj_putLoop_held (s : State) (j sub : Nat) (v : Bytes) : (s.putLoop j sub v).obj a = s.obj a := by
  have hc : ∀ q, (s.configPut q v).obj a = s.obj a := fun q => by
    unfold State.configPut
    split <;> rfl
  unfold State.putLoop
  split
  · exact hc _
  · rfl
  · exact obj_setObj_held h _ _ (unheld_of_gt (by unfold loopObj objAddr; omega))

theorem obj_applyStored1_held (s : State) (q : Nat) (v : Bytes) : (s.applyStored1 q v).obj a = s.obj a := by
  unfold State.applyStored1
  extract_lets ix sub
  split
  · split
    · rfl
    · (repeat' split) <;> rfl
  · split
    · split
      · exact obj_putLoop_held h ..
      · rfl
    · split
      · split
        · unfold State.putGain State.configPut
          (repeat' split) <;> rfl
        · rfl
      · split
        · rename_i hg
          simp only [isGroupIx, Bool.and_eq_true, decide_eq_true_eq, ix, addrIndex] at hg
          exact obj_setObj_held h _ _ (unheld_of_gt (by omega))
        · rfl

theorem obj_initialState_held (s : State) : s.initialState.obj a = s.obj a := by
  unfold State.initialState
  extract_lets ss b s1 s2
  have h1 : s1.dict = s.dict := by
    refine foldl_dict (fun _ _ => ?_) _ s
    rfl
  have h2 : s2.dict = s1.dict := by
    refine foldl_dict (fun _ _ => ?_) _ s1
    rfl
  have h3 : s2.obj a = s.obj a := by
    unfold State.obj
    rw [h2, h1]
  refine Eq.trans (foldl_keeps (State.obj · a) (fun u e => ?_) s2.stored s2) h3
  split
  · exact obj_applyStored1_held h ..
  · rfl

end

end Sys2Proof.Machine

end

section

namespace Sys2Proof.Machine

/-! ### The detail bits of the station state -/

theorem detail_setDetail (s : State) {i j : Nat} (b : Bool) (hj : j < 8 * objSize Obj.stationStateDetail) :
    (s.setDetail i b).detail j = if j = i then b else s.detail j := by
  unfold State.detail State.setDetail
  rw [num_setNum_self, show (256 : Nat) = 2 ^ 8 from rfl, ← pow_mul, ← bit_putBit]
  unfold bit
  rw [Nat.testBit_mod_two_pow]
  simp [hj]

theorem detail_congr {s t : State} (h : t.obj Obj.stationStateDetail = s.obj Obj.stationStateDetail) (i : Nat) : t.detail i = s.detail i := by
  unfold State.detail State.num
  rw [h]

theorem num_congr {s t : State} {a : Nat} (h : t.obj a = s.obj a) : t.num a = s.num a := by
  unfold State.num
  rw [h]

/-! ### The initial state of a warp -/

/-- What the initial state leaves of the loaded warp: it changes the configuration only. -/
def State.warpFrame (s : State) : Warp × Option Nat := ({ s.warp with loaded := none }, s.warp.loaded.map (·.bank))

theorem configPut_warpFrame (s : State) (a : Nat) (v : Bytes) : (s.configPut a v).warpFrame = s.warpFrame := by
  unfold State.configPut
  split
  · rename_i l hl
    unfold State.warpFrame
    rw [hl]
    rfl
  · rfl

theorem putLoop_warpFrame (s : State) (j sub : Nat) (v : Bytes) : (s.putLoop j sub v).warpFrame = s.warpFrame := by
  unfold State.putLoop
  split
  · exact configPut_warpFrame ..
  · rfl
  · rfl

theorem putGain_warpFrame (s : State) (g sub : Nat) (v : Bytes) : (s.putGain g sub v).warpFrame = s.warpFrame := by
  unfold State.putGain
  split
  · exact configPut_warpFrame ..
  · rfl

theorem applyStored1_warpFrame (s : State) (q : Nat) (v : Bytes) : (s.applyStored1 q v).warpFrame = s.warpFrame := by
  unfold State.applyStored1
  extract_lets ix sub
  split
  · split
    · rfl
    · (repeat' split) <;> rfl
  · split
    · split
      · exact putLoop_warpFrame ..
      · rfl
    · split
      · split
        · exact putGain_warpFrame ..
        · rfl
      · split <;> rfl

theorem initialState_warpFrame (s : State) : s.initialState.warpFrame = s.warpFrame := by
  unfold State.initialState
  extract_lets ss b s1 s2
  have h1 : s1.warp = s.warp := by
    refine foldl_warp (fun _ _ => ?_) _ s
    rfl
  have h2 : s2.warp = s1.warp := by
    refine foldl_warp (fun _ _ => ?_) _ s1
    rfl
  have h3 : s2.warpFrame = s.warpFrame := by
    unfold State.warpFrame
    rw [h2, h1]
  refine Eq.trans (foldl_keeps State.warpFrame (fun u e => ?_) s2.stored s2) h3
  split
  · exact applyStored1_warpFrame ..
  · rfl

end Sys2Proof.Machine

end

section

namespace Sys2Proof.Machine

/-! ### RUN begins (R19, R103, R169) -/

theorem obj_showInitial (s : State) (a : Nat) : s.showInitial.obj a = s.obj a := rfl

theorem obj_startImages (s : State) (a : Nat) : s.startImages.obj a = s.obj a := rfl

theorem initialState_frame (s : State) : s.initialState.rst = s.rst ∧ s.initialState.command = s.command := by
  unfold State.initialState
  extract_lets ss b s1 s2
  have h1 : s1.rst = s.rst ∧ s1.command = s.command := by
    refine ⟨foldl_rst (fun _ _ => ?_) _ s, foldl_command (fun _ _ => ?_) _ s⟩ <;> rfl
  have h2 : s2.rst = s1.rst ∧ s2.command = s1.command := by
    refine ⟨foldl_rst (fun _ _ => ?_) _ s1, foldl_command (fun _ _ => ?_) _ s1⟩ <;> rfl
  obtain ⟨hr, -, -, hc, -⟩ := State.applyStored_frame s2
  exact ⟨hr.trans (h2.1.trans h1.1), hc.trans (h2.2.trans h1.2)⟩

theorem enterRun_frame (s : State) (b : Nat) :
    (s.enterRun b).startTick = some b ∧ (s.enterRun b).command = s.command ∧ (s.enterRun b).rst = s.rst ∧
      (s.enterRun b).warp = s.initialState.warp := by
  simp [State.enterRun, initialState_frame]

theorem enterRun_obj (s : State) (b : Nat) {a : Nat} (h : a ∈ heldObjects) :
    (s.enterRun b).obj a = (s.initialState.setDetail 5 true).obj a := by
  unfold State.enterRun
  generalize s.initialState = u
  extract_lets s2
  rw [obj_refreshHello, obj_announceAll_held h, obj_applySetting_held h, obj_canBegin_held h, obj_startImages, obj_showInitial]
  rfl

/-- What entering RUN leaves, and what it does not touch. -/
theorem enterRun_effect (s : State) (b : Nat) :
    let t := s.enterRun b
    t.mode = .run ∧ t.keys = s.keys ∧ t.startTick = some b ∧ t.roleActive = true ∧ t.command = s.command ∧ t.rst = s.rst ∧
      t.warp.restart = s.warp.restart ∧ ∀ a ∈ heldObjects, a ≠ Obj.stationStateDetail → t.obj a = s.obj a := by
  intro t
  obtain ⟨hstart, hcmd, hrst, hwarp⟩ := enterRun_frame s b
  refine ⟨by simp [t], by simp [t, State.enterRun], hstart, ?_, hcmd, hrst, ?_, fun a ha hne => ?_⟩
  · unfold State.roleActive
    rw [detail_congr (enterRun_obj s b (by decide)), detail_setDetail _ _ (by decide), if_pos rfl]
  · rw [hwarp]
    exact congrArg (·.1.restart) (initialState_warpFrame s)
  · rw [enterRun_obj s b ha]
    unfold State.setDetail
    rw [obj_setNum_ne _ _ hne]
    exact obj_initialState_held ha s

end Sys2Proof.Machine

end

section

namespace Sys2Proof.Machine

/-! ### A command ends at its boundary (R19) -/

/-- What the end of a command that is not the partner's leaves. -/
theorem commandDone_effect {s : State} (h : s.command.any (·.mirrored) = false) (ok : Bool) :
    let t := s.commandDone ok
    t.mode = s.mode ∧ t.keys = s.keys ∧ t.command = none ∧ t.num Obj.commandTick = 0 ∧ t.num Obj.commandResult = (if ok then 2 else 3) ∧
      t.obj Obj.stationStateDetail = s.obj Obj.stationStateDetail := by
  intro t
  have ht : t = (({ s with command := none } : State).setNum Obj.commandTick 0).setNum Obj.commandResult (if ok then 2 else 3) := by
    dsimp only [t]
    unfold State.commandDone
    rw [h]
    rfl
  rw [ht]
  refine ⟨rfl, rfl, rfl, ?_, ?_, ?_⟩
  · rw [num_setNum_ne _ _ (by decide), num_setNum_self]
    exact Nat.zero_mod _
  · rw [num_setNum_self]
    cases ok <;> rfl
  · rw [obj_setNum_ne _ _ (by decide), obj_setNum_ne _ _ (by decide)]
    rfl

/-! ### RUN and STANDBY end (Table 1-7) -/

theorem setTimeState_held (s : State) (k : TimeState) {a : Nat} (h : a ∈ heldObjects) : (s.setTimeState k).obj a = s.obj a := by
  unfold State.setTimeState
  extract_lets s1
  split
  · exact obj_setNum_held h _ _ (by decide)
  · rw [obj_setFlag_held h _ _ (by decide)]
    exact obj_setNum_held h _ _ (by decide)

theorem ppsJudge_obj (s : State) (a : Nat) : s.ppsJudge.obj a = s.obj a := by
  unfold State.ppsJudge
  split <;> rfl

/-- Objects other than the state's detail bits, of which bit 5 is the active role. -/
theorem roleActive_congr {s t : State} (h : t.obj Obj.stationStateDetail = s.obj Obj.stationStateDetail) : t.roleActive = s.roleActive :=
  detail_congr h 5

theorem roleActive_setDetail (s : State) (i : Nat) (b : Bool) : (s.setDetail i b).roleActive = if i = 5 then b else s.roleActive := by
  unfold State.roleActive
  rw [detail_setDetail _ _ (by decide)]
  simp only [eq_comm]

theorem enterHoldover_roleActive (s : State) (k : TimeState) : (s.enterHoldover k).roleActive = s.roleActive := by
  unfold State.enterHoldover
  extract_lets t s0 s1
  have h0 : s0.roleActive = s.roleActive := rfl
  split
  · have h1 : s1.roleActive = s0.roleActive := by
      dsimp only [s1]
      rw [roleActive_congr (obj_setObj_held (by decide) _ _ (by decide)), roleActive_congr (setTimeState_held _ _ (by decide)),
        roleActive_setDetail, if_neg (by decide), roleActive_congr (obj_setNum_held (by decide) _ _ (by decide))]
    rw [roleActive_congr (ppsJudge_obj ..), roleActive_congr (obj_logTally_held (by decide) ..),
      roleActive_congr (obj_count_held (by decide) _ _ (by decide) (by decide)), h1, h0]
  · rw [roleActive_congr (setTimeState_held _ _ (by decide)), h0]

theorem noSlave_roleActive (s : State) : s.noSlave.roleActive = s.roleActive := by
  unfold State.noSlave
  split
  · rfl
  · split
    · exact roleActive_congr (setTimeState_held _ _ (by decide))
    · exact enterHoldover_roleActive ..

theorem timeFromSeam_roleActive (s : State) (flags : Nat) : (s.timeFromSeam flags).roleActive = s.roleActive := by
  unfold State.timeFromSeam
  extract_lets unlocked hold t s1 s2 s3
  have h2 : s2.roleActive = s.roleActive := roleActive_congr (obj_setNum_held (by decide) s1 _ (by decide))
  have h3 : s3.roleActive = s2.roleActive := by
    dsimp only [s3]
    rw [roleActive_congr (obj_setNum_held (by decide) _ _ (by decide)), roleActive_congr (setTimeState_held _ _ (by decide)),
      roleActive_setDetail, if_neg (by decide)]
  rw [roleActive_congr (ppsJudge_obj ..)]
  split
  · rw [h3, h2]
  · rw [noSlave_roleActive, h3, h2]

theorem applyStep_effect (s : State) (k : StepKind) (d : Int) :
    (s.applyStep k d).roleActive = s.roleActive ∧ (s.applyStep k d).command.any (·.mirrored) = s.command.any (·.mirrored) := by
  unfold State.applyStep
  extract_lets now new later src unit waiting profiles s1 s2 s3
  have h2 : s2.roleActive = s.roleActive := by
    dsimp only [s2]
    rw [roleActive_congr (obj_count_held (by decide) _ _ (by decide) (by decide)),
      roleActive_congr (obj_setFlag_held (by decide) _ _ (by decide))]
    rfl
  have h3 : s3.roleActive = s2.roleActive := by
    dsimp only [s3]
    split
    · rfl
    · exact roleActive_congr (setTimeState_held _ _ (by decide))
  have hc : s3.command = waiting := by
    simp [s3, s2, s1]
  refine ⟨?_, ?_⟩
  · rw [roleActive_congr (obj_logTally_held (by decide) ..), h3, h2]
  · rw [State.logTally_command, hc]
    dsimp only [waiting]
    cases s.command <;> rfl

theorem applyHeld_effect (s : State) :
    s.applyHeld.roleActive = s.roleActive ∧ s.applyHeld.command.any (·.mirrored) = s.command.any (·.mirrored) := by
  unfold State.applyHeld
  split
  · split
    · exact applyStep_effect ..
    · exact ⟨rfl, rfl⟩
  · exact ⟨rfl, rfl⟩

/-- What leaving RUN or STANDBY leaves. -/
theorem leaveRun_effect (s : State) (target : Mode) :
    let t := s.leaveRun target
    t.mode = target ∧ t.keys = s.keys ∧ t.startTick = none ∧ t.roleActive = false ∧
      t.command.any (·.mirrored) = s.command.any (·.mirrored) := by
  intro t
  refine ⟨by simp [t], by simp [t, State.leaveRun], by simp [t, State.leaveRun], ?_, ?_⟩
  all_goals
    dsimp only [t]
    unfold State.leaveRun
    extract_lets eng s1 s2 s3 pair s4 io s5 s6
  · have h2 : s2.roleActive = false := by
      dsimp only [s2]
      rw [roleActive_setDetail, if_pos rfl]
    have h3 : s3.roleActive = s2.roleActive := by
      refine roleActive_congr ?_
      dsimp only [s3]
      unfold State.canEnd State.canStop
      rw [obj_canRefresh_held (by decide)]
      exact obj_setNum_held (by decide) _ _ (by decide)
    clear_value s3
    have h5 : s5.roleActive = s3.roleActive := rfl
    rw [roleActive_congr (obj_setFence_held (by decide) ..), (applyHeld_effect _).1]
    split
    · rw [timeFromSeam_roleActive, h5, h3, h2]
    · rw [h5, h3, h2]
  · have h3 : s3.command = s.command := by simp [s3, s2, s1]
    clear_value s3
    have h5 : s5.command = s3.command := rfl
    have h6 : (if s.shadowTime then s5.timeFromSeam s5.tickFlags else s5).command = s.command := by
      split
      · simp [h5, h3]
      · rw [h5, h3]
    simp only [State.setFence_frame]
    rw [(applyHeld_effect _).2, h6]

end Sys2Proof.Machine

end

section

namespace Sys2Proof.Machine

/-! ### Boundaries of the station commands -/

theorem startAt_alone {s : State} (h : s.pairEnabled = false) (b : Nat) : s.startAt b = (s.enterRun b, true) := by
  have hr : s.roleAtStart = some (.run, false) := by
    unfold State.roleAtStart
    simp [h]
  unfold State.startAt
  simp [hr]

theorem noAuto_pairEnabled (s : State) : s.noAuto.pairEnabled = s.pairEnabled := rfl


theorem startBoundary_commanded {s : State} {c : PendingCommand} (hb : s.nextEdge % 4000 = 0) (hc : s.command = some c) (h3 : c.code = 3)
    (ht : c.tick ≤ s.nextEdge) : exec .startBoundary s = .next (if s.mode = .ready then
      (s.noAuto.startAt s.nextEdge).1.commandDone (s.noAuto.startAt s.nextEdge).2
    else ({ s with rst := { s.rst with autoAt := none } } : State).commandDone false) := by
  have hcom : s.command.any (fun c => decide (c.code = 3) && decide (c.tick ≤ s.nextEdge)) = true := by simp [hc, h3, ht]
  show execStartBoundary s = _
  unfold execStartBoundary
  simp only [hcom, hyperTicks, hb]
  rfl

theorem startBoundary_automatic {s : State} {b : Nat} (hb : s.nextEdge % 4000 = 0) (hc : s.command = none) (ha : s.rst.autoAt = some b)
    (ht : b ≤ s.nextEdge) (hm : s.mode = .ready) : exec .startBoundary s = .next (s.noAuto.startAt s.nextEdge).1 := by
  have hauto : s.rst.autoAt.any (fun t => decide (t ≤ s.nextEdge)) = true := by simp [ha, ht]
  show execStartBoundary s = _
  unfold execStartBoundary
  simp only [hc, hauto, hyperTicks, hb, hm]
  rfl

theorem activationRestart_due {s : State} {b : Nat} {active : Bool} (h : s.warp.restart = some (b, active)) (hd : s.due b = true) :
    exec .activationRestart s = .next (if s.mode ≠ .ready then s.noAuto else if active then s.noAuto.enterRun b else s.noAuto.enterStandby b) := by
  show execActivationRestart s = _
  unfold execActivationRestart
  rw [h]
  simp only [hd]
  rfl

theorem start_scheduled {s : State} (hm : s.mode = .ready) (ha : s.rst.autoArmed = true) (hf : s.optFallback = false)
    (hl : s.num Obj.tickSource = 0 ∨ s.rst.readyNs + s.num Obj.lockWait * 1000000000 ≤ s.localNs) :
    exec .automaticStart s = .next { s with rst := { s.rst with autoArmed := false, autoAt := some s.nextL } } := by
  show execAutomaticStart s = _
  unfold execAutomaticStart
  dsimp only
  rw [if_pos (by simpa [hm, ha, hf] using hl)]

theorem start_waits {s : State} (h : s.mode ≠ .ready ∨ s.rst.autoArmed = false ∨ s.optFallback = true ∨
    (s.num Obj.tickSource ≠ 0 ∧ s.localNs < s.rst.readyNs + s.num Obj.lockWait * 1000000000)) : exec .automaticStart s = .next s := by
  show execAutomaticStart s = _
  unfold execAutomaticStart
  dsimp only
  rw [if_neg]
  simp only [Bool.and_eq_true, Bool.or_eq_true, decide_eq_true_eq, Bool.not_eq_true', not_and, not_or]
  rintro ⟨⟨hm, ha⟩, hf⟩
  rcases h with h | h | h | ⟨h1, h2⟩
  · exact absurd hm h
  · simp [h] at ha
  · simp [h] at hf
  · exact ⟨h1, by omega⟩

/-- A start that a module alone takes at its boundary, in READY. -/
theorem started_alone {s : State} (hp : s.pairEnabled = false) :
    let t := (s.noAuto.startAt s.nextEdge).1
    t.mode = .run ∧ t.startTick = some s.nextEdge ∧ t.roleActive = true ∧ t.rst.autoAt = none ∧ t.keys = s.keys ∧
      t.command = s.command ∧ t.num Obj.commandResult = s.num Obj.commandResult ∧ (s.noAuto.startAt s.nextEdge).2 = true := by
  rw [startAt_alone ((noAuto_pairEnabled s).trans hp)]
  obtain ⟨hm, hk, hs, hr, hc, hrst, -, ho⟩ := enterRun_effect s.noAuto s.nextEdge
  dsimp only
  refine ⟨hm, hs, hr, ?_, hk, hc, num_congr (ho _ (by decide) (by decide)), rfl⟩
  rw [hrst]
  rfl

end Sys2Proof.Machine

end

section

namespace Sys2Proof.Machine

/-! ### A restore of defaults (R51) -/

/-- What putting an object back at its default does not touch: the stored values, the log and the restore that runs. -/
def State.restoreFrame (s : State) : Assoc Bytes × TallyLog × Option (Nat × Nat) := (s.stored, s.tally, s.restore)

theorem canRefresh_restoreFrame (s : State) : s.canRefresh.restoreFrame = s.restoreFrame := by
  unfold State.canRefresh
  refine foldl_keeps State.restoreFrame (fun _ _ => ?_) _ s
  rfl

theorem detectEnd_restoreFrame (s : State) (k : Fin 8) (r : Nat) : (s.detectEnd k r).restoreFrame = s.restoreFrame := by
  unfold State.detectEnd
  split
  · exact canRefresh_restoreFrame _
  · rfl

theorem configPut_restoreFrame (s : State) (a : Nat) (v : Bytes) : (s.configPut a v).restoreFrame = s.restoreFrame := by
  unfold State.configPut
  split <;> rfl

theorem putLoop_restoreFrame (s : State) (j sub : Nat) (v : Bytes) : (s.putLoop j sub v).restoreFrame = s.restoreFrame := by
  unfold State.putLoop
  split
  · exact configPut_restoreFrame ..
  · rfl
  · rfl

theorem putGain_restoreFrame (s : State) (g sub : Nat) (v : Bytes) : (s.putGain g sub v).restoreFrame = s.restoreFrame := by
  unfold State.putGain
  split
  · exact configPut_restoreFrame ..
  · rfl

theorem applyStored1_restoreFrame (s : State) (q : Nat) (v : Bytes) : (s.applyStored1 q v).restoreFrame = s.restoreFrame := by
  unfold State.applyStored1
  extract_lets ix sub
  split
  · split
    · rfl
    · (repeat' split) <;> rfl
  · split
    · split
      · exact putLoop_restoreFrame ..
      · rfl
    · split
      · split
        · exact putGain_restoreFrame ..
        · rfl
      · split <;> rfl

theorem restoreWarp_restoreFrame (s fresh : State) (a : Nat) : (s.restoreWarp fresh a).restoreFrame = s.restoreFrame := by
  unfold State.restoreWarp
  extract_lets ix sub v
  split
  · split
    · rfl
    · split
      · rfl
      · split
        · rfl
        · exact applyStored1_restoreFrame ..
  · split
    · split <;> rfl
    · split
      · rfl
      · exact applyStored1_restoreFrame ..

theorem configWrite_restoreFrame (s : State) (a : Nat) : (s.configWrite a).restoreFrame = s.restoreFrame := by
  unfold State.configWrite
  refine foldl_keeps State.restoreFrame (fun u g => ?_) _ s
  split <;> rfl

theorem followValue_restoreFrame (s : State) (a : Nat) (old : Bytes) : (s.followValue a old).restoreFrame = s.restoreFrame := by
  unfold State.followValue
  extract_lets s1
  have h1 : s1.restoreFrame = s.restoreFrame := configWrite_restoreFrame s a
  clear_value s1
  rw [← h1]
  split
  · rfl
  · split
    · unfold State.ppsJudge
      split <;> rfl
    · split
      · split
        · unfold State.pageBegin
          split <;> rfl
        · unfold State.pageEnd
          split <;> rfl
      · split
        · rfl
        · split
          · split
            · extract_lets s2
              rw [canRefresh_restoreFrame]
              show s2.restoreFrame = _
              dsimp only [s2]
              split
              · exact detectEnd_restoreFrame ..
              · rfl
            · rfl
          · split <;> rfl
          · split <;> rfl
          · rfl

theorem restoreOne_restoreFrame (s fresh : State) (e : Nat × ObjRow) :
    (s.restoreOne fresh e).restoreFrame = (Assoc.erase s.stored e.1, s.tally, s.restore) := by
  unfold State.restoreOne
  split
  rename_i a o
  extract_lets s1
  split
  · rfl
  · split
    · exact restoreWarp_restoreFrame ..
    · split
      · rfl
      · exact followValue_restoreFrame ..

/-- Keys erased one by one. -/
def eraseAll (xs : List (Nat × ObjRow)) (m : Assoc Bytes) : Assoc Bytes := xs.foldl (fun m e => Assoc.erase m e.1) m

/-- Objects put back at their defaults one by one. -/
def restoreAll (fresh : State) (xs : List (Nat × ObjRow)) (s : State) : State := xs.foldl (fun s e => s.restoreOne fresh e) s

theorem restoreAll_mode_keys (fresh : State) (xs : List (Nat × ObjRow)) (s : State) :
    (restoreAll fresh xs s).mode = s.mode ∧ (restoreAll fresh xs s).keys = s.keys := by
  simp [restoreAll]

/-- A restore erases the stored values of its range, one by one, and touches neither the log nor the running restore. -/
theorem restoreAll_restoreFrame (fresh : State) (xs : List (Nat × ObjRow)) (s : State) :
    (restoreAll fresh xs s).restoreFrame = (eraseAll xs s.stored, s.tally, s.restore) := by
  induction xs generalizing s with
  | nil => rfl
  | cons x xs ih =>
    have hx := restoreOne_restoreFrame s fresh x
    simp only [State.restoreFrame, Prod.mk.injEq] at hx
    obtain ⟨h1, h2, h3⟩ := hx
    show (restoreAll fresh xs (s.restoreOne fresh x)).restoreFrame = _
    rw [ih, h1, h2, h3]
    rfl

theorem eraseAll_get (xs : List (Nat × ObjRow)) (m : Assoc Bytes) :
    (∀ e ∈ xs, Assoc.get? (eraseAll xs m) e.1 = none) ∧
      ∀ a v, Assoc.get? (eraseAll xs m) a = some v → Assoc.get? m a = some v := by
  induction xs generalizing m with
  | nil => exact ⟨fun e he => absurd he List.not_mem_nil, fun _ _ h => h⟩
  | cons x xs ih =>
    have hc : eraseAll (x :: xs) m = eraseAll xs (Assoc.erase m x.1) := rfl
    obtain ⟨h1, h2⟩ := ih (Assoc.erase m x.1)
    rw [← hc] at h1 h2
    have hkeep : ∀ a v, Assoc.get? (Assoc.erase m x.1) a = some v → a ≠ x.1 ∧ Assoc.get? m a = some v := fun a v h => by
      by_cases ha : a = x.1
      · rw [ha, assoc_get_erase_self] at h
        exact absurd h (Option.some_ne_none v).symm
      · exact ⟨ha, by rwa [assoc_get_erase_ne _ ha] at h⟩
    refine ⟨fun e he => ?_, fun a v h => (hkeep a v (h2 a v h)).2⟩
    rcases List.mem_cons.1 he with rfl | he
    · by_contra hn
      obtain ⟨v, hv⟩ := Option.ne_none_iff_exists'.1 hn
      exact (hkeep _ v (h2 _ v hv)).1 rfl
    · exact h1 e he

end Sys2Proof.Machine

end

section

namespace Sys2Proof.Machine

/-! ### STOP, a profile change and a restore complete (R27, R51, R129) -/

theorem startBoundary_waits {s : State} (h : s.nextEdge % 4000 ≠ 0) : exec .startBoundary s = .next s := by
  show execStartBoundary s = _
  unfold execStartBoundary
  simp [hyperTicks, h]

theorem activationRestart_waits {s : State} {b : Nat} {active : Bool} (h : s.warp.restart = some (b, active)) (hd : s.due b = false) :
    exec .activationRestart s = .next s := by
  show execActivationRestart s = _
  unfold execActivationRestart
  simp [h, hd]

theorem profileChange_waits {s : State} {p b : Nat} (h : s.profileChange = some (p, b)) (hd : s.due b = false) :
    exec .profileChange s = .next s := by
  show execProfileChange s = _
  unfold execProfileChange
  simp [h, hd]

theorem stopBoundary_waits {s : State} {c : PendingCommand} (hc : s.command = some c) (h : c.code ≠ 4 ∨ s.due c.tick = false) :
    exec .stopBoundary s = .next s := by
  show execStopBoundary s = _
  unfold execStopBoundary
  simp only [hc]
  rw [if_pos (by simpa using h)]

theorem stopBoundary_fails {s : State} {c : PendingCommand} (hc : s.command = some c) (h4 : c.code = 4) (hd : s.due c.tick = true)
    (hr : s.mode.running = false) : exec .stopBoundary s = .next (s.commandDone false) := by
  show execStopBoundary s = _
  unfold execStopBoundary
  simp [hc, h4, hd, hr]

theorem stopBoundary_stops {s : State} {c : PendingCommand} (hc : s.command = some c) (h4 : c.code = 4) (hd : s.due c.tick = true)
    (hm : s.mode = .run) (hmir : c.mirrored = false) (ha : s.warp.activation = none) :
    exec .stopBoundary s = .next ((s.leaveRun .ready).commandDone true) := by
  have hdrop : s.dropActivation = s := by
    unfold State.dropActivation
    simp [ha]
  show execStopBoundary s = _
  unfold execStopBoundary
  simp [hc, h4, hd, hm, hmir, ha, hdrop, Mode.running]

theorem stop_completes {s : State} {c : PendingCommand} (hc : s.command = some c) (hmir : c.mirrored = false) :
    let t := (s.leaveRun .ready).commandDone true
    t.mode = .ready ∧ t.command = none ∧ t.num Obj.commandResult = 2 ∧ t.num Obj.commandTick = 0 ∧ t.startTick = none ∧ t.roleActive = false ∧
      t.store = s.store ∧ t.dram = s.dram ∧ t.warp = s.warp ∧ t.weftQueue = s.weftQueue := by
  intro t
  obtain ⟨hmode, -, hstart, hrole, hcmd⟩ := leaveRun_effect s .ready
  obtain ⟨h1, -, h3, h4, h5, h6⟩ := commandDone_effect (s := s.leaveRun .ready) (by rw [hcmd, hc]; exact hmir) true
  refine ⟨h1.trans hmode, h3, h5, h4, ?_, (roleActive_congr h6).trans hrole, ?_, ?_, ?_, ?_⟩
  · simp [t, hstart]
  all_goals simp [t]

theorem applySetting_effect (s : State) (b : Nat) :
    (s.applySetting b).eng.gates = gatesAt (sectBody (s.imageAt b) 9) (tickIndex b) ∧
      s.SameObjects (s.applySetting b) [Obj.sequencerClock, Obj.coreSupply] := by
  rw [applySetting_eq]
  refine ⟨?_, fun a ha => ?_⟩
  · rw [(changePoint_effect ..).2.2.2]
    rfl
  · rw [(changePoint_effect ..).2.2.1 a ha]
    rfl

theorem profileChange_takes {s : State} {p b : Nat} (h : s.profileChange = some (p, b)) (hd : s.due b = true) (hl : s.warp.loaded.isSome = true) :
    ∃ t, exec .profileChange s = .next t ∧ t.num Obj.activeProfile = p % 256 ∧
      t.profileChange = none ∧ t.mode = s.mode ∧ t.store = s.store ∧
      (s.mode.running = true → t.eng.gates = gatesAt (sectBody (s.imageAt b) 9) (tickIndex b)) := by
  have he : exec .profileChange s = .next (if s.mode.running then
      (({ s with profileChange := none } : State).setNum Obj.activeProfile p).applySetting b
    else ({ s with profileChange := none } : State).setNum Obj.activeProfile p) := by
    show execProfileChange s = _
    unfold execProfileChange
    simp only [h, hd]
    rw [if_neg (by decide), if_neg (by simpa using Option.isSome_iff_ne_none.1 hl)]
    rfl
  refine ⟨_, he, ?_⟩
  have hn : (({ s with profileChange := none } : State).setNum Obj.activeProfile p).num Obj.activeProfile = p % 256 := by
    rw [num_setNum_self]
    rfl
  split
  · obtain ⟨hg, ho⟩ := applySetting_effect (({ s with profileChange := none } : State).setNum Obj.activeProfile p) b
    exact ⟨(num_congr (ho _ (by decide))).trans hn, by simp, by simp, by simp, fun _ => hg⟩
  · rename_i hr
    exact ⟨hn, rfl, rfl, rfl, fun hrun => absurd hrun hr⟩

theorem restoreDone_ends {s : State} {first last : Nat} (h : s.restore = some (first, last)) :
    ∃ t, exec .restoreDone s = .next t ∧ t.restore = none ∧ t.num Obj.restoreResult = 2 ∧
       s.Wrote t 0x0102 [first, last] ∧ t.keys = s.keys ∧ t.mode = s.mode ∧
       (∀ e ∈ s.restorables first last, Assoc.get? t.stored e.1 = none) ∧
         ∀ a v, Assoc.get? t.stored a = some v → Assoc.get? s.stored a = some v := by
  have he : ∃ fresh, exec .restoreDone s = .next (((restoreAll fresh (s.restorables first last) { s with restore := none }).setNum
      Obj.restoreResult 2).logTally 0x0102 [first, last]) := by
    refine ⟨if first < 0x10000 then s else s.freshWarp, ?_⟩
    show execRestoreDone s = _
    unfold execRestoreDone
    rw [h]
    rfl
  obtain ⟨fresh, he⟩ := he
  refine ⟨_, he, ?_⟩
  have hf := restoreAll_restoreFrame fresh (s.restorables first last) { s with restore := none }
  obtain ⟨hm, hk⟩ := restoreAll_mode_keys fresh (s.restorables first last) { s with restore := none }
  generalize restoreAll _ _ _ = u at hf hm hk ⊢
  simp only [State.restoreFrame, Prod.mk.injEq] at hf
  obtain ⟨hstored, htally, hrestore⟩ := hf
  have hs : ((u.setNum Obj.restoreResult 2).logTally 0x0102 [first, last]).stored = eraseAll (s.restorables first last) s.stored := by
    simp [hstored]
  refine ⟨by simp [hrestore], ?_, ?_, by simp [hk], by simp [hm], ?_⟩
  · rw [logTally_num _ _ _ (by decide), num_setNum_self]
    rfl
  · refine wrote_logTally (u := u.setNum Obj.restoreResult 2) ?_ rfl ?_ ?_
    · rw [State.setNum_tally, htally]
      exact TallyLog.extends_refl _
    · rw [logTally_num _ _ _ (by decide)]
    · simp
  · rw [hs]
    exact eraseAll_get ..

end Sys2Proof.Machine

end

section

open Sys2Proof Sys2Proof.Machine

/-- Settles O8: each boundary finds what waits for it, and completes it or fails it. -/
theorem stationTransitionsComplete : Obligations.StationTransitionsComplete := by
  refine ⟨fun s => ⟨start_scheduled, start_waits, startBoundary_waits, fun c hb hc h3 ht hmir => ⟨fun hm hp => ?_, fun hm => ?_⟩,
      fun b hb hc ha ht hm hp => ?_, fun b active hr => ⟨fun hd => ?_, fun hd hm ha => ?_, fun hd hm => ?_⟩⟩,
    fun s => ⟨fun c hc => ⟨stopBoundary_waits hc, fun h4 hd hm hmir ha => ?_, fun h4 hd hr hmir => ?_⟩,
      fun p b h => ⟨fun hd => ?_, profileChange_takes h⟩, fun h => ?_, fun first last h => ?_⟩⟩
  · obtain ⟨hmode, hstart, hrole, hauto, hkeys, hcmd, -, hok⟩ := started_alone hp
    obtain ⟨h1, h2, h3', h4, h5, h6⟩ := commandDone_effect (s := (s.noAuto.startAt s.nextEdge).1) (by rw [hcmd, hc]; exact hmir) true
    refine ⟨_, startBoundary_commanded hb hc h3 ht, ?_⟩
    rw [if_pos hm, hok]
    exact ⟨h1.trans hmode, by simpa using hstart, h3', h5, h4, (roleActive_congr h6).trans hrole, by simpa using hauto, h2.trans hkeys⟩
  · obtain ⟨h1, -, h3', h4, h5, -⟩ := commandDone_effect (s := { s with rst := { s.rst with autoAt := none } }) (by simp [hc, hmir]) false
    refine ⟨_, startBoundary_commanded hb hc h3 ht, ?_⟩
    rw [if_neg hm]
    exact ⟨h1, h3', h5, h4, by simp⟩
  · obtain ⟨hmode, hstart, -, hauto, -, -, hres, -⟩ := started_alone hp
    exact ⟨_, startBoundary_automatic hb hc ha ht hm, hmode, hstart, hres, hauto⟩
  · exact activationRestart_waits hr hd
  · refine ⟨_, activationRestart_due hr hd, ?_⟩
    obtain ⟨hmode, -, hstart, -, -, -, hres, -⟩ := enterRun_effect s.noAuto b
    rw [if_neg (not_not.2 hm), if_pos ha]
    exact ⟨hmode, hstart, hres⟩
  · refine ⟨_, activationRestart_due hr hd, ?_⟩
    rw [if_pos hm]
    exact ⟨rfl, rfl, rfl⟩
  · exact ⟨_, stopBoundary_stops hc h4 hd hm hmir ha, stop_completes hc hmir⟩
  · obtain ⟨h1, -, h3', -, h5, -⟩ := commandDone_effect (s := s) (by simp [hc, hmir]) false
    exact ⟨_, stopBoundary_fails hc h4 hd hr, h1, h3', h5, by simp⟩
  · exact profileChange_waits h hd
  · show execRestoreDone s = _
    unfold execRestoreDone
    rw [h]
  · obtain ⟨t, he, h1, h2, h3, h4, h5, h6, h7⟩ := restoreDone_ends h
    exact ⟨t, he, h1, h2, h3, h4, h5, fun _ => ⟨h6, h7⟩⟩

end

section

namespace Sys2Proof.Machine

/-! ### A wake from LAYUP (R23, R333, R412) -/

@[simp] theorem State.runPhases_frame (s : State) (n : Nat) :
    (s.runPhases n).rst = s.rst ∧ (s.runPhases n).dram = s.dram ∧ (s.runPhases n).store = s.store := by
  induction n generalizing s with
  | zero => exact ⟨rfl, rfl, rfl⟩
  | succ n ih =>
    have h1 : s.runPhase.rst = s.rst ∧ s.runPhase.dram = s.dram ∧ s.runPhase.store = s.store := by simp [State.runPhase]
    obtain ⟨h2, h3, h4⟩ := ih s.runPhase
    exact ⟨h2.trans h1.1, h3.trans h1.2.1, h4.trans h1.2.2⟩

@[simp] theorem State.finishJournal_frame (s : State) :
    s.finishJournal.rst = s.rst ∧ s.finishJournal.dram = s.dram ∧ s.finishJournal.store = s.store := by
  simp [State.finishJournal]

theorem blocksReset_kept (s : State) : s.blocksReset.rst.episode = s.rst.episode ∧ s.blocksReset.rst.count = s.rst.count ∧
    s.blocksReset.rst.cause = s.rst.cause ∧ s.blocksReset.rst.records = s.rst.records ∧ s.blocksReset.rst.layup = s.rst.layup ∧
    s.blocksReset.dram = s.dram ∧ s.blocksReset.store = [] := by
  simp [State.blocksReset]

/-- What a module that wakes keeps, and what it loses. -/
def State.Woken (s t : State) (bad : Bool) : Prop :=
  t.mode = .boot ∧ t.rst.waking = true ∧ t.rst.episode = s.rst.episode ∧ t.rst.count = s.rst.count ∧
    t.rst.cause = s.rst.cause ∧ t.rst.records = s.rst.records ∧ t.dram = s.dram ∧ t.store = [] ∧ t.rst.okContact = false ∧
    t.rst.layup = (if bad then none else s.rst.layup)

/-- What the CAN block notes is no part of it. -/
theorem State.Woken.withCan {s t : State} {bad : Bool} (h : s.Woken t bad) (c : CanBlock) : s.Woken { t with can := c } bad := h

theorem wakeUp_woken (s : State) (bad : Bool) : s.Woken (s.wakeUp bad) bad := by
  obtain ⟨h1, h2, h3, h4, h5, h6, h7⟩ := blocksReset_kept { s with mode := .boot }
  refine ⟨by simp, ?_⟩
  unfold State.wakeUp
  simp only [State.finishJournal_frame, State.secureBoot_frame, State.clocksRestart_frame, State.timeStart_frame, h1, h2, h3, h4, h5, h6, h7]
  simp

end Sys2Proof.Machine

end

section

namespace Sys2Proof.Machine

/-! ### HOLD is entered (R523, Table 1-8) -/

theorem setTimeState_tally (s : State) (k : TimeState) : (s.setTimeState k).tally = s.tally := by
  unfold State.setTimeState
  extract_lets s1
  split <;> rfl

theorem ppsJudge_tally (s : State) : s.ppsJudge.tally = s.tally := by
  unfold State.ppsJudge
  split <;> rfl

theorem enterHoldover_extends (s : State) (k : TimeState) : s.tally.Extends (s.enterHoldover k).tally := by
  unfold State.enterHoldover
  extract_lets time s0 s1
  split
  · have h1 : s1.tally = s.tally := by simp [s1, s0, setTimeState_tally]
    rw [ppsJudge_tally, ← h1]
    exact TallyLog.extends_trans (count_extends s1 _ _) (logDraft_extends _ _)
  · rw [setTimeState_tally]
    exact TallyLog.extends_refl _

theorem timeFromSeam_extends (s : State) (flags : Nat) : s.tally.Extends (s.timeFromSeam flags).tally := by
  unfold State.timeFromSeam
  extract_lets unlocked hold time s1 s2 s3
  have h3 : s3.tally = s.tally := by simp [s3, s2, s1, setTimeState_tally]
  rw [ppsJudge_tally, ← h3]
  split
  · exact TallyLog.extends_refl _
  · unfold State.noSlave
    split
    · exact TallyLog.extends_refl _
    · split
      · rw [setTimeState_tally]
        exact TallyLog.extends_refl _
      · exact enterHoldover_extends ..

theorem applyHeld_extends (s : State) : s.tally.Extends s.applyHeld.tally := by
  unfold State.applyHeld
  split
  · split
    · unfold State.applyStep
      extract_lets now new later src unit waiting profiles s1 s2 s3
      have h1 : s1.tally = s.tally := rfl
      have h2 : s1.tally.Extends s2.tally := count_extends (s1.setFlag Obj.stepHeld false) _ _
      have h3 : s3.tally = s2.tally := by
        dsimp only [s3]
        split
        · rfl
        · exact setTimeState_tally ..
      rw [← h1]
      exact TallyLog.extends_trans h2 (h3 ▸ logDraft_extends s3 _)
    · exact TallyLog.extends_refl _
  · exact TallyLog.extends_refl _

theorem canRefresh_tally (s : State) : s.canRefresh.tally = s.tally := congrArg (·.2.1) (canRefresh_restoreFrame s)

theorem fenceActs_tally (s : State) : s.fenceActs.tally = s.tally := by
  have hs : ∀ (u : State) src asked, (u.assertSource src asked).tally = u.tally := fun u src asked => by
    unfold State.assertSource
    split <;> rfl
  unfold State.fenceActs
  split
  · split
    · rfl
    · unfold State.sidebandsNow
      rw [State.setNum_tally, hs]
      rfl
  · rfl

/-- Releasing the fence writes no tally. -/
theorem setFence_off_tally (s : State) : (s.setFence false).tally = s.tally := by
  unfold State.setFence
  split
  · rfl
  · extract_lets pair s1 s2
    have h2 : s2.tally = s.tally := rfl
    unfold State.sidebandsNow
    rw [State.setNum_tally, fenceActs_tally, h2]

theorem leaveRun_extends (s : State) (target : Mode) : s.tally.Extends (s.leaveRun target).tally := by
  unfold State.leaveRun
  extract_lets eng s1 s2 s3 pair s4 io s5 s6
  have h2 : s2.tally = s.tally := rfl
  have h3 : s3.tally = s2.tally := canRefresh_tally _
  have h5 : s5.tally = s3.tally := rfl
  rw [setFence_off_tally, ← h2, ← h3, ← h5]
  refine TallyLog.extends_trans ?_ (applyHeld_extends _)
  split
  · exact timeFromSeam_extends ..
  · exact TallyLog.extends_refl _

theorem dropActivation_tally (s : State) : s.dropActivation.tally = s.tally := by
  unfold State.dropActivation
  split <;> rfl

/-- HOLD with its cause, from a state that has left its roles. -/
theorem enterHold_effect (s : State) (code : Nat) :
    let t := s.enterHold code
    t.command = none ∧ t.num Obj.holdCause = code % 65536 ∧ t.roleActive = false ∧ t.rst.okContact = false ∧
      ∃ u : State, u.tally = s.tally ∧ t.tally = (u.logTally 0x0106 [code]).tally ∧ t.num Obj.moduleNode = u.num Obj.moduleNode ∧ t.timeNs = u.timeNs := by
  intro t
  have ho : ∀ a ∉ tallyObjects, t.obj a = ((s.setNum Obj.holdCause code).setDetail 5 false).obj a := fun a ha => logTally_obj _ _ _ ha
  refine ⟨rfl, ?_, ?_, rfl, (s.setNum Obj.holdCause code).setDetail 5 false, rfl, rfl, num_congr (ho _ (by decide)), ?_⟩
  · rw [num_congr (ho _ (by decide))]
    unfold State.setDetail
    rw [num_setNum_ne _ _ (by decide), num_setNum_self]
    rfl
  · rw [roleActive_congr (ho _ (by decide)), roleActive_setDetail, if_pos rfl]
  · show ((s.setNum Obj.holdCause code).setDetail 5 false |>.logTally 0x0106 [code]).timeNs = _
    simp

/-- HOLD once its entry is logged: no automatic start. -/
def State.unarmed (s : State) : State := ({ s with rst := { s.rst with autoArmed := false, autoAt := none } } : State).canRefresh

theorem unarmed_obj (s : State) {a : Nat} (h : ∀ k : Fin 8, a ≠ Obj.canState k.val) : s.unarmed.obj a = s.obj a := canRefresh_obj _ h

theorem unarmed_tally (s : State) : s.unarmed.tally = s.tally := canRefresh_tally _

theorem unarmed_timeNs (s : State) : s.unarmed.timeNs = s.timeNs := by
  unfold State.unarmed State.canRefresh
  refine foldl_keeps State.timeNs (fun _ _ => ?_) _ _
  rfl

@[simp] theorem State.unarmed_frame (s : State) : s.unarmed.store = s.store ∧ s.unarmed.command = s.command ∧
    s.unarmed.profileChange = s.profileChange ∧ s.unarmed.rst = { s.rst with autoArmed := false, autoAt := none } := by
  simp [State.unarmed]

/-- The roles are left before HOLD is entered. -/
theorem goHold_eq (s : State) (code : Nat) : ∃ u : State, s.goHold code = (({ u with profileChange := none } : State).enterHold code).unarmed ∧
    s.tally.Extends u.tally ∧ u.store = s.store := by
  refine ⟨if s.mode.running then s.dropActivation.leaveRun .hold else s, rfl, ?_, ?_⟩
  · split
    · rw [← dropActivation_tally]
      exact leaveRun_extends ..
    · exact TallyLog.extends_refl _
  · split <;> simp

theorem goHold_effect (s : State) (code : Nat) :
    let t := s.goHold code
    t.mode = .hold ∧ t.num Obj.holdCause = code % 65536 ∧ s.Wrote t 0x0106 [code] ∧ t.rst.okContact = false ∧ t.command = none ∧
      t.rst.autoArmed = false ∧ t.rst.autoAt = none ∧ t.roleActive = false ∧ t.profileChange = none ∧ t.store = s.store := by
  obtain ⟨u, hu, hext, hstore⟩ := goHold_eq s code
  have hmode := State.goHold_mode s code
  rw [hu] at hmode ⊢
  obtain ⟨hcmd, hcause, hrole, hok, w, hw, htally, hnode, htime⟩ := enterHold_effect { u with profileChange := none } code
  have hst : (({ u with profileChange := none } : State).enterHold code).store = s.store ∧
      (({ u with profileChange := none } : State).enterHold code).profileChange = none := by simp [hstore]
  generalize State.enterHold _ _ = v at hmode hcmd hcause hrole hok htally hnode htime hst ⊢
  have ho : ∀ a, (∀ k : Fin 8, a ≠ Obj.canState k.val) → v.unarmed.obj a = v.obj a := fun a => unarmed_obj v
  refine ⟨hmode, (num_congr (ho _ (by decide))).trans hcause, ?_, by simp [hok], by simp [hcmd], by simp, by simp,
    (roleActive_congr (ho _ (by decide))).trans hrole, by simp [hst.2], by simp [hst.1]⟩
  exact wrote_logTally (u := w) (hw ▸ hext) ((unarmed_tally v).trans htally) ((num_congr (ho _ (by decide))).trans hnode)
    ((unarmed_timeNs v).trans htime)

end Sys2Proof.Machine

end

section

namespace Sys2Proof.Machine

/-! ### Banks at boot: what verifying and loading one leaves (Table 5-16) -/

/-- The objects of a bank. -/
theorem bankObjects_unheld (k : Nat) : Obj.bankState k ∉ heldObjects ∧ Obj.refusalReason k ∉ heldObjects ∧ Obj.refusalDetail k ∉ heldObjects ∧
    Obj.provenProfiles k ∉ heldObjects ∧ Obj.layoutDigest k ∉ heldObjects ∧ Obj.imageLength k ∉ heldObjects ∧
    Obj.buildTime k ∉ heldObjects ∧ Obj.applicationName k ∉ heldObjects ∧ Obj.opkorVersion k ∉ heldObjects ∧ digestObj k ∉ heldObjects := by
  refine ⟨?_, ?_, ?_, ?_, ?_, ?_, ?_, ?_, ?_, ?_⟩
  case refine_10 =>
    unfold digestObj
    split <;> decide
  all_goals exact unheld_of_gt (Nat.lt_of_lt_of_le (by decide) (Nat.le_add_right _ _))

/-- The objects of the station are not a warp's. -/
theorem held_not_station {a : Nat} (h : a ∈ heldObjects) : isStationIx (addrIndex a) = false := by
  revert a; decide

theorem assoc_get_filter {α : Type} (m : Assoc α) (p : Nat → Bool) {q : Nat} (h : p q = true) :
    Assoc.get? (m.filter fun e => p e.1) q = Assoc.get? m q := by
  induction m with
  | nil => rfl
  | cons e r ih =>
    by_cases he : p e.1 = true
    · rw [List.filter_cons_of_pos (p := fun e : Nat × α => p e.1) he, Assoc.get?, Assoc.get?, ih]
    · have hne : e.1 ≠ q := fun hq => he (hq ▸ h)
      rw [List.filter_cons_of_neg (p := fun e : Nat × α => p e.1) he, ih, Assoc.get?, if_neg hne]

theorem obj_loadTables (s : State) (a : Nat) : s.loadTables.obj a = s.obj a := by
  unfold State.loadTables
  refine foldl_keeps (State.obj · a) (fun _ _ => ?_) _ _
  rfl

section

variable {a : Nat} (h : a ∈ heldObjects)

include h

theorem obj_clearBank_held (s : State) (k state : Nat) : (s.clearBank k state).obj a = s.obj a := by
  obtain ⟨h1, h2, h3, h4, h5, h6, h7, h8, h9, h10⟩ := bankObjects_unheld k
  unfold State.clearBank
  rw [obj_setObj_held h _ _ h10, obj_setNum_held h _ _ h9, obj_setObj_held h _ _ h8, obj_setObj_held h _ _ h7, obj_setNum_held h _ _ h6,
    obj_setObj_held h _ _ h5, obj_setNum_held h _ _ h4, obj_setNum_held h _ _ h3, obj_setNum_held h _ _ h2, obj_setNum_held h _ _ h1]

theorem obj_reportValid_held (s : State) (k : Nat) (img : Bytes) : (s.reportValid k img).obj a = s.obj a := by
  obtain ⟨-, -, -, h4, h5, h6, h7, h8, h9, h10⟩ := bankObjects_unheld k
  unfold State.reportValid
  extract_lets hd
  rw [obj_setObj_held h _ _ h10, obj_setNum_held h _ _ h9, obj_setObj_held h _ _ h8, obj_setObj_held h _ _ h7, obj_setNum_held h _ _ h6,
    obj_setObj_held h _ _ h5, obj_setNum_held h _ _ h4, obj_clearBank_held h]

theorem obj_verifyBank_held (s : State) (k : Nat) : (s.verifyBank k).obj a = s.obj a := by
  obtain ⟨-, h2, h3, -, -, -, -, -, -, h10⟩ := bankObjects_unheld k
  unfold State.verifyBank
  extract_lets img status
  have hs : ∀ n, (status n).obj a = s.obj a := fun n => rfl
  split
  · exact obj_clearBank_held h ..
  · split
    · rw [obj_reportValid_held h, hs]
    · rw [obj_logTally_held h, obj_setObj_held h _ _ h10, obj_setNum_held h _ _ h3, obj_setNum_held h _ _ h2, obj_clearBank_held h, hs]

theorem obj_refuseAbsent_held (s : State) (k : Nat) : (s.refuseAbsent k).obj a = s.obj a := by
  obtain ⟨-, h2, -⟩ := bankObjects_unheld k
  unfold State.refuseAbsent
  split
  · rw [obj_logTally_held h, obj_setNum_held h _ _ h2]
  · rfl

theorem obj_verifyLater_held (s : State) (k : Nat) : (s.verifyLater k).obj a = s.obj a := by
  unfold State.verifyLater
  split
  · exact obj_clearBank_held h ..
  · rw [obj_clearBank_held h]
    rfl

theorem foldl_setNum_held (xs : List Nat) (hx : ∀ q ∈ xs, q ∉ heldObjects) (s : State) :
    (xs.foldl (fun (s : State) q => s.setNum q 0) s).obj a = s.obj a := by
  induction xs generalizing s with
  | nil => rfl
  | cons x xs ih =>
    rw [List.foldl_cons, ih fun q hq => hx q (List.mem_cons_of_mem _ hq)]
    exact obj_setNum_held h _ _ (hx x List.mem_cons_self)

theorem obj_reportLoaded_held (s : State) : s.reportLoaded.obj a = s.obj a := by
  unfold State.reportLoaded
  split
  · extract_lets s1
    have h1 : s1.obj a = s.obj a := by
      dsimp only [s1]
      rw [obj_setNum_held h _ _ (by decide), obj_setFlag_held h _ _ (by decide), obj_setNum_held h _ _ (by decide),
        obj_setNum_held h _ _ (by decide)]
    exact (foldl_setNum_held h _ (by decide) s1).trans h1
  · extract_lets ss s1
    have h1 : s1.obj a = s.obj a := by
      dsimp only [s1]
      rw [obj_setNum_held h _ _ (by decide), obj_setFlag_held h _ _ (by decide), obj_setNum_held h _ _ (by decide),
        obj_setNum_held h _ _ (by decide)]
    dsimp only
    rw [obj_setNum_held h _ _ (by decide), obj_setNum_held h _ _ (by decide), obj_setNum_held h _ _ (by decide),
      obj_setNum_held h _ _ (by decide), obj_setNum_held h _ _ (by decide), obj_setNum_held h _ _ (by decide)]
    exact h1

theorem obj_dropWarpDict_held (s : State) : s.dropWarpDict.obj a = s.obj a := by
  have hg := assoc_get_filter s.dict (fun q => !isStationIx (addrIndex q)) (q := a) (by rw [held_not_station h]; rfl)
  show (Assoc.get? (s.dict.filter fun e => !isStationIx (addrIndex e.1)) a).getD _ = _
  rw [hg]
  rfl

theorem obj_releaseWarp_held (s : State) : s.releaseWarp.obj a = s.obj a := by
  unfold State.releaseWarp
  rw [obj_reportLoaded_held h]
  exact obj_dropWarpDict_held h s

theorem obj_bindStored_held (s : State) (digest : Bytes) : (s.bindStored digest).obj a = s.obj a := by
  unfold State.bindStored
  extract_lets old
  split
  · rfl
  · rw [obj_logTally_held h]
    rfl

theorem obj_setLoaded_held (s : State) (l : Loaded) : (s.setLoaded l).obj a = s.obj a := by
  unfold State.setLoaded
  extract_lets src warp s1
  have h0 : src.obj a = s.obj a := obj_releaseWarp_held h s
  clear_value src
  have h1 : s1.obj a = s.obj a := (obj_loadTables _ a).trans h0
  clear_value s1
  rw [obj_initialState_held h, obj_reportLoaded_held h, obj_bindStored_held h, h1]

theorem obj_installBank_held (s : State) (k : Nat) : (s.installBank k).1.obj a = s.obj a := by
  unfold State.installBank
  extract_lets p s1
  have h1 : s1.obj a = s.obj a := (obj_setNum_held h _ _ (by decide)).trans (obj_setLoaded_held h ..)
  clear_value s1
  split
  · exact (obj_reportGroups_held h _).trans h1
  · rfl

theorem obj_loadBank_held (s : State) (k : Nat) : (s.loadBank k).1.obj a = s.obj a := by
  unfold State.loadBank
  rw [obj_installBank_held h, obj_refuseAbsent_held h, obj_verifyBank_held h]

end

end Sys2Proof.Machine

end

section

namespace Sys2Proof.Machine

/-! ### The services start, and the boot ends in its state (Tables 1-7 and 15-4) -/

theorem setLoaded_frame (s : State) (l : Loaded) : (s.setLoaded l).rst = s.rst ∧ (s.setLoaded l).warp.loaded.map (·.bank) = some l.bank := by
  unfold State.setLoaded
  extract_lets src warp s1
  have h1 : s1.rst = s.rst ∧ s1.warp.loaded = some l := by simp [s1, warp, src]
  refine ⟨?_, ?_⟩
  · rw [(initialState_frame _).1]
    simp [h1.1]
  · have hw := congrArg (·.2) (initialState_warpFrame (s1.bindStored (hdrLayoutDigest l.header)).reportLoaded)
    simp only [State.warpFrame, State.reportLoaded_frame, State.bindStored_frame, h1.2] at hw
    exact hw

theorem installBank_frame (s : State) (k : Nat) : (s.installBank k).1.rst = s.rst ∧
    ((s.installBank k).2 = true → (s.installBank k).1.warp.loaded.map (·.bank) = some k) := by
  unfold State.installBank
  have hb : (loadImage k (s.bankImage k)).bank = k := rfl
  generalize loadImage k (s.bankImage k) = l at hb
  extract_lets p s1
  have h1 : s1.rst = s.rst ∧ s1.warp.loaded.map (·.bank) = some k := by
    obtain ⟨hr, hw⟩ := setLoaded_frame s l
    dsimp only [s1]
    rw [State.setNum_rst, State.setNum_warp]
    exact ⟨hr, hb ▸ hw⟩
  clear_value s1
  split
  · exact ⟨(State.reportGroups_frame _).1.trans h1.1, fun _ => by simpa using h1.2⟩
  · exact ⟨rfl, nofun⟩

theorem loadBank_frame (s : State) (k : Nat) : (s.loadBank k).1.rst = s.rst ∧
    ((s.loadBank k).1.mode = s.mode ∨ (s.loadBank k).1.mode = .ready ∧ (s.loadBank k).1.warp.loaded.map (·.bank) = some k) := by
  unfold State.loadBank
  obtain ⟨hr, hw⟩ := installBank_frame ((s.verifyBank k).refuseAbsent k) k
  refine ⟨by simp [hr], ?_⟩
  rw [installBank_mode]
  split
  · rename_i hi
    exact .inr ⟨rfl, hw hi⟩
  · exact .inl (by simp)

theorem verifyLater_frame (s : State) (k : Nat) : (s.verifyLater k).rst = s.rst ∧ (s.verifyLater k).warp = s.warp := by
  unfold State.verifyLater
  split <;> simp

/-- Whether a boot is to load the selected bank. -/
def State.wantsBank (s : State) : Bool :=
  if s.rst.waking then decide (s.rst.layup = some .ready)
  else !s.optFallback && (decide (1 ≤ s.num Obj.startMode) || decide (s.num Obj.damagedRecords ≠ 0))

/-- What the boot's last step leaves: SERVICE, or READY with the selected bank loaded. -/
theorem bootState_effect (s : State) :
    let t := s.bootState
    (t.mode = .service ∨ t.mode = .ready) ∧ (∀ a ∈ heldObjects, t.obj a = s.obj a) ∧
      t.rst = { s.rst with autoArmed := t.rst.autoArmed, readyNs := t.rst.readyNs } ∧
      t.rst.autoArmed = (decide (t.mode = .ready) && !s.rst.waking && decide (s.num Obj.startMode = 2) && decide (s.num Obj.damagedRecords = 0)) ∧
      (t.mode = .ready → s.wantsBank = true ∧ t.warp.loaded.map (·.bank) = some (s.num Obj.selectedBank)) := by
  refine ⟨bootState_mode s, ?_⟩
  unfold State.bootState
  extract_lets k resumed mode wants s1 s2 auto s3 r
  have hwants : wants = s.wantsBank := by
    dsimp only [wants, resumed, mode]
    unfold State.wantsBank
    by_cases hw : s.rst.waking = true <;> simp [hw]
  have h2 : (∀ a ∈ heldObjects, s2.obj a = s.obj a) ∧ s2.rst = s.rst ∧
      (s2.mode = .ready → wants = true ∧ s2.warp.loaded.map (·.bank) = some k) := by
    dsimp only [s2]
    split
    · rename_i hw
      obtain ⟨hr, hl⟩ := loadBank_frame s1 k
      refine ⟨fun a ha => obj_loadBank_held ha s1 k, hr, fun hm => ⟨hw, ?_⟩⟩
      rcases hl with hl | hl
      · exact absurd (show Mode.service = Mode.ready from hl.symm.trans hm) (by decide)
      · exact hl.2
    · refine ⟨fun a ha => obj_verifyBank_held ha s1 k, (State.verifyBank_frame s1 k).1, fun hm => ?_⟩
      exact absurd (show Mode.service = Mode.ready from (State.verifyBank_mode_keys s1 k).1.symm.trans hm) (by decide)
  have h3 : (∀ a ∈ heldObjects, s3.obj a = s2.obj a) ∧ s3.rst = s2.rst ∧ s3.warp = s2.warp ∧ s3.mode = s2.mode :=
    ⟨fun a ha => obj_verifyLater_held ha s2 _, (verifyLater_frame s2 _).1, (verifyLater_frame s2 _).2, (State.verifyLater_mode_keys s2 _).1⟩
  obtain ⟨ho2, hr2, hb2⟩ := h2
  obtain ⟨ho3, hr3, hw3, hm3⟩ := h3
  have hdam : s2.num Obj.damagedRecords = s.num Obj.damagedRecords := num_congr (ho2 _ (by decide))
  have hauto : auto = (decide (s3.mode = .ready) && !s.rst.waking && decide (s.num Obj.startMode = 2) && decide (s.num Obj.damagedRecords = 0)) := by
    dsimp only [auto, mode]
    rw [hdam, hm3]
  refine ⟨fun a ha => (ho3 a ha).trans (ho2 a ha), ?_, hauto, fun hm => ?_⟩
  · dsimp only [r]
    rw [hr3, hr2]
  · rw [← hwants, hw3]
    exact hb2 (hm3.symm.trans hm)

theorem startServices_rst (s : State) (f : BootFacts) :
    (s.startServices f).rst = { s.rst with unreported := [], activationLost := false, rtcLost := false } := by
  have he : ∀ u : State, u.reportEpisodes.rst = { u.rst with unreported := [] } := fun u => by
    simp [State.reportEpisodes]
  unfold State.startServices
  extract_lets keys s0 s1 s2 s3 s4 s5 s6 can s7
  have h2 : s2.rst = { s.rst with unreported := [] } := by simp [s2, he, s1, s0]
  have h5 : s5.rst = s2.rst := by simp [s5, s4, s3]
  clear_value s5
  have h6 : s6.rst = s5.rst := by
    dsimp only [s6]
    split <;> rfl
  clear_value s6
  have h7 : s7.rst = s6.rst := by
    dsimp only [s7]
    split
    · exact State.logTally_rst ..
    · rfl
  clear_value s7
  show ({ s7.rst with activationLost := false, rtcLost := false } : ResetBlock) = _
  rw [h7, h6, h5, h2]

theorem fenceActs_rst (s : State) : ∃ c x y, s.fenceActs.rst = { s.rst with cause := c, asserted := x, first := y } := by
  have ha : ∀ u : State, ∃ c x y, (u.assertSource .fence .s).rst = { u.rst with cause := c, asserted := x, first := y } := fun u => by
    unfold State.assertSource
    split
    · exact ⟨_, _, _, rfl⟩
    · exact ⟨_, _, _, rfl⟩
  unfold State.fenceActs
  split
  · split
    · exact ⟨_, _, _, rfl⟩
    · exact ha _
  · exact ⟨_, _, _, rfl⟩

end Sys2Proof.Machine

end

section

namespace Sys2Proof.Machine

/-! ### Boot complete (R49, R422, R432) -/

/-- The module as its services have started, in SERVICE or READY, or still in HOLD. -/
def State.booted (s : State) (f : BootFacts) : State :=
  if ((s.advance f.ns).startServices f).mode = .hold then (s.advance f.ns).startServices f else ((s.advance f.ns).startServices f).bootState

/-- As `State.booted`, in HOLD where the exit has found a cause. -/
def State.judged (s : State) (f : BootFacts) : State :=
  if (s.booted f).rst.holdAtExit ≠ 0 then (s.booted f).goHold (s.booted f).rst.holdAtExit else s.booted f

/-- The outputs released and the contact set as the exit or the wake ends. -/
def State.released (s : State) (ok : Bool) : State :=
  ({ s with rst := { s.rst with exiting := none, waking := false, layup := none, resetOut := false, okContact := ok, holdAtExit := 0 } } :
    State).canRefresh.fenceActs.sidebandsNow

/-- The partner hears of the module where the seam is up. -/
def State.greeted (s : State) : State := if s.pairEnabled && s.seamUp then s.sendSeam seamTypeHello s.helloBytes else s

/-- The duration that an exit reports; a wake reports none. -/
def State.timed (s : State) (waking : Bool) : State :=
  if waking then s else s.setNum Obj.bootDuration ((s.localNs - s.rst.closeNs) / 1000000)

theorem bootComplete_eq {s : State} (f : BootFacts) (he : s.rst.episode = none) (hf : s.firmware.running.isSome = true)
    (hx : s.rst.exiting.isSome = true ∨ s.rst.waking = true) (hm : s.mode = .boot ∨ s.mode = .hold) (hc : s.mode = .boot ∨ s.rst.exiting ≠ some .c) :
    exec (.bootComplete f) s = .next ((((s.judged f).timed s.rst.waking).released (decide ((s.judged f).mode ≠ .hold))).greeted) := by
  have hn : (s.rst.episode.isSome || (s.rst.exiting.isNone && !s.rst.waking) || s.firmware.running.isNone) = false := by
    rcases hx with hx | hx
    · simp [he, hf, Option.isSome_iff_ne_none.1 hx]
    · simp [he, hf, hx]
  have hc : (decide (s.mode ≠ .boot) && decide (s.rst.exiting = some .c)) = false := by
    rcases hc with hc | hc <;> simp [hc]
  have hm : (!(decide (s.mode = .boot) || decide (s.mode = .hold))) = false := by
    rcases hm with hm | hm <;> simp [hm]
  show execBootComplete f s = _
  unfold execBootComplete
  rw [hn, hc, hm]
  unfold State.greeted State.released State.timed State.judged State.booted
  rfl

/-- What releasing the outputs leaves. -/
theorem released_effect (s : State) (ok : Bool) :
    let t := s.released ok
    t.mode = s.mode ∧ t.warp = s.warp ∧ (∀ a ∈ heldObjects, t.obj a = s.obj a) ∧ t.rst.exiting = none ∧ t.rst.waking = false ∧
      t.rst.resetOut = false ∧ t.rst.okContact = ok ∧ t.rst.layup = none ∧ t.rst.autoArmed = s.rst.autoArmed := by
  intro t
  obtain ⟨c, x, y, hr⟩ := fenceActs_rst ({ s with rst := { s.rst with
    exiting := none, waking := false, layup := none, resetOut := false, okContact := ok, holdAtExit := 0 } } : State).canRefresh
  rw [show t.rst = _ from (State.sidebandsNow_frame _).1, hr, (State.canRefresh_frame _).1]
  refine ⟨by simp [t, State.released], by simp [t, State.released], fun a ha => ?_, rfl, rfl, rfl, rfl, rfl, rfl⟩
  dsimp only [t]
  unfold State.released
  rw [obj_sidebandsNow_held ha, obj_fenceActs_held ha, obj_canRefresh_held ha]
  rfl

theorem greeted_effect (s : State) : s.greeted.mode = s.mode ∧ s.greeted.warp = s.warp ∧ s.greeted.rst = s.rst ∧ ∀ a, s.greeted.obj a = s.obj a := by
  unfold State.greeted
  split
  · exact ⟨by simp, by simp, by simp, fun a => obj_sendSeam ..⟩
  · exact ⟨rfl, rfl, rfl, fun _ => rfl⟩

theorem timed_effect (s : State) (waking : Bool) : (s.timed waking).mode = s.mode ∧ (s.timed waking).warp = s.warp ∧
    (s.timed waking).rst = s.rst ∧ ∀ a ∈ heldObjects, (s.timed waking).obj a = s.obj a := by
  unfold State.timed
  split
  · exact ⟨rfl, rfl, rfl, fun _ _ => rfl⟩
  · exact ⟨rfl, rfl, rfl, fun _ ha => obj_setNum_held ha _ _ (by decide)⟩

/-- What the last steps of a boot leave of the module as it was judged. -/
theorem bootComplete_effect {s : State} (f : BootFacts) (he : s.rst.episode = none) (hf : s.firmware.running.isSome = true)
    (hx : s.rst.exiting.isSome = true ∨ s.rst.waking = true) (hm : s.mode = .boot ∨ s.mode = .hold) (hc : s.mode = .boot ∨ s.rst.exiting ≠ some .c) :
    ∃ t, exec (.bootComplete f) s = .next t ∧ t.mode = (s.judged f).mode ∧ t.warp = (s.judged f).warp ∧
      (∀ a ∈ heldObjects, t.obj a = (s.judged f).obj a) ∧ t.rst.exiting = none ∧ t.rst.waking = false ∧ t.rst.resetOut = false ∧
      t.rst.okContact = decide (t.mode ≠ .hold) ∧ t.rst.layup = none ∧ t.rst.autoArmed = (s.judged f).rst.autoArmed := by
  refine ⟨_, bootComplete_eq f he hf hx hm hc, ?_⟩
  generalize s.judged f = v
  obtain ⟨m1, w1, r1, o1⟩ := timed_effect v s.rst.waking
  generalize v.timed s.rst.waking = u at m1 w1 r1 o1 ⊢
  obtain ⟨m2, w2, o2, e1, e2, e3, e4, e5, e6⟩ := released_effect u (decide (v.mode ≠ .hold))
  generalize u.released _ = x at m2 w2 o2 e1 e2 e3 e4 e5 e6 ⊢
  obtain ⟨m3, w3, r3, o3⟩ := greeted_effect x
  rw [r3, m3, m2, m1, w3, w2, w1]
  exact ⟨rfl, rfl, fun a ha => by rw [o3, o2 a ha, o1 a ha], e1, e2, e3, e4, e5, e6.trans (by rw [r1])⟩

/-- What the services leave of a module that boots. -/
theorem startServices_effect (s : State) (f : BootFacts) :
    let u := (s.advance f.ns).startServices f
    u.mode = s.mode ∧ u.rst.holdAtExit = s.rst.holdAtExit ∧ u.rst.waking = s.rst.waking ∧ u.rst.layup = s.rst.layup := by
  intro u
  have hr : u.rst = _ := startServices_rst (s.advance f.ns) f
  rw [hr]
  exact ⟨by simp [u], rfl, rfl, rfl⟩

/-- A module that boots ends in SERVICE, READY or HOLD. -/
theorem judged_effect {s : State} (f : BootFacts) (hm : s.mode = .boot) :
    let t := s.judged f
    (t.mode = .service ∨ t.mode = .ready ∨ t.mode = .hold) ∧ (t.mode = .hold ↔ s.rst.holdAtExit ≠ 0) ∧
      (t.mode = .hold → t.num Obj.holdCause = s.rst.holdAtExit % 65536) ∧
      (s.rst.waking = false → t.optFallback = true ∨ (t.num Obj.startMode = 0 ∧ t.num Obj.damagedRecords = 0) → t.mode ≠ .ready) ∧
      (s.rst.waking = true → s.rst.layup ≠ some .ready → t.mode ≠ .ready) ∧
      (t.mode = .ready → ∃ l, t.warp.loaded = some l ∧ l.bank = t.num Obj.selectedBank) ∧
      t.rst.autoArmed = (decide (t.mode = .ready) && !s.rst.waking && decide (t.num Obj.startMode = 2) && decide (t.num Obj.damagedRecords = 0)) := by
  obtain ⟨u1, u2, u3, u4⟩ := startServices_effect s f
  have hb : s.booted f = ((s.advance f.ns).startServices f).bootState := by
    unfold State.booted
    rw [u1, hm]
    exact if_neg (by decide)
  unfold State.judged
  rw [hb]
  generalize (s.advance f.ns).startServices f = u at u1 u2 u3 u4 ⊢
  obtain ⟨b1, b2, b3, b4, b5⟩ := bootState_effect u
  have hhold : u.bootState.rst.holdAtExit = s.rst.holdAtExit := (congrArg ResetBlock.holdAtExit b3).trans u2
  rw [hhold]
  split
  · rename_i h0
    obtain ⟨g1, g2, -, -, -, g3, -⟩ := goHold_effect u.bootState s.rst.holdAtExit
    dsimp only
    rw [g1, g2, g3]
    simp [h0]
  · rename_i h0
    have hne : u.bootState.mode ≠ .hold := by rcases b1 with h | h <;> rw [h] <;> decide
    have hn : ∀ a ∈ heldObjects, u.bootState.num a = u.num a := fun a ha => num_congr (b2 a ha)
    have hfb : u.bootState.optFallback = u.optFallback := detail_congr (b2 _ (by decide)) 1
    dsimp only
    rw [hn Obj.startMode (by decide), hn Obj.damagedRecords (by decide), hn Obj.selectedBank (by decide), hfb]
    refine ⟨b1.imp_right .inl, ⟨fun h => absurd h hne, fun h => absurd h h0⟩, fun h => absurd h hne,
      fun hw hs hr => ?_, fun hw hl hr => ?_, fun hr => ?_, u3 ▸ b4⟩
    · have hwant := (b5 hr).1
      unfold State.wantsBank at hwant
      rw [if_neg (by rw [u3, hw]; decide)] at hwant
      rcases hs with hs | ⟨h1, h2⟩
      · simp [hs] at hwant
      · simp [h1, h2] at hwant
    · have hwant := (b5 hr).1
      unfold State.wantsBank at hwant
      rw [if_pos (u3.trans hw), u4] at hwant
      exact hl (of_decide_eq_true hwant)
    · exact Option.map_eq_some_iff.1 (b5 hr).2

/-- In HOLD a boot ends where it began. -/
theorem judged_hold {s : State} (f : BootFacts) (hm : s.mode = .hold) : (s.judged f).mode = .hold := by
  have hb : (s.booted f).mode = .hold := by
    unfold State.booted
    rw [(startServices_effect s f).1, hm, if_pos rfl]
    exact (startServices_effect s f).1.trans hm
  unfold State.judged
  split
  · exact State.goHold_mode ..
  · exact hb

theorem bootComplete_idle {s : State} (f : BootFacts)
    (h : s.rst.episode.isSome = true ∨ (s.rst.exiting = none ∧ s.rst.waking = false) ∨ s.firmware.running = none) :
    exec (.bootComplete f) s = .next s := by
  show execBootComplete f s = _
  unfold execBootComplete
  rw [if_pos]
  rcases h with h | ⟨h1, h2⟩ | h
  · simp [h]
  · simp [h1, h2]
  · simp [h]

/-- A C-level episode outside BOOT ends with the service resumed. -/
theorem bootComplete_resumes {s : State} (f : BootFacts) (he : s.rst.episode = none) (hf : s.firmware.running.isSome = true)
    (hm : s.mode ≠ .boot) (hc : s.rst.exiting = some .c) : exec (.bootComplete f) s = .next
      { s with localNs := s.localNs + f.ns, timeNs := s.timeNs + f.ns, rtcNs := s.rtcNs + f.ns, rst := { s.rst with exiting := none } } := by
  show execBootComplete f s = _
  unfold execBootComplete
  rw [if_neg (by simpa [he, hc] using Option.isSome_iff_ne_none.1 hf), if_pos (by simp [hm, hc])]
  rfl

end Sys2Proof.Machine

end

section

namespace Sys2Proof.Machine

/-! ### What enters HOLD, and what wakes (Tables 1-7 and 15-8) -/

theorem holdEntered_idle {s : State} {cause : BitVec 16}
    (h : (s.mode = .off ∨ s.mode = .layup ∨ s.mode = .hold) ∨ cause.toNat < 1 ∨ 6 < cause.toNat) : exec (.holdEntered cause) s = .next s := by
  show execHoldEntered cause s = _
  unfold execHoldEntered
  rw [if_pos]
  rcases h with h | h
  · rcases h with h | h | h <;> simp [h]
  · simp only [Bool.or_eq_true, Bool.not_eq_true', Bool.and_eq_false_iff, decide_eq_false_iff_not]
    omega

theorem overtemp_idle {s : State} (h : s.mode = .off ∨ s.mode = .layup ∨ s.mode = .hold) : exec .overtemp s = .next s := by
  show execOvertemp s = _
  unfold execOvertemp
  rw [if_pos]
  rcases h with h | h | h <;> simp [h]

theorem holdEntered_eq {s : State} {cause : BitVec 16} (h1 : s.mode ≠ .off) (h2 : s.mode ≠ .layup) (h3 : s.mode ≠ .hold)
    (hl : 1 ≤ cause.toNat) (hu : cause.toNat ≤ 6) : exec (.holdEntered cause) s = .next (s.goHold cause.toNat) := by
  show execHoldEntered cause s = _
  unfold execHoldEntered
  rw [if_neg (by simp [h1, h2, h3, hl, hu])]

theorem overtemp_eq {s : State} (h1 : s.mode ≠ .off) (h2 : s.mode ≠ .layup) (h3 : s.mode ≠ .hold) : exec .overtemp s = .next (s.goHold 5) := by
  show execOvertemp s = _
  unfold execOvertemp
  rw [if_neg (by simp [h1, h2, h3])]
  rfl

/-- A wake source that may wake: its bit of LayupWake is set, and an alarm has an instant. -/
def State.wakesBy (s : State) (src : WakeSource) : Prop :=
  bit (s.num Obj.layupWake) (match src with | .usbVbus => 1 | .door => 2 | .rtcAlarm => 3) = true ∧
    (src = .rtcAlarm → time96Ns (s.obj Obj.layupAlarm) ≠ 0)

theorem wake_eq {s : State} {src : WakeSource} (hm : s.mode = .layup) (h : s.wakesBy src) (bad : Bool) :
    exec (.wake src bad) s = .next (s.wakeUp bad) := by
  obtain ⟨hb, ha⟩ := h
  show execWake src bad s = _
  unfold execWake
  cases src <;> simp_all

theorem wake_idle {s : State} {src : WakeSource} (h : s.mode ≠ .layup ∨ ¬ s.wakesBy src) (bad : Bool) : exec (.wake src bad) s = .next s := by
  show execWake src bad s = _
  unfold execWake
  dsimp only
  rw [if_neg]
  intro hc
  simp only [Bool.and_eq_true, Bool.or_eq_true, decide_eq_true_eq] at hc
  obtain ⟨⟨hm, hb⟩, ha⟩ := hc
  rcases h with h | h
  · exact h hm
  · exact h ⟨hb, fun hs => ha.resolve_left (not_not.2 hs)⟩

theorem canWake_idle {s : State} (h : s.mode ≠ .layup ∨ bit (s.num Obj.layupWake) 0 = false) (ch : Fin 8) (seen : CanWaking) :
    exec (.canWake ch seen) s = .next s := by
  show execCanWake ch seen s = _
  unfold execCanWake
  rw [if_pos (by simpa using h)]

theorem canWake_wakes {s : State} (hm : s.mode = .layup) (hb : bit (s.num Obj.layupWake) 0 = true) {ch : Fin 8} {ev : CanWakeEvent} {c : Nat} (bad : Bool)
    (hc : (s.canWakeJudge ch ev).1 = some c) : exec (.canWake ch ⟨ev, bad⟩) s =
      .next { s.wakeUp bad with can := { (s.wakeUp bad).can with woke := some (ch.val + 1, c) } } := by
  show execCanWake ch ⟨ev, bad⟩ s = _
  unfold execCanWake
  rw [if_neg (by simp [hm, hb])]
  dsimp only
  rw [hc]

/-- What does not wake moves the channel's error count only. -/
theorem canWake_counts {s : State} (hm : s.mode = .layup) (hb : bit (s.num Obj.layupWake) 0 = true) {ch : Fin 8} {ev : CanWakeEvent} (bad : Bool)
    (hc : (s.canWakeJudge ch ev).1 = none) : exec (.canWake ch ⟨ev, bad⟩) s =
      .next (s.setChan ch { s.chan ch with wakeErrors := (s.canWakeJudge ch ev).2 }) := by
  show execCanWake ch ⟨ev, bad⟩ s = _
  unfold execCanWake
  rw [if_neg (by simp [hm, hb])]
  dsimp only
  rw [hc]

theorem resetPin_wakes {s : State} (h : s.options.inForce.resetPin = false) (hm : s.mode = .layup) (pulse bad : Bool) :
    exec (.resetPinAssert ⟨pulse, bad⟩) s = .next (s.wakeUp bad) := by
  show execResetPinAssert ⟨pulse, bad⟩ s = _
  unfold execResetPinAssert
  rw [h, if_neg (by decide), if_pos hm]

theorem resetPin_idle {s : State} (h : s.options.inForce.resetPin = false) (hm : s.mode ≠ .layup) (pin : PinAssert) :
    exec (.resetPinAssert pin) s = .next s := by
  show execResetPinAssert pin s = _
  unfold execResetPinAssert
  rw [h, if_neg (by decide), if_neg hm]

end Sys2Proof.Machine

end

section

open Sys2Proof Sys2Proof.Machine

/-- Settles O54: boot complete, HOLD and the wake from LAYUP. -/
theorem bootHoldAndWake : Obligations.BootHoldAndWake := by
  refine ⟨fun s f => ⟨bootComplete_idle f, bootComplete_resumes f, fun he hf hm hx => ?_, fun he hf hm hx hc => ?_⟩,
    fun s cause => ⟨fun h => ⟨holdEntered_idle (.inl h), overtemp_idle h⟩, fun h => holdEntered_idle (.inr h),
      fun h1 h2 h3 => ⟨fun hl hu => ?_, ?_⟩⟩,
    fun s src bad ch ev => ?_⟩
  · obtain ⟨t, hexec, tm, tw, tobj, t1, t2, t3, t4, t5, t6⟩ := bootComplete_effect f he hf hx (.inl hm) (.inl hm)
    obtain ⟨j1, j2, j3, j4, j5, j6, j7⟩ := judged_effect f hm
    have hn : ∀ a ∈ heldObjects, t.num a = (s.judged f).num a := fun a ha => num_congr (tobj a ha)
    have hfb : t.optFallback = (s.judged f).optFallback := detail_congr (tobj Obj.stationStateDetail (by decide)) 1
    refine ⟨t, hexec, ?_⟩
    rw [t4, t6, hn Obj.holdCause (by decide), hn Obj.startMode (by decide), hn Obj.damagedRecords (by decide),
      hn Obj.selectedBank (by decide), hfb, tm, tw]
    exact ⟨j1, t1, t2, t3, rfl, t5, j2, j3, j4, j5, j6, j7⟩
  · obtain ⟨t, hexec, tm, -, -, t1, -, t3, t4, -⟩ := bootComplete_effect f he hf (.inl hx) (.inr hm) (.inr hc)
    have hmode : t.mode = .hold := tm.trans (judged_hold f hm)
    exact ⟨t, hexec, hmode, t1, t3, by rw [t4, hmode]; rfl⟩
  · obtain ⟨g1, g2, g⟩ := goHold_effect s cause.toNat
    exact ⟨_, holdEntered_eq h1 h2 h3 hl hu, g1, g2.trans (Nat.mod_eq_of_lt (by omega)), g⟩
  · exact ⟨_, overtemp_eq h1 h2 h3, goHold_effect s 5⟩
  · have hw := wakeUp_woken s bad
    exact ⟨fun hm he => ⟨_, wake_eq hm he bad, hw⟩, fun h => wake_idle h bad,
      fun hm hb c hc => ⟨_, canWake_wakes hm hb bad hc, hw.withCan _, rfl⟩, fun hm hb hc => ⟨_, canWake_counts hm hb bad hc, rfl⟩,
      fun h => canWake_idle h ch _,
      fun hp pulse => ⟨fun hm => ⟨_, resetPin_wakes hp hm pulse bad, hw⟩, fun hm => resetPin_idle hp hm _⟩⟩

end

section

namespace Sys2Proof.Machine

/-! ### The codes of the checks of Table 2-3 -/

theorem activateCode_lt (s : State) (v : Nat) : s.activateCode v < 65536 := by
  unfold State.activateCode
  extract_lets target img profiles copy
  (repeat' split) <;> decide

theorem rangeCode_lt (s : State) (o : ObjRow) (a : Nat) (v : Bytes) : s.rangeCode o a v < 65536 := by
  unfold State.rangeCode
  split
  · decide
  · split
    · exact activateCode_lt ..
    · split <;> decide

theorem writeCode_lt (s : State) (r : Req) (a : Nat) (v : Bytes) : s.writeCode r a v < 65536 := by
  unfold State.writeCode
  split
  · decide
  split
  · decide
  iterate 3
    split
    · decide
  split
  · exact rangeCode_lt ..
  · (repeat' split) <;> decide

/-- Check 1 comes first, then check 2, then check 3. -/
theorem writeCode_noObject {s : State} {a : Nat} (r : Req) (v : Bytes) (h : s.indexDefined (addrIndex a) = false) :
    s.writeCode r a v = Status.noObject := by
  simp [State.writeCode, h]

theorem writeCode_noSubindex {s : State} {a : Nat} (r : Req) (v : Bytes) (h : s.indexDefined (addrIndex a) = true) (ho : s.objRow? a = none) :
    s.writeCode r a v = Status.noSubindex := by
  simp [State.writeCode, h, ho]

theorem writeCode_readOnly {s : State} {a : Nat} {o : ObjRow} (r : Req) (v : Bytes) (h : s.indexDefined (addrIndex a) = true)
    (ho : s.objRow? a = some o) (hr : o.access = .ro ∨ o.access = .const) : s.writeCode r a v = Status.readOnly := by
  rcases hr with hr | hr <;> simp [State.writeCode, h, ho, hr]

/-- A write that passes finds its object, and one that may be written. -/
theorem writeCode_ok_row {s : State} {r : Req} {a : Nat} {v : Bytes} (h : s.writeCode r a v = Status.ok) :
    ∃ o, s.objRow? a = some o ∧ o.access ≠ .ro ∧ o.access ≠ .const := by
  obtain ⟨o, ho, -, -⟩ := writeCode_ok h
  have hi : s.indexDefined (addrIndex a) = true := by
    by_contra hi
    rw [writeCode_noObject r v (by simpa using hi)] at h
    exact absurd h (by decide)
  have hr : ¬ (o.access = .ro ∨ o.access = .const) := fun hr => by
    rw [writeCode_readOnly r v hi ho hr] at h
    exact absurd h (by decide)
  exact ⟨o, ho, fun e => hr (.inl e), fun e => hr (.inr e)⟩

/-! ### Which objects there are hangs on the warp and the Store alone (R37) -/

section

variable {s t : State}

theorem sections_congr (hw : t.warp = s.warp) : t.sections = s.sections := by
  unfold State.sections
  rw [hw]

theorem storeRead_congr (hw : t.warp = s.warp) (hs : t.store = s.store) (a n : Nat) : t.storeRead a n = s.storeRead a n := by
  unfold State.storeRead State.storeByte
  rw [hw, hs]

theorem point?_congr (hw : t.warp = s.warp) (n : Nat) : t.point? n = s.point? n := by
  unfold State.point? State.pointDefs
  rw [sections_congr hw]

theorem counts_congr (hw : t.warp = s.warp) : t.loopCount = s.loopCount ∧ t.gainCount = s.gainCount ∧ t.groups = s.groups := by
  unfold State.loopCount State.gainCount State.groups
  rw [sections_congr hw]
  exact ⟨rfl, rfl, rfl⟩

theorem objRow?_congr (hw : t.warp = s.warp) (hs : t.store = s.store) (a : Nat) : t.objRow? a = s.objRow? a := by
  obtain ⟨hl, hg, hr⟩ := counts_congr hw
  unfold State.objRow? State.limitSetCount
  simp only [point?_congr hw, storeRead_congr hw hs, hl, hg, hr]

theorem indexDefined_congr (hw : t.warp = s.warp) (ix : Nat) : t.indexDefined ix = s.indexDefined ix := by
  obtain ⟨hl, hg, hr⟩ := counts_congr hw
  unfold State.indexDefined
  simp only [point?_congr hw, hl, hg, hr]

theorem classOfAddr_congr (hw : t.warp = s.warp) (hs : t.store = s.store) (a : Nat) : t.classOfAddr a = s.classOfAddr a := by
  unfold State.classOfAddr State.loopCfg State.storeNat State.loopCfgAt State.gainAt
  simp only [point?_congr hw, storeRead_congr hw hs, hw]

end

/-- Outside the range of station-scope indices the objects are those of fixed address. -/
theorem objRow?_fixed (s : State) {a : Nat} (h : isStationIx (addrIndex a) = false) : s.objRow? a = fixedRow? a := by
  have hn : isPointIx (addrIndex a) = false ∧ isLoopIx (addrIndex a) = false ∧ isGainIx (addrIndex a) = false ∧ isGroupIx (addrIndex a) = false := by
    simp only [isStationIx, isPointIx, isLoopIx, isGainIx, isGroupIx, Bool.and_eq_false_iff, decide_eq_false_iff_not] at h ⊢
    omega
  obtain ⟨hp, hl, hg, hr⟩ := hn
  unfold State.objRow?
  simp [hp, hl, hg, hr]

end Sys2Proof.Machine

end

section

namespace Sys2Proof.Machine

/-! ### The response and the objects it leaves alone -/

/-- The counters that sending a response may move. -/
def responseCounters : List Nat := [Obj.badHeader, Obj.txFrames 0, Obj.txFrames 1]

/-- A reading of the objects that no counter of a response moves. -/
structure Unanswered {β : Type} (g : State → β) : Prop where
  objects : ∀ u w : State, u.dict = w.dict → g u = g w
  counters : ∀ (u : State), ∀ c ∈ responseCounters, g (u.count c) = g u

section

variable {β : Type} {g : State → β} (h : Unanswered g)
include h

theorem Unanswered.sendOn (s : State) {k : Nat} (hk : Obj.txFrames k ∈ responseCounters) (kind : SentKind) (peer seq : Nat) (head : NetHead)
    (data : Bytes) : g (s.sendOn k kind peer seq head data) = g s := by
  unfold State.sendOn
  split
  · rfl
  · exact (h.counters _ _ hk).trans (h.objects _ _ rfl)

theorem Unanswered.prpSend (s : State) (kind : SentKind) (peer : Nat) (station : Bool) (head : NetHead) (data : Bytes) :
    g (s.prpSend kind peer station head data) = g s := by
  have hs : ∀ (u : State) (k seq : Nat), Obj.txFrames k ∈ responseCounters →
      g (if u.portCarries kind k then u.sendOn k kind peer seq head data else u) = g u := fun u k seq hk => by
    split
    · exact h.sendOn u hk ..
    · rfl
  unfold State.prpSend State.takePrpSeq
  split
  rename_i seq s1 h1
  have h1 : s1.dict = s.dict := by split at h1 <;> cases h1 <;> rfl
  exact (hs _ 1 seq (by decide)).trans ((hs s1 0 seq (by decide)).trans (h.objects _ _ h1))

theorem Unanswered.answered (s : State) (key : Option Bytes) (r : Req) (command : Nat) (x : Reply) : g (s.answered key r command x) = g s := by
  have hsend : ∀ u : State, ∀ b, g (u.sendTo r b) = g u := fun u b => by
    unfold State.sendTo
    split
    · exact h.objects _ _ rfl
    · exact h.prpSend ..
  have hcount : g (if x.status = Status.badHeader then s.count Obj.badHeader else s) = g s := by
    split
    · exact h.counters _ _ (by decide)
    · rfl
  have hremember : ∀ u : State, ∀ b, g (u.remember r b) = g u := fun _ _ => h.objects _ _ rfl
  have hpacket : ∀ u : State, g u.countPacket = g u := fun _ => h.objects _ _ rfl
  unfold State.answered
  rw [hremember]
  unfold State.respond
  extract_lets auth source b s1
  rw [hsend, hpacket]
  exact hcount

end

theorem unanswered_obj {q : Nat} (hq : q ∉ responseCounters ++ responseCounters.map overflowAddr ++ tallyObjects) : Unanswered (State.obj · q) where
  objects _ _ e := by simp only [State.obj, e]
  counters u c hc := by
    simp only [List.mem_append, not_or] at hq
    obtain ⟨⟨h1, h2⟩, h3⟩ := hq
    exact count_obj u 1 (fun e => h1 (e ▸ hc)) (fun e => h2 (e ▸ List.mem_map_of_mem hc)) h3

theorem answered_num (s : State) (key : Option Bytes) (r : Req) (command : Nat) (x : Reply) {q : Nat}
    (hq : q ∉ responseCounters ++ responseCounters.map overflowAddr ++ tallyObjects) : (s.answered key r command x).num q = s.num q := by
  unfold State.num
  rw [(unanswered_obj hq).answered]

/-- A response whole: its header, and its payload sealed with the key of the request's slot. -/
theorem answered_answersWith (s : State) (keys : Nat → Option Bytes) (r : Req) (command : Nat) (x : Reply) (hx : x.status < 65536) :
    (s.answered (r.auth.bind keys) r command x).AnswersWith r (r.auth.bind keys) x.status x.payload := by
  obtain ⟨cache, hc, hl⟩ := seqRecord_remember (s.respond (r.auth.bind keys) r command x).1 r (s.respond (r.auth.bind keys) r command x).2
  have hb : ∃ h, (s.respond (r.auth.bind keys) r command x).2 = sealPacket (r.auth.bind keys) h x.payload ∧ h.length = 32 ∧
      u16At h 8 = r.seq % 65536 ∧ u16At h 14 = x.status := by
    unfold State.respond State.packet
    cases r.auth with
    | none => exact ⟨_, rfl, clpHeader_length .., clpHeader_seq .., (clpHeader_status ..).trans (Nat.mod_eq_of_lt hx)⟩
    | some slot =>
      simp only [Option.bind_some]
      cases keys slot with
      | none => exact ⟨_, rfl, clpHeader_length .., clpHeader_seq .., (clpHeader_status ..).trans (Nat.mod_eq_of_lt hx)⟩
      | some k => exact ⟨_, rfl, clpHeader_length .., clpHeader_seq .., (clpHeader_status ..).trans (Nat.mod_eq_of_lt hx)⟩
  obtain ⟨h, hs, h1, h2, h3⟩ := hb
  unfold State.answered
  rw [hs] at hc ⊢
  exact ⟨h, cache, hc, hl, h1, h2, h3⟩

/-! ### A request in which the firmware fails (Table 3-6) -/

/-- The state that answers INTERNAL: the request is counted, and its tally written. -/
def State.failed (s : State) (r : Req) (command : Nat) : State :=
  (s.count Obj.requestsExecuted).logTally 0x0107 [command % 256 * 256 + r.seq % 65536 * 65536]

theorem attempt_fails {s : State} {r : Req} (hf : r.fails = true) (command : Nat) (act : State → State × Reply) :
    s.attempt r command act = (s.failed r command, refusal Status.internal) := if_pos hf

theorem requestOnly_failed (s : State) (r : Req) (command : Nat) : s.RequestOnly (s.failed r command) [] :=
  (requestOnly_counted s []).trans (requestOnly_logDraft ..)

/-- The response to a request that failed: INTERNAL, on its way over USB with the head of the service port, and the tally. -/
theorem respond_failed (s : State) (key : Option Bytes) (r : Req) (command : Nat) :
    let p := (s.failed r command).respond key r command (refusal Status.internal)
    u16At p.2 14 = Status.internal ∧ (r.iface = .usb → p.1.out = s.out ++ [⟨.clp, 2, r.ip * 65536 + r.port, p.2, some (s.usbHead r p.2)⟩]) ∧
      s.Wrote p.1 0x0107 [command % 256 * 256 + r.seq % 65536 * 65536] ∧ s.RequestOnly p.1 [] := by
  intro p
  have hp := (requestOnly_failed s r command).trans (requestOnly_respond _ key r command (refusal Status.internal) [])
  have hu := requestOnly_respond (s.failed r command) key r command (refusal Status.internal) []
  refine ⟨(respond_bytes _ key r command _ (by decide)).2, fun hi => ?_, ?_, hp⟩
  · have hmac : (s.failed r command).obj Obj.usbMac = s.obj Obj.usbMac := (requestOnly_failed s r command).objects _ (by decide)
    have hhead : ∀ b, (s.failed r command).usbHead r b = s.usbHead r b := fun b => by
      unfold State.usbHead State.started
      rw [hmac, (requestOnly_failed s r command).rest]
    have hout : (s.failed r command).out = s.out := by simp [State.failed]
    have hsend : p.1 = (s.failed r command).countPacket.sendTo r p.2 := rfl
    rw [hsend, State.sendTo, if_pos hi, ← hhead, ← hout]
    rfl
  · have hg : (s.failed r command).tally.Grows p.1.tally 6 := answered_grows (s.failed r command) key r command (refusal Status.internal)
    have hn : p.1.num Obj.moduleNode = (s.count Obj.requestsExecuted).num Obj.moduleNode :=
      (hp.num (by decide)).trans ((requestOnly_counted s []).num (by decide)).symm
    have ht : p.1.timeNs = (s.count Obj.requestsExecuted).timeNs := by rw [hp.rest, count_rest]
    exact wrote_of_grows (count_extends ..) hg (by decide) hn ht

/-- A request that fails runs to its response, and into the cache. -/
theorem request_fails {s : State} {r : Req} (hs : s.servesReq r = true) (hf : r.fails = true) (command : Nat) (act : State → State × Reply) :
    ∃ b, u16At b 14 = Status.internal ∧
      (r.iface = .usb → (s.request r command act).out = s.out ++ [⟨.clp, 2, r.ip * 65536 + r.port, b, some (s.usbHead r b)⟩]) ∧
      s.Wrote (s.request r command act) 0x0107 [command % 256 * 256 + r.seq % 65536 * 65536] ∧ s.RequestOnly (s.request r command act) [] := by
  obtain ⟨h1, h2, h3, h4⟩ := respond_failed s (r.auth.bind s.conduitKey) r command
  have hr : s.request r command act = (s.failed r command).answered (r.auth.bind s.conduitKey) r command (refusal Status.internal) := by
    unfold State.request
    rw [if_pos hs, attempt_fails hf]
    rfl
  rw [hr]
  exact ⟨_, h1, h2, h3, h4.trans (requestOnly_remember ..)⟩

/-- IDENTIFY that fails: as any other, but its source's record is discarded and the response not cached (R75). -/
theorem identify_fails {s : State} {r : Req} (hs : s.servesReq r = true) (hf : r.fails = true) :
    ∃ b, u16At b 14 = Status.internal ∧
      (r.iface = .usb → (s.identify r []).out = s.out ++ [⟨.clp, 2, r.ip * 65536 + r.port, b, some (s.usbHead r b)⟩]) ∧
      s.Wrote (s.identify r []) 0x0107 [Cmd.identify % 256 * 256 + r.seq % 65536 * 65536] ∧ s.RequestOnly (s.identify r []) [] := by
  obtain ⟨h1, h2, h3, h4⟩ := respond_failed (s.forget (Req.node r)) (r.auth.bind s.conduitKey) r Cmd.identify
  have hr : s.identify r [] = (((s.forget (Req.node r)).failed r Cmd.identify).respond (r.auth.bind s.conduitKey) r Cmd.identify
      (refusal Status.internal)).1 := by
    unfold State.identify
    rw [if_pos hs, attempt_fails hf]
  have hforget : s.RequestOnly (s.forget (Req.node r)) [] := ⟨fun _ _ => rfl, rfl, rfl, rfl, rfl⟩
  rw [hr]
  exact ⟨_, h1, h2, h3, hforget.trans h4⟩

/-! ### A write refused -/

/-- A refused write is answered with its code, moves counters alone, and counts in WritesRefused. -/
theorem write_refused {s : State} {r : Req} {a : Nat} {v : Bytes} (hx : s.Executes r) (h0 : (s.count Obj.requestsExecuted).writeCode r a v ≠ Status.ok) :
    (s.writeRequest r a v).Answers r ((s.count Obj.requestsExecuted).writeCode r a v) ∧ s.RequestOnly (s.writeRequest r a v) [] ∧
      (s.writeRequest r a v).num Obj.writesRefused = s.counted Obj.writesRefused 1 := by
  obtain ⟨ha, ho⟩ := writeRequest_refused hx rfl h0 (writeCode_lt ..)
  refine ⟨ha, ho, ?_⟩
  have hn : (s.count Obj.requestsExecuted).num Obj.writesRefused = s.num Obj.writesRefused := by
    unfold State.num
    rw [count_obj _ _ (by decide) (by decide) (by decide)]
  unfold State.writeRequest
  rw [request_eq hx, writeOne_refused h0, answered_num _ _ _ _ _ (by decide), count_num _ _ (by decide) (by decide), State.counted, hn]
  rfl

end Sys2Proof.Machine

end

section

open Sys2Proof Sys2Proof.Machine

/-- Settles O11: a failing request stops before what it asks for, and a refused write before any effect. -/
theorem refusedWriteChangesNothing : Obligations.RefusedWriteChangesNothing := by
  refine ⟨fun s r addr value hs hf e he => ?_, fun s r addr value code hx hc h0 => ?_⟩
  · have hreq := fun command act => request_fails hs hf command act
    simp only [List.mem_cons, List.not_mem_nil, or_false] at he
    rcases he with rfl | rfl | rfl | rfl
    · obtain ⟨b, h⟩ := hreq Cmd.write fun u => u.writeOne r addr.toNat value
      exact ⟨_, b, rfl, h⟩
    · obtain ⟨b, h⟩ := hreq Cmd.read fun u => u.readOne addr.toNat
      exact ⟨_, b, rfl, h⟩
    · obtain ⟨b, h⟩ := identify_fails hs hf
      exact ⟨_, b, rfl, h⟩
    · obtain ⟨b, h⟩ := hreq Cmd.status fun u => u.domainProgress r (0 : BitVec 16).toNat
      exact ⟨_, b, rfl, h⟩
  · subst hc
    have hw : (s.count Obj.requestsExecuted).warp = s.warp := by simp
    have hs : (s.count Obj.requestsExecuted).store = s.store := by simp
    rw [← indexDefined_congr hw, ← objRow?_congr hw hs]
    exact ⟨⟨_, rfl, write_refused hx h0⟩, rfl, writeCode_noObject r value, writeCode_noSubindex r value, fun o hi ho => writeCode_readOnly r value hi ho⟩

end

section

namespace Sys2Proof.Machine

/-! ### What an accepted write may move (R43, R46, R58)

For objects that are not write-only; each of those has an effect of its own (StationWritesTakeEffect, UnitWritesAccepted, KeyWritesAccepted). -/

/-- The objects that the effect of a write may move besides its own: the option record's (R428), the count of superseded writes (R59), and what the
module derives. -/
def effectObjects : List Nat :=
  [Obj.optionSequence, Obj.optionStatus, Obj.writesSuperseded, overflowAddr Obj.writesSuperseded] ++ tallyObjects ++ derivedObjects

/-- As `effectObjects`, with what a request moves whatever it asks. -/
def writeObjects : List Nat := effectObjects ++ requestObjects

theorem writeObjects_fixed : writeObjects.all (fun q => !isStationIx (addrIndex q) &&
    (fixedRow? q).all fun o => o.access == .ro || o.access == .const || o.range == .zero) = true := by decide

/-- An object that takes a value, and is no counter, is none of those that writes move by the way. -/
theorem settable_apart {s : State} {a : Nat} {o : ObjRow} (ho : s.objRow? a = some o) (hr : o.access ≠ .ro) (hc : o.access ≠ .const)
    (hz : o.range ≠ .zero) : a ∉ writeObjects := fun hm => by
  have hrow := List.all_eq_true.1 writeObjects_fixed a hm
  simp only [Bool.and_eq_true, Bool.not_eq_true'] at hrow
  obtain ⟨hs, hrow⟩ := hrow
  rw [objRow?_fixed s hs] at ho
  simp [ho, hr, hc, hz] at hrow

theorem overflowSub_readOnly : objTable.all (fun o => decide (o.sub + o.subCount < 256) || o.access == .ro || o.access == .const) = true := by
  unfold objTable
  simp only [List.all_append, Bool.and_eq_true]
  and_intros <;> decide

/-- Subindex 0xFF of an index is its overflow object, which nobody writes (R62). -/
theorem fixedRow_sub {a : Nat} {o : ObjRow} (ho : fixedRow? a = some o) (hr : o.access ≠ .ro) (hc : o.access ≠ .const) : addrSub a ≠ 0xFF := fun hsub => by
  have hm := List.mem_of_find?_eq_some ho
  have hh := List.find?_some ho
  simp only [ObjRow.has, Bool.and_eq_true, decide_eq_true_eq] at hh
  have hrow := List.all_eq_true.1 overflowSub_readOnly o hm
  have hlast : ¬ o.sub + o.subCount < 256 := by omega
  simp [hr, hc, hlast] at hrow

theorem settable_sub {s : State} {a : Nat} {o : ObjRow} (ho : s.objRow? a = some o) (hr : o.access ≠ .ro) (hc : o.access ≠ .const) :
    addrSub a ≠ 0xFF := fun hsub => by
  unfold State.objRow? at ho
  dsimp only at ho
  split at ho
  · split at ho
    · simp [pointRow, hsub] at ho
    · cases ho
  split at ho
  · split at ho
    · simp only [loopRow, hsub, Option.some.injEq] at ho
      exact hr (ho ▸ rfl)
    · cases ho
  split at ho
  · split at ho
    · simp [gainRow, hsub] at ho
    · cases ho
  split at ho
  · split at ho
    · simp [groupRow, hsub] at ho
    · cases ho
  · exact fixedRow_sub ho hr hc hsub

end Sys2Proof.Machine

end

section

namespace Sys2Proof.Machine

/-! ### What follows from a new value (R43) -/

/-- Between `s` and `t` the objects and the units that follow them moved, and pulses may have left. -/
def State.Follows (s t : State) : Prop :=
  t = { s with dict := t.dict, profileChange := t.profileChange, face := t.face, time := t.time, can := t.can, island := t.island, io := t.io,
               out := t.out }

theorem State.Follows.refl (s : State) : s.Follows s := rfl

theorem State.Follows.trans {s t u : State} (h : s.Follows t) (g : t.Follows u) : s.Follows u := by
  unfold State.Follows at *
  rw [g, h]

/-- The two states hold the same objects, those that the module derives aside. -/
def State.SameSet (s t : State) : Prop := s.SameObjects t derivedObjects

theorem State.SameSet.trans {s t u : State} (h : s.SameSet t) (g : t.SameSet u) : s.SameSet u := fun q hq => (g q hq).trans (h q hq)

/-- What an operation that follows a value keeps. -/
def State.Derives (s t : State) : Prop := s.Follows t ∧ s.SameSet t

theorem State.Derives.refl (s : State) : s.Derives s := ⟨rfl, fun _ _ => rfl⟩

theorem State.Derives.trans {s t u : State} (h : s.Derives t) (g : t.Derives u) : s.Derives u := ⟨h.1.trans g.1, h.2.trans g.2⟩

theorem derives_setNum (s : State) {a : Nat} (v : Nat) (h : a ∈ derivedObjects) : s.Derives (s.setNum a v) :=
  ⟨rfl, fun _ hq => obj_setNum_ne _ _ fun e => hq (e ▸ h)⟩

theorem derives_foldl {α : Type} {f : State → α → State} (xs : List α) (h : ∀ s, ∀ x ∈ xs, State.Derives s (f s x)) (s : State) :
    s.Derives (xs.foldl f s) := by
  induction xs generalizing s with
  | nil => exact .refl s
  | cons x xs ih => exact (h s x List.mem_cons_self).trans (ih (fun u y hy => h u y (List.mem_cons_of_mem x hy)) _)

theorem derives_canRefresh (s : State) : s.Derives s.canRefresh := by
  have hk : ∀ k : Fin 8, Obj.canState k.val ∈ derivedObjects := by decide
  exact derives_foldl _ (fun u k _ => derives_setNum u _ (hk k)) s

theorem derives_detectEnd (s : State) (k : Fin 8) (result : Nat) : s.Derives (s.detectEnd k result) := by
  have hk : ∀ k : Fin 8, Obj.detectResult k.val ∈ derivedObjects := by decide
  unfold State.detectEnd
  split
  · have hs : s.Derives (s.setChan k { s.chan k with detect := none }) := ⟨rfl, fun _ _ => rfl⟩
    exact hs.trans ((derives_setNum _ _ (hk k)).trans (derives_canRefresh _))
  · exact .refl s

theorem derives_setCanRates (s : State) (k : Fin 8) : s.Derives (s.setCanRates k.val) := by
  have hk : ∀ k : Fin 8, Obj.nominalRate k.val ∈ derivedObjects ∧ Obj.dataRate k.val ∈ derivedObjects := by decide
  exact (derives_setNum s _ (hk k).1).trans (derives_setNum _ _ (hk k).2)

theorem derives_hartEnable (s : State) (c : Fin 16) : s.Derives (s.hartEnable c) := by
  have hk : ∀ c : Fin 16, Obj.hartState c.val ∈ derivedObjects := by decide
  have hs : s.Derives (s.setHart c blankHart) := ⟨rfl, fun _ _ => rfl⟩
  exact hs.trans (derives_setNum _ _ (hk c))

theorem derives_configWrite (s : State) (a : Nat) : s.Derives (s.configWrite a) := by
  refine derives_foldl _ (fun u g _ => ?_) s
  split
  · exact ⟨rfl, fun _ _ => rfl⟩
  · exact .refl u

theorem derives_ppsJudge (s : State) : s.Derives s.ppsJudge := by
  unfold State.ppsJudge
  split
  · exact ⟨rfl, fun _ _ => rfl⟩
  · exact .refl s

theorem derives_page (s : State) : s.Derives s.pageBegin ∧ s.Derives s.pageEnd := by
  unfold State.pageBegin State.pageEnd
  split <;> exact ⟨⟨rfl, fun _ _ => rfl⟩, ⟨rfl, fun _ _ => rfl⟩⟩

/-- A timing value of a CAN channel ends its rate detection where the channel is enabled, and the rates and the states follow. -/
theorem derives_canTiming (s : State) (k : Fin 8) :
    s.Derives ((if s.flag (Obj.canEnable k.val) then s.detectEnd k 4 else s).setCanRates k.val).canRefresh := by
  refine State.Derives.trans ?_ ((derives_setCanRates _ k).trans (derives_canRefresh _))
  split
  · exact derives_detectEnd s k 4
  · exact .refl s

theorem derives_followValue (s : State) (a : Nat) (old : Bytes) : s.Derives (s.followValue a old) := by
  unfold State.followValue
  extract_lets s1
  refine State.Derives.trans (derives_configWrite s a) ?_
  show s1.Derives _
  clear_value s1
  split
  · exact ⟨rfl, fun _ _ => rfl⟩
  split
  · exact derives_ppsJudge s1
  split
  · split
    · exact (derives_page s1).1
    · exact (derives_page s1).2
  split
  · exact ⟨rfl, fun _ _ => rfl⟩
  split
  · split
    · exact derives_canTiming s1 _
    · exact .refl s1
  · split
    · exact .refl s1
    · exact derives_hartEnable s1 _
  · split
    · exact .refl s1
    · exact derives_hartEnable s1 _
  · exact .refl s1

end Sys2Proof.Machine

end

section

namespace Sys2Proof.Machine

/-! ### A bit of an overflow object (R62) -/

theorem bytesBit_putBytesBit {bs : Bytes} {i : Nat} (h : i / 8 < bs.length) (b : Bool) (j : Nat) :
    bytesBit (putBytesBit bs i b) j = if j = i then b else bytesBit bs j := by
  have hj : j % 8 < 8 := Nat.mod_lt _ (by decide)
  unfold bytesBit putBytesBit
  rw [List.getElem?_set]
  by_cases hd : i / 8 = j / 8
  · have hb := bit_putBit ((bs[i / 8]?).getD 0).toNat (i % 8) (j % 8) b
    unfold bit at hb
    rw [if_pos hd, if_pos h, Option.getD_some, BitVec.getLsbD_ofNat, hb, ← hd]
    have he : j % 8 = i % 8 ↔ j = i := by omega
    simp [hj, he, BitVec.getLsbD]
  · rw [if_neg hd, if_neg (by omega)]

theorem fit_self {n : Nat} {bs : Bytes} (h : bs.length = n) : fit n bs = bs := by
  simp [fit, h, zeros]

/-- The overflow bit of a counter. -/
def State.overflowed (s : State) (a : Nat) : Bool := bytesBit (fit 32 (s.obj (overflowAddr a))) (addrSub a)

theorem overflowAddr_parts (a : Nat) : addrIndex (overflowAddr a) = addrIndex a ∧ addrSub (overflowAddr a) = 0xFF := by
  unfold overflowAddr objAddr addrIndex addrSub
  omega

theorem ne_overflowAddr {a : Nat} (h : addrSub a ≠ 0xFF) (q : Nat) : a ≠ overflowAddr q := fun e => h (e ▸ (overflowAddr_parts q).2)

/-- Two objects of one index differ in the subindex. -/
theorem addrSub_ne {a q : Nat} (hi : overflowAddr a = overflowAddr q) (h : a ≠ q) : addrSub a ≠ addrSub q := by
  have hi : addrIndex a = addrIndex q := by rw [← (overflowAddr_parts a).1, hi, (overflowAddr_parts q).1]
  unfold addrIndex addrSub at *
  omega

theorem putOverflow_overflowed (s : State) (c a : Nat) (b : Bool) :
    (s.setObj (overflowAddr c) (putBytesBit (fit 32 (s.obj (overflowAddr c))) (addrSub c) b)).overflowed a =
      if c = a then b else s.overflowed a := by
  have hc : addrSub c / 8 < (fit 32 (s.obj (overflowAddr c))).length := by
    rw [fit_length]
    unfold addrSub
    omega
  unfold State.overflowed
  by_cases hi : overflowAddr a = overflowAddr c
  · have hl : (putBytesBit (fit 32 (s.obj (overflowAddr c))) (addrSub c) b).length = 32 := by simp [putBytesBit, fit_length]
    rw [hi, obj_setObj_self, fit_self hl, bytesBit_putBytesBit hc]
    by_cases he : c = a
    · rw [if_pos he, if_pos (by rw [he])]
    · rw [if_neg he, if_neg (addrSub_ne hi (Ne.symm he))]
  · rw [obj_setObj_ne _ _ hi, if_neg fun e => hi (by rw [e])]

theorem setNum_overflowed (s : State) {c : Nat} (v a : Nat) (hc : addrSub c ≠ 0xFF) : (s.setNum c v).overflowed a = s.overflowed a := by
  unfold State.overflowed
  rw [obj_setNum_ne _ _ (ne_overflowAddr hc a).symm]

theorem bump_overflowed (s : State) {c a : Nat} (n : Nat) (hc : addrSub c ≠ 0xFF) (h : c ≠ a) : (s.bump c n).1.overflowed a = s.overflowed a := by
  unfold State.bump
  extract_lets top v o
  split
  · exact setNum_overflowed s _ a hc
  split
  · exact setNum_overflowed s _ a hc
  · have ho : o = fit 32 ((s.setNum c top).obj (overflowAddr c)) := by
      rw [obj_setNum_ne _ _ (ne_overflowAddr hc c).symm]
    rw [ho, putOverflow_overflowed, if_neg h, setNum_overflowed s _ a hc]

theorem logDraft_overflowed (s : State) (d : TallyDraft) {a : Nat} (h : a ≠ Obj.talliesWritten) : (s.logDraft d).overflowed a = s.overflowed a := by
  unfold State.logDraft
  split
  · have hb := bump_overflowed { s with tally := s.tally.write d } 1 (c := Obj.talliesWritten) (by decide) h.symm
    dsimp only
    split <;> exact hb
  · rfl

/-- A counter moves no other counter's overflow bit. -/
theorem count_overflowed (s : State) {c a : Nat} (n : Nat) (hc : addrSub c ≠ 0xFF) (h : c ≠ a) (ht : a ≠ Obj.talliesWritten) :
    (s.count c n).overflowed a = s.overflowed a := by
  unfold State.count
  dsimp only
  split
  · rw [State.logTally, logDraft_overflowed _ _ ht, bump_overflowed s n hc h]
  · exact bump_overflowed s n hc h

theorem unanswered_overflowed {a : Nat} (ha : a ∉ requestObjects) : Unanswered (State.overflowed · a) where
  objects _ _ e := by simp only [State.overflowed, State.obj, e]
  counters u c hc := by
    have hl : ∀ c ∈ responseCounters, addrSub c ≠ 0xFF ∧ c ∈ requestObjects := by decide
    have ht : Obj.talliesWritten ∈ requestObjects := by decide
    exact count_overflowed u 1 (hl c hc).1 (fun e => ha (e ▸ (hl c hc).2)) fun e => ha (e ▸ ht)

/-- A counter cleared reads 0, and its overflow bit is clear (R62). -/
theorem clearCounter_clears (s : State) {a : Nat} (h : addrSub a ≠ 0xFF) : (s.clearCounter a).num a = 0 ∧ (s.clearCounter a).overflowed a = false := by
  have ho : s.clearCounter a =
      (s.setNum a 0).setObj (overflowAddr a) (putBytesBit (fit 32 ((s.setNum a 0).obj (overflowAddr a))) (addrSub a) false) := by
    unfold State.clearCounter
    rw [obj_setNum_ne _ _ (ne_overflowAddr h a).symm]
  rw [ho]
  refine ⟨?_, by rw [putOverflow_overflowed, if_pos rfl]⟩
  rw [num_setObj_ne _ _ (ne_overflowAddr h a), num_setNum_self, Nat.zero_mod]

theorem clearCounter_obj (s : State) {a q : Nat} (h : q ≠ a) (ho : q ≠ overflowAddr a) : (s.clearCounter a).obj q = s.obj q := by
  unfold State.clearCounter
  rw [obj_setObj_ne _ _ ho, obj_setNum_ne _ _ h]

end Sys2Proof.Machine

end

section

namespace Sys2Proof.Machine

/-! ### What a write may move, whole -/

/-- Between `s` and `t` only what accepted writes to readable objects, and their responses, may move has moved. -/
def State.Written (s t : State) : Prop :=
  t = { s with dict := t.dict, tally := t.tally, stored := t.stored, options := t.options, weftQueue := t.weftQueue, captures := t.captures,
               profileChange := t.profileChange, face := t.face, time := t.time, can := t.can, island := t.island, io := t.io, out := t.out,
               pair := t.pair, clp := t.clp, prp := t.prp }

section

variable {s t u : State}

theorem State.Written.trans (h : s.Written t) (g : t.Written u) : s.Written u := by
  unfold State.Written at *
  rw [g, h]

theorem State.Written.fields (h : s.Written t) :
    t.mode = s.mode ∧ t.store = s.store ∧ t.keys = s.keys ∧ t.inForce = s.inForce := by
  rw [h]; exact ⟨rfl, rfl, rfl, rfl⟩

theorem State.Written.warp_eq (h : s.Written t) : t.warp = s.warp := by
  rw [h]

theorem State.Written.store_eq (h : s.Written t) : t.store = s.store := by
  rw [h]

theorem State.Written.objRow? (h : s.Written t) (a : Nat) : t.objRow? a = s.objRow? a := objRow?_congr h.warp_eq h.store_eq a

theorem State.RequestOnly.written {os : List Nat} (h : s.RequestOnly t os) : s.Written t := by
  unfold State.Written
  rw [h.rest]

/-- Counting a request leaves the rows as they are. -/
theorem counted_row {a : Nat} {o : ObjRow} (h : s.objRow? a = some o) : (s.count Obj.requestsExecuted).objRow? a = some o := by
  rw [(requestOnly_counted s []).written.objRow?, h]

theorem State.Follows.written (h : s.Follows t) : s.Written t := by
  unfold State.Written
  rw [h]

end

/-! ### A value put into its object (R43) -/

/-- A value that is neither an option nor a counter: the object takes it, its stored value too where it is persistent, and what follows it follows. -/
theorem putValue_plain (s : State) {o : ObjRow} {a : Nat} (v : Bytes) (hn : isOption a = false) (hz : o.range ≠ .zero) :
    (if o.persistent then s.setStored a v else s.setObj a v).Derives (s.putValue o a v) := by
  have h : s.putValue o a v = (if o.persistent then s.setStored a v else s.setObj a v).followValue a (s.obj a) := by
    unfold State.putValue
    rw [if_neg (by simp [hn]), if_neg hz]
  rw [h]
  exact derives_followValue ..

theorem putValue_option (s : State) (o : ObjRow) {a : Nat} (v : Bytes) (h : isOption a = true) : s.putValue o a v = s.putOption a v := if_pos h

theorem putValue_counter (s : State) {o : ObjRow} {a : Nat} (v : Bytes) (hn : isOption a = false) (hz : o.range = .zero) :
    s.putValue o a v = s.clearCounter a := by
  unfold State.putValue
  rw [if_neg (by simp [hn]), if_pos hz]

theorem putOption_obj (s : State) (a : Nat) (v : Bytes) {q : Nat} (h1 : q ≠ Obj.optionSequence) (h2 : q ≠ Obj.optionStatus) :
    (s.putOption a v).obj q = (s.setObj a v).obj q := by
  unfold State.putOption
  rw [obj_setNum_ne _ _ h2, obj_setNum_ne _ _ h1]
  rfl

theorem putValue_written (s : State) (o : ObjRow) (a : Nat) (v : Bytes) :
    s.Written (s.putValue o a v) ∧ (s.putValue o a v).weftQueue = s.weftQueue := by
  by_cases hn : isOption a = true
  · rw [putValue_option s o v hn]
    exact ⟨rfl, rfl⟩
  by_cases hz : o.range = .zero
  · rw [putValue_counter s v (by simpa using hn) hz]
    exact ⟨rfl, rfl⟩
  · have h := (putValue_plain s v (by simpa using hn) hz).1
    refine ⟨State.Written.trans ?_ h.written, ?_⟩
    · split <;> rfl
    · rw [h]
      split <;> rfl

theorem effectObjects_option {q : Nat} (h : q ∉ effectObjects) : q ≠ Obj.optionSequence ∧ q ≠ Obj.optionStatus := by
  have hl : Obj.optionSequence ∈ effectObjects ∧ Obj.optionStatus ∈ effectObjects := by decide
  exact ⟨fun e => h (e ▸ hl.1), fun e => h (e ▸ hl.2)⟩

theorem putValue_obj (s : State) (o : ObjRow) {a q : Nat} (v : Bytes) (ha : q ≠ a) (ho : q ≠ overflowAddr a) (hq : q ∉ effectObjects) :
    (s.putValue o a v).obj q = s.obj q := by
  obtain ⟨h1, h2⟩ := effectObjects_option hq
  by_cases hn : isOption a = true
  · rw [putValue_option s o v hn, putOption_obj s a v h1 h2, obj_setObj_ne _ _ ha]
  by_cases hz : o.range = .zero
  · rw [putValue_counter s v (by simpa using hn) hz, clearCounter_obj s ha ho]
  · rw [(putValue_plain s v (by simpa using hn) hz).2 q fun h => hq (List.mem_append_right _ h)]
    split
    · exact obj_setObj_ne _ _ ha
    · exact obj_setObj_ne _ _ ha

theorem putValue_sets (s : State) {o : ObjRow} {a : Nat} (v : Bytes) (hz : o.range ≠ .zero) (ha : a ∉ effectObjects) :
    (s.putValue o a v).obj a = v := by
  obtain ⟨h1, h2⟩ := effectObjects_option ha
  by_cases hn : isOption a = true
  · rw [putValue_option s o v hn, putOption_obj s a v h1 h2, obj_setObj_self]
  · rw [(putValue_plain s v (by simpa using hn) hz).2 a fun h => ha (List.mem_append_right _ h)]
    split
    · exact obj_setObj_self ..
    · exact obj_setObj_self ..

theorem putValue_stores (s : State) {o : ObjRow} {a : Nat} (v : Bytes) (hn : isOption a = false) (hz : o.range ≠ .zero) (hp : o.persistent = true) :
    Assoc.get? (s.putValue o a v).stored a = some v := by
  rw [(putValue_plain s v hn hz).1, if_pos hp]
  exact assoc_get_set_self ..

/-- An option goes into the record, with the sequence one higher (R428). -/
theorem putValue_options (s : State) (o : ObjRow) {a : Nat} (v : Bytes) (h : isOption a = true) :
    let t := s.putValue o a v
    t.options = s.options.write (optionRecord (s.num Obj.optionSequence + 1)
      ⟨t.flag Obj.optUsbEnable, t.flag Obj.optDebugEnable, t.flag Obj.optResetPin⟩) := by
  have hf : ∀ q, q ≠ Obj.optionSequence → q ≠ Obj.optionStatus → (s.putOption a v).flag q = (s.setObj a v).flag q := fun q h1 h2 => by
    unfold State.flag State.num
    rw [putOption_obj s a v h1 h2]
  intro t
  have ht : t = s.putOption a v := putValue_option s o v h
  rw [ht, hf _ (by decide) (by decide), hf _ (by decide) (by decide), hf _ (by decide) (by decide)]
  rfl

/-! ### A write that waits for its cut-off (R58, R59) -/

/-- The queue after a write to `a`: in the place of an older one to the same object, at the end. -/
def State.queueWith (s : State) (a : Nat) (v : Bytes) : List WeftWrite :=
  (s.weftQueue.filter fun w => decide (w.addr ≠ a)) ++ [⟨a, v, s.classOfAddr a⟩]

theorem queueWith_congr {s t : State} (hw : t.warp = s.warp) (hs : t.store = s.store) (hq : t.weftQueue = s.weftQueue) (a : Nat) (v : Bytes) :
    t.queueWith a v = s.queueWith a v := by
  unfold State.queueWith
  rw [classOfAddr_congr hw hs, hq]

/-- What a write to be queued leaves: the queue with it, and a count where it supersedes another. -/
theorem queueWrite_queues {s : State} {a : Nat} (v : Bytes) (h : (s.objRow? a).isSome = true) :
    s.queueWrite a v = { s with weftQueue := s.queueWith a v } ∨
      s.queueWrite a v = ({ s with weftQueue := s.queueWith a v } : State).count Obj.writesSuperseded := by
  unfold State.queueWrite
  rw [if_neg (by simpa [Option.isNone_iff_eq_none, Option.isSome_iff_ne_none] using h)]
  dsimp only
  split
  · exact .inr rfl
  · exact .inl rfl

/-- A test start is a loop's TestMode (R248). -/
def isTestMode (a : Nat) : Bool := isLoopIx (addrIndex a) && decide (addrSub a = 0x20)

theorem latchTest_captures (s : State) (a mode : Nat) : ∃ c, s.latchTest a mode = { s with captures := c } := by
  unfold State.latchTest
  extract_lets j q c
  split <;> exact ⟨_, rfl⟩

/-- A write with weft effect is stored where its object is persistent, a test start latches its parameters, and the write stands in the queue; where it
supersedes another that counts. -/
theorem holdWrite_form {s : State} {a : Nat} (o : ObjRow) (v : Bytes) (h : (s.objRow? a).isSome = true) :
    ∃ m c w, w = { s with stored := m, captures := c, weftQueue := s.queueWith a v } ∧
      (s.holdWrite o a v = w ∨ s.holdWrite o a v = w.count Obj.writesSuperseded) ∧
      (o.persistent = true → Assoc.get? m a = some v) ∧ (isTestMode a = false → c = s.captures) := by
  have hs : ∃ m, (if o.persistent then { s with stored := Assoc.set s.stored a v } else s) = { s with stored := m } ∧
      (o.persistent = true → Assoc.get? m a = some v) := by
    split
    · exact ⟨_, rfl, fun _ => assoc_get_set_self ..⟩
    · rename_i hp
      exact ⟨s.stored, rfl, fun h => absurd h hp⟩
  obtain ⟨m, hm, hp⟩ := hs
  have hc : ∃ c, s.holdWrite o a v = ({ s with stored := m, captures := c } : State).queueWrite a v ∧ (isTestMode a = false → c = s.captures) := by
    unfold State.holdWrite
    rw [hm]
    dsimp only
    split
    · rename_i ht
      obtain ⟨c, hc⟩ := latchTest_captures { s with stored := m } a (leNat v)
      rw [hc]
      exact ⟨c, rfl, fun hf => absurd ht (by rw [← isTestMode, hf]; decide)⟩
    · exact ⟨s.captures, rfl, fun _ => rfl⟩
  obtain ⟨c, hc, hcap⟩ := hc
  have hq := queueWith_congr (s := s) (t := { s with stored := m, captures := c }) rfl rfl rfl a v
  have hr := objRow?_congr (s := s) (t := { s with stored := m, captures := c }) rfl rfl a
  rw [← hr] at h
  have hw := queueWrite_queues v h
  rw [hq, ← hc] at hw
  exact ⟨m, c, _, rfl, hw, hp, hcap⟩

theorem holdWrite_written {s : State} {a : Nat} (o : ObjRow) (v : Bytes) (h : (s.objRow? a).isSome = true) :
    s.Written (s.holdWrite o a v) ∧ (s.holdWrite o a v).weftQueue = s.queueWith a v := by
  obtain ⟨m, c, w, rfl, e | e, -, -⟩ := holdWrite_form o v h <;> rw [e]
  · exact ⟨rfl, rfl⟩
  · rw [count_rest]
    exact ⟨rfl, rfl⟩

theorem holdWrite_obj {s : State} {a : Nat} (o : ObjRow) (v : Bytes) (h : (s.objRow? a).isSome = true) {q : Nat} (hq : q ∉ effectObjects) :
    (s.holdWrite o a v).obj q = s.obj q := by
  have hl : Obj.writesSuperseded ∈ effectObjects ∧ overflowAddr Obj.writesSuperseded ∈ effectObjects ∧ ∀ x ∈ tallyObjects, x ∈ effectObjects := by decide
  obtain ⟨m, c, w, rfl, e | e, -, -⟩ := holdWrite_form o v h <;> rw [e]
  · rfl
  · exact count_obj _ _ (fun e => hq (e ▸ hl.1)) (fun e => hq (e ▸ hl.2.1)) fun hm => hq (hl.2.2 q hm)

/-- A counter listed among the objects moves with its overflow bit and the tally of an overflow. -/
theorem requestOnly_countOf (s : State) {a : Nat} (n : Nat) {os : List Nat} (ha : a ∈ os) (ho : overflowAddr a ∈ os) :
    s.RequestOnly (s.count a n) os := by
  have hr := count_rest s a n
  refine ⟨fun q hq => ?_, by rw [hr], by rw [hr], by rw [hr], by rw [hr]⟩
  simp only [List.mem_append, not_or] at hq
  refine count_obj s n (fun e => hq.1 (e ▸ ha)) (fun e => hq.1 (e ▸ ho)) fun hm => hq.2 ?_
  unfold requestObjects
  exact List.mem_append_right _ hm

theorem State.RequestOnly.withQueue {s t : State} {os : List Nat} (h : s.RequestOnly t os) (q : List WeftWrite) (m : Assoc Bytes) :
    { s with weftQueue := q, stored := m }.RequestOnly { t with weftQueue := q, stored := m } os :=
  ⟨h.objects, h.clp, h.pair, h.prp, by rw [h.rest]⟩

/-- But for a test start, only the queue, the stored value and the count of superseded writes move. -/
theorem holdWrite_only {s : State} {o : ObjRow} {a : Nat} (v : Bytes) (h : (s.objRow? a).isSome = true) (ht : isTestMode a = false) :
    { s with weftQueue := (s.holdWrite o a v).weftQueue, stored := (s.holdWrite o a v).stored }.RequestOnly (s.holdWrite o a v)
        [Obj.writesSuperseded, overflowAddr Obj.writesSuperseded] ∧
      (o.persistent = true → Assoc.get? (s.holdWrite o a v).stored a = some v) := by
  obtain ⟨m, c, w, hw, e, hp, hc⟩ := holdWrite_form o v h
  have hk : w.RequestOnly (s.holdWrite o a v) [Obj.writesSuperseded, overflowAddr Obj.writesSuperseded] := by
    rcases e with e | e <;> rw [e]
    · exact .refl ..
    · exact requestOnly_countOf w 1 (by simp) (by simp)
  have hm : (s.holdWrite o a v).stored = m := by rw [hk.rest, hw]
  have hs : w = { s with weftQueue := (s.holdWrite o a v).weftQueue, stored := (s.holdWrite o a v).stored } := by
    rw [hk.rest, hw, hc ht]
  rw [hm]
  rw [hm] at hs
  exact ⟨hs ▸ hk, hp⟩

end Sys2Proof.Machine

end

section

namespace Sys2Proof.Machine

/-! ### An accepted write -/

/-- The state of an accepted write before its effect: audited and counted. -/
def State.audited (s : State) (r : Req) (o : ObjRow) (a : Nat) (v : Bytes) : State :=
  (if o.audit then s.audit r a (typeCode o.type) v else s).count Obj.writesAccepted

/-- The effect of a write to a readable object: its value waits in the queue, or is put. -/
def State.effected (s : State) (o : ObjRow) (a : Nat) (v : Bytes) : State := if o.effect = .weft then s.holdWrite o a v else s.putValue o a v

theorem accept_readable (s : State) (r : Req) {o : ObjRow} (a : Nat) (v : Bytes) (hw : o.access ≠ .wo) :
    s.accept r o a v = (((s.audited r o a v).effected o a v).forward o a v, s.effectOf o a v) := by
  unfold State.accept State.effected
  dsimp only
  rw [if_neg hw]
  rfl

theorem requestOnly_audited (s : State) (r : Req) (o : ObjRow) (a : Nat) (v : Bytes) (os : List Nat) : s.RequestOnly (s.audited r o a v) os := by
  refine .count ?_ 1 (by decide) (by decide)
  split
  · exact requestOnly_audit ..
  · exact .refl ..

/-- Counting the request leaves the other counters. -/
theorem counted_executed {a : Nat} (h : a ∉ [Obj.requestsExecuted, overflowAddr Obj.requestsExecuted] ++ tallyObjects) (s : State) (n : Nat) :
    (s.count Obj.requestsExecuted).counted a n = s.counted a n := by
  simp only [List.mem_append, List.mem_cons, List.not_mem_nil, or_false, not_or] at h
  unfold State.counted State.num
  rw [count_obj _ _ h.1.1 h.1.2 h.2]

theorem audited_counts (s : State) (r : Req) (o : ObjRow) (a : Nat) (v : Bytes) :
    (s.audited r o a v).num Obj.writesAccepted = s.counted Obj.writesAccepted 1 := by
  have ha : (if o.audit then s.audit r a (typeCode o.type) v else s).obj Obj.writesAccepted = s.obj Obj.writesAccepted := by
    split
    · unfold State.audit
      rw [count_obj _ _ (by decide) (by decide) (by decide), logDraft_obj _ _ (by decide)]
    · rfl
  unfold State.audited
  rw [count_num _ _ (by decide) (by decide)]
  unfold State.counted State.num
  rw [ha]

/-- Forwarding a write moves the pair's part alone, and what has left. -/
theorem forward_rest (s : State) (o : ObjRow) (a : Nat) (v : Bytes) :
    s.forward o a v = { s with pair := (s.forward o a v).pair, out := (s.forward o a v).out } := by
  unfold State.forward
  split
  · rfl
  split
  · unfold State.sendSeam
    split <;> rfl
  · rfl

theorem forward_obj (s : State) (o : ObjRow) (a : Nat) (v : Bytes) (q : Nat) : (s.forward o a v).obj q = s.obj q := by
  rw [forward_rest]
  rfl

section

variable {s : State} {r : Req} {o : ObjRow} {a : Nat} {v : Bytes} (ho : s.objRow? a = some o)
include ho

theorem effected_written : s.Written (s.effected o a v) := by
  unfold State.effected
  split
  · exact (holdWrite_written o v (by rw [ho]; rfl)).1
  · exact (putValue_written s o a v).1

theorem effected_obj {q : Nat} (ha : q ≠ a) (hov : q ≠ overflowAddr a) (hq : q ∉ effectObjects) : (s.effected o a v).obj q = s.obj q := by
  unfold State.effected
  split
  · exact holdWrite_obj o v (by rw [ho]; rfl) hq
  · exact putValue_obj s o v ha hov hq

/-- A write that waits for its cut-off goes nowhere else. -/
theorem forward_waits (u : State) (he : o.effect = .weft) : u.forward o a v = u := by
  have hm : inWeftMirror a = false := by
    by_contra hm
    have hm : a ∈ [Obj.stationCommand, Obj.profile, Obj.activateBank, Obj.activateCancel] := List.contains_iff_mem.1 ((Bool.not_eq_false _).mp hm)
    have hf : ∀ q ∈ [Obj.stationCommand, Obj.profile, Obj.activateBank, Obj.activateCancel],
        isStationIx (addrIndex q) = false ∧ (fixedRow? q).all (fun o => o.effect != .weft) = true := by decide
    obtain ⟨h1, h2⟩ := hf a hm
    rw [objRow?_fixed s h1] at ho
    simp [ho, he] at h2
  unfold State.forward
  simp [hm, he]

end

/-- The state that an accepted write to a readable object leaves. -/
def State.accepted (s : State) (r : Req) (o : ObjRow) (a : Nat) (v : Bytes) : State := ((s.audited r o a v).effected o a v).forward o a v

section

variable {s : State} {r : Req} {o : ObjRow} {a : Nat} {v : Bytes} (ho : s.objRow? a = some o)
include ho

theorem audited_row : (s.audited r o a v).objRow? a = some o := by
  rw [(requestOnly_audited s r o a v []).written.objRow?, ho]

theorem accepted_written : s.Written (s.accepted r o a v) := by
  refine ((requestOnly_audited s r o a v []).written.trans (effected_written (v := v) (audited_row ho))).trans ?_
  unfold State.accepted
  rw [forward_rest]
  rfl

theorem accepted_obj {q : Nat} (ha : q ≠ a) (hov : q ≠ overflowAddr a) (hq : q ∉ writeObjects) : (s.accepted r o a v).obj q = s.obj q := by
  simp only [writeObjects, List.mem_append, not_or] at hq
  unfold State.accepted
  rw [forward_obj, effected_obj (audited_row ho) ha hov hq.1, (requestOnly_audited s r o a v []).objects q hq.2]

theorem accepted_counts (ha : a ≠ Obj.writesAccepted) :
    (s.accepted r o a v).num Obj.writesAccepted = s.counted Obj.writesAccepted 1 := by
  rw [← audited_counts s r o a v]
  unfold State.accepted State.num
  rw [forward_obj, effected_obj (audited_row ho) ha.symm (ne_overflowAddr (by decide) a) (by decide)]

/-- With weft effect the write stands at the end of the queue, alone of its object. -/
theorem accepted_queue (he : o.effect = .weft) : (s.accepted r o a v).weftQueue = s.queueWith a v := by
  have hp := requestOnly_audited s r o a v []
  have hq := queueWith_congr hp.written.warp_eq hp.written.store_eq (by rw [hp.rest]) a v
  unfold State.accepted
  rw [forward_rest, State.effected, if_pos he]
  exact (holdWrite_written o v (by rw [audited_row ho]; rfl)).2.trans hq

end

section

variable (s : State) (r : Req) {o : ObjRow} {a : Nat} (v : Bytes)

/-- With another effect the queue stays. -/
theorem accepted_queue_kept (he : o.effect ≠ .weft) : (s.accepted r o a v).weftQueue = s.weftQueue := by
  unfold State.accepted
  rw [forward_rest, State.effected, if_neg he]
  show (State.putValue _ o a v).weftQueue = _
  rw [(putValue_written ..).2, (requestOnly_audited s r o a v []).rest]

/-- With another effect the object takes the value. -/
theorem accepted_sets (he : o.effect ≠ .weft) (hz : o.range ≠ .zero) (ha : a ∉ writeObjects) : (s.accepted r o a v).obj a = v := by
  unfold State.accepted
  rw [forward_obj, State.effected, if_neg he, putValue_sets _ v hz fun h => ha (List.mem_append_left _ h)]

end

end Sys2Proof.Machine

end

section

namespace Sys2Proof.Machine

/-! ### A multiple write (R47) -/

/-- Writes accepted in order, each with its row. -/
def State.acceptEach (s : State) (r : Req) (rows : List (ObjRow × Nat × Bytes)) : State := rows.foldl (fun s x => (s.accept r x.1 x.2.1 x.2.2).1) s

/-- The items of a multiple write with their rows. -/
def State.rowsOf (s : State) (items : List (Nat × Bytes)) : List (ObjRow × Nat × Bytes) := items.filterMap fun e => (s.objRow? e.1).map fun o => (o, e)

theorem acceptAll_state (s : State) (r : Req) (items : List (Nat × Bytes)) : (s.acceptAll r items).1 = s.acceptEach r (s.rowsOf items) := by
  suffices ∀ (rows : List (ObjRow × Nat × Bytes)) (p : State × Bytes),
      (rows.foldl (fun (s, b) (o, a, v) => let (s1, e) := s.accept r o a v; (s1, b ++ writeResponse e)) p).1 = p.1.acceptEach r rows from
    this _ (s, [])
  intro rows
  induction rows with
  | nil => exact fun _ => rfl
  | cons x rows ih => exact fun p => ih _

/-- An item that a state accepts as one to a readable object: its row there, which may be written and read. -/
structure State.Takes (s : State) (x : ObjRow × Nat × Bytes) : Prop where
  row : s.objRow? x.2.1 = some x.1
  writable : x.1.access ≠ .ro ∧ x.1.access ≠ .const
  readable : x.1.access ≠ .wo

theorem State.Takes.of_written {s t : State} (h : s.Written t) {x : ObjRow × Nat × Bytes} (hx : s.Takes x) : t.Takes x :=
  ⟨(h.objRow? _).trans hx.row, hx.writable, hx.readable⟩

theorem State.Takes.sub {s : State} {x : ObjRow × Nat × Bytes} (h : s.Takes x) : addrSub x.2.1 ≠ 0xFF := settable_sub h.row h.writable.1 h.writable.2

theorem State.Takes.apart {s : State} {x : ObjRow × Nat × Bytes} (h : s.Takes x) (hz : x.1.range ≠ .zero) : x.2.1 ∉ writeObjects :=
  settable_apart h.row h.writable.1 h.writable.2 hz

section

variable {r : Req} {rows : List (ObjRow × Nat × Bytes)}

theorem acceptEach_cons {s : State} {x : ObjRow × Nat × Bytes} (hx : s.Takes x) :
    s.acceptEach r (x :: rows) = (s.accepted r x.1 x.2.1 x.2.2).acceptEach r rows := by
  show (s.accept r x.1 x.2.1 x.2.2).1.acceptEach r rows = _
  rw [accept_readable s r _ _ hx.readable]
  rfl

/-- After the first item, the others are still taken. -/
theorem takes_tail {s : State} {x : ObjRow × Nat × Bytes} (h : ∀ y ∈ x :: rows, s.Takes y) : ∀ y ∈ rows, (s.accepted r x.1 x.2.1 x.2.2).Takes y :=
  fun y hy => (h y (List.mem_cons_of_mem _ hy)).of_written (accepted_written (h x List.mem_cons_self).row)

/-- What no item names, and no write moves by the way, stands. -/
theorem acceptEach_obj {s : State} (h : ∀ x ∈ rows, s.Takes x) {q : Nat} (hq : q ∉ rows.map (·.2.1)) (hs : addrSub q ≠ 0xFF) (hw : q ∉ writeObjects) :
    (s.acceptEach r rows).obj q = s.obj q := by
  induction rows generalizing s with
  | nil => rfl
  | cons x rows ih =>
    have hx := h x List.mem_cons_self
    simp only [List.map_cons, List.mem_cons, not_or] at hq
    rw [acceptEach_cons hx, ih (takes_tail h) hq.2, accepted_obj hx.row hq.1 (ne_overflowAddr hs _) hw]

/-- A write that waits stays in the queue while no item names its object. -/
theorem acceptEach_queue {s : State} (h : ∀ x ∈ rows, s.Takes x) {w : WeftWrite} (hw : w ∈ s.weftQueue) (hq : w.addr ∉ rows.map (·.2.1)) :
    w ∈ (s.acceptEach r rows).weftQueue := by
  induction rows generalizing s with
  | nil => exact hw
  | cons x rows ih =>
    have hx := h x List.mem_cons_self
    simp only [List.map_cons, List.mem_cons, not_or] at hq
    rw [acceptEach_cons hx]
    refine ih (takes_tail h) ?_ hq.2
    by_cases he : x.1.effect = .weft
    · rw [accepted_queue hx.row he]
      exact List.mem_append_left _ (List.mem_filter.2 ⟨hw, by simpa using hq.1⟩)
    · rwa [accepted_queue_kept _ _ _ he]

/-- Of items to different objects each leaves its write in the queue, or its value in the object. -/
theorem acceptEach_takes {s : State} (h : ∀ x ∈ rows, s.Takes x) (hn : (rows.map (·.2.1)).Nodup) {x : ObjRow × Nat × Bytes} (hx : x ∈ rows) :
    (x.1.effect = .weft → ∃ w ∈ (s.acceptEach r rows).weftQueue, w.addr = x.2.1 ∧ w.value = x.2.2) ∧
      (x.1.effect ≠ .weft → x.1.range ≠ .zero → (s.acceptEach r rows).obj x.2.1 = x.2.2) := by
  induction rows generalizing s with
  | nil => exact absurd hx List.not_mem_nil
  | cons y rows ih =>
    have hy := h y List.mem_cons_self
    rw [List.map_cons, List.nodup_cons] at hn
    rw [acceptEach_cons hy]
    rcases List.mem_cons.1 hx with rfl | hx
    · refine ⟨fun he => ⟨⟨x.2.1, x.2.2, s.classOfAddr x.2.1⟩, ?_, rfl, rfl⟩, fun he hz => ?_⟩
      · refine acceptEach_queue (takes_tail h) ?_ hn.1
        rw [accepted_queue hy.row he]
        exact List.mem_append_right _ List.mem_cons_self
      · rw [acceptEach_obj (takes_tail h) hn.1 hy.sub (hy.apart hz), accepted_sets _ _ _ he hz (hy.apart hz)]
    · exact ih (takes_tail h) hn.2 hx

theorem counted_counted {s t : State} {a m : Nat} (h : t.num a = s.counted a m) (n : Nat) : t.counted a n = s.counted a (m + n) := by
  unfold State.counted at *
  rw [h]
  omega

/-- Items accepted count one by one, none of them naming the counter. -/
theorem acceptEach_counts {s s0 : State} {n : Nat} (h : ∀ x ∈ rows, s.Takes x) (hc : Obj.writesAccepted ∉ rows.map (·.2.1))
    (hn : s.num Obj.writesAccepted = s0.counted Obj.writesAccepted n) :
    (s.acceptEach r rows).num Obj.writesAccepted = s0.counted Obj.writesAccepted (n + rows.length) := by
  induction rows generalizing s n with
  | nil => exact hn
  | cons x rows ih =>
    have hx := h x List.mem_cons_self
    simp only [List.map_cons, List.mem_cons, not_or] at hc
    have h1 : (s.accepted r x.1 x.2.1 x.2.2).num Obj.writesAccepted = s0.counted Obj.writesAccepted (n + 1) := by
      rw [accepted_counts hx.row (Ne.symm hc.1), counted_counted hn]
    rw [acceptEach_cons hx, ih (takes_tail h) hc.2 h1, List.length_cons, Nat.add_assoc, Nat.add_comm 1]

theorem acceptEach_counts_all {s : State} (h : ∀ x ∈ rows, s.Takes x) (hc : Obj.writesAccepted ∉ rows.map (·.2.1)) (h0 : rows ≠ []) :
    (s.acceptEach r rows).num Obj.writesAccepted = s.counted Obj.writesAccepted rows.length := by
  obtain _ | ⟨x, rows⟩ := rows
  · exact absurd rfl h0
  · have hx := h x List.mem_cons_self
    simp only [List.map_cons, List.mem_cons, not_or] at hc
    rw [acceptEach_cons hx, acceptEach_counts (takes_tail h) hc.2 (accepted_counts hx.row (Ne.symm hc.1)), List.length_cons, Nat.add_comm]

end

/-! ### The checks of a multiple write (R47) -/

theorem asIfAccepted_written (s : State) (a : Nat) (v : Bytes) : s.Written (s.asIfAccepted a v) := by
  unfold State.asIfAccepted
  (repeat' split) <;> rfl

theorem firstFailure_cons (s : State) (r : Req) (i : Nat) (x : Nat × Bytes) (items : List (Nat × Bytes)) :
    s.firstFailure r i (x :: items) = if s.writeCode r x.1 x.2 ≠ Status.ok then some (i, s.writeCode r x.1 x.2)
      else (s.asIfAccepted x.1 x.2).firstFailure r (i + 1) items := rfl

/-- Where no item fails, each has a row that may be written. -/
theorem firstFailure_none_rows {r : Req} {items : List (Nat × Bytes)} {s : State} {i : Nat} (h : s.firstFailure r i items = none) :
    ∀ e ∈ items, ∃ o, s.objRow? e.1 = some o ∧ o.access ≠ .ro ∧ o.access ≠ .const := by
  induction items generalizing s i with
  | nil => exact fun e he => absurd he List.not_mem_nil
  | cons x items ih =>
    rw [firstFailure_cons] at h
    split at h
    · cases h
    · rename_i hc
      intro e he
      rcases List.mem_cons.1 he with rfl | he
      · exact writeCode_ok_row (not_not.1 hc)
      · obtain ⟨o, ho, hw⟩ := ih h e he
        exact ⟨o, by rwa [(asIfAccepted_written s x.1 x.2).objRow?] at ho, hw⟩

theorem firstFailure_lt {r : Req} {items : List (Nat × Bytes)} {s : State} {i j c : Nat} (h : s.firstFailure r i items = some (j, c)) : c < 65536 := by
  induction items generalizing s i with
  | nil => cases h
  | cons x items ih =>
    rw [firstFailure_cons] at h
    split at h
    · cases h
      exact writeCode_lt ..
    · exact ih h

/-- Where each item has a row, the rows stand item by item. -/
theorem rowsOf_items {s : State} {items : List (Nat × Bytes)} (h : ∀ e ∈ items, (s.objRow? e.1).isSome = true) : (s.rowsOf items).map (·.2) = items := by
  induction items with
  | nil => rfl
  | cons x items ih =>
    obtain ⟨o, ho⟩ := Option.isSome_iff_exists.1 (h x List.mem_cons_self)
    have hc : s.rowsOf (x :: items) = (o, x) :: s.rowsOf items := by
      unfold State.rowsOf
      rw [List.filterMap_cons, ho]
      rfl
    rw [hc, List.map_cons, ih fun e he => h e (List.mem_cons_of_mem _ he)]

theorem rowsOf_row {s : State} {items : List (Nat × Bytes)} {x : ObjRow × Nat × Bytes} (h : x ∈ s.rowsOf items) : s.objRow? x.2.1 = some x.1 ∧ x.2 ∈ items := by
  obtain ⟨e, he, hx⟩ := List.mem_filterMap.1 h
  obtain ⟨o, ho, rfl⟩ := Option.map_eq_some_iff.1 hx
  exact ⟨ho, he⟩

theorem mem_rowsOf {s : State} {items : List (Nat × Bytes)} {a : Nat} {v : Bytes} {o : ObjRow} (h : (a, v) ∈ items) (ho : s.objRow? a = some o) :
    (o, a, v) ∈ s.rowsOf items := List.mem_filterMap.2 ⟨(a, v), h, by rw [ho]; rfl⟩

/-! ### WRITE_MULTI -/

theorem writeAll_badHeader (s : State) (r : Req) {items : List (Nat × Bytes)} (h : items = [] ∨ 64 < items.length) :
    s.writeAll r items = (s, refusal Status.badHeader) := if_pos (by simpa using h)

theorem writeAll_refused {s : State} {r : Req} {items : List (Nat × Bytes)} (h : items ≠ []) (hl : items.length ≤ 64) {i c : Nat}
    (hf : s.firstFailure r 0 items = some (i, c)) : s.writeAll r items = (s.count Obj.writesRefused items.length, ⟨c, [byte i]⟩) := by
  unfold State.writeAll
  rw [if_neg (by simpa using ⟨h, hl⟩), hf]

theorem writeAll_accepted {s : State} {r : Req} {items : List (Nat × Bytes)} (h : items ≠ []) (hl : items.length ≤ 64)
    (hf : s.firstFailure r 0 items = none) : s.writeAll r items = ((s.acceptAll r items).1, ⟨Status.ok, (s.acceptAll r items).2⟩) := by
  unfold State.writeAll
  rw [if_neg (by simpa using ⟨h, hl⟩), hf]

end Sys2Proof.Machine

end

section

namespace Sys2Proof.Machine

/-! ### Reads (R82, R83) -/

/-- The objects that looking at damaged records may move (R481). -/
def damagedObjects : List Nat := [Obj.talliesDamaged, overflowAddr Obj.talliesDamaged]

/-- What reads may move: the receive buffers (R325), and what a request moves with the count of damaged records. -/
def State.Reads (s t : State) : Prop := { s with can := t.can }.RequestOnly t damagedObjects

theorem State.RequestOnly.withCan {s t : State} {os : List Nat} (h : s.RequestOnly t os) (c : CanBlock) :
    { s with can := c }.RequestOnly { t with can := c } os :=
  ⟨h.objects, h.clp, h.pair, h.prp, by rw [h.rest]⟩

theorem State.RequestOnly.can {s t : State} {os : List Nat} (h : s.RequestOnly t os) : t.can = s.can := by rw [h.rest]

theorem State.RequestOnly.reads {s t : State} (h : s.RequestOnly t damagedObjects) : s.Reads t := by
  have hc := h.withCan t.can
  exact hc

theorem State.Reads.trans {s t u : State} (h : s.Reads t) (g : t.Reads u) : s.Reads u :=
  State.RequestOnly.trans (h.withCan u.can) g

theorem inspect_only (s : State) (n : Nat) : s.RequestOnly (s.inspect n) damagedObjects := by
  have hlog : ∀ x : TallyLog, s.RequestOnly { s with tally := x } damagedObjects := fun _ => ⟨fun _ _ => rfl, rfl, rfl, rfl, rfl⟩
  have hcount : ∀ u : State, u.RequestOnly (u.count Obj.talliesDamaged) damagedObjects := fun u =>
    requestOnly_countOf u 1 (by simp [damagedObjects]) (by simp [damagedObjects])
  unfold State.inspect State.foundDamaged
  split
  · split
    · exact .refl ..
    · exact (hlog _).trans (hcount _)
  · exact .refl ..

theorem afterRead_reads (s : State) (a : Nat) : s.Reads (s.afterRead a) ∧ (rxBufferOf a = none → (s.afterRead a).can = s.can) := by
  unfold State.afterRead
  split
  · exact ⟨.reads (.refl ..), fun _ => rfl⟩
  split
  · exact ⟨(inspect_only s _).reads, fun _ => (inspect_only s _).can⟩
  split
  · rename_i k b hb
    exact ⟨⟨fun _ _ => rfl, rfl, rfl, rfl, rfl⟩, fun h => by rw [h] at hb; cases hb⟩
  · exact ⟨.reads (.refl ..), fun _ => rfl⟩

theorem afterReads_reads (as : List Nat) (s : State) :
    s.Reads (as.foldl State.afterRead s) ∧ ((∀ a ∈ as, rxBufferOf a = none) → (as.foldl State.afterRead s).can = s.can) := by
  induction as generalizing s with
  | nil => exact ⟨.reads (.refl ..), fun _ => rfl⟩
  | cons a as ih =>
    obtain ⟨h1, h2⟩ := afterRead_reads s a
    obtain ⟨g1, g2⟩ := ih (s.afterRead a)
    exact ⟨h1.trans g1, fun h => (g2 fun b hb => h b (List.mem_cons_of_mem _ hb)).trans (h2 (h a List.mem_cons_self))⟩

theorem readCode_lt (s : State) (a : Nat) : s.readCode a < 65536 := by
  unfold State.readCode
  split
  · decide
  · split
    · decide
    · split <;> decide

theorem readAll_badHeader (s : State) (r : Req) {as : List Nat} (h : as = [] ∨ 64 < as.length) : s.readAll r as = (s, refusal Status.badHeader) :=
  if_pos (by simpa using h)

theorem readAll_items (s : State) (r : Req) {as : List Nat} (h : as ≠ []) (hl : as.length ≤ 64) :
    s.readAll r as = if s.payloadRoom r < (as.flatMap s.readItem).length then (s, refusal Status.tooLarge)
      else (as.foldl State.afterRead s, ⟨Status.ok, as.flatMap s.readItem⟩) := if_neg (by simpa using ⟨h, hl⟩)

theorem readOne_item (s : State) (a : Nat) :
    s.readOne a = (s.afterRead a, ⟨s.readCode a, if s.readCode a = Status.ok then s.readItem a else []⟩) := by
  unfold State.readOne
  by_cases h : s.readCode a = Status.ok
  · rw [if_neg (not_not.2 h), if_pos h, h]
  · rw [if_pos h, if_neg h, State.afterRead, if_pos h]
    rfl

/-! ### The checks of a read (R45) -/

section

variable {s : State} {a : Nat}

theorem readCode_noObject (h : s.indexDefined (addrIndex a) = false) : s.readCode a = Status.noObject := by
  simp [State.readCode, h]

theorem readCode_noSubindex (h : s.indexDefined (addrIndex a) = true) (ho : s.objRow? a = none) : s.readCode a = Status.noSubindex := by
  simp [State.readCode, h, ho]

theorem readCode_row {o : ObjRow} (h : s.indexDefined (addrIndex a) = true) (ho : s.objRow? a = some o) :
    s.readCode a = if o.access = .wo then Status.writeOnly else Status.ok := by
  simp [State.readCode, h, ho]

theorem readItem_refused (h : s.readCode a ≠ Status.ok) : s.readItem a = [0, 0] ++ leBytes 2 (s.readCode a) := if_pos h

/-- A value that is read comes with its type and its length. -/
theorem readItem_value {o : ObjRow} (h : s.readCode a = Status.ok) (ho : s.objRow? a = some o) (hd : o.type ≠ .domain) (hb : rxBufferOf a = none) :
    s.readItem a = [byte (typeCode o.type), 0] ++ leBytes 2 (s.readValue a).length ++ s.readValue a := by
  have hv : s.readBytes a = s.readValue a := by
    unfold State.readBytes
    rw [ho, hb]
    exact if_neg hd
  unfold State.readItem
  rw [if_neg (not_not.2 h), hv, ho]

end

/-! ### Requests answered -/

theorem payloadRoom_counted (s : State) (r : Req) : (s.count Obj.requestsExecuted).payloadRoom r = s.payloadRoom r := by
  unfold State.payloadRoom State.payloadArea State.flag
  rw [(requestOnly_counted s []).num (by decide)]

/-- A request whose action answers with `x` in a state that `u` is. -/
theorem request_answers {s : State} {r : Req} (h : s.Executes r) (command : Nat) (act : State → State × Reply) {u : State} {x : Reply}
    (ha : act (s.count Obj.requestsExecuted) = (u, x)) (hx : x.status < 65536) :
    (s.request r command act).AnswersWith r (s.requestKey r) x.status x.payload ∧ ∀ os, u.RequestOnly (s.request r command act) os := by
  rw [request_eq h, ha]
  exact ⟨answered_answersWith _ s.conduitKey r command x hx, fun os => requestOnly_answered _ _ r command x os⟩

end Sys2Proof.Machine

end

section

namespace Sys2Proof.Machine

/-! ### One write, taken and answered -/

/-- An object that takes a write may be written. -/
theorem writeTaken_settable {s : State} {r : Req} {a : Nat} {v : Bytes} {o : ObjRow} (h : s.WriteTaken r a v) (ho : s.objRow? a = some o) :
    o.access ≠ .ro ∧ o.access ≠ .const := by
  obtain ⟨p, hp, hset⟩ := writeCode_ok_row h.2
  obtain rfl : o = p := Option.some.inj ((counted_row ho).symm.trans hp)
  exact hset

section

variable {s : State} {r : Req} {a : Nat} {v : Bytes} {o : ObjRow} (h : s.WriteTaken r a v) (ho : s.objRow? a = some o) (hw : o.access ≠ .wo)
include h ho hw

/-- An accepted write to a readable object: its effect on the state that has counted the request, and the response with effect and effect tick. -/
theorem writeRequest_accepted : s.writeRequest r a v =
    ((s.count Obj.requestsExecuted).accepted r o a v).answered (s.requestKey r) r Cmd.write
      ⟨Status.ok, writeResponse ((s.count Obj.requestsExecuted).effectOf o a v)⟩ := by
  unfold State.writeRequest
  rw [request_eq h.1, writeOne_accepted (counted_row ho) h.2, accept_readable _ r a v hw]
  rfl

theorem writeRequest_answers : (s.writeRequest r a v).AnswersWith r (s.requestKey r) Status.ok
    (writeResponse ((s.count Obj.requestsExecuted).effectOf o a v)) := by
  rw [writeRequest_accepted h ho hw]
  exact answered_answersWith _ s.conduitKey r Cmd.write _ (show Status.ok < 65536 by decide)

theorem writeRequest_response (os : List Nat) : ((s.count Obj.requestsExecuted).accepted r o a v).RequestOnly (s.writeRequest r a v) os := by
  rw [writeRequest_accepted h ho hw]
  exact requestOnly_answered ..

theorem writeRequest_written : s.Written (s.writeRequest r a v) := by
  exact ((requestOnly_counted s []).written.trans (accepted_written (counted_row ho))).trans (writeRequest_response h ho hw []).written

theorem writeRequest_counts (ha : a ≠ Obj.writesAccepted) : (s.writeRequest r a v).num Obj.writesAccepted = s.counted Obj.writesAccepted 1 := by
  rw [writeRequest_accepted h ho hw, answered_num _ _ _ _ _ (by decide), accepted_counts (counted_row ho) ha, counted_executed (by decide)]

/-- With weft effect the write waits in the queue; but for a test start nothing else moves than its stored value and the count of superseded
writes. -/
theorem writeRequest_waits (he : o.effect = .weft) (ht : isTestMode a = false) :
    let t := s.writeRequest r a v
    t.weftQueue = s.queueWith a v ∧ (o.persistent = true → Assoc.get? t.stored a = some v) ∧
      { s with weftQueue := t.weftQueue, stored := t.stored }.RequestOnly t [Obj.writesSuperseded, overflowAddr Obj.writesSuperseded] := by
  intro t
  have hp := requestOnly_granted s r o a v
  have hrow : ((s.granted r o a v).objRow? a).isSome = true := by
    rw [(hp []).written.objRow?, ho]
    rfl
  have hacc : (s.count Obj.requestsExecuted).accepted r o a v = (s.granted r o a v).holdWrite o a v := by
    unfold State.accepted State.effected
    rw [if_pos he, forward_waits ho _ he]
    rfl
  have hq : (s.granted r o a v).queueWith a v = s.queueWith a v :=
    queueWith_congr (hp []).written.warp_eq (hp []).written.store_eq (by rw [(hp []).rest]) a v
  obtain ⟨honly, hst⟩ := holdWrite_only (o := o) v hrow ht
  have hresp : ∀ os, State.RequestOnly _ t os := writeRequest_response h ho hw
  rw [hacc] at hresp
  have hwq : t.weftQueue = ((s.granted r o a v).holdWrite o a v).weftQueue := by rw [(hresp []).rest]
  have hsto : t.stored = ((s.granted r o a v).holdWrite o a v).stored := by rw [(hresp []).rest]
  rw [hwq, hsto]
  exact ⟨(holdWrite_written o v hrow).2.trans hq, hst, (((hp _).withQueue _ _).trans honly).trans (hresp _)⟩

section

variable (he : o.effect ≠ .weft)
include he

omit h ho hw in
theorem accepted_value (s : State) (r : Req) (v : Bytes) :
    (s.count Obj.requestsExecuted).accepted r o a v = ((s.granted r o a v).putValue o a v).forward o a v := by
  unfold State.accepted State.effected
  rw [if_neg he]
  rfl

/-- With another effect the object takes the value, and its stored value too where it is persistent; the queue stays. -/
theorem writeRequest_sets (hz : o.range ≠ .zero) :
    let t := s.writeRequest r a v
    t.obj a = v ∧ t.weftQueue = s.weftQueue ∧ (isOption a = false → o.persistent = true → Assoc.get? t.stored a = some v) := by
  intro t
  have hresp : ∀ os, State.RequestOnly _ t os := writeRequest_response h ho hw
  obtain ⟨hr, hc⟩ := writeTaken_settable h ho
  have ha := settable_apart ho hr hc hz
  refine ⟨?_, ?_, fun hn hp => ?_⟩
  · rw [(hresp []).objects a fun hm => ha (List.mem_append_right _ hm), accepted_sets _ _ _ he hz ha]
  · have hq : t.weftQueue = ((s.count Obj.requestsExecuted).accepted r o a v).weftQueue := by rw [(hresp []).rest]
    rw [hq, accepted_queue_kept _ _ _ he, State.count_weftQueue]
  · have hs : t.stored = ((s.granted r o a v).putValue o a v).stored := by
      rw [(hresp []).rest, accepted_value he, forward_rest]
    rw [hs, putValue_stores _ v hn hz hp]

/-- An option goes into its record (R428). -/
theorem writeRequest_options (hn : isOption a = true) :
    let t := s.writeRequest r a v
    t.options = s.options.write (optionRecord (s.num Obj.optionSequence + 1)
      ⟨t.flag Obj.optUsbEnable, t.flag Obj.optDebugEnable, t.flag Obj.optResetPin⟩) := by
  intro t
  have hresp : ∀ os, State.RequestOnly _ t os := writeRequest_response h ho hw
  rw [accepted_value he] at hresp
  have hp := requestOnly_granted s r o a v []
  have hf : ∀ q, q ∉ requestObjects → t.flag q = ((s.granted r o a v).putValue o a v).flag q := fun q hq => by
    unfold State.flag State.num
    rw [(hresp []).objects q hq, forward_obj]
  have ho : t.options = ((s.granted r o a v).putValue o a v).options := by rw [(hresp []).rest, forward_rest]
  rw [ho, hf _ (by decide), hf _ (by decide), hf _ (by decide), putValue_options _ o v hn, hp.num (by decide), hp.rest]

/-- A counter is cleared, with its overflow bit (R62). -/
theorem writeRequest_clears (hz : o.range = .zero) (hn : isOption a = false) (ha : a ∉ requestObjects) :
    (s.writeRequest r a v).num a = 0 ∧ (s.writeRequest r a v).overflowed a = false := by
  obtain ⟨hr, hc⟩ := writeTaken_settable h ho
  obtain ⟨h0, hb⟩ := clearCounter_clears (s.granted r o a v) (settable_sub ho hr hc)
  have hacc : ∀ q, ((s.count Obj.requestsExecuted).accepted r o a v).obj q = ((s.granted r o a v).clearCounter a).obj q := fun q => by
    rw [accepted_value he, forward_obj, putValue_counter _ v hn hz]
  refine ⟨?_, ?_⟩
  · rw [(writeRequest_response h ho hw []).num (by simpa using ha), ← h0]
    unfold State.num
    rw [hacc]
  · rw [writeRequest_accepted h ho hw, (unanswered_overflowed ha).answered, ← hb]
    unfold State.overflowed
    rw [hacc]

end

end

end Sys2Proof.Machine

end

section

namespace Sys2Proof.Machine

/-! ### Multiple writes, and reads, answered -/

section

variable {s : State} {r : Req} (hx : s.Executes r)
include hx

/-- What answers without more: a refusal of the whole request. -/
theorem request_refused (command : Nat) {act : State → State × Reply} {code : Nat}
    (ha : act (s.count Obj.requestsExecuted) = (s.count Obj.requestsExecuted, refusal code)) (hc : code < 65536) :
    (s.request r command act).AnswersWith r (s.requestKey r) code [] ∧ s.RequestOnly (s.request r command act) [] := by
  obtain ⟨h1, h2⟩ := request_answers hx command act ha hc
  exact ⟨h1, (requestOnly_counted s []).trans (h2 [])⟩

/-- A multiple write with a failing item names it, counts every item refused, and moves nothing else. -/
theorem writeMulti_refused {items : List (Nat × Bytes)} (h0 : items ≠ []) (hl : items.length ≤ 64) {i c : Nat}
    (hf : (s.count Obj.requestsExecuted).firstFailure r 0 items = some (i, c)) :
    let t := s.request r Cmd.writeMulti fun u => u.writeAll r items
    t.AnswersWith r (s.requestKey r) c [byte i] ∧ s.RequestOnly t [] ∧ t.num Obj.writesRefused = s.counted Obj.writesRefused items.length := by
  have hw := writeAll_refused h0 hl hf
  obtain ⟨h1, h2⟩ := request_answers hx Cmd.writeMulti (fun u => u.writeAll r items) hw (firstFailure_lt hf)
  refine ⟨h1, ((requestOnly_counted s []).count _ (by decide) (by decide)).trans (h2 []), ?_⟩
  rw [request_eq hx, hw, answered_num _ _ _ _ _ (by decide), count_num _ _ (by decide) (by decide), counted_executed (by decide)]

/-- A multiple write without a failing item is accepted whole. -/
theorem writeMulti_accepted {items : List (Nat × Bytes)} (h0 : items ≠ []) (hl : items.length ≤ 64)
    (hf : (s.count Obj.requestsExecuted).firstFailure r 0 items = none) :
    let u := s.count Obj.requestsExecuted
    let t := s.request r Cmd.writeMulti fun u => u.writeAll r items
    t.AnswersWith r (s.requestKey r) Status.ok (u.acceptAll r items).2 ∧
      (∀ os, (u.acceptEach r (u.rowsOf items)).RequestOnly t os) ∧
      t.num Obj.writesAccepted = (u.acceptEach r (u.rowsOf items)).num Obj.writesAccepted := by
  have hw := writeAll_accepted h0 hl hf
  rw [acceptAll_state] at hw
  obtain ⟨h1, h2⟩ := request_answers hx Cmd.writeMulti (fun u => u.writeAll r items) hw (show Status.ok < 65536 by decide)
  refine ⟨h1, h2, ?_⟩
  rw [request_eq hx, hw, answered_num _ _ _ _ _ (by decide)]

/-- Of a multiple write to readable objects, each named once, every item takes its effect. -/
theorem writeMulti_takes {items : List (Nat × Bytes)} (h0 : items ≠ []) (hl : items.length ≤ 64)
    (hf : (s.count Obj.requestsExecuted).firstFailure r 0 items = none)
    (hw : ∀ e ∈ items, ∀ o, s.objRow? e.1 = some o → o.access ≠ .wo) (hn : (items.map (·.1)).Nodup) :
    let t := s.request r Cmd.writeMulti fun u => u.writeAll r items
    (Obj.writesAccepted ∉ items.map (·.1) → t.num Obj.writesAccepted = s.counted Obj.writesAccepted items.length) ∧
      ∀ a v o, (a, v) ∈ items → s.objRow? a = some o →
        (o.effect = .weft → ∃ w ∈ t.weftQueue, w.addr = a ∧ w.value = v) ∧ (o.effect ≠ .weft → o.range ≠ .zero → t.obj a = v) := by
  intro t
  have hrow := fun a => (requestOnly_counted s []).written.objRow? a
  have hrows := firstFailure_none_rows hf
  have hitems := rowsOf_items fun e he => by
    obtain ⟨o, ho, -⟩ := hrows e he
    rw [ho]
    rfl
  have htakes : ∀ x ∈ (s.count Obj.requestsExecuted).rowsOf items, (s.count Obj.requestsExecuted).Takes x := fun x hm => by
    obtain ⟨ho, he⟩ := rowsOf_row hm
    obtain ⟨o, ho', hset⟩ := hrows _ he
    obtain rfl : x.1 = o := Option.some.inj (ho.symm.trans ho')
    exact ⟨ho, hset, hw _ he _ (by rw [← hrow, ho])⟩
  have haddrs : ((s.count Obj.requestsExecuted).rowsOf items).map (·.2.1) = items.map (·.1) := by
    rw [← congrArg (List.map (·.1)) hitems, List.map_map]
    rfl
  obtain ⟨-, ht, hcount⟩ := writeMulti_accepted hx h0 hl hf
  refine ⟨fun hc => ?_, fun a v o hm ho => ?_⟩
  · have hlen : ((s.count Obj.requestsExecuted).rowsOf items).length = items.length := by rw [← congrArg List.length hitems, List.length_map]
    rw [hcount, acceptEach_counts_all htakes (haddrs ▸ hc) (List.ne_nil_of_length_pos (by rw [hlen]; exact List.length_pos_of_ne_nil h0)), hlen,
      counted_executed (by decide)]
  · have hmem := mem_rowsOf hm ((hrow a).trans ho)
    obtain ⟨hq, hv⟩ := acceptEach_takes (r := r) htakes (haddrs ▸ hn) hmem
    refine ⟨fun he => ?_, fun he hz => ?_⟩
    · have htq : t.weftQueue = _ := congrArg State.weftQueue (ht []).rest
      rw [htq]
      exact hq he
    · rw [(ht []).objects a fun hr => (htakes _ hmem).apart hz (List.mem_append_right _ hr)]
      exact hv he hz

/-- One read: the item, or the code of the check that fails. -/
theorem read_answers (a : Nat) :
    let u := s.count Obj.requestsExecuted
    let t := s.request r Cmd.read fun u => u.readOne a
    t.AnswersWith r (s.requestKey r) (u.readCode a) (if u.readCode a = Status.ok then u.readItem a else []) ∧
      s.Reads t ∧ (rxBufferOf a = none → t.can = s.can) := by
  obtain ⟨h1, h2⟩ := request_answers hx Cmd.read (fun u => u.readOne a) (readOne_item _ a) (readCode_lt ..)
  obtain ⟨g1, g2⟩ := afterRead_reads (s.count Obj.requestsExecuted) a
  have hu := requestOnly_counted s damagedObjects
  exact ⟨h1, (hu.reads.trans g1).trans (h2 _).reads, fun hb => (h2 []).can.trans ((g2 hb).trans hu.can)⟩

/-- A multiple read: every item at the instant of the request, where the response has room for them. -/
theorem readMulti_answers {as : List Nat} (h0 : as ≠ []) (hl : as.length ≤ 64) :
    let b := as.flatMap (s.count Obj.requestsExecuted).readItem
    let t := s.request r Cmd.readMulti fun u => u.readAll r as
    (s.payloadRoom r < b.length → t.AnswersWith r (s.requestKey r) Status.tooLarge [] ∧ s.RequestOnly t []) ∧
      (b.length ≤ s.payloadRoom r → t.AnswersWith r (s.requestKey r) Status.ok b ∧ s.Reads t ∧
        ((∀ a ∈ as, rxBufferOf a = none) → t.can = s.can)) := by
  have ha := readAll_items (s.count Obj.requestsExecuted) r h0 hl
  rw [payloadRoom_counted] at ha
  refine ⟨fun hb => ?_, fun hb => ?_⟩
  · rw [if_pos hb] at ha
    exact request_refused hx Cmd.readMulti ha (by decide)
  · rw [if_neg (Nat.not_lt.2 hb)] at ha
    obtain ⟨h1, h2⟩ := request_answers hx Cmd.readMulti (fun u => u.readAll r as) ha (show Status.ok < 65536 by decide)
    obtain ⟨g1, g2⟩ := afterReads_reads as (s.count Obj.requestsExecuted)
    have hu := requestOnly_counted s damagedObjects
    exact ⟨h1, (hu.reads.trans g1).trans (h2 _).reads, fun hn => (h2 []).can.trans ((g2 hn).trans hu.can)⟩

end

end Sys2Proof.Machine

end

section

open Sys2Proof Sys2Proof.Machine

/-- Settles O12: one write effect by effect, then the multiple write by induction on its items, then the reads. -/
theorem acceptedWritesTakeTheirValues : Obligations.AcceptedWritesTakeTheirValues := by
  refine ⟨fun s r addr value o h ho hw => ?_, fun s r hx => ⟨fun items h => ?_, fun items h0 hl => ⟨fun i code hf => ?_, fun hf => ?_⟩,
    fun addrs h => ?_, fun addrs h0 hl => ?_, fun a => ?_, fun a => ?_⟩⟩
  · obtain ⟨hmode, hstore, hkeys, hforce⟩ := (writeRequest_written h ho hw).fields
    refine ⟨_, rfl, rfl, writeRequest_answers h ho hw, writeRequest_counts h ho hw, hmode, hstore, hkeys, hforce, fun he ht => ?_, fun he hz => ?_,
      fun he hz ha hn => writeRequest_clears h ho hw he hz hn ha⟩
    · exact writeRequest_waits h ho hw he (by simpa [isTestMode] using ht)
    · obtain ⟨hv, hq, hp⟩ := writeRequest_sets h ho hw he hz
      exact ⟨hv, hq, hp, writeRequest_options h ho hw he⟩
  · exact ⟨_, rfl, request_refused hx Cmd.writeMulti (writeAll_badHeader _ r (by simpa using h)) (by decide)⟩
  · have hm := writeMulti_refused hx (items := items.map fun e => (e.1.toNat, e.2)) (by simpa using h0) (by simpa using hl) hf
    rw [List.length_map] at hm
    exact ⟨_, rfl, hm⟩
  · have h0' : (items.map fun e => (e.1.toNat, e.2)) ≠ [] := by simpa using h0
    have hl' : (items.map fun e => (e.1.toNat, e.2)).length ≤ 64 := by simpa using hl
    refine ⟨_, rfl, (writeMulti_accepted hx h0' hl' hf).1, fun hw hn => ?_⟩
    have hm := writeMulti_takes hx h0' hl' hf hw hn
    rw [List.length_map] at hm
    exact hm
  · exact ⟨_, rfl, request_refused hx Cmd.readMulti (readAll_badHeader _ r (by simpa using h)) (by decide)⟩
  · have hm := readMulti_answers hx (as := addrs.map (·.toNat)) (by simpa using h0) (by simpa using hl)
    simp only [List.flatMap_map, List.forall_mem_map] at hm
    exact ⟨fun hb => ⟨_, rfl, hm.1 hb⟩, fun hb => ⟨_, rfl, hm.2 hb⟩⟩
  · exact ⟨_, rfl, read_answers hx a.toNat⟩
  · have hc := (requestOnly_counted s []).written
    rw [← indexDefined_congr hc.warp_eq, ← hc.objRow?]
    refine ⟨readCode_noObject, readCode_noSubindex, fun o hi ho => ⟨fun hw => ?_, fun hw => ?_⟩, readItem_refused⟩
    · rw [readCode_row hi ho, if_pos hw]
    · have hok := (readCode_row hi ho).trans (if_neg hw)
      exact ⟨hok, readItem_value hok ho⟩

end

section
namespace Sys2Proof.Machine

/-! ### A response at the service port (R73), and the bytes of a packet -/

theorem leNat_lt (b : Bytes) : leNat b < 256 ^ b.length := by
  induction b with
  | nil => simp [leNat]
  | cons x b ih =>
    have hx := x.isLt
    rw [leNat, List.length_cons, Nat.pow_succ']
    omega

theorem leNat_slice_lt (b : Bytes) (o n : Nat) : leNat (slice b o n) < 256 ^ n :=
  lt_of_lt_of_le (leNat_lt _) (Nat.pow_le_pow_right (by decide) (by simp [slice]))

theorem u16At_lt (b : Bytes) (o : Nat) : u16At b o < 65536 := leNat_slice_lt b o 2
theorem u32At_lt (b : Bytes) (o : Nat) : u32At b o < 2 ^ 32 := leNat_slice_lt b o 4

theorem slice_drop (b : Bytes) (i o n : Nat) : slice (b.drop i) o n = slice b (i + o) n := by
  rw [slice, slice, List.drop_drop]

theorem usbHead_congr {s t : State} (hm : t.obj Obj.usbMac = s.obj Obj.usbMac) (hf : t.inForce = s.inForce) (r : Req) (b : Bytes) :
    t.usbHead r b = s.usbHead r b := by
  unfold State.usbHead State.started
  rw [hm, hf]

/-- A response over USB leaves the service port, and moves neither a sequence record nor a stored value. -/
theorem respond_usb {r : Req} (hi : r.iface = .usb) (s : State) (key : Option Bytes) (command : Nat) (x : Reply) :
    let p := s.respond key r command x
    p.1.out = s.out ++ [⟨.clp, 2, r.ip * 65536 + r.port, p.2, some (s.usbHead r p.2)⟩] ∧ p.1.clp.seqs = s.clp.seqs ∧ p.1.stored = s.stored := by
  intro p
  have hu : ∀ u : State, u.obj Obj.usbMac = s.obj Obj.usbMac → u.inForce = s.inForce → u.out = s.out → u.clp.seqs = s.clp.seqs →
      u.stored = s.stored → ∀ b, let t := u.countPacket.sendTo r b
        t.out = s.out ++ [⟨.clp, 2, r.ip * 65536 + r.port, b, some (s.usbHead r b)⟩] ∧ t.clp.seqs = s.clp.seqs ∧ t.stored = s.stored :=
    fun u hm hf ho hc hs b => by
      rw [State.sendTo, if_pos hi, usbHead_congr (t := u.countPacket) hm hf]
      exact ⟨by rw [← ho]; rfl, hc, hs⟩
  dsimp only [p]
  unfold State.respond
  dsimp only
  split
  · exact hu _ (count_obj _ _ (by decide) (by decide) (by decide)) (by simp) (by simp) (by simp) (by simp) _
  · exact hu _ rfl rfl rfl rfl rfl _


/-! ### The steps of Table 3-4 at the service port -/

theorem usbPacket_atStep3 {s : State} {d : Datagram} (h : s.AtStep3 d) : exec (.clpPacketReceive d) s = .next (s.takePacket d false) := by
  obtain ⟨hu, hs, ho, he, hsrc, hdst, hp, hc⟩ := h
  show Host.Outcome.next (if d.usb then s.usbPacket d else _) = _
  rw [if_pos hu]
  unfold State.usbPacket
  simp [hs, ho, he, hsrc, hdst, hp, hc]

theorem takePacket_noMagic {s : State} {d : Datagram} (atPd : Bool) (h : u32At d.data 0 ≠ 0x39504C43) :
    s.takePacket d atPd = s.count Obj.badHeader := by
  unfold State.takePacket
  simp [h]

section

variable {s : State} {d : Datagram} (hl : 32 ≤ d.data.length) (hm : u32At d.data 0 = 0x39504C43)
  (hd : s.destinationOk d.usb (u8At d.data 5) (u16At d.data 12) = true) (h0 : bit (u16At d.data 6) 0 = false) (atPd : Bool)
include hl hm hd h0

theorem takePacket_ok (hc : s.headerCode d.usb d.data = Status.ok) : s.takePacket d atPd = s.takeAuth (requestOf d) atPd d.data := by
  unfold State.takePacket
  have hl' : ¬ d.data.length < 32 := by omega
  simp [hl', hm, hd, h0, hc]

/-- A request that fails one of steps 5 to 8 is answered with the code, and nothing of its authentication is looked at. -/
theorem takePacket_refused (h4 : bit (u16At d.data 6) 4 = false) (hc : s.headerCode d.usb d.data ≠ Status.ok) :
    s.takePacket d atPd =
      (s.respond none { requestOf d with auth := none, encrypt := false } (u8At d.data 5) (refusal (s.headerCode d.usb d.data))).1 := by
  unfold State.takePacket
  have hl' : ¬ d.data.length < 32 := by omega
  have hc' : ¬ s.headerCode d.usb d.data = 0 := hc
  simp [hl', hm, hd, h0, h4, hc']

end

theorem headerCode_lt (s : State) (usb : Bool) (w : Bytes) : s.headerCode usb w < 65536 := by
  unfold State.headerCode
  dsimp only
  (repeat' split) <;> decide

/-- A packet whose header passes is as long as its header says (step 7). -/
theorem length_of_headerCode {s : State} {usb : Bool} {w : Bytes} (h : s.headerCode usb w = Status.ok) (h1 : bit (u16At w 6) 1 = false) :
    w.length = 32 + u16At w 16 := by
  unfold State.headerCode at h
  dsimp only at h
  by_contra hl
  split at h
  · exact absurd h (by decide)
  split at h
  · exact absurd h (by decide)
  rw [if_pos (by simpa [h1] using hl)] at h
  exact absurd h (by decide)

theorem takeAuth_noKey {s : State} {r : Req} {slot : Nat} (ha : r.auth = some slot) (hk : s.conduitKey slot = none) (atPd : Bool) (w : Bytes) :
    s.takeAuth r atPd w = s.count Obj.authFailures := by
  unfold State.takeAuth
  simp [ha, hk]

theorem takeAuth_open {s : State} {r : Req} (ha : r.auth = none) {w : Bytes} (h4 : bit (u16At w 6) 4 = false)
    (hd : s.authDemand (decide (r.iface = .usb)) false r.encrypt = true) :
    s.takeAuth r false w = s.takeRequest r (u8At w 5) (slice w 32 (u16At w 16)) := by
  unfold State.takeAuth State.takeVerified
  simp [ha, h4, hd]

/-- A request at the service port without authentication comes to step 11 with what follows its header. -/
theorem usbRequest_taken {s : State} {d : Datagram} (h : s.UsbRequest d) :
    exec (.clpPacketReceive d) s = .next (s.takeRequest (requestOf d) (u8At d.data 5) (d.data.drop 32)) ∧
      (requestOf d).iface = .usb ∧ (requestOf d).auth = none := by
  obtain ⟨hu, ⟨hs, ho⟩, ⟨he, hsrc, hdst, hp, hc⟩, ⟨hl, hm⟩, hdest, ⟨h0, h1, h4⟩, hh, hdem⟩ := h
  have hi : (requestOf d).iface = .usb := if_pos hu
  have ha : (requestOf d).auth = none := if_neg (by simp [h1])
  refine ⟨?_, hi, ha⟩
  have hdemand : s.authDemand (decide ((requestOf d).iface = .usb)) false (requestOf d).encrypt = true := by
    simp [State.authDemand, hi, hdem]
  have hbody : slice d.data 32 (u16At d.data 16) = d.data.drop 32 := by
    have hn := length_of_headerCode hh h1
    rw [slice, List.take_of_length_le (by rw [List.length_drop]; omega)]
  rw [usbPacket_atStep3 ⟨hu, hs, ho, he, hsrc, hdst, hp, hc⟩, takePacket_ok hl hm (by rw [hu]; exact hdest) h0 _ (by rw [hu]; exact hh),
    takeAuth_open ha h4 hdemand, hbody]

theorem node_usb {r : Req} (h : r.iface = .usb) : Req.node r = 0xFFFF := if_pos h

section

variable {s : State} {r : Req} (command : Nat) (b : Bytes)

theorem takeRequest_new (h : s.seqRecord (Req.node r) = none) : s.takeRequest r command b = s.dispatch r command b := by
  unfold State.takeRequest
  rw [h]

theorem takeRequest_identify (s : State) (r : Req) : s.takeRequest r Cmd.identify b = s.identify r b := by
  unfold State.takeRequest
  cases s.seqRecord (Req.node r) <;> rfl

variable {command}

theorem takeRequest_cached {x : SeqRecord} {e : Nat × Bytes} (h : s.seqRecord (Req.node r) = some x) (hc : command ≠ Cmd.identify)
    (hf : (x.cache.find? fun e => decide (e.1 = r.seq)) = some e) (he : e.2 ≠ []) : s.takeRequest r command b = s.sendTo r e.2 := by
  unfold State.takeRequest
  simp [h, hc, hf, he]

theorem takeRequest_old {x : SeqRecord} (h : s.seqRecord (Req.node r) = some x) (hc : command ≠ Cmd.identify)
    (hf : (x.cache.find? fun e => decide (e.1 = r.seq)) = none) (hn : newer16 r.seq x.newest = false) :
    s.takeRequest r command b =
      ((s.count Obj.sequenceRefused).respond (r.auth.bind s.conduitKey) r command ⟨Status.sequence, leBytes 2 x.newest⟩).1 := by
  unfold State.takeRequest
  simp [h, hc, hf, hn]

end

theorem dispatch_read {b : Bytes} (h : b.length = 4) (s : State) (r : Req) :
    s.dispatch r Cmd.read b = s.request r Cmd.read fun s => s.readOne (u32At b 0) := by
  show s.objectCommand r Cmd.read b = _
  unfold State.objectCommand
  simp [h]

theorem dispatch_write {b : Bytes} (hl : 8 ≤ b.length) (h : b.length = 8 + u16At b 4) (h0 : u16At b 6 = 0) (s : State) (r : Req) :
    s.dispatch r Cmd.write b = s.writeRequest r (u32At b 0) (b.drop 8) := by
  show s.objectCommand r Cmd.write b = _
  unfold State.objectCommand
  have hlt : ¬ b.length < 8 := by omega
  simp [← h, hl, h0]

/-! ### A request at the service port, taken to its command -/

section

variable {s : State} {d : Datagram} (h : s.UsbRequest d)
include h

theorem usbRequest_identify (hl : d.data.length = 32) (hc : u8At d.data 5 = Cmd.identify) :
    exec (.clpPacketReceive d) s = exec (.identify (requestOf d)) s := by
  have hb : d.data.drop 32 = [] := List.drop_eq_nil_of_le hl.le
  rw [(usbRequest_taken h).1, hc, takeRequest_identify, hb]
  rfl

theorem usbRequest_read (hx : s.seqRecord (Req.node (requestOf d)) = none) (hc : u8At d.data 5 = Cmd.read) (hl : d.data.length = 36) :
    exec (.clpPacketReceive d) s = exec (.read (requestOf d) (BitVec.ofNat 32 (u32At d.data 32))) s := by
  have hb : (d.data.drop 32).length = 4 := by rw [List.length_drop, hl]
  have ha : (BitVec.ofNat 32 (u32At d.data 32)).toNat = u32At d.data 32 := by rw [BitVec.toNat_ofNat, Nat.mod_eq_of_lt (u32At_lt ..)]
  show _ = Host.Outcome.next (s.request (requestOf d) Cmd.read fun s => s.readOne (BitVec.ofNat 32 (u32At d.data 32)).toNat)
  rw [(usbRequest_taken h).1, takeRequest_new _ _ hx, hc, dispatch_read hb, ha, u32At, slice_drop]
  rfl

theorem usbRequest_write (hx : s.seqRecord (Req.node (requestOf d)) = none) (hc : u8At d.data 5 = Cmd.write)
    (hl : d.data.length = 40 + u16At d.data 36) (h0 : u16At d.data 38 = 0) :
    exec (.clpPacketReceive d) s = exec (.write (requestOf d) (BitVec.ofNat 32 (u32At d.data 32)) (d.data.drop 40)) s := by
  have hb : (d.data.drop 32).length = 8 + u16At (d.data.drop 32) 4 := by
    rw [List.length_drop, u16At, slice_drop]
    exact (by omega : d.data.length - 32 = 8 + u16At d.data 36)
  have hv : (d.data.drop 32).drop 8 = d.data.drop 40 := List.drop_drop
  have ha : (BitVec.ofNat 32 (u32At d.data 32)).toNat = u32At d.data 32 := by rw [BitVec.toNat_ofNat, Nat.mod_eq_of_lt (u32At_lt ..)]
  show _ = Host.Outcome.next (s.writeRequest (requestOf d) (BitVec.ofNat 32 (u32At d.data 32)).toNat (d.data.drop 40))
  rw [(usbRequest_taken h).1, takeRequest_new _ _ hx, hc, dispatch_write (by omega) hb (by rw [u16At, slice_drop]; exact h0), hv, ha, u32At, slice_drop]
  rfl

theorem usbRequest_repeated {x : SeqRecord} {e : Nat × Bytes} (hx : s.seqRecord (Req.node (requestOf d)) = some x)
    (hc : u8At d.data 5 ≠ Cmd.identify) (hf : (x.cache.find? fun e => decide (e.1 = (requestOf d).seq)) = some e) (he : e.2 ≠ []) :
    exec (.clpPacketReceive d) s = .next { s with out := s.out ++
      [⟨.clp, 2, (requestOf d).ip * 65536 + (requestOf d).port, e.2, some (s.usbHead (requestOf d) e.2)⟩] } := by
  obtain ⟨ht, hi, -⟩ := usbRequest_taken h
  rw [ht, takeRequest_cached _ hx hc hf he, State.sendTo, if_pos hi]

/-- An old SEQUENCE is counted and refused, and the record of the source stands (R74). -/
theorem usbRequest_old {x : SeqRecord} (hx : s.seqRecord (Req.node (requestOf d)) = some x) (hc : u8At d.data 5 ≠ Cmd.identify)
    (hf : (x.cache.find? fun e => decide (e.1 = (requestOf d).seq)) = none) (hn : newer16 (requestOf d).seq x.newest = false) :
    ∃ t b, exec (.clpPacketReceive d) s = .next t ∧ t.num Obj.sequenceRefused = s.counted Obj.sequenceRefused 1 ∧
      t.out = s.out ++ [⟨.clp, 2, (requestOf d).ip * 65536 + (requestOf d).port, b, some (s.usbHead (requestOf d) b)⟩] ∧
      u16At b 14 = Status.sequence ∧ t.clp.seqs = s.clp.seqs ∧ t.stored = s.stored := by
  obtain ⟨ht, hi, -⟩ := usbRequest_taken h
  have hp := respond_usb hi (s.count Obj.sequenceRefused) ((requestOf d).auth.bind s.conduitKey) (u8At d.data 5) ⟨Status.sequence, leBytes 2 x.newest⟩
  have hr := requestOnly_respond (s.count Obj.sequenceRefused) ((requestOf d).auth.bind s.conduitKey) (requestOf d) (u8At d.data 5)
    ⟨Status.sequence, leBytes 2 x.newest⟩ []
  have hb := respond_bytes (s.count Obj.sequenceRefused) ((requestOf d).auth.bind s.conduitKey) (requestOf d) (u8At d.data 5)
    ⟨Status.sequence, leBytes 2 x.newest⟩ (by decide : Status.sequence < 65536)
  obtain ⟨ho, hq, hst⟩ := hp
  rw [usbHead_congr (count_obj _ _ (by decide) (by decide) (by decide)) (by simp), State.count_out] at ho
  exact ⟨_, _, ht.trans (by rw [takeRequest_old _ hx hc hf hn]), (hr.num (by decide)).trans (count_num _ _ (by decide) (by decide)), ho, hb.2,
    hq.trans (by simp), hst.trans (by simp)⟩

end

end Sys2Proof.Machine
end

section

open Sys2Proof Sys2Proof.Machine

/-- Settles O17: the steps of Table 3-4 in their order; a request that reaches step 11 is cached, refused or dispatched. -/
theorem packetsAreScreened : Obligations.PacketsAreScreened := by
  intro s d w r
  refine ⟨fun hs h => ?_, fun h3 hm => ?_, fun h3 hl hm hd h0 h4 hc => ?_, fun slot h3 hl hm hd h0 hc ha hk => ?_, fun hr => ?_⟩
  · show Host.Outcome.next (if d.usb then s.usbPacket d else _) = _
    split
    · simp [State.usbPacket, hs]
    · rename_i hu
      rw [h.resolve_left hu]
      simp [State.netPacket, State.netServes, hs]
  · exact ⟨_, (usbPacket_atStep3 h3).trans (by rw [takePacket_noMagic _ hm]), count_num _ _ (by decide) (by decide), count_rest ..⟩
  · have hu := h3.1
    obtain ⟨ho, hq, hst⟩ := respond_usb (r := { r with auth := none, encrypt := false }) (if_pos hu) s none (u8At w 5) (refusal (s.headerCode true w))
    obtain ⟨h8, h14⟩ := respond_bytes s none { r with auth := none, encrypt := false } (u8At w 5) (refusal (s.headerCode true w)) (headerCode_lt ..)
    refine ⟨_, _, (usbPacket_atStep3 h3).trans ?_, ho, h14, h8.trans (Nat.mod_eq_of_lt (u16At_lt ..)), hq, hst⟩
    rw [takePacket_refused hl hm (by rw [hu]; exact hd) h0 _ h4 (by rw [hu]; exact hc), hu]
  · have hu := h3.1
    refine ⟨_, (usbPacket_atStep3 h3).trans ?_, count_num _ _ (by decide) (by decide), count_rest ..⟩
    rw [takePacket_ok hl hm (by rw [hu]; exact hd) h0 _ (by rw [hu]; exact hc), takeAuth_noKey ha hk]
  · have hnode : Req.node r = 0xFFFF := node_usb (usbRequest_taken hr).2.1
    rw [← hnode]
    exact ⟨fun x e hx hc hf hb => usbRequest_repeated hr hx hc hf hb, fun x hx hc hf hn => usbRequest_old hr hx hc hf hn,
      fun hl hc => usbRequest_identify hr hl hc, fun hx hc hl => usbRequest_read hr hx hc hl,
      fun hx hc _ hl h0 => usbRequest_write hr hx hc hl h0⟩

end


section

namespace Sys2Proof.Machine

/-! ### Transfer IDs (R84): 16 bits, so a state in which every ID is open leaves none -/

theorem freeId_lt (used : List Nat) (n : Nat) : freeId used n < 65536 := by
  unfold freeId
  cases hf : ((List.range (used.length + 1)).map fun i => (n + i) % 65536).find? fun i => !used.contains i with
  | none => decide
  | some i =>
    obtain ⟨j, -, rfl⟩ := List.mem_map.1 (List.mem_of_find?_eq_some hf)
    exact Nat.mod_lt _ (by decide)

/-- What a DOMAIN_READ_BEGIN that is taken opens: a transfer whose ID has 16 bits. -/
theorem domainCopy_opens {s : State} {r : Req} {a : Nat} (hc : s.domainCode a = Status.ok) (hn : (s.clp.transfers.filter fun x => !x.write).length < 2)
    (ha : a ≠ Obj.tallyExport) :
    ∃ n content, n < 65536 ∧
      (s.domainCopy r a).1.clp.transfers = s.clp.transfers ++ [⟨n, false, Req.node r, a, content.length, crc32c content, content⟩] := by
  unfold State.domainCopy
  have hn' : ¬ 2 ≤ (s.clp.transfers.filter fun t => !t.write).length := by omega
  simp only [hc, ne_eq, not_true_eq_false, if_false, hn', ha]
  exact ⟨_, _, freeId_lt _ _, rfl⟩

/-- A module in SERVICE with these transfers open. -/
def openTransfers (ts : List Transfer) : State :=
  { State.reset with mode := .service, rst := { resetBlock0 with episode := none }, clp := { blankClp with transfers := ts } }

/-- A write transfer under each of the IDs below a bound. -/
def writesBelow (n : Nat) : List Transfer := (List.range n).map fun i => ⟨i, true, 0, 0, 0, 0, []⟩

/-- A request over USB without authentication. -/
def serviceRequest : Req := ⟨.usb, 5, 7, 0, 0, 0, 0, none, false, true, false⟩

theorem openTransfers_executes (ts : List Transfer) : (openTransfers ts).Executes serviceRequest := ⟨rfl, rfl⟩

theorem writesBelow_id {n k : Nat} (h : k < n) : ∃ x ∈ writesBelow n, x.id = k := ⟨_, List.mem_map_of_mem (List.mem_range.2 h), rfl⟩

theorem writesBelow_reads (n : Nat) : ((writesBelow n).filter fun x => !x.write) = [] :=
  List.filter_eq_nil_iff.2 fun x hx => by
    obtain ⟨i, -, rfl⟩ := List.mem_map.1 hx
    simp

theorem domainCode_warpBankB (s : State) : s.domainCode Obj.warpBankB = Status.ok := by
  have hix : isPointIx (addrIndex Obj.warpBankB) = false ∧ isLoopIx (addrIndex Obj.warpBankB) = false ∧
      isGainIx (addrIndex Obj.warpBankB) = false ∧ isGroupIx (addrIndex Obj.warpBankB) = false := by decide
  obtain ⟨hp, hl, hg, hr⟩ := hix
  have hi : s.indexDefined (addrIndex Obj.warpBankB) = true := by
    rw [State.indexDefined, hp, hl, hg, hr]
    exact (by decide : fixedIndex (addrIndex Obj.warpBankB) = true)
  unfold State.domainCode
  rw [objRow?_fixed s (by decide), hi]
  decide

/-- A read transfer that is taken opens under an ID of 16 bits. -/
theorem readBegin_opens {ts : List Transfer} (hr : (ts.filter fun x => !x.write) = []) {t : State}
    (ht : exec (.domainReadBegin serviceRequest (BitVec.ofNat 32 Obj.warpBankB)) (openTransfers ts) = .next t) :
    ∃ x : Transfer, x.id < 65536 ∧ t.clp.transfers = ts ++ [x] := by
  let u := (openTransfers ts).count Obj.requestsExecuted
  have hts : u.clp.transfers = ts := by rw [State.count_clp]; rfl
  obtain ⟨k, b, hk, hb⟩ := domainCopy_opens (s := u) (r := serviceRequest) (domainCode_warpBankB u) (by rw [hts, hr]; decide)
    (by decide : Obj.warpBankB ≠ Obj.tallyExport)
  have hstate : t = (u.domainCopy serviceRequest Obj.warpBankB).1.answered (serviceRequest.auth.bind (openTransfers ts).conduitKey) serviceRequest
      Cmd.readBegin (u.domainCopy serviceRequest Obj.warpBankB).2 :=
    (Host.Outcome.next.inj ht).symm.trans (request_eq (openTransfers_executes ts) ..)
  have hclp := (requestOnly_answered (u.domainCopy serviceRequest Obj.warpBankB).1 (serviceRequest.auth.bind (openTransfers ts).conduitKey) serviceRequest
    Cmd.readBegin (u.domainCopy serviceRequest Obj.warpBankB).2 []).clp
  rw [← hstate] at hclp
  exact ⟨_, hk, by rw [hclp]; exact hb.trans (by rw [hts])⟩

end Sys2Proof.Machine

end

section

open Sys2Proof Sys2Proof.Machine

/-- Refutes O18: with 65536 write transfers open, which no bound of the statement excludes and R84's limit of four does, DOMAIN_READ_BEGIN finds no
free ID and takes one that is in use, where the statement has it differ from those of all open transfers. -/
theorem not_sessionsAndTransfers : ¬ Obligations.SessionsAndTransfers := by
  intro h
  obtain ⟨ts, hall, hreads⟩ : ∃ ts, (∀ n < 65536, ∃ x ∈ ts, x.id = n) ∧ (ts.filter fun x : Transfer => !x.write) = [] :=
    ⟨writesBelow 65536, fun _ hn => writesBelow_id hn, writesBelow_reads _⟩
  obtain ⟨-, -, -, -, hread, -⟩ := h.2 (openTransfers ts) serviceRequest (BitVec.ofNat 32 Obj.warpBankB) 0 0 0 0 0 [] (openTransfers_executes ts)
  obtain ⟨t, n, ht, -, hfree, honly⟩ := hread (domainCode_warpBankB _) (by rw [show (openTransfers ts).clp.transfers = ts from rfl, hreads]; decide)
  obtain ⟨x, hx, hts⟩ := readBegin_opens hreads ht
  have hid : x.id = n := by
    have hn := hts.symm.trans (congrArg Clp.transfers honly.clp)
    exact congrArg Transfer.id (List.singleton_inj.1 (List.append_cancel_left hn))
  obtain ⟨y, hy, hyn⟩ := hall x.id hx
  exact hfree y hy (hyn.trans hid)

end


section

namespace Sys2Proof.Machine

/-! ### What a frame's sending moves (R287) -/

/-- The counters that sending on the network may move, with their overflow objects and the tallies of an overflow. -/
def sendingObjects : List Nat := [Obj.txFrames 0, Obj.txFrames 1] ++ [Obj.txFrames 0, Obj.txFrames 1].map overflowAddr ++ tallyObjects

/-- Between `s` and `t` frames left on the network: what left, the numbers of the frames, and the counters of the ports moved. -/
structure State.Sends (s t : State) : Prop where
  objects : s.SameObjects t sendingObjects
  prp : t.prp = { s.prp with moduleSeq := t.prp.moduleSeq, stationSeq := t.prp.stationSeq }
  rest : t = { s with dict := t.dict, tally := t.tally, out := t.out, prp := t.prp }

theorem State.Sends.refl (s : State) : s.Sends s := ⟨fun _ _ => rfl, rfl, rfl⟩

section

variable {s t u : State}

theorem State.Sends.trans (h : s.Sends t) (k : t.Sends u) : s.Sends u :=
  ⟨fun a ha => (k.objects a ha).trans (h.objects a ha), by rw [k.prp, h.prp], by rw [k.rest, h.rest]⟩

theorem State.Sends.num (h : s.Sends t) {a : Nat} (ha : a ∉ sendingObjects) : t.num a = s.num a := by
  unfold State.num
  rw [h.objects a ha]

end

theorem sends_sendOn (s : State) {k : Nat} (hk : k = 0 ∨ k = 1) (kind : SentKind) (peer seq : Nat) (head : NetHead) (data : Bytes) :
    s.Sends (s.sendOn k kind peer seq head data) := by
  unfold State.sendOn
  split
  · exact .refl s
  · have hk : Obj.txFrames k ∈ sendingObjects ∧ overflowAddr (Obj.txFrames k) ∈ sendingObjects := by rcases hk with rfl | rfl <;> decide
    refine ⟨fun a ha => ?_, by simp, by rw [count_rest]⟩
    have h1 : a ≠ Obj.txFrames k := fun e => ha (e ▸ hk.1)
    have h2 : a ≠ overflowAddr (Obj.txFrames k) := fun e => ha (e ▸ hk.2)
    rw [count_obj _ _ h1 h2 fun hm => ha (List.mem_append_right _ hm)]
    rfl

/-- The state in which the number of a frame has been taken. -/
theorem sends_takePrpSeq (s : State) (station : Bool) : s.Sends (s.takePrpSeq station).2 := by
  unfold State.takePrpSeq
  dsimp only
  split <;> exact ⟨fun _ _ => rfl, rfl, rfl⟩

section

variable (kind : SentKind) (peer : Nat)

/-- The part of a frame's sending that one port has. -/
def State.sendCarried (s : State) (k seq : Nat) (head : NetHead) (data : Bytes) : State :=
  if s.portCarries kind k then s.sendOn k kind peer seq head data else s

theorem prpSend_eq (s : State) (station : Bool) (head : NetHead) (data : Bytes) :
    s.prpSend kind peer station head data =
      ((s.takePrpSeq station).2.sendCarried kind peer 0 (s.takePrpSeq station).1 head data).sendCarried kind peer 1 (s.takePrpSeq station).1 head data :=
  rfl

theorem sends_sendCarried (s : State) {k : Nat} (hk : k = 0 ∨ k = 1) (seq : Nat) (head : NetHead) (data : Bytes) :
    s.Sends (s.sendCarried kind peer k seq head data) := by
  unfold State.sendCarried
  split
  · exact sends_sendOn s hk ..
  · exact .refl s

theorem sends_prpSend (s : State) (station : Bool) (head : NetHead) (data : Bytes) : s.Sends (s.prpSend kind peer station head data) := by
  rw [prpSend_eq]
  exact ((sends_takePrpSeq s station).trans (sends_sendCarried _ _ _ (.inl rfl) ..)).trans (sends_sendCarried _ _ _ (.inr rfl) ..)

end

/-! ### A value hangs on the objects alone -/

section

variable {s t : State} (h : t.dict = s.dict)
include h

theorem obj_of_dict (a : Nat) : t.obj a = s.obj a := by
  unfold State.obj
  rw [h]

theorem num_of_dict (a : Nat) : t.num a = s.num a := by
  unfold State.num
  rw [obj_of_dict h]

theorem counted_of_dict (a n : Nat) : t.counted a n = s.counted a n := by
  unfold State.counted
  rw [num_of_dict h]

end

/-! ### Addresses hang on what the last start latched and on the module's node (R68, R70) -/

section

variable {s t : State} (hf : t.inForce = s.inForce) (hn : t.num Obj.moduleNode = s.num Obj.moduleNode)
include hf hn

theorem ownIp_congr : t.ownIp = s.ownIp := by
  unfold State.ownIp State.addrValue State.startedObj State.started
  rw [hf, hn]

theorem nextHop_congr (ip : Nat) : t.nextHop ip = s.nextHop ip := by
  unfold State.nextHop State.startedObj
  rw [hf, ownIp_congr hf hn]

end

/-! ### Where a frame leaves (R143, R287, R288) -/

/-- Rates and paths of the ports are those of another state. -/
structure State.SamePorts (s t : State) : Prop where
  rates : t.prp.rates = s.prp.rates
  lost : t.prp.lost = s.prp.lost
  warp : t.warp = s.warp

theorem State.Sends.ports {s t : State} (h : s.Sends t) : s.SamePorts t := ⟨by rw [h.prp], by rw [h.prp], by rw [h.rest]⟩

section

variable {s t : State}

theorem State.SamePorts.portRate (h : s.SamePorts t) (k : Nat) : t.portRate k = s.portRate k := by
  unfold State.portRate
  rw [h.rates]

theorem rateLow_congr (h : t.warp = s.warp) (rate : Nat) : t.rateLow rate = s.rateLow rate := by
  unfold State.rateLow State.sections
  rw [h]

theorem State.SamePorts.portCarries (h : s.SamePorts t) (kind : SentKind) (k : Nat) : t.portCarries kind k = s.portCarries kind k := by
  unfold State.portCarries
  rw [h.portRate, rateLow_congr h.warp, h.lost]

/-- What a port carries of a frame: its copy with its trailer, on a port that has a link. -/
theorem sendCarried_out (s : State) (kind : SentKind) (peer k seq : Nat) (head : NetHead) (data : Bytes) :
    (s.sendCarried kind peer k seq head data).out = s.out ++ if s.portCarries kind k = true ∧ s.portRate k ≠ 0 then
      [(⟨kind, k, peer, data ++ rctBytes seq k (head.layers + data.length + 6), some head⟩ : Sent)] else [] := by
  unfold State.sendCarried State.sendOn
  split
  · rename_i hc
    split
    · rename_i hr
      simp [hr]
    · rename_i hr
      simp [hc, hr]
  · rename_i hc
    simp [hc]

/-- A frame leaves on each port that is up and carries its kind. -/
theorem prpSend_leaves (s : State) (kind : SentKind) (peer : Nat) (station : Bool) (head : NetHead) (data : Bytes) :
    s.LeavesOnPorts (s.prpSend kind peer station head data) kind peer data := by
  have hseq := (sends_takePrpSeq s station)
  have hout : (s.takePrpSeq station).2.out = s.out := by
    unfold State.takePrpSeq
    dsimp only
    split <;> rfl
  have h0 := hseq.ports
  have h1 := (hseq.trans (sends_sendCarried kind peer _ (.inl rfl) (s.takePrpSeq station).1 head data)).ports
  rw [prpSend_eq]
  refine ⟨(s.takePrpSeq station).1, head, _, by rw [sendCarried_out, sendCarried_out, hout, List.append_assoc], fun m hm => ?_, fun k hk hr hc => ?_⟩
  · rw [List.mem_append] at hm
    rcases hm with hm | hm
    all_goals
      split at hm
      · rw [List.mem_singleton] at hm
        rw [hm]
        exact ⟨rfl, rfl⟩
      · cases hm
  · obtain rfl | rfl : k = 0 ∨ k = 1 := by omega
    · exact List.mem_append_left _ (by rw [if_pos ⟨h0.portCarries kind 0 ▸ hc, h0.portRate 0 ▸ hr⟩]; exact List.mem_singleton.2 rfl)
    · exact List.mem_append_right _ (by rw [if_pos ⟨h1.portCarries kind 1 ▸ hc, h1.portRate 1 ▸ hr⟩]; exact List.mem_singleton.2 rfl)

theorem udpSend_leaves (s : State) (kind : SentKind) (ip sport dport : Nat) (station : Bool) (data : Bytes) :
    s.LeavesOnPorts (s.udpSend kind ip sport dport station data) kind (ip * 65536 + dport) data := prpSend_leaves ..

theorem sends_udpSend (s : State) (kind : SentKind) (ip sport dport : Nat) (station : Bool) (data : Bytes) :
    s.Sends (s.udpSend kind ip sport dport station data) := sends_prpSend ..

/-- The frames left between two states, and so between two others with the same ports and the same record of what left. -/
theorem State.LeavesOnPorts.congr {s' t' : State} {kind : SentKind} {peer : Nat} {data : Bytes} (h : s'.LeavesOnPorts t' kind peer data)
    (hp : s.SamePorts s') (hs : s'.out = s.out) (ht : t'.out = t.out) : s.LeavesOnPorts t kind peer data := by
  obtain ⟨seq, head, more, hout, hkind, hm⟩ := h
  exact ⟨seq, head, more, by rw [← ht, hout, hs], hkind, fun k hk hr hc => hm k hk (by rwa [hp.portRate]) (by rwa [hp.portCarries])⟩

end

end Sys2Proof.Machine

end


section

namespace Sys2Proof.Machine

/-! ### Process data received (R86) -/

/-- The conditions under which a packet of layout `l`, the `k`-th received one, waits for its cut-off (R86, R87). -/
def State.pdAccepts (s : State) (l : PdLayout) (k source ip : Nat) (auth : Option Nat) (enc : Bool) (seq : Nat) (payload : Bytes) : Prop :=
  s.mode.running = true ∧ l.peerNode = source ∧ l.peerIp = ip ∧ payload.length = 12 + l.bodyLength ∧ layoutAuthOk l auth enc = true ∧
    s.pdSequenceOk l (Assoc.get? s.pd.rx k) seq = true

/-- The newest packet of a layout waits. -/
def State.pdHeld (s : State) (k seq : Nat) (payload : Bytes) : State :=
  { s with pd := { s.pd with rx := Assoc.set s.pd.rx k ⟨seq, s.tick, some (seq, payload)⟩ } }

section

variable {s : State} {source ip : Nat} {auth : Option Nat} {enc : Bool} {seq : Nat} {payload : Bytes} {l : PdLayout} {k : Nat}
  (hf : ((rxLayouts s.sections).zipIdx.find? fun e => decide (e.1.id = u16At payload 0)) = some (l, k))
include hf

theorem receivePd_accepted (h : s.pdAccepts l k source ip auth enc seq payload) :
    s.receivePd source ip auth enc seq payload =
      if (Assoc.get? s.pd.rx k).any fun x => x.waiting.isSome then (s.pdHeld k seq payload).count Obj.pdSuperseded else s.pdHeld k seq payload := by
  obtain ⟨hm, hn, hi, hl, ha, hs⟩ := h
  unfold State.receivePd
  rw [hf]
  simp only [hm, hn, hi, hl, ha, hs, decide_true, Bool.and_true, if_true]
  rfl

theorem receivePd_dropped (h : ¬ s.pdAccepts l k source ip auth enc seq payload) :
    s.receivePd source ip auth enc seq payload = s.count Obj.pdDropped := by
  unfold State.receivePd
  rw [hf]
  refine if_neg fun hc => h ?_
  simpa [State.pdAccepts, and_assoc] using hc

end

/-- What waits replaces what waited, and nothing else moves but the count of packets replaced. -/
theorem receivePd_waits {s : State} {source ip : Nat} {auth : Option Nat} {enc : Bool} {seq : Nat} {payload : Bytes} {l : PdLayout} {k : Nat}
    (hf : ((rxLayouts s.sections).zipIdx.find? fun e => decide (e.1.id = u16At payload 0)) = some (l, k))
    (h : s.pdAccepts l k source ip auth enc seq payload) :
    let t := s.receivePd source ip auth enc seq payload
    Assoc.get? t.pd.rx k = some ⟨seq, s.tick, some (seq, payload)⟩ ∧ (∀ j, j ≠ k → Assoc.get? t.pd.rx j = Assoc.get? s.pd.rx j) ∧
      (∀ x, Assoc.get? s.pd.rx k = some x → x.waiting.isSome = true → t.num Obj.pdSuperseded = s.counted Obj.pdSuperseded 1) ∧
      t = { s with pd := t.pd, dict := t.dict, tally := t.tally } := by
  intro t
  have ht : t = _ := receivePd_accepted hf h
  have hpd : t.pd = (s.pdHeld k seq payload).pd := by
    rw [ht]
    split
    · exact State.count_pd ..
    · rfl
  refine ⟨by rw [hpd]; exact assoc_get_set_self .., fun j hj => by rw [hpd]; exact assoc_get_set_ne _ _ hj, fun x hx hw => ?_, ?_⟩
  · rw [ht, if_pos (by rw [hx]; exact hw)]
    exact count_num _ _ (by decide) (by decide)
  · rw [ht]
    split
    · rw [count_rest]
      rfl
    · rfl

/-! ### Process data transmitted (R88, R99, R127) -/

theorem clpHeader_command (command flags seq source dest status length key bootId nonce : Nat) :
    u8At (clpHeader command flags seq source dest status length key bootId nonce) 5 = command % 256 := by
  have h := leNat_leBytes 1 command
  simpa [u8At, slice, clpHeader, leBytes, byte] using h

/-- A packet without authentication is its header and its payload. -/
theorem packet_open (s : State) (command flags seq source dest status : Nat) (enc : Bool) (payload : Bytes) :
    ∃ h, s.packet command flags seq source dest status none enc payload = h ++ payload ∧ h.length = 32 ∧ u8At h 5 = command % 256 ∧
      u16At h 8 = seq % 65536 :=
  ⟨_, rfl, clpHeader_length .., clpHeader_command .., clpHeader_seq ..⟩

/-- A module that sends process data: the warp runs, its links are not fenced, and it has an address. -/
def State.pdServes (s : State) : Prop := s.mode.running = true ∧ s.io.fenced = false ∧ s.ownIp ≠ 0

/-- The process data of a state replaced. -/
def State.setPd (s : State) (p : PdBlock) : State := { s with pd := p }

/-- The state at the planned start of a layout, its packet taken. -/
def State.pdStarts (s : State) (l : PdLayout) (n : Nat) : State := (s.atOffset l.txOffset).setPd { s.pd with tx := Assoc.erase s.pd.tx n }

section

variable (s : State) (p : PdBlock)

theorem State.setPd_inForce : (s.setPd p).inForce = s.inForce := rfl
theorem State.setPd_dict : (s.setPd p).dict = s.dict := rfl
theorem State.setPd_clp : (s.setPd p).clp = s.clp := rfl
theorem State.setPd_out : (s.setPd p).out = s.out := rfl
theorem State.setPd_prp : (s.setPd p).prp = s.prp := rfl
theorem State.setPd_warp : (s.setPd p).warp = s.warp := rfl
theorem State.setPd_timeNs : (s.setPd p).timeNs = s.timeNs := rfl

end

section

variable (s : State) (l : PdLayout) (n : Nat)

theorem pdStarts_inForce : (s.pdStarts l n).inForce = s.inForce := by rw [State.pdStarts, State.setPd_inForce, State.atOffset_inForce]
theorem pdStarts_dict : (s.pdStarts l n).dict = s.dict := by rw [State.pdStarts, State.setPd_dict, State.atOffset_dict]
theorem pdStarts_clp : (s.pdStarts l n).clp = s.clp := by rw [State.pdStarts, State.setPd_clp, State.atOffset_clp]
theorem pdStarts_out : (s.pdStarts l n).out = s.out := by rw [State.pdStarts, State.setPd_out, State.atOffset_out]
theorem pdStarts_ports : s.SamePorts (s.pdStarts l n) := by
  have hp : (s.pdStarts l n).prp = s.prp := by rw [State.pdStarts, State.setPd_prp, State.atOffset_prp]
  exact ⟨by rw [hp], by rw [hp], by rw [State.pdStarts, State.setPd_warp, State.atOffset_warp]⟩

/-- The planned start of a layout is an instant of its tick that the module has reached or passed. -/
theorem pdStarts_timeNs : (s.pdStarts l n).timeNs = max s.timeNs (s.edgeNs s.tick + l.txOffset) := by
  rw [State.pdStarts, State.setPd_timeNs, atOffset_timeNs]

end

theorem pdTransmit_idle {s : State} {n : BitVec 16} (h : s.mode.running = false ∨ s.io.fenced = true ∨ s.ownIp = 0 ∨ Assoc.get? s.pd.tx n.toNat = none) :
    exec (.pdTransmit n) s = .next s := by
  show execPdTransmit n s = _
  unfold execPdTransmit
  split
  · rename_i l x hl hx
    have hc : (!s.mode.running || s.io.fenced || decide (s.ownIp = 0)) = true := by
      rcases h with h | h | h | h
      · simp [h]
      · simp [h]
      · simp [h]
      · rw [hx] at h
        cases h
    exact congrArg _ (if_pos hc)
  · rfl

section

variable {s : State} {n : BitVec 16} {l : PdLayout} {x : PdTx} (hl : (txLayouts s.sections)[n.toNat]? = some l)
  (hx : Assoc.get? s.pd.tx n.toNat = some x) (hs : s.pdServes)
include hl hx hs

/-- At the start of a layout: an unresolved peer is counted, and a key that is not there sends nothing. -/
theorem pdTransmit_starts :
    let u := s.pdStarts l n.toNat
    let key := (u.conduitKey l.keyId).map fun k => (l.keyId, k)
    exec (.pdTransmit n) s = .next (if !isMulticast l.peerIp && (Assoc.get? u.clp.arp (u.nextHop l.peerIp)).isNone then u.count Obj.arpUnresolved
      else if l.auth = 0 then u.sendPd l none x else if key.isNone then u else u.sendPd l key x) := by
  obtain ⟨hr, hf, hi⟩ := hs
  show execPdTransmit n s = _
  unfold execPdTransmit
  rw [hl, hx]
  exact congrArg _ (if_neg (by simp [hr, hf, hi]))

/-- A layout without authentication leaves for its multicast group. -/
theorem pdTransmit_multicast (ha : l.auth = 0) (hm : isMulticast l.peerIp = true) :
    exec (.pdTransmit n) s = .next ((s.pdStarts l n.toNat).sendPd l none x) := by
  rw [pdTransmit_starts hl hx hs, hm]
  exact congrArg _ (if_pos ha)

/-- A peer without a resolved address is sent nothing (R99). -/
theorem pdTransmit_unresolved (hm : isMulticast l.peerIp = false) (hp : Assoc.get? s.clp.arp (s.nextHop l.peerIp) = none) :
    exec (.pdTransmit n) s = .next ((s.pdStarts l n.toNat).count Obj.arpUnresolved) := by
  have hp' : Assoc.get? (s.pdStarts l n.toNat).clp.arp ((s.pdStarts l n.toNat).nextHop l.peerIp) = none := by
    rw [nextHop_congr (pdStarts_inForce s l _) (num_of_dict (pdStarts_dict s l _) _), pdStarts_clp]
    exact hp
  rw [pdTransmit_starts hl hx hs, hm, hp']
  exact congrArg _ (if_pos rfl)

end

/-- What leaves of a layout without authentication: R86's header over the body of the cycle that was cut off. -/
theorem sendPd_leaves (s : State) (l : PdLayout) (x : PdTx) :
    ∃ h, h.length = 32 ∧ u8At h 5 = 0x30 ∧ u16At h 8 = x.cutoff / lenOfCode l.cls % 65536 ∧
      s.LeavesOnPorts (s.sendPd l none x) .pd (l.peerIp * 65536 + netPdPort s.sections)
        (h ++ (leBytes 2 l.id ++ [byte l.cls, 0] ++ leBytes 8 x.cutoff ++ x.body)) := by
  obtain ⟨h, hb, h1, h2, h3⟩ := packet_open s Cmd.pd unsolicited (x.cutoff / lenOfCode l.cls % 65536) s.stationNodeOf l.peerNode 0
    (decide (l.auth = 2)) (leBytes 2 l.id ++ [byte l.cls, 0] ++ leBytes 8 x.cutoff ++ x.body)
  refine ⟨h, h1, h2, by rw [h3, Nat.mod_mod], ?_⟩
  unfold State.sendPd
  dsimp only
  rw [hb]
  have hleave := udpSend_leaves s.countPacket .pd l.peerIp (netPdPort s.sections) (netPdPort s.sections)
    (s.pairEnabled && decide (s.stationIp ≠ 0)) (h ++ (leBytes 2 l.id ++ [byte l.cls, 0] ++ leBytes 8 x.cutoff ++ x.body))
  exact hleave.congr ⟨rfl, rfl, rfl⟩ rfl rfl

theorem sends_sendPd (s : State) (l : PdLayout) (key : Option (Nat × Bytes)) (x : PdTx) : s.countPacket.Sends (s.sendPd l key x) := sends_udpSend ..

/-! ### Subscriptions (R90) -/

section

variable {s : State} {n : Nat}

theorem subOf_number {x : Subscription} (h : s.subOf n = some x) : x.number = n := by
  simpa using List.find?_some h

theorem subOf_congr {t : State} (h : t.clp.subs = s.clp.subs) (n : Nat) : t.subOf n = s.subOf n := by
  unfold State.subOf
  rw [h]

theorem find_others (subs : List Subscription) (n : Nat) :
    (subs.filter fun y => decide (y.number ≠ n)).find? (fun y => decide (y.number = n)) = none :=
  List.find?_eq_none.2 fun y hy => by simpa using (List.mem_filter.1 hy).2

theorem find_kept (subs : List Subscription) {n k : Nat} (h : k ≠ n) :
    (subs.filter fun y => decide (y.number ≠ n)).find? (fun y => decide (y.number = k)) = subs.find? fun y => decide (y.number = k) := by
  rw [List.find?_filter]
  congr 1
  funext y
  by_cases hy : y.number = k <;> simp [hy, h]

theorem subOf_putSub_self (s : State) (x : Subscription) : (s.putSub x).subOf x.number = some x := by
  unfold State.putSub State.setSubs State.subOf
  rw [List.find?_append, find_others]
  simp

theorem subOf_putSub_ne (s : State) {x : Subscription} {k : Nat} (h : k ≠ x.number) : (s.putSub x).subOf k = s.subOf k := by
  unfold State.putSub State.setSubs State.subOf
  rw [List.find?_append, find_kept _ h]
  simp [Ne.symm h]

theorem subOf_dropSub_self (s : State) (n : Nat) : (s.dropSub n).subOf n = none := find_others ..

/-- Of two values put under one number the later one stands. -/
theorem putSub_putSub (s : State) {x y : Subscription} (h : y.number = x.number) : (s.putSub x).putSub y = s.putSub y := by
  unfold State.putSub State.setSubs
  simp [List.filter_append, List.filter_filter, h]

theorem State.RequestOnly.subOf {t : State} {os : List Nat} (h : s.RequestOnly t os) (n : Nat) : t.subOf n = s.subOf n :=
  subOf_congr (by rw [h.clp]) n

end

end Sys2Proof.Machine

end


section

namespace Sys2Proof.Machine

/-! ### Rising lists of sequences -/

theorem pairwise_le_getLast {ns : List Nat} (h : ns.Pairwise (· < ·)) (d : Nat) {n : Nat} (hn : n ∈ ns) : n ≤ ns.getLast?.getD d := by
  have hne : ns ≠ [] := List.ne_nil_of_mem hn
  rw [List.getLast?_eq_some_getLast hne, Option.getD_some]
  obtain ⟨i, hi, rfl⟩ := List.getElem_of_mem hn
  rw [List.getLast_eq_getElem]
  rcases Nat.lt_or_ge i (ns.length - 1) with hlt | hge
  · exact (List.pairwise_iff_getElem.1 h i (ns.length - 1) hi (by omega) hlt).le
  · exact le_of_eq (by congr 1; omega)

/-! ### The records that an EVENT carries (R91, R92) -/

section

variable (s : State) (x : Subscription)

/-- A record that is not confirmed has been overwritten. -/
def State.eventLost : Bool := x.lost || decide (x.confirmed + 1 < s.tally.oldest)

/-- The first sequence that the next EVENT may carry. -/
def State.eventStart : Nat := if s.eventLost x then s.tally.oldest else x.next

/-- The sequences that the next EVENT carries. -/
def State.eventRecords : List Nat := (s.matching x (s.eventStart x) s.tally.head).take ((s.payloadRoom x.req - 4) / 64)

theorem matching_rises (first last : Nat) : (s.matching x first last).Pairwise (· < ·) :=
  .filter _ (.map (first + ·) (fun _ _ h => Nat.add_lt_add_left h first) List.pairwise_lt_range)

theorem matching_le {first last n : Nat} (h : n ∈ s.matching x first last) : n ≤ last := by
  obtain ⟨i, hi, rfl⟩ := List.mem_map.1 (List.mem_of_mem_filter h)
  have := List.mem_range.1 hi
  omega

/-- The next sequence after an EVENT, and what then waits for a confirmation. -/
def State.eventNext : Nat :=
  if (s.matching x (s.eventStart x) s.tally.head).length ≤ (s.eventRecords x).length then max (s.eventStart x) (s.tally.head + 1)
  else (s.eventRecords x).getLast?.getD (s.eventStart x) + 1

def State.eventAwaiting : List Nat :=
  (x.awaiting.filter fun n => decide (s.tally.oldest ≤ n) && decide (n < s.eventStart x)) ++ s.eventRecords x

/-- The subscription after an EVENT. -/
def State.eventAfter : Subscription :=
  { x with
    next := s.eventNext x
    confirmed := confirmedTo (s.eventAwaiting x) (s.eventNext x)
    awaiting := s.eventAwaiting x
    lost := s.eventLost x && (s.eventRecords x).isEmpty }

theorem sendEvents_eq : s.sendEvents x =
    if (s.eventRecords x).isEmpty then s.putSub (s.eventAfter x) else (s.putSub (s.eventAfter x)).sendEvent x (s.eventLost x) (s.eventRecords x) := rfl

theorem eventRecords_lt_next {n : Nat} (h : n ∈ s.eventRecords x) : n < s.eventNext x := by
  have hle := matching_le s x (List.mem_of_mem_take h)
  unfold State.eventNext
  split
  · omega
  · exact Nat.lt_succ_of_le (pairwise_le_getLast ((matching_rises s x _ _).sublist (List.take_sublist ..)) _ h)

end

/-! ### An EVENT leaves -/

/-- Looking at records moves the counter of damaged ones and the log alone. -/
theorem inspects_rest (ns : List Nat) (s : State) :
    ns.foldl State.inspect s = { s with dict := (ns.foldl State.inspect s).dict, tally := (ns.foldl State.inspect s).tally } := by
  induction ns generalizing s with
  | nil => rfl
  | cons n ns ih =>
    have h : s.inspect n = { s with dict := (s.inspect n).dict, tally := (s.inspect n).tally } := by
      unfold State.inspect State.foundDamaged
      split
      · split
        · rfl
        · rw [count_rest]
      · rfl
    rw [List.foldl_cons, ih, h]

/-- The state in which an EVENT packet is formed: its records are looked at, and its SEQUENCE is drawn. -/
def State.eventForms (s : State) (ns : List Nat) : State := (ns.foldl State.inspect s).drawFree.2

theorem eventForms_rest (s : State) (ns : List Nat) :
    s.eventForms ns = { s with dict := (s.eventForms ns).dict, tally := (s.eventForms ns).tally, freeCount := s.freeCount + 1 } := by
  unfold State.eventForms State.drawFree
  dsimp only
  rw [inspects_rest]

/-- What leaves of an EVENT to a subscription without authentication, and what else moves. -/
theorem sendEvent_leaves (s : State) {x : Subscription} (ha : x.req.auth = none) (lost : Bool) (ns : List Nat) :
    ∃ h, h.length = 32 ∧ u8At h 5 = 0x42 ∧ s.LeavesOnPorts (s.sendEvent x lost ns) .event (x.req.ip * 65536 + x.req.port)
      (h ++ ([byte x.number, byte (b2n lost)] ++ leBytes 2 ns.length ++ ns.flatMap fun n => (s.tally.lookup n).1)) ∧
      (s.eventForms ns).countPacket.Sends (s.sendEvent x lost ns) := by
  obtain ⟨h, hb, h1, h2, -⟩ := packet_open (s.eventForms ns) Cmd.event unsolicited ((ns.foldl State.inspect s).drawFree.1.toNat % 65536)
    ((s.eventForms ns).num Obj.moduleNode) (Req.node x.req) 0 x.req.encrypt
    ([byte x.number, byte (b2n lost)] ++ leBytes 2 ns.length ++ ns.flatMap fun n => (s.tally.lookup n).1)
  have hsend : s.sendEvent x lost ns = (s.eventForms ns).countPacket.udpSend .event x.req.ip ((s.eventForms ns).started Obj.clpPort) x.req.port false
      (h ++ ([byte x.number, byte (b2n lost)] ++ leBytes 2 ns.length ++ ns.flatMap fun n => (s.tally.lookup n).1)) := by
    rw [← hb]
    unfold State.sendEvent
    dsimp only
    rw [ha]
    rfl
  have hf := eventForms_rest s ns
  refine ⟨h, h1, h2, ?_, ?_⟩
  · rw [hsend]
    exact (udpSend_leaves (s.eventForms ns).countPacket ..).congr
      ⟨by rw [hf]; rfl, by rw [hf]; rfl, by rw [hf]; rfl⟩ (by rw [hf]; rfl) rfl
  · rw [hsend]
    exact sends_udpSend ..

theorem sendEvent_subs (s : State) {x : Subscription} (ha : x.req.auth = none) (lost : Bool) (ns : List Nat) :
    (s.sendEvent x lost ns).clp.subs = s.clp.subs := by
  obtain ⟨-, -, -, -, h⟩ := sendEvent_leaves s ha lost ns
  rw [h.rest]
  show (s.eventForms ns).clp.subs = _
  rw [eventForms_rest]

/-! ### Confirmations (R91, R92) -/

/-- What is confirmed leaves the list, and what has been overwritten without a confirmation is remembered as lost. -/
theorem confirmEvents_subOf (s : State) (x : Subscription) (highest : Nat) :
    ∃ y, (s.confirmEvents x highest).subOf x.number = some y ∧
      y.awaiting = x.awaiting.filter (fun n => decide (highest < n) && decide (s.tally.oldest ≤ n)) ∧ y.confirmed = confirmedTo y.awaiting x.next ∧
      y.lost = (x.lost || x.awaiting.any fun n => decide (highest < n) && decide (n < s.tally.oldest)) ∧
      y = { x with awaiting := y.awaiting, confirmed := y.confirmed, lost := y.lost } := by
  refine ⟨_, subOf_putSub_self s _, ?_, rfl, ?_, rfl⟩
  · dsimp only
    rw [List.filter_filter]
    congr 1
    funext n
    exact Bool.and_comm ..
  · have hlost : (List.filter (fun n => decide (s.tally.oldest ≤ n)) (x.awaiting.filter fun n => decide (highest < n))).length <
        (x.awaiting.filter fun n => decide (highest < n)).length ↔ ∃ n ∈ x.awaiting, highest < n ∧ n < s.tally.oldest := by
      simp only [List.length_filter_lt_length_iff_exists, List.mem_filter, decide_eq_true_eq, and_assoc, not_le]
    rw [Bool.eq_iff_iff, Bool.or_eq_true, Bool.or_eq_true, decide_eq_true_eq, hlost]
    simp

/-- A subscription's EVENT comes again from the first record that is not confirmed. -/
theorem sendEvents_putSub (s : State) (x : Subscription) : (s.putSub x).sendEvents x = s.sendEvents x := by
  have hp : ∀ y : Subscription, y.number = x.number → (s.putSub x).putSub y = s.putSub y := fun y h => putSub_putSub s h
  rw [sendEvents_eq, sendEvents_eq]
  have he : (s.putSub x).eventRecords x = s.eventRecords x := rfl
  have hl : (s.putSub x).eventLost x = s.eventLost x := rfl
  have hx : (s.putSub x).eventAfter x = s.eventAfter x := rfl
  rw [he, hl, hx, hp (s.eventAfter x) rfl]

end Sys2Proof.Machine

end

section

namespace Sys2Proof.Machine

/-! ### Subscriptions taken, refused and ended -/

/-- A request that answers with a code and no payload, in a state that `u` is. -/
theorem request_answersCode {s : State} {r : Req} (hx : s.Executes r) (command : Nat) (act : State → State × Reply) {u : State} {x : Reply}
    (ha : act (s.count Obj.requestsExecuted) = (u, x)) (hlt : x.status < 65536) :
    (s.request r command act).Answers r x.status ∧ ∀ os, u.RequestOnly (s.request r command act) os := by
  rw [request_eq hx, ha]
  exact ⟨answered_answers _ _ r command x hlt, fun os => requestOnly_answered ..⟩

section

variable {s : State} {r : Req} (hx : s.Executes r) (hi : r.iface ≠ .usb) {number : Nat}

theorem subOf_counted (k : Nat) : (s.count Obj.requestsExecuted).subOf k = s.subOf k := subOf_congr (by rw [State.count_clp]) k

include hi

/-- What SUBSCRIBE does with a number of the range: taken where it is free or the source's own, and BUSY where it is another's. -/
theorem subscribe_own (h1 : 1 ≤ number) (h16 : number ≤ 16)
    (hn : s.subOf number = none ∧ s.clp.subs.length < 16 ∨ ∃ y, s.subOf number = some y ∧ y.heldBy r = true) (first last start : Nat) :
    s.subscribe r number first last start = (s.putSub ⟨number, r, first, last, if start = 0 then s.tally.head + 1 else start,
      (if start = 0 then s.tally.head + 1 else start) - 1, [], false⟩, refusal Status.ok) := by
  have hr : (decide (number = 0) || decide (16 < number)) = false := by
    simp only [Bool.or_eq_false_iff, decide_eq_false_iff_not]
    omega
  unfold State.subscribe
  rw [if_neg hi, hr]
  rcases hn with ⟨hn, hl⟩ | ⟨y, hn, hy⟩
  · have hl : ¬ 16 ≤ s.clp.subs.length := by omega
    simp [hn, hl]
  · simp [hn, hy]

theorem subscribe_busy (h1 : 1 ≤ number) (h16 : number ≤ 16) {y : Subscription} (hn : s.subOf number = some y) (hy : y.heldBy r = false)
    (first last start : Nat) : s.subscribe r number first last start = (s, refusal Status.busy) := by
  have hr : (decide (number = 0) || decide (16 < number)) = false := by
    simp only [Bool.or_eq_false_iff, decide_eq_false_iff_not]
    omega
  unfold State.subscribe
  rw [if_neg hi, hr]
  simp [hn, hy]

theorem unsubscribe_own {y : Subscription} (hn : s.subOf number = some y) (hy : y.heldBy r = true) :
    s.unsubscribe r number = (s.dropSub number, refusal Status.ok) := by
  unfold State.unsubscribe
  simp [hi, hn, hy]

theorem unsubscribe_none (hn : s.subOf number = none) : s.unsubscribe r number = (s, refusal Status.noSubscription) := by
  unfold State.unsubscribe
  simp [hi, hn]

include hx

/-- EVENT_ACK confirms, is not answered, and consumes its SEQUENCE. -/
theorem eventAck_own {x : Subscription} (hn : s.subOf number = some x) (hy : x.heldBy r = true) (highest : Nat) :
    s.eventAck r number highest = ((s.count Obj.requestsExecuted).confirmEvents x highest).remember r [] := by
  unfold State.eventAck
  rw [if_neg hi, hx.1]
  simp only [subOf_counted, hn, hy]
  rfl

end

theorem confirmEvents_rest (s : State) (x : Subscription) (highest : Nat) :
    s.confirmEvents x highest = { s with clp := { s.clp with subs := (s.confirmEvents x highest).clp.subs } } := rfl

theorem eventAck_out (s : State) (r : Req) (x : Subscription) (highest : Nat) :
    (((s.count Obj.requestsExecuted).confirmEvents x highest).remember r []).out = s.out := by
  rw [confirmEvents_rest]
  exact State.count_out s Obj.requestsExecuted 1

theorem subOf_remember (s : State) (r : Req) (b : Bytes) (n : Nat) : (s.remember r b).subOf n = s.subOf n := rfl

/-! ### The commands of process data and of events -/

theorem exec_pd (source : BitVec 16) (ip : Nat) (auth : Option Nat) (enc : Bool) (seq : BitVec 16) (payload : List Byte) (s : State) :
    exec (.pd source ip auth enc seq payload) s =
      .next (if s.netServes then s.receivePd source.toNat ip auth enc seq.toNat payload else s) := rfl

theorem event_none {s : State} {number : BitVec 8} (h : s.subOf number.toNat = none) :
    exec (.event number) s = .next s ∧ exec (.eventResend number) s = .next s := by
  constructor
  · show execEvent number s = _
    rw [execEvent, h]
  · show execEventResend number s = _
    rw [execEventResend, h]

theorem event_some {s : State} {number : BitVec 8} {x : Subscription} (h : s.subOf number.toNat = some x) (hs : s.netServes = true) :
    exec (.event number) s = .next (s.sendEvents x) := by
  show execEvent number s = _
  rw [execEvent, h]
  exact congrArg Host.Outcome.next (if_pos hs)

/-- A resend is the EVENT of the subscription set back to its first record that is not confirmed. -/
theorem eventResend_again {s : State} {number : BitVec 8} {x : Subscription} (h : s.subOf number.toNat = some x) (hs : s.netServes = true)
    (hc : x.confirmed + 1 < x.next) :
    exec (.eventResend number) s = exec (.event number) (s.putSub { x with next := x.confirmed + 1 }) := by
  have hn : (s.putSub { x with next := x.confirmed + 1 }).subOf number.toNat = some { x with next := x.confirmed + 1 } :=
    subOf_number h ▸ subOf_putSub_self s { x with next := x.confirmed + 1 }
  rw [event_some hn hs, sendEvents_putSub]
  show execEventResend number s = _
  rw [execEventResend, h]
  exact congrArg Host.Outcome.next (if_pos (by simp [hs, hc]))

theorem eventResend_nothing {s : State} {number : BitVec 8} {x : Subscription} (h : s.subOf number.toNat = some x) (hc : x.next ≤ x.confirmed + 1) :
    exec (.eventResend number) s = .next s := by
  show execEventResend number s = _
  rw [execEventResend, h]
  exact congrArg Host.Outcome.next (if_neg (by simp [hc]))

/-- A subscription with nothing to send keeps what it has lost for the next EVENT. -/
theorem sendEvents_empty {s : State} {x : Subscription} (h : s.eventRecords x = []) :
    s.sendEvents x = s.putSub (s.eventAfter x) ∧ (s.eventAfter x).lost = s.eventLost x := by
  rw [sendEvents_eq, h]
  exact ⟨rfl, by simp [State.eventAfter, h]⟩

/-- The EVENT of a subscription without authentication, and the subscription after it. -/
theorem sendEvents_leave {s : State} {x : Subscription} (ha : x.req.auth = none) (h : s.eventRecords x ≠ []) :
    (∃ h, h.length = 32 ∧ u8At h 5 = 0x42 ∧ s.LeavesOnPorts (s.sendEvents x) .event (x.req.ip * 65536 + x.req.port)
      (h ++ ([byte x.number, byte (b2n (s.eventLost x))] ++ leBytes 2 (s.eventRecords x).length ++
        (s.eventRecords x).flatMap fun n => (s.tally.lookup n).1))) ∧
      (s.sendEvents x).subOf x.number = some (s.eventAfter x) ∧ (s.eventAfter x).lost = false := by
  have he : (s.eventRecords x).isEmpty = false := by simpa using h
  obtain ⟨hd, h1, h2, hleave, -⟩ := sendEvent_leaves (s.putSub (s.eventAfter x)) ha (s.eventLost x) (s.eventRecords x)
  rw [sendEvents_eq, he]
  refine ⟨⟨hd, h1, h2, hleave.congr ⟨rfl, rfl, rfl⟩ rfl rfl⟩, ?_, by simp [State.eventAfter, he]⟩
  exact (subOf_congr (sendEvent_subs _ ha ..) _).trans (subOf_putSub_self s (s.eventAfter x))

end Sys2Proof.Machine

end

section

open Sys2Proof Sys2Proof.Machine

/-- Settles O19: process data by its conditions (`receivePd_waits`, `sendPd_leaves`), then the subscriptions command by command. -/
theorem processDataAndSubscriptions : Obligations.ProcessDataAndSubscriptions := by
  refine ⟨fun s => ⟨fun source ip auth enc seq payload => ⟨fun hn => ?_, fun l k hn hf => ⟨fun hg => ?_, fun hg => ?_⟩⟩,
    fun n => ⟨fun h => pdTransmit_idle h, fun l x hl hx hm hf hip => ⟨fun ha hmc => ?_, fun hmc hp => ?_⟩⟩⟩,
    fun s r number first last start highest => ⟨fun hx hi h1 h16 => ⟨fun hn => ?_, fun y hn hy => ?_⟩, fun hx hi => ⟨fun y hn hy => ?_, fun hn => ?_⟩,
      fun x hn hx hi hy => ?_, fun hn => ?_, fun x hn hs ha => ⟨fun he => ?_, fun he => ?_⟩, fun x hn hs => ⟨fun hr => ?_, fun hr => ?_⟩⟩⟩
  · rw [exec_pd, hn]
    rfl
  · exact ⟨_, by rw [exec_pd, if_pos hn], receivePd_waits hf hg⟩
  · exact ⟨_, by rw [exec_pd, if_pos hn, receivePd_dropped hf hg], count_num _ _ (by decide) (by decide), count_rest ..⟩
  · obtain ⟨h, h1, h2, h3, hleave⟩ := sendPd_leaves (s.pdStarts l n.toNat) l x
    have hsend := sends_sendPd (s.pdStarts l n.toNat) l none x
    have hsections : (s.pdStarts l n.toNat).sections = s.sections := sections_congr (pdStarts_ports s l n.toNat).warp
    rw [hsections] at hleave
    refine ⟨_, h, pdTransmit_multicast hl hx ⟨hm, hf, hip⟩ ha hmc, h1, h2, h3, hleave.congr (pdStarts_ports ..) (pdStarts_out ..) rfl, ?_, ?_⟩
    · rw [hsend.rest]
      rfl
    · rw [hsend.rest]
      exact pdStarts_timeNs s l n.toNat
  · exact ⟨_, pdTransmit_unresolved hl hx ⟨hm, hf, hip⟩ hmc hp, (State.count_out ..).trans (pdStarts_out ..),
      (count_num _ _ (by decide) (by decide)).trans (counted_of_dict (pdStarts_dict ..) ..), State.count_pd ..⟩
  · have hn : (s.count Obj.requestsExecuted).subOf number.toNat = none ∧ (s.count Obj.requestsExecuted).clp.subs.length < 16 ∨
        ∃ y, (s.count Obj.requestsExecuted).subOf number.toNat = some y ∧ y.heldBy r = true := by
      rwa [subOf_counted, State.count_clp]
    obtain ⟨hans, honly⟩ := request_answersCode hx Cmd.subscribe
      (fun u => u.subscribe r number.toNat first.toNat last.toNat start.toNat) (subscribe_own hi h1 h16 hn ..) (by decide)
    refine ⟨_, _, rfl, hans, ((honly []).subOf _).trans (subOf_putSub_self ..), rfl, fun k hk => ?_⟩
    rw [(honly []).subOf, subOf_putSub_ne _ hk, subOf_counted]
  · have hact := subscribe_busy hi h1 h16 (by rwa [subOf_counted] : (s.count Obj.requestsExecuted).subOf number.toNat = some y) hy
      first.toNat last.toNat start.toNat
    obtain ⟨hans, honly⟩ := request_answersCode hx Cmd.subscribe (fun u => u.subscribe r number.toNat first.toNat last.toNat start.toNat) hact (by decide)
    exact ⟨_, rfl, hans, (requestOnly_counted s []).trans (honly [])⟩
  · have hact := unsubscribe_own hi (by rwa [subOf_counted] : (s.count Obj.requestsExecuted).subOf number.toNat = some y) hy
    obtain ⟨hans, honly⟩ := request_answersCode hx Cmd.unsubscribe (fun u => u.unsubscribe r number.toNat) hact (by decide)
    exact ⟨_, rfl, hans, ((honly []).subOf _).trans (subOf_dropSub_self ..)⟩
  · have hact := unsubscribe_none hi (by rwa [subOf_counted] : (s.count Obj.requestsExecuted).subOf number.toNat = none)
    obtain ⟨hans, honly⟩ := request_answersCode hx Cmd.unsubscribe (fun u => u.unsubscribe r number.toNat) hact (by decide)
    exact ⟨_, rfl, hans, (requestOnly_counted s []).trans (honly [])⟩
  · obtain ⟨y, hsub, h1, h2, h3, h4⟩ := confirmEvents_subOf (s.count Obj.requestsExecuted) x highest.toNat
    obtain ⟨cache, hc, -⟩ := seqRecord_remember ((s.count Obj.requestsExecuted).confirmEvents x highest.toNat) r []
    rw [subOf_number hn] at hsub
    rw [← subOf_remember _ r []] at hsub
    exact ⟨_, y, congrArg Host.Outcome.next (eventAck_own hx hi hn hy highest.toNat), hsub, h1, h2, h3, h4, eventAck_out .., _, hc, rfl⟩
  · exact event_none hn
  · obtain ⟨h1, h2⟩ := sendEvents_empty he
    exact ⟨_, _, event_some hn hs, by rw [h1]; rfl, by rw [h1, ← subOf_number hn]; exact subOf_putSub_self .., h2⟩
  · obtain ⟨⟨h, h1, h2, hleave⟩, hsub, hlost⟩ := sendEvents_leave ha he
    rw [subOf_number hn] at hsub
    exact ⟨_, h, event_some hn hs, h1, h2, hleave, _, hsub, hlost, fun k hk => ⟨eventRecords_lt_next s x hk, List.mem_append_right _ hk⟩⟩
  · exact eventResend_again hn hs hr
  · exact eventResend_nothing hn hr

end


section

namespace Sys2Proof.Machine

/-! ### What a frame that arrives moves before it is looked at (R67, R287, R288) -/

/-- Between `s` and `u` time passed and a frame was heard: counters, the log, the clocks and what the ports keep moved, and not the module's node. -/
structure State.Hears (s u : State) : Prop where
  node : u.num Obj.moduleNode = s.num Obj.moduleNode
  rest : u = { s with dict := u.dict, tally := u.tally, prp := u.prp, localNs := u.localNs, timeNs := u.timeNs, rtcNs := u.rtcNs }

section

variable {s t u : State}

theorem State.Hears.trans (h : s.Hears t) (k : t.Hears u) : s.Hears u := ⟨k.node.trans h.node, by rw [k.rest, h.rest]⟩

theorem State.Hears.ite {c : Prop} [Decidable c] (h : s.Hears t) (k : s.Hears u) : s.Hears (if c then t else u) := by
  split
  · exact h
  · exact k

theorem State.Hears.ownIp (h : s.Hears u) : u.ownIp = s.ownIp := ownIp_congr (by rw [h.rest]) h.node

theorem State.Hears.netServes (h : s.Hears u) : u.netServes = s.netServes := by
  unfold State.netServes State.serves
  rw [h.ownIp, h.rest]

theorem State.Hears.warp (h : s.Hears u) : u.warp = s.warp := by rw [h.rest]

theorem hears_prp (s : State) (p : PrpBlock) : s.Hears { s with prp := p } := ⟨num_of_dict rfl _, rfl⟩

/-- The counters of a port lie above the module's node. -/
theorem portCounter_above (c k : Nat) : Obj.moduleNode < Obj.rxFrames 0 + c + k * 0x100 := by
  have h : Obj.moduleNode < Obj.rxFrames 0 := by decide
  omega

theorem hears_count (s : State) {a : Nat} (ha : Obj.moduleNode < a) : s.Hears (s.count a) := by
  have ho : Obj.moduleNode ≠ overflowAddr a := by
    unfold overflowAddr objAddr addrIndex
    omega
  refine ⟨?_, by rw [count_rest]⟩
  unfold State.num
  rw [count_obj s 1 (by omega) ho (by decide)]

theorem hears_forget (s : State) : s.Hears s.prpForget := by
  have hfold : ∀ (es : List (Nat × Nat × Nat × Nat × Bool)) (v : State),
      v.Hears (es.foldl (fun s e => if e.2.2.2.2 then s else s.count (Obj.unique e.2.2.1)) v) := fun es => by
    induction es with
    | nil => exact fun v => hears_prp v v.prp
    | cons e es ih =>
      intro v
      refine State.Hears.trans ?_ (ih _)
      dsimp only
      split
      · exact hears_prp v v.prp
      · exact hears_count v (portCounter_above 3 _)
  exact (hears_prp s _).trans (hfold _ _)

theorem hears_atOffset (s : State) (ns : Nat) : s.Hears (s.atOffset ns) := by
  obtain ⟨l, t, c, h⟩ := atOffset_form s ns
  rw [h]
  exact ⟨num_of_dict rfl _, rfl⟩

theorem hears_prpHear (s : State) (rx : NetRx) : s.Hears (s.prpHear rx) :=
  (((hears_atOffset s rx.ns).trans (hears_forget _)).trans (hears_count _ (portCounter_above 0 _))).trans (hears_prp _ _)

theorem hears_prpTake (s : State) (rx : NetRx) : s.Hears (s.prpTake rx).1 := by
  have h1 := hears_prpHear s rx
  unfold State.prpTake
  extract_lets k s1
  split
  · exact h1.trans (hears_count _ (by decide))
  split
  · exact h1
  rename_i lan seq _
  extract_lets s2
  have h2 : s.Hears s2 := .ite h1 (h1.trans (hears_count _ (portCounter_above 2 _)))
  split
  · exact (h2.trans (hears_prp _ _)).trans (hears_count _ (portCounter_above 4 _))
  · exact h2.trans (hears_prp _ _)

end

/-! ### ARP and ICMP at a network port (R65, R95, R97) -/

section

variable {s : State} {rx : NetRx} (hn : s.netServes = true) (ht : (s.prpTake rx).2 = true)
include hn ht

/-- A first copy of an ARP request: within the limit of its port it is answered for the module's own addresses. -/
theorem netArp_taken (sender target : Nat) :
    let u := (s.prpTake rx).1
    let ts := lastSecond u.localNs u.clp.arpTimes[portIx rx.port]
    let v : State := { u with clp := { u.clp with arpTimes := u.clp.arpTimes.set (portIx rx.port) (ts ++ [u.localNs]) } }
    let station := decide (target ≠ v.ownIp)
    s.netArp rx sender target = if 100 ≤ ts.length then u.count Obj.rateDropped else if v.answersIp target then
      v.prpSend .arp (sender * 65536) station (v.ethHead .arp station (some rx.mac) etherArp)
        (arpBytes 2 (if station then v.stationMacBytes else v.moduleMacBytes) target (beBytes 6 rx.mac) sender) else v := by
  intro u ts v station
  have hx : s.prpTake rx = (u, true) := Prod.ext rfl ht
  unfold State.netArp
  rw [hn, hx]
  rfl

/-- A first copy of an echo request to an address held: it is answered within the limit of its port. -/
theorem netEcho_taken (src : Nat) {dst : Nat} (data : Bytes) (ha : (s.prpTake rx).1.answersIp dst = true) :
    let u := (s.prpTake rx).1
    let ts := lastSecond u.localNs u.clp.icmpTimes[portIx rx.port]
    let v : State := { u with clp := { u.clp with icmpTimes := u.clp.icmpTimes.set (portIx rx.port) (ts ++ [u.localNs]) } }
    let station := decide (dst ≠ v.ownIp)
    s.netEcho rx src dst data = if 10 ≤ ts.length then u.count Obj.rateDropped else
      v.prpSend .icmp (src * 65536) station { v.ipHead .icmp station src none [] with dst := some rx.mac } (icmpReply data) := by
  intro u ts v station
  have hx : s.prpTake rx = (u, true) := Prod.ext rfl ht
  have hu : u.answersIp dst = true := ha
  unfold State.netEcho
  rw [hn, hx, if_neg (by decide)]
  exact if_neg (by rw [hu]; decide)

end

/-! ### ARP and ICMP at the service port (R66, R95) -/

section

variable (s : State) (mac ns : Nat)

theorem usbServes_atOffset (ip : Nat) : (s.atOffset ns).usbServes ip = s.usbServes ip := by
  unfold State.usbServes State.serves
  rw [State.atOffset_mode, State.atOffset_rst, State.atOffset_options]

variable {s} (hs : s.serves = true) (hu : s.options.inForce.usb = true)
include hs hu

theorem usbServes_host : (s.atOffset ns).usbServes usbHostIp = true := by
  rw [usbServes_atOffset]
  simp [State.usbServes, hs, hu]

/-- An ARP request of the host for the station: answered, or counted beyond the limit. -/
theorem usbArp_host :
    (100 ≤ (lastSecond (s.atOffset ns).localNs (s.atOffset ns).clp.usbArpTimes).length →
      s.usbArp mac ns usbHostIp usbStationIp = (s.atOffset ns).count Obj.rateDropped) ∧
    ((lastSecond (s.atOffset ns).localNs (s.atOffset ns).clp.usbArpTimes).length < 100 → ∃ m : Sent,
      (s.usbArp mac ns usbHostIp usbStationIp).out = s.out ++ [m] ∧ m.kind = .arp ∧ m.unit = 2 ∧
        m.data = arpBytes 2 (fit 6 (s.obj Obj.usbMac)) usbStationIp (beBytes 6 mac) usbHostIp) := by
  have hv := usbServes_host ns hs hu
  obtain ⟨l, t, c, hf⟩ := atOffset_form s ns
  unfold State.usbArp
  rw [hf] at hv ⊢
  dsimp only
  rw [hv]
  refine ⟨fun h => by rw [if_neg (by decide), if_pos h], fun h => ?_⟩
  rw [if_neg (by decide), if_neg (by omega), if_pos rfl]
  exact ⟨_, rfl, rfl, rfl, congrArg (fun b => arpBytes 2 (fit 6 b) usbStationIp (beBytes 6 mac) usbHostIp) (obj_of_dict rfl _)⟩

theorem usbEcho_host (data : Bytes) :
    (10 ≤ (lastSecond (s.atOffset ns).localNs (s.atOffset ns).clp.usbIcmpTimes).length →
      s.usbEcho mac ns usbHostIp usbStationIp data = (s.atOffset ns).count Obj.rateDropped) ∧
    ((lastSecond (s.atOffset ns).localNs (s.atOffset ns).clp.usbIcmpTimes).length < 10 → ∃ m : Sent,
      (s.usbEcho mac ns usbHostIp usbStationIp data).out = s.out ++ [m] ∧ m.kind = .icmp ∧ m.unit = 2 ∧ m.data = icmpReply data) := by
  have hv := usbServes_host ns hs hu
  obtain ⟨l, t, c, hf⟩ := atOffset_form s ns
  unfold State.usbEcho
  rw [hf] at hv ⊢
  dsimp only
  rw [hv]
  refine ⟨fun h => by rw [if_neg (by decide), if_neg (by decide), if_pos h], fun h => ?_⟩
  rw [if_neg (by decide), if_neg (by decide), if_neg (by omega)]
  exact ⟨_, rfl, rfl, rfl, rfl⟩

end

end Sys2Proof.Machine

end


section

namespace Sys2Proof.Machine

/-! ### Membership reports (R65) -/

/-- A membership report sent. -/
def State.sendReport (s : State) (g : Nat) : State := s.prpSend .igmp (g * 65536) false (s.ipHead .igmp false g none []) (igmpReport g)

theorem sends_sendReport (s : State) (g : Nat) : s.Sends (s.sendReport g) := sends_prpSend ..

/-- What has left stays. -/
theorem sendReport_out (s : State) (g : Nat) : ∃ more, (s.sendReport g).out = s.out ++ more ∧ ∀ k < 2, s.portRate k ≠ 0 →
    ∃ m ∈ more, m.kind = .igmp ∧ m.unit = k ∧ m.peer = g * 65536 ∧ igmpReport g <+: m.data := by
  obtain ⟨seq, head, more, hout, -, hm⟩ := prpSend_leaves s .igmp (g * 65536) false (s.ipHead .igmp false g none []) (igmpReport g)
  exact ⟨more, hout, fun k hk hr => ⟨_, hm k hk hr rfl, rfl, rfl, rfl, List.prefix_append ..⟩⟩

theorem sendReports_leave (gs : List Nat) (s : State) : s.Sends (gs.foldl State.sendReport s) ∧ ∃ more, (gs.foldl State.sendReport s).out = s.out ++ more ∧
    ∀ g ∈ gs, ∀ k < 2, s.portRate k ≠ 0 → ∃ m ∈ more, m.kind = .igmp ∧ m.unit = k ∧ m.peer = g * 65536 ∧ igmpReport g <+: m.data := by
  induction gs generalizing s with
  | nil => exact ⟨.refl s, [], by simp, fun g hg => by cases hg⟩
  | cons g gs ih =>
    have h1 := sends_sendReport s g
    obtain ⟨more, hout, hm⟩ := sendReport_out s g
    obtain ⟨h2, rest, hrest, hr⟩ := ih (s.sendReport g)
    refine ⟨h1.trans h2, more ++ rest, by rw [List.foldl_cons, hrest, hout, List.append_assoc], fun q hq k hk hrate => ?_⟩
    rcases List.mem_cons.1 hq with rfl | hq
    · obtain ⟨m, hmem, h⟩ := hm k hk hrate
      exact ⟨m, List.mem_append_left _ hmem, h⟩
    · obtain ⟨m, hmem, h⟩ := hr q hq k hk (by rwa [h1.ports.portRate])
      exact ⟨m, List.mem_append_right _ hmem, h⟩

theorem reportGroups_eq (s : State) : s.reportGroups = if s.netServes then (netGroups s.sections).foldl State.sendReport s else s := rfl

theorem sends_reportGroups (s : State) : s.Sends s.reportGroups := by
  rw [reportGroups_eq]
  split
  · exact (sendReports_leave _ s).1
  · exact .refl s

theorem sends_announceIp (s : State) (station : Bool) : s.Sends (s.announceIp station) := by
  unfold State.announceIp
  extract_lets ip
  split
  · exact .refl s
  · exact sends_prpSend ..

theorem sends_announceAll (s : State) : s.Sends s.announceAll := by
  unfold State.announceAll
  refine State.Sends.trans ?_ (sends_reportGroups _)
  split
  · exact (sends_announceIp s false).trans (sends_announceIp _ true)
  · exact sends_announceIp s false

/-- A query that is a first copy is answered for each group of the warp. -/
theorem igmpQuery_taken {s : State} {rx : NetRx} (hn : s.netServes = true) (ht : (s.prpTake rx).2 = true) :
    exec (.igmpQuery rx) s = .next ((netGroups s.sections).foldl State.sendReport (s.prpTake rx).1) := by
  have hx : s.prpTake rx = ((s.prpTake rx).1, true) := Prod.ext rfl ht
  have hu := hears_prpTake s rx
  have hr : (s.prpTake rx).1.reportGroups = (netGroups s.sections).foldl State.sendReport (s.prpTake rx).1 := by
    rw [reportGroups_eq, hu.netServes, hn, sections_congr hu.warp]
    rfl
  show execIgmpQuery rx s = _
  unfold execIgmpQuery
  rw [hn, hx, ← hr]
  rfl

/-! ### The paths of the ports (R143, R288) -/

/-- The paths marked lost, with PrpState after them. -/
theorem setPathLost_form (s : State) (p : NetPort) (b : Bool) :
    ∃ v, s.setPathLost p b = ({ s with prp := { s.prp with lost := s.prp.lost.set (portIx p) b } } : State).setNum Obj.prpState v := ⟨_, rfl⟩

/-- A path that is lost already stays so, with no more counted. -/
theorem losePath_lost {s : State} {p : NetPort} (h : s.prp.lost[portIx p] = true) (cause : Nat) : s.losePath p cause = s := if_pos h

/-- The counters of lost paths lie apart from what the log and the paths' state keep. -/
theorem pathLosses_apart (p : NetPort) : Obj.pathLosses (portNo p) ≠ overflowAddr (Obj.pathLosses (portNo p)) ∧
    Obj.pathLosses (portNo p) ∉ tallyObjects ∧ Obj.pathLosses (portNo p) ≠ Obj.prpState ∧ Obj.moduleNode ≠ Obj.pathLosses (portNo p) ∧
    Obj.moduleNode ≠ overflowAddr (Obj.pathLosses (portNo p)) := by
  cases p <;> decide

/-- A path is lost: marked, counted, and told of. -/
theorem losePath_first {s : State} {p : NetPort} (h : s.prp.lost[portIx p] = false) (cause : Nat) :
    let t := s.losePath p cause
    t.prp = { s.prp with lost := s.prp.lost.set (portIx p) true } ∧ t.num (Obj.pathLosses (portNo p)) = s.counted (Obj.pathLosses (portNo p)) 1 ∧
      s.Wrote t 0x0608 [portNo p, cause] ∧ s.tally.Grows t.tally 4 ∧ t.num Obj.moduleNode = s.num Obj.moduleNode ∧
      t = { s with prp := t.prp, dict := t.dict, tally := t.tally } := by
  obtain ⟨v, hv⟩ := setPathLost_form s p true
  obtain ⟨ho, htally, hstate, hnode, hnode'⟩ := pathLosses_apart p
  have ht : s.losePath p cause = ((s.setPathLost p true).count (Obj.pathLosses (portNo p))).logTally 0x0608 [portNo p, cause] :=
    if_neg (by rw [h]; decide)
  generalize hw : ({ s with prp := { s.prp with lost := s.prp.lost.set (portIx p) true } } : State) = w at hv
  have hnum : ∀ a, w.num a = s.num a := fun a => num_of_dict (by rw [← hw]) a
  have hwt : w.tally = s.tally := by rw [← hw]
  have hmark : ((w.setNum Obj.prpState v).count (Obj.pathLosses (portNo p))).num Obj.moduleNode = s.num Obj.moduleNode := by
    rw [State.num, count_obj _ 1 hnode hnode' (by decide), obj_setNum_ne _ _ (by decide)]
    exact hnum _
  dsimp only
  rw [ht, hv]
  refine ⟨by rw [logTally_rest, count_rest, ← hw]; rfl, ?_, ?_, ?_, ?_, by rw [logTally_rest, count_rest, ← hw]; rfl⟩
  · rw [logTally_num _ _ _ htally, count_num _ _ ho htally]
    unfold State.counted
    rw [num_setNum_ne _ _ hstate, hnum]
  · refine wrote_logTally (hwt ▸ count_extends (w.setNum Obj.prpState v) _ 1) rfl (logTally_num _ _ _ (by decide)) (by rw [logTally_rest])
  · exact hwt ▸ (count_grows (w.setNum Obj.prpState v) _ 1).trans (logDraft_grows _ _)
  · rw [logTally_num _ _ _ (by decide), hmark]

end Sys2Proof.Machine

end


section

namespace Sys2Proof.Machine

section

variable {s : State} {p : NetPort}

/-! ### Ports and paths, instruction by instruction (R143, R288) -/

/-- The causes as a chain of conditions: evaluating the match beside the time compared would unfold the product in it. -/
theorem pathFails_eq (s : State) (p : NetPort) (cause : Nat) : s.pathFails p cause =
    if cause = 1 then true else if cause = 2 then decide (s.prp.heardAt[portIx p] + s.num Obj.pathTimeout * 1000000 ≤ s.localNs)
    else if cause = 3 then s.rateLow (s.portRate (portNo p)) else false := by
  unfold State.pathFails
  generalize decide (s.prp.heardAt[portIx p] + s.num Obj.pathTimeout * 1000000 ≤ s.localNs) = b
  split <;> simp_all

theorem pathFails_timeout : s.pathFails p 2 = decide (s.prp.heardAt[portIx p] + s.num Obj.pathTimeout * 1000000 ≤ s.localNs) := by
  rw [pathFails_eq, if_neg (by decide), if_pos rfl]

theorem pathFails_rate : s.pathFails p 3 = s.rateLow (s.portRate (portNo p)) := by
  rw [pathFails_eq, if_neg (by decide), if_neg (by decide), if_pos rfl]

theorem pathLost_noTimeout (h : s.prp.heardAt[portIx p] + s.num Obj.pathTimeout * 1000000 > s.localNs) :
    exec (.pathLost p 2) s = .next s := by
  have hf : s.pathFails p (2 : Fin 4).val = false := pathFails_timeout.trans (decide_eq_false (Nat.not_le.2 h))
  show execPathLost p 2 s = _
  unfold execPathLost
  exact congrArg Host.Outcome.next (if_pos (by rw [hf]; simp))

theorem pathFails_of {cause : Fin 4} (h : cause = 1 ∨ (cause = 2 ∧ s.prp.heardAt[portIx p] + s.num Obj.pathTimeout * 1000000 ≤ s.localNs) ∨
    (cause = 3 ∧ s.rateLow (s.portRate (portNo p)) = true)) : s.pathFails p cause.val = true := by
  rcases h with rfl | ⟨rfl, h⟩ | ⟨rfl, h⟩
  · rfl
  · exact pathFails_timeout.trans (decide_eq_true h)
  · exact pathFails_rate.trans h

/-- The state in which a path is lost for a cause: a link that is down has no rate. -/
def State.linkFor (s : State) (p : NetPort) (cause : Nat) : State :=
  if cause = 1 then { s with prp := { s.prp with rates := s.prp.rates.set (portIx p) 0 } } else s

theorem linkFor_form (s : State) (p : NetPort) (cause : Nat) : ∃ r, s.linkFor p cause = { s with prp := { s.prp with rates := r } } ∧
    (cause = 1 → r[portIx p] = 0) := by
  unfold State.linkFor
  split
  · exact ⟨_, rfl, fun _ => Vector.getElem_set_self ..⟩
  · rename_i h
    exact ⟨_, rfl, fun e => absurd e h⟩

theorem pathLost_fails (cause : Fin 4) (ha : s.mode.answers = true) (h : s.pathFails p cause.val = true) :
    exec (.pathLost p cause) s = .next ((s.linkFor p cause.val).losePath p cause.val) := by
  show execPathLost p cause s = _
  unfold execPathLost
  exact congrArg Host.Outcome.next (if_neg (by rw [ha, h]; decide))

theorem pathLost_marks (cause : Fin 4) (ha : s.mode.answers = true) (hf : s.pathFails p cause.val = true) (hl : s.prp.lost[portIx p] = false) :
    ∃ t, exec (.pathLost p cause) s = .next t ∧
      t.prp.lost[portIx p] = true ∧ t.num (Obj.pathLosses (portNo p)) = s.counted (Obj.pathLosses (portNo p)) 1 ∧
      s.Wrote t 0x0608 [portNo p, cause.val] ∧ (cause = 1 → t.prp.rates[portIx p] = 0) ∧ t = { s with prp := t.prp, dict := t.dict, tally := t.tally } := by
  obtain ⟨r, hr, hzero⟩ := linkFor_form s p cause.val
  have hl' : (s.linkFor p cause.val).prp.lost[portIx p] = false := by rw [hr]; exact hl
  obtain ⟨hprp, hcount, hwrote, -, -, hrest⟩ := losePath_first hl' cause.val
  refine ⟨_, pathLost_fails cause ha hf, ?_, ?_, ?_, fun h1 => ?_, ?_⟩
  · rw [hprp]
    exact Vector.getElem_set_self ..
  · rw [hcount]
    exact counted_of_dict (by rw [hr]) ..
  · rw [hr] at hwrote ⊢
    exact hwrote
  · rw [hprp, hr]
    exact hzero (by rw [h1]; rfl)
  · rw [hrest, hr]

theorem pathRestored_stays (h : s.prp.lost[portIx p] = false ∨ s.portRate (portNo p) = 0 ∨
    s.prp.heardAt[portIx p] + s.num Obj.pathTimeout * 1000000 ≤ s.localNs ∨ s.rateLow (s.portRate (portNo p)) = true) :
    exec (.pathRestored p) s = .next s := by
  show execPathRestored p s = _
  unfold execPathRestored
  refine congrArg Host.Outcome.next (if_neg ?_)
  rcases h with h | h | h | h
  · rw [h]; simp
  · rw [h]; simp
  · rw [pathFails_timeout, decide_eq_true h]; simp
  · rw [pathFails_rate, h]; simp

theorem pathRestored_recovers (ha : s.mode.answers = true) (hl : s.prp.lost[portIx p] = true) (hr : s.portRate (portNo p) ≠ 0)
    (hh : s.localNs < s.prp.heardAt[portIx p] + s.num Obj.pathTimeout * 1000000) (hlow : s.rateLow (s.portRate (portNo p)) = false) :
    ∃ t, exec (.pathRestored p) s = .next t ∧ t.prp.lost[portIx p] = false ∧ s.Wrote t 0x0609 [portNo p] ∧
      t = { s with prp := t.prp, dict := t.dict, tally := t.tally } := by
  have hgo : exec (.pathRestored p) s = .next ((s.setPathLost p false).logTally 0x0609 [portNo p]) := by
    show execPathRestored p s = _
    unfold execPathRestored
    refine congrArg Host.Outcome.next (if_pos ?_)
    rw [ha, hl, pathFails_timeout, decide_eq_false (Nat.not_le.2 hh), pathFails_rate, hlow, decide_eq_true hr]
    rfl
  obtain ⟨v, hv⟩ := setPathLost_form s p false
  have hmark : (s.setPathLost p false).prp = { s.prp with lost := s.prp.lost.set (portIx p) false } := by rw [hv]; rfl
  have hrest : s.setPathLost p false = { s with prp := (s.setPathLost p false).prp, dict := (s.setPathLost p false).dict } := by rw [hv]; rfl
  generalize s.setPathLost p false = w at hgo hmark hrest
  have hext : s.tally.Extends w.tally := by rw [hrest]; exact TallyLog.extends_refl _
  exact ⟨_, hgo, by rw [logTally_rest, hmark]; exact Vector.getElem_set_self ..,
    wrote_logTally hext rfl (logTally_num _ _ _ (by decide)) (by rw [logTally_rest]), by rw [logTally_rest, hrest]⟩

/-- A port with its link up at a rate, its path heard. -/
def State.linkUp (s : State) (p : NetPort) (rate : Nat) : State := ({ s with prp := { s.prp with rates := s.prp.rates.set (portIx p) rate } } : State).hear p

theorem linkUp_rate (s : State) (p : NetPort) (rate : Nat) : (s.linkUp p rate).prp.rates[portIx p] = rate := Vector.getElem_set_self ..

theorem portLinkUp_eq (ha : s.mode.answers = true) (rate : Nat) : exec (.portLinkUp p rate) s = .next
    (if s.rateLow rate then ((s.linkUp p rate).logTally 0x060A [portNo p, rate]).losePath p 3 else (s.linkUp p rate).announceAll) := by
  show execPortLinkUp p rate s = _
  unfold execPortLinkUp
  rw [← rateLow_congr (s := s) (t := s.linkUp p rate) rfl rate]
  exact congrArg Host.Outcome.next (if_neg (by rw [ha]; decide))

theorem portLinkUp_low (ha : s.mode.answers = true) {rate : Nat} (hl : s.rateLow rate = true) :
    ∃ t, exec (.portLinkUp p rate) s = .next t ∧ t.prp.rates[portIx p] = rate ∧ t.prp.lost[portIx p] = true ∧
      s.Wrote t 0x060A [portNo p, rate] ∧ t.out = s.out := by
  have hgo := portLinkUp_eq (p := p) ha rate
  rw [if_pos hl] at hgo
  generalize hu : s.linkUp p rate = u at hgo
  have hrate : u.prp.rates[portIx p] = rate := hu ▸ linkUp_rate s p rate
  have hext : s.tally.Extends u.tally := by rw [← hu]; exact TallyLog.extends_refl _
  have hout : u.out = s.out := by rw [← hu]; rfl
  have hnode : (u.logTally 0x060A [portNo p, rate]).num Obj.moduleNode = u.num Obj.moduleNode := logTally_num _ _ _ (by decide)
  refine ⟨_, hgo, ?_⟩
  by_cases hp : (u.logTally 0x060A [portNo p, rate]).prp.lost[portIx p] = true
  · rw [losePath_lost hp]
    refine ⟨by rw [logTally_rest]; exact hrate, hp, wrote_logTally hext rfl hnode (by rw [logTally_rest]), by rw [logTally_rest]; exact hout⟩
  · obtain ⟨hprp, -, -, hgrow, hsame, hrest⟩ := losePath_first (Bool.not_eq_true _ ▸ hp) 3
    refine ⟨by rw [hprp, logTally_rest]; exact hrate, by rw [hprp]; exact Vector.getElem_set_self ..,
      wrote_of_grows hext hgrow (by decide) (hsame.trans hnode) (by rw [hrest, logTally_rest]), by rw [hrest, logTally_rest]; exact hout⟩

theorem portLinkUp_usable (ha : s.mode.answers = true) {rate : Nat} (hl : s.rateLow rate = false) :
    ∃ t, exec (.portLinkUp p rate) s = .next t ∧ t.prp.rates[portIx p] = rate ∧ t.prp.lost = s.prp.lost := by
  have hgo := portLinkUp_eq (p := p) ha rate
  rw [if_neg (by rw [hl]; decide)] at hgo
  have hsent := (sends_announceAll (s.linkUp p rate)).ports
  exact ⟨_, hgo, by rw [hsent.rates]; exact linkUp_rate s p rate, by rw [hsent.lost]; rfl⟩

end

/-! ### Resolutions and supervision (R99, R287) -/

/-- The numbers of the frames of both addresses after one that left. -/
theorem prpSend_prp (s : State) (kind : SentKind) (peer : Nat) (head : NetHead) (data : Bytes) :
    (s.prpSend kind peer false head data).prp = { s.prp with moduleSeq := (s.prp.moduleSeq + 1) % 65536 } := by
  have hcarried : ∀ (u : State) (k seq : Nat), (u.sendCarried kind peer k seq head data).prp = u.prp := fun u k seq => by
    unfold State.sendCarried State.sendOn
    split
    · split <;> simp
    · rfl
  rw [prpSend_eq, hcarried, hcarried]
  rfl

theorem prpSupervision_leaves {s : State} (ha : s.mode.answers = true) : ∃ t, exec .prpSupervision s = .next t ∧
    s.LeavesOnPorts t .prpSupervision 0 ([0, 1] ++ beBytes 2 s.prp.moduleSeq ++ [20, 6] ++ s.moduleMacBytes ++ [0, 0]) ∧
    t.prp = { s.prp with moduleSeq := (s.prp.moduleSeq + 1) % 65536 } := by
  refine ⟨_, ?_, prpSend_leaves s .prpSupervision 0 false
    (s.ethHead .prpSupervision false (some 0x01154E000100) etherSupervision) _, prpSend_prp ..⟩
  show execPrpSupervision s = _
  unfold execPrpSupervision
  exact congrArg Host.Outcome.next (if_pos ha)

/-- The cache of resolutions after a destination's answer, or the want of one. -/
def arpAfter (cache : Assoc Nat) (ip : Nat) (mac : Option Nat) : Assoc Nat :=
  match mac with
  | some m => if (Assoc.get? cache ip).isSome || cache.length < 1088 then Assoc.set cache ip m else cache
  | none => Assoc.erase cache ip

theorem arpAfter_get {cache : Assoc Nat} (h : cache.length < 1088) (ip : Nat) (mac : Option Nat) : Assoc.get? (arpAfter cache ip mac) ip = mac := by
  cases mac with
  | none => exact assoc_get_erase_self ..
  | some m =>
    unfold arpAfter
    dsimp only
    rw [if_pos (by rw [decide_eq_true h]; simp)]
    exact assoc_get_set_self ..

theorem arpRefresh_resolves {s : State} {ip : Nat} (mac : Option Nat) (hn : s.netServes = true) (hc : s.pdHops.contains ip = true) (hip : ip ≠ 0)
    (hl : s.clp.arp.length < 1088) : ∃ t, exec (.arpRefresh ip mac) s = .next t ∧
      s.LeavesOnPorts t .arp (ip * 65536) (arpBytes 1 s.moduleMacBytes s.ownIp (zeros 6) ip) ∧ Assoc.get? t.clp.arp ip = mac := by
  let sent := s.prpSend .arp (ip * 65536) false (s.ethHead .arp false (some broadcastMac) etherArp) (arpBytes 1 s.moduleMacBytes s.ownIp (zeros 6) ip)
  have hsent : s.Sends sent := sends_prpSend ..
  refine ⟨{ sent with clp := { sent.clp with arp := arpAfter sent.clp.arp ip mac } }, ?_,
    (prpSend_leaves s .arp (ip * 65536) false (s.ethHead .arp false (some broadcastMac) etherArp) _).congr ⟨rfl, rfl, rfl⟩ rfl rfl,
    arpAfter_get (by rw [hsent.rest]; exact hl) ip mac⟩
  show execArpRefresh ip mac s = _
  unfold execArpRefresh
  rw [hn, hc, decide_eq_true hip]
  cases mac <;> rfl

end Sys2Proof.Machine

end


section

namespace Sys2Proof.Machine

/-! ### Answers at the network ports (R65, R95, R97) -/

section

variable {s : State} {rx : NetRx}

/-- A module answers for its own address. -/
theorem answersIp_own (h : s.ownIp ≠ 0) : s.answersIp s.ownIp = true := by simp [State.answersIp, h]

theorem netServes_ownIp (h : s.netServes = true) : s.ownIp ≠ 0 := by
  unfold State.netServes at h
  rw [Bool.and_eq_true] at h
  exact of_decide_eq_true h.2

/-- What exceeds a limit is counted, and answered with nothing. -/
theorem rateDropped_counted (s : State) : (s.count Obj.rateDropped).num Obj.rateDropped = s.counted Obj.rateDropped 1 ∧ (s.count Obj.rateDropped).out = s.out :=
  ⟨count_num s 1 (by decide) (by decide), by simp⟩

variable (hn : s.netServes = true) (ht : (s.prpTake rx).2 = true)
include hn ht

theorem arpRequest_limited (sender target : Nat)
    (hl : 100 ≤ (lastSecond (s.prpTake rx).1.localNs (s.prpTake rx).1.clp.arpTimes[portIx rx.port]).length) :
    exec (.arpRequest (.net rx) sender target) s = .next ((s.prpTake rx).1.count Obj.rateDropped) := by
  show execArpRequest (.net rx) sender target s = _
  exact congrArg Host.Outcome.next ((netArp_taken hn ht sender target).trans (if_pos hl))

theorem arpRequest_own (sender : Nat) {target : Nat}
    (hl : (lastSecond (s.prpTake rx).1.localNs (s.prpTake rx).1.clp.arpTimes[portIx rx.port]).length < 100)
    (ho : (s.prpTake rx).1.ownIp = target) (h0 : target ≠ 0) : ∃ t, exec (.arpRequest (.net rx) sender target) s = .next t ∧
      (s.prpTake rx).1.LeavesOnPorts t .arp (sender * 65536) (arpBytes 2 (s.prpTake rx).1.moduleMacBytes target (beBytes 6 rx.mac) sender) := by
  have h := (netArp_taken hn ht sender target).trans (if_neg (by omega))
  generalize (s.prpTake rx).1 = u at hl ho h ⊢
  dsimp only at h
  generalize u.clp.arpTimes.set (portIx rx.port) (lastSecond u.localNs u.clp.arpTimes[portIx rx.port] ++ [u.localNs]) = ts at h
  generalize hv : ({ u with clp := { u.clp with arpTimes := ts } } : State) = v at h
  have hown : v.ownIp = target := ho ▸ ownIp_congr (by rw [← hv]) (num_of_dict (by rw [← hv]) _)
  have hmac : v.moduleMacBytes = u.moduleMacBytes := congrArg (fit 6) (obj_of_dict (by rw [← hv]) _)
  rw [if_pos (hown ▸ answersIp_own (hown ▸ h0)), hown, decide_eq_false (by simp), if_neg (by decide), hmac] at h
  exact ⟨_, congrArg Host.Outcome.next h, (prpSend_leaves v ..).congr ⟨by rw [← hv], by rw [← hv], by rw [← hv]⟩ (by rw [← hv]) rfl⟩

theorem arpRequest_other (sender : Nat) {target : Nat}
    (hl : (lastSecond (s.prpTake rx).1.localNs (s.prpTake rx).1.clp.arpTimes[portIx rx.port]).length < 100)
    (ha : (s.prpTake rx).1.answersIp target = false) : ∃ t, exec (.arpRequest (.net rx) sender target) s = .next t ∧ t.out = (s.prpTake rx).1.out ∧
      t = { (s.prpTake rx).1 with clp := { (s.prpTake rx).1.clp with arpTimes := t.clp.arpTimes } } := by
  have h := (netArp_taken hn ht sender target).trans (if_neg (by omega))
  generalize (s.prpTake rx).1 = u at hl ha h ⊢
  exact ⟨_, congrArg Host.Outcome.next (h.trans (if_neg (Bool.eq_false_iff.1 ha))), rfl, rfl⟩

theorem icmpEcho_limited (src : Nat) (data : Bytes)
    (hl : 10 ≤ (lastSecond (s.prpTake rx).1.localNs (s.prpTake rx).1.clp.icmpTimes[portIx rx.port]).length) :
    exec (.icmpEcho (.net rx) src (s.prpTake rx).1.ownIp data) s = .next ((s.prpTake rx).1.count Obj.rateDropped) := by
  have ho := answersIp_own ((hears_prpTake s rx).ownIp ▸ netServes_ownIp hn)
  show execIcmpEcho (.net rx) src _ data s = _
  exact congrArg Host.Outcome.next ((netEcho_taken hn ht src data ho).trans (if_pos hl))

theorem icmpEcho_answered (src : Nat) (data : Bytes)
    (hl : (lastSecond (s.prpTake rx).1.localNs (s.prpTake rx).1.clp.icmpTimes[portIx rx.port]).length < 10) :
    ∃ t, exec (.icmpEcho (.net rx) src (s.prpTake rx).1.ownIp data) s = .next t ∧
      (s.prpTake rx).1.LeavesOnPorts t .icmp (src * 65536) (icmpReply data) := by
  have ho := answersIp_own ((hears_prpTake s rx).ownIp ▸ netServes_ownIp hn)
  have h := (netEcho_taken hn ht src data ho).trans (if_neg (by omega))
  generalize (s.prpTake rx).1 = u at hl ho h ⊢
  dsimp only at h
  generalize u.clp.icmpTimes.set (portIx rx.port) (lastSecond u.localNs u.clp.icmpTimes[portIx rx.port] ++ [u.localNs]) = ts at h
  generalize hv : ({ u with clp := { u.clp with icmpTimes := ts } } : State) = v at h
  have hleft := prpSend_leaves v .icmp (src * 65536) (decide (u.ownIp ≠ v.ownIp))
    { v.ipHead .icmp (decide (u.ownIp ≠ v.ownIp)) src none [] with dst := some rx.mac } (icmpReply data)
  rw [← h] at hleft
  exact ⟨_, rfl, hleft.congr ⟨by rw [← hv], by rw [← hv], by rw [← hv]⟩ (by rw [← hv]) rfl⟩

theorem igmpQuery_reports : ∃ t, exec (.igmpQuery rx) s = .next t ∧ ∀ g ∈ netGroups s.sections, ∀ k < 2, (s.prpTake rx).1.portRate k ≠ 0 →
    ∃ m ∈ t.out, m.kind = .igmp ∧ m.unit = k ∧ m.peer = g * 65536 ∧ igmpReport g <+: m.data := by
  obtain ⟨-, more, hout, hm⟩ := sendReports_leave (netGroups s.sections) (s.prpTake rx).1
  refine ⟨_, igmpQuery_taken hn ht, fun g hg k hk hr => ?_⟩
  obtain ⟨m, hmem, h⟩ := hm g hg k hk hr
  exact ⟨m, hout ▸ List.mem_append_right _ hmem, h⟩

end

/-! ### Answers at the service port (R66, R95) -/

section

variable {s : State} (mac ns : Nat)

/-- What exceeds a limit of the service port is counted. -/
theorem usbLimited_counted : ((s.atOffset ns).count Obj.rateDropped).num Obj.rateDropped = s.counted Obj.rateDropped 1 ∧
    ((s.atOffset ns).count Obj.rateDropped).out = s.out := by
  obtain ⟨hnum, hout⟩ := rateDropped_counted (s.atOffset ns)
  obtain ⟨l, t, c, hf⟩ := atOffset_form s ns
  rw [hf] at hnum hout ⊢
  exact ⟨hnum.trans (counted_of_dict rfl _ _), hout⟩

variable (hs : s.serves = true)
include hs

theorem usbArp_exec (ip target : Nat) : exec (.arpRequest (.usb mac ns) ip target) s = .next (s.usbArp mac ns ip target) :=
  congrArg Host.Outcome.next (if_pos hs)

theorem usbEcho_exec (ip target : Nat) (data : Bytes) : exec (.icmpEcho (.usb mac ns) ip target data) s = .next (s.usbEcho mac ns ip target data) :=
  congrArg Host.Outcome.next (if_pos hs)

end

/-! ### Supervision of the peers (R287, R507) -/

section

variable {s : State} {d : Datagram} (husb : d.usb = false) (hkind : d.kind = .supervision) (ha : s.mode.answers = true)
  (hv : (s.prpTake d.rx).1.vlanTakes d.rx.vlan = true)
include husb hkind ha hv

theorem supervision_taken :
    let u := (s.prpTake d.rx).1
    let ts := lastSecond u.localNs u.prp.supervised[portIx d.rx.port]
    exec (.clpPacketReceive d) s = .next (if supervisionLimit ≤ ts.length then u.count Obj.framesDiscarded else
      { u with prp := { u.prp with
          peers := if (Assoc.get? u.prp.peers d.rx.mac).isSome || decide (u.prp.peers.length < peerLimit) then Assoc.set u.prp.peers d.rx.mac u.localNs else u.prp.peers
          supervised := u.prp.supervised.set (portIx d.rx.port) (ts ++ [u.localNs]) } }) := by
  have hgo : exec (.clpPacketReceive d) s = .next (s.takeSupervision d.rx) := by
    show execClpPacketReceive d s = _
    unfold execClpPacketReceive
    rw [husb, hkind, ha]
    rfl
  rw [hgo]
  refine congrArg Host.Outcome.next ?_
  unfold State.takeSupervision
  generalize s.prpTake d.rx = x at hv
  exact if_neg (by rw [hv]; simp)

theorem supervision_limited
    (hl : 64 ≤ (lastSecond (s.prpTake d.rx).1.localNs (s.prpTake d.rx).1.prp.supervised[portIx d.rx.port]).length) :
    ∃ t, exec (.clpPacketReceive d) s = .next t ∧ t.num Obj.framesDiscarded = (s.prpTake d.rx).1.counted Obj.framesDiscarded 1 ∧
      t.prp = (s.prpTake d.rx).1.prp := by
  have h := supervision_taken husb hkind ha hv
  dsimp only at h
  rw [if_pos (show supervisionLimit ≤ _ from hl)] at h
  exact ⟨_, h, count_num _ 1 (by decide) (by decide), by simp⟩

theorem supervision_kept
    (hl : (lastSecond (s.prpTake d.rx).1.localNs (s.prpTake d.rx).1.prp.supervised[portIx d.rx.port]).length < 64)
    (hp : (s.prpTake d.rx).1.prp.peers.length < 1088) : ∃ t, exec (.clpPacketReceive d) s = .next t ∧
      Assoc.get? t.prp.peers d.rx.mac = some (s.prpTake d.rx).1.localNs ∧ t = { (s.prpTake d.rx).1 with prp := t.prp } := by
  have h := supervision_taken husb hkind ha hv
  dsimp only at h
  rw [if_neg (show ¬supervisionLimit ≤ _ from Nat.not_le.2 hl), if_pos (show _ = true by rw [decide_eq_true (show _ < peerLimit from hp)]; simp)] at h
  exact ⟨_, h, assoc_get_set_self .., rfl⟩

end

end Sys2Proof.Machine

end

section

open Sys2Proof Sys2Proof.Machine

/-- Settles O20: what each answer, path and supervision frame moves is said once per instruction, and the answer's frames follow from `prpSend_leaves`. -/
theorem networkServicesAnswer : Obligations.NetworkServicesAnswer := by
  intro s rx
  refine ⟨fun sender target => ⟨fun h => ?_, fun hn ht => ⟨fun hl => ?_, arpRequest_own hn ht sender, arpRequest_other hn ht sender⟩⟩,
    fun src data hn ht => ⟨fun hl => ?_, icmpEcho_answered hn ht src data⟩, fun mac ns data => ⟨fun h => ?_, fun hs hu => ?_⟩,
    igmpQuery_reports, fun ip mac hn hc hip hl => ?_, prpSupervision_leaves, fun p rate ha => ⟨portLinkUp_low ha, portLinkUp_usable ha⟩,
    fun p cause ha hc hl => pathLost_marks cause ha (pathFails_of hc) hl, fun p => ⟨pathLost_noTimeout, pathRestored_stays, pathRestored_recovers⟩,
    fun d hd husb hkind hv ha => ?_⟩
  · show execArpRequest (.net rx) sender target s = _
    exact congrArg Host.Outcome.next (if_pos (by rw [h]; rfl))
  · exact ⟨_, arpRequest_limited hn ht sender target hl, rateDropped_counted _⟩
  · exact ⟨_, icmpEcho_limited hn ht src data hl, rateDropped_counted _⟩
  · exact ⟨congrArg Host.Outcome.next (if_neg (by rw [h]; decide)), congrArg Host.Outcome.next (if_neg (by rw [h]; decide))⟩
  · obtain ⟨hover, hbelow⟩ := usbArp_host mac ns hs hu
    obtain ⟨hover', hbelow'⟩ := usbEcho_host mac ns hs hu data
    refine ⟨fun hl => ⟨_, usbArp_exec mac ns hs .., ?_⟩, fun hl => ?_, fun hl => ⟨_, usbEcho_exec mac ns hs .., ?_⟩, fun hl => ?_⟩
    · rw [hover hl]
      exact usbLimited_counted ns
    · obtain ⟨m, hm⟩ := hbelow hl
      exact ⟨_, m, usbArp_exec mac ns hs .., hm⟩
    · rw [hover' hl]
      exact usbLimited_counted ns
    · obtain ⟨m, hm⟩ := hbelow' hl
      exact ⟨_, m, usbEcho_exec mac ns hs .., hm⟩
  · obtain ⟨t, hgo, hleft, hget⟩ := arpRefresh_resolves mac hn hc hip hl
    exact ⟨t, hgo, hleft, fun _ => hget⟩
  · subst hd
    exact ⟨supervision_limited husb hkind ha hv, supervision_kept husb hkind ha hv⟩

end


section

namespace Sys2Proof.Machine

/-! ### What the PTP clock moves (chapter 10) -/

/-- Between `s` and `t` the PTP clock acted: of the objects at most `os` moved, the log went on, and beside them only what the clock and the ports
keep, what left, and the draws that the spec leaves free. -/
structure State.TimeActs (s t : State) (os : List Nat) : Prop where
  objects : s.SameObjects t os
  tally : s.tally.Extends t.tally
  rest : t = { s with dict := t.dict, tally := t.tally, time := t.time, prp := t.prp, out := t.out, freeCount := t.freeCount }

section

variable {s t u : State} {os : List Nat}

theorem State.TimeActs.refl (s : State) (os : List Nat) : s.TimeActs s os := ⟨fun _ _ => rfl, TallyLog.extends_refl _, rfl⟩

theorem State.TimeActs.trans (h : s.TimeActs t os) (k : t.TimeActs u os) : s.TimeActs u os :=
  ⟨fun a ha => (k.objects a ha).trans (h.objects a ha), TallyLog.extends_trans h.tally k.tally, by rw [k.rest, h.rest]⟩

theorem State.TimeActs.mono {ps : List Nat} (h : s.TimeActs t os) (hsub : os ⊆ ps) : s.TimeActs t ps :=
  ⟨fun a ha => h.objects a fun hm => ha (hsub hm), h.tally, h.rest⟩

theorem State.TimeActs.ite {c : Prop} [Decidable c] (h : s.TimeActs t os) (k : s.TimeActs u os) : s.TimeActs (if c then t else u) os := by
  split
  · exact h
  · exact k

variable (h : s.TimeActs t os)
include h

theorem State.TimeActs.num {a : Nat} (ha : a ∉ os) : t.num a = s.num a := num_congr (h.objects a ha)

theorem State.TimeActs.flag {a : Nat} (ha : a ∉ os) : t.flag a = s.flag a := by
  unfold State.flag
  rw [h.num ha]

theorem State.TimeActs.counted {a : Nat} (ha : a ∉ os) (n : Nat) : t.counted a n = s.counted a n := by
  unfold State.counted
  rw [h.num ha]

theorem State.TimeActs.timeStateIs (ha : Obj.ptpTimeState ∉ os) (k : TimeState) : t.timeStateIs k = s.timeStateIs k := by
  unfold State.timeStateIs
  rw [h.num ha]

theorem State.TimeActs.started (a : Nat) : t.started a = s.started a := by
  unfold State.started
  rw [h.rest]

theorem State.TimeActs.mode : t.mode = s.mode := by rw [h.rest]

theorem State.TimeActs.timeNs : t.timeNs = s.timeNs := by rw [h.rest]

theorem State.TimeActs.localNs : t.localNs = s.localNs := by rw [h.rest]

theorem State.TimeActs.masterCapable : t.masterCapable = s.masterCapable := by
  unfold State.masterCapable
  rw [h.started, h.mode]

theorem State.TimeActs.wrongDomain (m : PtpMsg) : t.wrongDomain m = s.wrongDomain m := by
  unfold State.wrongDomain
  rw [h.started]

theorem State.TimeActs.shadowTime (ha : Obj.stationStateDetail ∉ os) : t.shadowTime = s.shadowTime := by
  unfold State.shadowTime State.degraded
  rw [h.mode, detail_congr (h.objects _ ha)]

theorem State.TimeActs.clockIdentity (ha : Obj.moduleMac ∉ os) : t.clockIdentity = s.clockIdentity := by
  unfold State.clockIdentity
  rw [h.objects _ ha]

theorem State.TimeActs.ownKey (ha : Obj.moduleMac ∉ os) : t.ownKey = s.ownKey := by
  unfold State.ownKey
  rw [h.started, h.started, h.masterCapable, h.clockIdentity ha]

theorem State.TimeActs.pathDelay (p : NetPort) (ha : Obj.portPathDelay (portNo p) ∉ os) : t.pathDelay p = s.pathDelay p := by
  unfold State.pathDelay
  rw [h.num ha]

theorem State.TimeActs.asymmetry (p : NetPort) (ha : Obj.portAsymmetry (portNo p) ∉ os) : t.asymmetry p = s.asymmetry p := by
  unfold State.asymmetry
  rw [h.num ha]

theorem State.TimeActs.portIs (p : NetPort) (k : Nat) (ha : Obj.portState (portNo p) ∉ os) : t.portIs p k = s.portIs p k := by
  unfold State.portIs
  rw [h.num ha]

end

section

variable (s : State) {os : List Nat}

theorem timeActs_time (x : TimeUnit) : s.TimeActs { s with time := x } os := ⟨fun _ _ => rfl, TallyLog.extends_refl _, rfl⟩

theorem timeActs_setPtpPort (p : NetPort) (x : PtpPort) : s.TimeActs (s.setPtpPort p x) os := timeActs_time ..

theorem timeActs_setObj {a : Nat} (ha : a ∈ os) (v : Bytes) : s.TimeActs (s.setObj a v) os :=
  ⟨fun _ hq => obj_setObj_ne s v fun e => hq (e ▸ ha), TallyLog.extends_refl _, rfl⟩

theorem timeActs_setNum {a : Nat} (ha : a ∈ os) (v : Nat) : s.TimeActs (s.setNum a v) os := timeActs_setObj s ha _

theorem timeActs_setFlag {a : Nat} (ha : a ∈ os) (b : Bool) : s.TimeActs (s.setFlag a b) os := timeActs_setObj s ha _

theorem timeActs_setDetail (ha : Obj.stationStateDetail ∈ os) (i : Nat) (b : Bool) : s.TimeActs (s.setDetail i b) os := timeActs_setNum s ha _

theorem timeActs_logTally (ht : tallyObjects ⊆ os) (c : Nat) (ps : List Nat) : s.TimeActs (s.logTally c ps) os :=
  ⟨fun _ hq => logTally_obj s c ps fun hm => hq (ht hm), logDraft_extends .., by rw [logTally_rest]⟩

theorem timeActs_count {a : Nat} (ha : a ∈ os) (ho : overflowAddr a ∈ os) (ht : tallyObjects ⊆ os) : s.TimeActs (s.count a) os :=
  ⟨fun _ hq => count_obj s 1 (fun e => hq (e ▸ ha)) (fun e => hq (e ▸ ho)) fun hm => hq (ht hm), count_extends .., by rw [count_rest]⟩

end

/-! ### A port's record among the clock's -/

section

variable (s : State) (p : NetPort)

@[simp] theorem ptpPort_setPtpPort_self (x : PtpPort) : (s.setPtpPort p x).ptpPort p = x := Vector.getElem_set_self ..

@[simp] theorem ptpPort_setPtpPort_other (x : PtpPort) : (s.setPtpPort p x).ptpPort (otherPort p) = s.ptpPort (otherPort p) := by
  cases p <;> exact Vector.getElem_set_ne (by decide) (by decide) (by decide)

theorem ptpPort_congr {s t : State} (h : t.time.ports = s.time.ports) (p : NetPort) : t.ptpPort p = s.ptpPort p := by
  unfold State.ptpPort
  rw [h]

end

/-! ### A message reaches a port (R67, R292, R507) -/

/-- The counters that a message's arrival moves. -/
def arrivalObjects : List Nat := [Obj.rxFrames 0, Obj.rxFrames 1] ++ [Obj.rxFrames 0, Obj.rxFrames 1].map overflowAddr ++ tallyObjects

/-- A message is counted on its port, whose path is heard. -/
def State.ptpHear (s : State) (p : NetPort) : State := (s.count (Obj.rxFrames (portNo p))).hear p

/-- The state in which a message that is taken acts. -/
def State.ptpReached (s : State) (p : NetPort) : State :=
  (s.ptpHear p).setPtpPort p { (s.ptpHear p).ptpPort p with
    arrivals := lastSecond (s.ptpHear p).localNs ((s.ptpHear p).ptpPort p).arrivals ++ [(s.ptpHear p).localNs] }

section

variable (s : State) (p : NetPort)

theorem hear_rest : s.hear p = { s with prp := (s.hear p).prp } := rfl

theorem ptpHear_rest : s.ptpHear p = { s with dict := (s.ptpHear p).dict, tally := (s.ptpHear p).tally, prp := (s.ptpHear p).prp } := by
  unfold State.ptpHear
  rw [hear_rest, count_rest]

theorem ptpHear_time : (s.ptpHear p).time = s.time := by rw [ptpHear_rest]

theorem timeActs_hear {os : List Nat} : s.TimeActs (s.hear p) os := ⟨fun _ _ => rfl, TallyLog.extends_refl _, rfl⟩

theorem timeActs_ptpHear : s.TimeActs (s.ptpHear p) arrivalObjects := by
  have h : s.TimeActs (s.count (Obj.rxFrames (portNo p))) arrivalObjects := by
    cases p <;> exact timeActs_count s (by decide) (by decide) (by decide)
  exact h.trans (timeActs_hear ..)

theorem timeActs_ptpReached : s.TimeActs (s.ptpReached p) arrivalObjects := (timeActs_ptpHear s p).trans (timeActs_setPtpPort ..)

/-- What a message's arrival leaves of its port's record. -/
theorem ptpReached_port : ∃ ts, (s.ptpReached p).ptpPort p = { s.ptpPort p with arrivals := ts } := by
  have hport := ptpPort_congr (s := s) (t := s.ptpHear p) (by rw [ptpHear_time]) p
  unfold State.ptpReached
  rw [ptpPort_setPtpPort_self, hport]
  exact ⟨_, rfl⟩

theorem ptpReached_other : (s.ptpReached p).ptpPort (otherPort p) = s.ptpPort (otherPort p) := by
  unfold State.ptpReached
  rw [ptpPort_setPtpPort_other, ptpPort_congr (s := s) (by rw [ptpHear_time])]

/-- The clock's own record but for its ports. -/
theorem ptpReached_time : ∃ ports, (s.ptpReached p).time = { s.time with ports := ports } := by
  unfold State.ptpReached
  rw [State.setPtpPort_time, ptpHear_time]
  exact ⟨_, rfl⟩

variable {s} {vlan : Option Nat} {udp : Bool} (act : State → State)

theorem ptpTake_off (h : s.ptpOn = false) : s.ptpTake p vlan udp act = s := if_pos (by rw [h]; rfl)

/-- A message while PTP is served: what its arrival does decides on its state before it. -/
theorem ptpTake_on (h : s.ptpOn = true) : s.ptpTake p vlan udp act = if s.vlanTakes vlan = false then (s.ptpHear p).count Obj.framesDiscarded
    else if 256 ≤ (lastSecond s.localNs (s.ptpPort p).arrivals).length ∨ udp ≠ s.ptpUdp then (s.ptpHear p).ptpDiscard else act (s.ptpReached p) := by
  have hh := timeActs_ptpHear s p
  have hport := ptpPort_congr (s := s) (t := s.ptpHear p) (by rw [ptpHear_time]) p
  have hvlan : (s.ptpHear p).vlanTakes vlan = s.vlanTakes vlan := by
    unfold State.vlanTakes
    simp only [hh.started]
  have hudp : (s.ptpHear p).ptpUdp = s.ptpUdp := by
    unfold State.ptpUdp
    rw [hh.started]
  rw [← hvlan, ← hudp, ← hport, ← hh.localNs]
  unfold State.ptpTake
  rw [h]
  exact (if_neg (by decide)).trans (if_congr (by rw [Bool.not_eq_true']; rfl) rfl (if_congr (by rw [Bool.or_eq_true, decide_eq_true_iff, decide_eq_true_iff]; rfl) rfl rfl))

end

end Sys2Proof.Machine

end


section

namespace Sys2Proof.Machine

/-! ### The instructions of PTP messages (R292) -/

/-- An instruction hands its message to a port, where a message of another domain, and one that is foreign to the clock, is discarded. -/
def PtpHandled (i : Instr) (p : NetPort) (vlan : Option Nat) (udp : Bool) (domain : Nat) (foreign : State → Prop) : Prop :=
  ∃ act : State → State, (∀ s, exec i s = .next (s.ptpTake p vlan udp act)) ∧
    ∀ u, domain ≠ u.started Obj.ptpDomain ∨ foreign u → act u = u.ptpDiscard

section

variable (p : NetPort) (m : PtpMsg)

theorem wrongDomain_iff (s : State) : s.wrongDomain m = true ↔ m.domain ≠ s.started Obj.ptpDomain := decide_eq_true_iff

theorem handled_sync : PtpHandled (.sync p m) p m.vlan m.udp m.domain fun _ => False :=
  ⟨_, fun _ => rfl, fun u h => if_pos ((wrongDomain_iff m u).2 (h.resolve_right id))⟩

theorem handled_followUp : PtpHandled (.followUp p m) p m.vlan m.udp m.domain fun _ => False :=
  ⟨_, fun _ => rfl, fun u h => if_pos ((wrongDomain_iff m u).2 (h.resolve_right id))⟩

theorem handled_delayResp : PtpHandled (.delayResp p m) p m.vlan m.udp m.domain fun u => u.endToEnd = false :=
  ⟨_, fun _ => rfl, fun u h => if_pos (by simpa [wrongDomain_iff] using h)⟩

theorem handled_delayReq : PtpHandled (.delayReq p m) p m.vlan m.udp m.domain fun u => u.endToEnd = false :=
  ⟨_, fun _ => rfl, fun u h => if_pos (by simpa [wrongDomain_iff] using h)⟩

theorem handled_pdelayReq (tx : Nat) : PtpHandled (.pdelayReq p m tx) p m.vlan m.udp m.domain fun u => u.endToEnd = true :=
  ⟨_, fun _ => rfl, fun u h => if_pos (by simpa [wrongDomain_iff] using h)⟩

theorem handled_pdelayResp : PtpHandled (.pdelayResp p m) p m.vlan m.udp m.domain fun u => u.endToEnd = true :=
  ⟨_, fun _ => rfl, fun u h => if_pos (by simpa [wrongDomain_iff] using h)⟩

theorem handled_pdelayRespFollowUp : PtpHandled (.pdelayRespFollowUp p m) p m.vlan m.udp m.domain fun u => u.endToEnd = true :=
  ⟨_, fun _ => rfl, fun u h => if_pos (by simpa [wrongDomain_iff] using h)⟩

theorem handled_announce (a : PtpAnnounce) : PtpHandled (.announce p a) p a.vlan a.udp a.domain fun _ => False :=
  ⟨_, fun _ => rfl, fun u h => if_pos (by simp [h.resolve_right id])⟩

end

/-- A message that a port takes acts once it has reached the port. -/
theorem ptpTake_taken {s : State} {p : NetPort} {vlan : Option Nat} {udp : Bool} (ht : s.PtpTakes p vlan udp) (act : State → State) :
    s.ptpTake p vlan udp act = act (s.ptpReached p) := by
  obtain ⟨hon, hl, hv, hu⟩ := ht
  rw [ptpTake_on p act hon, if_neg (by rw [hv]; decide), if_neg (by rintro (h | h); exacts [absurd h (by omega), h hu])]

/-- An instruction screens its message, `m` or `a`, before it takes it (R67, R292, R507, Table 10-1); `other` is that it is of the delay mechanism not
configured. -/
def State.PtpScreens (s : State) (p : NetPort) (m : PtpMsg) (a : PtpAnnounce) (i : Instr) (other : Prop) : Prop :=
  (s.ptpOn = false → exec i s = .next s) ∧
  (s.ptpOn = true → s.vlanTakes m.vlan = false → s.vlanTakes a.vlan = false → ∃ t, exec i s = .next t ∧
    t.num Obj.framesDiscarded = s.counted Obj.framesDiscarded 1 ∧ t = { s with dict := t.dict, tally := t.tally, prp := t.prp }) ∧
  (s.ptpOn = true → s.vlanTakes m.vlan = true → s.vlanTakes a.vlan = true →
    256 ≤ (lastSecond s.localNs (s.ptpPort p).arrivals).length ∨ (m.udp ≠ s.ptpUdp ∧ a.udp ≠ s.ptpUdp) → ∃ t, exec i s = .next t ∧
    t.num Obj.ptpDiscarded = s.counted Obj.ptpDiscarded 1 ∧ t = { s with dict := t.dict, tally := t.tally, prp := t.prp }) ∧
  (s.PtpTakes p m.vlan m.udp → s.PtpTakes p a.vlan a.udp →
    (m.domain ≠ s.started Obj.ptpDomain → a.domain ≠ s.started Obj.ptpDomain → ∃ t, exec i s = .next t ∧
      t.num Obj.ptpDiscarded = s.counted Obj.ptpDiscarded 1 ∧ (t.ptpPort p).masters = (s.ptpPort p).masters ∧ t.timeNs = s.timeNs) ∧
    (other → ∃ t, exec i s = .next t ∧ t.num Obj.ptpDiscarded = s.counted Obj.ptpDiscarded 1 ∧ t.out = s.out))

section

variable {i : Instr} {p : NetPort} {vlan : Option Nat} {udp : Bool} {domain : Nat} {foreign : State → Prop}
  (h : PtpHandled i p vlan udp domain foreign) (s : State)
include h

theorem PtpHandled.off (hon : s.ptpOn = false) : exec i s = .next s := by
  obtain ⟨act, hi, -⟩ := h
  rw [hi, ptpTake_off p act hon]

/-- A message of another VLAN is counted, and taken no further (R67). -/
theorem PtpHandled.otherVlan (hon : s.ptpOn = true) (hv : s.vlanTakes vlan = false) : ∃ t, exec i s = .next t ∧
    t.num Obj.framesDiscarded = s.counted Obj.framesDiscarded 1 ∧ t = { s with dict := t.dict, tally := t.tally, prp := t.prp } := by
  obtain ⟨act, hi, -⟩ := h
  refine ⟨_, (hi s).trans (congrArg Host.Outcome.next ((ptpTake_on p act hon).trans (if_pos hv))), ?_, by rw [count_rest, ptpHear_rest]⟩
  rw [count_num _ _ (by decide) (by decide)]
  exact (timeActs_ptpHear s p).counted (by decide) 1

/-- A message beyond the limit, or by another transport, is dropped and counted (R507, Table 10-1). -/
theorem PtpHandled.refused (hon : s.ptpOn = true) (hv : s.vlanTakes vlan = true)
    (hl : 256 ≤ (lastSecond s.localNs (s.ptpPort p).arrivals).length ∨ udp ≠ s.ptpUdp) : ∃ t, exec i s = .next t ∧
    t.num Obj.ptpDiscarded = s.counted Obj.ptpDiscarded 1 ∧ t = { s with dict := t.dict, tally := t.tally, prp := t.prp } := by
  obtain ⟨act, hi, -⟩ := h
  refine ⟨_, (hi s).trans (congrArg Host.Outcome.next ((ptpTake_on p act hon).trans ((if_neg (by rw [hv]; decide)).trans (if_pos hl)))), ?_,
    by rw [State.ptpDiscard, count_rest, ptpHear_rest]⟩
  rw [State.ptpDiscard, count_num _ _ (by decide) (by decide)]
  exact (timeActs_ptpHear s p).counted (by decide) 1

/-- A message that a port takes, and that is of another domain or foreign to the clock, is dropped and counted (R292). -/
theorem PtpHandled.dropped (ht : s.PtpTakes p vlan udp) (hf : domain ≠ s.started Obj.ptpDomain ∨ foreign (s.ptpReached p)) :
    ∃ t, exec i s = .next t ∧ t.num Obj.ptpDiscarded = s.counted Obj.ptpDiscarded 1 ∧ (t.ptpPort p).masters = (s.ptpPort p).masters ∧
      t.timeNs = s.timeNs ∧ t.out = s.out := by
  obtain ⟨act, hi, hact⟩ := h
  have hr := timeActs_ptpReached s p
  obtain ⟨ts, hport⟩ := ptpReached_port s p
  have hgo : exec i s = .next (s.ptpReached p).ptpDiscard := by
    rw [hi, ptpTake_taken ht, hact _ (by rwa [hr.started])]
  refine ⟨_, hgo, ?_, ?_, ?_, ?_⟩
  · rw [State.ptpDiscard, count_num _ _ (by decide) (by decide)]
    exact hr.counted (by decide) 1
  · rw [State.ptpDiscard, ptpPort_congr (s := s.ptpReached p) (by rw [count_rest]), hport]
  · rw [State.ptpDiscard, count_rest]
    exact hr.timeNs
  · rw [State.ptpDiscard, count_rest]
    show (s.ptpReached p).out = s.out
    unfold State.ptpReached
    rw [State.setPtpPort_out, ptpHear_rest]

/-- What comes of a message that is not taken, whether it is that of `m` or that of `a`. -/
theorem PtpHandled.screened {m : PtpMsg} {a : PtpAnnounce} (hv : (vlan = m.vlan ∧ udp = m.udp ∧ domain = m.domain) ∨ (vlan = a.vlan ∧ udp = a.udp ∧ domain = a.domain))
    {other : Prop} (hf : ∀ u : State, u.started Obj.ptpDelayMechanism = s.started Obj.ptpDelayMechanism → other → foreign u) : s.PtpScreens p m a i other := by
  unfold State.PtpScreens
  refine ⟨h.off s, fun hon h1 h2 => ?_, fun hon h1 h2 hl => ?_, fun h1 h2 => ⟨fun d1 d2 => ?_, fun ho => ?_⟩⟩
  · refine h.otherVlan s hon ?_
    rcases hv with ⟨rfl, -, -⟩ | ⟨rfl, -, -⟩
    · exact h1
    · exact h2
  · rcases hv with ⟨rfl, rfl, -⟩ | ⟨rfl, rfl, -⟩
    · exact h.refused s hon h1 (hl.imp_right And.left)
    · exact h.refused s hon h2 (hl.imp_right And.right)
  · have hd : ∃ t, exec i s = .next t ∧ t.num Obj.ptpDiscarded = s.counted Obj.ptpDiscarded 1 ∧
        (t.ptpPort p).masters = (s.ptpPort p).masters ∧ t.timeNs = s.timeNs ∧ t.out = s.out := by
      rcases hv with ⟨rfl, rfl, rfl⟩ | ⟨rfl, rfl, rfl⟩
      · exact h.dropped s h1 (.inl d1)
      · exact h.dropped s h2 (.inl d2)
    obtain ⟨t, hgo, hnum, hm, hns, -⟩ := hd
    exact ⟨t, hgo, hnum, hm, hns⟩
  · have ht : s.PtpTakes p vlan udp := by
      rcases hv with ⟨rfl, rfl, -⟩ | ⟨rfl, rfl, -⟩
      · exact h1
      · exact h2
    obtain ⟨t, hgo, hnum, -, -, hout⟩ := h.dropped s ht (.inr (hf _ ((timeActs_ptpReached s p).started _) ho))
    exact ⟨t, hgo, hnum, hout⟩

end

/-- The instructions of all PTP messages are screened alike. -/
theorem ptpMessages_screened (s : State) (p : NetPort) (m : PtpMsg) (a : PtpAnnounce) (tx : Nat) (i : Instr)
    (hi : i ∈ [Instr.sync p m, .followUp p m, .delayResp p m, .delayReq p m, .pdelayReq p m tx, .pdelayResp p m, .pdelayRespFollowUp p m, .announce p a]) :
    s.PtpScreens p m a i
      ((s.started Obj.ptpDelayMechanism = 1 ∧ i ∈ [Instr.pdelayReq p m tx, .pdelayResp p m, .pdelayRespFollowUp p m]) ∨
        (s.started Obj.ptpDelayMechanism ≠ 1 ∧ i ∈ [Instr.delayResp p m, .delayReq p m])) := by
  have hpeer : ∀ u : State, u.started Obj.ptpDelayMechanism = s.started Obj.ptpDelayMechanism → s.started Obj.ptpDelayMechanism = 1 → u.endToEnd = true :=
    fun u hu h1 => decide_eq_true (hu.trans h1)
  have hend : ∀ u : State, u.started Obj.ptpDelayMechanism = s.started Obj.ptpDelayMechanism → s.started Obj.ptpDelayMechanism ≠ 1 → u.endToEnd = false :=
    fun u hu h1 => decide_eq_false (hu ▸ h1)
  simp only [List.mem_cons, List.not_mem_nil, or_false] at hi
  rcases hi with rfl | rfl | rfl | rfl | rfl | rfl | rfl | rfl
  · exact (handled_sync p m).screened s (.inl ⟨rfl, rfl, rfl⟩) (by simp)
  · exact (handled_followUp p m).screened s (.inl ⟨rfl, rfl, rfl⟩) (by simp)
  · exact (handled_delayResp p m).screened s (.inl ⟨rfl, rfl, rfl⟩) fun u hu ho => hend u hu (by simpa using ho)
  · exact (handled_delayReq p m).screened s (.inl ⟨rfl, rfl, rfl⟩) fun u hu ho => hend u hu (by simpa using ho)
  · exact (handled_pdelayReq p m tx).screened s (.inl ⟨rfl, rfl, rfl⟩) fun u hu ho => hpeer u hu (by simpa using ho)
  · exact (handled_pdelayResp p m).screened s (.inl ⟨rfl, rfl, rfl⟩) fun u hu ho => hpeer u hu (by simpa using ho)
  · exact (handled_pdelayRespFollowUp p m).screened s (.inl ⟨rfl, rfl, rfl⟩) fun u hu ho => hpeer u hu (by simpa using ho)
  · exact (handled_announce p a).screened s (.inr ⟨rfl, rfl, rfl⟩) (by simp)

end Sys2Proof.Machine

end


section

namespace Sys2Proof.Machine

/-! ### Time states, holdover and lock (Table 10-2, R130, R297) -/

/-- The objects of the time state. -/
def timeStateObjects : List Nat := [Obj.ptpTimeState, Obj.reStepArmed]

/-- The objects that an entry to holdover moves. -/
def holdoverObjects : List Nat :=
  timeStateObjects ++ [Obj.tickSource, Obj.stationStateDetail, Obj.holdoverSince, Obj.holdoverEntries, overflowAddr Obj.holdoverEntries] ++ tallyObjects

section

variable (s : State) (k : TimeState)

theorem timeActs_setTimeState {os : List Nat} (h : timeStateObjects ⊆ os) : s.TimeActs (s.setTimeState k) os := by
  have h1 := timeActs_setNum s (os := os) (h (show Obj.ptpTimeState ∈ timeStateObjects by decide)) k.code
  exact .ite h1 (h1.trans (timeActs_setFlag _ (h (by decide)) _))

@[simp] theorem setTimeState_time : (s.setTimeState k).time = s.time := by
  unfold State.setTimeState
  dsimp only
  split <;> rfl

@[simp] theorem setTimeState_is : (s.setTimeState k).timeStateIs k = true := by
  have hself : (s.setNum Obj.ptpTimeState k.code).num Obj.ptpTimeState = k.code := by
    rw [num_setNum_self]
    cases k <;> decide
  unfold State.timeStateIs State.setTimeState
  refine decide_eq_true ?_
  dsimp only
  split
  · exact hself
  · rw [num_setFlag_ne _ _ (by decide), hself]

theorem timeActs_ppsJudge (os : List Nat) : s.TimeActs s.ppsJudge os := .ite ⟨fun _ _ => rfl, TallyLog.extends_refl _, rfl⟩ (.refl ..)

theorem ppsJudge_time : ∃ b, s.ppsJudge.time = { s.time with ppsOut := b } := by
  unfold State.ppsJudge
  split
  · exact ⟨false, rfl⟩
  · exact ⟨s.time.ppsOut, rfl⟩

/-- No offset in a row below the limit counts any more. -/
def State.unsettled (s : State) : State := { s with time := { s.time with below := 0 } }

/-- Holdover entered from lock, and what is told of it. -/
def State.holdoverBegun (s : State) (k : TimeState) : State :=
  (((((s.unsettled.setNum Obj.tickSource s.localSource).setDetail 2 true).setTimeState k).setObj Obj.holdoverSince
    (time96 s.timeNs)).count Obj.holdoverEntries).logTally 0x0801 []

theorem enterHoldover_eq : s.enterHoldover k =
    if s.num Obj.tickSource = 0 then (s.holdoverBegun k).ppsJudge else s.unsettled.setTimeState k := rfl

theorem timeActs_unsettled (os : List Nat) : s.TimeActs s.unsettled os := timeActs_time ..

theorem timeActs_holdoverBegun : s.TimeActs (s.holdoverBegun k) holdoverObjects :=
  ((((((timeActs_unsettled s _).trans (timeActs_setNum _ (by decide) _)).trans (timeActs_setDetail _ (by decide) ..)).trans
    (timeActs_setTimeState _ _ (by decide))).trans (timeActs_setObj _ (by decide) _)).trans
    (timeActs_count _ (by decide) (by decide) (by decide))).trans (timeActs_logTally _ (by decide) ..)

theorem timeActs_enterHoldover : s.TimeActs (s.enterHoldover k) holdoverObjects := by
  rw [enterHoldover_eq]
  exact .ite ((timeActs_holdoverBegun s k).trans (timeActs_ppsJudge ..))
    ((timeActs_unsettled s _).trans (timeActs_setTimeState _ _ (by decide)))

theorem holdoverBegun_time : (s.holdoverBegun k).time = { s.time with below := 0 } := by
  unfold State.holdoverBegun
  rw [logTally_rest, count_rest]
  exact setTimeState_time ..

theorem enterHoldover_time : ∃ b, (s.enterHoldover k).time = { s.time with below := 0, ppsOut := b } := by
  rw [enterHoldover_eq]
  split
  · obtain ⟨b, h⟩ := ppsJudge_time (s.holdoverBegun k)
    exact ⟨b, by rw [h, holdoverBegun_time]⟩
  · exact ⟨s.time.ppsOut, setTimeState_time ..⟩

theorem enterHoldover_is : (s.enterHoldover k).timeStateIs k = true := by
  rw [enterHoldover_eq]
  split
  · rw [(timeActs_ppsJudge (s.holdoverBegun k) []).timeStateIs (by decide)]
    unfold State.holdoverBegun
    rw [(timeActs_logTally _ (List.Subset.refl _) _ _).timeStateIs (by decide),
      (timeActs_count (os := [Obj.holdoverEntries, overflowAddr Obj.holdoverEntries] ++ tallyObjects) _ (by decide) (by decide) (by decide)).timeStateIs
        (by decide), (timeActs_setObj _ (List.mem_singleton.2 rfl) _).timeStateIs (by decide), setTimeState_is]
  · exact setTimeState_is ..

/-- The objects that a lock moves. -/
def lockObjects : List Nat := timeStateObjects ++ [Obj.tickSource] ++ tallyObjects

theorem timeActs_timeLock : s.TimeActs (s.timeLock k) lockObjects :=
  ((timeActs_setNum s (by decide) _).trans (timeActs_setTimeState _ _ (by decide))).trans (timeActs_logTally _ (by decide) ..)

@[simp] theorem timeLock_time : (s.timeLock k).time = s.time := by
  unfold State.timeLock
  rw [logTally_rest]
  simp

theorem timeLock_is : (s.timeLock k).timeStateIs k = true := by
  unfold State.timeLock
  rw [(timeActs_logTally _ (List.Subset.refl _) _ _).timeStateIs (by decide), setTimeState_is]

theorem timeLock_source : (s.timeLock k).num Obj.tickSource = 0 := by
  unfold State.timeLock
  rw [logTally_num _ _ _ (by decide), (timeActs_setTimeState _ k (List.Subset.refl _)).num (by decide), num_setNum_self]
  exact Nat.zero_mod _

/-- A lock is told of (R297). -/
theorem timeLock_wrote {u : State} (h : u.tally.Extends s.tally) : u.Wrote (s.timeLock k) 0x0802 [] := by
  have htally : ((s.setNum Obj.tickSource 0).setTimeState k).tally = s.tally := setTimeState_tally ..
  exact wrote_logTally (htally ▸ h) rfl (logTally_num _ _ _ (by decide)) (by rw [State.timeLock, logTally_rest])

end

/-! ### The choice of a master (R294, R295, R302) -/

/-- The objects that tell of the grandmaster. -/
def grandmasterObjects : List Nat := [Obj.grandmasterIdentity, Obj.grandmasterChanges, overflowAddr Obj.grandmasterChanges] ++ tallyObjects

/-- The states of the ports. -/
def portStateObjects : List Nat := [Obj.portState 0, Obj.portState 1]

/-- The objects that the choice of a master moves. -/
def masterObjects : List Nat := holdoverObjects ++ grandmasterObjects ++ portStateObjects ++ [Obj.parentIdentity, Obj.utcOffset]

section

variable (s : State)

theorem timeActs_setGrandmaster (gm : Nat) : s.TimeActs (s.setGrandmaster gm) grandmasterObjects := by
  have h1 := timeActs_setObj s (os := grandmasterObjects) (show Obj.grandmasterIdentity ∈ grandmasterObjects by decide) (beBytes 8 gm)
  exact .ite h1 ((h1.trans (timeActs_count _ (by decide) (by decide) (by decide))).trans (timeActs_logTally _ (by decide) ..))

@[simp] theorem setGrandmaster_time (gm : Nat) : (s.setGrandmaster gm).time = s.time := by
  unfold State.setGrandmaster
  extract_lets old s1
  split
  · rfl
  · rw [logTally_rest, count_rest]
    rfl

theorem setGrandmaster_identity (gm : Nat) : (s.setGrandmaster gm).obj Obj.grandmasterIdentity = beBytes 8 gm := by
  unfold State.setGrandmaster
  extract_lets old s1
  have h1 : s1.obj Obj.grandmasterIdentity = beBytes 8 gm := obj_setObj_self ..
  split
  · exact h1
  · rw [logTally_obj _ _ _ (by decide), count_obj _ _ (by decide) (by decide) (by decide), h1]

theorem timeActs_noSlave : s.TimeActs s.noSlave holdoverObjects :=
  .ite (.refl ..) (.ite (timeActs_setTimeState s _ (by decide)) (timeActs_enterHoldover s _))

theorem noSlave_ports : s.noSlave.time.ports = s.time.ports := by
  unfold State.noSlave
  split
  · rfl
  split
  · simp
  · obtain ⟨b, h⟩ := enterHoldover_time s .holdover
    rw [h]

/-- Both ports take a state. -/
def State.setPorts (s : State) (a b : Nat) : State := (s.setPortState .a a).setPortState .b b

theorem timeActs_setPorts (a b : Nat) : s.TimeActs (s.setPorts a b) portStateObjects :=
  (timeActs_setNum s (by decide) a).trans (timeActs_setNum _ (by decide) b)

theorem setPorts_states (a b : Nat) : (s.setPorts a b).num (Obj.portState 0) = a % 256 ∧ (s.setPorts a b).num (Obj.portState 1) = b % 256 :=
  ⟨(num_setNum_ne _ _ (by decide)).trans (num_setNum_self ..), num_setNum_self ..⟩

/-- The clock as the better one, master-capable. -/
def State.asMaster (s : State) : State :=
  let s1 := (s.setPorts portMaster portMaster).setGrandmaster s.clockIdentity
  if s.time.hadParent then s1.noSlave else if s.timeStateIs .grandmaster then s1 else s1.timeLock .grandmaster

/-- The state of a port by the best master heard on it. -/
def slaveState (m : PtpAnnounce) (heard : Option PtpAnnounce) : Nat :=
  match heard with
  | some x => if x.grandmaster = m.grandmaster then portSlave else portListening
  | none => portListening

/-- The parent: the best master of the time port, if it is of the grandmaster chosen. -/
def parentOf (m : PtpAnnounce) (heard : Option PtpAnnounce) : PtpAnnounce :=
  match heard with
  | some x => if x.grandmaster = m.grandmaster then x else m
  | none => m

/-- A master followed, and what is told of it. -/
def State.follows (s : State) (m : PtpAnnounce) (ba bb : Option PtpAnnounce) : State :=
  let s1 := (s.setPorts (slaveState m ba) (slaveState m bb)).setGrandmaster m.grandmaster.toNat
  let s2 := (s1.setObj Obj.parentIdentity (beBytes 10 (parentOf m (if s.num Obj.timePort = 1 then bb else ba)).source.toNat)).setNum Obj.utcOffset m.utcOffset.toNat
  { s2 with time := { s2.time with hadParent := true } }

/-- A clock that follows one starts to lock, where it takes its time from the network. -/
def State.startsLocking (s : State) : State :=
  if s.shadowTime then s else if s.timeStateIs .noParent || s.timeStateIs .grandmaster then s.setTimeState .locking else s

/-- Both ports listen, and no port is SLAVE. -/
def State.listens (s : State) : State := (s.setPorts portListening portListening).noSlave

/-- The choice, by whether the own data set is the better one, and by the masters heard. -/
def State.choose (s : State) (better : Bool) (best ba bb : Option PtpAnnounce) : State :=
  if better && s.masterCapable then s.asMaster
  else match (if better then none else best) with
    | none => s.listens
    | some m => (s.follows m ba bb).startsLocking

theorem selectMaster_eq : s.selectMaster =
    s.choose (match bestMaster ((bestMaster (s.ptpPort .a).masters).toList ++ (bestMaster (s.ptpPort .b).masters).toList) with
      | none => true
      | some m => lexLt s.ownKey (announceKey m))
    (bestMaster ((bestMaster (s.ptpPort .a).masters).toList ++ (bestMaster (s.ptpPort .b).masters).toList))
    (bestMaster (s.ptpPort .a).masters) (bestMaster (s.ptpPort .b).masters) := rfl

end

end Sys2Proof.Machine

end


section

namespace Sys2Proof.Machine

section

variable (s : State)

/-! ### What each choice moves and tells -/

theorem timeActs_asMaster : s.TimeActs s.asMaster masterObjects := by
  have h1 : s.TimeActs ((s.setPorts portMaster portMaster).setGrandmaster s.clockIdentity) masterObjects :=
    ((timeActs_setPorts s _ _).mono (by decide)).trans ((timeActs_setGrandmaster _ _).mono (by decide))
  exact .ite (h1.trans ((timeActs_noSlave _).mono (by decide))) (.ite h1 (h1.trans ((timeActs_timeLock _ _).mono (by decide))))

theorem asMaster_ports : s.asMaster.time.ports = s.time.ports := by
  have h1 : ((s.setPorts portMaster portMaster).setGrandmaster s.clockIdentity).time.ports = s.time.ports := by
    rw [setGrandmaster_time]
    rfl
  unfold State.asMaster
  dsimp only
  split
  · rw [noSlave_ports, h1]
  split
  · exact h1
  · rw [timeLock_time, h1]

/-- A clock that never had a parent is the grandmaster of its own identity (R302). -/
theorem asMaster_grandmaster (hp : s.time.hadParent = false) (hg : s.timeStateIs .grandmaster = false) :
    s.asMaster.num (Obj.portState 0) = 6 ∧ s.asMaster.num (Obj.portState 1) = 6 ∧ s.asMaster.obj Obj.grandmasterIdentity = beBytes 8 s.clockIdentity ∧
      s.asMaster.num Obj.tickSource = 0 ∧ s.asMaster.timeStateIs .grandmaster = true := by
  obtain ⟨h0, h1⟩ := setPorts_states s portMaster portMaster
  have hgm := timeActs_setGrandmaster (s.setPorts portMaster portMaster) s.clockIdentity
  have hid := setGrandmaster_identity (s.setPorts portMaster portMaster) s.clockIdentity
  have he : s.asMaster = ((s.setPorts portMaster portMaster).setGrandmaster s.clockIdentity).timeLock .grandmaster := by
    unfold State.asMaster
    rw [hp, hg]
    rfl
  rw [he]
  generalize (s.setPorts portMaster portMaster).setGrandmaster s.clockIdentity = u at hgm hid ⊢
  have hlock := timeActs_timeLock u .grandmaster
  exact ⟨(hlock.num (by decide)).trans ((hgm.num (by decide)).trans h0), (hlock.num (by decide)).trans ((hgm.num (by decide)).trans h1),
    (hlock.objects _ (by decide)).trans hid, timeLock_source .., timeLock_is ..⟩

theorem timeActs_listens : s.TimeActs s.listens masterObjects :=
  ((timeActs_setPorts s _ _).mono (by decide)).trans ((timeActs_noSlave _).mono (by decide))

theorem listens_ports : s.listens.time.ports = s.time.ports := noSlave_ports _

/-- A clock that has not locked since its start has no parent then. -/
theorem listens_noParent (ht : s.num Obj.tickSource = 3) (hs : s.shadowTime = false) (hg : s.timeStateIs .grandmaster = false) :
    s.listens.num (Obj.portState 0) = 4 ∧ s.listens.num (Obj.portState 1) = 4 ∧ s.listens.timeStateIs .noParent = true := by
  obtain ⟨h0, h1⟩ := setPorts_states s portListening portListening
  have hp := timeActs_setPorts s portListening portListening
  have he : s.listens = (s.setPorts portListening portListening).setTimeState .noParent := by
    unfold State.listens State.noSlave
    rw [hp.shadowTime (by decide), hp.timeStateIs (by decide), hp.num (by decide), hs, hg, if_neg (by decide), if_pos ht]
  rw [he]
  have hset := timeActs_setTimeState (s.setPorts portListening portListening) .noParent (List.Subset.refl _)
  exact ⟨(hset.num (by decide)).trans h0, (hset.num (by decide)).trans h1, setTimeState_is ..⟩

theorem timeActs_startsLocking : s.TimeActs s.startsLocking timeStateObjects :=
  .ite (.refl ..) (.ite (timeActs_setTimeState s _ (List.Subset.refl _)) (.refl ..))

theorem startsLocking_ports : s.startsLocking.time.ports = s.time.ports := by
  unfold State.startsLocking
  split
  · rfl
  split
  · simp
  · rfl

/-- The objects that tell of the master followed. -/
def parentObjects : List Nat := grandmasterObjects ++ portStateObjects ++ [Obj.parentIdentity, Obj.utcOffset]

variable (m : PtpAnnounce) (ba bb : Option PtpAnnounce)

theorem timeActs_follows : s.TimeActs (s.follows m ba bb) parentObjects :=
  ((((timeActs_setPorts s _ _).mono (by decide)).trans ((timeActs_setGrandmaster _ _).mono (by decide))).trans
    ((timeActs_setObj _ (by decide) _).trans (timeActs_setNum _ (by decide) _))).trans (timeActs_time ..)

theorem follows_ports : (s.follows m ba bb).time.ports = s.time.ports := by
  unfold State.follows
  dsimp only
  rw [State.setNum_time, State.setObj_time, setGrandmaster_time]
  rfl

/-- What is told of a master followed. -/
theorem follows_tells : (s.follows m ba bb).num (Obj.portState 0) = slaveState m ba % 256 ∧ (s.follows m ba bb).num (Obj.portState 1) = slaveState m bb % 256 ∧
    (s.follows m ba bb).obj Obj.grandmasterIdentity = beBytes 8 m.grandmaster.toNat ∧
    (s.follows m ba bb).obj Obj.parentIdentity = beBytes 10 (parentOf m (if s.num Obj.timePort = 1 then bb else ba)).source.toNat ∧
    (s.follows m ba bb).num Obj.utcOffset = m.utcOffset.toNat := by
  obtain ⟨h0, h1⟩ := setPorts_states s (slaveState m ba) (slaveState m bb)
  have hgm := timeActs_setGrandmaster (s.setPorts (slaveState m ba) (slaveState m bb)) m.grandmaster.toNat
  have hid := setGrandmaster_identity (s.setPorts (slaveState m ba) (slaveState m bb)) m.grandmaster.toNat
  unfold State.follows
  generalize (s.setPorts (slaveState m ba) (slaveState m bb)).setGrandmaster m.grandmaster.toNat = u at hgm hid
  generalize parentOf m (if s.num Obj.timePort = 1 then bb else ba) = parent
  have hset : u.TimeActs ((u.setObj Obj.parentIdentity (beBytes 10 parent.source.toNat)).setNum Obj.utcOffset m.utcOffset.toNat)
      [Obj.parentIdentity, Obj.utcOffset] := (timeActs_setObj u (by decide) _).trans (timeActs_setNum _ (by decide) _)
  refine ⟨(hset.num (by decide)).trans ((hgm.num (by decide)).trans h0), (hset.num (by decide)).trans ((hgm.num (by decide)).trans h1),
    (hset.objects _ (by decide)).trans hid, (obj_setNum_ne _ _ (by decide)).trans (obj_setObj_self ..), (num_setNum_self ..).trans ?_⟩
  exact Nat.mod_eq_of_lt m.utcOffset.isLt

end

/-! ### The choice on what the ports hold -/

section

variable (s : State)

/-- The choice is one of three. -/
theorem choose_cases (better : Bool) (best ba bb : Option PtpAnnounce) : s.choose better best ba bb = s.asMaster ∨
    s.choose better best ba bb = s.listens ∨ ∃ m, s.choose better best ba bb = (s.follows m ba bb).startsLocking := by
  unfold State.choose
  split
  · exact .inl rfl
  · generalize (if better then none else best) = o
    cases o with
    | none => exact .inr (.inl rfl)
    | some m => exact .inr (.inr ⟨m, rfl⟩)

theorem timeActs_selectMaster : s.TimeActs s.selectMaster masterObjects := by
  rw [selectMaster_eq]
  obtain h | h | ⟨m, h⟩ := choose_cases s .. <;> rw [h]
  · exact timeActs_asMaster s
  · exact timeActs_listens s
  · exact ((timeActs_follows s m _ _).mono (by decide)).trans ((timeActs_startsLocking _).mono (by decide))

theorem selectMaster_ports : s.selectMaster.time.ports = s.time.ports := by
  rw [selectMaster_eq]
  obtain h | h | ⟨m, h⟩ := choose_cases s .. <;> rw [h]
  · exact asMaster_ports s
  · exact listens_ports s
  · rw [startsLocking_ports, follows_ports]

variable {s} {p : NetPort}

/-- Nothing is heard on either port: a master-capable clock is the better one, and another listens. -/
theorem selectMaster_none (ha : (s.ptpPort p).masters = []) (hb : (s.ptpPort (otherPort p)).masters = []) :
    s.selectMaster = if s.masterCapable then s.asMaster else s.listens := by
  obtain ⟨h0, h1⟩ : (s.ptpPort .a).masters = [] ∧ (s.ptpPort .b).masters = [] := by
    cases p
    · exact ⟨ha, hb⟩
    · exact ⟨hb, ha⟩
  rw [selectMaster_eq, h0, h1]
  change s.choose true none none none = _
  unfold State.choose
  cases s.masterCapable <;> rfl

/-- The best master of a port where one is heard on port `p` alone. -/
def heardOn (p : NetPort) (m : PtpAnnounce) (q : NetPort) : Option PtpAnnounce := if q = p then some m else none

theorem parentOf_heardOn (m : PtpAnnounce) (q : NetPort) : parentOf m (heardOn p m q) = m := by
  unfold heardOn parentOf
  split <;> simp_all

theorem slaveState_heardOn (m : PtpAnnounce) (q : NetPort) : slaveState m (heardOn p m q) = if q = p then portSlave else portListening := by
  unfold heardOn slaveState
  split <;> simp_all

/-- One master is heard, on one port, and it is the better one. -/
theorem selectMaster_first {m : PtpAnnounce} (ha : (s.ptpPort p).masters = [m]) (hb : (s.ptpPort (otherPort p)).masters = [])
    (hk : lexLt s.ownKey (announceKey m) = false) :
    s.selectMaster = (s.follows m (heardOn p m .a) (heardOn p m .b)).startsLocking := by
  have hchoice : s.selectMaster = s.choose (lexLt s.ownKey (announceKey m)) (some m) (heardOn p m .a) (heardOn p m .b) := by
    rw [selectMaster_eq]
    cases p
    · rw [ha, show (s.ptpPort .b).masters = [] from hb]
      rfl
    · rw [ha, show (s.ptpPort .a).masters = [] from hb]
      rfl
  rw [hchoice, hk]
  rfl

/-- The master heard first is followed on its port. -/
theorem selectMaster_follows {m : PtpAnnounce} (ha : (s.ptpPort p).masters = [m]) (hb : (s.ptpPort (otherPort p)).masters = [])
    (hk : lexLt s.ownKey (announceKey m) = false) :
    s.selectMaster.num (Obj.portState (portNo p)) = 9 ∧ s.selectMaster.num (Obj.portState (portNo (otherPort p))) = 4 ∧
      s.selectMaster.obj Obj.grandmasterIdentity = beBytes 8 m.grandmaster.toNat ∧ s.selectMaster.obj Obj.parentIdentity = beBytes 10 m.source.toNat ∧
      s.selectMaster.num Obj.utcOffset = m.utcOffset.toNat ∧
      (s.shadowTime = false → s.timeStateIs .noParent = true → s.selectMaster.timeStateIs .locking = true) := by
  rw [selectMaster_first ha hb hk]
  obtain ⟨h0, h1, hgm, hparent, hutc⟩ := follows_tells s m (heardOn p m .a) (heardOn p m .b)
  have hf := timeActs_follows s m (heardOn p m .a) (heardOn p m .b)
  have hl := timeActs_startsLocking (s.follows m (heardOn p m .a) (heardOn p m .b))
  generalize s.follows m (heardOn p m .a) (heardOn p m .b) = u at h0 h1 hgm hparent hutc hf hl ⊢
  rw [slaveState_heardOn] at h0 h1
  have hsource : parentOf m (if s.num Obj.timePort = 1 then heardOn p m .b else heardOn p m .a) = m := by
    split <;> exact parentOf_heardOn ..
  refine ⟨?_, ?_, (hl.objects _ (by decide)).trans hgm, ?_, (hl.num (by decide)).trans hutc, fun hsh hn => ?_⟩
  · cases p
    · exact (hl.num (by decide)).trans h0
    · exact (hl.num (by decide)).trans h1
  · cases p
    · exact (hl.num (by decide)).trans h1
    · exact (hl.num (by decide)).trans h0
  · rw [hl.objects _ (by decide), hparent, hsource]
  · unfold State.startsLocking
    rw [hf.shadowTime (by decide), hf.timeStateIs (by decide) .noParent, hsh, hn, if_neg (by decide), Bool.true_or, if_pos rfl]
    exact setTimeState_is ..

/-! ### Announces and their want (R294, R297, R302) -/

/-- The state in which a port has entered an Announce among its masters. -/
def State.entered (s : State) (p : NetPort) (m : PtpAnnounce) : State :=
  s.setPtpPort p { s.ptpPort p with masters := (s.ptpPort p).masters.filter (fun y => y.source ≠ m.source) ++ [m] }

/-- An Announce of the domain enters its port's masters, and the choice is made. -/
theorem announce_taken (s : State) (p : NetPort) {m : PtpAnnounce} (ht : s.PtpTakes p m.vlan m.udp) (hd : m.domain = s.started Obj.ptpDomain)
    (hts : m.timescale = true) : exec (.announce p m) s = .next ((s.ptpReached p).entered p m).selectMaster := by
  have hr := (timeActs_ptpReached s p).started Obj.ptpDomain
  show execAnnounce p m s = _
  unfold execAnnounce
  rw [ptpTake_taken ht]
  exact congrArg Host.Outcome.next (if_neg (by simp [hr, hd, hts]))

/-- What an Announce taken does. -/
theorem announce_enters (s : State) (p : NetPort) {m : PtpAnnounce} (ht : s.PtpTakes p m.vlan m.udp) (hd : m.domain = s.started Obj.ptpDomain)
    (hts : m.timescale = true) : ∃ t, exec (.announce p m) s = .next t ∧
      (t.ptpPort p).masters = (s.ptpPort p).masters.filter (fun y => y.source ≠ m.source) ++ [m] ∧
      (s.masterCapable = false → lexLt s.ownKey (announceKey m) = false → (s.ptpPort p).masters = [] → (s.ptpPort (otherPort p)).masters = [] →
        t.num (Obj.portState (portNo p)) = 9 ∧ t.num (Obj.portState (portNo (otherPort p))) = 4 ∧ t.obj Obj.grandmasterIdentity = beBytes 8 m.grandmaster.toNat ∧
        t.obj Obj.parentIdentity = beBytes 10 m.source.toNat ∧ t.num Obj.utcOffset = m.utcOffset.toNat ∧
        (s.shadowTime = false → s.timeStateIs .noParent = true → t.timeStateIs .locking = true)) := by
  refine ⟨_, announce_taken s p ht hd hts, ?_, fun _ hk ha hb => ?_⟩
  · obtain ⟨ts, hport⟩ := ptpReached_port s p
    rw [ptpPort_congr (selectMaster_ports _), State.entered, ptpPort_setPtpPort_self, hport]
  · have hacts : s.TimeActs ((s.ptpReached p).entered p m) arrivalObjects := (timeActs_ptpReached s p).trans (timeActs_setPtpPort ..)
    have hother : (((s.ptpReached p).entered p m).ptpPort (otherPort p)).masters = [] := by
      rw [State.entered, ptpPort_setPtpPort_other, ptpReached_other, hb]
    have hown : (((s.ptpReached p).entered p m).ptpPort p).masters = [m] := by
      obtain ⟨ts, hport⟩ := ptpReached_port s p
      rw [State.entered, ptpPort_setPtpPort_self, hport, ha]
      rfl
    rw [← hacts.shadowTime (by decide), ← hacts.timeStateIs (by decide)]
    exact selectMaster_follows hown hother (by rw [hacts.ownKey (by decide), hk])

/-- The counters of the ports' want of Announces. -/
def timeoutObjects : List Nat :=
  [Obj.announceTimeouts 0, Obj.announceTimeouts 1] ++ [Obj.announceTimeouts 0, Obj.announceTimeouts 1].map overflowAddr ++ tallyObjects

/-- The state in which a port has forgotten its masters, counted. -/
def State.forgets (s : State) (p : NetPort) : State :=
  (s.count (Obj.announceTimeouts (portNo p))).setPtpPort p { (s.count (Obj.announceTimeouts (portNo p))).ptpPort p with masters := [] }

theorem announceTimeout_on {s : State} (h : s.ptpOn = true) (p : NetPort) : exec (.announceTimeout p) s = .next (s.forgets p).selectMaster :=
  congrArg Host.Outcome.next (if_neg (by rw [h]; decide))

theorem timeActs_forgets (s : State) (p : NetPort) : s.TimeActs (s.forgets p) timeoutObjects := by
  have h : s.TimeActs (s.count (Obj.announceTimeouts (portNo p))) timeoutObjects := by
    cases p <;> exact timeActs_count s (by decide) (by decide) (by decide)
  exact h.trans (timeActs_setPtpPort ..)

theorem forgets_count (s : State) (p : NetPort) : (s.forgets p).num (Obj.announceTimeouts (portNo p)) = s.counted (Obj.announceTimeouts (portNo p)) 1 := by
  refine (num_of_dict (State.setPtpPort_dict ..) _).trans ?_
  cases p <;> exact count_num s 1 (by decide) (by decide)

/-- What the want of Announces on a port does. -/
theorem announceTimeout_forgets (s : State) (p : NetPort) (h : s.ptpOn = true) : ∃ t, exec (.announceTimeout p) s = .next t ∧ (t.ptpPort p).masters = [] ∧
    t.num (Obj.announceTimeouts (portNo p)) = s.counted (Obj.announceTimeouts (portNo p)) 1 ∧
    ((s.ptpPort (otherPort p)).masters = [] → s.masterCapable = false → s.num Obj.tickSource = 3 → s.shadowTime = false →
      s.timeStateIs .grandmaster = false → t.num (Obj.portState 0) = 4 ∧ t.num (Obj.portState 1) = 4 ∧ t.timeStateIs .noParent = true) ∧
    ((s.ptpPort (otherPort p)).masters = [] → s.masterCapable = true → s.time.hadParent = false → s.timeStateIs .grandmaster = false →
      t.num (Obj.portState 0) = 6 ∧ t.num (Obj.portState 1) = 6 ∧ t.obj Obj.grandmasterIdentity = beBytes 8 s.clockIdentity ∧
      t.num Obj.tickSource = 0 ∧ t.timeStateIs .grandmaster = true) := by
  have hf := timeActs_forgets s p
  have hm := timeActs_selectMaster (s.forgets p)
  have hnone : ((s.forgets p).ptpPort p).masters = [] := by rw [State.forgets, ptpPort_setPtpPort_self]
  have hother : (s.forgets p).ptpPort (otherPort p) = s.ptpPort (otherPort p) := by
    rw [State.forgets, ptpPort_setPtpPort_other, ptpPort_congr (s := s) (by rw [State.count_time])]
  have hparent : (s.forgets p).time.hadParent = s.time.hadParent := by
    rw [State.forgets, State.setPtpPort_time, State.count_time]
  refine ⟨_, announceTimeout_on h p, by rw [ptpPort_congr (selectMaster_ports _), hnone], ?_, fun hb hc ht hs hg => ?_, fun hb hc hp hg => ?_⟩
  · rw [← forgets_count]
    cases p <;> exact hm.num (by decide)
  · rw [selectMaster_none hnone (by rw [hother, hb]), hf.masterCapable, hc]
    exact listens_noParent _ (by rw [hf.num (by decide), ht]) (by rw [hf.shadowTime (by decide), hs]) (by rw [hf.timeStateIs (by decide), hg])
  · rw [selectMaster_none hnone (by rw [hother, hb]), hf.masterCapable, hc, ← hf.clockIdentity (by decide)]
    exact asMaster_grandmaster _ (hparent.trans hp) (by rw [hf.timeStateIs (by decide), hg])

theorem announceTimeout_off {s : State} (h : s.ptpOn = false) (p : NetPort) : exec (.announceTimeout p) s = .next s :=
  congrArg Host.Outcome.next (if_pos (by rw [h]; rfl))

end

end Sys2Proof.Machine

end


section

namespace Sys2Proof.Machine

/-- A record written after a state was reached was written after what came before it. -/
theorem wrote_of_extends {s u t : State} {c : Nat} {ps : List Nat} (h : s.tally.Extends u.tally) (k : u.Wrote t c ps) : s.Wrote t c ps := by
  obtain ⟨d, hc, hp, hs, ht, hw⟩ := k
  refine ⟨d, hc, hp, hs, ht, ?_⟩
  rw [← h.known, ← h.minutes, ← h.cycles]
  have hhead := h.head
  obtain ⟨more, hmore⟩ := h.waiting
  split at hw
  · rename_i hk
    obtain ⟨n, hn, hle, hget⟩ := hw
    rw [if_pos hk]
    exact ⟨n, by omega, hle, hget⟩
  · rename_i hk
    obtain ⟨i, hi, hget⟩ := hw
    rw [if_neg hk]
    refine ⟨i, ?_, hget⟩
    rw [hmore, List.length_append] at hi
    omega

/-! ### The judgement of an offset (R297, R298, R300, R301) -/

/-- The objects that the judgement of an offset moves. -/
def judgingObjects : List Nat :=
  holdoverObjects ++ [Obj.refusedOffset, Obj.jumpsRefused, overflowAddr Obj.jumpsRefused, Obj.stepHeld, Obj.rateAdjust]

section

variable (s : State) (off : Int)

/-! #### Step conditions -/

section

variable (k : StepKind)

theorem timeActs_stepCondition : s.TimeActs (s.stepCondition k off) judgingObjects :=
  .ite ((timeActs_time s _).trans (timeActs_setFlag _ (by decide) _)) (timeActs_time s _)

theorem stepCondition_time : (s.stepCondition k off).time = { s.time with step := some (k, -off) } := by
  unfold State.stepCondition
  dsimp only
  split <;> rfl

theorem stepCondition_held (h : s.mode.running = true) : (s.stepCondition k off).flag Obj.stepHeld = true := by
  have hgo : s.stepCondition k off = ({ s with time := { s.time with step := some (k, -off) } } : State).setFlag Obj.stepHeld true := if_pos h
  rw [hgo]
  exact flag_setFlag_self _ _ (by decide)

end

/-! #### Refusal -/

/-- The offset refused, told of. -/
def State.refusing : State := (s.setNum Obj.refusedOffset (ofSigned 64 off)).unsettled

/-- A refusal that begins JUMP_REFUSED. -/
def State.refusalBegun : State := (((s.refusing off).enterHoldover .jumpRefused).count Obj.jumpsRefused).logTally 0x0804 []

theorem refuseOffset_eq : s.refuseOffset off = if s.timeStateIs .jumpRefused then s.refusing off else s.refusalBegun off := rfl

theorem timeActs_refusing {os : List Nat} (h : Obj.refusedOffset ∈ os) : s.TimeActs (s.refusing off) os :=
  (timeActs_setNum s h _).trans (timeActs_unsettled ..)

theorem timeActs_refusalBegun : s.TimeActs (s.refusalBegun off) judgingObjects :=
  (((timeActs_refusing s off (by decide)).trans ((timeActs_enterHoldover _ _).mono (by decide))).trans
    (timeActs_count _ (by decide) (by decide) (by decide))).trans (timeActs_logTally _ (by decide) ..)

theorem refusing_offset : (s.refusing off).num Obj.refusedOffset = ofSigned 64 off := by
  have hlt : ofSigned 64 off < 256 ^ objSize Obj.refusedOffset := by
    have : objSize Obj.refusedOffset = 8 := by decide
    unfold ofSigned
    rw [this]
    omega
  unfold State.refusing
  rw [(timeActs_unsettled _ []).num (by decide), num_setNum_self, Nat.mod_eq_of_lt hlt]

theorem refusalBegun_tells : (s.refusalBegun off).num Obj.refusedOffset = ofSigned 64 off ∧ (s.refusalBegun off).timeStateIs .jumpRefused = true ∧
    (s.refusalBegun off).time.step = s.time.step ∧ (s.refusalBegun off).num Obj.jumpsRefused = s.counted Obj.jumpsRefused 1 ∧
    s.Wrote (s.refusalBegun off) 0x0804 [] := by
  have h1 := timeActs_refusing s off (List.mem_singleton.2 rfl)
  have hoff := refusing_offset s off
  have htime : (s.refusing off).time = { s.time with below := 0 } := rfl
  unfold State.refusalBegun
  generalize s.refusing off = u at h1 hoff htime
  have h2 := timeActs_enterHoldover u .jumpRefused
  have his := enterHoldover_is u .jumpRefused
  obtain ⟨b, hb⟩ := enterHoldover_time u .jumpRefused
  generalize u.enterHoldover .jumpRefused = v at h2 his hb
  have h3 : v.TimeActs (v.count Obj.jumpsRefused) ([Obj.jumpsRefused, overflowAddr Obj.jumpsRefused] ++ tallyObjects) :=
    timeActs_count v (by decide) (by decide) (by decide)
  have h4 := timeActs_logTally (v.count Obj.jumpsRefused) (List.Subset.refl _) 0x0804 []
  refine ⟨?_, ?_, ?_, ?_, ?_⟩
  · rw [h4.num (by decide), h3.num (by decide), h2.num (by decide), hoff]
  · rw [h4.timeStateIs (by decide), h3.timeStateIs (by decide), his]
  · rw [State.logTally_time, State.count_time, hb, htime]
  · rw [h4.num (by decide), count_num _ _ (by decide) (by decide), h2.counted (by decide), h1.counted (by decide)]
  · exact wrote_logTally (TallyLog.extends_trans (TallyLog.extends_trans h1.tally h2.tally) h3.tally) rfl (h4.num (by decide)) h4.timeNs

theorem refusalBegun_ports : (s.refusalBegun off).time.ports = s.time.ports := by
  obtain ⟨b, hb⟩ := enterHoldover_time (s.refusing off) .jumpRefused
  rw [State.refusalBegun, State.logTally_time, State.count_time, hb]
  rfl

/-! #### Offsets within the threshold -/

theorem timeActs_adjustRate {os : List Nat} (h : Obj.rateAdjust ∈ os) : s.TimeActs (s.adjustRate off) os := by
  have h1 : s.TimeActs s.drawFree.2 os := ⟨fun _ _ => rfl, TallyLog.extends_refl _, rfl⟩
  exact h1.trans (timeActs_setNum _ h _)

theorem adjustRate_time : (s.adjustRate off).time = s.time := rfl

/-- The rate corrected; a refusal ends with an offset within the threshold. -/
def State.steered : State := (if s.timeStateIs .jumpRefused then s.setTimeState .holdover else s).adjustRate off

/-- An offset counts among those below the limit, or begins the count again. -/
def State.settles : State := { s with time := { s.time with below := if off.natAbs < 1000 then s.time.below + 1 else 0 } }

/-- The lock with the 16th offset in a row. -/
def State.locksOn : State :=
  if 16 ≤ s.time.below && s.num Obj.tickSource ≠ 0 then s.timeLock .locked
  else if 16 ≤ s.time.below && s.timeStateIs .locking then s.setTimeState .locked else s

/-- The objects of the rate and of the time state. -/
def steeringObjects : List Nat := timeStateObjects ++ [Obj.rateAdjust]

theorem timeActs_steered : s.TimeActs (s.steered off) steeringObjects :=
  (State.TimeActs.ite (timeActs_setTimeState s _ (by decide)) (.refl ..)).trans (timeActs_adjustRate _ _ (by decide))

theorem steered_time : (s.steered off).time = s.time := by
  unfold State.steered
  rw [adjustRate_time]
  split
  · simp
  · rfl

theorem timeActs_settles (os : List Nat) : s.TimeActs (s.settles off) os := timeActs_time ..

theorem timeActs_locksOn : s.TimeActs s.locksOn lockObjects :=
  .ite (timeActs_timeLock ..) (.ite (timeActs_setTimeState s _ (by decide)) (.refl ..))

theorem locksOn_time : s.locksOn.time = s.time := by
  unfold State.locksOn
  split
  · simp
  split
  · simp
  · rfl

/-- The 16th offset in a row locks: the time comes from the network, and a lock begun is told of. -/
theorem locksOn_sixteen (h : 16 ≤ s.time.below) : s.locksOn.num Obj.tickSource = 0 ∧
    (s.num Obj.tickSource ≠ 0 → s.locksOn.timeStateIs .locked = true ∧ s.Wrote s.locksOn 0x0802 []) := by
  unfold State.locksOn
  rw [decide_eq_true h]
  by_cases hsrc : s.num Obj.tickSource = 0
  · have hset := State.TimeActs.ite (c := (true && s.timeStateIs .locking) = true) (timeActs_setTimeState s .locked (List.Subset.refl _)) (.refl s _)
    rw [if_neg (by simp [hsrc]), hset.num (by decide)]
    exact ⟨hsrc, fun hne => absurd hsrc hne⟩
  · rw [if_pos (by simp [hsrc])]
    exact ⟨timeLock_source .., fun _ => ⟨timeLock_is .., timeLock_wrote s _ (TallyLog.extends_refl _)⟩⟩

/-- Before the 16th nothing locks. -/
theorem locksOn_fewer (h : s.time.below < 16) : s.locksOn = s := by
  unfold State.locksOn
  rw [decide_eq_false (by omega)]
  rfl

/-- An offset within the threshold. -/
def State.within : State := ((s.steered off).settles off).locksOn

theorem timeActs_within : s.TimeActs (s.within off) judgingObjects :=
  (((timeActs_steered s off).mono (by decide)).trans (timeActs_settles ..)).trans ((timeActs_locksOn _).mono (by decide))

theorem within_time : (s.within off).time = { s.time with below := if off.natAbs < 1000 then s.time.below + 1 else 0 } := by
  unfold State.within State.settles
  rw [locksOn_time, steered_time]

theorem within_tells : (s.within off).time.step = s.time.step ∧
    (1000 ≤ off.natAbs → (s.within off).time.below = 0 ∧ (s.within off).num Obj.tickSource = s.num Obj.tickSource) ∧
    (off.natAbs < 1000 → (s.within off).time.below = s.time.below + 1 ∧ (15 ≤ s.time.below → (s.within off).num Obj.tickSource = 0 ∧
      (s.num Obj.tickSource ≠ 0 → (s.within off).timeStateIs .locked = true ∧ s.Wrote (s.within off) 0x0802 []))) := by
  have htime := within_time s off
  have hu := (timeActs_steered s off).trans (timeActs_settles (s.steered off) off _)
  have hbelow : ((s.steered off).settles off).time.below = if off.natAbs < 1000 then s.time.below + 1 else 0 := by
    rw [← steered_time s off]
    rfl
  refine ⟨by rw [htime], fun h => ⟨by rw [htime]; exact if_neg (by omega), ?_⟩, fun h => ⟨by rw [htime]; exact if_pos h, fun h15 => ?_⟩⟩
  · rw [if_neg (by omega)] at hbelow
    rw [State.within, locksOn_fewer _ (by omega), hu.num (by decide)]
  · rw [if_pos h] at hbelow
    obtain ⟨hsrc, hlock⟩ := locksOn_sixteen ((s.steered off).settles off) (by omega)
    rw [hu.num (by decide)] at hlock
    refine ⟨hsrc, fun hne => ?_⟩
    obtain ⟨his, hw⟩ := hlock hne
    exact ⟨his, wrote_of_extends hu.tally hw⟩

/-! #### The judgement -/

/-- A permitted step waits for its guard. -/
def State.permits : Bool := match s.time.step with | some (.permit, _) => true | _ => false

/-- The permission taken. -/
def State.permitTaken : State := (s.setFlag Obj.reStepArmed false).unsettled

theorem judgeOffset_eq : s.judgeOffset off =
    if !s.time.firstDone then s.stepCondition .first off
    else if s.permits then { s with time := { s.time with step := some (.permit, -off) } }
    else if s.num Obj.jumpThreshold < off.natAbs then
      if s.flag Obj.reStepArmed then s.permitTaken.stepCondition .permit off else s.refuseOffset off
    else s.within off := rfl

theorem timeActs_refuseOffset : s.TimeActs (s.refuseOffset off) judgingObjects := by
  rw [refuseOffset_eq]
  exact .ite (timeActs_refusing s off (by decide)) (timeActs_refusalBegun ..)

theorem timeActs_permitTaken : s.TimeActs s.permitTaken judgingObjects :=
  (timeActs_setFlag s (by decide) _).trans (timeActs_unsettled ..)

theorem timeActs_judgeOffset : s.TimeActs (s.judgeOffset off) judgingObjects := by
  rw [judgeOffset_eq]
  exact .ite (timeActs_stepCondition ..) (.ite (timeActs_time ..) (.ite (.ite ((timeActs_permitTaken s).trans (timeActs_stepCondition ..))
    (timeActs_refuseOffset ..)) (timeActs_within ..)))

end

end Sys2Proof.Machine

end


section

namespace Sys2Proof.Machine

/-! ### What the judgement of an offset comes to -/

/-- What an offset of the time port does, by the clock's state before it: the first one is a step condition, one beyond the threshold is permitted or
refused, and one within it counts towards the lock. -/
structure State.Judged (s t : State) (off : Int) : Prop where
  first : s.time.firstDone = false → t.time.step = some (.first, -off) ∧ (s.mode.running = true → t.flag Obj.stepHeld = true)
  permitted : s.time.firstDone = true → s.time.step = none → s.num Obj.jumpThreshold < off.natAbs → s.flag Obj.reStepArmed = true →
    t.time.step = some (.permit, -off) ∧ t.flag Obj.reStepArmed = false
  refused : s.time.firstDone = true → s.time.step = none → s.num Obj.jumpThreshold < off.natAbs → s.flag Obj.reStepArmed = false →
    t.num Obj.refusedOffset = ofSigned 64 off ∧ t.timeStateIs .jumpRefused = true ∧ t.time.step = none ∧
      (s.timeStateIs .jumpRefused = false → t.num Obj.jumpsRefused = s.counted Obj.jumpsRefused 1 ∧ s.Wrote t 0x0804 [])
  within : s.time.firstDone = true → s.time.step = none → off.natAbs ≤ s.num Obj.jumpThreshold → t.time.step = none ∧
    (1000 ≤ off.natAbs → t.time.below = 0 ∧ t.num Obj.tickSource = s.num Obj.tickSource) ∧
    (off.natAbs < 1000 → t.time.below = s.time.below + 1 ∧ (15 ≤ s.time.below → t.num Obj.tickSource = 0 ∧
      (s.num Obj.tickSource ≠ 0 → t.timeStateIs .locked = true ∧ s.Wrote t 0x0802 [])))

section

variable (s : State) (off : Int)

theorem judgeOffset_first (h : s.time.firstDone = false) : s.judgeOffset off = s.stepCondition .first off := by
  rw [judgeOffset_eq, h]
  rfl

section

variable (hd : s.time.firstDone = true) (hs : s.time.step = none)
include hd hs

theorem judgeOffset_later : s.judgeOffset off =
    if s.num Obj.jumpThreshold < off.natAbs then
      if s.flag Obj.reStepArmed then s.permitTaken.stepCondition .permit off else s.refuseOffset off
    else s.within off := by
  have hp : s.permits = false := by
    unfold State.permits
    rw [hs]
  rw [judgeOffset_eq, hd, hp, if_neg (by decide), if_neg (by decide)]

theorem judgeOffset_permitted (ho : s.num Obj.jumpThreshold < off.natAbs) (ha : s.flag Obj.reStepArmed = true) :
    (s.judgeOffset off).time.step = some (.permit, -off) ∧ (s.judgeOffset off).flag Obj.reStepArmed = false := by
  rw [judgeOffset_later s off hd hs, if_pos ho, if_pos ha]
  refine ⟨by rw [stepCondition_time], ?_⟩
  have hset := timeActs_unsettled (s.setFlag Obj.reStepArmed false) []
  have hstep : s.permitTaken.TimeActs (s.permitTaken.stepCondition .permit off) [Obj.stepHeld] :=
    .ite ((timeActs_time _ _).trans (timeActs_setFlag _ (by decide) _)) (timeActs_time _ _)
  rw [hstep.flag (by decide), State.permitTaken, hset.flag (by decide)]
  exact flag_setFlag_self _ _ (by decide)

theorem judgeOffset_refused (ho : s.num Obj.jumpThreshold < off.natAbs) (ha : s.flag Obj.reStepArmed = false) :
    (s.judgeOffset off).num Obj.refusedOffset = ofSigned 64 off ∧ (s.judgeOffset off).timeStateIs .jumpRefused = true ∧
      (s.judgeOffset off).time.step = none ∧ (s.timeStateIs .jumpRefused = false →
        (s.judgeOffset off).num Obj.jumpsRefused = s.counted Obj.jumpsRefused 1 ∧ s.Wrote (s.judgeOffset off) 0x0804 []) := by
  rw [judgeOffset_later s off hd hs, if_pos ho, if_neg (by rw [ha]; decide), refuseOffset_eq]
  by_cases hj : s.timeStateIs .jumpRefused = true
  · rw [if_pos hj]
    have hr := timeActs_refusing s off (List.mem_singleton.2 rfl)
    exact ⟨refusing_offset .., (hr.timeStateIs (by decide) _).trans hj, hs, fun h => absurd hj (Bool.eq_false_iff.1 h)⟩
  · rw [if_neg hj]
    obtain ⟨hoff, his, hstep, hcount, hw⟩ := refusalBegun_tells s off
    exact ⟨hoff, his, hstep.trans hs, fun _ => ⟨hcount, hw⟩⟩

theorem judgeOffset_within (ho : off.natAbs ≤ s.num Obj.jumpThreshold) : s.judgeOffset off = s.within off := by
  rw [judgeOffset_later s off hd hs, if_neg (by omega)]

end

theorem judged_judgeOffset : s.Judged (s.judgeOffset off) off where
  first h := by
    rw [judgeOffset_first s off h]
    exact ⟨by rw [stepCondition_time], stepCondition_held s off .first⟩
  permitted hd hs ho ha := judgeOffset_permitted s off hd hs ho ha
  refused hd hs ho ha := judgeOffset_refused s off hd hs ho ha
  within hd hs ho := by
    rw [judgeOffset_within s off hd hs ho, ← hs]
    exact within_tells s off

theorem judgeOffset_ports : (s.judgeOffset off).time.ports = s.time.ports := by
  have hrefused : (s.refuseOffset off).time.ports = s.time.ports := by
    rw [refuseOffset_eq]
    split
    · rfl
    · exact refusalBegun_ports ..
  rw [judgeOffset_eq]
  split
  · rw [stepCondition_time]
  split
  · rfl
  split
  · split
    · rw [stepCondition_time]
      rfl
    · exact hrefused
  · rw [within_time]

end

/-- The objects that the judgement goes by. -/
def judgedByObjects : List Nat := [Obj.jumpThreshold, Obj.reStepArmed, Obj.ptpTimeState, Obj.jumpsRefused, Obj.tickSource]

/-- An offset judged in a state that a message's stamps have led to is judged of the state before it. -/
theorem State.Judged.of_acts {s u t : State} {os : List Nat} {off : Int} (h : s.TimeActs u os) (hos : ∀ a ∈ judgedByObjects, a ∉ os)
    {ports : Vector PtpPort 2} (htime : u.time = { s.time with ports := ports }) (k : u.Judged t off) : s.Judged t off := by
  obtain ⟨k1, k2, k3, k4⟩ := k
  rw [htime, h.mode] at k1
  rw [htime, h.num (hos _ (by decide)), h.flag (hos _ (by decide))] at k2 k3
  rw [h.timeStateIs (hos _ (by decide)), h.counted (hos _ (by decide))] at k3
  rw [htime, h.num (hos _ (by decide)), h.num (hos _ (by decide))] at k4
  refine ⟨k1, k2, fun hd hs ho ha => ?_, fun hd hs ho => ?_⟩
  · obtain ⟨h1, h2, h3, h4⟩ := k3 hd hs ho ha
    exact ⟨h1, h2, h3, fun hj => (h4 hj).imp_right (wrote_of_extends h.tally)⟩
  · obtain ⟨h1, h2, h3⟩ := k4 hd hs ho
    exact ⟨h1, h2, fun hb => (h3 hb).imp_right fun h5 h15 => (h5 h15).imp_right fun h6 hne => (h6 hne).imp_right (wrote_of_extends h.tally)⟩

end Sys2Proof.Machine

end


section

namespace Sys2Proof.Machine

section

variable (s : State) (p : NetPort) (off : Int)

/-! ### A measured offset (R295, R296) -/

/-- The offsets told of the ports. -/
def portOffsetObjects : List Nat := [Obj.portOffset 0, Obj.portOffset 1]

/-- What tells of the offsets measured. -/
def reportObjects : List Nat := portOffsetObjects ++ [Obj.offsetFromMaster, Obj.meanPathDelay]

/-- A port with an offset: when it came, and of which grandmaster. -/
def State.portMeasured : PtpPort :=
  { s.ptpPort p with
    offsetAt := some s.localNs
    offsetGm := (bestMaster (s.ptpPort p).masters).map fun m => m.grandmaster.toNat }

/-- An offset measured on a port, told of. -/
def State.reported : State := (s.setPtpPort p (s.portMeasured p)).setNum (Obj.portOffset (portNo p)) (ofSigned 64 off)

/-- The offset of the time port is the clock's. -/
def State.clockReported : State :=
  (s.setNum Obj.offsetFromMaster (ofSigned 64 off)).setNum Obj.meanPathDelay (s.num (Obj.portPathDelay (portNo p)))

/-- The first port with an offset is the time port. -/
def State.timePortChosen : State :=
  if s.num Obj.timePort = 0xFF then s.setNum Obj.timePort (if s.portIs .a portSlave then 0 else 1) else s

theorem measured_eq : s.measured p off =
    if s.shadowTime then (s.reported p off).heldOffset off
    else if (s.reported p off).timePortChosen.num Obj.timePort ≠ portNo p then (s.reported p off).timePortChosen
    else ((s.reported p off).timePortChosen.clockReported p off).judgeOffset off := rfl

theorem timeActs_reported : s.TimeActs (s.reported p off) portOffsetObjects := by
  have h := timeActs_setPtpPort s (os := portOffsetObjects) p (s.portMeasured p)
  cases p <;> exact h.trans (timeActs_setNum _ (by decide) _)

theorem ofSigned_mod (v : Int) : ofSigned 64 v % 256 ^ 8 = ofSigned 64 v := by
  unfold ofSigned
  omega

theorem reported_offset : (s.reported p off).num (Obj.portOffset (portNo p)) = ofSigned 64 off := by
  have hsize : objSize (Obj.portOffset (portNo p)) = 8 := by cases p <;> decide
  unfold State.reported
  rw [num_setNum_self, hsize, ofSigned_mod]

theorem reported_sync : ((s.reported p off).ptpPort p).sync = (s.ptpPort p).sync := by
  have h : (s.reported p off).ptpPort p = s.portMeasured p := ptpPort_setPtpPort_self ..
  rw [h, State.portMeasured]

theorem timeActs_clockReported : s.TimeActs (s.clockReported p off) [Obj.offsetFromMaster, Obj.meanPathDelay] :=
  (timeActs_setNum s (by decide) _).trans (timeActs_setNum _ (by decide) _)

theorem clockReported_offset : (s.clockReported p off).num Obj.offsetFromMaster = ofSigned 64 off := by
  have hsize : objSize Obj.offsetFromMaster = 8 := by decide
  unfold State.clockReported
  rw [num_setNum_ne _ _ (by decide), num_setNum_self, hsize, ofSigned_mod]

theorem timeActs_timePortChosen : s.TimeActs s.timePortChosen [Obj.timePort] := .ite (timeActs_setNum s (by decide) _) (.refl ..)

theorem timePortChosen_time : s.timePortChosen.time = s.time := by
  unfold State.timePortChosen
  split <;> rfl

theorem heldOffset_form : ∃ b, s.heldOffset off = { s with time := { s.time with step := b } } := by
  unfold State.heldOffset
  split
  · exact ⟨s.time.step, rfl⟩
  · exact ⟨_, rfl⟩
  · exact ⟨s.time.step, rfl⟩

/-- After an offset is told of, neither the port's own value nor its waiting Sync moves. -/
theorem measured_keeps : (s.measured p off).num (Obj.portOffset (portNo p)) = ofSigned 64 off ∧
    ((s.measured p off).ptpPort p).sync = (s.ptpPort p).sync := by
  rw [measured_eq, ← reported_offset s p off, ← reported_sync s p off]
  generalize s.reported p off = u
  split
  · obtain ⟨b, hb⟩ := heldOffset_form u off
    rw [hb]
    exact ⟨num_of_dict rfl _, rfl⟩
  have hc := timeActs_timePortChosen u
  have hport : Obj.portOffset (portNo p) ∉ [Obj.timePort] ++ [Obj.offsetFromMaster, Obj.meanPathDelay] ++ judgingObjects := by cases p <;> decide
  simp only [List.mem_append, not_or] at hport
  obtain ⟨⟨h1, h2⟩, h3⟩ := hport
  split
  · exact ⟨hc.num h1, congrArg PtpPort.sync (ptpPort_congr (congrArg TimeUnit.ports (timePortChosen_time u)) p)⟩
  · rw [(timeActs_judgeOffset _ off).num h3, (timeActs_clockReported _ p off).num h2, hc.num h1, ptpPort_congr (s := u)]
    · exact ⟨rfl, rfl⟩
    · rw [judgeOffset_ports]
      exact congrArg TimeUnit.ports (timePortChosen_time u)

/-- An offset of the time port of a clock that follows no active is judged. -/
theorem measured_judged (hs : s.shadowTime = false) (hp : s.num Obj.timePort = portNo p) :
    s.measured p off = ((s.reported p off).clockReported p off).judgeOffset off := by
  have hr : (s.reported p off).num Obj.timePort = portNo p := ((timeActs_reported s p off).num (by decide)).trans hp
  have hc : (s.reported p off).timePortChosen = s.reported p off := if_neg (by rw [hr]; cases p <;> decide)
  rw [measured_eq, hc, hs, if_neg (by decide), if_neg (not_not.2 hr)]

/-! ### A Sync and its Follow_Up (R295, R297) -/

/-- A Sync of the parent, counted. -/
def State.syncTaken (m : PtpMsg) : State :=
  (s.count (Obj.syncReceived (portNo p))).setPtpPort p { (s.count (Obj.syncReceived (portNo p))).ptpPort p with syncInterval := m.logInterval }

/-- A Sync's stamps complete. -/
def State.completed (rx origin : Nat) (corr : Int) : State :=
  s.setPtpPort p { s.ptpPort p with sync := none, syncDelta := some ((rx : Int) - origin - corrNs corr) }

theorem timeActs_completed (rx origin : Nat) (corr : Int) (os : List Nat) : s.TimeActs (s.completed p rx origin corr) os := timeActs_setPtpPort ..

theorem syncComplete_eq (rx origin : Nat) (corr : Int) : s.syncComplete p rx origin corr =
    (s.completed p rx origin corr).measured p ((rx : Int) - origin - corrNs corr - s.pathDelay p - s.asymmetry p) := rfl

/-- The counters of the Syncs taken. -/
def syncObjects : List Nat :=
  [Obj.syncReceived 0, Obj.syncReceived 1] ++ [Obj.syncReceived 0, Obj.syncReceived 1].map overflowAddr ++ tallyObjects

theorem timeActs_syncTaken (m : PtpMsg) : s.TimeActs (s.syncTaken p m) syncObjects := by
  have h : s.TimeActs (s.count (Obj.syncReceived (portNo p))) syncObjects := by
    cases p <;> exact timeActs_count s (by decide) (by decide) (by decide)
  exact h.trans (timeActs_setPtpPort ..)

theorem syncTaken_count (m : PtpMsg) : (s.syncTaken p m).num (Obj.syncReceived (portNo p)) = s.counted (Obj.syncReceived (portNo p)) 1 := by
  refine (num_of_dict (State.setPtpPort_dict ..) _).trans ?_
  cases p <;> exact count_num s 1 (by decide) (by decide)

theorem syncTaken_time (m : PtpMsg) : ∃ ports, (s.syncTaken p m).time = { s.time with ports := ports } := by
  rw [State.syncTaken, State.setPtpPort_time, State.count_time]
  exact ⟨_, rfl⟩

/-- The parent of a port is the same in the state that a message has reached. -/
theorem fromParent_reached (m : PtpMsg) : (s.ptpReached p).fromParent p m = s.fromParent p m := by
  obtain ⟨ts, hport⟩ := ptpReached_port s p
  have hr := timeActs_ptpReached s p
  unfold State.fromParent
  rw [hport, hr.portIs p portSlave (by cases p <;> decide)]

variable {s p} {m : PtpMsg} (ht : s.PtpTakes p m.vlan m.udp) (hd : s.wrongDomain m = false) (hp : s.fromParent p m = true)
include ht hd hp

/-- A Sync of the parent acts by its kind. -/
theorem sync_taken : exec (.sync p m) s = .next (if m.twoStep then
      ((s.ptpReached p).syncTaken p m).setPtpPort p { ((s.ptpReached p).syncTaken p m).ptpPort p with sync := some (m.seq.toNat, m.rxNs, m.corr) }
    else ((s.ptpReached p).syncTaken p m).syncComplete p m.rxNs (ptpStampNs m) m.corr) := by
  have hdom := (timeActs_ptpReached s p).wrongDomain m
  have hpar := fromParent_reached s p m
  show execSync p m s = _
  unfold execSync
  rw [ptpTake_taken ht]
  exact congrArg Host.Outcome.next ((if_neg (by rw [hdom, hd]; decide)).trans (if_neg (by rw [hpar, hp]; decide)))

/-- A two-step Sync waits, its offset not yet known. -/
theorem sync_waits (h2 : m.twoStep = true) : ∃ t, exec (.sync p m) s = .next t ∧ (t.ptpPort p).sync = some (m.seq.toNat, m.rxNs, m.corr) ∧
    t.num (Obj.portOffset (portNo p)) = s.num (Obj.portOffset (portNo p)) := by
  have hgo := sync_taken ht hd hp
  rw [if_pos h2] at hgo
  refine ⟨_, hgo, by rw [ptpPort_setPtpPort_self], ?_⟩
  refine (num_of_dict (State.setPtpPort_dict ..) _).trans ?_
  rw [(timeActs_syncTaken _ p m).num (by cases p <;> decide), (timeActs_ptpReached s p).num (by cases p <;> decide)]

/-- A Follow_Up completes the Sync that waits for it. -/
theorem followUp_completes {rx : Nat} {corr : Int} (hw : (s.ptpPort p).sync = some (m.seq.toNat, rx, corr)) :
    ∃ t, exec (.followUp p m) s = .next t ∧ (t.ptpPort p).sync = none ∧ t.num (Obj.portOffset (portNo p)) =
      ofSigned 64 ((rx : Int) - ptpStampNs m - corrNs (corr + m.corr) - s.pathDelay p - s.asymmetry p) := by
  have hr := timeActs_ptpReached s p
  have hpar := fromParent_reached s p m
  obtain ⟨ts, hport⟩ := ptpReached_port s p
  have hgo : exec (.followUp p m) s = .next ((s.ptpReached p).syncComplete p rx (ptpStampNs m) (corr + m.corr)) := by
    show execFollowUp p m s = _
    unfold execFollowUp
    rw [ptpTake_taken ht]
    refine congrArg Host.Outcome.next ((if_neg (by rw [hr.wrongDomain, hd]; decide)).trans ((if_neg (by rw [hpar, hp]; decide)).trans ?_))
    rw [hport, hw]
    exact if_pos rfl
  obtain ⟨hoff, hsync⟩ := measured_keeps ((s.ptpReached p).completed p rx (ptpStampNs m) (corr + m.corr)) p
    ((rx : Int) - ptpStampNs m - corrNs (corr + m.corr) - (s.ptpReached p).pathDelay p - (s.ptpReached p).asymmetry p)
  rw [syncComplete_eq] at hgo
  refine ⟨_, hgo, ?_, ?_⟩
  · rw [hsync, State.completed, ptpPort_setPtpPort_self]
  · rw [hoff, hr.pathDelay p (by cases p <;> decide), hr.asymmetry p (by cases p <;> decide)]

end

/-- The objects that a Sync moves before its offset is judged. -/
def stampObjects : List Nat := arrivalObjects ++ syncObjects ++ reportObjects

/-- The state in which the offset of a one-step Sync on the time port is judged. -/
def State.stamped (s : State) (p : NetPort) (m : PtpMsg) : State :=
  ((((s.ptpReached p).syncTaken p m).completed p m.rxNs (ptpStampNs m) m.corr).reported p (s.syncOffset p m)).clockReported p (s.syncOffset p m)

section

variable (s : State) (p : NetPort) (m : PtpMsg)

theorem timeActs_stamped : s.TimeActs (s.stamped p m) stampObjects :=
  (((((timeActs_ptpReached s p).mono (by decide)).trans ((timeActs_syncTaken _ p m).mono (by decide))).trans (timeActs_completed ..)).trans
    ((timeActs_reported _ p _).mono (by decide))).trans ((timeActs_clockReported _ p _).mono (by decide))

theorem stamped_time : ∃ ports, (s.stamped p m).time = { s.time with ports := ports } := by
  obtain ⟨ps, h1⟩ := ptpReached_time s p
  obtain ⟨qs, h2⟩ := syncTaken_time (s.ptpReached p) p m
  unfold State.stamped State.clockReported State.reported State.completed
  rw [State.setNum_time, State.setNum_time, State.setNum_time, State.setPtpPort_time, State.setPtpPort_time, h2, h1]
  exact ⟨_, rfl⟩

theorem stamped_tells : (s.stamped p m).num (Obj.syncReceived (portNo p)) = s.counted (Obj.syncReceived (portNo p)) 1 ∧
    (s.stamped p m).num (Obj.portOffset (portNo p)) = ofSigned 64 (s.syncOffset p m) ∧
    (s.stamped p m).num Obj.offsetFromMaster = ofSigned 64 (s.syncOffset p m) := by
  have hr := timeActs_ptpReached s p
  have hcount := syncTaken_count (s.ptpReached p) p m
  unfold State.stamped
  generalize (s.ptpReached p).syncTaken p m = u at hcount
  have hdone : u.TimeActs (u.completed p m.rxNs (ptpStampNs m) m.corr) [] := timeActs_completed ..
  generalize u.completed p m.rxNs (ptpStampNs m) m.corr = v at hdone
  have hrep := timeActs_reported v p (s.syncOffset p m)
  have hoff := reported_offset v p (s.syncOffset p m)
  generalize v.reported p (s.syncOffset p m) = w at hrep hoff
  have hclock := timeActs_clockReported w p (s.syncOffset p m)
  refine ⟨?_, (hclock.num (by cases p <;> decide)).trans hoff, clockReported_offset ..⟩
  rw [hclock.num (by cases p <;> decide), hrep.num (by cases p <;> decide), hdone.num (by simp), hcount]
  exact hr.counted (by cases p <;> decide) 1

variable {s p m}

/-- A one-step Sync of the parent on the time port is judged by its offset. -/
theorem sync_judges (h : s.JudgesSync p m) : exec (.sync p m) s = .next ((s.stamped p m).judgeOffset (s.syncOffset p m)) := by
  obtain ⟨⟨ht, hd, hp⟩, h1, hs, hport⟩ := h
  have hu := ((timeActs_ptpReached s p).mono (ps := stampObjects) (by decide)).trans ((timeActs_syncTaken (s.ptpReached p) p m).mono (by decide))
  have hgo := sync_taken ht hd hp
  rw [if_neg (by rw [h1]; decide), syncComplete_eq, hu.pathDelay p (by cases p <;> decide), hu.asymmetry p (by cases p <;> decide)] at hgo
  have hv := hu.trans (timeActs_completed _ p m.rxNs (ptpStampNs m) m.corr _)
  rw [measured_judged _ p _ ((hv.shadowTime (by decide)).trans hs) ((hv.num (by decide)).trans hport)] at hgo
  exact hgo

theorem sync_tells (h : s.JudgesSync p m) : ∃ t, exec (.sync p m) s = .next t ∧
    t.num (Obj.syncReceived (portNo p)) = s.counted (Obj.syncReceived (portNo p)) 1 ∧
    t.num (Obj.portOffset (portNo p)) = ofSigned 64 (s.syncOffset p m) ∧ t.num Obj.offsetFromMaster = ofSigned 64 (s.syncOffset p m) ∧
    t.timeNs = s.timeNs ∧ s.Judged t (s.syncOffset p m) := by
  have ha := timeActs_stamped s p m
  have hj := timeActs_judgeOffset (s.stamped p m) (s.syncOffset p m)
  obtain ⟨hcount, hoff, hclock⟩ := stamped_tells s p m
  obtain ⟨ports, htime⟩ := stamped_time s p m
  refine ⟨_, sync_judges h, ?_, ?_, ?_, hj.timeNs.trans ha.timeNs, (judged_judgeOffset ..).of_acts ha (by decide) htime⟩
  · rw [hj.num (by cases p <;> decide), hcount]
  · rw [hj.num (by cases p <;> decide), hoff]
  · rw [hj.num (by decide), hclock]

end

end Sys2Proof.Machine

end

section

open Sys2Proof Sys2Proof.Machine

/-- Settles O37: screening is one lemma over the instructions' common form, an Announce and its want end in the choice of a master, and a Sync's stamps
lead to the judgement of its offset. -/
theorem ptpMessagesAreTaken : Obligations.PtpMessagesAreTaken := by
  refine ⟨ptpMessages_screened, fun s p m => ⟨announce_enters s p, fun h => announceTimeout_off h p, announceTimeout_forgets s p⟩,
    fun s p m => ⟨fun h => ?_, fun ht hd hp => sync_waits ht hd hp, fun rx corr ht hd hp => followUp_completes ht hd hp⟩⟩
  obtain ⟨t, hgo, hcount, hoff, hclock, hns, hfirst, hpermit, hrefuse, hwithin⟩ := sync_tells h
  exact ⟨t, hgo, hcount, hoff, hclock, hns, hfirst, fun hd hs ho => ⟨hpermit hd hs ho, hrefuse hd hs ho⟩, hwithin⟩

end

section

namespace Sys2Proof.Machine

/-! ### Canary die faults (R133) -/

/-- The Canary source stands asserted, with its cause. -/
def State.CanaryStands (s : State) : Prop := bit s.rst.cause 3 = true ∧ ∃ l, (ResetSource.canary, l) ∈ s.rst.asserted

/-- Between `s` and `t` the Canary found a die fault at least once (R133): the staging is discarded, the commit frames are withdrawn, in RUN the source
asserts, and tallies alone have told of it. -/
structure State.Discards (s t : State) : Prop where
  objects : s.SameObjects t tallyObjects
  rest : ∃ d l r, t = { s.withdrawCommits with dict := d, tally := l, rst := r, eng := { s.eng with discard := true } }
  canary : s.mode = .run → t.CanaryStands

section

variable (s : State)

theorem assertAt_canary (l : ResetLevel) : (s.assertAt .canary l).CanaryStands := by
  refine ⟨?_, _, List.mem_append_right _ (List.mem_singleton.2 rfl)⟩
  simp only [State.assertAt, sourceBit, bit_putBit, if_pos]

theorem assertSource_rest (src : ResetSource) (asked : ResetLevel) :
    s.assertSource src asked = { s with rst := (s.assertSource src asked).rst } := by
  unfold State.assertSource
  split <;> rfl

theorem assertSource_canary_run (asked : ResetLevel) (h : s.mode = .run) : (s.assertSource .canary asked).CanaryStands := by
  have hl : s.assertSource .canary asked = s.assertAt .canary .w := by rw [State.assertSource, h]; rfl
  exact hl ▸ assertAt_canary s .w

theorem withdrawCommits_twice : s.withdrawCommits.withdrawCommits = s.withdrawCommits := by
  unfold State.withdrawCommits
  simp only [Vector.map_map, Function.comp_def, Assoc.erase, List.filter_filter, Bool.and_self]
  congr 3
  funext x
  by_cases h : x.named = some (s.tick % 65536) <;> simp [h]

theorem withdrawCommits_gone {t : State} (h : t.io = s.withdrawCommits.io) : s.CommitsGone t where
  sides k := by rw [h]; exact Vector.getElem_map ..
  links k := by rw [h]; exact Vector.getElem_map ..
  rest := by rw [h]; rfl

/-- The state in which a die fault is told. -/
def State.withdrawn : State := ({ s with eng := { s.eng with discard := true } } : State).withdrawCommits

theorem dieFault_eq (check : TickCheck) (unit want got : Nat) : s.dieFault check unit want got = (s.withdrawn.logTally 0x0301
    [tickCheckCode check + unit * 256 + tickIndex s.tick * 65536, low32 want, low32 got, low32 s.tick]).assertSource .canary .s := rfl

theorem dieFault_discards (check : TickCheck) (unit want got : Nat) : s.Discards (s.dieFault check unit want got) := by
  rw [dieFault_eq]
  refine ⟨fun a ha => ?_, ?_, fun hrun => assertSource_canary_run _ _ ?_⟩
  · rw [assertSource_rest]
    exact logTally_obj s.withdrawn _ _ ha
  · rw [assertSource_rest, logTally_rest]
    exact ⟨_, _, _, rfl⟩
  · rw [logTally_rest]
    exact hrun

theorem dieFault_grows (check : TickCheck) (unit want got : Nat) : s.tally.Grows (s.dieFault check unit want got).tally 2 := by
  rw [dieFault_eq, assertSource_rest]
  exact logDraft_grows s.withdrawn _

end

theorem State.Discards.trans {s t u : State} (h : s.Discards t) (k : t.Discards u) : s.Discards u := by
  obtain ⟨d, l, r, hr⟩ := h.rest
  obtain ⟨d', l', r', kr⟩ := k.rest
  refine ⟨fun a ha => (k.objects a ha).trans (h.objects a ha), ⟨d', l', r', ?_⟩, fun hrun => k.canary (by rw [hr]; exact hrun)⟩
  rw [kr, hr]
  show ({ s.withdrawCommits.withdrawCommits with dict := d', tally := l', rst := r', eng := { s.eng with discard := true } } : State) = _
  rw [withdrawCommits_twice]

theorem State.Discards.gone {s t : State} (h : s.Discards t) : s.CommitsGone t := by
  obtain ⟨d, l, r, hr⟩ := h.rest
  exact withdrawCommits_gone s (by rw [hr])

theorem State.Discards.whole {s t : State} (h : s.Discards t) : t.eng.discard = true ∧
    t = { s with dict := t.dict, tally := t.tally, rst := t.rst, io := t.io, eng := { s.eng with discard := true } } := by
  obtain ⟨d, l, r, hr⟩ := h.rest
  rw [hr]
  exact ⟨rfl, rfl⟩

/-! ### The checks of a tick (Table 4-7) -/

/-- A check of Table 4-7, and where it fails the unit with the values expected and observed. -/
abbrev TickFinding := TickCheck × Option (Nat × Nat × Nat)

/-- The checks are judged one after another. -/
def State.judgedBy (s : State) (fs : List TickFinding) : State := fs.foldl (fun s f => s.checked f.1 f.2) s

/-- Every check since `s` has passed, or one has discarded the tick's staging. -/
def State.Checked (s t : State) : Prop := t = s ∨ s.Discards t

section

variable {s t : State}

theorem State.Checked.checked (h : s.Checked t) (f : TickFinding) : s.Checked (t.checked f.1 f.2) := by
  obtain ⟨check, bad⟩ := f
  cases bad with
  | none => exact h
  | some x =>
    have hd : t.Discards (t.checked check (some x)) := dieFault_discards ..
    obtain rfl | h := h
    · exact .inr hd
    · exact .inr (h.trans hd)

theorem State.Checked.fails (h : s.Checked t) {f : TickFinding} (hf : f.2 ≠ none) : s.Discards (t.checked f.1 f.2) := by
  obtain ⟨check, bad⟩ := f
  cases bad with
  | none => exact absurd rfl hf
  | some x =>
    have hd : t.Discards (t.checked check (some x)) := dieFault_discards ..
    obtain rfl | h := h
    · exact hd
    · exact h.trans hd

theorem State.Checked.judgedBy (fs : List TickFinding) (h : s.Checked t) : s.Checked (t.judgedBy fs) := by
  induction fs generalizing t with
  | nil => exact h
  | cons f fs ih => exact ih (h.checked f)

theorem checked_judgedBy (s : State) (fs : List TickFinding) : s.Checked (s.judgedBy fs) := .judgedBy fs (.inl rfl)

theorem judgedBy_append (s : State) (fs gs : List TickFinding) : s.judgedBy (fs ++ gs) = (s.judgedBy fs).judgedBy gs := List.foldl_append

/-- Checks that all pass leave everything. -/
theorem judgedBy_passes {fs : List TickFinding} (h : ∀ f ∈ fs, f.2 = none) : s.judgedBy fs = s := by
  induction fs with
  | nil => rfl
  | cons f fs ih =>
    have hf : s.checked f.1 f.2 = s := by rw [h f (List.mem_cons_self ..)]; rfl
    show State.judgedBy (s.checked f.1 f.2) fs = s
    rw [hf, ih fun g hg => h g (List.mem_cons_of_mem f hg)]

/-- A check that fails discards the tick, whatever the others find. -/
theorem judgedBy_fails {fs : List TickFinding} {f : TickFinding} (hf : f ∈ fs) (h : f.2 ≠ none) : s.Discards (s.judgedBy fs) := by
  obtain ⟨as, bs, rfl⟩ := List.append_of_mem hf
  rw [judgedBy_append]
  have hd := (checked_judgedBy s as).fails h
  obtain hb | hb := checked_judgedBy ((s.judgedBy as).checked f.1 f.2) bs
  · exact hb ▸ hd
  · exact hd.trans hb

theorem judgedBy_grows (s : State) (fs : List TickFinding) : s.tally.Grows (s.judgedBy fs).tally (2 * fs.length) := by
  induction fs generalizing s with
  | nil => exact .refl _ _
  | cons f fs ih =>
    obtain ⟨check, bad⟩ := f
    have h1 : s.tally.Grows (s.checked check bad).tally 2 := by
      cases bad with
      | none => exact .refl _ _
      | some x => exact dieFault_grows ..
    have h := h1.trans (ih (s.checked check bad))
    rwa [show 2 + 2 * fs.length = 2 * (fs.length + 1) by omega] at h

/-- The record of a die fault stands in the log behind the checks that follow (R133). -/
theorem dieFault_wrote (s : State) (check : TickCheck) (unit want got : Nat) {fs : List TickFinding} (h : fs.length ≤ 9) :
    s.Wrote ((s.dieFault check unit want got).judgedBy fs) 0x0301
      [tickCheckCode check + unit * 256 + tickIndex s.tick * 65536, low32 want, low32 got, low32 s.tick] := by
  have hd : s.Discards ((s.dieFault check unit want got).judgedBy fs) := by
    obtain hb | hb := checked_judgedBy (s.dieFault check unit want got) fs
    · rw [hb]
      exact dieFault_discards ..
    · exact (dieFault_discards ..).trans hb
  have hgrows := judgedBy_grows (s.dieFault check unit want got) fs
  have htally : (s.dieFault check unit want got).tally = (s.withdrawn.logTally 0x0301
      [tickCheckCode check + unit * 256 + tickIndex s.tick * 65536, low32 want, low32 got, low32 s.tick]).tally := by
    rw [dieFault_eq, assertSource_rest]
  rw [htally] at hgrows
  exact wrote_of_grows (u := s.withdrawn) (TallyLog.extends_refl _) hgrows (by simp only [tallySlots]; omega) (num_congr (hd.objects _ (by decide)))
    (by rw [hd.whole.2]; rfl)

end

section

variable (s : State) (m : CanaryMeasure)

/-- The edge interval, within 1 us of its value. -/
def State.intervalFault : Option (Nat × Nat × Nat) :=
  if s.time.unjudged || (249000 ≤ m.interval && m.interval ≤ 251000) then none else some (0xFF, 250000, m.interval)

/-- The setting against the one that the profile gives. -/
def State.settingFault : Option (Nat × Nat × Nat) :=
  if m.setting = s.settingWanted then none else some (0xFF, settingWord s.settingWanted, settingWord m.setting)

/-- What the checks of the warp's work find. -/
def State.workFindings : List TickFinding :=
  if s.executes then
    [(.capture, captureFault m.capture m.bodyCrc)] ++
      (List.range 4).map (fun k => (.laneRetirement, s.retirementFault (proofRecord s.sections s.profile (tickIndex s.tick)) k)) ++
      [(.loomAllocation, s.loomFault m.loom), (.staging, stagingFault m.staging)]
  else []

/-- What the checks behind that of the edge interval find, in the order of Table 4-7. -/
def State.laterFindings : List TickFinding := s.workFindings m ++ [(.clockSupply, s.settingFault m), (.fullScan, s.scanFault m.scan)]

/-- What the checks of the tick find. -/
def State.tickFindings : List TickFinding := (.edgeInterval, s.intervalFault m) :: s.laterFindings m

theorem laterFindings_length : (s.laterFindings m).length ≤ 9 := by
  unfold State.laterFindings State.workFindings
  split <;> simp

variable {s}

/-- The tallies of the checks before it do not touch what a check judges. -/
theorem State.Checked.judges_alike {t : State} (h : s.Checked t) : t.executes = s.executes ∧ t.loomFault m.loom = s.loomFault m.loom ∧
    t.workFindings m = s.workFindings m := by
  obtain rfl | h := h
  · exact ⟨rfl, rfl, rfl⟩
  · obtain ⟨d, l, r, hr⟩ := h.rest
    have hsync : t.num Obj.syncState = s.num Obj.syncState := num_congr (h.objects _ (by decide))
    have hprofile : t.num Obj.activeProfile = s.num Obj.activeProfile := num_congr (h.objects _ (by decide))
    have hx : t.executes = s.executes := by
      unfold State.executes
      rw [hsync, hr]
      rfl
    have hloom : t.loomFault m.loom = s.loomFault m.loom := by rw [hr]; rfl
    have hretired : t.retirementFault = s.retirementFault := by
      funext record k
      unfold State.retirementFault State.canvas
      rw [hprofile, hr]
    refine ⟨hx, hloom, ?_⟩
    unfold State.workFindings State.profile
    rw [hx, hloom, hretired, hprofile, hr]
    rfl

theorem checkWork_eq : s.checkWork m = s.judgedBy (s.workFindings m) := by
  unfold State.checkWork State.workFindings
  by_cases hx : s.executes = true
  · simp only [hx, Bool.not_true, Bool.false_eq_true, if_false, if_true, State.judgedBy, List.foldl_append, List.foldl_map, List.foldl_cons,
      List.foldl_nil]
  · simp [hx, State.judgedBy]

theorem canaryTickCheck_eq (ht : s.ticking = true) (ha : s.mode.answers = true) :
    exec (.canaryTickCheck m) s = .next (s.judgedBy (s.tickFindings m)) := by
  have h1 : (if s.time.unjudged || (249000 ≤ m.interval && m.interval ≤ 251000) then s else s.dieFault .edgeInterval 0xFF 250000 m.interval) =
      s.checked .edgeInterval (s.intervalFault m) := by
    unfold State.intervalFault
    split <;> rfl
  have hc : s.Checked (s.checked .edgeInterval (s.intervalFault m)) := State.Checked.checked (.inl rfl) (TickCheck.edgeInterval, s.intervalFault m)
  have hwork : (s.checked .edgeInterval (s.intervalFault m)).checkWork m = (s.checked .edgeInterval (s.intervalFault m)).judgedBy (s.workFindings m) := by
    rw [checkWork_eq, (hc.judges_alike m).2.2]
  simp only [exec, execCanaryTickCheck, ht, ha, Bool.not_true, Bool.or_self, Bool.false_eq_true, if_false]
  rw [h1, hwork]
  simp only [State.tickFindings, State.laterFindings, State.judgedBy, List.foldl_cons, List.foldl_append, List.foldl_nil, State.settingFault]

theorem captureFault_none (at_ : Option Nat) (crc : Bool) : captureFault at_ crc = none ↔ ∃ n, at_ = some n ∧ n ≤ 30000 ∧ crc = true := by
  cases at_ with
  | none => simp [captureFault]
  | some n => simp [captureFault]

theorem stagingFault_none (at_ : Option Nat) : stagingFault at_ = none ↔ ∃ n, at_ = some n ∧ n ≤ 232000 := by
  cases at_ with
  | none => simp [stagingFault]
  | some n => simp [stagingFault]

theorem settingFault_none : s.settingFault m = none ↔ m.setting = s.settingWanted := by
  simp [State.settingFault]

theorem intervalFault_none (h : 249000 ≤ m.interval ∧ m.interval ≤ 251000) : s.intervalFault m = none := by
  simp [State.intervalFault, h]

theorem intervalFault_some (h : ¬(249000 ≤ m.interval ∧ m.interval ≤ 251000)) (hu : s.time.unjudged = false) :
    s.intervalFault m = some (0xFF, 250000, m.interval) := by
  simp only [State.intervalFault, hu, Bool.false_or, Bool.and_eq_true, decide_eq_true_eq]
  exact if_neg h

/-- The work of a tick has no finding where nothing of the warp runs. -/
theorem workFindings_idle (h : s.executes = false) : s.workFindings m = [] := by
  simp [State.workFindings, h]

theorem mem_workFindings {f : TickFinding} : f ∈ s.workFindings m ↔ s.executes = true ∧ (f = (.capture, captureFault m.capture m.bodyCrc) ∨
    (∃ k < 4, f = (.laneRetirement, s.retirementFault (proofRecord s.sections s.profile (tickIndex s.tick)) k)) ∨
    f = (.loomAllocation, s.loomFault m.loom) ∨ f = (.staging, stagingFault m.staging)) := by
  unfold State.workFindings
  split
  · rename_i h
    simp only [h, true_and, List.mem_append, List.mem_cons, List.not_mem_nil, or_false, List.mem_map, List.mem_range, or_assoc, eq_comm]
  · rename_i h
    simp [h]

theorem mem_tickFindings {f : TickFinding} : f ∈ s.tickFindings m ↔ f = (.edgeInterval, s.intervalFault m) ∨ f ∈ s.workFindings m ∨
    f = (.clockSupply, s.settingFault m) ∨ f = (.fullScan, s.scanFault m.scan) := by
  simp only [State.tickFindings, State.laterFindings, List.mem_cons, List.mem_append, List.not_mem_nil, or_false]

/-- Where every check passes, nothing changes. -/
theorem canary_passes (ht : s.ticking = true) (ha : s.mode.answers = true) (hi : 249000 ≤ m.interval ∧ m.interval ≤ 251000)
    (hw : ∀ f ∈ s.workFindings m, f.2 = none) (hs : s.settingFault m = none) (hscan : s.scanFault m.scan = none) :
    exec (.canaryTickCheck m) s = .next s := by
  rw [canaryTickCheck_eq m ht ha, judgedBy_passes]
  intro f hf
  obtain rfl | hf | rfl | rfl := (mem_tickFindings m).1 hf
  · exact intervalFault_none m hi
  · exact hw f hf
  · exact hs
  · exact hscan

/-- Where one fails, the tick is discarded. -/
theorem canary_discards (ht : s.ticking = true) (ha : s.mode.answers = true) {f : TickFinding} (hf : f ∈ s.tickFindings m) (h : f.2 ≠ none) :
    ∃ t, exec (.canaryTickCheck m) s = .next t ∧ s.Discards t :=
  ⟨_, canaryTickCheck_eq m ht ha, judgedBy_fails hf h⟩

/-- An edge interval out of its bounds is told of, whatever the later checks tell (R131). -/
theorem canary_interval (ht : s.ticking = true) (ha : s.mode.answers = true) (hi : ¬(249000 ≤ m.interval ∧ m.interval ≤ 251000))
    (hu : s.time.unjudged = false) : ∃ t, exec (.canaryTickCheck m) s = .next t ∧ s.Discards t ∧
      s.Wrote t 0x0301 [1 + 0xFF * 256 + tickIndex s.tick * 65536, 250000, low32 m.interval, low32 s.tick] := by
  have hf := intervalFault_some m hi hu
  have hd : s.Discards (s.judgedBy (s.tickFindings m)) :=
    judgedBy_fails (f := (.edgeInterval, s.intervalFault m)) ((mem_tickFindings m).2 (.inl rfl)) (by rw [hf]; simp)
  have hrest : s.judgedBy (s.tickFindings m) = (s.dieFault .edgeInterval 0xFF 250000 m.interval).judgedBy (s.laterFindings m) := by
    show (s.checked .edgeInterval (s.intervalFault m)).judgedBy _ = _
    rw [hf]
    rfl
  exact ⟨_, canaryTickCheck_eq m ht ha, hd, hrest ▸ dieFault_wrote s .edgeInterval 0xFF 250000 m.interval (laterFindings_length s m)⟩

end

end Sys2Proof.Machine
end

section

open Sys2Proof Sys2Proof.Machine

/-- Settles O23: the checks are one list of findings; all passed they leave the state, and one that fails discards the tick through every later one. -/
theorem canaryJudgesTheTick : Obligations.CanaryJudgesTheTick := by
  intro s m ht ha record interval capture retired staging setting scan
  have hset : setting ↔ s.settingFault m = none := (settingFault_none m).symm
  have hcap : capture ↔ captureFault m.capture m.bodyCrc = none := (captureFault_none ..).symm
  have hstag : staging ↔ stagingFault m.staging = none := (stagingFault_none ..).symm
  refine ⟨fun hi hx hs hsc => ?_, fun hi hc hr hl hst hs hsc => ?_, fun hi hu => ?_, fun h => ?_⟩
  · exact canary_passes m ht ha hi (by rw [workFindings_idle m hx]; simp) (hset.1 hs) hsc
  · refine canary_passes m ht ha hi (fun f hf => ?_) (hset.1 hs) hsc
    obtain ⟨-, rfl | ⟨k, hk, rfl⟩ | rfl | rfl⟩ := (mem_workFindings m).1 hf
    · exact hcap.1 hc
    · exact hr k hk
    · exact hl
    · exact hstag.1 hst
  · obtain ⟨t, hgo, hd, hw⟩ := canary_interval m ht ha hi hu
    exact ⟨t, hgo, hd.whole.1, hw, hd.canary, hd.whole.2, hd.gone⟩
  · have hbad : ∃ f ∈ s.tickFindings m, f.2 ≠ none := by
      simp only [mem_tickFindings, mem_workFindings]
      obtain ⟨hx, hb⟩ | hb | hb := h
      · obtain hb | hb | hb | hb := hb
        · exact ⟨_, .inr (.inl ⟨hx, .inl rfl⟩), mt hcap.2 hb⟩
        · simp only [retired, not_forall] at hb
          obtain ⟨k, hk, hb⟩ := hb
          exact ⟨_, .inr (.inl ⟨hx, .inr (.inl ⟨k, hk, rfl⟩)⟩), hb⟩
        · exact ⟨_, .inr (.inl ⟨hx, .inr (.inr (.inl rfl))⟩), hb⟩
        · exact ⟨_, .inr (.inl ⟨hx, .inr (.inr (.inr rfl))⟩), mt hstag.2 hb⟩
      · exact ⟨_, .inr (.inr (.inl rfl)), mt hset.2 hb⟩
      · exact ⟨_, .inr (.inr (.inr rfl)), hb⟩
    obtain ⟨f, hf, hne⟩ := hbad
    obtain ⟨t, hgo, hd⟩ := canary_discards m ht ha hf hne
    exact ⟨t, hgo, hd.whole.1, hd.canary, hd.whole.2, hd.gone⟩

end

section

namespace Sys2Proof.Machine

/-! ### The stale table (R122, R123) -/

theorem issueTally_issued (s : State) (code : Nat) (ps : List Nat) : ∃ r, (s.issueTally code ps).tally.issued = s.tally.issued ++ [r] ∧ r.code = code ∧
    r.params = ps := ⟨_, rfl, rfl, rfl⟩

/-- A source that is reported already, or is not stale, is not reported. -/
theorem sourceStale_quiet {s : State} {entry : BitVec 16} {d : StaleDef} (hd : s.staleDefs[entry.toNat]? = some d)
    (h : (s.staleAt entry.toNat).reached = true ∨ (s.staleAt entry.toNat).count < d.tolerance) : exec (.sourceStale entry) s = .next s := by
  simp [exec, execSourceStale, hd, h]

/-- A source whose count has reached its tolerance, noted. -/
def State.staleNoted (s : State) (k : Nat) : State := { s with stale := Assoc.set s.stale k { s.staleAt k with reached := true } }

theorem sourceStale_reports {s : State} {entry : BitVec 16} {d : StaleDef} (hd : s.staleDefs[entry.toNat]? = some d)
    (hr : (s.staleAt entry.toNat).reached = false) (hc : d.tolerance ≤ (s.staleAt entry.toNat).count) : exec (.sourceStale entry) s =
      .next (((s.staleNoted entry.toNat).count Obj.staleEntries).issueTally 0x0304 [entry.toNat, (s.staleAt entry.toNat).count, 0, low32 s.tick]) := by
  simp [exec, execSourceStale, hd, hr, Nat.not_lt.2 hc, State.staleNoted]

theorem sourceStale_told (s : State) (k : Nat) (ps : List Nat) : let t := ((s.staleNoted k).count Obj.staleEntries).issueTally 0x0304 ps
    t.staleAt k = { s.staleAt k with reached := true } ∧ t.num Obj.staleEntries = s.counted Obj.staleEntries 1 ∧
    (∃ r, t.tally.issued = s.tally.issued ++ [r] ∧ r.code = 0x0304 ∧ r.params = ps) ∧ t = { s with dict := t.dict, tally := t.tally, stale := t.stale } := by
  intro t
  obtain ⟨r, hr, hcode, hparams⟩ := issueTally_issued ((s.staleNoted k).count Obj.staleEntries) 0x0304 ps
  have hsame := (count_same (s.staleNoted k) Obj.staleEntries 1).2.1
  refine ⟨?_, count_num (s.staleNoted k) 1 (by decide) (by decide), ⟨r, hr.trans (by rw [hsame]; rfl), hcode, hparams⟩, ?_⟩
  · have hst : t.stale = Assoc.set s.stale k { s.staleAt k with reached := true } := by
      show ((s.staleNoted k).count Obj.staleEntries).stale = _
      rw [State.count_stale]
      rfl
    show (Assoc.get? t.stale k).getD _ = _
    rw [hst, assoc_get_set_self]
    rfl
  · obtain ⟨d, l, h⟩ := count_form (s.staleNoted k) Obj.staleEntries 1
    simp only [t, h]
    rfl

/-! ### Shelves (R223) -/

section

variable (s : State) (b : Nat)

/-- Of the state only bytes 1 to 13 of the group record at `b` moved: its snapshots. -/
def State.SnapsAt (s t : State) (b : Nat) : Prop :=
  t = { s with store := t.store } ∧ ∀ a, (a < b + 1 ∨ b + 14 ≤ a) → Mem.get t.store a = Mem.get s.store a

variable {s b}

theorem State.SnapsAt.refl : s.SnapsAt s b := ⟨rfl, fun _ _ => rfl⟩

theorem State.SnapsAt.trans {t u : State} (h : s.SnapsAt t b) (k : t.SnapsAt u b) : s.SnapsAt u b :=
  ⟨by rw [k.1, h.1], fun a ha => (k.2 a ha).trans (h.2 a ha)⟩

theorem snapsAt_storePut {a : Nat} {bs : Bytes} (ha : b + 1 ≤ a) (hb : a + bs.length ≤ b + 14) : s.SnapsAt (s.storePut a bs) b :=
  ⟨rfl, fun _ hq => mem_get_write_ne _ _ (by omega)⟩

theorem snapsAt_foldl {α : Type} {f : State → α → State} (h : ∀ (s : State) x, s.SnapsAt (f s x) b) (xs : List α) (s : State) : s.SnapsAt (xs.foldl f s) b := by
  induction xs generalizing s with
  | nil => exact .refl
  | cons x xs ih => exact (h s x).trans (ih _)

theorem classCode_le (k : CClass) : classCode k ≤ 4 := by cases k <;> decide

theorem groupSnap_snaps (s : State) (c g : Nat) : s.SnapsAt (s.groupSnap c g) (groupAt s.sections g) :=
  snapsAt_foldl (fun s k => by
    have hk := classCode_le k
    refine State.SnapsAt.trans (snapsAt_storePut (Nat.le_refl _) ?_) (snapsAt_storePut ?_ ?_)
    · simp
    · omega
    · simp [State.storeRead]
      omega) _ s

end

section

variable (s : State) (g : Nat)

/-- The shelve of a group is cleared, and its snapshots follow. -/
def State.unshelved : State :=
  ((s.storePut (groupAt s.sections g) [0]).storePut (groupAt s.sections g + 16) (zeros 8)).groupSnap s.tick g

theorem unshelved_effect : s.unshelved g = { s with store := (s.unshelved g).store } ∧ Mem.get (s.unshelved g).store (groupAt s.sections g) = 0 ∧
    (∀ i < 8, Mem.get (s.unshelved g).store (groupAt s.sections g + 16 + i) = 0) ∧
    ∀ a, (a < groupAt s.sections g ∨ groupAt s.sections g + 24 ≤ a) → Mem.get (s.unshelved g).store a = Mem.get s.store a := by
  obtain ⟨hrest, hkept⟩ : ((s.storePut (groupAt s.sections g) [0]).storePut (groupAt s.sections g + 16) (zeros 8)).SnapsAt (s.unshelved g)
    (groupAt s.sections g) := groupSnap_snaps ..
  have hzeros : (zeros 8).length = 8 := rfl
  refine ⟨hrest, ?_, fun i hi => ?_, fun a ha => ?_⟩
  · rw [hkept _ (by omega)]
    refine (mem_get_write_ne _ _ (by omega)).trans ?_
    exact mem_get_write_self s.store (i := 0) (bs := [0]) (by simp)
  · rw [hkept _ (by omega)]
    exact (mem_get_write_self _ (by omega)).trans (List.getElem_replicate ..)
  · rw [hkept _ (by omega)]
    exact (mem_get_write_ne _ _ (by omega)).trans (mem_get_write_ne _ _ (by simp; omega))

theorem insertExpiry_length (d : TallyDraft) (ds : List TallyDraft) : (insertExpiry d ds).length = ds.length + 1 := by
  unfold insertExpiry
  extract_lets step4
  have h := congrArg List.length (List.takeWhile_append_dropWhile (p := fun x => !step4 x) (l := ds))
  simp only [List.length_append, List.length_singleton] at h ⊢
  omega

theorem mem_insertExpiry (d : TallyDraft) (ds : List TallyDraft) : d ∈ insertExpiry d ds := by
  simp [insertExpiry]

variable {s g}

theorem shelveExpiry_waits (h : s.storeNat (groupAt s.sections g) 1 = 0 ∨ s.tick < s.storeNat (groupAt s.sections g + 16) 8) : s.shelveExpiry g = s := by
  unfold State.shelveExpiry
  rcases h with h | h
  · simp [h]
  · simp [Nat.not_le.2 h]

/-- A shelve that has expired ends, and its record goes before those of the same capture's step 4 (R223). -/
theorem shelveExpiry_ends (hx : s.executes = true) (hg : g < s.groups.length) (hs : s.storeNat (groupAt s.sections g) 1 ≠ 0)
    (he : s.storeNat (groupAt s.sections g + 16) 8 ≤ s.tick) : ∃ d : TallyDraft, d.code = 0x0407 ∧ d.params = [g + 65536, 0, 0, low32 s.tick] ∧
      s.shelveExpiry g = { s.unshelved g with tally := { s.tally with issued := insertExpiry d s.tally.issued } } := by
  have htally : (s.unshelved g).tally = s.tally := by rw [(unshelved_effect s g).1]
  obtain ⟨d, hd, hcode, hparams⟩ := issueTally_issued (s.unshelved g) 0x0407 [g + 65536, 0, 0, low32 s.tick]
  refine ⟨d, hcode, hparams, ?_⟩
  have hlast : ((s.unshelved g).issueTally 0x0407 [g + 65536, 0, 0, low32 s.tick]).tally.issued.getLast? = some d := by
    rw [hd, List.getLast?_append, List.getLast?_singleton, Option.some_or]
  unfold State.shelveExpiry
  simp only [hx, hg, hs, he, decide_true, Bool.and_self, ne_eq, not_false_eq_true, if_true]
  change (match ((s.unshelved g).issueTally 0x0407 [g + 65536, 0, 0, low32 s.tick]).tally.issued.getLast? with | some d => _ | none => _) = _
  rw [hlast]
  show ({ s.unshelved g with tally := { (s.unshelved g).tally with issued := insertExpiry d (s.unshelved g).tally.issued } } : State) = _
  rw [htally]

end

/-! ### The SHELVE_EXPIRY command (R223) -/

/-- A standby whose weft of the tick is not in place keeps the expiry for it. -/
theorem shelveExpiry_kept {s : State} (g : BitVec 12) (hm : s.mode = .standby) (hx : s.executes = true) (hp : s.pair.placed ≠ some s.tick) :
    exec (.shelveExpiry g) s = .next { s with pair := { s.pair with expiring := s.pair.expiring ++ [g.toNat] } } := by
  simp [exec, execShelveExpiry, hm, hx, hp, State.setPair]

theorem shelveExpiry_due {s : State} (g : BitVec 12) (h : s.mode ≠ .standby ∨ s.pair.placed = some s.tick) :
    exec (.shelveExpiry g) s = .next (s.shelveExpiry g.toNat) := by
  refine congrArg Host.Outcome.next (if_neg ?_)
  obtain h | h := h <;> simp [h]

/-! ### Gap wefts (R261) -/

/-- What a pair keeps, and the objects. -/
def State.pairDict (s : State) : PairBlock × Assoc Bytes := (s.pair, s.dict)

theorem pairDict_inj {s t : State} (h : t.pairDict = s.pairDict) : t.pair = s.pair ∧ t.dict = s.dict := Prod.mk.inj h

section

variable (s : State)

theorem staleStep_pairDict (c k : Nat) (fresh : Bool) : (s.staleStep c k fresh).pairDict = s.pairDict := by
  unfold State.staleStep
  dsimp only
  split
  · split <;> rfl
  · rfl

theorem staleSteps_pairDict (c : Nat) (fresh : Nat → Bool) : (s.staleSteps c fresh).pairDict = s.pairDict := by
  refine foldl_keeps State.pairDict (fun s x => ?_) _ s
  obtain ⟨d, k⟩ := x
  show (if c % d.len = 0 then s.staleStep c k (fresh k) else s).pairDict = _
  split
  · exact staleStep_pairDict ..
  · rfl

theorem carryWeft_pairDict (t old new : Nat) : (s.carryWeft t old new).pairDict = s.pairDict := by
  unfold State.carryWeft
  split
  · rfl
  · refine foldl_keeps State.pairDict (fun s x => ?_) _ s
    split <;> rfl

theorem putHeaders_pairDict (c : Nat) (header : Bytes) (soe : List Bytes) : (s.putHeaders c header soe).pairDict = s.pairDict := by
  unfold State.putHeaders
  extract_lets table s1
  show _ = s1.pairDict
  refine foldl_keeps State.pairDict (fun s k => ?_) _ s1
  rfl

theorem groupSnap_pairDict (c g : Nat) : (s.groupSnap c g).pairDict = s.pairDict := by
  rw [(groupSnap_snaps s c g).1]
  rfl

theorem groupSteps_pairDict (c : Nat) : (s.groupSteps c []).pairDict = s.pairDict :=
  foldl_keeps State.pairDict (fun s g => groupSnap_pairDict s c g) _ s

theorem closeWefts_pairDict : s.closeWefts.pairDict = s.pairDict := by
  unfold State.closeWefts
  refine foldl_keeps State.pairDict (fun s k => ?_) _ s
  rfl

theorem shelveExpiry_pairDict (g : Nat) : (s.shelveExpiry g).pairDict = s.pairDict := by
  unfold State.shelveExpiry
  extract_lets b s1 s2
  have h2 : s2.pairDict = s.pairDict := groupSnap_pairDict ..
  clear_value s2
  split
  · split <;> exact h2
  · rfl

/-- The gap weft in place, before it is counted. -/
def State.gapPlaced : State :=
  let s1 := (s.placeWefts s.tick).staleSteps s.tick fun _ => false
  let s2 := (cutoffClasses s.tick).foldl (fun s' c => s'.carryWeft s.tick (s.weftOf (classCode c)) (s1.weftOf (classCode c))) s1
  ((s2.putHeaders s.tick (weftHeader s.tick s2.tickFlags 7 0 0 0 0) []).groupSteps s.tick []).closeWefts

theorem gapPlaced_pairDict : s.gapPlaced.pairDict = s.pairDict := by
  unfold State.gapPlaced
  extract_lets s1 s2
  have h1 : s1.pairDict = s.pairDict := (staleSteps_pairDict (s.placeWefts s.tick) _ _).trans rfl
  have h2 : s2.pairDict = s1.pairDict := foldl_keeps State.pairDict (fun s _ => carryWeft_pairDict s ..) _ s1
  rw [closeWefts_pairDict, groupSteps_pairDict, putHeaders_pairDict, h2, h1]

/-- The gap weft counted (R261). -/
def State.gapCounted : State :=
  (s.gapPlaced.count Obj.gapWefts).setPair { (s.gapPlaced.count Obj.gapWefts).pair.dropWefts s.tick with
    placed := some s.tick, gaps := (s.gapPlaced.count Obj.gapWefts).pair.gaps + 1 }

theorem gapWeft_eq : s.gapWeft = s.gapCounted.expireShelves := by
  unfold State.gapWeft State.gapCounted State.gapPlaced
  dsimp only

theorem gapCounted_dict : s.gapCounted.dict = (s.gapPlaced.count Obj.gapWefts).dict := State.setPair_dict ..

theorem gapWeft_tells : s.gapWeft.pair.placed = some s.tick ∧ s.gapWeft.pair.gaps = s.pair.gaps + 1 ∧
    s.gapWeft.num Obj.gapWefts = s.counted Obj.gapWefts 1 := by
  have hexpired : s.gapWeft.pairDict = (s.gapCounted.setPair { s.gapCounted.pair with expiring := [] }).pairDict := by
    rw [gapWeft_eq]
    exact foldl_keeps State.pairDict (fun s g => shelveExpiry_pairDict s g) s.gapCounted.pair.expiring _
  obtain ⟨hpair, hdict⟩ := pairDict_inj hexpired
  obtain ⟨hpair0, hdict0⟩ := pairDict_inj (gapPlaced_pairDict s)
  refine ⟨by rw [hpair]; rfl, ?_, ?_⟩
  · rw [hpair]
    show (s.gapPlaced.count Obj.gapWefts).pair.gaps + 1 = _
    rw [State.count_pair, hpair0]
  · rw [num_of_dict hdict, num_of_dict (State.setPair_dict ..), num_of_dict (gapCounted_dict s), count_num _ _ (by decide) (by decide),
      counted_of_dict hdict0]

variable {s}

theorem gapWeft_none (h : s.mode ≠ .standby ∨ s.executes = false ∨ s.pair.placed = some s.tick ∨ s.mirrorComplete s.tick = true) :
    exec .gapWeft s = .next s := by
  refine congrArg Host.Outcome.next (if_neg ?_)
  obtain h | h | h | h := h <;> simp [h]

theorem gapWeft_forms (hm : s.mode = .standby) (hx : s.executes = true) (hp : s.pair.placed ≠ some s.tick) (hc : s.mirrorComplete s.tick = false) :
    exec .gapWeft s = .next s.gapWeft := by
  refine congrArg Host.Outcome.next (if_pos ?_)
  simp [hm, hx, hp, hc]

end

end Sys2Proof.Machine

end

section

open Sys2Proof Sys2Proof.Machine

/-- Settles O24: each command by its one condition; what a gap weft touches leaves the pair's record and the objects until it is counted. -/
theorem staleSourcesShelvesAndGaps : Obligations.StaleSourcesShelvesAndGaps := by
  intro s
  refine ⟨fun entry d hd => ⟨sourceStale_quiet hd, fun hr hc => ?_⟩, fun g => shelveExpiry_kept g, fun g hm hx hg => ⟨fun h => ?_, fun hok hs he => ?_⟩,
    gapWeft_none, fun hm hx hp hc => ?_⟩
  · obtain ⟨hat, hnum, ⟨r, hr', hcode, hps⟩, hrest⟩ :=
      sourceStale_told s entry.toNat [entry.toNat, (s.staleAt entry.toNat).count, 0, low32 s.tick]
    exact ⟨_, r, sourceStale_reports hd hr hc, hat, hnum, hr', hcode, hps, hrest⟩
  · rw [shelveExpiry_due g hm, shelveExpiry_waits h]
  · obtain ⟨d, hcode, hps, hend⟩ := shelveExpiry_ends hx hg hs he
    obtain ⟨hrest, hflag, hexpiry, hkept⟩ := unshelved_effect s g.toNat
    refine ⟨_, shelveExpiry_due g hm, ?_⟩
    rw [hend]
    exact ⟨hflag, hexpiry, ⟨d, mem_insertExpiry .., hcode, hps⟩, insertExpiry_length .., hkept, by rw [hrest]⟩
  · obtain ⟨hplaced, hgaps, hnum⟩ := gapWeft_tells s
    obtain ⟨hmode, hkeys⟩ := State.gapWeft_mode_keys s
    exact ⟨_, gapWeft_forms hm hx hp hc, hplaced, hgaps, hnum, hmode.trans hm, hkeys⟩

end

section

namespace Sys2Proof.Machine

/-! ### Barrier frames as bytes (R336 to R338) -/

/-- One bit of a byte into the CRC-16 (R337). -/
def crc16Bit (c : Nat) : Nat := if c < 0x8000 then c * 2 else (c * 2 % 0x10000) ^^^ 0x1021

theorem crc16Bit_lt (c : Nat) : crc16Bit c < 2 ^ 16 := by
  unfold crc16Bit
  split
  · omega
  · exact Nat.xor_lt_two_pow (Nat.mod_lt _ (by decide)) (by decide)

theorem crc16Step_lt (c : Nat) (b : Byte) : crc16Step c b < 2 ^ 16 := by
  unfold crc16Step
  rw [List.range_succ, List.foldl_concat]
  exact crc16Bit_lt _

theorem crc16_lt (bs : Bytes) : crc16 bs < 65536 := by
  obtain rfl | ⟨as, b, rfl⟩ := List.eq_nil_or_concat' bs
  · decide
  · rw [crc16, List.foldl_concat]
    exact crc16Step_lt ..

section

variable (seq type tick flags : Nat) (payload : Bytes)

/-- A frame without its CRC. -/
def barrierBody : Bytes := [byte seq, byte type] ++ leBytes 2 tick ++ [byte flags, 0] ++ leBytes 2 payload.length ++ payload

theorem barrierFrame_eq : barrierFrame seq type tick flags payload =
    barrierBody seq type tick flags payload ++ leBytes 2 (crc16 (barrierBody seq type tick flags payload)) := rfl

theorem barrierBody_length : (barrierBody seq type tick flags payload).length = 8 + payload.length := by
  simp [barrierBody, leBytes_length]
  omega

theorem barrierFrame_length : (barrierFrame seq type tick flags payload).length = 10 + payload.length := by
  rw [barrierFrame_eq, List.length_append, barrierBody_length, leBytes_length]
  omega

/-- The fields of a frame's head. -/
theorem barrierFrame_head : u8At (barrierFrame seq type tick flags payload) 1 = type % 256 ∧ u16At (barrierFrame seq type tick flags payload) 2 = tick % 65536 ∧
    u16At (barrierFrame seq type tick flags payload) 6 = payload.length % 65536 := by
  refine ⟨?_, leNat_leBytes 2 tick, leNat_leBytes 2 payload.length⟩
  show leNat [byte type] = _
  simp [leNat, byte]

theorem barrierFrame_ok (h : payload.length ≤ 470) : barrierCrcOk (barrierFrame seq type tick flags payload) = true := by
  obtain ⟨-, -, hlen⟩ := barrierFrame_head seq type tick flags payload
  have hn := barrierFrame_length seq type tick flags payload
  have hbody := barrierBody_length seq type tick flags payload
  have htake : (barrierFrame seq type tick flags payload).take (10 + payload.length - 2) = barrierBody seq type tick flags payload := by
    rw [barrierFrame_eq, List.take_left' (by omega)]
  have hcrc : u16At (barrierFrame seq type tick flags payload) (10 + payload.length - 2) = crc16 (barrierBody seq type tick flags payload) := by
    unfold u16At slice
    rw [barrierFrame_eq, List.drop_left' (by omega), List.take_of_length_le (by rw [leBytes_length]), leNat_leBytes]
    exact Nat.mod_eq_of_lt (crc16_lt _)
  unfold barrierCrcOk
  rw [hlen, hn, htake, hcrc, Nat.mod_eq_of_lt (show payload.length < 65536 by omega)]
  simp only [Bool.and_eq_true, decide_eq_true_eq, and_true]
  omega

end

/-! ### Output frames (R339 to R341) -/

theorem configBlock_length (s : State) (as : List Nat) : (s.configBlock as).length = 4 + 8 * as.length := by
  unfold State.configBlock
  have h : ∀ xs : List Nat, (xs.flatMap fun a => leBytes 2 (addrIndex a) ++ [byte (addrSub a), 0] ++ leBytes 4 (s.num a)).length = 8 * xs.length := by
    intro xs
    induction xs with
    | nil => rfl
    | cons x xs ih =>
      rw [List.flatMap_cons, List.length_append, ih]
      simp [leBytes_length]
      omega
  rw [List.length_append, h]
  simp

theorem nextConfig_length (x : LogicLink) (all : List Nat) : (x.nextConfig all).1.length ≤ 16 := by
  unfold LogicLink.nextConfig
  simp only [List.length_append, List.length_take]
  split
  · simp
  · simp

theorem stagedImage_length (s : State) (g : Group) : (s.stagedImage g).length ≤ 40 := by
  unfold State.stagedImage
  split
  · simp [zeros]
  · rw [mem_read_length]
    cases g <;> decide

/-- The links but that of a group stand as they were. -/
theorem link_putLink_self (s : State) (g : Group) (x : LogicLink) : (s.putLink g x).link g = x := by
  cases g <;> exact Vector.getElem_set_self ..

theorem link_putLink_ne (s : State) {g h : Group} (x : LogicLink) (hne : h ≠ g) : (s.putLink g x).link h = s.link h := by
  unfold State.link State.putLink
  exact Vector.getElem_set_ne (groupFin g).isLt (groupFin h).isLt (by cases g <;> cases h <;> simp_all [groupFin])

section

variable (s : State) (g : Group) (slot : Fin 4)

/-- The output image of a slot's frame: at slot 3 the staged one, before it that of the last commit frame. -/
def State.frameImage : Bytes := if slot = 3 then s.stagedImage g else fit (imageSize g) (s.link g).image

/-- The configuration objects of the next frame of a group. -/
def State.frameConfig : List Nat := ((s.link g).nextConfig (configObjects g)).1

/-- The frame of a slot (R336 to R341). -/
def State.outputFrame : Bytes :=
  barrierFrame (s.link g).txSeq (slot.val + 4 * s.outputMode (slot = 3) + (if slot = 3 then 16 else 0))
    ((if slot = 3 then s.nextEdge else s.tick) % 65536) 0 (s.frameImage g slot ++ s.configBlock (s.frameConfig g))

/-- The link after its frame has left. -/
def State.frameSent : LogicLink :=
  { ((s.link g).nextConfig (configObjects g)).2 with
    txSeq := ((s.link g).txSeq + 1) % 256
    sent := Assoc.set ((s.link g).nextConfig (configObjects g)).2.sent slot.val (s.outputFrame g slot)
    image := s.frameImage g slot }

theorem outputFrame_ok : barrierCrcOk (s.outputFrame g slot) = true := by
  have himage : (s.frameImage g slot).length ≤ 40 := by
    unfold State.frameImage
    split
    · exact stagedImage_length s g
    · rw [fit_length]
      cases g <;> decide
  have hconfig := nextConfig_length (s.link g) (configObjects g)
  refine barrierFrame_ok _ _ _ _ _ ?_
  rw [List.length_append, configBlock_length]
  unfold State.frameConfig
  omega

variable {s g slot}

theorem sendBarrier_sends (hl : s.linksSend = true) (hc : s.linkStands g = false) (hd : slot = 3 → s.eng.discard = false) :
    s.sendBarrier g slot = (s.putLink g (s.frameSent g slot)).send .barrier (groupIx g) 0 (s.outputFrame g slot) := by
  have hb : (!s.linksSend || s.linkStands g || (decide (slot = 3) && s.eng.discard)) = false := by
    by_cases h3 : slot = 3
    · simp [hl, hc, hd h3]
    · simp [hl, hc, h3]
  have hcode : 16 * b2n (decide (slot = 3)) = if slot = 3 then 16 else 0 := by
    split <;> simp_all [b2n]
  obtain ⟨as, y, hn⟩ : ∃ as y, (s.link g).nextConfig (configObjects g) = (as, y) := ⟨_, _, rfl⟩
  unfold State.sendBarrier
  dsimp only
  rw [if_neg (by rw [hb]; decide), hn, hcode]
  simp only [State.frameSent, State.outputFrame, State.frameImage, State.frameConfig, hn, decide_eq_true_eq]

theorem sendBarrier_silent (h : s.linkStands g = true ∨ (slot = 3 ∧ s.eng.discard = true)) : s.sendBarrier g slot = s := by
  refine if_pos ?_
  obtain h | ⟨h3, h⟩ := h
  · simp [h]
  · simp [h3, h]

/-! ### The seam copy beside a frame (R263, R264) -/

/-- Between `s` and `t` only frames have left; the links stand. -/
def State.SendsOn (s t : State) : Prop := t.io = s.io ∧ s.out <+: t.out

theorem State.SendsOn.refl (s : State) : s.SendsOn s := ⟨rfl, List.prefix_refl _⟩

theorem State.SendsOn.trans {s t u : State} (h : s.SendsOn t) (k : t.SendsOn u) : s.SendsOn u := ⟨k.1.trans h.1, h.2.trans k.2⟩

theorem sendsOn_foldl {α : Type} {f : State → α → State} (h : ∀ (s : State) x, s.SendsOn (f s x)) (xs : List α) (s : State) : s.SendsOn (xs.foldl f s) := by
  induction xs generalizing s with
  | nil => exact .refl s
  | cons x xs ih => exact (h s x).trans (ih _)

theorem sendSeam_sendsOn (s : State) (type : Nat) (p : Bytes) : s.SendsOn (s.sendSeam type p) := by
  unfold State.sendSeam
  split
  · exact .refl s
  · exact ⟨rfl, List.prefix_append _ _⟩

theorem sendEntries_sendsOn (s : State) (n : Nat) : s.SendsOn (s.sendEntries n) :=
  (sendsOn_foldl (fun s _ => sendSeam_sendsOn s _ _) _ s).trans ⟨rfl, List.prefix_refl _⟩

theorem sendPass_sendsOn (s : State) (n : Nat) : s.SendsOn (s.sendPass n) := by
  unfold State.sendPass
  split
  · exact .refl s
  · exact (sendsOn_foldl (fun s _ => sendSeam_sendsOn s _ _) _ s).trans ⟨rfl, List.prefix_refl _⟩

theorem sendImage_sendsOn (s : State) (n : Nat) : s.SendsOn (s.sendImage n) := by
  unfold State.sendImage
  split
  · extract_lets b part s1 done s2
    have h1 : s.SendsOn s1 := sendsOn_foldl (fun s _ => sendSeam_sendsOn s _ _) _ s
    have h2 : s.SendsOn s2 := by
      show s.SendsOn (if b.length ≤ done then _ else s1)
      split
      · exact h1.trans (sendSeam_sendsOn ..)
      · exact h1
    exact h2.trans ⟨rfl, List.prefix_refl _⟩
  · exact .refl s

theorem seamCopy_sendsOn (s : State) (room : Nat) : s.SendsOn (s.seamCopy room) := by
  unfold State.seamCopy
  split
  · exact ((sendEntries_sendsOn s _).trans (sendPass_sendsOn _ _)).trans (sendImage_sendsOn _ _)
  · exact .refl s

theorem sendClose_sendsOn (s : State) : s.SendsOn s.sendClose := by
  unfold State.sendClose
  split
  · extract_lets s1
    have h1 : s.SendsOn s1 := sendSeam_sendsOn ..
    split
    · exact h1.trans ⟨rfl, List.prefix_refl _⟩
    · exact h1
  · exact .refl s

/-- A module without a partner that it serves copies nothing over the seam. -/
theorem seamCopy_none {s : State} (h : s.mode ≠ .run ∨ s.seamServes = false ∨ s.paired = false) (room : Nat) : s.seamCopy room = s := by
  refine if_neg ?_
  obtain h | h | h := h <;> simp [h]

theorem sendClose_none {s : State} (h : s.seamServes = false ∨ s.paired = false) : s.sendClose = s := by
  refine if_neg ?_
  obtain h | h := h <;> simp [h]

theorem sendBarrier_form (s : State) (g : Group) (slot : Fin 4) : ∃ l o, s.sendBarrier g slot = { s with io := { s.io with links := l }, out := o } := by
  unfold State.sendBarrier
  extract_lets commit x
  split
  · exact ⟨s.io.links, s.out, rfl⟩
  · exact ⟨_, _, rfl⟩

theorem sendBarrier_seam (s : State) (g : Group) (slot : Fin 4) :
    (s.sendBarrier g slot).seamServes = s.seamServes ∧ (s.sendBarrier g slot).paired = s.paired := by
  obtain ⟨l, o, h⟩ := sendBarrier_form s g slot
  rw [h]
  exact ⟨rfl, rfl⟩

/-! ### The BARRIER_FRAME_SEND command -/

/-- What the seam carries beside a frame of group B leaves the links; without a partner it carries nothing. -/
theorem barrierFrameSend_taken (s : State) {g : Group} (slot : Fin 4) (room : Nat) (hg : g ≠ .c) : ∃ t, exec (.barrierFrameSend g slot room) s = .next t ∧
    (s.sendBarrier g slot).SendsOn t ∧ (g = .a ∨ s.seamServes = false ∨ s.paired = false → t = s.sendBarrier g slot) := by
  cases g with
  | c => exact absurd rfl hg
  | a => exact ⟨_, rfl, .refl _, fun _ => rfl⟩
  | b =>
    obtain ⟨hserves, hpaired⟩ := sendBarrier_seam s .b slot
    have hexec : exec (.barrierFrameSend .b slot room) s = .next (if decide (slot = 3) && s.linksSend && !s.eng.discard
      then ((s.sendBarrier .b slot).seamCopy room).sendClose else (s.sendBarrier .b slot).seamCopy room) := rfl
    refine ⟨_, hexec, ?_, fun h => ?_⟩
    · split
      · exact (seamCopy_sendsOn ..).trans (sendClose_sendsOn _)
      · exact seamCopy_sendsOn ..
    · have hnone : (s.sendBarrier .b slot).seamServes = false ∨ (s.sendBarrier .b slot).paired = false := by
        rw [hserves, hpaired]
        exact h.resolve_left (by decide)
      rw [seamCopy_none (.inr hnone), sendClose_none hnone, ite_self]

theorem link_of_io {s t : State} (h : t.io = s.io) (g : Group) : t.link g = s.link g := by
  unfold State.link
  rw [h]

/-- A frame of group A or B leaves in its slot (R336 to R341). -/
theorem barrierFrame_leaves {s : State} {g : Group} {slot : Fin 4} (room : Nat) (hg : g ≠ .c) (hl : s.linksSend = true) (hc : s.linkStands g = false)
    (hd : slot = 3 → s.eng.discard = false) : ∃ t, exec (.barrierFrameSend g slot room) s = .next t ∧ t.link g = s.frameSent g slot ∧
      (∀ h, h ≠ g → t.link h = s.link h) ∧ (s.out ++ [⟨.barrier, groupIx g, 0, s.outputFrame g slot, none⟩]) <+: t.out ∧
      (g = .a ∨ s.seamServes = false ∨ s.paired = false → t = { s with
        out := s.out ++ [⟨.barrier, groupIx g, 0, s.outputFrame g slot, none⟩], io := { s.io with links := t.io.links } }) := by
  obtain ⟨t, hgo, ⟨hio, hout⟩, halone⟩ := barrierFrameSend_taken s slot room hg
  rw [sendBarrier_sends hl hc hd] at hio hout halone
  have hlink := link_of_io (s := s.putLink g (s.frameSent g slot)) (hio.trans rfl)
  refine ⟨t, hgo, (hlink g).trans (link_putLink_self ..), fun h hne => (hlink h).trans (link_putLink_ne _ _ hne), hout, fun ha => ?_⟩
  rw [halone ha]
  rfl

/-- A discarded staging sends no commit frame (R133). -/
theorem barrierFrame_discarded {s : State} {g : Group} (room : Nat) (hg : g ≠ .c) (hd : s.eng.discard = true) (hm : s.mode ≠ .run) :
    exec (.barrierFrameSend g 3 room) s = .next s := by
  have hs : s.sendBarrier g 3 = s := sendBarrier_silent (.inr ⟨rfl, hd⟩)
  cases g with
  | c => exact absurd rfl hg
  | a => exact congrArg Host.Outcome.next hs
  | b => simp only [exec, execBarrierFrameSend, hs, seamCopy_none (.inl hm), hd, Bool.not_true, Bool.and_false, Bool.false_eq_true, if_false]

/-- Link B without its clock sends nothing (R442). -/
theorem barrierFrame_stands {s : State} {g : Group} {slot : Fin 4} (room : Nat) (h : s.linkStands g = true) (hs : s.seamServes = false) :
    exec (.barrierFrameSend g slot room) s = .next s := by
  have hb : g = .b := by
    simp only [State.linkStands, Bool.and_eq_true, decide_eq_true_eq] at h
    exact h.1
  have hg : g ≠ .c := by rw [hb]; decide
  obtain ⟨t, hgo, -, halone⟩ := barrierFrameSend_taken s slot room hg
  rw [hgo, halone (.inr (.inl hs)), sendBarrier_silent (.inl h)]

/-! ### The island's frames (R381) -/

/-- The frame of the island in a slot, with the island's own frame period. -/
def State.islandFrame (s : State) (slot : Fin 4) : Bytes :=
  barrierFrame (s.link .c).txSeq (slot.val + 16 * b2n (decide (slot = 3))) ((s.island.frame + b2n (decide (slot = 3))) % 65536) 0
    [byte (ofBits (s.island.outputs.toList.map (·.high) ++ s.island.outputs.toList.map (·.low)))]

theorem bit_slotType (slot : Fin 4) : bit ((slot.val + 16 * b2n (decide (slot = 3))) % 256) 4 = decide (slot = 3) := by
  revert slot
  decide

theorem islandFrame_tells (s : State) (slot : Fin 4) : bit (u8At (s.islandFrame slot) 1) 4 = decide (slot = 3) ∧
    u16At (s.islandFrame slot) 2 = (s.island.frame + if slot = 3 then 1 else 0) % 65536 ∧ barrierCrcOk (s.islandFrame slot) = true := by
  obtain ⟨htype, htick, -⟩ := barrierFrame_head (s.link .c).txSeq (slot.val + 16 * b2n (decide (slot = 3)))
    ((s.island.frame + b2n (decide (slot = 3))) % 65536) 0 [byte (ofBits (s.island.outputs.toList.map (·.high) ++ s.island.outputs.toList.map (·.low)))]
  refine ⟨?_, ?_, barrierFrame_ok _ _ _ _ _ (by simp)⟩
  · rw [State.islandFrame, htype, bit_slotType]
  · rw [State.islandFrame, htick, Nat.mod_mod]
    split <;> simp_all [b2n]

theorem islandFrame_stopped {s : State} (slot : Fin 4) (room : Nat) (h : s.island.linkStopped = true) : exec (.barrierFrameSend .c slot room) s = .next s :=
  congrArg Host.Outcome.next (if_pos h)

theorem islandFrame_leaves {s : State} (slot : Fin 4) (room : Nat) (h : s.island.linkStopped = false) : ∃ l,
    exec (.barrierFrameSend .c slot room) s = .next { s with out := s.out ++ [⟨.barrier, 2, 0, s.islandFrame slot, none⟩]
                                                             io := { s.io with links := l }
                                                             island := { s.island with frame := s.island.frame + if slot = 3 then 1 else 0 } } := by
  have hn : b2n (decide (slot = 3)) = if slot = 3 then 1 else 0 := by
    split <;> simp_all [b2n]
  refine ⟨(s.io.links.set 2 { s.link .c with txSeq := ((s.link .c).txSeq + 1) % 256, sent := Assoc.set (s.link .c).sent slot.val (s.islandFrame slot) }),
    congrArg Host.Outcome.next ?_⟩
  unfold State.sendIslandFrame
  rw [if_neg (by rw [h]; decide), ← hn]
  rfl

end

end Sys2Proof.Machine

end

section

open Sys2Proof Sys2Proof.Machine

/-- Settles O42: the frame of a slot is one byte string with a good CRC; what the seam sends beside it touches no link. -/
theorem barrierFrameLeaves : Obligations.BarrierFrameLeaves := by
  intro s g slot room
  refine ⟨fun hg hl hc hd => ?_, fun hg hd hm => barrierFrame_discarded room hg hd hm, barrierFrame_stands room, islandFrame_stopped slot room, fun h => ?_⟩
  · obtain ⟨t, hgo, hlink, hothers, hout, halone⟩ := barrierFrame_leaves room hg hl hc hd
    refine ⟨t, s.outputFrame g slot, s.frameConfig g, hgo, nextConfig_length _ _, ?_, outputFrame_ok s g slot, ?_, by rw [hlink]; rfl, fun h3 => ?_, hothers,
      hout, halone⟩
    · rfl
    · rw [hlink]
      exact assoc_get_set_self ..
    · rw [hlink]
      exact if_pos h3
  · obtain ⟨l, hgo⟩ := islandFrame_leaves slot room h
    obtain ⟨hslot, htick, hok⟩ := islandFrame_tells s slot
    exact ⟨_, s.islandFrame slot, hgo, hslot, rfl, htick, hok, rfl⟩

end

section

namespace Sys2Proof.Machine

/-! ### Holdover (R130, R297) -/

theorem holdoverEntry_stays {s : State} (h : s.shadowTime = true ∨ s.num Obj.tickSource ≠ 0 ∨ s.timeStateIs .grandmaster = true ∨
    ∃ q, s.offsetSilent q (s.num Obj.holdoverEntry * 1000000) = false) : exec .holdoverEntry s = .next s := by
  have hb : (s.shadowTime || s.num Obj.tickSource ≠ 0 || s.timeStateIs .grandmaster ||
      !([NetPort.a, NetPort.b].all fun p => s.offsetSilent p (s.num Obj.holdoverEntry * 1000000))) = true := by
    obtain h | h | h | ⟨q, h⟩ := h
    · simp [h]
    · simp [h]
    · simp [h]
    · cases q <;> simp [h]
  exact congrArg _ (if_pos hb)

theorem localSource_lt (s : State) : s.localSource < 256 := by
  unfold State.localSource
  split <;> decide

section

variable (s : State) (k : TimeState)

/-- Holdover counted: the state in which its record is formed. -/
def State.holdoverCounted : State :=
  ((((s.unsettled.setNum Obj.tickSource s.localSource).setDetail 2 true).setTimeState k).setObj Obj.holdoverSince
    (time96 s.timeNs)).count Obj.holdoverEntries

theorem holdoverCounted_tells : (s.holdoverCounted k).num Obj.tickSource = s.localSource ∧ (s.holdoverCounted k).holdover = true ∧
    (s.holdoverCounted k).obj Obj.holdoverSince = time96 s.timeNs ∧
    (s.holdoverCounted k).num Obj.holdoverEntries = s.counted Obj.holdoverEntries 1 := by
  have h1 := timeActs_setNum s.unsettled (os := [Obj.tickSource]) (List.mem_singleton.2 rfl) s.localSource
  have h2 := timeActs_setDetail (s.unsettled.setNum Obj.tickSource s.localSource) (os := [Obj.stationStateDetail]) (List.mem_singleton.2 rfl) 2 true
  have h3 := timeActs_setTimeState ((s.unsettled.setNum Obj.tickSource s.localSource).setDetail 2 true) k (List.Subset.refl _)
  have hdetail : ((s.unsettled.setNum Obj.tickSource s.localSource).setDetail 2 true).detail 2 = true :=
    (detail_setDetail _ true (by decide)).trans (if_pos rfl)
  unfold State.holdoverCounted
  generalize hu : ((s.unsettled.setNum Obj.tickSource s.localSource).setDetail 2 true).setTimeState k = u at h3 ⊢
  have h4 := timeActs_setObj u (os := [Obj.holdoverSince]) (List.mem_singleton.2 rfl) (time96 s.timeNs)
  have h5 := timeActs_count (os := [Obj.holdoverEntries, overflowAddr Obj.holdoverEntries] ++ tallyObjects) (u.setObj Obj.holdoverSince (time96 s.timeNs))
    (a := Obj.holdoverEntries) (by decide) (by decide) (by decide)
  refine ⟨?_, ?_, ?_, ?_⟩
  · rw [h5.num (by decide), h4.num (by decide), h3.num (by decide), h2.num (by decide), num_setNum_self]
    exact Nat.mod_eq_of_lt (localSource_lt s)
  · exact (detail_congr ((h5.objects _ (by decide)).trans (h4.objects _ (by decide))) 2).trans
      ((detail_congr (h3.objects _ (by decide)) 2).trans hdetail)
  · rw [h5.objects _ (by decide), obj_setObj_self]
  · rw [count_num _ _ (by decide) (by decide), h4.counted (by decide), h3.counted (by decide), h2.counted (by decide), h1.counted (by decide)]
    rfl

theorem holdoverCounted_acts : s.TimeActs (s.holdoverCounted k) holdoverObjects :=
  (((((timeActs_unsettled s _).trans (timeActs_setNum _ (by decide) _)).trans (timeActs_setDetail _ (by decide) ..)).trans
    (timeActs_setTimeState _ _ (by decide))).trans (timeActs_setObj _ (by decide) _)).trans
    (timeActs_count _ (by decide) (by decide) (by decide))

theorem holdoverEntry_begins (hs : s.shadowTime = false) (h0 : s.num Obj.tickSource = 0) (hg : s.timeStateIs .grandmaster = false)
    (hq : ∀ q, s.offsetSilent q (s.num Obj.holdoverEntry * 1000000) = true) : exec .holdoverEntry s = .next (s.enterHoldover .holdover) := by
  have hb : ¬(s.shadowTime || s.num Obj.tickSource ≠ 0 || s.timeStateIs .grandmaster ||
      !([NetPort.a, NetPort.b].all fun p => s.offsetSilent p (s.num Obj.holdoverEntry * 1000000))) = true := by
    simp [hs, h0, hg, hq]
  exact congrArg _ (if_neg hb)

/-- What an entry to holdover from lock tells (R130, R297). -/
theorem enterHoldover_tells (h0 : s.num Obj.tickSource = 0) : let t := s.enterHoldover k
    t.num Obj.tickSource = s.localSource ∧ t.holdover = true ∧ t.obj Obj.holdoverSince = time96 s.timeNs ∧
      t.num Obj.holdoverEntries = s.counted Obj.holdoverEntries 1 ∧ s.Wrote t 0x0801 [] := by
  have heq : s.enterHoldover k = ((s.holdoverCounted k).logTally 0x0801 []).ppsJudge := by rw [enterHoldover_eq, if_pos h0]; rfl
  obtain ⟨hsource, hdetail, hsince, hcount⟩ := holdoverCounted_tells s k
  have hlog := (timeActs_logTally (s.holdoverCounted k) (List.Subset.refl _) 0x0801 []).trans (timeActs_ppsJudge _ _)
  rw [← heq] at hlog
  refine ⟨(hlog.num (by decide)).trans hsource, (detail_congr (hlog.objects _ (by decide)) 2).trans hdetail, (hlog.objects _ (by decide)).trans hsince,
    (hlog.num (by decide)).trans hcount, ?_⟩
  exact wrote_logTally (u := s.holdoverCounted k) (holdoverCounted_acts s k).tally (by rw [heq, ppsJudge_tally]) (hlog.num (by decide)) hlog.timeNs

/-! ### The time port (R296) -/

variable {s}

theorem timePortSwitch_stays {p : NetPort} (h : s.shadowTime = true ∨ s.num Obj.timePort = 0xFF ∨
    (s.num Obj.timePort = portNo p ∧ s.offsetSilent p (s.threeSyncs p) = false)) : exec .timePortSwitch s = .next s := by
  refine congrArg _ (if_pos ?_)
  obtain h | h | ⟨hp, h⟩ := h
  · simp [h]
  · simp [h]
  · cases p <;> simp [portNo] at hp <;> simp [hp, h]

/-- The time port changes to the other port, whose offset and path delay the clock reports. -/
def State.portSwitched (s : State) (p : NetPort) : State :=
  ((s.setNum Obj.timePort (portNo (otherPort p))).setNum Obj.offsetFromMaster
    (ofSigned 64 (toSigned 64 (s.num (Obj.portOffset (portNo (otherPort p))))))).setNum Obj.meanPathDelay (s.num (Obj.portPathDelay (portNo (otherPort p))))

theorem portSwitched_tells (s : State) (p : NetPort) : (s.portSwitched p).num Obj.timePort = portNo (otherPort p) ∧
    (s.portSwitched p).num Obj.offsetFromMaster = ofSigned 64 (toSigned 64 (s.num (Obj.portOffset (portNo (otherPort p))))) := by
  have hsize : objSize Obj.offsetFromMaster = 8 := by decide
  unfold State.portSwitched
  refine ⟨?_, ?_⟩
  · rw [num_setNum_ne _ _ (by decide), num_setNum_ne _ _ (by decide), num_setNum_self]
    cases p <;> decide
  · rw [num_setNum_ne _ _ (by decide), num_setNum_self, hsize, ofSigned_mod]

/-- A silent time port gives way to the other port of its grandmaster; only after the first step can the jump be refused (R296, Table 10-3). -/
theorem timePortSwitch_switches {p : NetPort} {g : PtpAnnounce} (hs : s.shadowTime = false) (hp : s.num Obj.timePort = portNo p)
    (hq : s.offsetSilent p (s.threeSyncs p) = true) (hn : s.portIs (otherPort p) portSlave = true)
    (hb : bestMaster (s.ptpPort (otherPort p)).masters = some g) (hg : g.grandmaster.toNat = beNat (s.obj Obj.grandmasterIdentity)) :
    exec .timePortSwitch s = .next (s.portSwitched p) ∨
      (s.time.firstDone = true ∧ ∃ o, exec .timePortSwitch s = .next ((s.portSwitched p).refuseOffset o)) := by
  have hold : (if s.num Obj.timePort = 1 then NetPort.b else .a) = p := by cases p <;> simp [hp, portNo]
  have hff : s.num Obj.timePort ≠ 0xFF := by cases p <;> simp [hp, portNo]
  simp only [exec, execTimePortSwitch, hold, hs, hff, hn, hb, hg, hq, Option.map_some, decide_true, decide_false, Bool.not_true, Bool.or_self,
    Bool.false_eq_true, if_false]
  split
  · rename_i h
    simp only [Bool.and_eq_true] at h
    exact .inr ⟨h.1.1, _, rfl⟩
  · exact .inl rfl

/-! ### Steps of time (R102, R299) -/

/-- Time, the numbering and what waits for a tick, as a step moves them (R299, Table 10-3). -/
def State.stepClock (s : State) (k : StepKind) (d : Int) : State :=
  let now := ((s.timeNs : Int) + d).toNat
  let later := fun (t : Nat) => if t < s.edgeAfter now then roundUp hyperTicks (s.edgeAfter now) else t
  { s with
    timeNs := now, rtcNs := now
    time := { s.time with step := none, nextTick := some (s.edgeAfter now), below := 0
                          ppsInAt := s.time.ppsInAt.map fun (t : Nat) => ((t : Int) + d).toNat
                          firstDone := s.time.firstDone || decide (k = StepKind.first) }
    command := s.command.map fun (c : PendingCommand) => { c with tick := later c.tick }
    profileChange := s.profileChange.map fun (c : Nat × Nat) => (c.1, later c.2) }

/-- The objects that tell of a step taken. -/
def stepObjects : List Nat := timeStateObjects ++ [Obj.stepHeld, Obj.steps, overflowAddr Obj.steps] ++ tallyObjects

section

variable (s : State) (k : StepKind) (d : Int)

/-- A step counted, and the time state after it. -/
def State.stepCounted : State := ((s.stepClock k d).setFlag Obj.stepHeld false).count Obj.steps

def State.stepSettled : State :=
  if k = .set then s.stepCounted k d else (s.stepCounted k d).setTimeState (if s.holdover then .holdover else .locking)

theorem applyStep_eq : s.applyStep k d = (s.stepSettled k d).logTally 0x0803
    [low32 s.tick, low32 (s.edgeAfter ((s.timeNs : Int) + d).toNat), satI32 (Int.tdiv d 1000)] := by
  unfold State.applyStep State.stepSettled State.stepCounted State.stepClock
  dsimp only

theorem stepCounted_acts : (s.stepClock k d).TimeActs (s.stepCounted k d) stepObjects :=
  (timeActs_setFlag (os := stepObjects) _ (by decide) _).trans (timeActs_count _ (by decide) (by decide) (by decide))

theorem stepSettled_acts : (s.stepCounted k d).TimeActs (s.stepSettled k d) timeStateObjects :=
  .ite (.refl ..) (timeActs_setTimeState _ _ (List.Subset.refl _))

theorem applyStep_acts : (s.stepClock k d).TimeActs (s.applyStep k d) stepObjects :=
  ((stepCounted_acts s k d).trans ((stepSettled_acts s k d).mono (by decide))).trans (timeActs_logTally _ (by decide) ..)

theorem stepSettled_time : (s.stepSettled k d).time = (s.stepClock k d).time := by
  have hcount : (s.stepCounted k d).time = (s.stepClock k d).time := State.count_time ..
  unfold State.stepSettled
  split
  · exact hcount
  · rw [setTimeState_time, hcount]

theorem applyStep_time : (s.applyStep k d).time = (s.stepClock k d).time := by
  rw [applyStep_eq, State.logTally_time, stepSettled_time]

theorem applyStep_tells : (s.applyStep k d).flag Obj.stepHeld = false ∧ (s.applyStep k d).num Obj.steps = s.counted Obj.steps 1 := by
  have hlog := timeActs_logTally (s.stepSettled k d) (List.Subset.refl _) 0x0803
    [low32 s.tick, low32 (s.edgeAfter ((s.timeNs : Int) + d).toNat), satI32 (Int.tdiv d 1000)]
  have hset := stepSettled_acts s k d
  have hflag := timeActs_setFlag (s.stepClock k d) (os := [Obj.stepHeld]) (List.mem_singleton.2 rfl) false
  have hcount := timeActs_count (os := [Obj.steps, overflowAddr Obj.steps] ++ tallyObjects) ((s.stepClock k d).setFlag Obj.stepHeld false)
    (a := Obj.steps) (by decide) (by decide) (by decide)
  rw [applyStep_eq]
  refine ⟨?_, ?_⟩
  · rw [hlog.flag (by decide), hset.flag (by decide)]
    exact (hcount.flag (by decide)).trans (flag_setFlag_self _ _ (by decide))
  · rw [hlog.num (by decide), hset.num (by decide)]
    exact (count_num _ _ (by decide) (by decide)).trans (hflag.counted (by decide) 1)

/-- Outside STANDBY the edges are the module's own, and the one after a step is the first after the new time (R299). -/
theorem applyStep_nextEdge (h : s.mode.running = false) : (s.applyStep k d).nextEdge = s.edgeAfter ((s.timeNs : Int) + d).toNat := by
  have hacts := applyStep_acts s k d
  have hmode : (s.applyStep k d).mode = s.mode := hacts.mode
  have hshadow : (s.applyStep k d).shadowTime = false := by
    unfold State.shadowTime
    rw [hmode]
    cases hm : s.mode <;> simp_all [Mode.running]
  unfold State.nextEdge
  rw [hshadow, applyStep_time]
  simp only [Bool.false_and, Bool.false_eq_true, if_false, State.stepClock, Option.getD_some]
  split <;> rfl

theorem timeStepped_none (h : s.time.step = none) : exec .timeStepped s = .next s := by
  simp only [exec, execTimeStepped, h]

theorem timeStepped_held (h : s.time.step = some (k, d)) (hm : s.mode.running = true ∨ (s.mode = .hold ∧ s.flag Obj.stepHeld = true)) :
    exec .timeStepped s = .next (s.setFlag Obj.stepHeld true) := by
  have hb : (s.mode.running || (s.flag Obj.stepHeld && decide (s.mode = .hold))) = true := by
    obtain h | ⟨h, hf⟩ := hm
    · simp [h]
    · simp [h, hf]
  simp only [exec, execTimeStepped, h, hb, if_true]

theorem timeStepped_applies (h : s.time.step = some (k, d)) (hm : s.mode.running = false) (hh : s.mode = .hold → s.flag Obj.stepHeld = false) :
    exec .timeStepped s = .next (s.applyStep k d) := by
  have hb : (s.mode.running || (s.flag Obj.stepHeld && decide (s.mode = .hold))) = false := by
    by_cases hm' : s.mode = .hold
    · simp [hm, hh hm']
    · simp [hm, hm']
  simp only [exec, execTimeStepped, h, hb, Bool.false_eq_true, if_false]

theorem applyStep_wrote : s.Wrote (s.applyStep k d) 0x0803
    [low32 s.tick, low32 (s.edgeAfter ((s.timeNs : Int) + d).toNat), satI32 (Int.tdiv d 1000)] := by
  have hacts := (stepCounted_acts s k d).trans ((stepSettled_acts s k d).mono (by decide))
  have hlog := timeActs_logTally (s.stepSettled k d) (List.Subset.refl _) 0x0803
    [low32 s.tick, low32 (s.edgeAfter ((s.timeNs : Int) + d).toNat), satI32 (Int.tdiv d 1000)]
  rw [applyStep_eq]
  exact wrote_logTally (u := s.stepSettled k d) hacts.tally rfl (hlog.num (by decide)) hlog.timeNs

end

/-! ### PPS_IN (R308, R311) -/

section

variable {s : State} {ns : Nat}

theorem ppsIn_off (h : s.flag Obj.ppsInEnable = false) : exec (.ppsInEdge ns) s = .next s := by
  simp only [exec, execPpsInEdge, h, Bool.not_false, if_true]

/-- The last edge on PPS_IN, noted. -/
def State.ppsNoted (s : State) (ns : Nat) : State := { s with time := { s.time with ppsInAt := some ns } }

theorem ppsIn_glitch {t0 : Nat} (h : s.flag Obj.ppsInEnable = true) (ht : s.time.ppsInAt = some t0) (hn : ns < t0 + 900000000) :
    exec (.ppsInEdge ns) s = .next ((s.ppsNoted ns).count Obj.ppsInGlitches) := by
  simp only [exec, execPpsInEdge, h, ht, hn, Bool.not_true, Bool.false_eq_true, if_false, decide_true, if_true, State.ppsNoted]

theorem ppsIn_stamped (h : s.flag Obj.ppsInEnable = true) (ht : ∀ t0, s.time.ppsInAt = some t0 → t0 + 900000000 ≤ ns) :
    exec (.ppsInEdge ns) s = .next (((s.ppsNoted ns).setObj Obj.ppsInLast (s.stampRecord ns 1)).setNum Obj.ppsInOffset
      (ofSigned 32 (if ns % 1000000000 < 500000000 then (ns % 1000000000 : Nat) else ((ns % 1000000000 : Nat) : Int) - 1000000000))) := by
  have hf : (((ns % 1000000000 : Nat) : Int) < 500000000) ↔ ns % 1000000000 < 500000000 := by omega
  simp only [exec, execPpsInEdge, h, Bool.not_true, Bool.false_eq_true, if_false, State.ppsNoted, hf]
  cases hp : s.time.ppsInAt with
  | none => simp only [Bool.false_eq_true, if_false]
  | some t0 => simp only [Nat.not_lt.2 (ht t0 hp), decide_false, Bool.false_eq_true, if_false]

/-- The stamp and the offset of an edge on PPS_IN stand in their objects alone (R308). -/
theorem ppsStamped_tells (s : State) (stamp : Bytes) (v : Int) : let t := (s.setObj Obj.ppsInLast stamp).setNum Obj.ppsInOffset (ofSigned 32 v)
    t.obj Obj.ppsInLast = stamp ∧ t.num Obj.ppsInOffset = ofSigned 32 v ∧ s.SameObjects t [Obj.ppsInLast, Obj.ppsInOffset] := by
  intro t
  have hsize : objSize Obj.ppsInOffset = 4 := by decide
  have hacts : s.TimeActs t [Obj.ppsInLast, Obj.ppsInOffset] := (timeActs_setObj s (by decide) _).trans (timeActs_setNum _ (by decide) _)
  refine ⟨(obj_setNum_ne _ _ (by decide)).trans (obj_setObj_self ..), ?_, hacts.objects⟩
  rw [num_setNum_self, hsize]
  unfold ofSigned
  omega

end

end

end Sys2Proof.Machine

end

section

open Sys2Proof Sys2Proof.Machine

/-- Settles O39: each command by its condition; holdover, a port switch and a step are each one chain of moves of the clock (`TimeActs`). -/
theorem timeUnitActs : Obligations.TimeUnitActs := by
  intro s p ns
  refine ⟨holdoverEntry_stays, fun hs h0 hg hq => ?_, timePortSwitch_stays, fun g hs hp hq hn hb hg => ?_, timeStepped_none s,
    fun k d hk => ⟨fun hm => ?_, fun hm hh => ?_⟩, fun h => congrArg Host.Outcome.next (if_pos h),
    fun h => congrArg Host.Outcome.next (if_neg h), ppsIn_off, fun t0 h ht hn => ?_, fun h ht => ?_, ?_⟩
  · obtain ⟨hsource, hdetail, hsince, hcount, hw⟩ := enterHoldover_tells s .holdover h0
    exact ⟨_, holdoverEntry_begins s hs h0 hg hq, hsource, hdetail, enterHoldover_is .., hsince, hcount, hw, (timeActs_enterHoldover s .holdover).mode⟩
  · obtain ⟨hport, hoff⟩ := portSwitched_tells s p
    obtain hgo | ⟨hfirst, o, hgo⟩ := timePortSwitch_switches hs hp hq hn hb hg
    · exact ⟨_, hgo, hport, hoff, fun _ => rfl⟩
    · have hacts := timeActs_refuseOffset (s.portSwitched p) o
      exact ⟨_, hgo, (hacts.num (by decide)).trans hport, (hacts.num (by decide)).trans hoff, fun hd => absurd hfirst (by simp [hd])⟩
  · exact ⟨_, timeStepped_held s k d hk hm, flag_setFlag_self _ _ (by decide), rfl⟩
  · obtain ⟨hheld, hsteps⟩ := applyStep_tells s k d
    have hacts := applyStep_acts s k d
    have htime := applyStep_time s k d
    have hnext := applyStep_nextEdge s k d hm
    have hns : (s.applyStep k d).timeNs = ((s.timeNs : Int) + d).toNat := hacts.timeNs
    refine ⟨_, timeStepped_applies s k d hk hm hh, hns, ?_, by rw [htime]; rfl, by rw [hnext, hns], hheld, hsteps, fun hf => ?_, ?_, hacts.mode, hacts.localNs⟩
    · rw [hns, hacts.rest]
      rfl
    · rw [htime]
      simp [State.stepClock, hf]
    · rw [hnext]
      exact applyStep_wrote s k d
  · refine ⟨_, ppsIn_glitch h ht hn, count_num (s.ppsNoted ns) 1 (by decide) (by decide), ?_⟩
    exact count_obj (s.ppsNoted ns) 1 (by decide) (by decide) (by decide)
  · obtain ⟨hlast, hoff, hsame⟩ := ppsStamped_tells (s.ppsNoted ns) (s.stampRecord ns 1)
      (if ns % 1000000000 < 500000000 then (ns % 1000000000 : Nat) else ((ns % 1000000000 : Nat) : Int) - 1000000000)
    exact ⟨_, ppsIn_stamped h ht, hlast, hoff, hsame⟩
  · rfl

end

section

namespace Sys2Proof.Machine

/-! ### Beats that an engine moves (R455, R459, R460) -/

/-- A fold that keeps what it has, or takes the element before it, ends with one of them. -/
theorem foldl_picks {α : Type} {f : Option α → α → Option α} (h : ∀ b x, f b x = b ∨ f b x = some x) (xs : List α) (b : Option α) {c : α}
    (hc : xs.foldl f b = some c) : b = some c ∨ c ∈ xs := by
  induction xs generalizing b with
  | nil => exact .inl hc
  | cons x xs ih =>
    obtain hb | hm := ih _ hc
    · obtain hx | hx := h b x
      · exact .inl (hx ▸ hb)
      · exact .inr (Option.some.inj (hx.symm.trans hb) ▸ List.mem_cons_self ..)
    · exact .inr (List.mem_cons_of_mem x hm)

section

variable {s : State} {e t : Nat} {j : DmaJob}

/-- An engine's next beat belongs to a started list of the engine that is not over, in the slot that comes to it. -/
theorem nextBeat_head (h : s.nextBeat e = some (t, j)) :
    j ∈ s.eng.jobs ∧ j.engine = e ∧ j.over = false ∧ j.started = true ∧ s.jobSlot j = some t := by
  unfold State.nextBeat at h
  refine Or.elim (foldl_picks (fun b x => ?_) _ _ h) (fun h => absurd h (by simp)) fun h => ?_
  · cases b with
    | none => exact .inr rfl
    | some b =>
      dsimp only
      split
      · exact .inr rfl
      · exact .inl rfl
  · obtain ⟨c, -, hc⟩ := List.mem_filterMap.1 h
    obtain ⟨x, hx, hslot⟩ := Option.bind_eq_some_iff.1 hc
    have hp := List.find?_some hx
    simp only [Bool.and_eq_true, decide_eq_true_eq, Bool.not_eq_true'] at hp
    obtain ⟨⟨hengine, -⟩, hover⟩ := hp
    split at hslot
    · rename_i hstarted
      obtain ⟨u, hu, heq⟩ := Option.map_eq_some_iff.1 hslot
      cases heq
      exact ⟨List.mem_of_find?_eq_some hx, hengine, hover, hstarted, hu⟩
    · exact absurd hslot (by simp)

theorem slotFrom_le {n : Nat} {rs : List (Nat × Nat)} (h : slotFrom n rs = some t) : n ≤ t := by
  induction rs with
  | nil => exact absurd h (by simp [slotFrom])
  | cons r rs ih =>
    unfold slotFrom at h
    split at h
    · exact Option.some.inj h ▸ Nat.le_max_right ..
    · exact ih h

theorem jobSlot_start (h : s.jobSlot j = some t) : j.start ≤ t :=
  Nat.le_trans (Nat.le_trans (Nat.le_max_left ..) (Nat.le_max_left ..)) (slotFrom_le h)

theorem runEngine_stopped {limit : Nat} {stop : State → Bool} (h : stop s = true) (n : Nat) : State.runEngine e limit stop n s = s := by
  cases n with
  | zero => rfl
  | succ n => exact if_pos h

/-- An engine without a beat before a slot moves nothing up to it. -/
theorem runEngine_idle {limit : Nat} {stop : State → Bool} (h : ∀ t j, s.nextBeat e = some (t, j) → limit ≤ t) (n : Nat) :
    State.runEngine e limit stop n s = s := by
  cases n with
  | zero => rfl
  | succ n =>
    unfold State.runEngine
    split
    · rfl
    · split
      · rename_i t j hb
        exact if_neg (Nat.not_lt.2 (h t j hb))
      · rfl

/-- Lists that are over, or may start later only, leave an engine nothing to move before a slot. -/
theorem nextBeat_late {limit : Nat} (h : ∀ x ∈ s.eng.jobs, x.engine = e → x.over = true ∨ limit ≤ x.start) :
    ∀ t j, s.nextBeat e = some (t, j) → limit ≤ t := by
  intro t j hb
  obtain ⟨hmem, hengine, hover, -, hslot⟩ := nextBeat_head hb
  obtain hx | hx := h j hmem hengine
  · exact absurd hx (by simp [hover])
  · exact Nat.le_trans hx (jobSlot_start hslot)

theorem engineTo_idle {limit : Nat} (h : ∀ x ∈ s.eng.jobs, x.engine = e → x.over = true ∨ limit ≤ x.start) : s.engineTo e limit = s.passTo e limit := by
  unfold State.engineTo
  rw [runEngine_idle (nextBeat_late h)]

end

/-! ### Jobs and tags (R459, R464, R465) -/

section

variable (s : State) (j : DmaJob)

/-- A list that comes to an engine whose other lists are over takes the last place. -/
theorem addJob_last (h : ∀ x ∈ s.eng.jobs, x.engine = j.engine → x.over = true) : (s.addJob j).eng.jobs = s.eng.jobs ++ [j] := by
  unfold State.addJob
  extract_lets after js
  have hafter : ∀ x ∈ js, (!after x) = true := by
    intro x hx
    by_cases he : x.engine = j.engine
    · simp [after, h x hx he]
    · simp [after, he]
  show js.takeWhile (fun x => !after x) ++ j :: js.dropWhile (fun x => !after x) = _
  rw [List.takeWhile_eq_self_iff.2 hafter, List.dropWhile_eq_nil_iff.2 hafter]

theorem addJob_rest : s.addJob j = { s with eng := { s.eng with jobs := (s.addJob j).eng.jobs, jobCount := s.eng.jobCount + 1 } } := rfl

theorem mem_addJob : j ∈ (s.addJob j).eng.jobs := List.mem_append_right _ (List.mem_cons_self ..)

/-- A job set stands under its number, the others under theirs. -/
theorem job_setJob (id : Nat) : (s.setJob j).job? id = (s.job? id).map fun x => if x.id = j.id then j else x := by
  unfold State.job? State.setJob
  have hp : ((fun x : DmaJob => decide (x.id = id)) ∘ fun x => if x.id = j.id then j else x) = fun x : DmaJob => decide (x.id = id) := by
    funext x
    simp only [Function.comp_apply]
    split
    · rename_i h
      rw [h]
    · rfl
  rw [List.find?_map, hp]

theorem job_setJob_self {x : DmaJob} (h : s.job? j.id = some x) : (s.setJob j).job? j.id = some j := by
  have hid : x.id = j.id := by simpa using List.find?_some h
  rw [job_setJob, h, Option.map_some, if_pos hid]

theorem job_setJob_ne {id : Nat} (h : id ≠ j.id) : (s.setJob j).job? id = s.job? id := by
  rw [job_setJob]
  cases hx : s.job? id with
  | none => rfl
  | some x =>
    have hid : x.id = id := by simpa using List.find?_some hx
    rw [Option.map_some, if_neg (hid ▸ h)]

variable (f : LaneTag → LaneTag)

theorem mapJobTag_rest : s.mapJobTag j f = { s with eng := { s.eng with lanes := (s.mapJobTag j f).eng.lanes } } := by
  unfold State.mapJobTag
  split <;> rfl

theorem mapJobTag_none (h : j.lane = none) : s.mapJobTag j f = s := by
  unfold State.mapJobTag
  rw [h]

theorem mapJobTag_tag {x : Fin 4} {k : Fin 32} (h : j.lane = some (x.val, k.val)) :
    (s.mapJobTag j f).eng.lanes[x].tags[k] = f s.eng.lanes[x].tags[k] := by
  unfold State.mapJobTag State.mapTag
  rw [h]
  simp

/-- A list discarded is counted, and completes its tag with HALTED (R464). -/
theorem discardList_effect : (s.discardList j).num Obj.dmaListsDiscarded = s.counted Obj.dmaListsDiscarded 1 ∧
    (s.discardList j).eng.jobs = s.eng.jobs ∧
    (∀ (x : Fin 4) (k : Fin 32), j.lane = some (x.val, k.val) → (s.discardList j).eng.lanes[x].tags[k] = s.eng.lanes[x].tags[k].complete 6 0 0) ∧
    (j.lane = none → (s.discardList j).eng.lanes = s.eng.lanes) ∧ s.discardList j = { s with
      dict := (s.discardList j).dict, tally := (s.discardList j).tally, eng := { s.eng with lanes := (s.discardList j).eng.lanes } } := by
  have hrest : s.discardList j = { s with
      dict := (s.discardList j).dict, tally := (s.discardList j).tally, eng := { s.eng with lanes := (s.discardList j).eng.lanes } } := by
    unfold State.discardList
    rw [mapJobTag_rest, count_rest]
  refine ⟨?_, by rw [hrest], fun x k h => ?_, fun h => ?_, hrest⟩
  · unfold State.discardList
    rw [mapJobTag_rest]
    exact count_num s 1 (by decide) (by decide)
  · exact (mapJobTag_tag _ _ _ h).trans (by rw [State.count_eng]; rfl)
  · unfold State.discardList
    rw [mapJobTag_none _ _ _ h, State.count_eng]

end

end Sys2Proof.Machine
end

section

namespace Sys2Proof.Machine

/-! ### Records of a channel's queue (R461, R462) -/

section

variable (s : State)

theorem saveLine_undo (line : Nat) : (s.saveLine line).eng = { s.eng with undo := (s.saveLine line).eng.undo } := by
  unfold State.saveLine
  split <;> rfl

theorem saveLines_undo (ls : List Nat) (s : State) :
    (ls.foldl State.saveLine s).eng = { s.eng with undo := (ls.foldl State.saveLine s).eng.undo } := by
  induction ls generalizing s with
  | nil => rfl
  | cons l ls ih =>
    rw [List.foldl_cons, ih, saveLine_undo]

/-- A write of the execution window moves nothing of the engines but the undo area (R195). -/
theorem storeWrite_undo (a : Nat) (bs : Bytes) : (s.storeWrite a bs).eng = { s.eng with undo := (s.storeWrite a bs).eng.undo } :=
  saveLines_undo ..

/-- A write of a list's own to the Store: one of a lane list saves its lines first (R195). -/
def State.putBy (s : State) (j : DmaJob) (a : Nat) (bs : Bytes) : State := if j.lane.isSome then s.storeWrite a bs else s.storePut a bs

theorem putBy_rest (j : DmaJob) (a : Nat) (bs : Bytes) : s.putBy j a bs =
    { s with store := Mem.write s.store a bs, eng := { s.eng with undo := (s.putBy j a bs).eng.undo } } := by
  unfold State.putBy
  split
  · rw [← storeWrite_undo]
    exact storeWrite_rest s a bs
  · rfl

theorem putBy_own {j : DmaJob} (h : j.lane = none) (a : Nat) (bs : Bytes) : s.putBy j a bs = s.storePut a bs := by
  unfold State.putBy
  rw [h]
  rfl

theorem descResult_length (r : DescResult) : r.bytes.length = 16 := by
  simp [DescResult.bytes, leBytes_length]

/-- Between `s` and `t` records of the list `j` were written: of the Store nothing but its channel's queue moved, and of the engines the open lines, and
for a lane list the undo area. -/
structure State.Records (s t : State) (j : DmaJob) : Prop where
  store : ∀ a, ¬s.queueHolds j.engine j.channel a → Mem.get t.store a = Mem.get s.store a
  own : j.lane = none → t.eng.undo = s.eng.undo
  rest : t = { s with store := t.store, eng := { s.eng with lines := t.eng.lines, undo := t.eng.undo } }

variable {s} {t u : State} {j : DmaJob}

theorem State.Records.refl : s.Records s j := ⟨fun _ _ => rfl, fun _ => rfl, rfl⟩

theorem State.Records.queue (h : s.Records t j) (e c a : Nat) : t.queueHolds e c a = s.queueHolds e c a := by
  rw [h.rest]
  rfl

theorem State.Records.trans (h : s.Records t j) (k : t.Records u j) : s.Records u j :=
  ⟨fun a ha => (k.store a (by rwa [h.queue])).trans (h.store a ha), fun hl => (k.own hl).trans (h.own hl), by rw [k.rest, h.rest]⟩

theorem records_foldl {α : Type} {f : State → α → State} (h : ∀ (s : State) x, s.Records (f s x) j) (xs : List α) (s : State) :
    s.Records (xs.foldl f s) j := by
  induction xs generalizing s with
  | nil => exact .refl
  | cons x xs ih => exact (h s x).trans (ih _)

theorem putBy_records {a : Nat} {bs : Bytes} (h : ∀ i < bs.length, s.queueHolds j.engine j.channel (a + i)) : s.Records (s.putBy j a bs) j := by
  refine ⟨fun q hq => ?_, fun hl => by rw [putBy_own s hl]; rfl, by rw [putBy_rest]⟩
  rw [putBy_rest]
  refine mem_get_write_ne _ _ ?_
  by_contra hin
  have := h (q - a) (by omega)
  rw [show a + (q - a) = q by omega] at this
  exact hq this

theorem queueHolds_iff {off lines : Nat} {e c : Nat} (hq : queueOf (sectBody s.sections 7) e c = (off, lines)) (a : Nat) :
    s.queueHolds e c a ↔ stateBase + off ≤ a ∧ a < stateBase + off + 32 + 32 * lines := by
  unfold State.queueHolds
  rw [hq]

theorem appendRecord_records (s : State) (j : DmaJob) (r : DescResult) : s.Records (s.appendRecord j r) j := by
  obtain ⟨off, lines, hq⟩ : ∃ off lines, queueOf (sectBody s.sections 7) j.engine j.channel = (off, lines) := ⟨_, _, rfl⟩
  unfold State.appendRecord
  rw [hq]
  dsimp only
  split
  · exact .refl
  · rename_i hnone
    simp only [Bool.or_eq_true, decide_eq_true_eq, not_or] at hnone
    have hn : s.storeNat (stateBase + off) 4 % lines < lines := Nat.mod_lt _ (Nat.pos_of_ne_zero hnone.2)
    have hline : 32 * (s.storeNat (stateBase + off) 4 % lines) + 32 ≤ 32 * lines := by omega
    have h1 : s.Records (s.putBy j (stateBase + off + 32 + 32 * (s.storeNat (stateBase + off) 4 % lines)) (r.bytes ++ zeros 16)) j := by
      refine putBy_records fun i hi => (queueHolds_iff hq _).2 ?_
      rw [List.length_append, descResult_length, show (zeros 16).length = 16 from rfl] at hi
      omega
    have h2 : ∀ bs : Bytes, bs.length = 32 → s.Records
        ((s.putBy j (stateBase + off + 32 + 32 * (s.storeNat (stateBase + off) 4 % lines)) (r.bytes ++ zeros 16)).putBy j (stateBase + off) bs) j := by
      refine fun bs hbs => h1.trans (putBy_records fun i hi => ?_)
      rw [h1.queue]
      exact (queueHolds_iff hq _).2 (by omega)
    specialize h2 (leBytes 4 (s.storeNat (stateBase + off) 4 + 1) ++ leBytes 2 lines ++ [byte j.engine, byte j.channel] ++ zeros 24)
      (by simp [leBytes_length, zeros])
    split
    · exact h2.trans ⟨fun _ _ => rfl, fun _ => rfl, rfl⟩
    · exact h2

end

/-! ### A list completes (R461, R465) -/

/-- The last records of a list are written, and its tag completes. -/
def State.listEnded (s : State) (j : DmaJob) : State :=
  ((((j.results.drop j.written).foldl (fun s r => s.appendRecord j r) (s.land fun x => decide (x.job = j.id))).setJob
    { j with written := j.results.length, complete := true })).mapJobTag j fun x => x.complete 0 (j.results.foldl (fun n r => n + r.good) 0) 0

section

variable {s : State} {j : DmaJob}

/-- Nothing lands where nothing is on its way. -/
theorem land_none {due : Landing → Bool} (h : ∀ x ∈ s.eng.landing, due x = false) : s.land due = s := by
  have h0 : s.eng.landing.filter due = [] := List.filter_eq_nil_iff.2 fun x hx => by simp [h x hx]
  have h1 : s.eng.landing.filter (fun x => !due x) = s.eng.landing := List.filter_eq_self.2 fun x hx => by simp [h x hx]
  unfold State.land
  rw [h0]
  dsimp only [List.foldl_nil]
  rw [h1]

theorem listEnded_effect (h : ∀ x ∈ s.eng.landing, x.job ≠ j.id) :
    (s.listEnded j).eng.jobs = s.eng.jobs.map (fun x => if x.id = j.id then { j with written := j.results.length, complete := true } else x) ∧
    (∀ (x : Fin 4) (k : Fin 32), j.lane = some (x.val, k.val) →
      (s.listEnded j).eng.lanes[x].tags[k] = s.eng.lanes[x].tags[k].complete 0 (j.results.foldl (fun n r => n + r.good) 0) 0) ∧
    (j.lane = none → (s.listEnded j).eng.lanes = s.eng.lanes ∧ (s.listEnded j).eng.undo = s.eng.undo) ∧
    (∀ a, ¬s.queueHolds j.engine j.channel a → Mem.get (s.listEnded j).store a = Mem.get s.store a) ∧
    s.listEnded j = { s with store := (s.listEnded j).store, eng := { s.eng with
      jobs := (s.listEnded j).eng.jobs, lines := (s.listEnded j).eng.lines, lanes := (s.listEnded j).eng.lanes, undo := (s.listEnded j).eng.undo } } := by
  have hrec : s.Records ((j.results.drop j.written).foldl (fun s r => s.appendRecord j r) s) j :=
    records_foldl (fun s r => appendRecord_records s j r) _ s
  unfold State.listEnded
  rw [land_none fun x hx => decide_eq_false (h x hx)]
  generalize List.foldl _ s _ = u at hrec ⊢
  have heng := congrArg State.eng hrec.rest
  refine ⟨?_, fun x k hl => ?_, fun hl => ?_, fun a ha => ?_, ?_⟩
  · rw [mapJobTag_rest]
    show u.eng.jobs.map _ = _
    rw [heng]
  · rw [mapJobTag_tag _ _ _ hl]
    show LaneTag.complete u.eng.lanes[x].tags[k] _ _ _ = _
    rw [heng]
  · rw [mapJobTag_none _ _ _ hl]
    refine ⟨?_, hrec.own hl⟩
    show u.eng.lanes = _
    rw [heng]
  · rw [mapJobTag_rest]
    exact hrec.store a ha
  · rw [mapJobTag_rest, setJob_rest, hrec.rest]

/-- A list completes once nothing is left of it, or the tick has no slot for it (R187, R461). -/
theorem dmaListComplete_ends {list : BitVec 16} {s0 : State} {j0 : DmaJob}
    (hf : s.eng.jobs.find? (fun j => decide (j.list = list.toNat) && j.started && !j.complete) = some j0)
    (hr : State.runEngine j0.engine 200000 (fun s => (s.job? j0.id).any DmaJob.over) (s.beatsLeft j0.engine) s = s0)
    (hj : s0.job? j0.id = some j) (ho : j.over = true ∨ s0.jobSlot j = none) : exec (.dmaListComplete list) s = .next (s0.listEnded j) := by
  have hc : (!j.over && (s0.jobSlot j).isSome) = false := by
    obtain h | h := ho <;> simp [h]
  simp only [exec, execDmaListComplete, hf, hr, hj, hc, Bool.false_eq_true, if_false]
  rfl

theorem dmaListComplete_none {list : BitVec 16} (h : s.eng.jobs.find? (fun j => decide (j.list = list.toNat) && j.started && !j.complete) = none) :
    exec (.dmaListComplete list) s = .next s := by
  simp only [exec, execDmaListComplete, h]

end

end Sys2Proof.Machine
end

section

namespace Sys2Proof.Machine

/-! ### Late errors (R463 to R465) -/

/-- A LATE_ERR stands in the second half of its line, is counted and told, and closes the line. -/
def State.lateTold (s : State) (j : DmaJob) (line : Nat) (r : DescResult) : State :=
  let s2 := ((s.putBy j (line + 16) r.bytes).count Obj.dmaLateErrors).dmaErrorTally j.engine j.channel r.seq r.error r.fail
  { s2 with eng := { s2.eng with lines := s2.eng.lines.filter fun e => decide (e.2.2 ≠ line) } }

/-- The late error stands in the tag of its list, and in the list where it has not completed. -/
def State.lateMarked (s : State) (j : DmaJob) (r : DescResult) (halts : Bool) (lost : Nat) : State :=
  if j.complete then s.mapJobTag j fun x => { x with live := x.live.late r.error lost r.fail }
  else (s.setJob { j with halted := j.halted || halts
                          results := j.results.map fun x => if x.seq = r.seq then { x with good := r.good } else x }).mapJobTag j
    fun x => x.noteError r.error r.fail

section

variable {s : State} {j : DmaJob}

theorem job_engineTo {e limit id : Nat} (h : ∀ x ∈ s.eng.jobs, x.engine = e → x.over = true) :
    s.engineTo e limit = s.passTo e limit ∧ (s.engineTo e limit).job? id = s.job? id := by
  have hidle : s.engineTo e limit = s.passTo e limit := engineTo_idle fun x hx he => .inl (h x hx he)
  refine ⟨hidle, ?_⟩
  rw [hidle, passTo_rest]
  rfl

/-- Nothing is behind a halt where every list of the engine is over. -/
theorem haltBehind_none {e c : Nat} (h : ∀ x ∈ s.eng.jobs, x.engine = e → x.over = true) : s.haltBehind e c = s := by
  have h0 : (s.eng.jobs.filter fun j => decide (j.engine = e) && decide (j.channel = c) && !j.over) = [] := by
    refine List.filter_eq_nil_iff.2 fun x hx => ?_
    by_cases he : x.engine = e
    · simp [h x hx he]
    · simp [he]
  unfold State.haltBehind
  rw [h0, List.foldl_nil]

theorem haltChannel_rest (s : State) (e c : Nat) : s.haltChannel e c =
    { s with dict := (s.haltChannel e c).dict, tally := (s.haltChannel e c).tally, eng := { s.eng with halted := (e * 8 + c) :: s.eng.halted } } := by
  unfold State.haltChannel
  dsimp only
  rw [count_rest]

theorem isHalted_haltChannel (s : State) (e c : Nat) : (s.haltChannel e c).isHalted e c = true := by
  rw [haltChannel_rest]
  simp [State.isHalted]

theorem num_haltChannel (s : State) {e c q : Nat} (h : q ≠ Obj.dmaHalts) (h2 : q ≠ overflowAddr Obj.dmaHalts) (h3 : q ∉ tallyObjects) :
    (s.haltChannel e c).num q = s.num q := num_congr (count_obj s 1 h h2 h3)

theorem lateTold_rest (s : State) (j : DmaJob) (line : Nat) (r : DescResult) : s.lateTold j line r = { s with
    store := Mem.write s.store (line + 16) r.bytes, dict := (s.lateTold j line r).dict, tally := (s.lateTold j line r).tally, eng := { s.eng with
      lines := (s.lateTold j line r).eng.lines, undo := (s.lateTold j line r).eng.undo } } := by
  unfold State.lateTold State.dmaErrorTally State.issueTally
  dsimp only
  rw [count_rest, putBy_rest]

theorem lateTold_counts (s : State) (j : DmaJob) (line : Nat) (r : DescResult) :
    (s.lateTold j line r).num Obj.dmaLateErrors = s.counted Obj.dmaLateErrors 1 := by
  have hdict : (s.putBy j (line + 16) r.bytes).dict = s.dict := by rw [putBy_rest]
  have htold : (s.lateTold j line r).dict = ((s.putBy j (line + 16) r.bytes).count Obj.dmaLateErrors).dict := by
    unfold State.lateTold State.dmaErrorTally State.issueTally
    dsimp only
  rw [num_of_dict htold, count_num _ 1 (by decide) (by decide), counted_of_dict hdict]

variable {r : DescResult} {halts : Bool} {lost : Nat}

theorem lateMarked_rest : s.lateMarked j r halts lost = { s with eng := { s.eng with
    jobs := (s.lateMarked j r halts lost).eng.jobs, lanes := (s.lateMarked j r halts lost).eng.lanes } } := by
  unfold State.lateMarked
  split
  · rw [mapJobTag_rest]
  · rw [mapJobTag_rest, setJob_rest]

theorem lateMarked_lanes (h : j.lane = none) : (s.lateMarked j r halts lost).eng.lanes = s.eng.lanes := by
  unfold State.lateMarked
  split
  · rw [mapJobTag_none _ _ _ h]
  · rw [mapJobTag_none _ _ _ h]
    rfl

/-- A list that is over is not taken up again. -/
theorem lateMarked_over (h : ∀ x ∈ s.eng.jobs, x.engine = j.engine → x.over = true) (hj : j.over = true) :
    ∀ x ∈ (s.lateMarked j r halts lost).eng.jobs, x.engine = j.engine → x.over = true := by
  unfold State.lateMarked
  split
  · rw [mapJobTag_rest]
    exact h
  · rw [mapJobTag_rest]
    intro x hx he
    obtain ⟨y, hy, rfl⟩ := List.mem_map.1 hx
    split at he
    · rename_i hid
      rw [if_pos hid]
      simp only [DmaJob.over, Bool.or_eq_true] at hj ⊢
      exact hj.imp_left (Or.imp_right .inl)
    · rename_i hid
      rw [if_neg hid]
      exact h y hy he

/-- What a late error does, where every list of its engine is over. -/
theorem lateError_effect (s : State) {line : Nat} (h : ∀ x ∈ s.eng.jobs, x.engine = j.engine → x.over = true) (hj : j.over = true)
    (htype : r.type = 3) (herror : r.error = 5) {t : State}
    (ht : t = let s4 := (s.lateTold j line r).lateMarked j r halts lost
      if halts then (s4.haltChannel j.engine j.channel).haltBehind j.engine j.channel else s4) :
    t.num Obj.dmaLateErrors = s.counted Obj.dmaLateErrors 1 ∧ Mem.read t.store (line + 16) 2 = [3, 5] ∧
      (halts = true → t.isHalted j.engine j.channel = true) ∧ (halts = false → t.eng.halted = s.eng.halted) ∧
      (∀ a, a < line + 16 ∨ line + 32 ≤ a → Mem.get t.store a = Mem.get s.store a) ∧ (j.lane = none → t.eng.lanes = s.eng.lanes) ∧
      t = { s with store := t.store, dict := t.dict, tally := t.tally, eng := { s.eng with
        jobs := t.eng.jobs, lines := t.eng.lines, halted := t.eng.halted, lanes := t.eng.lanes, undo := t.eng.undo } } := by
  have htold := lateTold_rest s j line r
  have hcount := lateTold_counts s j line r
  generalize s.lateTold j line r = u at ht htold hcount
  have hmark : u.lateMarked j r halts lost = { u with eng := { u.eng with
    jobs := (u.lateMarked j r halts lost).eng.jobs, lanes := (u.lateMarked j r halts lost).eng.lanes } } := lateMarked_rest
  have hlanes : j.lane = none → (u.lateMarked j r halts lost).eng.lanes = u.eng.lanes := lateMarked_lanes
  have hover := lateMarked_over (s := u) (r := r) (halts := halts) (lost := lost) (by rw [htold]; exact h) hj
  generalize u.lateMarked j r halts lost = v at ht hmark hlanes hover
  have hvstore : v.store = Mem.write s.store (line + 16) r.bytes := by rw [hmark, htold]
  have hvnum : v.num Obj.dmaLateErrors = s.counted Obj.dmaLateErrors 1 := by rw [← hcount]; exact num_of_dict (by rw [hmark]) _
  have hvlanes : j.lane = none → v.eng.lanes = s.eng.lanes := fun hl => by rw [hlanes hl, htold]
  have hvhalted : v.eng.halted = s.eng.halted := by rw [hmark, htold]
  have hvrest : v = { s with store := v.store, dict := v.dict, tally := v.tally, eng := { s.eng with
      jobs := v.eng.jobs, lines := v.eng.lines, halted := v.eng.halted, lanes := v.eng.lanes, undo := v.eng.undo } } := by rw [hmark, htold]
  have hread : Mem.read (Mem.write s.store (line + 16) r.bytes) (line + 16) 2 = [3, 5] := by
    have hall := mem_read_write_self s.store (line + 16) r.bytes
    rw [descResult_length] at hall
    have h2 := congrArg (List.take 2) hall
    rw [show r.bytes.take 2 = [3, 5] by simp [DescResult.bytes, htype, herror, byte]] at h2
    exact h2
  have hkept : ∀ a, a < line + 16 ∨ line + 32 ≤ a → Mem.get (Mem.write s.store (line + 16) r.bytes) a = Mem.get s.store a :=
    fun a ha => mem_get_write_ne _ _ (by rw [descResult_length]; omega)
  cases halts with
  | false =>
    obtain rfl : t = v := ht
    exact ⟨hvnum, hvstore ▸ hread, fun hf => absurd hf (by simp), fun _ => hvhalted, hvstore ▸ hkept, hvlanes, hvrest⟩
  | true =>
    have hhalt := haltChannel_rest v j.engine j.channel
    have ht' : t = v.haltChannel j.engine j.channel :=
      ht.trans (haltBehind_none (e := j.engine) (c := j.channel) (by rw [hhalt]; exact hover))
    rw [ht']
    have hstore : (v.haltChannel j.engine j.channel).store = Mem.write s.store (line + 16) r.bytes := by rw [hhalt, hvstore]
    refine ⟨?_, hstore ▸ hread, fun _ => isHalted_haltChannel .., fun hf => absurd hf (by simp), hstore ▸ hkept, fun hl => ?_, ?_⟩
    · rw [num_haltChannel v (by decide) (by decide) (by decide), hvnum]
    · rw [hhalt]
      exact hvlanes hl
    · generalize v.haltChannel j.engine j.channel = w at hhalt
      rw [hhalt, hvrest]

end

end Sys2Proof.Machine
end

section

namespace Sys2Proof.Machine

/-! ### What an entry to HOLD moves (Table 1-7, R277) -/

/-- Between `s` and `t` of the objects at most `os` moved, the log went on, and the tick stayed. -/
structure State.Remains (s t : State) (os : List Nat) : Prop where
  objects : s.SameObjects t os
  tally : s.tally.Extends t.tally
  tick : t.tick = s.tick

/-- The objects that an entry to HOLD from RUN or STANDBY may move. -/
def holdEntryObjects : List Nat :=
  [Obj.stationStateDetail, Obj.syncState, Obj.timePort, Obj.sidebands, Obj.holdCause, Obj.activationResult, Obj.activationDetail, Obj.pendingTick,
    Obj.configPagesNeeded] ++ (List.range 8).map Obj.canState ++ holdoverObjects

section

variable {s t u : State} {os : List Nat}

theorem State.Remains.refl (s : State) (os : List Nat) : s.Remains s os := ⟨fun _ _ => rfl, TallyLog.extends_refl _, rfl⟩

theorem State.Remains.trans (h : s.Remains t os) (k : t.Remains u os) : s.Remains u os :=
  ⟨fun a ha => (k.objects a ha).trans (h.objects a ha), TallyLog.extends_trans h.tally k.tally, k.tick.trans h.tick⟩

theorem State.Remains.ite {c : Prop} [Decidable c] (h : s.Remains t os) (k : s.Remains u os) : s.Remains (if c then t else u) os := by
  split
  · exact h
  · exact k

theorem State.Remains.num (h : s.Remains t os) {a : Nat} (ha : a ∉ os) : t.num a = s.num a := num_congr (h.objects a ha)

theorem State.TimeActs.remains {ps : List Nat} (h : s.TimeActs t ps) (hsub : ps ⊆ os) : s.Remains t os :=
  ⟨(h.mono hsub).objects, h.tally, by rw [h.rest]⟩

theorem remains_of_frame (hd : t.dict = s.dict) (hl : t.tally = s.tally) (ht : t.tick = s.tick) : s.Remains t os :=
  ⟨fun a _ => obj_of_dict hd a, hl ▸ TallyLog.extends_refl _, ht⟩

theorem remains_foldl {α : Type} {f : State → α → State} {xs : List α} (h : ∀ (s : State), ∀ x ∈ xs, s.Remains (f s x) os) (s : State) :
    s.Remains (xs.foldl f s) os := by
  induction xs generalizing s with
  | nil => exact .refl s os
  | cons x xs ih => exact (h s x (List.mem_cons_self ..)).trans (ih (fun s y hy => h s y (List.mem_cons_of_mem x hy)) _)

variable (s)

theorem remains_setNum {a : Nat} (ha : a ∈ os) (v : Nat) : s.Remains (s.setNum a v) os := (timeActs_setNum s ha v).remains (List.Subset.refl _)

theorem remains_setDetail (ha : Obj.stationStateDetail ∈ os) (i : Nat) (b : Bool) : s.Remains (s.setDetail i b) os := remains_setNum s ha _

theorem remains_canRefresh (h : ∀ k : Fin 8, Obj.canState k.val ∈ os) : s.Remains s.canRefresh os :=
  remains_foldl (fun s k _ => remains_setNum s (h k) _) s

theorem remains_canEnd (h : ∀ k : Fin 8, Obj.canState k.val ∈ os) : s.Remains s.canStop.canEnd os := by
  unfold State.canEnd
  extract_lets cs
  refine State.Remains.trans ?_ (remains_canRefresh _ h)
  exact remains_of_frame rfl rfl rfl

theorem remains_sidebandsNow (h : Obj.sidebands ∈ os) : s.Remains s.sidebandsNow os := remains_setNum s h _

theorem remains_fenceActs (h : Obj.sidebands ∈ os) : s.Remains s.fenceActs os := by
  unfold State.fenceActs
  refine .ite (.ite (.refl ..) ?_) (remains_of_frame rfl rfl rfl)
  refine State.Remains.trans ?_ (remains_sidebandsNow _ h)
  rw [assertSource_rest]
  exact remains_of_frame rfl rfl rfl

theorem remains_setFence_off (h : Obj.sidebands ∈ os) : s.Remains (s.setFence false) os := by
  unfold State.setFence
  refine .ite (.refl ..) ?_
  extract_lets pair s1 s2
  have h2 : s.Remains s2 os := remains_of_frame rfl rfl rfl
  exact (h2.trans (remains_fenceActs s2 h)).trans (remains_sidebandsNow _ h)

/-- The time state that a module takes over as it leaves the active's edges (R306). -/
theorem remains_timeFromSeam (flags : Nat) : s.Remains (s.timeFromSeam flags) holdEntryObjects := by
  unfold State.timeFromSeam
  extract_lets unlocked hold t s1 s2 s3
  have h2 : s.Remains s2 holdEntryObjects :=
    State.Remains.trans (t := s1) (remains_of_frame rfl rfl rfl) (remains_setNum _ (by decide) _)
  have h3 : s2.Remains s3 holdEntryObjects := ((remains_setDetail _ (by decide) ..).trans
    ((timeActs_setTimeState _ _ (List.Subset.refl _)).remains (by decide))).trans (remains_setNum _ (by decide) _)
  exact ((h2.trans h3).trans (.ite (.refl ..) ((timeActs_noSlave s3).remains (by decide)))).trans ((timeActs_ppsJudge _ []).remains (by decide))

/-- A step held stays held in HOLD (R102). -/
theorem applyHeld_hold (h : s.mode = .hold) : s.applyHeld = s := by
  unfold State.applyHeld State.atRest
  rw [h]
  cases s.time.step <;> simp

theorem remains_leaveRun_hold : s.Remains (s.leaveRun .hold) holdEntryObjects := by
  unfold State.leaveRun
  extract_lets eng s1 s2 s3 pair s4 io s5 s6
  have h2 : s.Remains s2 holdEntryObjects := State.Remains.trans (t := s1) (remains_of_frame rfl rfl rfl)
    (((remains_setDetail _ (by decide) ..).trans (remains_setDetail _ (by decide) ..)).trans (remains_setDetail _ (by decide) ..))
  have h3 : s2.Remains s3 holdEntryObjects := (remains_setNum _ (by decide) _).trans (remains_canEnd _ (by decide))
  have hmode : s3.mode = .hold := by simp [s3, s2, s1]
  clear_value s3
  have h5 : s3.Remains s5 holdEntryObjects := remains_of_frame rfl rfl rfl
  have h6 : s5.Remains s6 holdEntryObjects := by
    dsimp only [s6]
    rw [applyHeld_hold]
    · exact .ite (remains_timeFromSeam ..) (.refl ..)
    · split
      · exact ((State.timeFromSeam_mode_keys ..).1).trans hmode
      · exact hmode
  exact (((h2.trans h3).trans h5).trans h6).trans (remains_setFence_off _ (by decide))

theorem remains_dropActivation : s.Remains s.dropActivation holdEntryObjects := by
  unfold State.dropActivation State.endActivation
  refine .ite (((((remains_of_frame rfl rfl rfl : s.Remains { s with warp := { s.warp with activation := none } } _).trans
    (remains_setNum _ ?_ _)).trans (remains_setNum _ ?_ _)).trans (remains_setNum _ ?_ _)).trans (remains_setNum _ ?_ _)) (.refl ..)
  all_goals decide

theorem remains_enterHold (code : Nat) : s.Remains (s.enterHold code) holdEntryObjects := by
  unfold State.enterHold
  extract_lets s1 s2
  have h1 : s.Remains s1 holdEntryObjects := (remains_setNum _ (by decide) _).trans (remains_setDetail _ (by decide) ..)
  have h2 : s1.Remains s2 holdEntryObjects := (timeActs_logTally s1 (os := tallyObjects) (by decide) ..).remains (by decide)
  exact (h1.trans h2).trans (remains_of_frame rfl rfl rfl)

/-- An entry to HOLD moves few objects, takes no record back, and leaves the tick. -/
theorem remains_goHold (code : Nat) : s.Remains (s.goHold code) holdEntryObjects := by
  unfold State.goHold
  extract_lets s1 s2
  have h1 : s.Remains s1 holdEntryObjects := .ite ((remains_dropActivation s).trans (remains_leaveRun_hold _)) (.refl ..)
  have h2 : s1.Remains s2 holdEntryObjects :=
    State.Remains.trans (t := { s1 with profileChange := none }) (remains_of_frame rfl rfl rfl) (remains_enterHold ..)
  refine (h1.trans h2).trans (State.Remains.trans ?_ (remains_canRefresh _ (by decide)))
  exact remains_of_frame rfl rfl rfl

end

end Sys2Proof.Machine
end

section

namespace Sys2Proof.Machine

/-! ### What the scrubbers and the feeds count (R467, R468) -/

section

variable {s t u : State} {os : List Nat}

theorem State.SameObjects.trans (h : s.SameObjects t os) (k : t.SameObjects u os) : s.SameObjects u os :=
  fun a ha => (k a ha).trans (h a ha)

variable (s)

theorem sameObjects_count {a : Nat} (n : Nat) (ha : a ∈ os) (ho : overflowAddr a ∈ os) (ht : tallyObjects ⊆ os) : s.SameObjects (s.count a n) os :=
  fun _ hq => count_obj s n (fun h => hq (h ▸ ha)) (fun h => hq (h ▸ ho)) fun h => hq (ht h)

theorem sameObjects_setNum {a : Nat} (v : Nat) (ha : a ∈ os) : s.SameObjects (s.setNum a v) os :=
  fun _ hq => obj_setNum_ne s v fun h => hq (h ▸ ha)

/-- A number of 32 bits is kept whole by an object of four bytes. -/
theorem num_setNum_word {a : Nat} (ha : objSize a = 4) (v : BitVec 32) : (s.setNum a v.toNat).num a = v.toNat := by
  rw [num_setNum_self, ha]
  exact Nat.mod_eq_of_lt v.isLt

end

/-- The objects of the LPDDR4X scrubber. -/
def dramScrubObjects : List Nat :=
  [Obj.dramScrubPasses, Obj.dramCorrected, Obj.dramUncorrectable, Obj.dramLastFault, overflowAddr Obj.dramCorrected] ++ tallyObjects

/-- A pass is counted, and what it corrected. -/
def State.dramCounted (s : State) (found : DramErrors) (bad : BitVec 32) : State :=
  ((if found.pass then s.count Obj.dramScrubPasses else s).count Obj.dramCorrected found.corrected.toNat).count Obj.dramUncorrectable bad.toNat

/-- The newest address of an uncorrectable error, where one was met. -/
def State.dramFaultAt (s : State) (bad : BitVec 32) (last : Option (BitVec 32)) : State :=
  match last with
  | some a => if bad = 0 then s else s.setNum Obj.dramLastFault a.toNat
  | none => s

section

variable (s : State) (found : DramErrors) (bad : BitVec 32) (last : Option (BitVec 32))

theorem dramScrubPass_eq : exec (.dramScrubPass found bad last) s = .next ((s.dramCounted found bad).dramFaultAt bad last) := rfl

theorem dramCounted_effect : (s.dramCounted found bad).num Obj.dramScrubPasses =
      (if found.pass then s.counted Obj.dramScrubPasses 1 else s.num Obj.dramScrubPasses) ∧
    (s.dramCounted found bad).num Obj.dramCorrected = s.counted Obj.dramCorrected found.corrected.toNat ∧
    (s.dramCounted found bad).num Obj.dramUncorrectable = s.counted Obj.dramUncorrectable bad.toNat ∧
    (s.dramCounted found bad).num Obj.dramLastFault = s.num Obj.dramLastFault ∧ s.SameObjects (s.dramCounted found bad) dramScrubObjects ∧
    s.dramCounted found bad = { s with dict := (s.dramCounted found bad).dict, tally := (s.dramCounted found bad).tally } := by
  obtain ⟨u, hu⟩ : ∃ u, u = if found.pass then s.count Obj.dramScrubPasses else s := ⟨_, rfl⟩
  have hpasses : u.num Obj.dramScrubPasses = if found.pass then s.counted Obj.dramScrubPasses 1 else s.num Obj.dramScrubPasses := by
    rw [hu]
    split
    · exact count_num s 1 (by decide) (by decide)
    · rfl
  have hsame : s.SameObjects u [Obj.dramScrubPasses, overflowAddr Obj.dramScrubPasses, Obj.talliesWritten, overflowAddr Obj.talliesWritten] := by
    rw [hu]
    split
    · exact sameObjects_count s 1 (by decide) (by decide) (by decide)
    · exact fun _ _ => rfl
  have hrest : u = { s with dict := u.dict, tally := u.tally } := by
    rw [hu]
    split
    · exact count_rest ..
    · rfl
  have heq : s.dramCounted found bad = (u.count Obj.dramCorrected found.corrected.toNat).count Obj.dramUncorrectable bad.toNat := by rw [hu]; rfl
  rw [heq]
  clear heq hu
  refine ⟨?_, ?_, ?_, ?_, ?_, ?_⟩
  · rw [num_congr (count_obj _ _ (by decide) (by decide) (by decide)), num_congr (count_obj _ _ (by decide) (by decide) (by decide)), hpasses]
  · rw [num_congr (count_obj _ _ (by decide) (by decide) (by decide)), count_num _ _ (by decide) (by decide)]
    unfold State.counted
    rw [num_congr (hsame _ (by decide))]
  · rw [count_num _ _ (by decide) (by decide)]
    unfold State.counted
    rw [num_congr (count_obj _ _ (by decide) (by decide) (by decide)), num_congr (hsame _ (by decide))]
  · rw [num_congr (count_obj _ _ (by decide) (by decide) (by decide)), num_congr (count_obj _ _ (by decide) (by decide) (by decide)),
      num_congr (hsame _ (by decide))]
  · have hsub : [Obj.dramScrubPasses, overflowAddr Obj.dramScrubPasses, Obj.talliesWritten, overflowAddr Obj.talliesWritten] ⊆ dramScrubObjects := by
      decide
    have hs : s.SameObjects u dramScrubObjects := fun a ha => hsame a fun hm => ha (hsub hm)
    exact (hs.trans (sameObjects_count u _ (by decide) (by decide) (by decide))).trans
      (sameObjects_count _ _ (by decide) (by decide) (by decide))
  · rw [count_rest, count_rest u, hrest]

theorem dramFaultAt_effect : (s.dramFaultAt bad last).num Obj.dramLastFault =
      (match last with | some a => if bad = 0 then s.num Obj.dramLastFault else a.toNat | none => s.num Obj.dramLastFault) ∧
    s.SameObjects (s.dramFaultAt bad last) [Obj.dramLastFault] ∧ s.dramFaultAt bad last = { s with dict := (s.dramFaultAt bad last).dict } := by
  unfold State.dramFaultAt
  cases last with
  | none => exact ⟨rfl, fun _ _ => rfl, rfl⟩
  | some a =>
    dsimp only
    by_cases hb : bad = 0
    · simp only [hb, if_true]
      exact ⟨trivial, fun _ _ => rfl, trivial⟩
    · simp only [hb, if_false]
      exact ⟨num_setNum_word s (by decide) a, sameObjects_setNum s _ (List.mem_singleton.2 rfl), rfl⟩

theorem dramScrubPass_effect : ∃ t, exec (.dramScrubPass found bad last) s = .next t ∧
    t.num Obj.dramScrubPasses = (if found.pass then s.counted Obj.dramScrubPasses 1 else s.num Obj.dramScrubPasses) ∧
    t.num Obj.dramCorrected = s.counted Obj.dramCorrected found.corrected.toNat ∧
    t.num Obj.dramUncorrectable = s.counted Obj.dramUncorrectable bad.toNat ∧
    t.num Obj.dramLastFault = (match last with | some a => if bad = 0 then s.num Obj.dramLastFault else a.toNat | none => s.num Obj.dramLastFault) ∧
    s.SameObjects t dramScrubObjects ∧ t = { s with dict := t.dict, tally := t.tally } := by
  refine ⟨_, dramScrubPass_eq s found bad last, ?_⟩
  obtain ⟨hpasses, hcorrected, hbad, hlast, hsame, hrest⟩ := dramCounted_effect s found bad
  generalize s.dramCounted found bad = u at *
  obtain ⟨tlast, tsame, trest⟩ := dramFaultAt_effect u bad last
  refine ⟨?_, ?_, ?_, ?_, ?_, ?_⟩
  · rw [num_congr (tsame _ (by decide)), hpasses]
  · rw [num_congr (tsame _ (by decide)), hcorrected]
  · rw [num_congr (tsame _ (by decide)), hbad]
  · rw [tlast, hlast]
  · have hsub : [Obj.dramLastFault] ⊆ dramScrubObjects := by decide
    exact hsame.trans fun a ha => tsame a fun hm => ha (hsub hm)
  · generalize u.dramFaultAt bad last = t at trest
    rw [trest, hrest]

end

/-! ### Requests of devices (R447, R466) -/

section

variable {s : State} {line : HostLine} {beats : Fin 16}

theorem deviceRequest_free (h : s.eng.hostBurst[line.engine] = none) :
    exec (.deviceRequest line beats true) s = .next s ∧
    (bit s.eng.gates (9 + line.engine.val) = true → exec (.deviceRequest line beats false) s = .next
      { s with eng := { s.eng with hostBurst := s.eng.hostBurst.set line.engine (some ⟨line.device, beats.val + 1, 0⟩) } }) ∧
    (bit s.eng.gates (9 + line.engine.val) = false → exec (.deviceRequest line beats false) s = .next (s.count Obj.gatedAccesses)) := by
  refine ⟨?_, fun hg => ?_, fun hg => ?_⟩
  · simp only [exec, execDeviceRequest, h, if_true]
  · simp only [exec, execDeviceRequest, h, hg, Bool.false_eq_true, if_false, if_true]
  · simp only [exec, execDeviceRequest, h, hg, Bool.false_eq_true, if_false]

theorem deviceRequest_reserved {b : HostBurst} (h : s.eng.hostBurst[line.engine] = some b) :
    exec (.deviceRequest line beats false) s = .next s ∧
    (b.device = line.device → b.moved = 0 → exec (.deviceRequest line beats true) s = .next
      { s with eng := { s.eng with hostBurst := s.eng.hostBurst.set line.engine none } }) ∧
    (b.device ≠ line.device ∨ b.moved ≠ 0 → exec (.deviceRequest line beats true) s = .next s) := by
  refine ⟨?_, fun hd hm => ?_, fun hor => ?_⟩
  · simp only [exec, execDeviceRequest, h, Bool.false_and, Bool.false_eq_true, if_false]
  · simp only [exec, execDeviceRequest, h, hd, hm, decide_true, Bool.and_self, if_true]
  · have hc : (true && decide (b.device = line.device) && decide (b.moved = 0)) = false := by
      obtain hd | hm := hor
      · simp [hd]
      · simp [hm]
    simp only [exec, execDeviceRequest, h, hc, Bool.false_eq_true, if_false]

end

/-! ### Late errors and the list's end (R461, R463) -/

theorem dmaResponseError_closed {s : State} {list desc : BitVec 16} (beat : BitVec 20)
    (h : s.eng.lines.reverse.find? (fun e => decide (e.2.1 = desc.toNat) && (s.job? e.1).any fun j => decide (j.list = list.toNat)) = none) :
    exec (.dmaResponseError list desc beat) s = .next s := by
  simp only [exec, execDmaResponseError, h]

theorem job_over {s : State} {j : DmaJob} (h : ∀ x ∈ s.eng.jobs, x.engine = j.engine → x.over = true) (hj : s.job? j.id = some j) : j.over = true :=
  h j (List.mem_of_find?_eq_some hj) rfl

/-- A late error, where every list of the engine is over. -/
theorem dmaResponseError_effect {s : State} {list desc : BitVec 16} {beat : BitVec 20} {line : Nat} {l : DmaList} {j : DmaJob} {d : Descriptor}
    (hopen : s.eng.lines.reverse.find? (fun e => decide (e.2.1 = desc.toNat) && (s.job? e.1).any fun j => decide (j.list = list.toNat)) =
      some (j.id, desc.toNat, line))
    (hj : s.job? j.id = some j) (hl : s.lists[list.toNat]? = some l) (hd : l.descs[desc.toNat]? = some d) (hbeat : beat.toNat < beatsOf d)
    (hover : ∀ x ∈ s.eng.jobs, x.engine = j.engine → x.over = true) :
    ∃ (limit lost : Nat) (r : DescResult), r.type = 3 ∧ r.error = 5 ∧ exec (.dmaResponseError list desc beat) s = .next
      (let s4 := ((s.passTo j.engine limit).lateTold j line r).lateMarked j r (!bit d.flags 1) lost
        if (!bit d.flags 1) then (s4.haltChannel j.engine j.channel).haltBehind j.engine j.channel else s4) := by
  refine ⟨(j.slots.reverse[l.beatsBefore desc.toNat + beat.toNat]?).getD 0 + descLatency d, min 32 (d.length - 32 * beat.toNat),
    ⟨3, eResponse, 2 * b2n (bit d.flags 1) + (if bit d.flags 1 then 0 else 4), list.toNat * 65536 + desc.toNat,
      d.length - min 32 (d.length - 32 * beat.toNat),
      relocated (if j.lane.isSome then j.relocate else 0) d.dst + 32 * beat.toNat⟩, rfl, rfl, ?_⟩
  obtain ⟨hpass, hjob⟩ := job_engineTo (id := j.id)
    (limit := (j.slots.reverse[l.beatsBefore desc.toNat + beat.toNat]?).getD 0 + descLatency d) hover
  simp only [exec, execDmaResponseError, hopen, hl, hj, hd, if_neg (Nat.not_le.2 hbeat), hjob, Option.getD_some]
  rw [hpass]
  refine congrArg Host.Outcome.next ?_
  cases hc : bit d.flags 1 with
  | true => rfl
  | false => rfl

/-! ### The scrubber of the Store (R467, R529) -/

/-- The length of a pass is reported. -/
def State.passReported (s : State) (ticks : Option (BitVec 32)) : State :=
  match ticks with
  | some n => s.setNum Obj.scrubPassTicks n.toNat
  | none => s

/-- The length of a pass is reported, and what it corrected is counted. -/
def State.storeScrubbed (s : State) (ticks : Option (BitVec 32)) (corrected : BitVec 32) : State :=
  (s.passReported ticks).count Obj.storeCorrected corrected.toNat

/-- An uncorrectable error is counted, with its address. -/
def State.storeFaultCounted (s : State) (a : BitVec 32) : State := (s.count Obj.storeUncorrectable).setNum Obj.storeLastFault a.toNat

/-- The address that has failed is remembered; one that failed before the last reset of level W takes the station to HOLD. -/
def State.storeFaultJudged (s : State) (again : Bool) (a : BitVec 32) : State :=
  if again then s.goHold (holdCauseCode .storeUncorrectable) else { s with storeFault := some (a.toNat, false) }

section

variable (s : State) (ticks : Option (BitVec 32)) (corrected a syndrome : BitVec 32)

theorem passReported_effect : (s.passReported ticks).num Obj.scrubPassTicks = (match ticks with | some n => n.toNat | none => s.num Obj.scrubPassTicks) ∧
    s.SameObjects (s.passReported ticks) [Obj.scrubPassTicks] ∧ s.passReported ticks = { s with dict := (s.passReported ticks).dict } := by
  cases ticks with
  | none => exact ⟨rfl, fun _ _ => rfl, rfl⟩
  | some n => exact ⟨num_setNum_word s (by decide) n, sameObjects_setNum s _ (List.mem_singleton.2 rfl), rfl⟩

theorem storeScrubbed_effect : (s.storeScrubbed ticks corrected).num Obj.scrubPassTicks =
      (match ticks with | some n => n.toNat | none => s.num Obj.scrubPassTicks) ∧
    (s.storeScrubbed ticks corrected).num Obj.storeCorrected = s.counted Obj.storeCorrected corrected.toNat ∧
    (s.storeScrubbed ticks corrected).num Obj.storeUncorrectable = s.num Obj.storeUncorrectable ∧
    s.tally.Extends (s.storeScrubbed ticks corrected).tally ∧
    s.storeScrubbed ticks corrected = { s with dict := (s.storeScrubbed ticks corrected).dict, tally := (s.storeScrubbed ticks corrected).tally } := by
  unfold State.storeScrubbed
  obtain ⟨hticks, hsame, hrest⟩ := passReported_effect s ticks
  generalize s.passReported ticks = u at *
  refine ⟨?_, ?_, ?_, ?_, ?_⟩
  · rw [num_congr (count_obj _ _ (by decide) (by decide) (by decide)), hticks]
  · rw [count_num _ _ (by decide) (by decide)]
    unfold State.counted
    rw [num_congr (hsame _ (by decide))]
  · rw [num_congr (count_obj _ _ (by decide) (by decide) (by decide)), num_congr (hsame _ (by decide))]
  · rw [show s.tally = u.tally by rw [hrest]]
    exact count_extends ..
  · rw [count_rest, hrest]

theorem scrubPass_off (h : s.mode = .off ∨ s.mode = .layup) (bad : Option (BitVec 32 × BitVec 32)) :
    exec (.scrubPass ticks corrected bad) s = .next s := by
  obtain h | h := h <;> simp [exec, execScrubPass, h]

section

variable {s} (hoff : s.mode ≠ .off) (hlayup : s.mode ≠ .layup)

include hoff hlayup

theorem scrubPass_clean : exec (.scrubPass ticks corrected none) s = .next (s.storeScrubbed ticks corrected) := by
  simp only [exec, execScrubPass, hoff, hlayup, decide_false, Bool.or_self, Bool.false_eq_true, if_false]
  rfl

theorem scrubPass_fault : exec (.scrubPass ticks corrected (some (a, syndrome))) s = .next
    ((((s.storeScrubbed ticks corrected).storeFaultCounted a).storeFaultJudged
      (decide (s.storeFault = some (a.toNat, true)) && decide (s.mode ≠ .hold)) a).dieFault .storeEcc 0xFF a.toNat syndrome.toNat) := by
  simp only [exec, execScrubPass, hoff, hlayup, decide_false, Bool.or_self, Bool.false_eq_true, if_false]
  rfl

end

theorem storeFaultCounted_effect : (s.storeFaultCounted a).num Obj.storeLastFault = a.toNat ∧
    (s.storeFaultCounted a).num Obj.storeUncorrectable = s.counted Obj.storeUncorrectable 1 ∧ s.tally.Extends (s.storeFaultCounted a).tally ∧
    s.storeFaultCounted a = { s with dict := (s.storeFaultCounted a).dict, tally := (s.storeFaultCounted a).tally } := by
  unfold State.storeFaultCounted
  refine ⟨num_setNum_word _ (by decide) a, ?_, count_extends s _ 1, ?_⟩
  · rw [num_setNum_ne _ _ (by decide), count_num _ _ (by decide) (by decide)]
  · have h := count_rest s Obj.storeUncorrectable 1
    generalize s.count Obj.storeUncorrectable = u at h ⊢
    rw [h]
    rfl

variable (again : Bool)

theorem storeFaultJudged_remains : s.Remains (s.storeFaultJudged again a) holdEntryObjects :=
  .ite (remains_goHold ..) (remains_of_frame rfl rfl rfl)

theorem storeFaultJudged_again : s.storeFaultJudged true a = s.goHold 2 := rfl

theorem storeFaultJudged_first : s.storeFaultJudged false a = { s with storeFault := some (a.toNat, false) } := rfl

theorem low32_word (v : BitVec 32) : low32 v.toNat = v.toNat := Nat.mod_eq_of_lt v.isLt

theorem sourceLevel_canary (m : Mode) (asked asked' : ResetLevel) (canvas canvas' : Bool) :
    sourceLevel .canary m asked canvas = sourceLevel .canary m asked' canvas' := by
  cases m <;> rfl

variable {s}

theorem assertSource_canary_first {l : ResetLevel} (hl : sourceLevel .canary s.mode .s false = some l) (h : ∀ e ∈ s.rst.asserted, e.1 ≠ .canary) :
    (ResetSource.canary, l) ∈ (s.assertSource .canary .s).rst.asserted := by
  have hfind : (s.rst.asserted.find? fun e => e.1 == ResetSource.canary) = none :=
    List.find?_eq_none.2 fun e he => by simpa using h e he
  unfold State.assertSource
  rw [sourceLevel_canary _ _ .s _ false, hl]
  dsimp only [State.assertAt]
  rw [hfind]
  exact List.mem_append_right _ (List.mem_singleton.2 rfl)

/-- A die fault that no Canary stands for yet asserts it at the level of the state (R410). -/
theorem dieFault_asserts {check : TickCheck} {unit want got : Nat} {l : ResetLevel} (hl : sourceLevel .canary s.mode .s false = some l)
    (h : ∀ e ∈ s.rst.asserted, e.1 ≠ .canary) : (ResetSource.canary, l) ∈ (s.dieFault check unit want got).rst.asserted := by
  rw [dieFault_eq]
  exact assertSource_canary_first (by rw [logTally_rest]; exact hl) (by rw [logTally_rest]; exact h)

theorem dieFault_num (s : State) (check : TickCheck) (unit want got : Nat) {q : Nat} (h : q ∉ tallyObjects) :
    (s.dieFault check unit want got).num q = s.num q := num_congr ((dieFault_discards s check unit want got).objects q h)

theorem dieFault_storeFault (s : State) (check : TickCheck) (unit want got : Nat) : (s.dieFault check unit want got).storeFault = s.storeFault := by
  rw [(dieFault_discards s check unit want got).whole.2]

/-- What a pass of the Store's scrubber does that meets an uncorrectable error. -/
theorem scrubPass_fault_effect (hoff : s.mode ≠ .off) (hlayup : s.mode ≠ .layup) :
    ∃ t, exec (.scrubPass ticks corrected (some (a, syndrome))) s = .next t ∧ t.num Obj.storeLastFault = a.toNat ∧
      t.num Obj.storeUncorrectable = s.counted Obj.storeUncorrectable 1 ∧ t.eng.discard = true ∧
      s.Wrote t 0x0301 [9 + 0xFF * 256 + tickIndex s.tick * 65536, a.toNat, syndrome.toNat, low32 s.tick] ∧
      (s.mode ≠ .hold → s.storeFault = some (a.toNat, true) → t.mode = .hold ∧ t.num Obj.holdCause = 2) ∧
      (s.storeFault ≠ some (a.toNat, true) → t.mode = s.mode ∧ t.storeFault = some (a.toNat, false) ∧
        ∀ l, sourceLevel .canary s.mode .s false = some l → (∀ e ∈ s.rst.asserted, e.1 ≠ .canary) → (.canary, l) ∈ t.rst.asserted) := by
  refine ⟨_, scrubPass_fault ticks corrected a syndrome hoff hlayup, ?_⟩
  obtain ⟨again, hagain⟩ : ∃ b, b = (decide (s.storeFault = some (a.toNat, true)) && decide (s.mode ≠ .hold)) := ⟨_, rfl⟩
  rw [← hagain]
  obtain ⟨-, -, hbad1, hext1, hrest1⟩ := storeScrubbed_effect s ticks corrected
  generalize s.storeScrubbed ticks corrected = u1 at *
  obtain ⟨hlast2, hbad2, hext2, hrest2⟩ := storeFaultCounted_effect u1 a
  generalize u1.storeFaultCounted a = u2 at *
  have hframe : u2.mode = s.mode ∧ u2.tick = s.tick ∧ u2.rst = s.rst := by rw [hrest2, hrest1]; exact ⟨rfl, rfl, rfl⟩
  obtain ⟨hmode, htick, hrst⟩ := hframe
  clear hrest1 hrest2
  have hremains := storeFaultJudged_remains u2 a again
  refine ⟨?_, ?_, (dieFault_discards ..).whole.1, ?_, fun hhold hfault => ?_, fun hfault => ?_⟩
  · rw [dieFault_num _ _ _ _ _ (by decide), hremains.num (by decide), hlast2]
  · rw [dieFault_num _ _ _ _ _ (by decide), hremains.num (by decide), hbad2]
    unfold State.counted
    rw [hbad1]
  · have hw := dieFault_wrote (u2.storeFaultJudged again a) .storeEcc 0xFF a.toNat syndrome.toNat (fs := []) (by simp)
    rw [hremains.tick, htick, low32_word, low32_word] at hw
    exact wrote_of_extends (TallyLog.extends_trans (TallyLog.extends_trans hext1 hext2) hremains.tally) hw
  · have htrue : again = true := by simp [hagain, hfault, hhold]
    rw [htrue, storeFaultJudged_again, dieFault_num _ _ _ _ _ (by decide)]
    obtain ⟨hm, hcause, -⟩ := goHold_effect u2 2
    exact ⟨(State.dieFault_mode_keys ..).1.trans hm, hcause⟩
  · have hfalse : again = false := by simp [hagain, hfault]
    rw [hfalse, storeFaultJudged_first, dieFault_storeFault]
    exact ⟨(State.dieFault_mode_keys ..).1.trans hmode, rfl, fun l hl hno => dieFault_asserts (hmode ▸ hl) (hrst ▸ hno)⟩

end

end Sys2Proof.Machine
end

section

open Sys2Proof Sys2Proof.Machine

/-- Settles O58: a list with nothing to move completes; behind a late error every list of the engine is over; the scrubbers and the feeds only count, and
an uncorrectable error is a Canary die fault. -/
theorem dmaCompletionAndReports : Obligations.DmaCompletionAndReports := by
  refine ⟨fun s list => ⟨dmaListComplete_none, fun j hf hj hend hland => ?_, fun desc beat => ⟨dmaResponseError_closed beat,
    fun line l j d hopen hj hl hd hbeat hover => ?_⟩⟩, fun s line beats found bad last => ⟨fun hfree => ?_, fun b => deviceRequest_reserved,
    dramScrubPass_effect s found bad last⟩, fun s ticks corrected a syndrome => ⟨fun hoff => ?_, fun hoff => ?_, scrubPass_off s ticks corrected,
    fun hoff hlayup => ⟨⟨_, scrubPass_clean ticks corrected hoff hlayup, ?_⟩, scrubPass_fault_effect ticks corrected a syndrome hoff hlayup⟩⟩⟩
  · have hrun : State.runEngine j.engine 200000 (fun s => (s.job? j.id).any DmaJob.over) (s.beatsLeft j.engine) s = s := by
      obtain ho | ⟨hnone, -⟩ := hend
      · exact runEngine_stopped (by rw [hj]; exact ho) _
      · exact runEngine_idle (by simp [hnone]) _
    exact ⟨_, dmaListComplete_ends hf hrun hj (hend.imp_right And.right), listEnded_effect hland⟩
  · obtain ⟨limit, lost, r, htype, herror, hexec⟩ := dmaResponseError_effect hopen hj hl hd hbeat hover
    have hpass := passTo_rest s j.engine limit
    obtain ⟨hcount, hread, hhalts, hgoes, hstore, hlanes, hrest⟩ := lateError_effect (s.passTo j.engine limit) (j := j) (line := line)
      (by rw [hpass]; exact hover) (job_over hover hj) htype herror rfl
    refine ⟨_, hexec, ?_⟩
    generalize (let s4 := ((s.passTo j.engine limit).lateTold j line r).lateMarked j r (!bit d.flags 1) lost
        if (!bit d.flags 1) then (s4.haltChannel j.engine j.channel).haltBehind j.engine j.channel else s4) = t at *
    generalize s.passTo j.engine limit = u at *
    refine ⟨?_, hread, fun hb => hhalts (by simp [hb]), fun hb => ?_, fun a ha => ?_, fun hl => ?_, ?_⟩
    · exact hcount.trans (counted_of_dict (by rw [hpass]) _ _)
    · rw [hgoes (by simp [hb]), hpass]
    · rw [hstore a ha, hpass]
    · rw [hlanes hl, hpass]
    · rw [hrest, hpass]
  · obtain ⟨hwith, hput, hgated⟩ := deviceRequest_free (beats := beats) hfree
    exact ⟨hwith, hput, fun hg => ⟨_, hgated hg, count_num s 1 (by decide) (by decide), count_rest ..⟩⟩
  · simp only [exec, execFeedLoss, hoff, if_true]
  · refine ⟨s.count Obj.feedLosses, ?_, count_num s 1 (by decide) (by decide), count_rest ..⟩
    simp only [exec, execFeedLoss, if_neg hoff]
  · obtain ⟨hticks, hcorrected, -, -, hrest⟩ := storeScrubbed_effect s ticks corrected
    exact ⟨hticks, hcorrected, hrest⟩

end

section

namespace Sys2Proof.Machine

/-! ### A list starts (R447, R459, R464) -/

section

variable {s : State} {list : BitVec 16} {faults : List DmaFault} {l : DmaList}

theorem dmaListStart_unknown (h : s.lists[list.toNat]? = none) : exec (.dmaListStart list faults) s = .next s := by
  simp only [exec, execDmaListStart, h]

theorem dmaListStart_stopped (h : s.executes = false) : exec (.dmaListStart list faults) s = .next s := by
  simp only [exec, execDmaListStart, h, Bool.not_false, Bool.true_or, if_true]
  split <;> rfl

section

variable (hl : s.lists[list.toNat]? = some l)

include hl

theorem dmaListStart_gated (h : bit s.eng.gates (9 + l.engine) = false) : exec (.dmaListStart list faults) s = .next s := by
  simp only [exec, execDmaListStart, hl, h, Bool.not_false, Bool.or_true, if_true]

/-- A staging list of a tick whose staging is discarded (R133, R197), and a scheduled list that is not due, start nothing. -/
theorem dmaListStart_undue (ht : l.trigger ≠ 0) (h : (l.trigger = 2 ∧ s.eng.discard = true) ∨ s.scheduledNow l = false) :
    exec (.dmaListStart list faults) s = .next s := by
  simp only [exec, execDmaListStart, hl, if_neg ht]
  refine congrArg Host.Outcome.next ?_
  split
  · rfl
  · obtain ⟨h2, hd⟩ | hn := h
    · simp only [h2, hd, decide_true, Bool.and_self, if_true]
    · simp only [hn, Bool.false_eq_true, if_false, ite_self]

variable (he : s.executes = true) (hg : bit s.eng.gates (9 + l.engine) = true)

include he hg

section

variable (hn : s.scheduledNow l = true) (hd : l.trigger = 2 → s.eng.discard = false) {r : Nat × Nat}
  (hr : (s.engineSlots l.engine (triggerKind l.trigger)).head? = some r)

include hn hd hr

theorem dmaListStart_scheduled : exec (.dmaListStart list faults) s = .next
    (if s.isHalted l.engine l.channel then (s.addJob { s.newJob l none 0 r.1 faults with complete := true }).discardList (s.newJob l none 0 r.1 faults)
      else (s.addJob (s.newJob l none 0 r.1 faults)).engineTo l.engine r.1) := by
  have ht : l.trigger ≠ 0 := fun h => by simp [State.scheduledNow, h] at hn
  have hstage : (decide (l.trigger = 2) && s.eng.discard) = false := by
    by_cases h : l.trigger = 2
    · simp [hd h]
    · simp [h]
  simp only [exec, execDmaListStart, hl, he, hg, if_neg ht, hstage, hn, hr, Bool.not_true, Bool.or_self, Bool.false_eq_true, if_false, if_true]

/-- A scheduled list on an engine that has nothing else to move takes the last place. -/
theorem dmaListStart_runs (hh : s.isHalted l.engine l.channel = false) (hover : ∀ x ∈ s.eng.jobs, x.engine = l.engine → x.over = true) :
    ∃ t, exec (.dmaListStart list faults) s = .next t ∧ t.eng.jobs = s.eng.jobs ++ [s.newJob l none 0 r.1 faults] ∧
      t = { s with eng := { s.eng with jobs := t.eng.jobs, jobCount := s.eng.jobCount + 1, passed := t.eng.passed, hostBurst := t.eng.hostBurst } } := by
  refine ⟨_, (dmaListStart_scheduled hl he hg hn hd hr).trans (congrArg Host.Outcome.next (if_neg (by simp [hh]))), ?_⟩
  have hjobs : (s.addJob (s.newJob l none 0 r.1 faults)).eng.jobs = s.eng.jobs ++ [s.newJob l none 0 r.1 faults] := addJob_last s _ hover
  have hrest := addJob_rest s (s.newJob l none 0 r.1 faults)
  generalize s.addJob (s.newJob l none 0 r.1 faults) = u at *
  have hidle : u.engineTo l.engine r.1 = u.passTo l.engine r.1 := by
    refine engineTo_idle fun x hx hxe => ?_
    rw [hjobs] at hx
    obtain hx | hx := List.mem_append.1 hx
    · exact .inl (hover x hx hxe)
    · exact .inr (List.mem_singleton.1 hx ▸ Nat.le_refl r.1)
  have hpass := passTo_rest u l.engine r.1
  rw [hidle]
  generalize u.passTo l.engine r.1 = t at *
  refine ⟨?_, ?_⟩
  · rw [hpass]
    exact hjobs
  · rw [hpass, hrest]

/-- On a halted channel it is discarded. -/
theorem dmaListStart_discarded (hh : s.isHalted l.engine l.channel = true) : ∃ t, exec (.dmaListStart list faults) s = .next t ∧
    t.num Obj.dmaListsDiscarded = s.counted Obj.dmaListsDiscarded 1 ∧
    (∃ j ∈ t.eng.jobs, j.id = s.eng.jobCount ∧ j.list = l.list ∧ j.complete = true) ∧
    t = { s with dict := t.dict, tally := t.tally, eng := { s.eng with jobs := t.eng.jobs, jobCount := s.eng.jobCount + 1 } } := by
  refine ⟨_, (dmaListStart_scheduled hl he hg hn hd hr).trans (congrArg Host.Outcome.next (if_pos hh)), ?_⟩
  have hmem := mem_addJob s { s.newJob l none 0 r.1 faults with complete := true }
  have hrest := addJob_rest s { s.newJob l none 0 r.1 faults with complete := true }
  generalize s.addJob _ = u at *
  obtain ⟨hnum, hjobs, -, hlanes, hdiscard⟩ := discardList_effect u (s.newJob l none 0 r.1 faults)
  specialize hlanes rfl
  have hkept : u.dict = s.dict := by rw [hrest]
  rw [← hjobs] at hmem
  generalize u.discardList _ = t at *
  refine ⟨hnum.trans (counted_of_dict hkept _ _), ⟨_, hmem, rfl, rfl, rfl⟩, ?_⟩
  rw [hdiscard, hlanes, hrest]

end

/-! #### A lane's list -/

variable (h0 : l.trigger = 0) {j : DmaJob}
  (hf : s.eng.jobs.find? (fun j => decide (j.list = l.list) && !j.started && j.lane.isSome) = some j)

include h0 hf

theorem dmaListStart_issued : exec (.dmaListStart list faults) s = .next
    (if s.isHalted j.engine j.channel then (s.setJob { j with started := true, complete := true }).discardList j
      else (s.setJob { j with started := true, faults := faults }).engineTo j.engine j.start) := by
  simp only [exec, execDmaListStart, hl, he, hg, if_pos h0, hf, Bool.not_true, Bool.or_self, Bool.false_eq_true, if_false]

/-- The oldest issue of a lane's list starts. -/
theorem dmaListStart_issued_runs (hh : s.isHalted j.engine j.channel = false)
    (hquiet : ∀ x ∈ s.eng.jobs, x.engine = j.engine → x.over = true ∨ x.id = j.id) : ∃ t, exec (.dmaListStart list faults) s = .next t ∧
      t.eng.jobs = s.eng.jobs.map (fun x => if x.id = j.id then { j with started := true, faults := faults } else x) ∧
      t = { s with eng := { s.eng with jobs := t.eng.jobs, passed := t.eng.passed, hostBurst := t.eng.hostBurst } } := by
  refine ⟨_, (dmaListStart_issued hl he hg h0 hf).trans (congrArg Host.Outcome.next (if_neg (by simp [hh]))), ?_⟩
  obtain ⟨u, hu⟩ : ∃ u : State, u = s.setJob { j with started := true, faults := faults } := ⟨_, rfl⟩
  have hjobs : u.eng.jobs = s.eng.jobs.map fun x => if x.id = j.id then { j with started := true, faults := faults } else x := by rw [hu]; rfl
  have hrest : u = { s with eng := { s.eng with jobs := u.eng.jobs } } := by rw [hu]; rfl
  rw [← hu]
  clear hu
  have hidle : u.engineTo j.engine j.start = u.passTo j.engine j.start := by
    refine engineTo_idle fun x hx hxe => ?_
    rw [hjobs] at hx
    obtain ⟨y, hy, rfl⟩ := List.mem_map.1 hx
    by_cases hid : y.id = j.id
    · rw [if_pos hid]
      exact .inr (Nat.le_refl _)
    · rw [if_neg hid] at hxe ⊢
      exact .inl ((hquiet y hy hxe).resolve_right hid)
  have hpass := passTo_rest u j.engine j.start
  rw [hidle]
  generalize u.passTo j.engine j.start = t at *
  refine ⟨?_, ?_⟩
  · rw [hpass]
    exact hjobs
  · rw [hpass, hrest]

/-- On a halted channel it is discarded, and its tag completes with HALTED. -/
theorem dmaListStart_issued_discarded (hh : s.isHalted j.engine j.channel = true) : ∃ t, exec (.dmaListStart list faults) s = .next t ∧
    t.num Obj.dmaListsDiscarded = s.counted Obj.dmaListsDiscarded 1 ∧
    t.eng.jobs = s.eng.jobs.map (fun x => if x.id = j.id then { j with started := true, complete := true } else x) ∧
    (∀ (x : Fin 4) (k : Fin 32), j.lane = some (x.val, k.val) → t.eng.lanes[x].tags[k] = s.eng.lanes[x].tags[k].complete 6 0 0) ∧
    t = { s with dict := t.dict, tally := t.tally, eng := { s.eng with jobs := t.eng.jobs, lanes := t.eng.lanes } } := by
  refine ⟨_, (dmaListStart_issued hl he hg h0 hf).trans (congrArg Host.Outcome.next (if_pos hh)), ?_⟩
  obtain ⟨hnum, hjobs, htags, -, hdiscard⟩ := discardList_effect (s.setJob { j with started := true, complete := true }) j
  refine ⟨hnum, hjobs, htags, ?_⟩
  generalize State.discardList _ j = t at *
  rw [hdiscard]
  rfl

end

end

end Sys2Proof.Machine
end

section

namespace Sys2Proof.Machine

/-! ### A write beat (R456, R460) -/

section

variable (s : State)

theorem noteScratch_rest (a n : Nat) : s.noteScratch a n = { s with eng := { s.eng with scratch := (s.noteScratch a n).eng.scratch } } := rfl

theorem dmaRead_length (a n : Nat) : (s.dmaRead a n).length = n := by
  unfold State.dmaRead
  dsimp only
  split
  · simp [State.storeRead]
  · split <;> exact mem_read_length ..

variable (j : DmaJob) (b : Nat) (bs : Bytes)

/-- A write beat of a list's own moves the memory of its address, and of the engines the undo area and what is noted of the state area. -/
theorem dmaWrite_rest : s.dmaWrite j.lane.isSome false b bs = { s with
    store := (s.dmaWrite j.lane.isSome false b bs).store, dram := (s.dmaWrite j.lane.isSome false b bs).dram
    window := (s.dmaWrite j.lane.isSome false b bs).window
    eng := { s.eng with undo := (s.dmaWrite j.lane.isSome false b bs).eng.undo, scratch := (s.dmaWrite j.lane.isSome false b bs).eng.scratch } } := by
  unfold State.dmaWrite
  dsimp only
  split
  · rw [noteScratch_rest]
    have h := putBy_rest s j (b % 2 ^ 28) bs
    unfold State.putBy at h
    rw [h]
  · split
    · rfl
    · split <;> rfl

theorem dmaWrite_store (h : dmaSpace b = 0) : (s.dmaWrite j.lane.isSome false b bs).store = Mem.write s.store (b % 2 ^ 28) bs := by
  unfold State.dmaWrite
  dsimp only
  rw [if_pos h, noteScratch_rest]
  have hput := putBy_rest s j (b % 2 ^ 28) bs
  unfold State.putBy at hput
  rw [hput]

theorem dmaWrite_window (h : dmaSpace b = 1) : (s.dmaWrite j.lane.isSome false b bs).window = Mem.write s.window (b % 2 ^ 28) bs := by
  simp [State.dmaWrite, h]

theorem dmaWrite_dram (h : dmaSpace b = 2) : (s.dmaWrite j.lane.isSome false b bs).dram = Mem.write s.dram (b % 2 ^ 28) bs := by
  simp [State.dmaWrite, h]

end

/-! ### The last beat of a list (R460, R461, R463) -/

/-- The record DONE of a list's descriptor `d`. -/
def DmaJob.doneRecord (j : DmaJob) (d : Descriptor) : DescResult :=
  ⟨1, 0, b2n (bit d.flags 0) + 2 * b2n (bit d.flags 1), j.list * 65536 + j.results.length, d.length, 0⟩

/-- The record ERR of a list's descriptor `d` that ends at the present beat and halts its channel. -/
def DmaJob.errRecord (j : DmaJob) (d : Descriptor) (e f : Nat) : DescResult :=
  ⟨2, e, b2n (bit d.flags 0) + 4, j.list * 65536 + j.results.length, 32 * j.beat, f⟩

/-- The list behind its last descriptor, with its record. -/
def DmaJob.ended (j : DmaJob) (slot : Nat) (r : DescResult) (halted : Bool) : DmaJob :=
  { j with left := [], beat := 0, slots := slot :: j.slots, results := j.results ++ [r], halted := halted }

/-- A channel goes on from slot `n`. -/
def State.channelFree (s : State) (j : DmaJob) (n : Nat) : State :=
  { s with eng := { s.eng with chanFree := Assoc.set s.eng.chanFree (j.engine * 8 + j.channel) n } }

section

variable {s : State} {j : DmaJob} {d : Descriptor} {slot : Nat}

theorem endDesc_done (hleft : j.left = [d]) (hfaults : j.faults = []) (beat : Nat) : ∃ n,
    s.endDesc { j with beat := beat, slots := slot :: j.slots } d slot none = (s.channelFree j n).setJob (j.ended slot (j.doneRecord d) false) := by
  refine ⟨if bit d.flags 0 then slot + descLatency d + 1 else slot + 1, ?_⟩
  unfold State.endDesc
  simp only [hleft, hfaults, List.filter_nil, List.map_nil, List.isEmpty_nil, Bool.not_true, Bool.and_false, Bool.false_eq_true, if_false,
    Option.isSome_none, Bool.false_and, List.length_singleton, Nat.le_refl, decide_true, Bool.or_true, if_true, List.tail_cons]
  unfold DmaJob.ended DmaJob.doneRecord State.channelFree
  rw [hfaults]
  cases bit d.flags 0 <;> rfl

theorem endDesc_failed (hleft : j.left = [d]) (hcont : bit d.flags 1 = false) (e f : Nat) : ∃ n,
    s.endDesc { j with slots := slot :: j.slots } d slot (some (e, f)) = ((s.channelFree j n).setJob (j.ended slot (j.errRecord d e f) true)).descFailed
      { j with slots := slot :: j.slots } (j.list * 65536 + j.results.length) e f true := by
  refine ⟨if bit d.flags 0 then slot + descLatency d + 1 else slot + 1, ?_⟩
  unfold State.endDesc
  simp only [hleft, hcont, Bool.not_false, Bool.and_true, Option.isSome_some, Bool.true_or, if_true, List.tail_cons]
  unfold DmaJob.ended DmaJob.errRecord State.channelFree
  cases bit d.flags 0 <;> rfl

theorem passTo_alike (e n : Nat) : (∀ trigger a b ecc, (s.passTo e n).beatError trigger a b ecc = s.beatError trigger a b ecc) ∧
    (∀ a k, (s.passTo e n).dmaRead a k = s.dmaRead a k) ∧ (∀ l, (s.passTo e n).stagingHeld l = s.stagingHeld l) ∧
    ∀ a b, (s.passTo e n).standbyWeft a b = s.standbyWeft a b := by
  rw [passTo_rest]
  exact ⟨fun _ _ _ _ => rfl, fun _ _ => rfl, fun _ => rfl, fun _ _ => rfl⟩

variable (hleft : j.left = [d]) (hfaults : j.faults = []) (hland : s.eng.landing = [])

include hleft hfaults hland

/-- The last beat of a list's last descriptor copies its bytes, and leaves DONE. -/
theorem beat_done {rel a b : Nat} (hrel : rel = if j.lane.isSome then j.relocate else 0) (ha : a = relocated rel d.src + 32 * j.beat)
    (hb : b = relocated rel d.dst + 32 * j.beat) (herr : s.beatError j.trigger a b false = none) (hlast : j.beat + 1 = beatsOf d)
    (hsrc : dmaSpace a ≠ 2) (hweft : s.standbyWeft a b = false) (hheld : s.stagingHeld j.list = false) :
    ∃ n, s.beat slot j = ((((s.passTo j.engine (slot + 1)).dmaWrite j.lane.isSome false b (s.dmaRead a (min 32 (d.length - 32 * j.beat)))).channelFree j n).setJob
      (j.ended slot (j.doneRecord d) false)) := by
  obtain ⟨perr, pread, pheld, pweft⟩ := passTo_alike (s := s) j.engine (slot + 1)
  have hl := land_none (s := s) (due := fun x => decide (x.engine = j.engine) && decide (x.slot ≤ slot)) (by simp [hland])
  obtain ⟨n, hn⟩ := endDesc_done (slot := slot) hleft hfaults (j.beat + 1)
    (s := (s.passTo j.engine (slot + 1)).dmaWrite j.lane.isSome false b (s.dmaRead a (min 32 (d.length - 32 * j.beat))))
  refine ⟨n, Eq.trans ?_ hn⟩
  unfold State.beat
  simp only [hleft, hl, hfaults, List.any_nil, Bool.false_and, Bool.false_eq_true, if_false, ← hrel, ← ha, ← hb, perr, herr, pread, pheld, pweft,
    hweft, hheld, if_neg hsrc, if_pos (Nat.le_of_eq hlast.symm)]

/-- A beat that fails moves nothing, and leaves ERR. -/
theorem beat_failed {rel a b e f : Nat} (hrel : rel = if j.lane.isSome then j.relocate else 0) (ha : a = relocated rel d.src + 32 * j.beat)
    (hb : b = relocated rel d.dst + 32 * j.beat) (herr : s.beatError j.trigger a b false = some (e, f)) (hcont : bit d.flags 1 = false) :
    ∃ n, s.beat slot j = (((s.passTo j.engine (slot + 1)).channelFree j n).setJob (j.ended slot (j.errRecord d e f) true)).descFailed
      { j with slots := slot :: j.slots } (j.list * 65536 + j.results.length) e f true := by
  obtain ⟨perr, -, -, -⟩ := passTo_alike (s := s) j.engine (slot + 1)
  have hl := land_none (s := s) (due := fun x => decide (x.engine = j.engine) && decide (x.slot ≤ slot)) (by simp [hland])
  obtain ⟨n, hn⟩ := endDesc_failed (slot := slot) hleft hcont e f (s := s.passTo j.engine (slot + 1))
  refine ⟨n, Eq.trans ?_ hn⟩
  unfold State.beat
  simp only [hleft, hl, hfaults, List.any_nil, Bool.false_and, Bool.false_eq_true, if_false, ← hrel, ← ha, ← hb, perr, herr]

end

/-! ### One beat is all that an engine moves -/

section

variable {s : State} {j : DmaJob} {d : Descriptor} {e : Nat}

theorem le_foldl_beats (ds : List Descriptor) (n : Nat) : n ≤ ds.foldl (fun n d => n + beatsOf d) n := by
  induction ds generalizing n with
  | nil => exact Nat.le_refl n
  | cons d ds ih => exact Nat.le_trans (Nat.le_add_right ..) (ih _)

theorem beats_le_foldl {ds : List Descriptor} (h : d ∈ ds) : ∀ n : Nat, n + beatsOf d ≤ ds.foldl (fun n d => n + beatsOf d) n := by
  induction ds with
  | nil => exact absurd h (by simp)
  | cons x ds ih =>
    intro n
    obtain rfl | h := List.mem_cons.1 h
    · exact le_foldl_beats ds _
    · exact Nat.le_trans (Nat.add_le_add_right (Nat.le_add_right ..) _) (ih h _)

theorem beatsLeft_pos (hj : j ∈ s.eng.jobs) (he : j.engine = e) (hd : d ∈ j.left) (hbeats : 0 < beatsOf d) : 0 < s.beatsLeft e := by
  refine Nat.lt_of_lt_of_le hbeats (Nat.le_trans (Nat.le_add_left ..) (beats_le_foldl ?_ 0))
  exact List.mem_flatMap.2 ⟨j, List.mem_filter.2 ⟨hj, by simpa using he⟩, hd⟩

theorem runEngine_once {limit slot n : Nat} {stop : State → Bool} (hn : 0 < n) (hs : stop s = false) (hb : s.nextBeat e = some (slot, j))
    (hlt : slot < limit) (hstop : stop (s.beat slot j) = true) : State.runEngine e limit stop n s = s.beat slot j := by
  obtain ⟨m, rfl⟩ := Nat.exists_eq_succ_of_ne_zero (Nat.ne_of_gt hn)
  unfold State.runEngine
  simp only [hs, hb, Bool.false_eq_true, if_false, if_pos hlt]
  exact runEngine_stopped hstop m

/-- A list of which one beat is left completes with what this beat leaves of it. -/
theorem dmaListComplete_lastBeat {list : BitVec 16} {slot : Nat} {j' : DmaJob}
    (hf : s.eng.jobs.find? (fun j => decide (j.list = list.toNat) && j.started && !j.complete) = some j) (hj : s.job? j.id = some j)
    (hleft : j.left = [d]) (hbeat : j.beat < beatsOf d) (hb : s.nextBeat j.engine = some (slot, j)) (hlt : slot < 200000)
    (hj' : (s.beat slot j).job? j.id = some j') (hover : j'.over = true) : exec (.dmaListComplete list) s = .next ((s.beat slot j).listEnded j') := by
  obtain ⟨hmem, -, hnot, -, -⟩ := nextBeat_head hb
  refine dmaListComplete_ends hf (runEngine_once (beatsLeft_pos (d := d) hmem rfl (by simp [hleft]) (by omega)) ?_ hb hlt ?_) hj' (.inl hover)
  · rw [hj]
    exact hnot
  · rw [hj']
    exact hover

end

end Sys2Proof.Machine
end

section

namespace Sys2Proof.Machine

/-! ### A channel halts behind an error (R464, R465) -/

/-- Between `s` and `t` lists other than `id` came to their end behind a halt: they were counted, and their tags told. -/
structure State.EndsOthers (s t : State) (id : Nat) : Prop where
  job : t.job? id = s.job? id
  objects : s.SameObjects t ([Obj.dmaListsDiscarded, overflowAddr Obj.dmaListsDiscarded] ++ tallyObjects)
  issued : t.tally.issued = s.tally.issued
  rest : t = { s with dict := t.dict, tally := t.tally, eng := { s.eng with jobs := t.eng.jobs, lanes := t.eng.lanes } }

section

variable {s t u : State} {id : Nat}

theorem State.EndsOthers.refl (s : State) (id : Nat) : s.EndsOthers s id := ⟨rfl, fun _ _ => rfl, rfl, rfl⟩

theorem State.EndsOthers.trans (h : s.EndsOthers t id) (k : t.EndsOthers u id) : s.EndsOthers u id :=
  ⟨k.job.trans h.job, h.objects.trans k.objects, k.issued.trans h.issued, by rw [k.rest, h.rest]⟩

theorem endsOthers_setJob {j : DmaJob} (h : id ≠ j.id) : s.EndsOthers (s.setJob j) id :=
  ⟨job_setJob_ne s j h, fun _ _ => rfl, rfl, rfl⟩

theorem endsOthers_mapJobTag (s : State) (j : DmaJob) (f : LaneTag → LaneTag) (id : Nat) : s.EndsOthers (s.mapJobTag j f) id := by
  rw [mapJobTag_rest]
  exact ⟨rfl, fun _ _ => rfl, rfl, rfl⟩

theorem endsOthers_discardList (s : State) (j : DmaJob) (id : Nat) : s.EndsOthers (s.discardList j) id := by
  unfold State.discardList
  refine .trans ⟨?_, sameObjects_count s 1 (by decide) (by decide) (by decide), (count_same s _ 1).2.1, ?_⟩ (endsOthers_mapJobTag ..)
  · unfold State.job?
    rw [State.count_eng]
  · rw [count_rest]

theorem endsOthers_foldl {α : Type} {f : State → α → State} {xs : List α} (h : ∀ (s : State), ∀ x ∈ xs, s.EndsOthers (f s x) id) (s : State) :
    s.EndsOthers (xs.foldl f s) id := by
  induction xs generalizing s with
  | nil => exact .refl s id
  | cons x xs ih => exact (h s x (List.mem_cons_self ..)).trans (ih (fun s y hy => h s y (List.mem_cons_of_mem x hy)) _)

/-- What is behind a halt ends; a list that is over stays as it is. -/
theorem haltBehind_endsOthers {e c : Nat} (h : ∀ x ∈ s.eng.jobs, x.id = id → x.over = true) : s.EndsOthers (s.haltBehind e c) id := by
  unfold State.haltBehind
  refine endsOthers_foldl (fun u x hx => ?_) s
  obtain ⟨hmem, hp⟩ := List.mem_filter.1 hx
  have hid : id ≠ x.id := fun heq => by simp [h x hmem heq.symm] at hp
  split
  · exact (endsOthers_setJob (j := { x with started := true, complete := true }) hid).trans (endsOthers_discardList ..)
  · exact (endsOthers_setJob (j := { x with halted := true }) hid).trans (endsOthers_mapJobTag ..)

end

/-- An error is counted and told, in its list's tag too. -/
def State.errorTold (s : State) (j : DmaJob) (seq e f : Nat) : State :=
  ((s.count Obj.dmaErrors).dmaErrorTally j.engine j.channel seq e f).mapJobTag j fun x => x.noteError e f

section

variable (s : State) {j : DmaJob} {seq e f : Nat}

theorem descFailed_halts (he : e ≠ eEcc) :
    s.descFailed j seq e f true = ((s.errorTold j seq e f).haltChannel j.engine j.channel).haltBehind j.engine j.channel := by
  unfold State.descFailed
  simp only [if_neg he, if_true]
  rfl

theorem errorTold_effect : (s.errorTold j seq e f).num Obj.dmaErrors = s.counted Obj.dmaErrors 1 ∧
    (s.errorTold j seq e f).num Obj.dmaHalts = s.num Obj.dmaHalts ∧
    (∃ r ∈ (s.errorTold j seq e f).tally.issued, r.code = 0x0303 ∧ r.params = [seq, e + j.engine * 256 + j.channel * 1024, f, low32 s.tick]) ∧
    s.errorTold j seq e f = { s with dict := (s.errorTold j seq e f).dict, tally := (s.errorTold j seq e f).tally, eng := { s.eng with
      lanes := (s.errorTold j seq e f).eng.lanes } } := by
  have hrest := count_rest s Obj.dmaErrors 1
  have hnum := count_num s (a := Obj.dmaErrors) 1 (by decide) (by decide)
  have hhalts := num_congr (count_obj s (a := Obj.dmaErrors) (q := Obj.dmaHalts) 1 (by decide) (by decide) (by decide))
  unfold State.errorTold
  generalize s.count Obj.dmaErrors = u at *
  have hmap := mapJobTag_rest (u.dmaErrorTally j.engine j.channel seq e f) j fun x => x.noteError e f
  have hissued : ∃ r ∈ (u.dmaErrorTally j.engine j.channel seq e f).tally.issued,
      r.code = 0x0303 ∧ r.params = [seq, e + j.engine * 256 + j.channel * 1024, f, low32 s.tick] :=
    ⟨_, List.mem_append_right _ (List.mem_singleton.2 rfl), rfl, by rw [hrest]⟩
  have htold : (u.dmaErrorTally j.engine j.channel seq e f).dict = u.dict ∧ u.dmaErrorTally j.engine j.channel seq e f =
      { u with tally := (u.dmaErrorTally j.engine j.channel seq e f).tally } := ⟨rfl, rfl⟩
  obtain ⟨hdict, htold⟩ := htold
  generalize u.dmaErrorTally j.engine j.channel seq e f = v at *
  generalize v.mapJobTag j _ = t at *
  have htd : t.dict = u.dict := by rw [hmap]; exact hdict
  refine ⟨(num_of_dict htd _).trans hnum, (num_of_dict htd _).trans hhalts, ?_, ?_⟩
  · rw [hmap]
    exact hissued
  · rw [hmap, htold, hrest]

/-- An error without CONTINUE_ON_ERROR is counted, told, and halts its channel. -/
theorem descFailed_effect (he : e ≠ eEcc) {id : Nat} (hover : ∀ x ∈ s.eng.jobs, x.id = id → x.over = true) {t : State}
    (ht : t = s.descFailed j seq e f true) :
    t.num Obj.dmaErrors = s.counted Obj.dmaErrors 1 ∧ t.num Obj.dmaHalts = s.counted Obj.dmaHalts 1 ∧ t.isHalted j.engine j.channel = true ∧
      (∃ r ∈ t.tally.issued, r.code = 0x0303 ∧ r.params = [seq, e + j.engine * 256 + j.channel * 1024, f, low32 s.tick]) ∧ t.job? id = s.job? id ∧
      t = { s with dict := t.dict, tally := t.tally, eng := { s.eng with jobs := t.eng.jobs, lanes := t.eng.lanes, halted := t.eng.halted } } := by
  obtain ⟨herrors, hhalts, hissued, hrest⟩ := errorTold_effect s (j := j) (seq := seq) (e := e) (f := f)
  rw [descFailed_halts s he] at ht
  generalize s.errorTold j seq e f = u at *
  have hchan := haltChannel_rest u j.engine j.channel
  have hhalted := isHalted_haltChannel u j.engine j.channel
  have hcount : (u.haltChannel j.engine j.channel).num Obj.dmaHalts = u.counted Obj.dmaHalts 1 := count_num u 1 (by decide) (by decide)
  have hkeeps : (u.haltChannel j.engine j.channel).num Obj.dmaErrors = u.num Obj.dmaErrors := num_haltChannel u (by decide) (by decide) (by decide)
  have hsame : (u.haltChannel j.engine j.channel).tally.issued = u.tally.issued := (count_same u Obj.dmaHalts 1).2.1
  generalize u.haltChannel j.engine j.channel = v at *
  have hv : v = { s with dict := v.dict, tally := v.tally, eng := { s.eng with lanes := v.eng.lanes, halted := v.eng.halted } } := by rw [hchan, hrest]
  have hends : v.EndsOthers t id := ht ▸ haltBehind_endsOthers (by rw [hv]; exact hover)
  refine ⟨?_, ?_, ?_, ?_, ?_, ?_⟩
  · rw [num_congr (hends.objects _ (by decide)), hkeeps, herrors]
  · rw [num_congr (hends.objects _ (by decide)), hcount]
    unfold State.counted
    rw [hhalts]
  · rw [hends.rest]
    exact hhalted
  · rw [hends.issued, hsame]
    exact hissued
  · rw [hends.job, hv]
    rfl
  · rw [hends.rest, hv]

end

/-! ### The list with its last beat, complete -/

theorem dmaAccess_ne_ecc {s : State} {a e : Nat} (h : s.dmaAccess a = some e) : e ≠ eEcc := by
  rintro rfl
  unfold State.dmaAccess at h
  dsimp only at h
  split at h
  · split at h <;> simp [eAddress, eEcc] at h
  · split at h
    · split at h
      · simp [eAddress, eEcc] at h
      · split at h <;> simp [eGated, eEcc] at h
    · split at h <;> simp [eAddress, eEcc] at h

/-- Without an error of the memory no beat fails with ECC. -/
theorem beatError_ne_ecc {s : State} {trigger a b e f : Nat} (h : s.beatError trigger a b false = some (e, f)) : e ≠ eEcc := by
  unfold State.beatError at h
  split at h
  · rename_i x hx
    cases h
    exact dmaAccess_ne_ecc hx
  · rw [Bool.false_and, if_neg Bool.false_ne_true] at h
    split at h
    · rename_i x hx
      cases h
      exact dmaAccess_ne_ecc hx
    · split at h
      · cases h
        decide
      · exact absurd h (by simp)

section

variable {s u : State} {j j' : DmaJob}

theorem setJob_over {id : Nat} (hid : j'.id = id) (hover : j'.over = true) : ∀ x ∈ (s.setJob j').eng.jobs, x.id = id → x.over = true := by
  intro x hx he
  obtain ⟨y, -, rfl⟩ := List.mem_map.1 hx
  split at he
  · rename_i h
    rw [if_pos h]
    exact hover
  · rename_i h
    exact absurd (he.trans hid.symm) h

theorem ended_over (slot : Nat) (r : DescResult) (halted : Bool) : (j.ended slot r halted).over = true := by
  simp [DmaJob.ended, DmaJob.over]

/-- A completed list stands completed. -/
theorem job_listEnded (hland : u.eng.landing = []) (hj : u.job? j'.id = some j') :
    (u.listEnded j').job? j'.id = some { j' with written := j'.results.length, complete := true } := by
  obtain ⟨hjobs, -⟩ := listEnded_effect (s := u) (j := j') (by simp [hland])
  have hset := job_setJob_self u { j' with written := j'.results.length, complete := true } hj
  unfold State.job? at hset ⊢
  rw [hjobs]
  exact hset

end

end Sys2Proof.Machine
end

section

namespace Sys2Proof.Machine

/-! ### The last beat of a list moves or fails (R460 to R464) -/

section

variable {s : State} {list : BitVec 16} {j : DmaJob} {d : Descriptor} {slot rel a b : Nat}

theorem queueHolds_congr {t : State} (h : t.warp = s.warp) (e c x : Nat) : t.queueHolds e c x = s.queueHolds e c x := by
  unfold State.queueHolds State.sections
  rw [h]

/-- What the last beat has left stands as the list completes; of the Store its channel's queue alone moves. -/
theorem dmaListComplete_behind {j' : DmaJob} (hf : s.eng.jobs.find? (fun j => decide (j.list = list.toNat) && j.started && !j.complete) = some j)
    (hj : s.job? j.id = some j) (hleft : j.left = [d]) (hbeat : j.beat < beatsOf d) (hnext : s.nextBeat j.engine = some (slot, j)) (hslot : slot < 200000)
    (hj' : (s.beat slot j).job? j.id = some j') (hid : j'.id = j.id) (hover : j'.over = true) (hland : (s.beat slot j).eng.landing = []) :
    ∃ t, exec (.dmaListComplete list) s = .next t ∧ t.job? j.id = some { j' with written := j'.results.length, complete := true } ∧
      (∀ x, ¬(s.beat slot j).queueHolds j'.engine j'.channel x → Mem.get t.store x = Mem.get (s.beat slot j).store x) ∧
      t = { s.beat slot j with store := t.store, eng := { (s.beat slot j).eng with
        jobs := t.eng.jobs, lines := t.eng.lines, lanes := t.eng.lanes, undo := t.eng.undo } } := by
  refine ⟨_, dmaListComplete_lastBeat hf hj hleft hbeat hnext hslot hj' hover, ?_⟩
  generalize s.beat slot j = w at *
  obtain ⟨-, -, -, hqueue, hrest⟩ := listEnded_effect (s := w) (j := j') (by simp [hland])
  exact ⟨hid ▸ job_listEnded hland (hid.symm ▸ hj'), hqueue, hrest⟩

variable (hj : s.job? j.id = some j) (hleft : j.left = [d]) (hfaults : j.faults = []) (hland : s.eng.landing = [])
  (hrel : rel = if j.lane.isSome then j.relocate else 0) (ha : a = relocated rel d.src + 32 * j.beat) (hb : b = relocated rel d.dst + 32 * j.beat)

include hj hleft hfaults hland hrel ha hb

/-- The last beat of a list's last descriptor leaves its bytes at their destination, and DONE with all the bytes of the descriptor. -/
theorem beat_done_effect (herr : s.beatError j.trigger a b false = none) (hlast : j.beat + 1 = beatsOf d) (hsrc : dmaSpace a ≠ 2)
    (hweft : s.standbyWeft a b = false) (hheld : s.stagingHeld j.list = false) {data : Bytes}
    (hdata : data = s.dmaRead a (min 32 (d.length - 32 * j.beat))) {w : State} (hw : w = s.beat slot j) :
    w.job? j.id = some (j.ended slot (j.doneRecord d) false) ∧ w.eng.landing = [] ∧ w.warp = s.warp ∧
      (dmaSpace b = 1 → w.window = Mem.write s.window (b % 2 ^ 28) data) ∧ (dmaSpace b = 2 → w.dram = Mem.write s.dram (b % 2 ^ 28) data) ∧
      (dmaSpace b = 0 → w.store = Mem.write s.store (b % 2 ^ 28) data) ∧
      w = { s with store := w.store, dram := w.dram, window := w.window, eng := w.eng } := by
  obtain ⟨n, hbeat⟩ := beat_done (slot := slot) hleft hfaults hland hrel ha hb herr hlast hsrc hweft hheld
  rw [hbeat, ← hdata] at hw
  have hpass := passTo_rest s j.engine (slot + 1)
  generalize s.passTo j.engine (slot + 1) = u at *
  have hwrite := dmaWrite_rest u j b data
  have hstore := dmaWrite_store u j b data
  have hwindow := dmaWrite_window u j b data
  have hdram := dmaWrite_dram u j b data
  generalize u.dmaWrite j.lane.isSome false b data = v at *
  have hv : v = { s with store := v.store, dram := v.dram, window := v.window, eng := v.eng } := by rw [hwrite, hpass]
  have hveng : v.eng.jobs = s.eng.jobs ∧ v.eng.landing = s.eng.landing := by rw [hwrite, hpass]; exact ⟨rfl, rfl⟩
  obtain ⟨hvjobs, hvland⟩ := hveng
  have humem : u.store = s.store ∧ u.dram = s.dram ∧ u.window = s.window := by rw [hpass]; exact ⟨rfl, rfl, rfl⟩
  obtain ⟨hus, hud, huw⟩ := humem
  have hwmem : w.store = v.store ∧ w.dram = v.dram ∧ w.window = v.window := by rw [hw]; exact ⟨rfl, rfl, rfl⟩
  obtain ⟨hws, hwd, hww⟩ := hwmem
  refine ⟨?_, ?_, ?_, fun h => ?_, fun h => ?_, fun h => ?_, ?_⟩
  · rw [hw]
    refine job_setJob_self (j := j.ended slot (j.doneRecord d) false) _ (x := j) ?_
    unfold State.job? at hj ⊢
    rw [← hj, ← hvjobs]
    rfl
  · rw [hw]
    exact hvland.trans hland
  · rw [hw]
    show v.warp = _
    rw [hv]
  · rw [hww, hwindow h, huw]
  · rw [hwd, hdram h, hud]
  · rw [hws, hstore h, hus]
  · rw [hw]
    show State.setJob (v.channelFree j n) _ = { s with store := v.store, dram := v.dram, window := v.window, eng := _ }
    conv_lhs => rw [hv]
    rfl

/-- A beat that fails without CONTINUE_ON_ERROR leaves ERR, and halts its channel. -/
theorem beat_failed_effect {e f : Nat} (herr : s.beatError j.trigger a b false = some (e, f)) (hcont : bit d.flags 1 = false) {w : State}
    (hw : w = s.beat slot j) :
    w.job? j.id = some (j.ended slot (j.errRecord d e f) true) ∧ w.eng.landing = [] ∧ w.isHalted j.engine j.channel = true ∧
      w.num Obj.dmaErrors = s.counted Obj.dmaErrors 1 ∧ w.num Obj.dmaHalts = s.counted Obj.dmaHalts 1 ∧
      (∃ r ∈ w.tally.issued, r.code = 0x0303 ∧
        r.params = [j.list * 65536 + j.results.length, e + j.engine * 256 + j.channel * 1024, f, low32 s.tick]) ∧
      w = { s with dict := w.dict, tally := w.tally, eng := w.eng } := by
  obtain ⟨n, hbeat⟩ := beat_failed (slot := slot) hleft hfaults hland hrel ha hb herr hcont
  rw [hbeat] at hw
  have hpass := passTo_rest s j.engine (slot + 1)
  generalize s.passTo j.engine (slot + 1) = u at *
  obtain ⟨v, hv⟩ : ∃ v, v = (u.channelFree j n).setJob (j.ended slot (j.errRecord d e f) true) := ⟨_, rfl⟩
  rw [← hv] at hw
  have hover : ∀ x ∈ v.eng.jobs, x.id = j.id → x.over = true := by
    rw [hv]
    exact setJob_over (j' := j.ended slot (j.errRecord d e f) true) rfl (ended_over ..)
  have hvjob : v.job? j.id = some (j.ended slot (j.errRecord d e f) true) := by
    rw [hv]
    refine job_setJob_self (j := j.ended slot (j.errRecord d e f) true) _ (x := j) ?_
    rw [hpass]
    exact hj
  have hvrest : v = { s with eng := v.eng } := by
    rw [hv, hpass]
    rfl
  have hvland : v.eng.landing = [] := by
    rw [hv, hpass]
    exact hland
  clear hv
  have hdict : v.dict = s.dict := by rw [hvrest]
  have htick : v.tick = s.tick := by rw [hvrest]
  obtain ⟨herrors, hhalts, hhalted, hissued, hjob, hrest⟩ := descFailed_effect v (beatError_ne_ecc herr) hover hw
  refine ⟨hjob.trans hvjob, ?_, hhalted, herrors.trans (counted_of_dict hdict _ _), hhalts.trans (counted_of_dict hdict _ _), htick ▸ hissued, ?_⟩
  · rw [hrest]
    exact hvland
  · rw [hrest, hvrest]

end

end Sys2Proof.Machine
end

section

open Sys2Proof Sys2Proof.Machine

/-- Settles O57: a list that starts leaves an engine without other work idle; its last beat is all that is left to move as it completes. -/
theorem dmaListsStart : Obligations.DmaListsStart := by
  refine ⟨fun s list faults => ⟨fun h => h.elim dmaListStart_unknown dmaListStart_stopped, fun l hl he => ⟨dmaListStart_gated hl, fun h2 hd =>
    dmaListStart_undue hl (by omega) (.inl ⟨h2, hd⟩), fun ht hn => dmaListStart_undue hl ht (.inr hn), fun hg hn hd r hr =>
    ⟨dmaListStart_runs hl he hg hn hd hr, dmaListStart_discarded hl he hg hn hd hr⟩, fun hg h0 j hf =>
    ⟨dmaListStart_issued_runs hl he hg h0 hf, dmaListStart_issued_discarded hl he hg h0 hf⟩⟩⟩, ?_⟩
  intro s list j d slot hf hj hleft hbeat hnext hslot hfaults hland rel a b n seq
  refine ⟨fun herr hlast hsrc hweft hheld => ?_, fun e f herr hcont => ?_⟩
  · obtain ⟨data, hdata⟩ : ∃ data, data = s.dmaRead a n := ⟨_, rfl⟩
    have hlen : data.length = n := hdata ▸ dmaRead_length s a n
    obtain ⟨hjob, hl, hwarp, hwindow, hdram, hstore, hrest⟩ :=
      beat_done_effect (slot := slot) hj hleft hfaults hland rfl rfl rfl herr hlast hsrc hweft hheld hdata rfl
    obtain ⟨t, hexec, hjob', hqueue, htrest⟩ := dmaListComplete_behind hf hj hleft hbeat hnext hslot hjob rfl (ended_over ..) hl
    generalize s.beat slot j = w at *
    have htmem : t.window = w.window ∧ t.dram = w.dram := by rw [htrest]; exact ⟨rfl, rfl⟩
    refine ⟨t, _, hexec, hjob', rfl, rfl, rfl, fun h => ?_, fun h => ?_, fun h i hi hx => ?_, ?_⟩
    · rw [htmem.1, hwindow h, ← hdata, ← hlen, mem_read_write_self]
    · rw [htmem.2, hdram h, ← hdata, ← hlen, mem_read_write_self]
    · have hi' : i < data.length := hlen.symm ▸ hi
      rw [hqueue _ (by rw [queueHolds_congr hwarp]; exact hx), hstore h, mem_get_write_self _ hi', ← hdata]
      exact List.getElem?_eq_getElem hi'
    · rw [htrest, hrest]
  · obtain ⟨hjob, hl, hhalted, herrors, hhalts, hissued, hrest⟩ := beat_failed_effect (slot := slot) hj hleft hfaults hland rfl rfl rfl herr hcont rfl
    obtain ⟨t, hexec, hjob', hqueue, htrest⟩ := dmaListComplete_behind hf hj hleft hbeat hnext hslot hjob rfl (ended_over ..) hl
    generalize s.beat slot j = w at *
    have hwmem : w.store = s.store ∧ w.dram = s.dram ∧ w.window = s.window ∧ w.warp = s.warp := by rw [hrest]; exact ⟨rfl, rfl, rfl, rfl⟩
    obtain ⟨hws, hwd, hww, hwarp⟩ := hwmem
    have htmem : t.dict = w.dict ∧ t.tally = w.tally ∧ t.eng.halted = w.eng.halted ∧ t.dram = w.dram ∧ t.window = w.window := by
      rw [htrest]
      exact ⟨rfl, rfl, rfl, rfl, rfl⟩
    obtain ⟨htd, htt, hth, htdram, htwindow⟩ := htmem
    refine ⟨t, _, hexec, hjob', rfl, rfl, rfl, ?_, ?_, ?_, htdram.trans hwd, htwindow.trans hww, ?_, fun x hx => ?_⟩
    · unfold State.isHalted at hhalted ⊢
      rw [hth]
      exact hhalted
    · rw [num_of_dict htd, herrors]
    · rw [num_of_dict htd, hhalts]
    · rw [htt]
      exact hissued
    · rw [hqueue x (by rw [queueHolds_congr hwarp]; exact hx), hws]

end
